-- ==== Sys2Proof/Word.lean ====
section
/-!
DEFINITION. The word types of the AK960: registers are 32 bits wide (R5 ff. of 00_scope), memories are byte memories.
-/
namespace Sys2Proof

/-- A register word (00_scope: registers are 32 bits wide, little-endian). -/
abbrev Word := BitVec 32

/-- A byte of DRAM, of an MRAM image slot or of a frame. -/
abbrev Byte := BitVec 8

end Sys2Proof
end

