-- ==== Sys2Proof/Syntax.lean ====
section
/-!
DEFINITION. The commands of the AK960 model: one constructor of `Instr` per row of spec/opcode_table.json, with the row's
operands.  A host write carries the interface, the index of the register where the row has several, and the word; a host
read carries the interface; a received frame or a measured quantity is an operand; an event of one of the module's own
sequencers names the part it concerns.
-/
namespace Sys2Proof

/-- The two host interfaces (21). -/
inductive Iface where
  | pcie | spi
  deriving DecidableEq, Repr

/-- Where the voltage at a field input pin lies against the two thresholds of R687. -/
inductive PinZone where
  | below | between | above
  deriving DecidableEq, Repr

/-- How a PTP message travels (R88): Layer-2 Ethernet, UDP over IPv4, or UDP over IPv6. -/
inductive PtpVia where
  | l2 | udp4 | udp6
  deriving DecidableEq, Repr

/-- What a PTP message carries beside its quantities (R88, R92): domain, the sender's clockIdentity and port number, the clockIdentity
and port number of the port whose request it answers, how it travels, its C37.238 profile TLV. -/
structure PtpHdr where
  domain : Nat
  clock : Nat
  port : Nat
  reqClock : Nat
  reqPort : Nat
  via : PtpVia
  tlv : Bool
  deriving DecidableEq, Repr

/-- PTP message types of R88. -/
inductive PtpKind where
  | sync | followUp | announce | delayReq | delayResp | pdelayReq | pdelayResp | pdelayRespFollowUp | management | other
  deriving DecidableEq, Repr

/-- The dataset an Announce carries for the BMCA (R90). -/
structure PtpDataset where
  prio1 : Nat
  cls : Nat
  acc : Nat
  var : Nat
  prio2 : Nat
  gm : Nat
  steps : Nat
  deriving DecidableEq, Repr

/-- A received PTP message: type, header, sequence number, two-step flag, the time it carries and the correction (2^−16 ns), the raw
ingress stamp (2^−16 ns), logMessageInterval, an Announce's dataset, whether it takes part in unicast negotiation. -/
structure PtpMsg where
  kind : PtpKind
  hdr : PtpHdr
  seqId : Nat
  twoStep : Bool
  origin : Nat
  correction : Int
  raw : Nat
  log : Int
  dataset : PtpDataset
  unicast : Bool
  deriving DecidableEq, Repr

/-- A GOOSE frame received (R503): the subscription its APPID and gocbRef name, and what it carries. -/
structure GooseFrame where
  sub : Nat
  confRev : Nat
  simulation : Bool
  stNum : Nat
  sqNum : Nat
  ttl : Nat
  members : Nat
  deriving DecidableEq, Repr

/-- One value of a sampled-value sample (R508). -/
structure SvValue where
  value : Int
  invalid : Bool
  overflow : Bool
  test : Bool
  deriving DecidableEq, Repr

/-- A sampled-value frame received: stream, smpSynch, and per sample its smpCnt and eight values. -/
structure SvFrame where
  stream : Nat
  smpSynch : Nat
  samples : List (Nat × List SvValue)
  deriving DecidableEq, Repr

/-- A set item of a ring block (R459). -/
structure SetItem where
  ofs : Nat
  width : Nat
  tag : Nat
  mask : Nat
  value : Nat
  deriving DecidableEq, Repr

/-- The request part of a station's block. -/
structure RingReq where
  stn : Nat
  hold : Bool
  out : List Byte
  items : List SetItem
  deriving DecidableEq, Repr

/-- The answer part of a station's block. -/
structure RingAns where
  stn : Nat
  seen : Bool
  safe : Bool
  turn : Bool
  applyFail : Bool
  missed : Bool
  ack : Nat
  stamp : Nat
  input : List Byte
  deriving DecidableEq, Repr

/-- One SCAN record (R460). -/
structure ScanRec where
  index : Nat
  claimed : Bool
  enabled : Bool
  outLen : Nat
  inLen : Nat
  link : Nat
  deriving DecidableEq, Repr

/-- A ring frame as it travels (R457–R460): source address and EtherType, TYPE (0 CYCLIC, 1 SCAN) and the other header fields,
blocks, answers; in a SCAN frame the base period in fc, the FLT_ORIGIN time word and the records. -/
structure RingFrame where
  src : Nat
  etype : Nat
  ty : Nat
  line : Bool
  turned : Bool
  holdAll : Bool
  commit : Nat
  cycle : Nat
  applyDelta : Nat
  corr : Nat
  reqs : List RingReq
  answers : List RingAns
  period : Nat
  origin : Nat
  recs : List ScanRec
  deriving DecidableEq, Repr

/-- A SCAN frame. -/
def RingFrame.scan (f : RingFrame) : Bool := f.ty == 1

/-- A mirrored course as the COPY frame carries it (R612). -/
structure CourseCopy where
  seq : Nat
  hdr : Word
  tgt0 : Word
  tgt1 : Word
  tgt2 : Word
  dl : Word
  acts : List (Word × Word × Word)
  entries : List (Nat × Nat)
  deriving DecidableEq, Repr

/-- The heartbeat body of R613. -/
structure Heartbeat where
  tw : Nat
  stamp : Nat
  state : Nat
  role : Nat
  side : Nat
  profile : Nat
  refiring : Bool
  ringMaster : Bool
  epoch : Nat
  tripf : Nat
  cycle : Nat
  deriving DecidableEq, Repr

/-- The frames of the wythe link (R612). -/
inductive WFrame where
  | heartbeat (h : Heartbeat)
  | copy (c : CourseCopy)
  | answer (seq status : Nat)
  | cancel (seq : Nat)
  | outcome (seq status : Nat)
  | compare (record : List Byte)
  | refire (slot stamp tr : Nat)
  deriving DecidableEq, Repr

/-- Frames sent on P0–P3. -/
inductive TxFrame where
  | goose (k stNum sqNum t quality ttl members stamp : Nat)
  | sv (k : Nat) (smpCnts : List Nat) (smpSynch : Nat) (values : List (Int × Nat))
  | ptp (kind : PtpKind) (hdr : PtpHdr) (seqId origin : Nat) (correction : Int) (dataset : PtpDataset)
  | prpSupervision
  | host (bytes : List Byte)
  | forward (bytes : List Byte)
  | ring (f : RingFrame)
  deriving DecidableEq, Repr

/-- A DMA descriptor in host memory (R659) as read at HEAD, with the bytes the host side supplies: the source bytes of a
transfer towards the module or of a frame to send; `hostErr`: the bus reported an error. -/
structure Descriptor where
  ctl : Word
  host : Nat
  modul : Word
  data : List Byte
  hostErr : Bool
  deriving DecidableEq, Repr

/-- The commands, one per row of the table. -/
inductive Instr where
  /-- REGISTER_WRITE, R644. -/
  | registerWrite (ifc : Iface) (off : Nat) (v : Word) (be : BitVec 4)
  /-- SNAPSHOT_READ, R649. -/
  | snapshotRead (ifc : Iface) (off : Nat) (n : Nat)
  /-- SEAL_FIELD_WRITE, R9. -/
  | sealFieldWrite (ifc : Iface) (off : Nat) (v : Word)
  /-- TRACKER_UPDATE, R48: nothing comes with it, the references are outputs of the filter unit (R43). -/
  | trackerUpdate (pri alt : Unit)
  /-- ANG_HOLD_FORCE_WRITE, R53. -/
  | angHoldForceWrite (ifc : Iface) (v : Word)
  /-- ANG_REFERENCE_WRITE, R47. -/
  | angReferenceWrite (ifc : Iface) (alt : Bool) (v : Word)
  /-- ANG_ALT_OFS_WRITE, R47. -/
  | angAltOfsWrite (ifc : Iface) (v : Word)
  /-- GRID_SAMPLE, R58. -/
  | gridSample (g : Nat)
  /-- TBU_INC_WRITE, R85. -/
  | tbuIncWrite (ifc : Iface) (v : Word)
  /-- TBU_STEP, R77. -/
  | tbuStep (ifc : Iface) (v : Word)
  /-- TBU_REEPOCH, R82. -/
  | tbuReepoch (ifc : Iface) (v : Word)
  /-- TBU_ASYM_ACK, R101. -/
  | tbuAsymAck (ifc : Iface) (v : Word)
  /-- TBU_SRC_WRITE, R86. -/
  | tbuSrcWrite (ifc : Iface) (v : Word)
  /-- TBU_PROF_WRITE, R89. -/
  | tbuProfWrite (ifc : Iface) (v : Word)
  /-- PTP_MESSAGE_RX, R88. -/
  | ptpMessageRx (port : Nat) (msg : PtpMsg)
  /-- PATH_STABLE_TIMEOUT, R101. -/
  | pathStableTimeout (port : Nat)
  /-- HOLDOVER_ENTRY_TIMEOUT, R87. -/
  | holdoverEntryTimeout
  /-- ANNOUNCE_RECEIPT_TIMEOUT, R90. -/
  | announceReceiptTimeout (port : Nat)
  /-- PTP_MESSAGE_TX, R88. -/
  | ptpMessageTx (port : Nat) (kind : PtpKind)
  /-- PPS_IN_EDGE, R108. -/
  | ppsInEdge
  /-- PPS_OUT_PULSE, R107. -/
  | ppsOutPulse
  /-- PPS_OUT_WIDTH_END, R107. -/
  | ppsOutWidthEnd
  /-- TXQ_ID_READ, R104. -/
  | txqIdRead (ifc : Iface) (port : Nat)
  /-- KLN_STORE, R126. -/
  | klnStore (ifc : Iface) (v : Word)
  /-- KLN_STORE_DONE, R127. -/
  | klnStoreDone
  /-- KLN_REFIRE, R130. -/
  | klnRefire (ifc : Iface) (v : Word)
  /-- REFIRE_ACCEPTED, R134. -/
  | refireAccepted
  /-- KLN_PATCH, R140. -/
  | klnPatch (ifc : Iface) (v : Word)
  /-- KLN_JCLEAR, R145. -/
  | klnJclear (ifc : Iface) (v : Word)
  /-- KLN_REVOKE, R147. -/
  | klnRevoke (ifc : Iface) (v : Word)
  /-- KLN_INVALIDATE, R129. -/
  | klnInvalidate (ifc : Iface) (v : Word)
  /-- CRS_ARM, R164. -/
  | crsArm (ifc : Iface) (v : Word)
  /-- CRS_ABORT, R169. -/
  | crsAbort (ifc : Iface) (v : Word)
  /-- COURSE_SET, R159. -/
  | courseSet (n : Nat)
  /-- STANDING_COURSE_SET, R173. -/
  | standingCourseSet (n : Nat)
  /-- COURSE_SLOT_RELEASE, R151. -/
  | courseSlotRelease (n : Nat)
  /-- STANDING_COURSE_REARM, R173. -/
  | standingCourseRearm (n : Nat)
  /-- COURSE_DEADLINE, R168. -/
  | courseDeadline (n : Nat)
  /-- W_COPY_RX, R180. -/
  | wCopyRx (c : CourseCopy)
  /-- W_ANSWER_RX, R180. -/
  | wAnswerRx (seq status : Nat)
  /-- MIRROR_ANSWER_TIMEOUT, R180. -/
  | mirrorAnswerTimeout (n : Nat)
  /-- W_CANCEL_RX, R623. -/
  | wCancelRx (seq : Nat)
  /-- W_OUTCOME_RX, R181. -/
  | wOutcomeRx (seq status : Nat)
  /-- CONVERTER_RESULT, R191. -/
  | converterResult (n rA rB rS : Nat) (half : Bool) (age : Nat)
  /-- MATCH_WINDOW_CLOSE, R195. -/
  | matchWindowClose (n : Nat)
  /-- REPOINT_STEP_START, R203. -/
  | repointStepStart (g : Nat)
  /-- REPOINT_MISMATCH, R206. -/
  | repointMismatch (g : Nat)
  /-- REPOINT_ABANDON, R205. -/
  | repointAbandon (g : Nat)
  /-- SUBSTITUTION_COURSE, R208. -/
  | substitutionCourse (g : Nat)
  /-- REPOINT_FADE_END, R210. -/
  | repointFadeEnd (g : Nat)
  /-- CONVERTER_CALIB_DONE, R213. -/
  | converterCalibDone (g v : Nat) (ofs : Int) (gain resid : Nat)
  /-- AGE_LIMIT, R215. -/
  | ageLimit (g : Nat)
  /-- AFE_OOS_WRITE, R218. -/
  | afeOosWrite (ifc : Iface) (n : Nat) (v : Word)
  /-- CHANNEL_OUT_OF_SERVICE, R218. -/
  | channelOutOfService (n : Nat)
  /-- CHANNEL_RETURN_TO_SERVICE, R220. -/
  | channelReturnToService (n : Nat)
  /-- PROOF_START, R222. -/
  | proofStart (ifc : Iface) (g : Nat) (v : Word)
  /-- PROOF_DAC_GRANT, R217. -/
  | proofDacGrant (g : Nat)
  /-- PROOF_TEST_DONE, R225. -/
  | proofTestDone (g : Nat) (val : Int)
  /-- HKC_SEL_WRITE, R232. -/
  | hkcSelWrite (ifc : Iface) (v : Word)
  /-- HKC_CONVERSION_START, R237. -/
  | hkcConversionStart
  /-- HKC_ENTRY_WRITE, R236. -/
  | hkcEntryWrite (codes : List Nat)
  /-- HKC_CAL_COMMAND, R239. -/
  | hkcCalCommand (ifc : Iface) (v : Word)
  /-- HKC_CAL_INTERVAL, R239. -/
  | hkcCalInterval
  /-- HKC_CAL_START, R240. -/
  | hkcCalStart
  /-- HKC_CAL_DONE, R242. -/
  | hkcCalDone (ofs : Int) (gain : Nat)
  /-- HKC_FLUSH, R247. -/
  | hkcFlush (ifc : Iface) (v : Word)
  /-- HKC_QUEUE_READ, R244. -/
  | hkcQueueRead (ifc : Iface)
  /-- STAGE_A_OUTPUT, R249. -/
  | stageAOutput
  /-- STAGE_B_OUTPUT, R255. -/
  | stageBOutput (p : Nat)
  /-- FLT_BANK_REQUEST, R263. -/
  | fltBankRequest (ifc : Iface) (p : Nat) (v : Word)
  /-- FLT_SYNC, R268. -/
  | fltSync (ifc : Iface) (v : Word)
  /-- PHASOR_UPDATE, R278. -/
  | phasorUpdate (f : Nat)
  /-- BF_INIT_WRITE, R331. -/
  | bfInitWrite (ifc : Iface) (f : Nat) (v : Word)
  /-- BF_T1_EXPIRY, R329. -/
  | bfT1Expiry (f : Nat)
  /-- BF_T2_EXPIRY, R330. -/
  | bfT2Expiry (f : Nat)
  /-- TRIP_HOLD_END, R325. -/
  | tripHoldEnd (n : Nat)
  /-- POW_TIMEOUT, R334. -/
  | powTimeout (f : Nat) (open_ : Bool)
  /-- POW_TARGET_ARM, R337. -/
  | powTargetArm (ifc : Iface) (f : Nat) (v : Word)
  /-- ACQ_ITEM_EVALUATE, R340. -/
  | acqItemEvaluate (starved : Nat)
  /-- TRIGGER_TIMEOUT, R348. -/
  | triggerTimeout (n : Nat)
  /-- CAPTURE_RECORD_END, R357. -/
  | captureRecordEnd (j : Nat)
  /-- ACQ_ARM, R356. -/
  | acqArm (ifc : Iface) (v : Word)
  /-- ACQ_STOP, R362. -/
  | acqStop (ifc : Iface) (v : Word)
  /-- ACQ_FORCE, R350. -/
  | acqForce (ifc : Iface) (v : Word)
  /-- ACQ_RELEASE, R358. -/
  | acqRelease (ifc : Iface) (j : Nat) (v : Word)
  /-- ACQ_RDPTR_WRITE, R361. -/
  | acqRdptrWrite (ifc : Iface) (j : Nat) (v : Word)
  /-- TRIGGER_BUS_ASSERT, R368. -/
  | triggerBusAssert (l : Nat)
  /-- TRIGGER_BUS_RELEASE, R368. -/
  | triggerBusRelease (l : Nat)
  /-- TRIGGER_BUS_EDGE, R370. -/
  | triggerBusEdge (l : Nat)
  /-- TRC_TIMEOUT, R371. -/
  | trcTimeout
  /-- METER_WINDOW_CLOSE, R380. -/
  | meterWindowClose (f : Nat)
  /-- METER_GAP, R381. -/
  | meterGap (f : Nat)
  /-- COMMIT_COURSE_PREPARE, R392. -/
  | commitCoursePrepare
  /-- MTR_COMMIT, R393. -/
  | mtrCommit (ifc : Iface) (v : Word)
  /-- COMMIT_WRITE_DONE, R396. -/
  | commitWriteDone
  /-- SEAL_OPEN, R404. -/
  | sealOpen
  /-- SEAL_CLOSE, R404. -/
  | sealClose
  /-- TAMPER, R404. -/
  | tamper
  /-- AUDIT_RECORD_READ, R411. -/
  | auditRecordRead (ifc : Iface)
  /-- AUDIT_ACK, R412. -/
  | auditAck (ifc : Iface) (v : Word)
  /-- MTR_PRESET, R413. -/
  | mtrPreset (ifc : Iface) (v : Word)
  /-- MTR_ACCEPT, R413. -/
  | mtrAccept (ifc : Iface) (v : Word)
  /-- TASK_SYNC, R419. -/
  | taskSync (c : Nat) (scans : List (Nat × Bool))
  /-- TASK_EXECUTION_COMPLETE, R421. -/
  | taskExecutionComplete (c : Nat) (data : List (Nat × List Byte)) (outs : List (List Nat))
  /-- TASK_OVERRUN, R424. -/
  | taskOverrun (c : Nat)
  /-- TASK_FAULT, R426. -/
  | taskFault (c : Nat)
  /-- BLK_STORE, R430. -/
  | blkStore (ifc : Iface) (v : Word)
  /-- BLK_STORE_DONE, R430. -/
  | blkStoreDone
  /-- BLK_INVALIDATE, R431. -/
  | blkInvalidate (ifc : Iface) (v : Word)
  /-- BLK_START, R435. -/
  | blkStart (ifc : Iface) (c : Nat) (v : Word)
  /-- BLK_STOP, R435. -/
  | blkStop (ifc : Iface) (c : Nat) (v : Word)
  /-- BLK_LOAD, R447. -/
  | blkLoad (ifc : Iface) (c : Nat) (v : Word)
  /-- BLK_LOAD_DONE, R447. -/
  | blkLoadDone (c : Nat)
  /-- BLK_EXCH, R448. -/
  | blkExch (ifc : Iface) (c : Nat) (v : Word)
  /-- BLK_VPATCH, R442. -/
  | blkVpatch (ifc : Iface) (c : Nat) (v : Word)
  /-- EXCH_COPY_DONE, R449. -/
  | exchCopyDone (c : Nat)
  /-- RING_FRAME_DEPART, R461. -/
  | ringFrameDepart
  /-- RING_FRAME_RETURN, R464. -/
  | ringFrameReturn (port : Nat) (f : RingFrame)
  /-- RING_CYCLE_DEADLINE, R480. -/
  | ringCycleDeadline
  /-- YUL_RESTART, R455. -/
  | yulRestart (ifc : Iface) (v : Word)
  /-- YUL_STATION_OVERRIDE, R483. -/
  | yulStationOverride (ifc : Iface) (stn : Nat) (v : Word)
  /-- STATION_FRAME_RX, R468. -/
  | stationFrameRx (port rx : Nat) (f : RingFrame)
  /-- STATION_APPLY_INSTANT, R469. -/
  | stationApplyInstant
  /-- STATION_WATCHDOG_EXPIRY, R488. -/
  | stationWatchdogExpiry
  /-- SHADOW_RING_FRAME_RX, R619. -/
  | shadowRingFrameRx (port : Nat) (f : RingFrame)
  /-- SHADOW_BASE_INSTANT, R619. -/
  | shadowBaseInstant
  /-- GOOSE_FRAME_RX, R503. -/
  | gooseFrameRx (port : Nat) (g : GooseFrame) (raw : Nat) (bytes : List Byte) (tag : Option (Nat × Nat)) (d : Descriptor)
  /-- SV_FRAME_RX, R508. -/
  | svFrameRx (port : Nat) (f : SvFrame) (tag : Option (Nat × Nat))
  /-- HOST_FRAME_RX, R510. -/
  | hostFrameRx (port dst : Nat) (always : Bool) (raw : Nat) (bytes : List Byte) (tag : Option (Nat × Nat)) (d : Descriptor)
  /-- HSR_FRAME_FORWARD, R496. -/
  | hsrFrameForward (port src : Nat) (bytes : List Byte)
  /-- UNMATCHED_FRAME_RX, R493. -/
  | unmatchedFrameRx (port : Nat) (tag : Option (Nat × Nat))
  /-- GOOSE_TIMEOUT, R504. -/
  | gooseTimeout (k : Nat)
  /-- GOOSE_RETRANSMIT, R501. -/
  | gooseRetransmit (k : Nat)
  /-- SV_PUBLISH, R506. -/
  | svPublish (k : Nat)
  /-- SV_SAMPLE_DEADLINE, R508. -/
  | svSampleDeadline (k : Nat)
  /-- PRP_SUPERVISION_TX, R494. -/
  | prpSupervisionTx
  /-- PRP_ENTRY_FORGET, R495. -/
  | prpEntryForget
  /-- LINK_DOWN, R492. -/
  | linkDown (p : Nat)
  /-- LINK_UP, R492. -/
  | linkUp (p : Nat)
  /-- HOST_FRAME_TRANSMIT, R511. -/
  | hostFrameTransmit (d : Descriptor)
  /-- EVENT_INTAKE, R517. -/
  | eventIntake
  /-- EVT_WINDOW_START, R525. -/
  | evtWindowStart
  /-- HOST_QUEUE_READ, R528. -/
  | hostQueueRead (ifc : Iface)
  /-- SOE_READ, R531. -/
  | soeRead (ifc : Iface) (v : Word)
  /-- SOE_DUMP, R531. -/
  | soeDump (ifc : Iface) (v : Word)
  /-- SOE_DUMP_DONE, R531. -/
  | soeDumpDone
  /-- SOE_ARCH0, R531. -/
  | soeArch0 (ifc : Iface) (v : Word)
  /-- DIO_PIN_TRANSITION, R687. -/
  | dioPinTransition (n : Nat) (zone : PinZone)
  /-- DIO_INPUT_TICK, R540. -/
  | dioInputTick (n : Nat)
  /-- DIO_FREQ_GATE_END, R546. -/
  | dioFreqGateEnd (n : Nat)
  /-- DIO_FREQ_TIMEOUT, R546. -/
  | dioFreqTimeout (n : Nat)
  /-- FIELD_SUPPLY_LOW, R549. -/
  | fieldSupplyLow (g mv : Nat)
  /-- FIELD_SUPPLY_RECOVER, R549. -/
  | fieldSupplyRecover (g : Nat)
  /-- FIELD_SUPPLY_MISSING, R551. -/
  | fieldSupplyMissing (g : Nat)
  /-- FIELD_SUPPLY_RESTORING, R550. -/
  | fieldSupplyRestoring (g : Nat)
  /-- RESTORE_SLOT, R550. -/
  | restoreSlot (g : Nat)
  /-- FIELD_SUPPLY_HIGH, R549. -/
  | fieldSupplyHigh (g : Nat) (high : Bool)
  /-- DIO_OVERLOAD, R553. -/
  | dioOverload (n : Nat)
  /-- DIO_OVERLOAD_RETRY, R548. -/
  | dioOverloadRetry (n : Nat) (persists : Bool)
  /-- DIO_OPEN, R553. -/
  | dioOpen (n : Nat)
  /-- DIO_OPEN_CLEAR, R553. -/
  | dioOpenClear (n : Nat)
  /-- DIO_OVERTEMP, R553. -/
  | dioOvertemp (n : Nat)
  /-- DIO_OVERTEMP_CLEAR, R553. -/
  | dioOvertempClear (n : Nat)
  /-- DIO_EXT_DRIVE, R553. -/
  | dioExtDrive (n : Nat)
  /-- DIO_EXT_DRIVE_CLEAR, R553. -/
  | dioExtDriveClear (n : Nat)
  /-- DIO_WATCHDOG_EXPIRY, R556. -/
  | dioWatchdogExpiry (g : Nat)
  /-- DIO_KICK, R555. -/
  | dioKick (ifc : Iface) (g : Nat) (v : Word)
  /-- DIO_REARM, R558. -/
  | dioRearm (ifc : Iface) (g : Nat) (v : Word)
  /-- AO_READBACK, R574. -/
  | aoReadback (n ua mv : Nat) (deg : Int)
  /-- AO_COMPLIANCE_SET, R566. -/
  | aoComplianceSet (n : Nat)
  /-- AO_COMPLIANCE_ALARM, R567. -/
  | aoComplianceAlarm (n : Nat)
  /-- AO_COMPLIANCE_CLEAR, R567. -/
  | aoComplianceClear (n : Nat)
  /-- AO_THERMAL_CUT, R569. -/
  | aoThermalCut (n : Nat) (deg : Int)
  /-- AO_THERMAL_FOLD, R569. -/
  | aoThermalFold (n : Nat) (deg : Int)
  /-- AO_THERMAL_NORMAL, R569. -/
  | aoThermalNormal (n : Nat) (deg : Int)
  /-- AO_VAO_LOW, R568. -/
  | aoVaoLow (low : Bool)
  /-- AO_WATCHDOG_EXPIRY, R571. -/
  | aoWatchdogExpiry
  /-- AO_KICK, R571. -/
  | aoKick (ifc : Iface) (v : Word)
  /-- AO_REARM, R572. -/
  | aoRearm (ifc : Iface) (v : Word)
  /-- AO_TRIM_CONTROL, R575. -/
  | aoTrimControl (ifc : Iface) (n : Nat) (v : Word)
  /-- AO_TRIM_MEASURE, R575. -/
  | aoTrimMeasure (ifc : Iface) (n point : Nat) (v : Word)
  /-- AO_TRIM_APPLY, R576. -/
  | aoTrimApply (ifc : Iface) (n : Nat) (v : Word)
  /-- VIN_GOOD, R580. -/
  | vinGood
  /-- VIN_LOST, R596. -/
  | vinLost (hold : Nat)
  /-- STAGGER_SLOT_START, R582. -/
  | staggerSlotStart (u : Nat)
  /-- UNIT_READY, R587. -/
  | unitReady (id : Nat) (cal : List (Int × Nat))
  /-- UNIT_START_FAIL, R585. -/
  | unitStartFail (id : Nat)
  /-- UNIT_ENABLE_WRITE, R588. -/
  | unitEnableWrite (ifc : Iface) (off : Nat) (v : Word)
  /-- UNIT_STOP_COMPLETE, R590. -/
  | unitStopComplete (id : Nat)
  /-- UNIT_START_AFTER_GAP, R591. -/
  | unitStartAfterGap (u : Nat)
  /-- RESET_N_PULSE, R592. -/
  | resetNPulse (lowUs : Nat)
  /-- PWR_WARM, R592. -/
  | pwrWarm (ifc : Iface) (v : Word)
  /-- PWR_COLD, R592. -/
  | pwrCold (ifc : Iface) (v : Word)
  /-- PWR_STANDBY, R607. -/
  | pwrStandby (ifc : Iface) (v : Word)
  /-- WARM_RESET_BEGIN, R594. -/
  | warmResetBegin
  /-- WARM_RESET_DONE, R592. -/
  | warmResetDone
  /-- GOVERNOR_SAMPLE, R596. -/
  | governorSample (hold : Nat)
  /-- END_SEQUENCE_COMPLETE, R603. -/
  | endSequenceComplete
  /-- GOVERNOR_CLOCK_CHANGE, R598. -/
  | governorClockChange
  /-- RIDE_THROUGH_END, R600. -/
  | rideThroughEnd
  /-- GOVERNOR_FORCE_WRITE, R601. -/
  | governorForceWrite (ifc : Iface) (v : Word)
  /-- WAKE, R607. -/
  | wake
  /-- RTC_SYNC, R605. -/
  | rtcSync
  /-- VBAT_MEASURE, R606. -/
  | vbatMeasure (mv : Nat)
  /-- HEARTBEAT_TX, R614. -/
  | heartbeatTx
  /-- HEARTBEAT_RX, R616. -/
  | heartbeatRx (h : Heartbeat)
  /-- HEARTBEAT_LOSS, R614. -/
  | heartbeatLoss
  /-- PAIR_WAIT_TIMEOUT, R616. -/
  | pairWaitTimeout
  /-- TRANSIT_TIMEOUT, R616. -/
  | transitTimeout
  /-- W_REFIRE_RX, R625. -/
  | wRefireRx (slot stamp tr : Nat)
  /-- PAIR_REFIRE_START, R625. -/
  | pairRefireStart
  /-- W_COMPARE_RX, R630. -/
  | wCompareRx (tw : Nat) (values : List Nat)
  /-- COMPARE_UNPAIRED, R629. -/
  | compareUnpaired
  /-- TRIP_DISAGREE_WINDOW, R627. -/
  | tripDisagreeWindow
  /-- WYT_REBASE, R630. -/
  | wytRebase (ifc : Iface) (v : Word)
  /-- W_UNKNOWN_FRAME_RX, R612. -/
  | wUnknownFrameRx
  /-- SPI_TRANSACTION, R639. -/
  | spiTransaction (hdr : Word) (data : List Word) (complete : Bool)
  /-- BAR2_WRITE, R653. -/
  | bar2Write (off : Nat) (bytes : List Byte)
  /-- ACCESS_LEVEL_REQUEST, R645. -/
  | accessLevelRequest (ifc : Iface) (v : Word)
  /-- ACCESS_DROP, R647. -/
  | accessDrop (ifc : Iface) (v : Word)
  /-- ACCESS_TIMEOUT, R647. -/
  | accessTimeout (ifc : Iface)
  /-- LOCKOUT_END, R646. -/
  | lockoutEnd (ifc : Iface)
  /-- VEOI_WRITE, R655. -/
  | veoiWrite (ifc : Iface) (v : Word)
  /-- MSIX_MESSAGE_SEND, R656. -/
  | msixMessageSend (vec : Nat)
  /-- DMA_TAIL_WRITE, R658. -/
  | dmaTailWrite (ifc : Iface) (c : Nat) (v : Word)
  /-- DMA_DESCRIPTOR_COMPLETE, R660. -/
  | dmaDescriptorComplete (c : Nat) (d : Descriptor)
  /-- DMA_STOP, R663. -/
  | dmaStop (ifc : Iface) (c : Nat) (v : Word)
  /-- PCIE_HOT_RESET, R637. -/
  | pcieHotReset
  /-- TRC_EDGE_RX, R371. -/
  | trcEdgeRx
  /-- HOLD_SAMPLE, R595. -/
  | holdSample (hold vin : Nat)
  deriving DecidableEq, Repr

end Sys2Proof
end

