-- ==== Sys2Proof/Config.lean ====
section
/-!
DEFINITION. What an implementation of the AK960 fixes and the spec does not state, and the free values of the model: every
constant here is opaque, so that no proof can lean on a value of it (assumption log 7, 8).
-/
namespace Sys2Proof.Config

/-- A value the spec leaves open in one step: the model applies it to the counter `freeCtr` of State (log 8). -/
opaque freeValue : Nat → Nat

/-- What one unit of a stream's sample counts in place of a channel's RATIO (ring streams 0x10000 + entry, sampled-value streams
0x20000 + number); no rule states it (log 16). -/
opaque streamRatio : Nat → Rat

/-- The sample that value v of a subscribed stream becomes, from its INT32 in primary units (R508 states no scale; log 16). -/
opaque svIn : Nat → Int → Int

/-- Whether a quotient that the spec does not say how to round is rounded up (log 9). -/
opaque roundUp : Int → Int → Bool

/-- The public key in an OTP slot (R114): the affine coordinates of its point, programmed at manufacture (log 10). -/
opaque otpKey : Nat → Nat × Nat

/-- SEC_DIGEST of a section of the factory image F, by SEC_ID; the spec does not give F's bytes (log 10). -/
opaque fDigest : Nat → BitVec 256

/-- IMAGE_DIGEST of the factory image F (log 10). -/
opaque fImageDigest : BitVec 256

/-- Whether F verifies (R125); F lies in boot ROM (log 10). -/
opaque fVerifies : Bool

/-- The reserved mortar lanes of R146 as a 128-bit map: the spec does not number them (log 10). -/
opaque reservedLanes : Nat

/-- Tile program records of a section of F (R146): tile number, declared load, lanes; the spec does not give them (log 10). -/
opaque fTiles : Nat → List (Nat × Nat × Nat)

/-- UNIT_VER.HWREV of a block, by its base offset (R641: fixed, no value given). -/
opaque hwRev : Nat → Nat

/-- UNIT_VER.SEC_FMT of a unit type: the highest section format version supported (R641: fixed, no value given). -/
opaque secFmt : Nat → Nat

/-- The value of an event that carries several quantities whose places in it no rule states (log 17): the quantities in. -/
opaque evValue : List Nat → Nat

/-- Unicast address of port p (0–3, 4 for W), assigned at manufacture (R684, R611), 48 bits. -/
opaque macAddr : Nat → Nat

/-- The tracker's own filter over the stage-A outputs of a reference (R43, R44): its state and the outputs of the channels named
(AI_A, or AI_A, AI_B, AI_C) in, its new state out.  Amplitude of the fundamental in 0.01 % of the nominal of channel AI_A; phase of
the fundamental (in mode 2 of the positive sequence, aligned to AI_A) at the pins now, 2^32 = one cycle, 0 the positive-going
zero crossing (R38), extrapolated with the frequency estimate over the time since the newest output's instant (2^−32 ns) and the
filter's own delay. The spec gives no coefficients (log 12). -/
opaque refFilter : List Int → List Int → List Int
opaque refAmp : Nat → List Int → Nat
opaque refPhase : List Int → Nat → Nat → Nat

/-- The tracker loop of R48–R50: loop bandwidth BW, frequency estimate (24 fraction bits) and phase error in; the new
frequency estimate out. The spec gives order, damping and figures, no gains (log 12). -/
opaque loopFreq : Nat → Nat → Int → Nat

/-- The loop's internal estimate of the reference's phase (R55): BW, last estimate, frequency, measured phase. -/
opaque loopPhase : Nat → Nat → Nat → Nat → Nat

/-- The servo of R86: filtered rate and increment from SBW, the last filtered rate and the offset in 2^−16 ns; the filters of
offset and mean path delay: last filtered value, new one; the step of a first lock from the measured offsets (R77). The spec
gives bandwidths and figures, no gains (log 12). -/
opaque servoRate : Nat → Nat → Int → Nat
opaque servoInc : Nat → Nat → Int → Nat
opaque ofsFilter : Int → Int → Int
opaque mpdFilter : Int → Int → Int
opaque lockStep : List Int → Int

/-- Residence time, in 2^−16 ns, of a frame a transparent clock forwards or a delay request answers (log 20). -/
opaque residence : Nat → Int

/-- What a register shows of a number it has no room for, where no rule says (log 17). -/
opaque overflow : Int → Nat

/-- The angle word that the argument of 0 shows: no rule states one (log 15). -/
opaque argZero : Nat

/-- What an IEEE 754 single with all exponent bits set stands for where a number is needed. -/
opaque f32Special : Nat → Rat

/-- The 8-tap interpolator of R59: the 4 samples before and the 4 after the crossing, and where in between it lies. -/
opaque interp : List Int → Rat → Int

/-- Stage A of R249, R250: the output from the input samples of its span, each with its instant from the output's (2^−32 ns);
the spec gives the response, no coefficients. -/
opaque stageA : List (Int × Int) → Int

/-- The 4-tap fractional-delay filter of R194: the last four codes of converter B, newest first, and the skew in ps. -/
opaque skewFir : List Int → Int → Int

/-- The lane allocation table of the KLN section (R132): its body and a SEC_ID in, the lanes of that section as a 128-bit map
out; the spec gives the table no format. -/
opaque lanesOf : List (BitVec 8) → Nat → Nat

/-- The actions of the standing course that a PRT section's body defines, as their three words (R172, R321); the spec gives
the record no format. -/
opaque standingActs : List (BitVec 8) → List (Nat × Nat × Nat)

/-- The digest that an HST section's body gives for level operate (1) or engineer (2), 256 bits, or none (R645, R682); the spec
gives the record no format. -/
opaque accDigest : List (BitVec 8) → Nat → Option Nat

/-- The I/O map of a program image (R428): its body in; per output course whether it is a set-mode ring course and the first
two words of each action; the ring entries it latches. The spec gives it no format. -/
opaque ioCourses : List (BitVec 8) → List (Bool × List (Nat × Nat))
opaque ioRingIn : List (BitVec 8) → List Nat

/-- The retain map of a program image (R428, R436): byte ranges within instance data, as offset and length. -/
opaque retainMap : List (BitVec 8) → List (Nat × Nat)

/-- The preset in ms that a timer's instance data hold (R437); the spec gives instance data no layout. -/
opaque timerPreset : List (BitVec 8) → Nat

/-- The round trip in fc expected of a ring (R485): YUL_CABLE, stations, bytes of the frame; forwarding latencies are only
bounded. -/
opaque ringTrip : Nat → Nat → Nat → Nat

/-- The bytes, addresses to FCS, of a frame that a template or a standard lays out (R88, R494, R499, R506): the port's kind of
frame (0 GOOSE, 1 SV, 2 PTP, 3 supervision) and the dataset, stream or message kind. -/
opaque frameBytes : Nat → Nat → Nat

/-- The forwarding latency a station or a controller in ROLE 3 adds to CORR (R462, R619), ns, Q24.8; R466 bounds it. -/
opaque ringFwd : Nat

/-! Flow and steam properties (R385, R386): equations the spec names and does not print (log 15). -/

/-- The Reader-Harris/Gallagher coefficient: taps, β, Re, D in m; the value the iteration starts from: taps, β, D. -/
opaque rhgC : Nat → Rat → Rat → Rat → Rat
opaque rhgStart : Nat → Rat → Rat → Rat

/-- The expansibility of ISO 5167-2: β, κ, p2 ÷ p1. -/
opaque expans : Rat → Rat → Rat → Rat

/-- The lower limit of Re of ISO 5167-2: taps, β, D. -/
opaque reMin : Nat → Rat → Rat → Rat

/-- IF97: density and enthalpy of region 1 or 2 at (p, T); of saturated vapour at p; saturation pressure, saturation
temperature, the B23 pressure at T. -/
opaque ifRho : Nat → Rat → Rat → Rat
opaque ifH : Nat → Rat → Rat → Rat
opaque vapRho : Rat → Rat
opaque vapH : Rat → Rat
opaque pSat : Rat → Rat
opaque tSat : Rat → Rat
opaque pB23 : Rat → Rat

/-- Z of the table a run's section body holds, at (p, T), or none outside the table (R386); the gas constant R_s. -/
opaque zAt : List (BitVec 8) → Rat → Rat → Option Rat
opaque rAir : Rat

/-- Z at base conditions that lie outside the sealed table, where the spec states none. -/
opaque zOut : List (BitVec 8) → Rat → Rat → Rat

end Sys2Proof.Config
end

