-- ==== Sys2Proof/Machine/Util.lean ====
section
/-!
DEFINITION. Small helpers every unit uses: bit fields of a number, two's complement, saturation, rounding, and the sparse
store in one canonical form that holds the registers and the memories.
-/
namespace Sys2Proof.Machine

/-- Bits hi..lo of a number. -/
def bits (v hi lo : Nat) : Nat := (v >>> lo) % 2 ^ (hi - lo + 1)

/-- Bit i of a number. -/
def bit (v i : Nat) : Bool := v.testBit i

/-- A truth value as one bit. -/
def b2n (b : Bool) : Nat := if b then 1 else 0

/-- The signed number that w bits in two's complement stand for. -/
def toSigned (w v : Nat) : Int := if v % 2 ^ w < 2 ^ (w - 1) then (v % 2 ^ w : Nat) else ((v % 2 ^ w : Nat) : Int) - (2 ^ w : Nat)

/-- The w bits of two's complement that stand for a number (wrapping). -/
def ofSigned (w : Nat) (i : Int) : Nat := (i % (2 ^ w : Nat)).toNat

/-- An unsigned counter of w bits that saturates. -/
def satAdd (w a b : Nat) : Nat := min (a + b) (2 ^ w - 1)

/-- A number clamped to a range. -/
def clampN (lo hi v : Nat) : Nat := max lo (min hi v)

/-- A signed number clamped to a range. -/
def clampI (lo hi v : Int) : Int := max lo (min hi v)

/-- The quotient rounded to the nearest whole number, halves upwards. -/
def roundDiv (a b : Nat) : Nat := (2 * a + b) / (2 * b)

/-- The signed quotient rounded to the nearest whole number, halves upwards. -/
def roundDivI (a : Int) (b : Nat) : Int := (2 * a + b) / (2 * b : Nat)

/-- The signed quotient rounded to the nearest whole number, halves away from zero. -/
def roundAway (a : Int) (b : Nat) : Int :=
  if 0 ≤ a then (2 * a + b) / (2 * b : Nat) else -((2 * -a + b) / (2 * b : Nat))

/-- A quotient whose rounding the spec does not state: the whole number below or above it, which of the two is free (log 9). -/
def openDiv (a b : Int) : Int := a / b + if a % b ≠ 0 ∧ Config.roundUp a b then 1 else 0

/-- `openDiv` of natural numbers. -/
def openDivN (a b : Nat) : Nat := (openDiv a b).toNat

/-- Number of ones among the lowest w bits. -/
def popCount (w v : Nat) : Nat := (List.range w).countP fun i => v.testBit i

/-- The indexes below w whose bit is set, rising. -/
def bitList (w v : Nat) : List Nat := (List.range w).filter fun i => v.testBit i

/-- A number with bit i set or cleared. -/
def putBit (v i : Nat) (b : Bool) : Nat := if b then v ||| 2 ^ i else v - (if v.testBit i then 2 ^ i else 0)

/-- A number with the bits of a mask replaced by those of another. -/
def maskPut (old mask new : Nat) : Nat := (old ||| mask) - (mask - (new &&& mask))

/-! ### Sparse store: (key, value) pairs, keys strictly rising, no entry at its default -/

/-- The value at a key, or nothing where none is listed. -/
def Sparse.find {α : Type} : List (Nat × α) → Nat → Option α
  | [], _ => none
  | (k', v) :: t, k => if k' = k then some v else Sparse.find t k

/-- List a value at a key, keeping the keys rising. -/
def Sparse.ins {α : Type} : List (Nat × α) → Nat → α → List (Nat × α)
  | [], k, x => [(k, x)]
  | (k', v') :: t, k, x =>
    if k < k' then (k, x) :: (k', v') :: t
    else if k = k' then (k, x) :: t
    else (k', v') :: Sparse.ins t k x

/-- Put a value at a key, or remove the entry (`none`), keeping the keys rising. -/
def Sparse.put {α : Type} (l : List (Nat × α)) (k : Nat) (v : Option α) : List (Nat × α) :=
  match v with
  | some x => Sparse.ins l k x
  | none => l.filter fun c => c.1 != k

/-- Keys strictly rising. -/
def Sparse.rising {α : Type} : List (Nat × α) → Bool
  | [] => true
  | [_] => true
  | (a, _) :: (b, y) :: t => decide (a < b) && Sparse.rising ((b, y) :: t)

/-! ### Byte memories (DRAM, image slots) -/

/-- What a byte that nothing has written reads as (log 13). -/
def Mem.unlisted : BitVec 8 := 0

/-- Read one byte. -/
def Mem.rd (m : List (Nat × BitVec 8)) (a : Nat) : BitVec 8 := (Sparse.find m a).getD Mem.unlisted

/-- Write one byte; writing what an unlisted address reads as removes the entry. -/
def Mem.wr (m : List (Nat × BitVec 8)) (a : Nat) (b : BitVec 8) : List (Nat × BitVec 8) :=
  Sparse.put m a (if b = Mem.unlisted then none else some b)

/-- The canonical form of a memory. -/
def Mem.wf (m : List (Nat × BitVec 8)) : Bool := Sparse.rising m && m.all fun c => c.2 != Mem.unlisted

/-- Read n bytes from an address on. -/
def Mem.rdN (m : List (Nat × BitVec 8)) (a n : Nat) : List (BitVec 8) := (List.range n).map fun i => Mem.rd m (a + i)

/-- Write bytes from an address on. -/
def Mem.wrN (m : List (Nat × BitVec 8)) (a : Nat) (bs : List (BitVec 8)) : List (Nat × BitVec 8) :=
  match bs with
  | [] => m
  | b :: t => Mem.wrN (Mem.wr m a b) (a + 1) t

/-- The number little-endian bytes stand for. -/
def leNat : List (BitVec 8) → Nat
  | [] => 0
  | b :: t => b.toNat + 256 * leNat t

/-- The n little-endian bytes of a number. -/
def leBytes : Nat → Nat → List (BitVec 8)
  | 0, _ => []
  | n + 1, v => BitVec.ofNat 8 v :: leBytes n (v / 256)

/-- The number big-endian bytes stand for. -/
def beNat (l : List (BitVec 8)) : Nat := l.foldl (fun a b => a * 256 + b.toNat) 0

/-- The n big-endian bytes of a number. -/
def beBytes (n v : Nat) : List (BitVec 8) := (leBytes n v).reverse

/-- One bit of the CRC-32 of IEEE 802.3 (reflected polynomial 0xEDB88320). -/
def crcBit (c : Nat) : Nat := if c % 2 = 1 then (c / 2) ^^^ 0xEDB88320 else c / 2

/-- One byte of the CRC-32. -/
def crcByte (c : Nat) (b : BitVec 8) : Nat :=
  crcBit (crcBit (crcBit (crcBit (crcBit (crcBit (crcBit (crcBit (c ^^^ b.toNat))))))))

/-- CRC-32 of IEEE 802.3 over bytes. -/
def crc32 (bs : List (BitVec 8)) : Nat := bs.foldl crcByte 0xFFFFFFFF ^^^ 0xFFFFFFFF

/-- Put an element into a list sorted by a key, behind those of the same key. -/
def insBy {α : Type} (le : α → α → Bool) (x : α) : List α → List α
  | [] => [x]
  | y :: t => if le y x then y :: insBy le x t else x :: y :: t

/-- A list sorted by a key, keeping the order of elements of one key. -/
def sortBy {α : Type} (le : α → α → Bool) (l : List α) : List α := l.foldl (fun a x => insBy le x a) []

end Sys2Proof.Machine
end

