-- ==== Sys2Proof/Machine/Crypto.lean ====
section
/-!
DEFINITION. The two functions that R114 names: SHA-256 (FIPS 180-4) and the verification of an ECDSA signature on P-256 with SHA-256
(FIPS 186-4), as functions of whole numbers.
-/
namespace Sys2Proof.Machine

/-! ### SHA-256 -/

/-- The 64 round constants. -/
def shaK : List Nat :=
  [0x428A2F98, 0x71374491, 0xB5C0FBCF, 0xE9B5DBA5, 0x3956C25B, 0x59F111F1, 0x923F82A4, 0xAB1C5ED5,
   0xD807AA98, 0x12835B01, 0x243185BE, 0x550C7DC3, 0x72BE5D74, 0x80DEB1FE, 0x9BDC06A7, 0xC19BF174,
   0xE49B69C1, 0xEFBE4786, 0x0FC19DC6, 0x240CA1CC, 0x2DE92C6F, 0x4A7484AA, 0x5CB0A9DC, 0x76F988DA,
   0x983E5152, 0xA831C66D, 0xB00327C8, 0xBF597FC7, 0xC6E00BF3, 0xD5A79147, 0x06CA6351, 0x14292967] ++
  [0x27B70A85, 0x2E1B2138, 0x4D2C6DFC, 0x53380D13, 0x650A7354, 0x766A0ABB, 0x81C2C92E, 0x92722C85,
   0xA2BFE8A1, 0xA81A664B, 0xC24B8B70, 0xC76C51A3, 0xD192E819, 0xD6990624, 0xF40E3585, 0x106AA070,
   0x19A4C116, 0x1E376C08, 0x2748774C, 0x34B0BCB5, 0x391C0CB3, 0x4ED8AA4A, 0x5B9CCA4F, 0x682E6FF3,
   0x748F82EE, 0x78A5636F, 0x84C87814, 0x8CC70208, 0x90BEFFFA, 0xA4506CEB, 0xBEF9A3F7, 0xC67178F2]

/-- The initial hash value. -/
def shaInit : List Nat :=
  [0x6A09E667, 0xBB67AE85, 0x3C6EF372, 0xA54FF53A, 0x510E527F, 0x9B05688C, 0x1F83D9AB, 0x5BE0CD19]

/-- A 32-bit word rotated to the right. -/
def rotr32 (x n : Nat) : Nat := x / 2 ^ n + x % 2 ^ n * 2 ^ (32 - n)

/-- A message with its padding and length. -/
def shaPad (m : List (BitVec 8)) : List (BitVec 8) :=
  m ++ (0x80 :: List.replicate ((119 - m.length % 64) % 64) 0) ++ beBytes 8 (8 * m.length)

/-- The next word of the message schedule, from the words so far, newest first. -/
def shaNext (w : List Nat) : Nat :=
  let a := w.getD 1 0
  let b := w.getD 14 0
  let s1 := rotr32 a 17 ^^^ rotr32 a 19 ^^^ a / 2 ^ 10
  let s0 := rotr32 b 7 ^^^ rotr32 b 18 ^^^ b / 2 ^ 3
  (s1 + w.getD 6 0 + s0 + w.getD 15 0) % 2 ^ 32

/-- The schedule of n more words, newest first. -/
def shaSched : Nat → List Nat → List Nat
  | 0, w => w
  | n + 1, w => shaSched n (shaNext w :: w)

/-- One round: working variables a–h, round constant and schedule word in. -/
def shaRound (v : List Nat) (kw : Nat × Nat) : List Nat :=
  let x := fun i => v.getD i 0
  let s1 := rotr32 (x 4) 6 ^^^ rotr32 (x 4) 11 ^^^ rotr32 (x 4) 25
  let ch := (x 4 &&& x 5) ^^^ ((2 ^ 32 - 1 - x 4) &&& x 6)
  let t1 := x 7 + s1 + ch + kw.1 + kw.2
  let s0 := rotr32 (x 0) 2 ^^^ rotr32 (x 0) 13 ^^^ rotr32 (x 0) 22
  let maj := (x 0 &&& x 1) ^^^ (x 0 &&& x 2) ^^^ (x 1 &&& x 2)
  [(t1 + s0 + maj) % 2 ^ 32, x 0, x 1, x 2, (x 3 + t1) % 2 ^ 32, x 4, x 5, x 6]

/-- The n big-endian words at the start of a block, newest first. -/
def shaWords : Nat → List (BitVec 8) → List Nat → List Nat
  | 0, _, w => w
  | n + 1, b, w => shaWords n (b.drop 4) (beNat (b.take 4) :: w)

/-- One block of 64 bytes. -/
def shaBlock (h : List Nat) (b : List (BitVec 8)) : List Nat :=
  let w := (shaSched 48 (shaWords 16 b [])).reverse
  let v := (shaK.zip w).foldl shaRound h
  (h.zip v).map fun p => (p.1 + p.2) % 2 ^ 32

/-- The blocks of a padded message. -/
def shaBlocks : Nat → List (BitVec 8) → List Nat → List Nat
  | 0, _, h => h
  | n + 1, b, h => shaBlocks n (b.drop 64) (shaBlock h (b.take 64))

/-- SHA-256 of a message, as a number with its first byte most significant. -/
def sha256 (m : List (BitVec 8)) : Nat :=
  let p := shaPad m
  (shaBlocks (p.length / 64) p shaInit).foldl (fun a x => a * 2 ^ 32 + x) 0

/-! ### ECDSA on P-256 -/

/-- The prime of the field, the order of the group, the coefficient b, the base point. -/
def p256P : Nat := 0xFFFFFFFF00000001000000000000000000000000FFFFFFFFFFFFFFFFFFFFFFFF
def p256N : Nat := 0xFFFFFFFF00000000FFFFFFFFFFFFFFFFBCE6FAADA7179E84F3B9CAC2FC632551
def p256B : Nat := 0x5AC635D8AA3A93E7B3EBBD55769886BC651D06B0CC53B0F63BCE3C3E27D2604B
def p256G : Nat × Nat :=
  (0x6B17D1F2E12C4247F8BCE6E563A440F277037D812DEB33A0F4A13945D898C296,
   0x4FE342E2FE1A7F9B8EE7EB4A7C0F9E162BCE33576B315ECECBB6406837BF51F5)

/-- x to the power of the number whose binary digits, low ones first, are those of e, modulo m; n digits. -/
def powMod (m : Nat) : Nat → Nat → Nat → Nat
  | 0, _, _ => 1 % m
  | n + 1, x, e => (if e % 2 = 1 then x else 1) * powMod m n (x * x % m) (e / 2) % m

/-- The inverse of x modulo a prime m (Fermat). -/
def invMod (m x : Nat) : Nat := powMod m 256 (x % m) (m - 2)

/-- The sum of two points of the curve; `none` is the point at infinity. -/
def p256Add (a b : Option (Nat × Nat)) : Option (Nat × Nat) :=
  let p := p256P
  match a, b with
  | none, _ => b
  | _, none => a
  | some (x, y), some (u, v) =>
    if x = u ∧ (y + v) % p = 0 then none
    else
      let l := if x = u then (3 * x * x + (p - 3)) % p * invMod p (2 * y) % p else (v + (p - y)) % p * invMod p (u + (p - x)) % p
      let w := (l * l + (p - x) + (p - u)) % p
      some (w, (l * (x + (p - w)) + (p - y)) % p)

/-- A multiple of a point; n binary digits of k. -/
def p256Mul : Nat → Nat → Option (Nat × Nat) → Option (Nat × Nat)
  | 0, _, _ => none
  | n + 1, k, a => p256Add (if k % 2 = 1 then a else none) (p256Mul n (k / 2) (p256Add a a))

/-- A public key is a point of the curve. -/
def p256On (q : Nat × Nat) : Bool :=
  decide (q.1 < p256P ∧ q.2 < p256P ∧ q.2 * q.2 % p256P = (q.1 * q.1 * q.1 + (p256P - 3) * q.1 + p256B) % p256P)

/-- The signature (r, s) over a hash is that of a public key. -/
def ecdsaOk (q : Nat × Nat) (hash r s : Nat) : Bool :=
  if r = 0 ∨ r ≥ p256N ∨ s = 0 ∨ s ≥ p256N ∨ !p256On q then false
  else
    let w := invMod p256N s
    match p256Add (p256Mul 256 (hash * w % p256N) (some p256G)) (p256Mul 256 (r * w % p256N) (some q)) with
    | some (x, _) => x % p256N == r
    | none => false

end Sys2Proof.Machine
end

