-- ==== Sys2Proof/Machine/RegTypes.lean ====
section
/-!
DEFINITION. The types of the register maps: the access types of R7, the access levels of R644, a field's place, and the
unit blocks of R643 with their base offsets.
-/
namespace Sys2Proof.Machine

/-- Access types of R7. -/
inductive Acc where
  | ro | rw | w1c | wo | rs | seal | img
  deriving DecidableEq, Repr

/-- Access levels of R644 and R645, rising. -/
inductive Level where
  | read | operate | engineer
  deriving DecidableEq, Repr

/-- What a written value outside a field's stated range does: `any` (every value stands), `clamp` (clamped to the range),
`ignore` (the write leaves the field), `range` (a range is stated, a host write stores the value: log 11), with an S where
the field is signed; `pow2` HST_DMAc_SIZE, `govThr` the three governor thresholds, `budget` EVT_Pp_CFG.BUDGET. -/
inductive WRule where
  | any
  | clamp (lo hi : Nat)
  | ignore (lo hi : Nat)
  | range (lo hi : Nat)
  | clampS (lo hi : Int)
  | rangeS (lo hi : Int)
  | pow2
  | govThr
  | budget
  deriving DecidableEq, Repr

/-- The second value of the Reset column: kept by a warm reset, a value, or the fired image's value. -/
inductive Warm where
  | kept
  | value (v : Nat)
  | image
  deriving DecidableEq, Repr

/-- One field of a register map. -/
structure FieldRow where
  hi : Nat
  lo : Nat
  acc : Acc
  level : Level
  rule : WRule
  warm : Warm
  image : Bool
  deriving DecidableEq, Repr

/-- One register of a map: its BAR0 offsets are base + Σ index × stride, the outermost index first. `special` numbers the
rows whose reset value depends on the index (resetSpecial). -/
structure RegRow where
  name : String
  bases : List Nat
  dims : List (Nat × Nat)
  reset : Nat
  special : Nat
  fields : List FieldRow
  deriving DecidableEq, Repr

/-- The place of a field: the register's BAR0 offset and the field's bits. -/
structure Fld where
  off : Nat
  hi : Nat
  lo : Nat
  deriving DecidableEq, Repr

/-- The unit blocks of R643; `ethW` is the W port with its own header (R641). -/
inductive Blk where
  | hst | pwr | tbu | ang | kln | crs | afe (g : Nat) | hkc | flt | prt | acq | mtr | blk | yul | eth | ethW | evt | dio
  | ao | wyt
  deriving DecidableEq, Repr

/-- Base offset of a unit's block (R641, R643). -/
def Blk.base : Blk → Nat
  | .hst => 0x0 | .pwr => 0x10000 | .tbu => 0x20000 | .ang => 0x30000 | .kln => 0x50000 | .crs => 0x60000
  | .afe g => 0x100000 + 0x1000 * g | .hkc => 0x180000 | .flt => 0x200000 | .prt => 0x300000 | .acq => 0x400000
  | .mtr => 0x500000 | .blk => 0x600000 | .yul => 0x700000 | .eth => 0x800000 | .ethW => 0x840000
  | .evt => 0x900000 | .dio => 0xA00000 | .ao => 0xB00000 | .wyt => 0xC00000

/-- Every block that begins with the common unit header (R641). -/
def Blk.all : List Blk :=
  [.hst, .pwr, .tbu, .ang, .kln, .crs, .afe 0, .afe 1, .afe 2, .afe 3, .afe 4, .afe 5, .afe 6, .afe 7, .hkc, .flt, .prt,
   .acq, .mtr, .blk, .yul, .eth, .ethW, .evt, .dio, .ao, .wyt]

/-- Base offsets of the common unit headers. -/
def hdrBases : List Nat := Blk.all.map Blk.base

/-- Interrupt source number of a unit, R654. -/
def Blk.source : Blk → Nat
  | .hst => 0 | .pwr => 1 | .tbu => 2 | .ang => 3 | .kln => 4 | .crs => 5 | .afe g => 6 + g | .hkc => 14 | .flt => 15
  | .prt => 16 | .acq => 17 | .mtr => 18 | .blk => 19 | .yul => 20 | .eth => 21 | .ethW => 22 | .evt => 23 | .dio => 24
  | .ao => 25 | .wyt => 26

/-- Unit type of R113 (UNIT_ID.TYPE and bits 15:8 of a source identifier, R515). -/
def Blk.unitType : Blk → Nat
  | .hst => 0x00 | .pwr => 0x01 | .tbu => 0x02 | .ang => 0x03 | .kln => 0x05 | .crs => 0x06 | .afe _ => 0x10 | .hkc => 0x18
  | .flt => 0x20 | .prt => 0x30 | .acq => 0x40 | .mtr => 0x50 | .blk => 0x60 | .yul => 0x70 | .eth => 0x80 | .ethW => 0x80
  | .evt => 0x90 | .dio => 0xA0 | .ao => 0xB0 | .wyt => 0xC0

end Sys2Proof.Machine
end

