-- ==== Sys2Proof/Machine/Fields.lean ====
section
/-!
DEFINITION. The named fields of the register maps: REGISTER_FIELD, with the register's indexes as arguments, is the field's
place (BAR0 offset, highest and lowest bit), from the same maps as RegTable.
-/
namespace Sys2Proof.Machine.Reg

/-- Offset of ANG_CTL. -/
abbrev ANG_CTL : Nat := 0x30020
abbrev ANG_CTL_AUTO_ALT : Fld := ⟨ANG_CTL, 9, 9⟩
abbrev ANG_CTL_HOLD_FORCE : Fld := ⟨ANG_CTL, 8, 8⟩
abbrev ANG_CTL_BW : Fld := ⟨ANG_CTL, 3, 2⟩
abbrev ANG_CTL_NOM : Fld := ⟨ANG_CTL, 0, 0⟩
/-- Offset of ANG_REF_PRI. -/
abbrev ANG_REF_PRI : Nat := 0x30024
abbrev ANG_REF_PRI_MODE : Fld := ⟨ANG_REF_PRI, 25, 24⟩
abbrev ANG_REF_PRI_AI_C : Fld := ⟨ANG_REF_PRI, 21, 16⟩
abbrev ANG_REF_PRI_AI_B : Fld := ⟨ANG_REF_PRI, 13, 8⟩
abbrev ANG_REF_PRI_AI_A : Fld := ⟨ANG_REF_PRI, 5, 0⟩
/-- Offset of ANG_REF_ALT. -/
abbrev ANG_REF_ALT : Nat := 0x30028
abbrev ANG_REF_ALT_MODE : Fld := ⟨ANG_REF_ALT, 25, 24⟩
abbrev ANG_REF_ALT_AI_C : Fld := ⟨ANG_REF_ALT, 21, 16⟩
abbrev ANG_REF_ALT_AI_B : Fld := ⟨ANG_REF_ALT, 13, 8⟩
abbrev ANG_REF_ALT_AI_A : Fld := ⟨ANG_REF_ALT, 5, 0⟩
/-- Offset of ANG_ALT_OFS. -/
abbrev ANG_ALT_OFS : Nat := 0x3002c
abbrev ANG_ALT_OFS_OFS : Fld := ⟨ANG_ALT_OFS, 31, 0⟩
/-- Offset of ANG_LIM. -/
abbrev ANG_LIM : Nat := 0x30030
abbrev ANG_LIM_PULL : Fld := ⟨ANG_LIM, 23, 16⟩
abbrev ANG_LIM_REF_MIN : Fld := ⟨ANG_LIM, 5, 0⟩
/-- Offset of ANG_STAT. -/
abbrev ANG_STAT : Nat := 0x30034
abbrev ANG_STAT_SCHED_OK : Fld := ⟨ANG_STAT, 7, 7⟩
abbrev ANG_STAT_PULLING : Fld := ⟨ANG_STAT, 6, 6⟩
abbrev ANG_STAT_ON_ALT : Fld := ⟨ANG_STAT, 5, 5⟩
abbrev ANG_STAT_RANGE : Fld := ⟨ANG_STAT, 4, 4⟩
abbrev ANG_STAT_REF_LOST : Fld := ⟨ANG_STAT, 3, 3⟩
abbrev ANG_STAT_STEPPED : Fld := ⟨ANG_STAT, 2, 2⟩
abbrev ANG_STAT_STATE : Fld := ⟨ANG_STAT, 1, 0⟩
/-- Offset of ANG_FREQ. -/
abbrev ANG_FREQ : Nat := 0x30038
abbrev ANG_FREQ_FREQ : Fld := ⟨ANG_FREQ, 31, 0⟩
/-- Offset of ANG_ROCOF. -/
abbrev ANG_ROCOF : Nat := 0x3003c
abbrev ANG_ROCOF_ROCOF : Fld := ⟨ANG_ROCOF, 31, 0⟩
/-- Offset of ANG_PINC. -/
abbrev ANG_PINC : Nat := 0x30040
abbrev ANG_PINC_PINC : Fld := ⟨ANG_PINC, 31, 0⟩
/-- Offset of ANG_POS_0. -/
abbrev ANG_POS_0 : Nat := 0x30050
abbrev ANG_POS_0_ANGLE : Fld := ⟨ANG_POS_0, 31, 0⟩
/-- Offset of ANG_POS_1. -/
abbrev ANG_POS_1 : Nat := 0x30054
abbrev ANG_POS_1_CYCLE : Fld := ⟨ANG_POS_1, 31, 0⟩
/-- Offset of ANG_POS_2. -/
abbrev ANG_POS_2 : Nat := 0x30058
abbrev ANG_POS_2_TW : Fld := ⟨ANG_POS_2, 31, 0⟩
/-- Offset of ANG_POS_3. -/
abbrev ANG_POS_3 : Nat := 0x3005c
abbrev ANG_POS_3_TW : Fld := ⟨ANG_POS_3, 31, 0⟩
/-- Offset of ANG_POS_4. -/
abbrev ANG_POS_4 : Nat := 0x30060
abbrev ANG_POS_4_TW : Fld := ⟨ANG_POS_4, 31, 0⟩
/-- Offset of ANG_POS_5. -/
abbrev ANG_POS_5 : Nat := 0x30064
abbrev ANG_POS_5_EPOCH : Fld := ⟨ANG_POS_5, 7, 0⟩
/-- Offset of ANG_TUP_0. -/
abbrev ANG_TUP_0 : Nat := 0x30070
abbrev ANG_TUP_0_A_REF : Fld := ⟨ANG_TUP_0, 31, 0⟩
/-- Offset of ANG_TUP_1. -/
abbrev ANG_TUP_1 : Nat := 0x30074
abbrev ANG_TUP_1_C_REF : Fld := ⟨ANG_TUP_1, 31, 0⟩
/-- Offset of ANG_TUP_2. -/
abbrev ANG_TUP_2 : Nat := 0x30078
abbrev ANG_TUP_2_T_REF : Fld := ⟨ANG_TUP_2, 31, 0⟩
/-- Offset of ANG_TUP_3. -/
abbrev ANG_TUP_3 : Nat := 0x3007c
abbrev ANG_TUP_3_T_REF : Fld := ⟨ANG_TUP_3, 31, 0⟩
/-- Offset of ANG_TUP_4. -/
abbrev ANG_TUP_4 : Nat := 0x30080
abbrev ANG_TUP_4_T_REF : Fld := ⟨ANG_TUP_4, 31, 0⟩
/-- Offset of ANG_TUP_5. -/
abbrev ANG_TUP_5 : Nat := 0x30084
abbrev ANG_TUP_5_FREQ : Fld := ⟨ANG_TUP_5, 31, 0⟩
/-- Offset of ANG_RUNT_0. -/
abbrev ANG_RUNT_0 : Nat := 0x30090
abbrev ANG_RUNT_0_RUNT_LO : Fld := ⟨ANG_RUNT_0, 31, 0⟩
/-- Offset of ANG_RUNT_1. -/
abbrev ANG_RUNT_1 : Nat := 0x30094
abbrev ANG_RUNT_1_RUNT_HI : Fld := ⟨ANG_RUNT_1, 31, 0⟩
/-- Offset of ANG_GRID_CFG_g. -/
abbrev ANG_GRID_CFG (g : Nat) : Nat := 0x30100 + 0x10 * g
abbrev ANG_GRID_CFG_EN (g : Nat) : Fld := ⟨ANG_GRID_CFG g, 4, 4⟩
abbrev ANG_GRID_CFG_NSEL (g : Nat) : Fld := ⟨ANG_GRID_CFG g, 1, 0⟩
/-- Offset of ANG_GRID_MASK_LO_g. -/
abbrev ANG_GRID_MASK_LO (g : Nat) : Nat := 0x30104 + 0x10 * g
abbrev ANG_GRID_MASK_LO_MASK (g : Nat) : Fld := ⟨ANG_GRID_MASK_LO g, 31, 0⟩
/-- Offset of ANG_GRID_MASK_HI_g. -/
abbrev ANG_GRID_MASK_HI (g : Nat) : Nat := 0x30108 + 0x10 * g
abbrev ANG_GRID_MASK_HI_MASK (g : Nat) : Fld := ⟨ANG_GRID_MASK_HI g, 31, 0⟩
/-- Offset of ANG_GRID_DLY_g. -/
abbrev ANG_GRID_DLY (g : Nat) : Nat := 0x3010c + 0x10 * g
abbrev ANG_GRID_DLY_DLY (g : Nat) : Fld := ⟨ANG_GRID_DLY g, 31, 0⟩
/-- Offset of TBU_CTL. -/
abbrev TBU_CTL : Nat := 0x20020
abbrev TBU_CTL_SBW : Fld := ⟨TBU_CTL, 5, 4⟩
abbrev TBU_CTL_SRC : Fld := ⟨TBU_CTL, 1, 0⟩
/-- Offset of TBU_STAT. -/
abbrev TBU_STAT : Nat := 0x20024
abbrev TBU_STAT_CMD_REJ : Fld := ⟨TBU_STAT, 12, 12⟩
abbrev TBU_STAT_PPS_SEEN : Fld := ⟨TBU_STAT, 11, 11⟩
abbrev TBU_STAT_STEP_REJ : Fld := ⟨TBU_STAT, 10, 10⟩
abbrev TBU_STAT_ASYM_UNCERTAIN : Fld := ⟨TBU_STAT, 9, 9⟩
abbrev TBU_STAT_SLEWING : Fld := ⟨TBU_STAT, 8, 8⟩
abbrev TBU_STAT_RTC_INVALID : Fld := ⟨TBU_STAT, 7, 7⟩
abbrev TBU_STAT_STEPPED : Fld := ⟨TBU_STAT, 6, 6⟩
abbrev TBU_STAT_FOLLOW : Fld := ⟨TBU_STAT, 5, 4⟩
abbrev TBU_STAT_STATE : Fld := ⟨TBU_STAT, 1, 0⟩
/-- Offset of TBU_CMD. -/
abbrev TBU_CMD : Nat := 0x20028
abbrev TBU_CMD_ASYM_ACK : Fld := ⟨TBU_CMD, 2, 2⟩
abbrev TBU_CMD_REEPOCH : Fld := ⟨TBU_CMD, 1, 1⟩
abbrev TBU_CMD_STEP : Fld := ⟨TBU_CMD, 0, 0⟩
/-- Offset of TBU_INC_0. -/
abbrev TBU_INC_0 : Nat := 0x2002c
abbrev TBU_INC_0_FRAC : Fld := ⟨TBU_INC_0, 31, 0⟩
/-- Offset of TBU_INC_1. -/
abbrev TBU_INC_1 : Nat := 0x20030
abbrev TBU_INC_1_INT : Fld := ⟨TBU_INC_1, 7, 0⟩
/-- Offset of TBU_SLEW_MAX. -/
abbrev TBU_SLEW_MAX : Nat := 0x20034
abbrev TBU_SLEW_MAX_PPB : Fld := ⟨TBU_SLEW_MAX, 31, 0⟩
/-- Offset of TBU_TIME_0. -/
abbrev TBU_TIME_0 : Nat := 0x20040
abbrev TBU_TIME_0_TW : Fld := ⟨TBU_TIME_0, 31, 0⟩
/-- Offset of TBU_TIME_1. -/
abbrev TBU_TIME_1 : Nat := 0x20044
abbrev TBU_TIME_1_TW : Fld := ⟨TBU_TIME_1, 31, 0⟩
/-- Offset of TBU_TIME_2. -/
abbrev TBU_TIME_2 : Nat := 0x20048
abbrev TBU_TIME_2_TW : Fld := ⟨TBU_TIME_2, 31, 0⟩
/-- Offset of TBU_EPOCH. -/
abbrev TBU_EPOCH : Nat := 0x2004c
abbrev TBU_EPOCH_EPOCH : Fld := ⟨TBU_EPOCH, 7, 0⟩
/-- Offset of TBU_SET_0. -/
abbrev TBU_SET_0 : Nat := 0x20050
abbrev TBU_SET_0_TW : Fld := ⟨TBU_SET_0, 31, 0⟩
/-- Offset of TBU_SET_1. -/
abbrev TBU_SET_1 : Nat := 0x20054
abbrev TBU_SET_1_TW : Fld := ⟨TBU_SET_1, 31, 0⟩
/-- Offset of TBU_SET_2. -/
abbrev TBU_SET_2 : Nat := 0x20058
abbrev TBU_SET_2_TW : Fld := ⟨TBU_SET_2, 31, 0⟩
/-- Offset of TBU_PTP_CTL. -/
abbrev TBU_PTP_CTL : Nat := 0x20060
abbrev TBU_PTP_CTL_PREF : Fld := ⟨TBU_PTP_CTL, 11, 10⟩
abbrev TBU_PTP_CTL_SLAVE_ONLY : Fld := ⟨TBU_PTP_CTL, 9, 9⟩
abbrev TBU_PTP_CTL_UDP : Fld := ⟨TBU_PTP_CTL, 8, 8⟩
abbrev TBU_PTP_CTL_DOMAIN : Fld := ⟨TBU_PTP_CTL, 7, 0⟩
/-- Offset of TBU_BMCA_0. -/
abbrev TBU_BMCA_0 : Nat := 0x20064
abbrev TBU_BMCA_0_PRIO1 : Fld := ⟨TBU_BMCA_0, 31, 24⟩
abbrev TBU_BMCA_0_PRIO2 : Fld := ⟨TBU_BMCA_0, 23, 16⟩
abbrev TBU_BMCA_0_ACCURACY : Fld := ⟨TBU_BMCA_0, 15, 8⟩
abbrev TBU_BMCA_0_PROF : Fld := ⟨TBU_BMCA_0, 7, 0⟩
/-- Offset of TBU_BMCA_1. -/
abbrev TBU_BMCA_1 : Nat := 0x20068
abbrev TBU_BMCA_1_CLASS_LOCK : Fld := ⟨TBU_BMCA_1, 31, 24⟩
abbrev TBU_BMCA_1_CLASS_HOLD : Fld := ⟨TBU_BMCA_1, 23, 16⟩
abbrev TBU_BMCA_1_CLASS_FREE : Fld := ⟨TBU_BMCA_1, 15, 8⟩
/-- Offset of TBU_BMCA_2. -/
abbrev TBU_BMCA_2 : Nat := 0x20078
abbrev TBU_BMCA_2_VAR_HOLD : Fld := ⟨TBU_BMCA_2, 31, 16⟩
abbrev TBU_BMCA_2_VAR_LOCK : Fld := ⟨TBU_BMCA_2, 15, 0⟩
/-- Offset of TBU_PTP_INTV. -/
abbrev TBU_PTP_INTV : Nat := 0x2006c
abbrev TBU_PTP_INTV_ANN_TMO : Fld := ⟨TBU_PTP_INTV, 31, 24⟩
abbrev TBU_PTP_INTV_PDELAY : Fld := ⟨TBU_PTP_INTV, 23, 16⟩
abbrev TBU_PTP_INTV_ANNOUNCE : Fld := ⟨TBU_PTP_INTV, 15, 8⟩
abbrev TBU_PTP_INTV_SYNC : Fld := ⟨TBU_PTP_INTV, 7, 0⟩
/-- Offset of TBU_PTP_THR. -/
abbrev TBU_PTP_THR : Nat := 0x20070
abbrev TBU_PTP_THR_DIV : Fld := ⟨TBU_PTP_THR, 31, 16⟩
abbrev TBU_PTP_THR_PD : Fld := ⟨TBU_PTP_THR, 15, 0⟩
/-- Offset of TBU_PTP_ASYM. -/
abbrev TBU_PTP_ASYM : Nat := 0x20074
abbrev TBU_PTP_ASYM_STABLE_T : Fld := ⟨TBU_PTP_ASYM, 31, 16⟩
abbrev TBU_PTP_ASYM_SLEW : Fld := ⟨TBU_PTP_ASYM, 15, 0⟩
/-- Offset of TBU_HO_T. -/
abbrev TBU_HO_T : Nat := 0x20080
abbrev TBU_HO_T_N : Fld := ⟨TBU_HO_T, 7, 0⟩
/-- Offset of TBU_HO_DUR. -/
abbrev TBU_HO_DUR : Nat := 0x20084
abbrev TBU_HO_DUR_MS : Fld := ⟨TBU_HO_DUR, 31, 0⟩
/-- Offset of TBU_HO_ERR. -/
abbrev TBU_HO_ERR : Nat := 0x20088
abbrev TBU_HO_ERR_NS : Fld := ⟨TBU_HO_ERR, 31, 0⟩
/-- Offset of TBU_HO_DRIFT. -/
abbrev TBU_HO_DRIFT : Nat := 0x2008c
abbrev TBU_HO_DRIFT_NSPS : Fld := ⟨TBU_HO_DRIFT, 31, 0⟩
/-- Offset of TBU_HO_DRIFT_AGE. -/
abbrev TBU_HO_DRIFT_AGE : Nat := 0x20090
abbrev TBU_HO_DRIFT_AGE_NSPS2 : Fld := ⟨TBU_HO_DRIFT_AGE, 31, 0⟩
/-- Offset of TBU_PPS_CTL. -/
abbrev TBU_PPS_CTL : Nat := 0x200a0
abbrev TBU_PPS_CTL_FREE : Fld := ⟨TBU_PPS_CTL, 9, 9⟩
abbrev TBU_PPS_CTL_WIDTH : Fld := ⟨TBU_PPS_CTL, 8, 0⟩
/-- Offset of TBU_PPS_OUT_CMP. -/
abbrev TBU_PPS_OUT_CMP : Nat := 0x200a4
abbrev TBU_PPS_OUT_CMP_CMP : Fld := ⟨TBU_PPS_OUT_CMP, 31, 0⟩
/-- Offset of TBU_PPS_IN_CMP. -/
abbrev TBU_PPS_IN_CMP : Nat := 0x200a8
abbrev TBU_PPS_IN_CMP_CMP : Fld := ⟨TBU_PPS_IN_CMP, 31, 0⟩
/-- Offset of TBU_PPS_IN_TS_0. -/
abbrev TBU_PPS_IN_TS_0 : Nat := 0x200ac
abbrev TBU_PPS_IN_TS_0_TW : Fld := ⟨TBU_PPS_IN_TS_0, 31, 0⟩
/-- Offset of TBU_PPS_IN_TS_1. -/
abbrev TBU_PPS_IN_TS_1 : Nat := 0x200b0
abbrev TBU_PPS_IN_TS_1_TW : Fld := ⟨TBU_PPS_IN_TS_1, 31, 0⟩
/-- Offset of TBU_PPS_IN_TS_2. -/
abbrev TBU_PPS_IN_TS_2 : Nat := 0x200b4
abbrev TBU_PPS_IN_TS_2_TW : Fld := ⟨TBU_PPS_IN_TS_2, 31, 0⟩
/-- Offset of TBU_Pp_CTL. -/
abbrev TBU_P_CTL (p : Nat) : Nat := 0x20200 + 0x40 * p
abbrev TBU_P_CTL_P2P_TC (p : Nat) : Fld := ⟨TBU_P_CTL p, 2, 2⟩
abbrev TBU_P_CTL_ONE_STEP (p : Nat) : Fld := ⟨TBU_P_CTL p, 1, 1⟩
abbrev TBU_P_CTL_PDELAY (p : Nat) : Fld := ⟨TBU_P_CTL p, 0, 0⟩
/-- Offset of TBU_Pp_STAT. -/
abbrev TBU_P_STAT (p : Nat) : Nat := 0x20204 + 0x40 * p
abbrev TBU_P_STAT_UNSUP (p : Nat) : Fld := ⟨TBU_P_STAT p, 31, 16⟩
abbrev TBU_P_STAT_TSQ_OVF (p : Nat) : Fld := ⟨TBU_P_STAT p, 3, 3⟩
abbrev TBU_P_STAT_SUSPECT (p : Nat) : Fld := ⟨TBU_P_STAT p, 2, 2⟩
abbrev TBU_P_STAT_PATH_SHIFT (p : Nat) : Fld := ⟨TBU_P_STAT p, 1, 1⟩
abbrev TBU_P_STAT_SLAVE (p : Nat) : Fld := ⟨TBU_P_STAT p, 0, 0⟩
/-- Offset of TBU_Pp_LAT_TX. -/
abbrev TBU_P_LAT_TX (p : Nat) : Nat := 0x20208 + 0x40 * p
abbrev TBU_P_LAT_TX_NS (p : Nat) : Fld := ⟨TBU_P_LAT_TX p, 31, 0⟩
/-- Offset of TBU_Pp_LAT_RX. -/
abbrev TBU_P_LAT_RX (p : Nat) : Nat := 0x2020c + 0x40 * p
abbrev TBU_P_LAT_RX_NS (p : Nat) : Fld := ⟨TBU_P_LAT_RX p, 31, 0⟩
/-- Offset of TBU_Pp_ASYM. -/
abbrev TBU_P_ASYM (p : Nat) : Nat := 0x20210 + 0x40 * p
abbrev TBU_P_ASYM_NS (p : Nat) : Fld := ⟨TBU_P_ASYM p, 31, 0⟩
/-- Offset of TBU_Pp_MPD. -/
abbrev TBU_P_MPD (p : Nat) : Nat := 0x20214 + 0x40 * p
abbrev TBU_P_MPD_NS (p : Nat) : Fld := ⟨TBU_P_MPD p, 31, 0⟩
/-- Offset of TBU_Pp_OFS. -/
abbrev TBU_P_OFS (p : Nat) : Nat := 0x20218 + 0x40 * p
abbrev TBU_P_OFS_NS (p : Nat) : Fld := ⟨TBU_P_OFS p, 31, 0⟩
/-- Offset of TBU_Pp_TXQ_ID. -/
abbrev TBU_P_TXQ_ID (p : Nat) : Nat := 0x2021c + 0x40 * p
abbrev TBU_P_TXQ_ID_ID (p : Nat) : Fld := ⟨TBU_P_TXQ_ID p, 31, 0⟩
/-- Offset of TBU_Pp_TXQ_TS_0. -/
abbrev TBU_P_TXQ_TS_0 (p : Nat) : Nat := 0x20220 + 0x40 * p
abbrev TBU_P_TXQ_TS_0_TW (p : Nat) : Fld := ⟨TBU_P_TXQ_TS_0 p, 31, 0⟩
/-- Offset of TBU_Pp_TXQ_TS_1. -/
abbrev TBU_P_TXQ_TS_1 (p : Nat) : Nat := 0x20224 + 0x40 * p
abbrev TBU_P_TXQ_TS_1_TW (p : Nat) : Fld := ⟨TBU_P_TXQ_TS_1 p, 31, 0⟩
/-- Offset of TBU_Pp_TXQ_TS_2. -/
abbrev TBU_P_TXQ_TS_2 (p : Nat) : Nat := 0x20228 + 0x40 * p
abbrev TBU_P_TXQ_TS_2_TW (p : Nat) : Fld := ⟨TBU_P_TXQ_TS_2 p, 31, 0⟩
/-- Offset of TBU_Pp_TXQ_TS_3. -/
abbrev TBU_P_TXQ_TS_3 (p : Nat) : Nat := 0x2022c + 0x40 * p
abbrev TBU_P_TXQ_TS_3_EPOCH (p : Nat) : Fld := ⟨TBU_P_TXQ_TS_3 p, 7, 0⟩
/-- Offset of TBU_Pp_TXQ_LOST. -/
abbrev TBU_P_TXQ_LOST (p : Nat) : Nat := 0x20230 + 0x40 * p
abbrev TBU_P_TXQ_LOST_COUNT (p : Nat) : Fld := ⟨TBU_P_TXQ_LOST p, 31, 0⟩
/-- Offset of KLN_CMD. -/
abbrev KLN_CMD : Nat := 0x50020
abbrev KLN_CMD_KEY : Fld := ⟨KLN_CMD, 9, 8⟩
abbrev KLN_CMD_SLOT : Fld := ⟨KLN_CMD, 5, 4⟩
abbrev KLN_CMD_OP : Fld := ⟨KLN_CMD, 3, 0⟩
/-- Offset of KLN_STAT. -/
abbrev KLN_STAT : Nat := 0x50024
abbrev KLN_STAT_LAST_ERR : Fld := ⟨KLN_STAT, 31, 24⟩
abbrev KLN_STAT_LAST_OP : Fld := ⟨KLN_STAT, 23, 20⟩
abbrev KLN_STAT_NO_IMAGE : Fld := ⟨KLN_STAT, 7, 7⟩
abbrev KLN_STAT_BOOT_DIFF : Fld := ⟨KLN_STAT, 5, 5⟩
abbrev KLN_STAT_F_SECTIONS : Fld := ⟨KLN_STAT, 4, 4⟩
abbrev KLN_STAT_REFIRING : Fld := ⟨KLN_STAT, 3, 3⟩
abbrev KLN_STAT_BUSY : Fld := ⟨KLN_STAT, 2, 2⟩
abbrev KLN_STAT_FIRED : Fld := ⟨KLN_STAT, 1, 0⟩
/-- Offset of KLN_ERR. -/
abbrev KLN_ERR : Nat := 0x50028
abbrev KLN_ERR_CODE : Fld := ⟨KLN_ERR, 31, 24⟩
abbrev KLN_ERR_SEC_ID : Fld := ⟨KLN_ERR, 15, 0⟩
/-- Offset of KLN_BOOT. -/
abbrev KLN_BOOT : Nat := 0x5002c
abbrev KLN_BOOT_U1_ERR : Fld := ⟨KLN_BOOT, 31, 24⟩
abbrev KLN_BOOT_U0_ERR : Fld := ⟨KLN_BOOT, 23, 16⟩
abbrev KLN_BOOT_SLOT : Fld := ⟨KLN_BOOT, 1, 0⟩
/-- Offset of KLN_SRC_ADDR. -/
abbrev KLN_SRC_ADDR : Nat := 0x50030
abbrev KLN_SRC_ADDR_ADDR : Fld := ⟨KLN_SRC_ADDR, 31, 4⟩
/-- Offset of KLN_SRC_LEN. -/
abbrev KLN_SRC_LEN : Nat := 0x50034
abbrev KLN_SRC_LEN_LEN : Fld := ⟨KLN_SRC_LEN, 31, 0⟩
/-- Offset of KLN_OTP_STAT. -/
abbrev KLN_OTP_STAT : Nat := 0x50038
abbrev KLN_OTP_STAT_REVOKED : Fld := ⟨KLN_OTP_STAT, 7, 4⟩
abbrev KLN_OTP_STAT_PROG : Fld := ⟨KLN_OTP_STAT, 3, 0⟩
/-- Offset of KLN_STAMP_0. -/
abbrev KLN_STAMP_0 : Nat := 0x50040
abbrev KLN_STAMP_0_LO : Fld := ⟨KLN_STAMP_0, 31, 0⟩
/-- Offset of KLN_MSTAMP_0. -/
abbrev KLN_MSTAMP_0 : Nat := 0x50048
abbrev KLN_MSTAMP_0_LO : Fld := ⟨KLN_MSTAMP_0, 31, 0⟩
/-- Offset of KLN_U0_STAMP_0. -/
abbrev KLN_U0_STAMP_0 : Nat := 0x50050
abbrev KLN_U0_STAMP_0_LO : Fld := ⟨KLN_U0_STAMP_0, 31, 0⟩
/-- Offset of KLN_U1_STAMP_0. -/
abbrev KLN_U1_STAMP_0 : Nat := 0x50058
abbrev KLN_U1_STAMP_0_LO : Fld := ⟨KLN_U1_STAMP_0, 31, 0⟩
/-- Offset of KLN_STAMP_1. -/
abbrev KLN_STAMP_1 : Nat := 0x50044
abbrev KLN_STAMP_1_HI : Fld := ⟨KLN_STAMP_1, 31, 0⟩
/-- Offset of KLN_MSTAMP_1. -/
abbrev KLN_MSTAMP_1 : Nat := 0x5004c
abbrev KLN_MSTAMP_1_HI : Fld := ⟨KLN_MSTAMP_1, 31, 0⟩
/-- Offset of KLN_U0_STAMP_1. -/
abbrev KLN_U0_STAMP_1 : Nat := 0x50054
abbrev KLN_U0_STAMP_1_HI : Fld := ⟨KLN_U0_STAMP_1, 31, 0⟩
/-- Offset of KLN_U1_STAMP_1. -/
abbrev KLN_U1_STAMP_1 : Nat := 0x5005c
abbrev KLN_U1_STAMP_1_HI : Fld := ⟨KLN_U1_STAMP_1, 31, 0⟩
/-- Offset of KLN_JRNL. -/
abbrev KLN_JRNL : Nat := 0x50060
abbrev KLN_JRNL_FULL : Fld := ⟨KLN_JRNL, 31, 31⟩
abbrev KLN_JRNL_INERT : Fld := ⟨KLN_JRNL, 26, 16⟩
abbrev KLN_JRNL_USED : Fld := ⟨KLN_JRNL, 10, 0⟩
/-- Offset of KLN_TILE_USE_0. -/
abbrev KLN_TILE_USE_0 : Nat := 0x50070
abbrev KLN_TILE_USE_0_TILES : Fld := ⟨KLN_TILE_USE_0, 31, 0⟩
/-- Offset of KLN_TILE_USE_1. -/
abbrev KLN_TILE_USE_1 : Nat := 0x50074
abbrev KLN_TILE_USE_1_TILES : Fld := ⟨KLN_TILE_USE_1, 31, 0⟩
/-- Offset of KLN_SENT_USE. -/
abbrev KLN_SENT_USE : Nat := 0x50078
abbrev KLN_SENT_USE_TILES : Fld := ⟨KLN_SENT_USE, 15, 0⟩
/-- Offset of KLN_LANES. -/
abbrev KLN_LANES : Nat := 0x5007c
abbrev KLN_LANES_USED : Fld := ⟨KLN_LANES, 23, 16⟩
abbrev KLN_LANES_RSV : Fld := ⟨KLN_LANES, 15, 8⟩
abbrev KLN_LANES_FREE : Fld := ⟨KLN_LANES, 7, 0⟩
/-- Offset of KLN_PATCH_CTL. -/
abbrev KLN_PATCH_CTL : Nat := 0x50080
abbrev KLN_PATCH_CTL_LATE : Fld := ⟨KLN_PATCH_CTL, 13, 12⟩
abbrev KLN_PATCH_CTL_SCHED : Fld := ⟨KLN_PATCH_CTL, 9, 8⟩
abbrev KLN_PATCH_CTL_COUNT : Fld := ⟨KLN_PATCH_CTL, 5, 0⟩
/-- Offset of KLN_PATCH_STAT. -/
abbrev KLN_PATCH_STAT : Nat := 0x50084
abbrev KLN_PATCH_STAT_ERR : Fld := ⟨KLN_PATCH_STAT, 31, 24⟩
abbrev KLN_PATCH_STAT_DONE : Fld := ⟨KLN_PATCH_STAT, 16, 16⟩
abbrev KLN_PATCH_STAT_COURSE : Fld := ⟨KLN_PATCH_STAT, 15, 8⟩
abbrev KLN_PATCH_STAT_ENTRY : Fld := ⟨KLN_PATCH_STAT, 7, 0⟩
/-- Offset of KLN_PATCH_TGT_0. -/
abbrev KLN_PATCH_TGT_0 : Nat := 0x50088
abbrev KLN_PATCH_TGT_0_TGT : Fld := ⟨KLN_PATCH_TGT_0, 31, 0⟩
/-- Offset of KLN_PATCH_TGT_1. -/
abbrev KLN_PATCH_TGT_1 : Nat := 0x5008c
abbrev KLN_PATCH_TGT_1_TGT : Fld := ⟨KLN_PATCH_TGT_1, 31, 0⟩
/-- Offset of KLN_PATCH_TGT_2. -/
abbrev KLN_PATCH_TGT_2 : Nat := 0x50090
abbrev KLN_PATCH_TGT_2_TGT : Fld := ⟨KLN_PATCH_TGT_2, 31, 0⟩
/-- Offset of KLN_PATCH_IDX_i. -/
abbrev KLN_PATCH_IDX (i : Nat) : Nat := 0x50100 + 0x4 * i
abbrev KLN_PATCH_IDX_SEC_ID (i : Nat) : Fld := ⟨KLN_PATCH_IDX i, 31, 16⟩
abbrev KLN_PATCH_IDX_VIDX (i : Nat) : Fld := ⟨KLN_PATCH_IDX i, 11, 0⟩
/-- Offset of KLN_PATCH_VAL_i. -/
abbrev KLN_PATCH_VAL (i : Nat) : Nat := 0x50180 + 0x4 * i
abbrev KLN_PATCH_VAL_VALUE (i : Nat) : Fld := ⟨KLN_PATCH_VAL i, 31, 0⟩
/-- Offset of KLN_SEC_i_0. -/
abbrev KLN_SEC_0 (i : Nat) : Nat := 0x50400 + 0x8 * i
abbrev KLN_SEC_0_SRC (i : Nat) : Fld := ⟨KLN_SEC_0 i, 27, 26⟩
abbrev KLN_SEC_0_STATE (i : Nat) : Fld := ⟨KLN_SEC_0 i, 25, 24⟩
abbrev KLN_SEC_0_ERR (i : Nat) : Fld := ⟨KLN_SEC_0 i, 23, 16⟩
abbrev KLN_SEC_0_SEC_ID (i : Nat) : Fld := ⟨KLN_SEC_0 i, 15, 0⟩
/-- Offset of KLN_SEC_i_1. -/
abbrev KLN_SEC_1 (i : Nat) : Nat := 0x50404 + 0x8 * i
abbrev KLN_SEC_1_DIGEST (i : Nat) : Fld := ⟨KLN_SEC_1 i, 31, 0⟩
/-- Offset of KLN_TILE_OWN_t. -/
abbrev KLN_TILE_OWN (t : Nat) : Nat := 0x50800 + 0x4 * t
abbrev KLN_TILE_OWN_LOAD (t : Nat) : Fld := ⟨KLN_TILE_OWN t, 23, 16⟩
abbrev KLN_TILE_OWN_SEC_ID (t : Nat) : Fld := ⟨KLN_TILE_OWN t, 15, 0⟩
/-- Offset of KLN_SENT_OWN_s. -/
abbrev KLN_SENT_OWN (s : Nat) : Nat := 0x50900 + 0x4 * s
abbrev KLN_SENT_OWN_COMP (s : Nat) : Fld := ⟨KLN_SENT_OWN s, 23, 16⟩
abbrev KLN_SENT_OWN_SEC_ID (s : Nat) : Fld := ⟨KLN_SENT_OWN s, 15, 0⟩
/-- Offset of CRS_CTL. -/
abbrev CRS_CTL : Nat := 0x60020
abbrev CRS_CTL_COURSE : Fld := ⟨CRS_CTL, 15, 8⟩
abbrev CRS_CTL_ABORT : Fld := ⟨CRS_CTL, 1, 1⟩
abbrev CRS_CTL_ARM : Fld := ⟨CRS_CTL, 0, 0⟩
/-- Offset of CRS_RES. -/
abbrev CRS_RES : Nat := 0x60024
abbrev CRS_RES_DONE : Fld := ⟨CRS_RES, 31, 31⟩
abbrev CRS_RES_STATUS : Fld := ⟨CRS_RES, 23, 16⟩
abbrev CRS_RES_GEN : Fld := ⟨CRS_RES, 15, 8⟩
abbrev CRS_RES_COURSE : Fld := ⟨CRS_RES, 7, 0⟩
/-- Offset of CRS_CNT. -/
abbrev CRS_CNT : Nat := 0x60028
abbrev CRS_CNT_PEAK : Fld := ⟨CRS_CNT, 31, 24⟩
abbrev CRS_CNT_STANDING : Fld := ⟨CRS_CNT, 15, 8⟩
abbrev CRS_CNT_IN_FLIGHT : Fld := ⟨CRS_CNT, 7, 0⟩
/-- Offset of CRS_BUSY_CNT. -/
abbrev CRS_BUSY_CNT : Nat := 0x6002c
abbrev CRS_BUSY_CNT_COUNT : Fld := ⟨CRS_BUSY_CNT, 31, 0⟩
/-- Offset of CRS_STG_HDR. -/
abbrev CRS_STG_HDR : Nat := 0x60030
abbrev CRS_STG_HDR_EVT : Fld := ⟨CRS_STG_HDR, 18, 18⟩
abbrev CRS_STG_HDR_NOMIR : Fld := ⟨CRS_STG_HDR, 17, 17⟩
abbrev CRS_STG_HDR_RSET : Fld := ⟨CRS_STG_HDR, 16, 16⟩
abbrev CRS_STG_HDR_COUNT : Fld := ⟨CRS_STG_HDR, 13, 8⟩
abbrev CRS_STG_HDR_LATE : Fld := ⟨CRS_STG_HDR, 5, 4⟩
abbrev CRS_STG_HDR_SCHED : Fld := ⟨CRS_STG_HDR, 1, 0⟩
/-- Offset of CRS_STG_TGT_0. -/
abbrev CRS_STG_TGT_0 : Nat := 0x60034
abbrev CRS_STG_TGT_0_TGT : Fld := ⟨CRS_STG_TGT_0, 31, 0⟩
/-- Offset of CRS_STG_TGT_1. -/
abbrev CRS_STG_TGT_1 : Nat := 0x60038
abbrev CRS_STG_TGT_1_TGT : Fld := ⟨CRS_STG_TGT_1, 31, 0⟩
/-- Offset of CRS_STG_TGT_2. -/
abbrev CRS_STG_TGT_2 : Nat := 0x6003c
abbrev CRS_STG_TGT_2_TGT : Fld := ⟨CRS_STG_TGT_2, 31, 0⟩
/-- Offset of CRS_STG_DL. -/
abbrev CRS_STG_DL : Nat := 0x60040
abbrev CRS_STG_DL_US : Fld := ⟨CRS_STG_DL, 31, 0⟩
/-- Offset of CRS_MIR_CTL. -/
abbrev CRS_MIR_CTL : Nat := 0x60050
abbrev CRS_MIR_CTL_LEAD : Fld := ⟨CRS_MIR_CTL, 31, 16⟩
/-- Offset of CRS_MIR_STAT. -/
abbrev CRS_MIR_STAT : Nat := 0x60054
abbrev CRS_MIR_STAT_DIVERGE : Fld := ⟨CRS_MIR_STAT, 31, 16⟩
abbrev CRS_MIR_STAT_PAIR : Fld := ⟨CRS_MIR_STAT, 15, 0⟩
/-- Offset of CRS_PORT_k. -/
abbrev CRS_PORT (k : Nat) : Nat := 0x60060 + 0x4 * k
abbrev CRS_PORT_MIR (k : Nat) : Fld := ⟨CRS_PORT k, 24, 24⟩
abbrev CRS_PORT_QUOTA (k : Nat) : Fld := ⟨CRS_PORT k, 23, 16⟩
abbrev CRS_PORT_IN_USE (k : Nat) : Fld := ⟨CRS_PORT k, 7, 0⟩
/-- Offset of CRS_STG_ACT_i_0. -/
abbrev CRS_STG_ACT_0 (i : Nat) : Nat := 0x60100 + 0xc * i
abbrev CRS_STG_ACT_0_TYPE (i : Nat) : Fld := ⟨CRS_STG_ACT_0 i, 31, 28⟩
abbrev CRS_STG_ACT_0_TRIP (i : Nat) : Fld := ⟨CRS_STG_ACT_0 i, 24, 24⟩
abbrev CRS_STG_ACT_0_TARGET (i : Nat) : Fld := ⟨CRS_STG_ACT_0 i, 23, 0⟩
/-- Offset of CRS_STG_ACT_i_1. -/
abbrev CRS_STG_ACT_1 (i : Nat) : Nat := 0x60104 + 0xc * i
abbrev CRS_STG_ACT_1_MASK (i : Nat) : Fld := ⟨CRS_STG_ACT_1 i, 31, 0⟩
/-- Offset of CRS_STG_ACT_i_2. -/
abbrev CRS_STG_ACT_2 (i : Nat) : Nat := 0x60108 + 0xc * i
abbrev CRS_STG_ACT_2_VALUE (i : Nat) : Fld := ⟨CRS_STG_ACT_2 i, 31, 0⟩
/-- Offset of CRS_CST_n_0. -/
abbrev CRS_CST_0 (n : Nat) : Nat := 0x61000 + 0x20 * n
abbrev CRS_CST_0_STATUS (n : Nat) : Fld := ⟨CRS_CST_0 n, 31, 24⟩
abbrev CRS_CST_0_GEN (n : Nat) : Fld := ⟨CRS_CST_0 n, 23, 16⟩
abbrev CRS_CST_0_PORT (n : Nat) : Fld := ⟨CRS_CST_0 n, 15, 12⟩
abbrev CRS_CST_0_OVR (n : Nat) : Fld := ⟨CRS_CST_0 n, 11, 11⟩
abbrev CRS_CST_0_MISS (n : Nat) : Fld := ⟨CRS_CST_0 n, 10, 10⟩
abbrev CRS_CST_0_NEXT (n : Nat) : Fld := ⟨CRS_CST_0 n, 9, 9⟩
abbrev CRS_CST_0_ACT (n : Nat) : Fld := ⟨CRS_CST_0 n, 4, 0⟩
/-- Offset of CRS_CST_n_1. -/
abbrev CRS_CST_1 (n : Nat) : Nat := 0x61004 + 0x20 * n
abbrev CRS_CST_1_TW (n : Nat) : Fld := ⟨CRS_CST_1 n, 31, 0⟩
/-- Offset of CRS_CST_n_2. -/
abbrev CRS_CST_2 (n : Nat) : Nat := 0x61008 + 0x20 * n
abbrev CRS_CST_2_TW (n : Nat) : Fld := ⟨CRS_CST_2 n, 31, 0⟩
/-- Offset of CRS_CST_n_3. -/
abbrev CRS_CST_3 (n : Nat) : Nat := 0x6100c + 0x20 * n
abbrev CRS_CST_3_TW (n : Nat) : Fld := ⟨CRS_CST_3 n, 31, 0⟩
/-- Offset of CRS_CST_n_4. -/
abbrev CRS_CST_4 (n : Nat) : Nat := 0x61010 + 0x20 * n
abbrev CRS_CST_4_ANGLE (n : Nat) : Fld := ⟨CRS_CST_4 n, 31, 0⟩
/-- Offset of CRS_CST_n_5. -/
abbrev CRS_CST_5 (n : Nat) : Nat := 0x61014 + 0x20 * n
abbrev CRS_CST_5_CYCLE (n : Nat) : Fld := ⟨CRS_CST_5 n, 31, 0⟩
/-- Offset of CRS_CST_n_6. -/
abbrev CRS_CST_6 (n : Nat) : Nat := 0x61018 + 0x20 * n
abbrev CRS_CST_6_TRK (n : Nat) : Fld := ⟨CRS_CST_6 n, 9, 8⟩
abbrev CRS_CST_6_EPOCH (n : Nat) : Fld := ⟨CRS_CST_6 n, 7, 0⟩
/-- Offset of CRS_CST_n_7. -/
abbrev CRS_CST_7 (n : Nat) : Nat := 0x6101c + 0x20 * n
abbrev CRS_CST_7_SEQ (n : Nat) : Fld := ⟨CRS_CST_7 n, 31, 0⟩
/-- Offset of AFEg_RPT_CTL. -/
abbrev AFE_RPT_CTL (g : Nat) : Nat := 0x100020 + 0x1000 * g
abbrev AFE_RPT_CTL_EN (g : Nat) : Fld := ⟨AFE_RPT_CTL g, 31, 31⟩
abbrev AFE_RPT_CTL_FADE (g : Nat) : Fld := ⟨AFE_RPT_CTL g, 19, 16⟩
abbrev AFE_RPT_CTL_INTERVAL (g : Nat) : Fld := ⟨AFE_RPT_CTL g, 15, 0⟩
/-- Offset of AFEg_RPT_STAT. -/
abbrev AFE_RPT_STAT (g : Nat) : Nat := 0x100024 + 0x1000 * g
abbrev AFE_RPT_STAT_AGE (g : Nat) : Fld := ⟨AFE_RPT_STAT g, 31, 31⟩
abbrev AFE_RPT_STAT_NOSPARE (g : Nat) : Fld := ⟨AFE_RPT_STAT g, 30, 30⟩
abbrev AFE_RPT_STAT_SPARES (g : Nat) : Fld := ⟨AFE_RPT_STAT g, 29, 28⟩
abbrev AFE_RPT_STAT_SHADOW (g : Nat) : Fld := ⟨AFE_RPT_STAT g, 27, 27⟩
abbrev AFE_RPT_STAT_CALIB (g : Nat) : Fld := ⟨AFE_RPT_STAT g, 26, 26⟩
abbrev AFE_RPT_STAT_FADE (g : Nat) : Fld := ⟨AFE_RPT_STAT g, 25, 25⟩
abbrev AFE_RPT_STAT_CALIB_CV (g : Nat) : Fld := ⟨AFE_RPT_STAT g, 14, 10⟩
abbrev AFE_RPT_STAT_SHADOW_CV (g : Nat) : Fld := ⟨AFE_RPT_STAT g, 9, 5⟩
abbrev AFE_RPT_STAT_TARGET_CV (g : Nat) : Fld := ⟨AFE_RPT_STAT g, 4, 0⟩
/-- Offset of AFEg_RPT_LIM. -/
abbrev AFE_RPT_LIM (g : Nat) : Nat := 0x100028 + 0x1000 * g
abbrev AFE_RPT_LIM_GAIN (g : Nat) : Fld := ⟨AFE_RPT_LIM g, 31, 16⟩
abbrev AFE_RPT_LIM_OFS (g : Nat) : Fld := ⟨AFE_RPT_LIM g, 15, 0⟩
/-- Offset of AFEg_RPT_CNT. -/
abbrev AFE_RPT_CNT (g : Nat) : Nat := 0x10002c + 0x1000 * g
abbrev AFE_RPT_CNT_ABANDONED (g : Nat) : Fld := ⟨AFE_RPT_CNT g, 31, 16⟩
abbrev AFE_RPT_CNT_STEPS (g : Nat) : Fld := ⟨AFE_RPT_CNT g, 15, 0⟩
/-- Offset of AFEg_SENSE. -/
abbrev AFE_SENSE (g : Nat) : Nat := 0x100030 + 0x1000 * g
abbrev AFE_SENSE_NODE (g : Nat) : Fld := ⟨AFE_SENSE g, 5, 4⟩
abbrev AFE_SENSE_CH (g : Nat) : Fld := ⟨AFE_SENSE g, 2, 0⟩
/-- Offset of AFEg_PROOF_CTL. -/
abbrev AFE_PROOF_CTL (g : Nat) : Nat := 0x100034 + 0x1000 * g
abbrev AFE_PROOF_CTL_START (g : Nat) : Fld := ⟨AFE_PROOF_CTL g, 31, 31⟩
abbrev AFE_PROOF_CTL_TEST (g : Nat) : Fld := ⟨AFE_PROOF_CTL g, 9, 8⟩
abbrev AFE_PROOF_CTL_CH (g : Nat) : Fld := ⟨AFE_PROOF_CTL g, 2, 0⟩
/-- Offset of AFEg_PROOF_STAT. -/
abbrev AFE_PROOF_STAT (g : Nat) : Nat := 0x100038 + 0x1000 * g
abbrev AFE_PROOF_STAT_DONE (g : Nat) : Fld := ⟨AFE_PROOF_STAT g, 31, 31⟩
abbrev AFE_PROOF_STAT_BUSY (g : Nat) : Fld := ⟨AFE_PROOF_STAT g, 30, 30⟩
abbrev AFE_PROOF_STAT_WAIT (g : Nat) : Fld := ⟨AFE_PROOF_STAT g, 29, 29⟩
abbrev AFE_PROOF_STAT_RESULT (g : Nat) : Fld := ⟨AFE_PROOF_STAT g, 23, 16⟩
abbrev AFE_PROOF_STAT_CH (g : Nat) : Fld := ⟨AFE_PROOF_STAT g, 2, 0⟩
/-- Offset of AFEg_PROOF_RES. -/
abbrev AFE_PROOF_RES (g : Nat) : Nat := 0x10003c + 0x1000 * g
abbrev AFE_PROOF_RES_VAL (g : Nat) : Fld := ⟨AFE_PROOF_RES g, 31, 0⟩
/-- Offset of AFEg_REF_VAL. -/
abbrev AFE_REF_VAL (g : Nat) : Nat := 0x100040 + 0x1000 * g
abbrev AFE_REF_VAL_UV (g : Nat) : Fld := ⟨AFE_REF_VAL g, 31, 0⟩
/-- Offset of AFEg_PDAC_G. -/
abbrev AFE_PDAC_G (g : Nat) : Nat := 0x100044 + 0x1000 * g
abbrev AFE_PDAC_G_G (g : Nat) : Fld := ⟨AFE_PDAC_G g, 31, 0⟩
/-- Offset of AFEg_PDAC_O. -/
abbrev AFE_PDAC_O (g : Nat) : Nat := 0x100048 + 0x1000 * g
abbrev AFE_PDAC_O_UV (g : Nat) : Fld := ⟨AFE_PDAC_O g, 31, 0⟩
/-- Offset of AFEg_CHc_CFG. -/
abbrev AFE_CH_CFG (g c : Nat) : Nat := 0x100100 + 0x1000 * g + 0x40 * c
abbrev AFE_CH_CFG_DYE (g c : Nat) : Fld := ⟨AFE_CH_CFG g c, 27, 24⟩
abbrev AFE_CH_CFG_PROF (g c : Nat) : Fld := ⟨AFE_CH_CFG g c, 19, 16⟩
abbrev AFE_CH_CFG_KIND (g c : Nat) : Fld := ⟨AFE_CH_CFG g c, 9, 8⟩
abbrev AFE_CH_CFG_MODE (g c : Nat) : Fld := ⟨AFE_CH_CFG g c, 1, 0⟩
/-- Offset of AFEg_CHc_CTL. -/
abbrev AFE_CH_CTL (g c : Nat) : Nat := 0x100104 + 0x1000 * g + 0x40 * c
abbrev AFE_CH_CTL_OOS (g c : Nat) : Fld := ⟨AFE_CH_CTL g c, 0, 0⟩
/-- Offset of AFEg_CHc_STAT. -/
abbrev AFE_CH_STAT (g c : Nat) : Nat := 0x100108 + 0x1000 * g + 0x40 * c
abbrev AFE_CH_STAT_OPEN (g c : Nat) : Fld := ⟨AFE_CH_STAT g c, 5, 5⟩
abbrev AFE_CH_STAT_FUSE_HI (g c : Nat) : Fld := ⟨AFE_CH_STAT g c, 4, 4⟩
abbrev AFE_CH_STAT_SUBST (g c : Nat) : Fld := ⟨AFE_CH_STAT g c, 3, 3⟩
abbrev AFE_CH_STAT_OVR (g c : Nat) : Fld := ⟨AFE_CH_STAT g c, 2, 2⟩
abbrev AFE_CH_STAT_OOS (g c : Nat) : Fld := ⟨AFE_CH_STAT g c, 1, 1⟩
/-- Offset of AFEg_CHc_MAP. -/
abbrev AFE_CH_MAP (g c : Nat) : Nat := 0x10010c + 0x1000 * g + 0x40 * c
abbrev AFE_CH_MAP_CV_B (g c : Nat) : Fld := ⟨AFE_CH_MAP g c, 12, 8⟩
abbrev AFE_CH_MAP_CV_A (g c : Nat) : Fld := ⟨AFE_CH_MAP g c, 4, 0⟩
/-- Offset of AFEg_CHc_RES. -/
abbrev AFE_CH_RES (g c : Nat) : Nat := 0x100110 + 0x1000 * g + 0x40 * c
abbrev AFE_CH_RES_SAMPLE (g c : Nat) : Fld := ⟨AFE_CH_RES g c, 31, 0⟩
/-- Offset of AFEg_CHc_MATCH_G. -/
abbrev AFE_CH_MATCH_G (g c : Nat) : Nat := 0x100114 + 0x1000 * g + 0x40 * c
abbrev AFE_CH_MATCH_G_G (g c : Nat) : Fld := ⟨AFE_CH_MATCH_G g c, 31, 0⟩
/-- Offset of AFEg_CHc_MATCH_O. -/
abbrev AFE_CH_MATCH_O (g c : Nat) : Nat := 0x100118 + 0x1000 * g + 0x40 * c
abbrev AFE_CH_MATCH_O_LSB (g c : Nat) : Fld := ⟨AFE_CH_MATCH_O g c, 31, 0⟩
/-- Offset of AFEg_CHc_CAL_G. -/
abbrev AFE_CH_CAL_G (g c : Nat) : Nat := 0x10011c + 0x1000 * g + 0x40 * c
abbrev AFE_CH_CAL_G_G (g c : Nat) : Fld := ⟨AFE_CH_CAL_G g c, 31, 0⟩
/-- Offset of AFEg_CHc_CAL_O. -/
abbrev AFE_CH_CAL_O (g c : Nat) : Nat := 0x100120 + 0x1000 * g + 0x40 * c
abbrev AFE_CH_CAL_O_LSB (g c : Nat) : Fld := ⟨AFE_CH_CAL_O g c, 31, 0⟩
/-- Offset of AFEg_CHc_SKEW. -/
abbrev AFE_CH_SKEW (g c : Nat) : Nat := 0x100124 + 0x1000 * g + 0x40 * c
abbrev AFE_CH_SKEW_PS (g c : Nat) : Fld := ⟨AFE_CH_SKEW g c, 31, 0⟩
/-- Offset of AFEg_CHc_RATIO. -/
abbrev AFE_CH_RATIO (g c : Nat) : Nat := 0x100128 + 0x1000 * g + 0x40 * c
abbrev AFE_CH_RATIO_RATIO (g c : Nat) : Fld := ⟨AFE_CH_RATIO g c, 31, 0⟩
/-- Offset of AFEg_CVv_STAT. -/
abbrev AFE_CV_STAT (g v : Nat) : Nat := 0x100400 + 0x1000 * g + 0x10 * v
abbrev AFE_CV_STAT_STATE (g v : Nat) : Fld := ⟨AFE_CV_STAT g v, 10, 8⟩
abbrev AFE_CV_STAT_PATH (g v : Nat) : Fld := ⟨AFE_CV_STAT g v, 7, 7⟩
abbrev AFE_CV_STAT_ROLE (g v : Nat) : Fld := ⟨AFE_CV_STAT g v, 6, 6⟩
abbrev AFE_CV_STAT_CH (g v : Nat) : Fld := ⟨AFE_CV_STAT g v, 2, 0⟩
/-- Offset of AFEg_CVv_OFS. -/
abbrev AFE_CV_OFS (g v : Nat) : Nat := 0x100404 + 0x1000 * g + 0x10 * v
abbrev AFE_CV_OFS_OFS (g v : Nat) : Fld := ⟨AFE_CV_OFS g v, 31, 0⟩
/-- Offset of AFEg_CVv_GAIN. -/
abbrev AFE_CV_GAIN (g v : Nat) : Nat := 0x100408 + 0x1000 * g + 0x10 * v
abbrev AFE_CV_GAIN_G (g v : Nat) : Fld := ⟨AFE_CV_GAIN g v, 31, 0⟩
/-- Offset of AFEg_CVv_AGE. -/
abbrev AFE_CV_AGE (g v : Nat) : Nat := 0x10040c + 0x1000 * g + 0x10 * v
abbrev AFE_CV_AGE_MS (g v : Nat) : Fld := ⟨AFE_CV_AGE g v, 31, 0⟩
/-- Offset of HKC_CTL. -/
abbrev HKC_CTL : Nat := 0x180020
abbrev HKC_CTL_CAL_INT : Fld := ⟨HKC_CTL, 31, 16⟩
abbrev HKC_CTL_THR : Fld := ⟨HKC_CTL, 6, 0⟩
/-- Offset of HKC_SEL. -/
abbrev HKC_SEL : Nat := 0x180024
abbrev HKC_SEL_N : Fld := ⟨HKC_SEL, 23, 16⟩
abbrev HKC_SEL_SHIFT : Fld := ⟨HKC_SEL, 11, 8⟩
abbrev HKC_SEL_SRC : Fld := ⟨HKC_SEL, 4, 0⟩
/-- Offset of HKC_CMD. -/
abbrev HKC_CMD : Nat := 0x180028
abbrev HKC_CMD_FLUSH : Fld := ⟨HKC_CMD, 1, 1⟩
abbrev HKC_CMD_CAL : Fld := ⟨HKC_CMD, 0, 0⟩
/-- Offset of HKC_STAT. -/
abbrev HKC_STAT : Nat := 0x18002c
abbrev HKC_STAT_REQ_LOST : Fld := ⟨HKC_STAT, 31, 31⟩
abbrev HKC_STAT_Q_OVF : Fld := ⟨HKC_STAT, 30, 30⟩
abbrev HKC_STAT_SEL_ERR : Fld := ⟨HKC_STAT, 29, 29⟩
abbrev HKC_STAT_CAL_FAIL : Fld := ⟨HKC_STAT, 28, 28⟩
abbrev HKC_STAT_CAL_WAIT : Fld := ⟨HKC_STAT, 27, 27⟩
abbrev HKC_STAT_CAL_BUSY : Fld := ⟨HKC_STAT, 26, 26⟩
abbrev HKC_STAT_CONV_BUSY : Fld := ⟨HKC_STAT, 25, 25⟩
abbrev HKC_STAT_LAST_SEQ : Fld := ⟨HKC_STAT, 23, 16⟩
abbrev HKC_STAT_REQ_DEPTH : Fld := ⟨HKC_STAT, 11, 8⟩
abbrev HKC_STAT_Q_DEPTH : Fld := ⟨HKC_STAT, 6, 0⟩
/-- Offset of HKC_LOST. -/
abbrev HKC_LOST : Nat := 0x180030
abbrev HKC_LOST_REQ : Fld := ⟨HKC_LOST, 31, 16⟩
abbrev HKC_LOST_ENTRY : Fld := ⟨HKC_LOST, 15, 0⟩
/-- Offset of HKC_CAL_OFS. -/
abbrev HKC_CAL_OFS : Nat := 0x180034
abbrev HKC_CAL_OFS_OFS : Fld := ⟨HKC_CAL_OFS, 31, 0⟩
/-- Offset of HKC_CAL_GAIN. -/
abbrev HKC_CAL_GAIN : Nat := 0x180038
abbrev HKC_CAL_GAIN_G : Fld := ⟨HKC_CAL_GAIN, 31, 0⟩
/-- Offset of HKC_CAL_AGE. -/
abbrev HKC_CAL_AGE : Nat := 0x18003c
abbrev HKC_CAL_AGE_MS : Fld := ⟨HKC_CAL_AGE, 31, 0⟩
/-- Offset of HKC_Q_0. -/
abbrev HKC_Q_0 : Nat := 0x180040
abbrev HKC_Q_0_HDR : Fld := ⟨HKC_Q_0, 31, 0⟩
/-- Offset of HKC_Q_1. -/
abbrev HKC_Q_1 : Nat := 0x180044
abbrev HKC_Q_1_VAL : Fld := ⟨HKC_Q_1, 31, 0⟩
/-- Offset of HKC_Q_2. -/
abbrev HKC_Q_2 : Nat := 0x180048
abbrev HKC_Q_2_TW : Fld := ⟨HKC_Q_2, 31, 0⟩
/-- Offset of HKC_Q_3. -/
abbrev HKC_Q_3 : Nat := 0x18004c
abbrev HKC_Q_3_TW : Fld := ⟨HKC_Q_3, 31, 0⟩
/-- Offset of HKC_Q_4. -/
abbrev HKC_Q_4 : Nat := 0x180050
abbrev HKC_Q_4_TW : Fld := ⟨HKC_Q_4, 31, 0⟩
/-- Offset of FLT_CMD. -/
abbrev FLT_CMD : Nat := 0x200020
abbrev FLT_CMD_SYNC : Fld := ⟨FLT_CMD, 31, 31⟩
abbrev FLT_CMD_PMASK : Fld := ⟨FLT_CMD, 15, 0⟩
/-- Offset of FLT_STAT. -/
abbrev FLT_STAT : Nat := 0x200024
abbrev FLT_STAT_SWAP_REPLACED : Fld := ⟨FLT_STAT, 31, 31⟩
abbrev FLT_STAT_SHED : Fld := ⟨FLT_STAT, 30, 30⟩
abbrev FLT_STAT_RUN : Fld := ⟨FLT_STAT, 15, 0⟩
/-- Offset of FLT_LOAD_FULL. -/
abbrev FLT_LOAD_FULL : Nat := 0x200028
abbrev FLT_LOAD_FULL_KMACS : Fld := ⟨FLT_LOAD_FULL, 31, 0⟩
/-- Offset of FLT_LOAD_LEAN. -/
abbrev FLT_LOAD_LEAN : Nat := 0x20002c
abbrev FLT_LOAD_LEAN_KMACS : Fld := ⟨FLT_LOAD_LEAN, 31, 0⟩
/-- Offset of FLT_LOAD_GUARD. -/
abbrev FLT_LOAD_GUARD : Nat := 0x200030
abbrev FLT_LOAD_GUARD_KMACS : Fld := ⟨FLT_LOAD_GUARD, 31, 0⟩
/-- Offset of FLT_CAP. -/
abbrev FLT_CAP : Nat := 0x200034
abbrev FLT_CAP_KMACS : Fld := ⟨FLT_CAP, 31, 0⟩
/-- Offset of FLT_ORIGIN_0. -/
abbrev FLT_ORIGIN_0 : Nat := 0x200040
abbrev FLT_ORIGIN_0_TW : Fld := ⟨FLT_ORIGIN_0, 31, 0⟩
/-- Offset of FLT_ORIGIN_1. -/
abbrev FLT_ORIGIN_1 : Nat := 0x200044
abbrev FLT_ORIGIN_1_TW : Fld := ⟨FLT_ORIGIN_1, 31, 0⟩
/-- Offset of FLT_ORIGIN_2. -/
abbrev FLT_ORIGIN_2 : Nat := 0x200048
abbrev FLT_ORIGIN_2_TW : Fld := ⟨FLT_ORIGIN_2, 31, 0⟩
/-- Offset of FLT_PROFp_CFG. -/
abbrev FLT_PROF_CFG (p : Nat) : Nat := 0x200100 + 0x20 * p
abbrev FLT_PROF_CFG_GSH (p : Nat) : Fld := ⟨FLT_PROF_CFG p, 26, 24⟩
abbrev FLT_PROF_CFG_LEVEL (p : Nat) : Fld := ⟨FLT_PROF_CFG p, 21, 20⟩
abbrev FLT_PROF_CFG_SYM (p : Nat) : Fld := ⟨FLT_PROF_CFG p, 16, 16⟩
abbrev FLT_PROF_CFG_DSEL (p : Nat) : Fld := ⟨FLT_PROF_CFG p, 14, 12⟩
abbrev FLT_PROF_CFG_TAPS (p : Nat) : Fld := ⟨FLT_PROF_CFG p, 8, 0⟩
/-- Offset of FLT_PROFp_GD. -/
abbrev FLT_PROF_GD (p : Nat) : Nat := 0x200104 + 0x20 * p
abbrev FLT_PROF_GD_GD (p : Nat) : Fld := ⟨FLT_PROF_GD p, 31, 0⟩
/-- Offset of FLT_PROFp_CTL. -/
abbrev FLT_PROF_CTL (p : Nat) : Nat := 0x200108 + 0x20 * p
abbrev FLT_PROF_CTL_BANK (p : Nat) : Fld := ⟨FLT_PROF_CTL p, 0, 0⟩
/-- Offset of FLT_PROFp_STAT. -/
abbrev FLT_PROF_STAT (p : Nat) : Nat := 0x20010c + 0x20 * p
abbrev FLT_PROF_STAT_FADING (p : Nat) : Fld := ⟨FLT_PROF_STAT p, 31, 31⟩
abbrev FLT_PROF_STAT_QUEUED (p : Nat) : Fld := ⟨FLT_PROF_STAT p, 30, 30⟩
abbrev FLT_PROF_STAT_QBANK (p : Nat) : Fld := ⟨FLT_PROF_STAT p, 29, 29⟩
abbrev FLT_PROF_STAT_ACTIVE (p : Nat) : Fld := ⟨FLT_PROF_STAT p, 28, 28⟩
abbrev FLT_PROF_STAT_TARGET (p : Nat) : Fld := ⟨FLT_PROF_STAT p, 27, 27⟩
abbrev FLT_PROF_STAT_ALPHA (p : Nat) : Fld := ⟨FLT_PROF_STAT p, 16, 0⟩
/-- Offset of FLT_PROFp_XF. -/
abbrev FLT_PROF_XF (p : Nat) : Nat := 0x200110 + 0x20 * p
abbrev FLT_PROF_XF_LEN (p : Nat) : Fld := ⟨FLT_PROF_XF p, 15, 0⟩
/-- Offset of FLT_PROFp_CNT. -/
abbrev FLT_PROF_CNT (p : Nat) : Nat := 0x200114 + 0x20 * p
abbrev FLT_PROF_CNT_REPLACED (p : Nat) : Fld := ⟨FLT_PROF_CNT p, 31, 16⟩
abbrev FLT_PROF_CNT_SWAPS (p : Nat) : Fld := ⟨FLT_PROF_CNT p, 15, 0⟩
/-- Offset of FLT_GD_n. -/
abbrev FLT_GD (n : Nat) : Nat := 0x200800 + 0x4 * n
abbrev FLT_GD_GD (n : Nat) : Fld := ⟨FLT_GD n, 31, 0⟩
/-- Offset of FLT_CH_STAT_n. -/
abbrev FLT_CH_STAT (n : Nat) : Nat := 0x200a00 + 0x4 * n
abbrev FLT_CH_STAT_UNS (n : Nat) : Fld := ⟨FLT_CH_STAT n, 31, 31⟩
abbrev FLT_CH_STAT_REMAIN (n : Nat) : Fld := ⟨FLT_CH_STAT n, 8, 0⟩
/-- Offset of FLT_COEF_p_b_k. -/
abbrev FLT_COEF (p b k : Nat) : Nat := 0x210000 + 0x1000 * p + 0x800 * b + 0x4 * k
abbrev FLT_COEF_SX (p b k : Nat) : Fld := ⟨FLT_COEF p b k, 31, 24⟩
abbrev FLT_COEF_COEF (p b k : Nat) : Fld := ⟨FLT_COEF p b k, 23, 0⟩
/-- Offset of PRT_RUN. -/
abbrev PRT_RUN : Nat := 0x300020
abbrev PRT_RUN_SENT : Fld := ⟨PRT_RUN, 16, 16⟩
abbrev PRT_RUN_RUN : Fld := ⟨PRT_RUN, 11, 0⟩
/-- Offset of PRT_OPMASK. -/
abbrev PRT_OPMASK : Nat := 0x300024
abbrev PRT_OPMASK_OP : Fld := ⟨PRT_OPMASK, 11, 0⟩
/-- Offset of PRT_Ff_CFG. -/
abbrev PRT_F_CFG (f : Nat) : Nat := 0x301000 + 0x1000 * f
abbrev PRT_F_CFG_EN (f : Nat) : Fld := ⟨PRT_F_CFG f, 31, 31⟩
abbrev PRT_F_CFG_ROT (f : Nat) : Fld := ⟨PRT_F_CFG f, 8, 8⟩
/-- Offset of PRT_Ff_STAT. -/
abbrev PRT_F_STAT (f : Nat) : Nat := 0x301004 + 0x1000 * f
abbrev PRT_F_STAT_REFIRE (f : Nat) : Fld := ⟨PRT_F_STAT f, 31, 31⟩
abbrev PRT_F_STAT_NOGRID (f : Nat) : Fld := ⟨PRT_F_STAT f, 30, 30⟩
abbrev PRT_F_STAT_UNS (f : Nat) : Fld := ⟨PRT_F_STAT f, 29, 29⟩
abbrev PRT_F_STAT_STALE (f : Nat) : Fld := ⟨PRT_F_STAT f, 28, 28⟩
/-- Offset of PRT_Ff_SG. -/
abbrev PRT_F_SG (f : Nat) : Nat := 0x301008 + 0x1000 * f
abbrev PRT_F_SG_SG (f : Nat) : Fld := ⟨PRT_F_SG f, 1, 0⟩
/-- Offset of PRT_Ff_BLK. -/
abbrev PRT_F_BLK (f : Nat) : Nat := 0x30100c + 0x1000 * f
abbrev PRT_F_BLK_BLK (f : Nat) : Fld := ⟨PRT_F_BLK f, 23, 0⟩
/-- Offset of PRT_Ff_PU. -/
abbrev PRT_F_PU (f : Nat) : Nat := 0x301010 + 0x1000 * f
abbrev PRT_F_PU_MASK (f : Nat) : Fld := ⟨PRT_F_PU f, 23, 0⟩
/-- Offset of PRT_Ff_OP. -/
abbrev PRT_F_OP (f : Nat) : Nat := 0x301014 + 0x1000 * f
abbrev PRT_F_OP_MASK (f : Nat) : Fld := ⟨PRT_F_OP f, 23, 0⟩
/-- Offset of PRT_Ff_NOM_I. -/
abbrev PRT_F_NOM_I (f : Nat) : Nat := 0x301020 + 0x1000 * f
abbrev PRT_F_NOM_I_NOM (f : Nat) : Fld := ⟨PRT_F_NOM_I f, 31, 0⟩
/-- Offset of PRT_Ff_NOM_V. -/
abbrev PRT_F_NOM_V (f : Nat) : Nat := 0x301024 + 0x1000 * f
abbrev PRT_F_NOM_V_NOM (f : Nat) : Fld := ⟨PRT_F_NOM_V f, 31, 0⟩
/-- Offset of PRT_Ff_IN_q. -/
abbrev PRT_F_IN (f q : Nat) : Nat := 0x301030 + 0x1000 * f + 0x4 * q
abbrev PRT_F_IN_KIND (f q : Nat) : Fld := ⟨PRT_F_IN f q, 31, 30⟩
abbrev PRT_F_IN_INDEX (f q : Nat) : Fld := ⟨PRT_F_IN f q, 15, 0⟩
/-- Offset of PRT_Ff_UPD_0. -/
abbrev PRT_F_UPD_0 (f : Nat) : Nat := 0x301060 + 0x1000 * f
abbrev PRT_F_UPD_0_EPOCH (f : Nat) : Fld := ⟨PRT_F_UPD_0 f, 15, 8⟩
abbrev PRT_F_UPD_0_U (f : Nat) : Fld := ⟨PRT_F_UPD_0 f, 3, 0⟩
/-- Offset of PRT_Ff_UPD_1. -/
abbrev PRT_F_UPD_1 (f : Nat) : Nat := 0x301064 + 0x1000 * f
abbrev PRT_F_UPD_1_CYCLE (f : Nat) : Fld := ⟨PRT_F_UPD_1 f, 31, 0⟩
/-- Offset of PRT_Ff_UPD_2. -/
abbrev PRT_F_UPD_2 (f : Nat) : Nat := 0x301068 + 0x1000 * f
abbrev PRT_F_UPD_2_ANGLE (f : Nat) : Fld := ⟨PRT_F_UPD_2 f, 31, 0⟩
/-- Offset of PRT_Ff_UPD_3. -/
abbrev PRT_F_UPD_3 (f : Nat) : Nat := 0x30106c + 0x1000 * f
abbrev PRT_F_UPD_3_TW (f : Nat) : Fld := ⟨PRT_F_UPD_3 f, 31, 0⟩
/-- Offset of PRT_Ff_UPD_4. -/
abbrev PRT_F_UPD_4 (f : Nat) : Nat := 0x301070 + 0x1000 * f
abbrev PRT_F_UPD_4_TW (f : Nat) : Fld := ⟨PRT_F_UPD_4 f, 31, 0⟩
/-- Offset of PRT_Ff_UPD_5. -/
abbrev PRT_F_UPD_5 (f : Nat) : Nat := 0x301074 + 0x1000 * f
abbrev PRT_F_UPD_5_TW (f : Nat) : Fld := ⟨PRT_F_UPD_5 f, 31, 0⟩
/-- Offset of PRT_Ff_PHq_0. -/
abbrev PRT_F_PH_0 (f q : Nat) : Nat := 0x301100 + 0x1000 * f + 0x10 * q
abbrev PRT_F_PH_0_MAG_LO (f q : Nat) : Fld := ⟨PRT_F_PH_0 f q, 31, 0⟩
/-- Offset of PRT_Ff_PHq_1. -/
abbrev PRT_F_PH_1 (f q : Nat) : Nat := 0x301104 + 0x1000 * f + 0x10 * q
abbrev PRT_F_PH_1_UNS (f q : Nat) : Fld := ⟨PRT_F_PH_1 f q, 31, 31⟩
abbrev PRT_F_PH_1_OVR (f q : Nat) : Fld := ⟨PRT_F_PH_1 f q, 30, 30⟩
abbrev PRT_F_PH_1_SUB (f q : Nat) : Fld := ⟨PRT_F_PH_1 f q, 29, 29⟩
abbrev PRT_F_PH_1_STALE (f q : Nat) : Fld := ⟨PRT_F_PH_1 f q, 28, 28⟩
abbrev PRT_F_PH_1_MAG_HI (f q : Nat) : Fld := ⟨PRT_F_PH_1 f q, 7, 0⟩
/-- Offset of PRT_Ff_PHq_2. -/
abbrev PRT_F_PH_2 (f q : Nat) : Nat := 0x301108 + 0x1000 * f + 0x10 * q
abbrev PRT_F_PH_2_ANGLE (f q : Nat) : Fld := ⟨PRT_F_PH_2 f q, 31, 0⟩
/-- Offset of PRT_Ff_Ee_STAT. -/
abbrev PRT_F_E_STAT (f e : Nat) : Nat := 0x301200 + 0x1000 * f + 0x10 * e
abbrev PRT_F_E_STAT_OP (f e : Nat) : Fld := ⟨PRT_F_E_STAT f e, 31, 31⟩
abbrev PRT_F_E_STAT_PU (f e : Nat) : Fld := ⟨PRT_F_E_STAT f e, 30, 30⟩
abbrev PRT_F_E_STAT_PHASE (f e : Nat) : Fld := ⟨PRT_F_E_STAT f e, 29, 27⟩
abbrev PRT_F_E_STAT_DIRF (f e : Nat) : Fld := ⟨PRT_F_E_STAT f e, 26, 26⟩
abbrev PRT_F_E_STAT_DIRR (f e : Nat) : Fld := ⟨PRT_F_E_STAT f e, 25, 25⟩
abbrev PRT_F_E_STAT_MEM (f e : Nat) : Fld := ⟨PRT_F_E_STAT f e, 24, 24⟩
abbrev PRT_F_E_STAT_CAUSE (f e : Nat) : Fld := ⟨PRT_F_E_STAT f e, 23, 20⟩
abbrev PRT_F_E_STAT_RETRIP (f e : Nat) : Fld := ⟨PRT_F_E_STAT f e, 19, 19⟩
/-- Offset of PRT_Ff_Ee_ACC. -/
abbrev PRT_F_E_ACC (f e : Nat) : Nat := 0x301204 + 0x1000 * f + 0x10 * e
abbrev PRT_F_E_ACC_ACC (f e : Nat) : Fld := ⟨PRT_F_E_ACC f e, 31, 0⟩
/-- Offset of PRT_Ff_Ee_CNT. -/
abbrev PRT_F_E_CNT (f e : Nat) : Nat := 0x301208 + 0x1000 * f + 0x10 * e
abbrev PRT_F_E_CNT_OPS (f e : Nat) : Fld := ⟨PRT_F_E_CNT f e, 31, 0⟩
/-- Offset of PRT_Ff_SGs_Ee_CFG. -/
abbrev PRT_F_SG_E_CFG (f s e : Nat) : Nat := 0x301400 + 0x1000 * f + 0x200 * (s - 1) + 0x10 * e
abbrev PRT_F_SG_E_CFG_EN (f s e : Nat) : Fld := ⟨PRT_F_SG_E_CFG f s e, 31, 31⟩
abbrev PRT_F_SG_E_CFG_CURVE (f s e : Nat) : Fld := ⟨PRT_F_SG_E_CFG f s e, 27, 24⟩
abbrev PRT_F_SG_E_CFG_RESET (f s e : Nat) : Fld := ⟨PRT_F_SG_E_CFG f s e, 23, 23⟩
abbrev PRT_F_SG_E_CFG_HALF (f s e : Nat) : Fld := ⟨PRT_F_SG_E_CFG f s e, 22, 22⟩
abbrev PRT_F_SG_E_CFG_DIR (f s e : Nat) : Fld := ⟨PRT_F_SG_E_CFG f s e, 21, 20⟩
abbrev PRT_F_SG_E_CFG_SRC (f s e : Nat) : Fld := ⟨PRT_F_SG_E_CFG f s e, 19, 18⟩
abbrev PRT_F_SG_E_CFG_LOGIC (f s e : Nat) : Fld := ⟨PRT_F_SG_E_CFG f s e, 17, 16⟩
abbrev PRT_F_SG_E_CFG_TRIP (f s e : Nat) : Fld := ⟨PRT_F_SG_E_CFG f s e, 15, 15⟩
abbrev PRT_F_SG_E_CFG_BFI (f s e : Nat) : Fld := ⟨PRT_F_SG_E_CFG f s e, 14, 14⟩
/-- Offset of PRT_Ff_SGs_Ee_PICKUP. -/
abbrev PRT_F_SG_E_PICKUP (f s e : Nat) : Nat := 0x301404 + 0x1000 * f + 0x200 * (s - 1) + 0x10 * e
abbrev PRT_F_SG_E_PICKUP_PICKUP (f s e : Nat) : Fld := ⟨PRT_F_SG_E_PICKUP f s e, 31, 0⟩
/-- Offset of PRT_Ff_SGs_Ee_TIME. -/
abbrev PRT_F_SG_E_TIME (f s e : Nat) : Nat := 0x301408 + 0x1000 * f + 0x200 * (s - 1) + 0x10 * e
abbrev PRT_F_SG_E_TIME_TIME (f s e : Nat) : Fld := ⟨PRT_F_SG_E_TIME f s e, 31, 0⟩
/-- Offset of PRT_Ff_SGs_Ee_AUX. -/
abbrev PRT_F_SG_E_AUX (f s e : Nat) : Nat := 0x30140c + 0x1000 * f + 0x200 * (s - 1) + 0x10 * e
abbrev PRT_F_SG_E_AUX_AUX (f s e : Nat) : Fld := ⟨PRT_F_SG_E_AUX f s e, 31, 0⟩
/-- Offset of PRT_TRIPO_n. -/
abbrev PRT_TRIPO (n : Nat) : Nat := 0x300040 + 0x4 * n
abbrev PRT_TRIPO_EN (n : Nat) : Fld := ⟨PRT_TRIPO n, 31, 31⟩
abbrev PRT_TRIPO_TSTATE (n : Nat) : Fld := ⟨PRT_TRIPO n, 30, 30⟩
abbrev PRT_TRIPO_HOLDING (n : Nat) : Fld := ⟨PRT_TRIPO n, 29, 29⟩
abbrev PRT_TRIPO_HOLD (n : Nat) : Fld := ⟨PRT_TRIPO n, 15, 0⟩
/-- Offset of PRT_Ff_LINK. -/
abbrev PRT_F_LINK (f : Nat) : Nat := 0x301c00 + 0x1000 * f
abbrev PRT_F_LINK_TILES (f : Nat) : Fld := ⟨PRT_F_LINK f, 15, 0⟩
/-- Offset of PRT_Ff_BF_TGT. -/
abbrev PRT_F_BF_TGT (f : Nat) : Nat := 0x301c04 + 0x1000 * f
abbrev PRT_F_BF_TGT_TILES (f : Nat) : Fld := ⟨PRT_F_BF_TGT f, 31, 16⟩
abbrev PRT_F_BF_TGT_FEEDERS (f : Nat) : Fld := ⟨PRT_F_BF_TGT f, 11, 0⟩
/-- Offset of PRT_Ff_BF_EXT. -/
abbrev PRT_F_BF_EXT (f : Nat) : Nat := 0x301c08 + 0x1000 * f
abbrev PRT_F_BF_EXT_EN (f : Nat) : Fld := ⟨PRT_F_BF_EXT f, 31, 31⟩
abbrev PRT_F_BF_EXT_DIO (f : Nat) : Fld := ⟨PRT_F_BF_EXT f, 4, 0⟩
/-- Offset of PRT_Ff_BF_INIT. -/
abbrev PRT_F_BF_INIT (f : Nat) : Nat := 0x301c0c + 0x1000 * f
abbrev PRT_F_BF_INIT_INIT (f : Nat) : Fld := ⟨PRT_F_BF_INIT f, 0, 0⟩
/-- Offset of PRT_Ff_POW_CFG. -/
abbrev PRT_F_POW_CFG (f : Nat) : Nat := 0x301d00 + 0x1000 * f
abbrev PRT_F_POW_CFG_EN (f : Nat) : Fld := ⟨PRT_F_POW_CFG f, 31, 31⟩
abbrev PRT_F_POW_CFG_SRC_OPEN (f : Nat) : Fld := ⟨PRT_F_POW_CFG f, 29, 28⟩
abbrev PRT_F_POW_CFG_SRC_CLOSE (f : Nat) : Fld := ⟨PRT_F_POW_CFG f, 25, 24⟩
abbrev PRT_F_POW_CFG_W (f : Nat) : Fld := ⟨PRT_F_POW_CFG f, 23, 20⟩
abbrev PRT_F_POW_CFG_OPEN_DIO (f : Nat) : Fld := ⟨PRT_F_POW_CFG f, 11, 8⟩
abbrev PRT_F_POW_CFG_CLOSE_DIO (f : Nat) : Fld := ⟨PRT_F_POW_CFG f, 3, 0⟩
/-- Offset of PRT_Ff_POW_DET. -/
abbrev PRT_F_POW_DET (f : Nat) : Nat := 0x301d04 + 0x1000 * f
abbrev PRT_F_POW_DET_OPEN_IN (f : Nat) : Fld := ⟨PRT_F_POW_DET f, 28, 24⟩
abbrev PRT_F_POW_DET_CLOSE_IN (f : Nat) : Fld := ⟨PRT_F_POW_DET f, 20, 16⟩
abbrev PRT_F_POW_DET_DET (f : Nat) : Fld := ⟨PRT_F_POW_DET f, 15, 0⟩
/-- Offset of PRT_Ff_POW_LIM. -/
abbrev PRT_F_POW_LIM (f : Nat) : Nat := 0x301d08 + 0x1000 * f
abbrev PRT_F_POW_LIM_GATE (f : Nat) : Fld := ⟨PRT_F_POW_LIM f, 31, 16⟩
abbrev PRT_F_POW_LIM_MAXT (f : Nat) : Fld := ⟨PRT_F_POW_LIM f, 15, 0⟩
/-- Offset of PRT_Ff_POW_T_CLOSE. -/
abbrev PRT_F_POW_T_CLOSE (f : Nat) : Nat := 0x301d0c + 0x1000 * f
abbrev PRT_F_POW_T_CLOSE_NS (f : Nat) : Fld := ⟨PRT_F_POW_T_CLOSE f, 31, 0⟩
/-- Offset of PRT_Ff_POW_T_OPEN. -/
abbrev PRT_F_POW_T_OPEN (f : Nat) : Nat := 0x301d10 + 0x1000 * f
abbrev PRT_F_POW_T_OPEN_NS (f : Nat) : Fld := ⟨PRT_F_POW_T_OPEN f, 31, 0⟩
/-- Offset of PRT_Ff_POW_TGT_0. -/
abbrev PRT_F_POW_TGT_0 (f : Nat) : Nat := 0x301d14 + 0x1000 * f
abbrev PRT_F_POW_TGT_0_ANGLE (f : Nat) : Fld := ⟨PRT_F_POW_TGT_0 f, 31, 0⟩
/-- Offset of PRT_Ff_POW_TGT_1. -/
abbrev PRT_F_POW_TGT_1 (f : Nat) : Nat := 0x301d18 + 0x1000 * f
abbrev PRT_F_POW_TGT_1_CYCLE (f : Nat) : Fld := ⟨PRT_F_POW_TGT_1 f, 31, 0⟩
/-- Offset of PRT_Ff_POW_ADV_CLOSE_0. -/
abbrev PRT_F_POW_ADV_CLOSE_0 (f : Nat) : Nat := 0x301d20 + 0x1000 * f
abbrev PRT_F_POW_ADV_CLOSE_0_LO (f : Nat) : Fld := ⟨PRT_F_POW_ADV_CLOSE_0 f, 31, 0⟩
/-- Offset of PRT_Ff_POW_ADV_OPEN_0. -/
abbrev PRT_F_POW_ADV_OPEN_0 (f : Nat) : Nat := 0x301d28 + 0x1000 * f
abbrev PRT_F_POW_ADV_OPEN_0_LO (f : Nat) : Fld := ⟨PRT_F_POW_ADV_OPEN_0 f, 31, 0⟩
/-- Offset of PRT_Ff_POW_ADV_CLOSE_1. -/
abbrev PRT_F_POW_ADV_CLOSE_1 (f : Nat) : Nat := 0x301d24 + 0x1000 * f
abbrev PRT_F_POW_ADV_CLOSE_1_HI (f : Nat) : Fld := ⟨PRT_F_POW_ADV_CLOSE_1 f, 31, 0⟩
/-- Offset of PRT_Ff_POW_ADV_OPEN_1. -/
abbrev PRT_F_POW_ADV_OPEN_1 (f : Nat) : Nat := 0x301d2c + 0x1000 * f
abbrev PRT_F_POW_ADV_OPEN_1_HI (f : Nat) : Fld := ⟨PRT_F_POW_ADV_OPEN_1 f, 31, 0⟩
/-- Offset of PRT_Ff_POW_LAST_0. -/
abbrev PRT_F_POW_LAST_0 (f : Nat) : Nat := 0x301d30 + 0x1000 * f
abbrev PRT_F_POW_LAST_0_OP (f : Nat) : Fld := ⟨PRT_F_POW_LAST_0 f, 31, 30⟩
abbrev PRT_F_POW_LAST_0_RESULT (f : Nat) : Fld := ⟨PRT_F_POW_LAST_0 f, 29, 28⟩
abbrev PRT_F_POW_LAST_0_TRK (f : Nat) : Fld := ⟨PRT_F_POW_LAST_0 f, 27, 26⟩
abbrev PRT_F_POW_LAST_0_TGT_VALID (f : Nat) : Fld := ⟨PRT_F_POW_LAST_0 f, 25, 25⟩
abbrev PRT_F_POW_LAST_0_ARMED (f : Nat) : Fld := ⟨PRT_F_POW_LAST_0 f, 24, 24⟩
abbrev PRT_F_POW_LAST_0_EPOCH (f : Nat) : Fld := ⟨PRT_F_POW_LAST_0 f, 23, 16⟩
abbrev PRT_F_POW_LAST_0_REJ (f : Nat) : Fld := ⟨PRT_F_POW_LAST_0 f, 15, 8⟩
/-- Offset of PRT_Ff_POW_LAST_1. -/
abbrev PRT_F_POW_LAST_1 (f : Nat) : Nat := 0x301d34 + 0x1000 * f
abbrev PRT_F_POW_LAST_1_TMEAS (f : Nat) : Fld := ⟨PRT_F_POW_LAST_1 f, 31, 0⟩
/-- Offset of PRT_Ff_POW_LAST_2. -/
abbrev PRT_F_POW_LAST_2 (f : Nat) : Nat := 0x301d38 + 0x1000 * f
abbrev PRT_F_POW_LAST_2_ANGLE (f : Nat) : Fld := ⟨PRT_F_POW_LAST_2 f, 31, 0⟩
/-- Offset of PRT_Ff_POW_LAST_3. -/
abbrev PRT_F_POW_LAST_3 (f : Nat) : Nat := 0x301d3c + 0x1000 * f
abbrev PRT_F_POW_LAST_3_CYCLE (f : Nat) : Fld := ⟨PRT_F_POW_LAST_3 f, 31, 0⟩
/-- Offset of PRT_Ff_POW_LAST_4. -/
abbrev PRT_F_POW_LAST_4 (f : Nat) : Nat := 0x301d40 + 0x1000 * f
abbrev PRT_F_POW_LAST_4_ERR (f : Nat) : Fld := ⟨PRT_F_POW_LAST_4 f, 31, 0⟩
/-- Offset of PRT_Ss_STAT. -/
abbrev PRT_S_STAT (s : Nat) : Nat := 0x30d000 + 0x100 * s
abbrev PRT_S_STAT_QWAIT (s : Nat) : Fld := ⟨PRT_S_STAT s, 23, 16⟩
abbrev PRT_S_STAT_OUT (s : Nat) : Fld := ⟨PRT_S_STAT s, 7, 0⟩
/-- Offset of PRT_Ss_CNT. -/
abbrev PRT_S_CNT (s : Nat) : Nat := 0x30d004 + 0x100 * s
abbrev PRT_S_CNT_DEC (s : Nat) : Fld := ⟨PRT_S_CNT s, 31, 0⟩
/-- Offset of PRT_Ss_LAST_0. -/
abbrev PRT_S_LAST_0 (s : Nat) : Nat := 0x30d008 + 0x100 * s
abbrev PRT_S_LAST_0_EPOCH (s : Nat) : Fld := ⟨PRT_S_LAST_0 s, 15, 8⟩
abbrev PRT_S_LAST_0_MASK (s : Nat) : Fld := ⟨PRT_S_LAST_0 s, 7, 0⟩
/-- Offset of PRT_Ss_LAST_1. -/
abbrev PRT_S_LAST_1 (s : Nat) : Nat := 0x30d00c + 0x100 * s
abbrev PRT_S_LAST_1_TW (s : Nat) : Fld := ⟨PRT_S_LAST_1 s, 31, 0⟩
/-- Offset of PRT_Ss_LAST_2. -/
abbrev PRT_S_LAST_2 (s : Nat) : Nat := 0x30d010 + 0x100 * s
abbrev PRT_S_LAST_2_TW (s : Nat) : Fld := ⟨PRT_S_LAST_2 s, 31, 0⟩
/-- Offset of PRT_Ss_LAST_3. -/
abbrev PRT_S_LAST_3 (s : Nat) : Nat := 0x30d014 + 0x100 * s
abbrev PRT_S_LAST_3_TW (s : Nat) : Fld := ⟨PRT_S_LAST_3 s, 31, 0⟩
/-- Offset of PRT_Ss_Ci_CFG. -/
abbrev PRT_S_C_CFG (s i : Nat) : Nat := 0x30d040 + 0x100 * s + 0x10 * i
abbrev PRT_S_C_CFG_EN (s i : Nat) : Fld := ⟨PRT_S_C_CFG s i, 31, 31⟩
abbrev PRT_S_C_CFG_POL (s i : Nat) : Fld := ⟨PRT_S_C_CFG s i, 17, 16⟩
abbrev PRT_S_C_CFG_COUNT (s i : Nat) : Fld := ⟨PRT_S_C_CFG s i, 12, 8⟩
abbrev PRT_S_C_CFG_CH (s i : Nat) : Fld := ⟨PRT_S_C_CFG s i, 5, 0⟩
/-- Offset of PRT_Ss_Ci_THR. -/
abbrev PRT_S_C_THR (s i : Nat) : Nat := 0x30d044 + 0x100 * s + 0x10 * i
abbrev PRT_S_C_THR_THR (s i : Nat) : Fld := ⟨PRT_S_C_THR s i, 22, 0⟩
/-- Offset of PRT_Ss_Ci_QUAL. -/
abbrev PRT_S_C_QUAL (s i : Nat) : Nat := 0x30d048 + 0x100 * s + 0x10 * i
abbrev PRT_S_C_QUAL_QEN (s i : Nat) : Fld := ⟨PRT_S_C_QUAL s i, 31, 31⟩
abbrev PRT_S_C_QUAL_QDIO (s i : Nat) : Fld := ⟨PRT_S_C_QUAL s i, 20, 16⟩
abbrev PRT_S_C_QUAL_QWIN (s i : Nat) : Fld := ⟨PRT_S_C_QUAL s i, 9, 0⟩
/-- Offset of PRT_Ss_Ci_HOLD. -/
abbrev PRT_S_C_HOLD (s i : Nat) : Nat := 0x30d04c + 0x100 * s + 0x10 * i
abbrev PRT_S_C_HOLD_HOLD (s i : Nat) : Fld := ⟨PRT_S_C_HOLD s i, 15, 0⟩
/-- Offset of ACQ_CMD. -/
abbrev ACQ_CMD : Nat := 0x400020
abbrev ACQ_CMD_FORCE : Fld := ⟨ACQ_CMD, 31, 16⟩
abbrev ACQ_CMD_STOP : Fld := ⟨ACQ_CMD, 15, 8⟩
abbrev ACQ_CMD_ARM : Fld := ⟨ACQ_CMD, 7, 0⟩
/-- Offset of ACQ_STAT. -/
abbrev ACQ_STAT : Nat := 0x400024
abbrev ACQ_STAT_SHED : Fld := ⟨ACQ_STAT, 31, 31⟩
abbrev ACQ_STAT_DONE : Fld := ⟨ACQ_STAT, 23, 16⟩
abbrev ACQ_STAT_TRIGD : Fld := ⟨ACQ_STAT, 15, 8⟩
abbrev ACQ_STAT_ARMED : Fld := ⟨ACQ_STAT, 7, 0⟩
/-- Offset of ACQ_ERR. -/
abbrev ACQ_ERR : Nat := 0x400028
abbrev ACQ_ERR_CODE : Fld := ⟨ACQ_ERR, 31, 24⟩
abbrev ACQ_ERR_ENG : Fld := ⟨ACQ_ERR, 18, 16⟩
abbrev ACQ_ERR_CAP : Fld := ⟨ACQ_ERR, 2, 0⟩
/-- Offset of ACQ_EVAL_DLY. -/
abbrev ACQ_EVAL_DLY : Nat := 0x40002c
abbrev ACQ_EVAL_DLY_NS : Fld := ⟨ACQ_EVAL_DLY, 31, 0⟩
/-- Offset of ACQ_BW. -/
abbrev ACQ_BW : Nat := 0x400030
abbrev ACQ_BW_KBPS : Fld := ⟨ACQ_BW, 31, 0⟩
/-- Offset of ACQ_BUS_CTL. -/
abbrev ACQ_BUS_CTL : Nat := 0x400040
abbrev ACQ_BUS_CTL_TRC : Fld := ⟨ACQ_BUS_CTL, 31, 30⟩
abbrev ACQ_BUS_CTL_RXEN : Fld := ⟨ACQ_BUS_CTL, 15, 8⟩
abbrev ACQ_BUS_CTL_LINE : Fld := ⟨ACQ_BUS_CTL, 7, 0⟩
/-- Offset of ACQ_BUS_LAT. -/
abbrev ACQ_BUS_LAT : Nat := 0x400044
abbrev ACQ_BUS_LAT_NS : Fld := ⟨ACQ_BUS_LAT, 31, 0⟩
/-- Offset of ACQ_BUS_STAT. -/
abbrev ACQ_BUS_STAT : Nat := 0x400048
abbrev ACQ_BUS_STAT_TRC_OK : Fld := ⟨ACQ_BUS_STAT, 31, 31⟩
abbrev ACQ_BUS_STAT_SEEN : Fld := ⟨ACQ_BUS_STAT, 15, 8⟩
abbrev ACQ_BUS_STAT_DRV : Fld := ⟨ACQ_BUS_STAT, 7, 0⟩
/-- Offset of ACQ_TRGl_DLY. -/
abbrev ACQ_TRG_DLY (l : Nat) : Nat := 0x400060 + 0x4 * l
abbrev ACQ_TRG_DLY_NS (l : Nat) : Fld := ⟨ACQ_TRG_DLY l, 31, 0⟩
/-- Offset of ACQ_TUn_CFG. -/
abbrev ACQ_TU_CFG (n : Nat) : Nat := 0x400100 + 0x20 * n
abbrev ACQ_TU_CFG_EN (n : Nat) : Fld := ⟨ACQ_TU_CFG n, 31, 31⟩
abbrev ACQ_TU_CFG_TYPE (n : Nat) : Fld := ⟨ACQ_TU_CFG n, 27, 24⟩
abbrev ACQ_TU_CFG_DYE (n : Nat) : Fld := ⟨ACQ_TU_CFG n, 23, 20⟩
abbrev ACQ_TU_CFG_DIR (n : Nat) : Fld := ⟨ACQ_TU_CFG n, 17, 16⟩
abbrev ACQ_TU_CFG_SUB (n : Nat) : Fld := ⟨ACQ_TU_CFG n, 13, 12⟩
/-- Offset of ACQ_TUn_SRC. -/
abbrev ACQ_TU_SRC (n : Nat) : Nat := 0x400104 + 0x20 * n
abbrev ACQ_TU_SRC_KIND (n : Nat) : Fld := ⟨ACQ_TU_SRC n, 31, 28⟩
abbrev ACQ_TU_SRC_SUBSEL (n : Nat) : Fld := ⟨ACQ_TU_SRC n, 19, 16⟩
abbrev ACQ_TU_SRC_UNIT (n : Nat) : Fld := ⟨ACQ_TU_SRC n, 15, 8⟩
abbrev ACQ_TU_SRC_CH (n : Nat) : Fld := ⟨ACQ_TU_SRC n, 5, 0⟩
/-- Offset of ACQ_TUn_A. -/
abbrev ACQ_TU_A (n : Nat) : Nat := 0x400108 + 0x20 * n
abbrev ACQ_TU_A_PARAM (n : Nat) : Fld := ⟨ACQ_TU_A n, 31, 0⟩
/-- Offset of ACQ_TUn_B. -/
abbrev ACQ_TU_B (n : Nat) : Nat := 0x40010c + 0x20 * n
abbrev ACQ_TU_B_PARAM (n : Nat) : Fld := ⟨ACQ_TU_B n, 31, 0⟩
/-- Offset of ACQ_TUn_C. -/
abbrev ACQ_TU_C (n : Nat) : Nat := 0x400110 + 0x20 * n
abbrev ACQ_TU_C_PARAM (n : Nat) : Fld := ⟨ACQ_TU_C n, 31, 0⟩
/-- Offset of ACQ_TUn_QUAL. -/
abbrev ACQ_TU_QUAL (n : Nat) : Nat := 0x400114 + 0x20 * n
abbrev ACQ_TU_QUAL_MODE (n : Nat) : Fld := ⟨ACQ_TU_QUAL n, 31, 30⟩
abbrev ACQ_TU_QUAL_QSEL (n : Nat) : Fld := ⟨ACQ_TU_QUAL n, 19, 16⟩
abbrev ACQ_TU_QUAL_QWIN (n : Nat) : Fld := ⟨ACQ_TU_QUAL n, 15, 0⟩
/-- Offset of ACQ_TUn_STAT. -/
abbrev ACQ_TU_STAT (n : Nat) : Nat := 0x400118 + 0x20 * n
abbrev ACQ_TU_STAT_ARMED (n : Nat) : Fld := ⟨ACQ_TU_STAT n, 31, 31⟩
abbrev ACQ_TU_STAT_HIT (n : Nat) : Fld := ⟨ACQ_TU_STAT n, 30, 30⟩
abbrev ACQ_TU_STAT_REARMED (n : Nat) : Fld := ⟨ACQ_TU_STAT n, 29, 29⟩
/-- Offset of ACQ_TUn_CNT. -/
abbrev ACQ_TU_CNT (n : Nat) : Nat := 0x40011c + 0x20 * n
abbrev ACQ_TU_CNT_FIRES (n : Nat) : Fld := ⟨ACQ_TU_CNT n, 31, 0⟩
/-- Offset of ACQ_Cj_CFG. -/
abbrev ACQ_C_CFG (j : Nat) : Nat := 0x400400 + 0x40 * j
abbrev ACQ_C_CFG_EN (j : Nat) : Fld := ⟨ACQ_C_CFG j, 31, 31⟩
abbrev ACQ_C_CFG_MODE (j : Nat) : Fld := ⟨ACQ_C_CFG j, 30, 30⟩
abbrev ACQ_C_CFG_AUTO (j : Nat) : Fld := ⟨ACQ_C_CFG j, 29, 29⟩
abbrev ACQ_C_CFG_BOEN (j : Nat) : Fld := ⟨ACQ_C_CFG j, 28, 28⟩
abbrev ACQ_C_CFG_KIND (j : Nat) : Fld := ⟨ACQ_C_CFG j, 27, 24⟩
abbrev ACQ_C_CFG_BOLINE (j : Nat) : Fld := ⟨ACQ_C_CFG j, 23, 21⟩
abbrev ACQ_C_CFG_DIG (j : Nat) : Fld := ⟨ACQ_C_CFG j, 20, 20⟩
abbrev ACQ_C_CFG_DIGK (j : Nat) : Fld := ⟨ACQ_C_CFG j, 19, 16⟩
abbrev ACQ_C_CFG_UNIT (j : Nat) : Fld := ⟨ACQ_C_CFG j, 15, 8⟩
abbrev ACQ_C_CFG_SEG (j : Nat) : Fld := ⟨ACQ_C_CFG j, 6, 0⟩
/-- Offset of ACQ_Cj_CH_LO. -/
abbrev ACQ_C_CH_LO (j : Nat) : Nat := 0x400404 + 0x40 * j
abbrev ACQ_C_CH_LO_MASK (j : Nat) : Fld := ⟨ACQ_C_CH_LO j, 31, 0⟩
/-- Offset of ACQ_Cj_CH_HI. -/
abbrev ACQ_C_CH_HI (j : Nat) : Nat := 0x400408 + 0x40 * j
abbrev ACQ_C_CH_HI_MASK (j : Nat) : Fld := ⟨ACQ_C_CH_HI j, 31, 0⟩
/-- Offset of ACQ_Cj_TMASK. -/
abbrev ACQ_C_TMASK (j : Nat) : Nat := 0x40040c + 0x40 * j
abbrev ACQ_C_TMASK_LINES (j : Nat) : Fld := ⟨ACQ_C_TMASK j, 23, 16⟩
abbrev ACQ_C_TMASK_UNITS (j : Nat) : Fld := ⟨ACQ_C_TMASK j, 15, 0⟩
/-- Offset of ACQ_Cj_PRE. -/
abbrev ACQ_C_PRE (j : Nat) : Nat := 0x400410 + 0x40 * j
abbrev ACQ_C_PRE_FRAMES (j : Nat) : Fld := ⟨ACQ_C_PRE j, 31, 0⟩
/-- Offset of ACQ_Cj_POST. -/
abbrev ACQ_C_POST (j : Nat) : Nat := 0x400414 + 0x40 * j
abbrev ACQ_C_POST_FRAMES (j : Nat) : Fld := ⟨ACQ_C_POST j, 31, 0⟩
/-- Offset of ACQ_Cj_BASE. -/
abbrev ACQ_C_BASE (j : Nat) : Nat := 0x400418 + 0x40 * j
abbrev ACQ_C_BASE_ADDR (j : Nat) : Fld := ⟨ACQ_C_BASE j, 31, 12⟩
/-- Offset of ACQ_Cj_SIZE. -/
abbrev ACQ_C_SIZE (j : Nat) : Nat := 0x40041c + 0x40 * j
abbrev ACQ_C_SIZE_BYTES (j : Nat) : Fld := ⟨ACQ_C_SIZE j, 31, 0⟩
/-- Offset of ACQ_Cj_CAP. -/
abbrev ACQ_C_CAP (j : Nat) : Nat := 0x400420 + 0x40 * j
abbrev ACQ_C_CAP_FRAMES (j : Nat) : Fld := ⟨ACQ_C_CAP j, 31, 0⟩
/-- Offset of ACQ_Cj_STAT. -/
abbrev ACQ_C_STAT (j : Nat) : Nat := 0x400424 + 0x40 * j
abbrev ACQ_C_STAT_STATE (j : Nat) : Fld := ⟨ACQ_C_STAT j, 31, 29⟩
abbrev ACQ_C_STAT_OVF (j : Nat) : Fld := ⟨ACQ_C_STAT j, 28, 28⟩
abbrev ACQ_C_STAT_STARVE (j : Nat) : Fld := ⟨ACQ_C_STAT j, 27, 27⟩
abbrev ACQ_C_STAT_PRE_SHORT (j : Nat) : Fld := ⟨ACQ_C_STAT j, 26, 26⟩
abbrev ACQ_C_STAT_FORCED (j : Nat) : Fld := ⟨ACQ_C_STAT j, 25, 25⟩
abbrev ACQ_C_STAT_BUS (j : Nat) : Fld := ⟨ACQ_C_STAT j, 24, 24⟩
abbrev ACQ_C_STAT_OLDEST (j : Nat) : Fld := ⟨ACQ_C_STAT j, 19, 14⟩
abbrev ACQ_C_STAT_HELD (j : Nat) : Fld := ⟨ACQ_C_STAT j, 13, 7⟩
/-- Offset of ACQ_Cj_WRPTR. -/
abbrev ACQ_C_WRPTR (j : Nat) : Nat := 0x400428 + 0x40 * j
abbrev ACQ_C_WRPTR_OFS (j : Nat) : Fld := ⟨ACQ_C_WRPTR j, 31, 0⟩
/-- Offset of ACQ_Cj_RDPTR. -/
abbrev ACQ_C_RDPTR (j : Nat) : Nat := 0x40042c + 0x40 * j
abbrev ACQ_C_RDPTR_OFS (j : Nat) : Fld := ⟨ACQ_C_RDPTR j, 31, 0⟩
/-- Offset of ACQ_Cj_REL. -/
abbrev ACQ_C_REL (j : Nat) : Nat := 0x400430 + 0x40 * j
abbrev ACQ_C_REL_REL (j : Nat) : Fld := ⟨ACQ_C_REL j, 0, 0⟩
/-- Offset of ACQ_Cj_FRAMES. -/
abbrev ACQ_C_FRAMES (j : Nat) : Nat := 0x400434 + 0x40 * j
abbrev ACQ_C_FRAMES_FRAMES (j : Nat) : Fld := ⟨ACQ_C_FRAMES j, 31, 0⟩
/-- Offset of ACQ_Cj_SEQ. -/
abbrev ACQ_C_SEQ (j : Nat) : Nat := 0x400438 + 0x40 * j
abbrev ACQ_C_SEQ_SEQ (j : Nat) : Fld := ⟨ACQ_C_SEQ j, 31, 0⟩
/-- Offset of ACQ_RDk_CFG. -/
abbrev ACQ_RD_CFG (k : Nat) : Nat := 0x400600 + 0x20 * k
abbrev ACQ_RD_CFG_EN (k : Nat) : Fld := ⟨ACQ_RD_CFG k, 31, 31⟩
abbrev ACQ_RD_CFG_TYPE (k : Nat) : Fld := ⟨ACQ_RD_CFG k, 26, 24⟩
abbrev ACQ_RD_CFG_DYE (k : Nat) : Fld := ⟨ACQ_RD_CFG k, 23, 20⟩
abbrev ACQ_RD_CFG_CAP (k : Nat) : Fld := ⟨ACQ_RD_CFG k, 18, 16⟩
/-- Offset of ACQ_RDk_FACT. -/
abbrev ACQ_RD_FACT (k : Nat) : Nat := 0x400604 + 0x20 * k
abbrev ACQ_RD_FACT_RF (k : Nat) : Fld := ⟨ACQ_RD_FACT k, 31, 0⟩
/-- Offset of ACQ_RDk_PRE. -/
abbrev ACQ_RD_PRE (k : Nat) : Nat := 0x400608 + 0x20 * k
abbrev ACQ_RD_PRE_SPANS (k : Nat) : Fld := ⟨ACQ_RD_PRE k, 31, 0⟩
/-- Offset of ACQ_RDk_POST. -/
abbrev ACQ_RD_POST (k : Nat) : Nat := 0x40060c + 0x20 * k
abbrev ACQ_RD_POST_SPANS (k : Nat) : Fld := ⟨ACQ_RD_POST k, 31, 0⟩
/-- Offset of ACQ_RDk_BASE. -/
abbrev ACQ_RD_BASE (k : Nat) : Nat := 0x400610 + 0x20 * k
abbrev ACQ_RD_BASE_ADDR (k : Nat) : Fld := ⟨ACQ_RD_BASE k, 31, 12⟩
/-- Offset of ACQ_RDk_SIZE. -/
abbrev ACQ_RD_SIZE (k : Nat) : Nat := 0x400614 + 0x20 * k
abbrev ACQ_RD_SIZE_BYTES (k : Nat) : Fld := ⟨ACQ_RD_SIZE k, 31, 0⟩
/-- Offset of ACQ_RDk_CAP. -/
abbrev ACQ_RD_CAP (k : Nat) : Nat := 0x400618 + 0x20 * k
abbrev ACQ_RD_CAP_SPANS (k : Nat) : Fld := ⟨ACQ_RD_CAP k, 31, 0⟩
/-- Offset of ACQ_RDk_STAT. -/
abbrev ACQ_RD_STAT (k : Nat) : Nat := 0x40061c + 0x20 * k
abbrev ACQ_RD_STAT_STATE (k : Nat) : Fld := ⟨ACQ_RD_STAT k, 31, 29⟩
abbrev ACQ_RD_STAT_OVF (k : Nat) : Fld := ⟨ACQ_RD_STAT k, 28, 28⟩
abbrev ACQ_RD_STAT_STARVE (k : Nat) : Fld := ⟨ACQ_RD_STAT k, 27, 27⟩
abbrev ACQ_RD_STAT_PRE_SHORT (k : Nat) : Fld := ⟨ACQ_RD_STAT k, 26, 26⟩
/-- Offset of MTR_CTL. -/
abbrev MTR_CTL : Nat := 0x500020
abbrev MTR_CTL_PERIOD : Fld := ⟨MTR_CTL, 9, 0⟩
/-- Offset of MTR_STAT. -/
abbrev MTR_STAT : Nat := 0x500024
abbrev MTR_STAT_TOT_INVALID : Fld := ⟨MTR_STAT, 31, 31⟩
abbrev MTR_STAT_SAT : Fld := ⟨MTR_STAT, 30, 30⟩
abbrev MTR_STAT_NONFINAL : Fld := ⟨MTR_STAT, 29, 29⟩
abbrev MTR_STAT_WRITING : Fld := ⟨MTR_STAT, 28, 28⟩
abbrev MTR_STAT_COALESCED : Fld := ⟨MTR_STAT, 15, 0⟩
/-- Offset of MTR_CMD. -/
abbrev MTR_CMD : Nat := 0x500028
abbrev MTR_CMD_ACCEPT : Fld := ⟨MTR_CMD, 2, 2⟩
abbrev MTR_CMD_PRESET : Fld := ⟨MTR_CMD, 1, 1⟩
abbrev MTR_CMD_COMMIT : Fld := ⟨MTR_CMD, 0, 0⟩
/-- Offset of MTR_COMMIT_SEQ. -/
abbrev MTR_COMMIT_SEQ : Nat := 0x50002c
abbrev MTR_COMMIT_SEQ_SEQ : Fld := ⟨MTR_COMMIT_SEQ, 31, 0⟩
/-- Offset of MTR_COMMIT_TW_0. -/
abbrev MTR_COMMIT_TW_0 : Nat := 0x500030
abbrev MTR_COMMIT_TW_0_TW : Fld := ⟨MTR_COMMIT_TW_0, 31, 0⟩
/-- Offset of MTR_COMMIT_TW_1. -/
abbrev MTR_COMMIT_TW_1 : Nat := 0x500034
abbrev MTR_COMMIT_TW_1_TW : Fld := ⟨MTR_COMMIT_TW_1, 31, 0⟩
/-- Offset of MTR_COMMIT_TW_2. -/
abbrev MTR_COMMIT_TW_2 : Nat := 0x500038
abbrev MTR_COMMIT_TW_2_TW : Fld := ⟨MTR_COMMIT_TW_2, 31, 0⟩
/-- Offset of MTR_SEAL_STAT. -/
abbrev MTR_SEAL_STAT : Nat := 0x50003c
abbrev MTR_SEAL_STAT_OPEN : Fld := ⟨MTR_SEAL_STAT, 31, 31⟩
abbrev MTR_SEAL_STAT_TAMPER : Fld := ⟨MTR_SEAL_STAT, 30, 30⟩
abbrev MTR_SEAL_STAT_PENDING : Fld := ⟨MTR_SEAL_STAT, 25, 24⟩
abbrev MTR_SEAL_STAT_TAMPERS : Fld := ⟨MTR_SEAL_STAT, 15, 8⟩
abbrev MTR_SEAL_STAT_OPENS : Fld := ⟨MTR_SEAL_STAT, 7, 0⟩
/-- Offset of MTR_AUD_STAT. -/
abbrev MTR_AUD_STAT : Nat := 0x500040
abbrev MTR_AUD_STAT_FULL : Fld := ⟨MTR_AUD_STAT, 31, 31⟩
abbrev MTR_AUD_STAT_ACK_SHORT : Fld := ⟨MTR_AUD_STAT, 30, 30⟩
abbrev MTR_AUD_STAT_FULL_REJ : Fld := ⟨MTR_AUD_STAT, 29, 29⟩
abbrev MTR_AUD_STAT_FREE : Fld := ⟨MTR_AUD_STAT, 23, 12⟩
abbrev MTR_AUD_STAT_LOST : Fld := ⟨MTR_AUD_STAT, 11, 0⟩
/-- Offset of MTR_AUD_FIRST. -/
abbrev MTR_AUD_FIRST : Nat := 0x500044
abbrev MTR_AUD_FIRST_SEQ : Fld := ⟨MTR_AUD_FIRST, 31, 0⟩
/-- Offset of MTR_AUD_LAST. -/
abbrev MTR_AUD_LAST : Nat := 0x500048
abbrev MTR_AUD_LAST_SEQ : Fld := ⟨MTR_AUD_LAST, 31, 0⟩
/-- Offset of MTR_AUD_SEL. -/
abbrev MTR_AUD_SEL : Nat := 0x50004c
abbrev MTR_AUD_SEL_SEQ : Fld := ⟨MTR_AUD_SEL, 31, 0⟩
/-- Offset of MTR_AUD_ACK. -/
abbrev MTR_AUD_ACK : Nat := 0x500050
abbrev MTR_AUD_ACK_SEQ : Fld := ⟨MTR_AUD_ACK, 31, 0⟩
/-- Offset of MTR_TOT_SET_IDX. -/
abbrev MTR_TOT_SET_IDX : Nat := 0x500058
abbrev MTR_TOT_SET_IDX_IDX : Fld := ⟨MTR_TOT_SET_IDX, 7, 0⟩
/-- Offset of MTR_TOT_SET_0. -/
abbrev MTR_TOT_SET_0 : Nat := 0x50005c
abbrev MTR_TOT_SET_0_VAL : Fld := ⟨MTR_TOT_SET_0, 31, 0⟩
/-- Offset of MTR_TOT_SET_1. -/
abbrev MTR_TOT_SET_1 : Nat := 0x500060
abbrev MTR_TOT_SET_1_VAL : Fld := ⟨MTR_TOT_SET_1, 31, 0⟩
/-- Offset of MTR_AUD_RD_w. -/
abbrev MTR_AUD_RD (w : Nat) : Nat := 0x500080 + 0x4 * w
abbrev MTR_AUD_RD_DATA (w : Nat) : Fld := ⟨MTR_AUD_RD w, 31, 0⟩
/-- Offset of MTR_Ff_CFG. -/
abbrev MTR_F_CFG (f : Nat) : Nat := 0x501000 + 0x40 * f
abbrev MTR_F_CFG_EN (f : Nat) : Fld := ⟨MTR_F_CFG f, 31, 31⟩
/-- Offset of MTR_Ff_STAT. -/
abbrev MTR_F_STAT (f : Nat) : Nat := 0x501004 + 0x40 * f
abbrev MTR_F_STAT_SUBST (f : Nat) : Fld := ⟨MTR_F_STAT f, 31, 31⟩
abbrev MTR_F_STAT_ZERO (f : Nat) : Fld := ⟨MTR_F_STAT f, 30, 30⟩
abbrev MTR_F_STAT_OVR (f : Nat) : Fld := ⟨MTR_F_STAT f, 29, 29⟩
abbrev MTR_F_STAT_NOPHASOR (f : Nat) : Fld := ⟨MTR_F_STAT f, 28, 28⟩
abbrev MTR_F_STAT_CREEP (f : Nat) : Fld := ⟨MTR_F_STAT f, 27, 27⟩
/-- Offset of MTR_Ff_KE. -/
abbrev MTR_F_KE (f : Nat) : Nat := 0x501008 + 0x40 * f
abbrev MTR_F_KE_G (f : Nat) : Fld := ⟨MTR_F_KE f, 31, 0⟩
/-- Offset of MTR_Ff_CREEP. -/
abbrev MTR_F_CREEP (f : Nat) : Nat := 0x50100c + 0x40 * f
abbrev MTR_F_CREEP_MPU (f : Nat) : Fld := ⟨MTR_F_CREEP f, 31, 0⟩
/-- Offset of MTR_Ff_P. -/
abbrev MTR_F_P (f : Nat) : Nat := 0x501010 + 0x40 * f
abbrev MTR_F_P_VAL (f : Nat) : Fld := ⟨MTR_F_P f, 31, 0⟩
/-- Offset of MTR_Ff_Q. -/
abbrev MTR_F_Q (f : Nat) : Nat := 0x501014 + 0x40 * f
abbrev MTR_F_Q_VAL (f : Nat) : Fld := ⟨MTR_F_Q f, 31, 0⟩
/-- Offset of MTR_Ff_P1. -/
abbrev MTR_F_P1 (f : Nat) : Nat := 0x501018 + 0x40 * f
abbrev MTR_F_P1_VAL (f : Nat) : Fld := ⟨MTR_F_P1 f, 31, 0⟩
/-- Offset of MTR_Ff_QTIME. -/
abbrev MTR_F_QTIME (f : Nat) : Nat := 0x50101c + 0x40 * f
abbrev MTR_F_QTIME_MS (f : Nat) : Fld := ⟨MTR_F_QTIME f, 31, 0⟩
/-- Offset of MTR_Mr_CFG. -/
abbrev MTR_M_CFG (r : Nat) : Nat := 0x502000 + 0x100 * r
abbrev MTR_M_CFG_EN (r : Nat) : Fld := ⟨MTR_M_CFG r, 31, 31⟩
abbrev MTR_M_CFG_TYPE (r : Nat) : Fld := ⟨MTR_M_CFG r, 27, 24⟩
abbrev MTR_M_CFG_FLUID (r : Nat) : Fld := ⟨MTR_M_CFG r, 23, 20⟩
abbrev MTR_M_CFG_TAPS (r : Nat) : Fld := ⟨MTR_M_CFG r, 19, 18⟩
abbrev MTR_M_CFG_CORE (r : Nat) : Fld := ⟨MTR_M_CFG r, 17, 16⟩
/-- Offset of MTR_Mr_STAT. -/
abbrev MTR_M_STAT (r : Nat) : Nat := 0x502004 + 0x100 * r
abbrev MTR_M_STAT_STATE (r : Nat) : Fld := ⟨MTR_M_STAT r, 31, 30⟩
abbrev MTR_M_STAT_CAUSE (r : Nat) : Fld := ⟨MTR_M_STAT r, 27, 24⟩
abbrev MTR_M_STAT_HNEG (r : Nat) : Fld := ⟨MTR_M_STAT r, 23, 23⟩
abbrev MTR_M_STAT_CUTOFF (r : Nat) : Fld := ⟨MTR_M_STAT r, 22, 22⟩
abbrev MTR_M_STAT_SUBST (r : Nat) : Fld := ⟨MTR_M_STAT r, 21, 21⟩
/-- Offset of MTR_Mr_IN_0. -/
abbrev MTR_M_IN_0 (r : Nat) : Nat := 0x502008 + 0x100 * r
abbrev MTR_M_IN_0_KIND (r : Nat) : Fld := ⟨MTR_M_IN_0 r, 31, 30⟩
abbrev MTR_M_IN_0_INDEX (r : Nat) : Fld := ⟨MTR_M_IN_0 r, 15, 0⟩
/-- Offset of MTR_Mr_IN_1. -/
abbrev MTR_M_IN_1 (r : Nat) : Nat := 0x50200c + 0x100 * r
abbrev MTR_M_IN_1_KIND (r : Nat) : Fld := ⟨MTR_M_IN_1 r, 31, 30⟩
abbrev MTR_M_IN_1_INDEX (r : Nat) : Fld := ⟨MTR_M_IN_1 r, 15, 0⟩
/-- Offset of MTR_Mr_IN_2. -/
abbrev MTR_M_IN_2 (r : Nat) : Nat := 0x502010 + 0x100 * r
abbrev MTR_M_IN_2_KIND (r : Nat) : Fld := ⟨MTR_M_IN_2 r, 31, 30⟩
abbrev MTR_M_IN_2_INDEX (r : Nat) : Fld := ⟨MTR_M_IN_2 r, 15, 0⟩
/-- Offset of MTR_Mr_RATE. -/
abbrev MTR_M_RATE (r : Nat) : Nat := 0x502014 + 0x100 * r
abbrev MTR_M_RATE_VAL (r : Nat) : Fld := ⟨MTR_M_RATE r, 31, 0⟩
/-- Offset of MTR_Mr_RHO. -/
abbrev MTR_M_RHO (r : Nat) : Nat := 0x502018 + 0x100 * r
abbrev MTR_M_RHO_VAL (r : Nat) : Fld := ⟨MTR_M_RHO r, 31, 0⟩
/-- Offset of MTR_Mr_H. -/
abbrev MTR_M_H (r : Nat) : Nat := 0x50201c + 0x100 * r
abbrev MTR_M_H_VAL (r : Nat) : Fld := ⟨MTR_M_H r, 31, 0⟩
/-- Offset of MTR_Mr_ALARMS. -/
abbrev MTR_M_ALARMS (r : Nat) : Nat := 0x502020 + 0x100 * r
abbrev MTR_M_ALARMS_COUNT (r : Nat) : Fld := ⟨MTR_M_ALARMS r, 31, 0⟩
/-- Offset of MTR_Mr_PAR_i. -/
abbrev MTR_M_PAR (r i : Nat) : Nat := 0x502040 + 0x100 * r + 0x4 * i
abbrev MTR_M_PAR_VAL (r i : Nat) : Fld := ⟨MTR_M_PAR r i, 31, 0⟩
/-- Offset of MTR_TOT_n_0. -/
abbrev MTR_TOT_0 (n : Nat) : Nat := 0x504000 + 0x10 * n
abbrev MTR_TOT_0_LO (n : Nat) : Fld := ⟨MTR_TOT_0 n, 31, 0⟩
/-- Offset of MTR_TOT_n_1. -/
abbrev MTR_TOT_1 (n : Nat) : Nat := 0x504004 + 0x10 * n
abbrev MTR_TOT_1_HI (n : Nat) : Fld := ⟨MTR_TOT_1 n, 31, 0⟩
/-- Offset of MTR_TOT_n_2. -/
abbrev MTR_TOT_2 (n : Nat) : Nat := 0x504008 + 0x10 * n
abbrev MTR_TOT_2_LO (n : Nat) : Fld := ⟨MTR_TOT_2 n, 31, 0⟩
/-- Offset of MTR_TOT_n_3. -/
abbrev MTR_TOT_3 (n : Nat) : Nat := 0x50400c + 0x10 * n
abbrev MTR_TOT_3_HI (n : Nat) : Fld := ⟨MTR_TOT_3 n, 31, 0⟩
/-- Offset of BLK_BASE. -/
abbrev BLK_BASE : Nat := 0x600020
abbrev BLK_BASE_NSEL : Fld := ⟨BLK_BASE, 2, 0⟩
/-- Offset of BLK_CMD. -/
abbrev BLK_CMD : Nat := 0x600024
abbrev BLK_CMD_ENTRY : Fld := ⟨BLK_CMD, 10, 8⟩
abbrev BLK_CMD_OP : Fld := ⟨BLK_CMD, 3, 0⟩
/-- Offset of BLK_ERR. -/
abbrev BLK_ERR : Nat := 0x600028
abbrev BLK_ERR_CODE : Fld := ⟨BLK_ERR, 31, 24⟩
abbrev BLK_ERR_ENTRY : Fld := ⟨BLK_ERR, 18, 16⟩
abbrev BLK_ERR_CORE : Fld := ⟨BLK_ERR, 9, 8⟩
/-- Offset of BLK_SRC_ADDR. -/
abbrev BLK_SRC_ADDR : Nat := 0x60002c
abbrev BLK_SRC_ADDR_ADDR : Fld := ⟨BLK_SRC_ADDR, 31, 4⟩
/-- Offset of BLK_SRC_LEN. -/
abbrev BLK_SRC_LEN : Nat := 0x600030
abbrev BLK_SRC_LEN_LEN : Fld := ⟨BLK_SRC_LEN, 31, 0⟩
/-- Offset of BLK_PSe_0. -/
abbrev BLK_PS_0 (e : Nat) : Nat := 0x600040 + 0x8 * e
abbrev BLK_PS_0_LO (e : Nat) : Fld := ⟨BLK_PS_0 e, 31, 0⟩
/-- Offset of BLK_PSe_1. -/
abbrev BLK_PS_1 (e : Nat) : Nat := 0x600044 + 0x8 * e
abbrev BLK_PS_1_HI (e : Nat) : Fld := ⟨BLK_PS_1 e, 31, 0⟩
/-- Offset of BLK_Cc_TASK. -/
abbrev BLK_C_TASK (c : Nat) : Nat := 0x601000 + 0x1000 * c
abbrev BLK_C_TASK_K (c : Nat) : Fld := ⟨BLK_C_TASK c, 24, 16⟩
abbrev BLK_C_TASK_PHASE (c : Nat) : Fld := ⟨BLK_C_TASK c, 7, 0⟩
/-- Offset of BLK_Cc_LIM. -/
abbrev BLK_C_LIM (c : Nat) : Nat := 0x601004 + 0x1000 * c
abbrev BLK_C_LIM_MARGIN (c : Nat) : Fld := ⟨BLK_C_LIM c, 31, 16⟩
abbrev BLK_C_LIM_XLIM (c : Nat) : Fld := ⟨BLK_C_LIM c, 4, 0⟩
/-- Offset of BLK_Cc_CMD. -/
abbrev BLK_C_CMD (c : Nat) : Nat := 0x601008 + 0x1000 * c
abbrev BLK_C_CMD_ENTRY (c : Nat) : Fld := ⟨BLK_C_CMD c, 10, 8⟩
abbrev BLK_C_CMD_OP (c : Nat) : Fld := ⟨BLK_C_CMD c, 3, 0⟩
/-- Offset of BLK_Cc_STAT. -/
abbrev BLK_C_STAT (c : Nat) : Nat := 0x60100c + 0x1000 * c
abbrev BLK_C_STAT_STATE (c : Nat) : Fld := ⟨BLK_C_STAT c, 31, 29⟩
abbrev BLK_C_STAT_SHADOW (c : Nat) : Fld := ⟨BLK_C_STAT c, 28, 27⟩
abbrev BLK_C_STAT_BOOT_DIFF (c : Nat) : Fld := ⟨BLK_C_STAT c, 26, 26⟩
abbrev BLK_C_STAT_VP_PEND (c : Nat) : Fld := ⟨BLK_C_STAT c, 25, 25⟩
abbrev BLK_C_STAT_OVERRUN (c : Nat) : Fld := ⟨BLK_C_STAT c, 24, 24⟩
/-- Offset of BLK_Cc_BOOT. -/
abbrev BLK_C_BOOT (c : Nat) : Nat := 0x601010 + 0x1000 * c
abbrev BLK_C_BOOT_VALID (c : Nat) : Fld := ⟨BLK_C_BOOT c, 31, 31⟩
abbrev BLK_C_BOOT_ENTRY (c : Nat) : Fld := ⟨BLK_C_BOOT c, 2, 0⟩
/-- Offset of BLK_Cc_CYCLE. -/
abbrev BLK_C_CYCLE (c : Nat) : Nat := 0x601014 + 0x1000 * c
abbrev BLK_C_CYCLE_COUNT (c : Nat) : Fld := ⟨BLK_C_CYCLE c, 31, 0⟩
/-- Offset of BLK_Cc_EXEC_LAST. -/
abbrev BLK_C_EXEC_LAST (c : Nat) : Nat := 0x601018 + 0x1000 * c
abbrev BLK_C_EXEC_LAST_NS (c : Nat) : Fld := ⟨BLK_C_EXEC_LAST c, 31, 0⟩
/-- Offset of BLK_Cc_EXEC_MAX. -/
abbrev BLK_C_EXEC_MAX (c : Nat) : Nat := 0x60101c + 0x1000 * c
abbrev BLK_C_EXEC_MAX_NS (c : Nat) : Fld := ⟨BLK_C_EXEC_MAX c, 31, 0⟩
/-- Offset of BLK_Cc_OVR. -/
abbrev BLK_C_OVR (c : Nat) : Nat := 0x601020 + 0x1000 * c
abbrev BLK_C_OVR_OVERRUNS (c : Nat) : Fld := ⟨BLK_C_OVR c, 31, 16⟩
abbrev BLK_C_OVR_SKIPPED (c : Nat) : Fld := ⟨BLK_C_OVR c, 15, 0⟩
/-- Offset of BLK_Cc_OUTD. -/
abbrev BLK_C_OUTD (c : Nat) : Nat := 0x601024 + 0x1000 * c
abbrev BLK_C_OUTD_COUNT (c : Nat) : Fld := ⟨BLK_C_OUTD c, 31, 0⟩
/-- Offset of BLK_Cc_INST. -/
abbrev BLK_C_INST (c : Nat) : Nat := 0x601028 + 0x1000 * c
abbrev BLK_C_INST_COUNT (c : Nat) : Fld := ⟨BLK_C_INST c, 27, 16⟩
abbrev BLK_C_INST_KIB (c : Nat) : Fld := ⟨BLK_C_INST c, 8, 0⟩
/-- Offset of BLK_Cc_STAMP_A_0. -/
abbrev BLK_C_STAMP_A_0 (c : Nat) : Nat := 0x601030 + 0x1000 * c
abbrev BLK_C_STAMP_A_0_LO (c : Nat) : Fld := ⟨BLK_C_STAMP_A_0 c, 31, 0⟩
/-- Offset of BLK_Cc_STAMP_S_0. -/
abbrev BLK_C_STAMP_S_0 (c : Nat) : Nat := 0x601038 + 0x1000 * c
abbrev BLK_C_STAMP_S_0_LO (c : Nat) : Fld := ⟨BLK_C_STAMP_S_0 c, 31, 0⟩
/-- Offset of BLK_Cc_STAMP_A_1. -/
abbrev BLK_C_STAMP_A_1 (c : Nat) : Nat := 0x601034 + 0x1000 * c
abbrev BLK_C_STAMP_A_1_HI (c : Nat) : Fld := ⟨BLK_C_STAMP_A_1 c, 31, 0⟩
/-- Offset of BLK_Cc_STAMP_S_1. -/
abbrev BLK_C_STAMP_S_1 (c : Nat) : Nat := 0x60103c + 0x1000 * c
abbrev BLK_C_STAMP_S_1_HI (c : Nat) : Fld := ⟨BLK_C_STAMP_S_1 c, 31, 0⟩
/-- Offset of BLK_Cc_VP_CTL. -/
abbrev BLK_C_VP_CTL (c : Nat) : Nat := 0x601040 + 0x1000 * c
abbrev BLK_C_VP_CTL_WHEN (c : Nat) : Fld := ⟨BLK_C_VP_CTL c, 8, 8⟩
abbrev BLK_C_VP_CTL_COUNT (c : Nat) : Fld := ⟨BLK_C_VP_CTL c, 6, 0⟩
/-- Offset of BLK_Cc_VP_CYC. -/
abbrev BLK_C_VP_CYC (c : Nat) : Nat := 0x601044 + 0x1000 * c
abbrev BLK_C_VP_CYC_CYCLE (c : Nat) : Fld := ⟨BLK_C_VP_CYC c, 31, 0⟩
/-- Offset of BLK_Cc_VP_STAT. -/
abbrev BLK_C_VP_STAT (c : Nat) : Nat := 0x601048 + 0x1000 * c
abbrev BLK_C_VP_STAT_ERR (c : Nat) : Fld := ⟨BLK_C_VP_STAT c, 31, 24⟩
abbrev BLK_C_VP_STAT_DONE (c : Nat) : Fld := ⟨BLK_C_VP_STAT c, 16, 16⟩
abbrev BLK_C_VP_STAT_COURSE (c : Nat) : Fld := ⟨BLK_C_VP_STAT c, 15, 8⟩
abbrev BLK_C_VP_STAT_ENTRY (c : Nat) : Fld := ⟨BLK_C_VP_STAT c, 5, 0⟩
/-- Offset of BLK_Cc_VP_IDX_i. -/
abbrev BLK_C_VP_IDX (c i : Nat) : Nat := 0x601100 + 0x1000 * c + 0x4 * i
abbrev BLK_C_VP_IDX_VIDX (c i : Nat) : Fld := ⟨BLK_C_VP_IDX c i, 11, 0⟩
/-- Offset of BLK_Cc_VP_VAL_i. -/
abbrev BLK_C_VP_VAL (c i : Nat) : Nat := 0x601200 + 0x1000 * c + 0x4 * i
abbrev BLK_C_VP_VAL_VALUE (c i : Nat) : Fld := ⟨BLK_C_VP_VAL c i, 31, 0⟩
/-- Offset of BLK_Cc_XR_0. -/
abbrev BLK_C_XR_0 (c : Nat) : Nat := 0x601050 + 0x1000 * c
abbrev BLK_C_XR_0_CARRIED (c : Nat) : Fld := ⟨BLK_C_XR_0 c, 27, 16⟩
abbrev BLK_C_XR_0_NEW (c : Nat) : Fld := ⟨BLK_C_XR_0 c, 11, 0⟩
/-- Offset of BLK_Cc_XR_1. -/
abbrev BLK_C_XR_1 (c : Nat) : Nat := 0x601054 + 0x1000 * c
abbrev BLK_C_XR_1_REMOVED (c : Nat) : Fld := ⟨BLK_C_XR_1 c, 27, 16⟩
abbrev BLK_C_XR_1_RESET (c : Nat) : Fld := ⟨BLK_C_XR_1 c, 11, 0⟩
/-- Offset of BLK_Cc_XSTAT. -/
abbrev BLK_C_XSTAT (c : Nat) : Nat := 0x601058 + 0x1000 * c
abbrev BLK_C_XSTAT_ERR (c : Nat) : Fld := ⟨BLK_C_XSTAT c, 31, 24⟩
/-- Offset of BLK_Cc_XMAP_w. -/
abbrev BLK_C_XMAP (c w : Nat) : Nat := 0x601300 + 0x1000 * c + 0x4 * w
abbrev BLK_C_XMAP_MAP (c w : Nat) : Fld := ⟨BLK_C_XMAP c w, 31, 0⟩
/-- Offset of YUL_CTL. -/
abbrev YUL_CTL : Nat := 0x700020
abbrev YUL_CTL_ETYPE : Fld := ⟨YUL_CTL, 31, 16⟩
abbrev YUL_CTL_REJOIN : Fld := ⟨YUL_CTL, 11, 8⟩
abbrev YUL_CTL_LOSS : Fld := ⟨YUL_CTL, 7, 4⟩
abbrev YUL_CTL_ROLE : Fld := ⟨YUL_CTL, 1, 0⟩
/-- Offset of YUL_STAT. -/
abbrev YUL_STAT : Nat := 0x700024
abbrev YUL_STAT_STATE : Fld := ⟨YUL_STAT, 31, 29⟩
abbrev YUL_STAT_NONLINE : Fld := ⟨YUL_STAT, 23, 16⟩
abbrev YUL_STAT_NOFF : Fld := ⟨YUL_STAT, 15, 8⟩
abbrev YUL_STAT_NHELD : Fld := ⟨YUL_STAT, 7, 0⟩
/-- Offset of YUL_CYCLE. -/
abbrev YUL_CYCLE : Nat := 0x700028
abbrev YUL_CYCLE_CYCLE : Fld := ⟨YUL_CYCLE, 31, 0⟩
/-- Offset of YUL_LEAD. -/
abbrev YUL_LEAD : Nat := 0x70002c
abbrev YUL_LEAD_FC : Fld := ⟨YUL_LEAD, 31, 0⟩
/-- Offset of YUL_CABLE. -/
abbrev YUL_CABLE : Nat := 0x700030
abbrev YUL_CABLE_FC : Fld := ⟨YUL_CABLE, 31, 0⟩
/-- Offset of YUL_RT. -/
abbrev YUL_RT : Nat := 0x700034
abbrev YUL_RT_MAX : Fld := ⟨YUL_RT, 31, 16⟩
abbrev YUL_RT_LAST : Fld := ⟨YUL_RT, 15, 0⟩
/-- Offset of YUL_CNT. -/
abbrev YUL_CNT : Nat := 0x700038
abbrev YUL_CNT_LOST : Fld := ⟨YUL_CNT, 31, 0⟩
/-- Offset of YUL_CMD. -/
abbrev YUL_CMD : Nat := 0x70003c
abbrev YUL_CMD_RESTART : Fld := ⟨YUL_CMD, 0, 0⟩
/-- Offset of YUL_STA_STAT. -/
abbrev YUL_STA_STAT : Nat := 0x700040
abbrev YUL_STA_STAT_SYNC_DIFF : Fld := ⟨YUL_STA_STAT, 31, 31⟩
abbrev YUL_STA_STAT_SAFE : Fld := ⟨YUL_STA_STAT, 30, 30⟩
abbrev YUL_STA_STAT_INDEX : Fld := ⟨YUL_STA_STAT, 5, 0⟩
/-- Offset of YUL_STA_WDT. -/
abbrev YUL_STA_WDT : Nat := 0x700044
abbrev YUL_STA_WDT_US : Fld := ⟨YUL_STA_WDT, 31, 0⟩
/-- Offset of YUL_STs_CFG. -/
abbrev YUL_ST_CFG (s : Nat) : Nat := 0x700100 + 0x20 * s
abbrev YUL_ST_CFG_EN (s : Nat) : Fld := ⟨YUL_ST_CFG s, 31, 31⟩
abbrev YUL_ST_CFG_INLEN (s : Nat) : Fld := ⟨YUL_ST_CFG s, 28, 16⟩
abbrev YUL_ST_CFG_OUTLEN (s : Nat) : Fld := ⟨YUL_ST_CFG s, 12, 0⟩
/-- Offset of YUL_STs_CTL. -/
abbrev YUL_ST_CTL (s : Nat) : Nat := 0x700104 + 0x20 * s
abbrev YUL_ST_CTL_OVR (s : Nat) : Fld := ⟨YUL_ST_CTL s, 0, 0⟩
/-- Offset of YUL_STs_STAT. -/
abbrev YUL_ST_STAT (s : Nat) : Nat := 0x700108 + 0x20 * s
abbrev YUL_ST_STAT_STATE (s : Nat) : Fld := ⟨YUL_ST_STAT s, 31, 29⟩
abbrev YUL_ST_STAT_OVR (s : Nat) : Fld := ⟨YUL_ST_STAT s, 28, 28⟩
abbrev YUL_ST_STAT_SAFE (s : Nat) : Fld := ⟨YUL_ST_STAT s, 27, 27⟩
abbrev YUL_ST_STAT_MISSED (s : Nat) : Fld := ⟨YUL_ST_STAT s, 26, 26⟩
abbrev YUL_ST_STAT_APPLY_FAIL (s : Nat) : Fld := ⟨YUL_ST_STAT s, 25, 25⟩
abbrev YUL_ST_STAT_TURN (s : Nat) : Fld := ⟨YUL_ST_STAT s, 24, 24⟩
abbrev YUL_ST_STAT_GOOD (s : Nat) : Fld := ⟨YUL_ST_STAT s, 23, 16⟩
abbrev YUL_ST_STAT_DROPS (s : Nat) : Fld := ⟨YUL_ST_STAT s, 15, 0⟩
/-- Offset of YUL_STs_STAMP. -/
abbrev YUL_ST_STAMP (s : Nat) : Nat := 0x70010c + 0x20 * s
abbrev YUL_ST_STAMP_STAMP (s : Nat) : Fld := ⟨YUL_ST_STAMP s, 31, 0⟩
/-- Offset of YUL_STs_RXSTAMP. -/
abbrev YUL_ST_RXSTAMP (s : Nat) : Nat := 0x700110 + 0x20 * s
abbrev YUL_ST_RXSTAMP_STAMP (s : Nat) : Fld := ⟨YUL_ST_RXSTAMP s, 31, 0⟩
/-- Offset of YUL_STs_LINK. -/
abbrev YUL_ST_LINK (s : Nat) : Nat := 0x700114 + 0x20 * s
abbrev YUL_ST_LINK_NS (s : Nat) : Fld := ⟨YUL_ST_LINK s, 31, 0⟩
/-- Offset of YUL_MAP_e_0. -/
abbrev YUL_MAP_0 (e : Nat) : Nat := 0x701000 + 0x8 * e
abbrev YUL_MAP_0_EN (e : Nat) : Fld := ⟨YUL_MAP_0 e, 31, 31⟩
abbrev YUL_MAP_0_DIR (e : Nat) : Fld := ⟨YUL_MAP_0 e, 30, 30⟩
abbrev YUL_MAP_0_TYPE (e : Nat) : Fld := ⟨YUL_MAP_0 e, 27, 24⟩
abbrev YUL_MAP_0_STN (e : Nat) : Fld := ⟨YUL_MAP_0 e, 21, 16⟩
abbrev YUL_MAP_0_BIT (e : Nat) : Fld := ⟨YUL_MAP_0 e, 15, 13⟩
abbrev YUL_MAP_0_OFS (e : Nat) : Fld := ⟨YUL_MAP_0 e, 12, 0⟩
/-- Offset of YUL_MAP_e_1. -/
abbrev YUL_MAP_1 (e : Nat) : Nat := 0x701004 + 0x8 * e
abbrev YUL_MAP_1_DSEL (e : Nat) : Fld := ⟨YUL_MAP_1 e, 31, 28⟩
abbrev YUL_MAP_1_ARG (e : Nat) : Fld := ⟨YUL_MAP_1 e, 23, 0⟩
/-- Offset of YUL_PI_e. -/
abbrev YUL_PI (e : Nat) : Nat := 0x710000 + 0x4 * e
abbrev YUL_PI_VALUE (e : Nat) : Fld := ⟨YUL_PI e, 31, 0⟩
/-- Offset of ETH_UTC. -/
abbrev ETH_UTC : Nat := 0x800020
abbrev ETH_UTC_VALID : Fld := ⟨ETH_UTC, 31, 31⟩
abbrev ETH_UTC_OFS : Fld := ⟨ETH_UTC, 15, 0⟩
/-- Offset of ETH_PRP_CNT. -/
abbrev ETH_PRP_CNT : Nat := 0x800024
abbrev ETH_PRP_CNT_EVICT : Fld := ⟨ETH_PRP_CNT, 31, 16⟩
abbrev ETH_PRP_CNT_DUP : Fld := ⟨ETH_PRP_CNT, 15, 0⟩
/-- Offset of ETH_HOST_STAT. -/
abbrev ETH_HOST_STAT : Nat := 0x800028
abbrev ETH_HOST_STAT_RX_LOST : Fld := ⟨ETH_HOST_STAT, 31, 0⟩
/-- Offset of ETH_MCAST_i_0. -/
abbrev ETH_MCAST_0 (i : Nat) : Nat := 0x800040 + 0x8 * i
abbrev ETH_MCAST_0_MAC_LO (i : Nat) : Fld := ⟨ETH_MCAST_0 i, 31, 0⟩
/-- Offset of ETH_MCAST_i_1. -/
abbrev ETH_MCAST_1 (i : Nat) : Nat := 0x800044 + 0x8 * i
abbrev ETH_MCAST_1_EN (i : Nat) : Fld := ⟨ETH_MCAST_1 i, 31, 31⟩
abbrev ETH_MCAST_1_MAC_HI (i : Nat) : Fld := ⟨ETH_MCAST_1 i, 15, 0⟩
/-- Offset of ETH_Pp_CFG. -/
abbrev ETH_P_CFG (p : Nat) : Nat := 0x801000 + 0x100 * p
abbrev ETH_P_CFG_GPASS (p : Nat) : Fld := ⟨ETH_P_CFG p, 7, 7⟩
abbrev ETH_P_CFG_ESS (p : Nat) : Fld := ⟨ETH_P_CFG p, 6, 6⟩
abbrev ETH_P_CFG_ROLE (p : Nat) : Fld := ⟨ETH_P_CFG p, 2, 0⟩
/-- Offset of ETH_Pp_STAT. -/
abbrev ETH_P_STAT (p : Nat) : Nat := 0x801004 + 0x100 * p
abbrev ETH_P_STAT_SHED (p : Nat) : Fld := ⟨ETH_P_STAT p, 1, 1⟩
abbrev ETH_P_STAT_LINK (p : Nat) : Fld := ⟨ETH_P_STAT p, 0, 0⟩
/-- Offset of ETH_Pp_MAC_0. -/
abbrev ETH_P_MAC_0 (p : Nat) : Nat := 0x801008 + 0x100 * p
abbrev ETH_P_MAC_0_MAC (p : Nat) : Fld := ⟨ETH_P_MAC_0 p, 31, 0⟩
/-- Offset of ETH_Pp_MAC_1. -/
abbrev ETH_P_MAC_1 (p : Nat) : Nat := 0x80100c + 0x100 * p
abbrev ETH_P_MAC_1_MAC (p : Nat) : Fld := ⟨ETH_P_MAC_1 p, 31, 0⟩
/-- Offset of ETH_Pp_CNT. -/
abbrev ETH_P_CNT (p : Nat) : Nat := 0x801010 + 0x100 * p
abbrev ETH_P_CNT_PREEMPT (p : Nat) : Fld := ⟨ETH_P_CNT p, 31, 16⟩
abbrev ETH_P_CNT_DROP (p : Nat) : Fld := ⟨ETH_P_CNT p, 15, 0⟩
/-- Offset of ETH_GPk_CFG. -/
abbrev ETH_GP_CFG (k : Nat) : Nat := 0x802000 + 0x20 * k
abbrev ETH_GP_CFG_EN (k : Nat) : Fld := ⟨ETH_GP_CFG k, 31, 31⟩
abbrev ETH_GP_CFG_TRIP (k : Nat) : Fld := ⟨ETH_GP_CFG k, 30, 30⟩
abbrev ETH_GP_CFG_STAMP (k : Nat) : Fld := ⟨ETH_GP_CFG k, 29, 29⟩
abbrev ETH_GP_CFG_NB (k : Nat) : Fld := ⟨ETH_GP_CFG k, 13, 8⟩
abbrev ETH_GP_CFG_PORTS (k : Nat) : Fld := ⟨ETH_GP_CFG k, 3, 0⟩
/-- Offset of ETH_GPk_INT. -/
abbrev ETH_GP_INT (k : Nat) : Nat := 0x802004 + 0x20 * k
abbrev ETH_GP_INT_TMAX (k : Nat) : Fld := ⟨ETH_GP_INT k, 31, 16⟩
abbrev ETH_GP_INT_TMIN (k : Nat) : Fld := ⟨ETH_GP_INT k, 15, 0⟩
/-- Offset of ETH_GPk_ST. -/
abbrev ETH_GP_ST (k : Nat) : Nat := 0x802008 + 0x20 * k
abbrev ETH_GP_ST_NUM (k : Nat) : Fld := ⟨ETH_GP_ST k, 31, 0⟩
/-- Offset of ETH_GPk_SQ. -/
abbrev ETH_GP_SQ (k : Nat) : Nat := 0x80200c + 0x20 * k
abbrev ETH_GP_SQ_NUM (k : Nat) : Fld := ⟨ETH_GP_SQ k, 31, 0⟩
/-- Offset of ETH_GPk_VAL. -/
abbrev ETH_GP_VAL (k : Nat) : Nat := 0x802010 + 0x20 * k
abbrev ETH_GP_VAL_MEMBERS (k : Nat) : Fld := ⟨ETH_GP_VAL k, 31, 0⟩
/-- Offset of ETH_GSk_CFG. -/
abbrev ETH_GS_CFG (k : Nat) : Nat := 0x803000 + 0x20 * k
abbrev ETH_GS_CFG_EN (k : Nat) : Fld := ⟨ETH_GS_CFG k, 31, 31⟩
abbrev ETH_GS_CFG_SIM (k : Nat) : Fld := ⟨ETH_GS_CFG k, 30, 30⟩
abbrev ETH_GS_CFG_EVT (k : Nat) : Fld := ⟨ETH_GS_CFG k, 29, 29⟩
abbrev ETH_GS_CFG_APPID (k : Nat) : Fld := ⟨ETH_GS_CFG k, 13, 0⟩
/-- Offset of ETH_GSk_CONFREV. -/
abbrev ETH_GS_CONFREV (k : Nat) : Nat := 0x803004 + 0x20 * k
abbrev ETH_GS_CONFREV_CONFREV (k : Nat) : Fld := ⟨ETH_GS_CONFREV k, 31, 0⟩
/-- Offset of ETH_GSk_STAT. -/
abbrev ETH_GS_STAT (k : Nat) : Nat := 0x803008 + 0x20 * k
abbrev ETH_GS_STAT_STALE (k : Nat) : Fld := ⟨ETH_GS_STAT k, 31, 31⟩
abbrev ETH_GS_STAT_CONFREV (k : Nat) : Fld := ⟨ETH_GS_STAT k, 30, 30⟩
abbrev ETH_GS_STAT_ST (k : Nat) : Fld := ⟨ETH_GS_STAT k, 29, 0⟩
/-- Offset of ETH_GSk_VAL. -/
abbrev ETH_GS_VAL (k : Nat) : Nat := 0x80300c + 0x20 * k
abbrev ETH_GS_VAL_MEMBERS (k : Nat) : Fld := ⟨ETH_GS_VAL k, 31, 0⟩
/-- Offset of ETH_SVPk_CFG. -/
abbrev ETH_SVP_CFG (k : Nat) : Nat := 0x804000 + 0x20 * k
abbrev ETH_SVP_CFG_EN (k : Nat) : Fld := ⟨ETH_SVP_CFG k, 31, 31⟩
abbrev ETH_SVP_CFG_RATE (k : Nat) : Fld := ⟨ETH_SVP_CFG k, 30, 30⟩
abbrev ETH_SVP_CFG_PORTS (k : Nat) : Fld := ⟨ETH_SVP_CFG k, 3, 0⟩
/-- Offset of ETH_SVPk_SRC_0. -/
abbrev ETH_SVP_SRC_0 (k : Nat) : Nat := 0x804004 + 0x20 * k
abbrev ETH_SVP_SRC_0_CH (k : Nat) : Fld := ⟨ETH_SVP_SRC_0 k, 31, 0⟩
/-- Offset of ETH_SVPk_SRC_1. -/
abbrev ETH_SVP_SRC_1 (k : Nat) : Nat := 0x804008 + 0x20 * k
abbrev ETH_SVP_SRC_1_CH (k : Nat) : Fld := ⟨ETH_SVP_SRC_1 k, 31, 0⟩
/-- Offset of ETH_SVSk_CFG. -/
abbrev ETH_SVS_CFG (k : Nat) : Nat := 0x804200 + 0x20 * k
abbrev ETH_SVS_CFG_EN (k : Nat) : Fld := ⟨ETH_SVS_CFG k, 31, 31⟩
abbrev ETH_SVS_CFG_RATE (k : Nat) : Fld := ⟨ETH_SVS_CFG k, 30, 30⟩
abbrev ETH_SVS_CFG_TEST (k : Nat) : Fld := ⟨ETH_SVS_CFG k, 29, 29⟩
abbrev ETH_SVS_CFG_APPID (k : Nat) : Fld := ⟨ETH_SVS_CFG k, 13, 0⟩
/-- Offset of ETH_SVSk_DLY. -/
abbrev ETH_SVS_DLY (k : Nat) : Nat := 0x804204 + 0x20 * k
abbrev ETH_SVS_DLY_NS (k : Nat) : Fld := ⟨ETH_SVS_DLY k, 31, 0⟩
/-- Offset of ETH_SVSk_STAT. -/
abbrev ETH_SVS_STAT (k : Nat) : Nat := 0x804208 + 0x20 * k
abbrev ETH_SVS_STAT_LATE (k : Nat) : Fld := ⟨ETH_SVS_STAT k, 31, 16⟩
abbrev ETH_SVS_STAT_SMPCNT (k : Nat) : Fld := ⟨ETH_SVS_STAT k, 15, 0⟩
/-- Offset of EVT_STAT. -/
abbrev EVT_STAT : Nat := 0x900020
abbrev EVT_STAT_HOST_Q_LOSS0 : Fld := ⟨EVT_STAT, 31, 31⟩
abbrev EVT_STAT_SOE_RES_FULL : Fld := ⟨EVT_STAT, 30, 30⟩
abbrev EVT_STAT_INTAKE_LOST : Fld := ⟨EVT_STAT, 29, 29⟩
abbrev EVT_STAT_NEXT_SEQ : Fld := ⟨EVT_STAT, 15, 0⟩
/-- Offset of EVT_INTAKE_LOST. -/
abbrev EVT_INTAKE_LOST : Nat := 0x900024
abbrev EVT_INTAKE_LOST_COUNT : Fld := ⟨EVT_INTAKE_LOST, 31, 0⟩
/-- Offset of EVT_Pp_CFG. -/
abbrev EVT_P_CFG (p : Nat) : Nat := 0x900040 + 0x10 * p
abbrev EVT_P_CFG_CLASSES (p : Nat) : Fld := ⟨EVT_P_CFG p, 27, 24⟩
abbrev EVT_P_CFG_BUDGET (p : Nat) : Fld := ⟨EVT_P_CFG p, 15, 0⟩
/-- Offset of EVT_Pp_WIN. -/
abbrev EVT_P_WIN (p : Nat) : Nat := 0x900044 + 0x10 * p
abbrev EVT_P_WIN_OVER (p : Nat) : Fld := ⟨EVT_P_WIN p, 31, 31⟩
abbrev EVT_P_WIN_CUT (p : Nat) : Fld := ⟨EVT_P_WIN p, 25, 24⟩
abbrev EVT_P_WIN_COUNT (p : Nat) : Fld := ⟨EVT_P_WIN p, 15, 0⟩
/-- Offset of EVT_Pp_GROUT. -/
abbrev EVT_P_GROUT (p : Nat) : Nat := 0x900048 + 0x10 * p
abbrev EVT_P_GROUT_COUNT (p : Nat) : Fld := ⟨EVT_P_GROUT p, 31, 0⟩
/-- Offset of EVT_Pp_LOSS. -/
abbrev EVT_P_LOSS (p : Nat) : Nat := 0x90004c + 0x10 * p
abbrev EVT_P_LOSS_LOSS0 (p : Nat) : Fld := ⟨EVT_P_LOSS p, 31, 16⟩
abbrev EVT_P_LOSS_LOSS (p : Nat) : Fld := ⟨EVT_P_LOSS p, 15, 0⟩
/-- Offset of EVT_HQ_STAT. -/
abbrev EVT_HQ_STAT : Nat := 0x900080
abbrev EVT_HQ_STAT_C0 : Fld := ⟨EVT_HQ_STAT, 26, 16⟩
abbrev EVT_HQ_STAT_DEPTH : Fld := ⟨EVT_HQ_STAT, 10, 0⟩
/-- Offset of EVT_HQ_THR. -/
abbrev EVT_HQ_THR : Nat := 0x900084
abbrev EVT_HQ_THR_THR : Fld := ⟨EVT_HQ_THR, 10, 0⟩
/-- Offset of EVT_HQ_w. -/
abbrev EVT_HQ (w : Nat) : Nat := 0x9000a0 + 0x4 * w
abbrev EVT_HQ_DATA (w : Nat) : Fld := ⟨EVT_HQ w, 31, 0⟩
/-- Offset of EVT_SOE_STAT. -/
abbrev EVT_SOE_STAT : Nat := 0x9000c0
abbrev EVT_SOE_STAT_WRAPPED : Fld := ⟨EVT_SOE_STAT, 31, 31⟩
abbrev EVT_SOE_STAT_WR : Fld := ⟨EVT_SOE_STAT, 15, 0⟩
/-- Offset of EVT_SOE0_STAT. -/
abbrev EVT_SOE0_STAT : Nat := 0x9000c4
abbrev EVT_SOE0_STAT_USED : Fld := ⟨EVT_SOE0_STAT, 28, 16⟩
abbrev EVT_SOE0_STAT_OLDEST : Fld := ⟨EVT_SOE0_STAT, 11, 0⟩
/-- Offset of EVT_SOE_CMD. -/
abbrev EVT_SOE_CMD : Nat := 0x9000c8
abbrev EVT_SOE_CMD_REGION : Fld := ⟨EVT_SOE_CMD, 8, 8⟩
abbrev EVT_SOE_CMD_OP : Fld := ⟨EVT_SOE_CMD, 3, 0⟩
/-- Offset of EVT_SOE_ARG. -/
abbrev EVT_SOE_ARG : Nat := 0x9000cc
abbrev EVT_SOE_ARG_COUNT : Fld := ⟨EVT_SOE_ARG, 31, 16⟩
abbrev EVT_SOE_ARG_INDEX : Fld := ⟨EVT_SOE_ARG, 15, 0⟩
/-- Offset of EVT_DUMP_ADDR. -/
abbrev EVT_DUMP_ADDR : Nat := 0x9000d0
abbrev EVT_DUMP_ADDR_ADDR : Fld := ⟨EVT_DUMP_ADDR, 31, 5⟩
/-- Offset of EVT_SOE_RD_w. -/
abbrev EVT_SOE_RD (w : Nat) : Nat := 0x9000e0 + 0x4 * w
abbrev EVT_SOE_RD_DATA (w : Nat) : Fld := ⟨EVT_SOE_RD w, 31, 0⟩
/-- Offset of EVT_TRC_BASE. -/
abbrev EVT_TRC_BASE : Nat := 0x900100
abbrev EVT_TRC_BASE_ADDR : Fld := ⟨EVT_TRC_BASE, 31, 0⟩
/-- Offset of EVT_TRC_WRPTR. -/
abbrev EVT_TRC_WRPTR : Nat := 0x900104
abbrev EVT_TRC_WRPTR_OFS : Fld := ⟨EVT_TRC_WRPTR, 31, 0⟩
/-- Offset of EVT_TRC_WRAPS. -/
abbrev EVT_TRC_WRAPS : Nat := 0x900108
abbrev EVT_TRC_WRAPS_COUNT : Fld := ⟨EVT_TRC_WRAPS, 31, 0⟩
/-- Offset of DIO_IN. -/
abbrev DIO_IN : Nat := 0xa00020
abbrev DIO_IN_BITS : Fld := ⟨DIO_IN, 31, 0⟩
/-- Offset of DIO_RAW. -/
abbrev DIO_RAW : Nat := 0xa00024
abbrev DIO_RAW_BITS : Fld := ⟨DIO_RAW, 31, 0⟩
/-- Offset of DIO_CMDST. -/
abbrev DIO_CMDST : Nat := 0xa00028
abbrev DIO_CMDST_BITS : Fld := ⟨DIO_CMDST, 31, 0⟩
/-- Offset of DIO_LATCH. -/
abbrev DIO_LATCH : Nat := 0xa0002c
abbrev DIO_LATCH_BITS : Fld := ⟨DIO_LATCH, 31, 0⟩
/-- Offset of DIO_DRV. -/
abbrev DIO_DRV : Nat := 0xa00030
abbrev DIO_DRV_BITS : Fld := ⟨DIO_DRV, 31, 0⟩
/-- Offset of DIO_Gg_SUP. -/
abbrev DIO_G_SUP (g : Nat) : Nat := 0xa00100 + 0x20 * g
abbrev DIO_G_SUP_STATE (g : Nat) : Fld := ⟨DIO_G_SUP g, 31, 30⟩
abbrev DIO_G_SUP_HIGH (g : Nat) : Fld := ⟨DIO_G_SUP g, 29, 29⟩
abbrev DIO_G_SUP_MISS_SEEN (g : Nat) : Fld := ⟨DIO_G_SUP g, 28, 28⟩
abbrev DIO_G_SUP_LOW_SEEN (g : Nat) : Fld := ⟨DIO_G_SUP g, 27, 27⟩
abbrev DIO_G_SUP_PREADY (g : Nat) : Fld := ⟨DIO_G_SUP g, 26, 26⟩
abbrev DIO_G_SUP_DROPS (g : Nat) : Fld := ⟨DIO_G_SUP g, 15, 0⟩
/-- Offset of DIO_Gg_WDT. -/
abbrev DIO_G_WDT (g : Nat) : Nat := 0xa00104 + 0x20 * g
abbrev DIO_G_WDT_EN (g : Nat) : Fld := ⟨DIO_G_WDT g, 31, 31⟩
abbrev DIO_G_WDT_US (g : Nat) : Fld := ⟨DIO_G_WDT g, 23, 0⟩
/-- Offset of DIO_Gg_WST. -/
abbrev DIO_G_WST (g : Nat) : Nat := 0xa00108 + 0x20 * g
abbrev DIO_G_WST_SAFE (g : Nat) : Fld := ⟨DIO_G_WST g, 31, 31⟩
abbrev DIO_G_WST_REFRESHED (g : Nat) : Fld := ⟨DIO_G_WST g, 30, 30⟩
abbrev DIO_G_WST_REARM_REJ (g : Nat) : Fld := ⟨DIO_G_WST g, 29, 29⟩
abbrev DIO_G_WST_EXPIRIES (g : Nat) : Fld := ⟨DIO_G_WST g, 15, 0⟩
/-- Offset of DIO_Gg_CMD. -/
abbrev DIO_G_CMD (g : Nat) : Nat := 0xa0010c + 0x20 * g
abbrev DIO_G_CMD_REARM (g : Nat) : Fld := ⟨DIO_G_CMD g, 1, 1⟩
abbrev DIO_G_CMD_KICK (g : Nat) : Fld := ⟨DIO_G_CMD g, 0, 0⟩
/-- Offset of DIO_CHn_CFG. -/
abbrev DIO_CH_CFG (n : Nat) : Nat := 0xa01000 + 0x20 * n
abbrev DIO_CH_CFG_EVT (n : Nat) : Fld := ⟨DIO_CH_CFG n, 31, 31⟩
abbrev DIO_CH_CFG_INIT (n : Nat) : Fld := ⟨DIO_CH_CFG n, 30, 30⟩
abbrev DIO_CH_CFG_SAFE (n : Nat) : Fld := ⟨DIO_CH_CFG n, 29, 28⟩
abbrev DIO_CH_CFG_RETRY (n : Nat) : Fld := ⟨DIO_CH_CFG n, 27, 27⟩
abbrev DIO_CH_CFG_OPEN_OFF (n : Nat) : Fld := ⟨DIO_CH_CFG n, 26, 26⟩
abbrev DIO_CH_CFG_FUNC (n : Nat) : Fld := ⟨DIO_CH_CFG n, 17, 16⟩
abbrev DIO_CH_CFG_TYPE (n : Nat) : Fld := ⟨DIO_CH_CFG n, 1, 0⟩
/-- Offset of DIO_CHn_FLT. -/
abbrev DIO_CH_FLT (n : Nat) : Nat := 0xa01004 + 0x20 * n
abbrev DIO_CH_FLT_GATE (n : Nat) : Fld := ⟨DIO_CH_FLT n, 31, 22⟩
abbrev DIO_CH_FLT_TICK (n : Nat) : Fld := ⟨DIO_CH_FLT n, 21, 12⟩
abbrev DIO_CH_FLT_L (n : Nat) : Fld := ⟨DIO_CH_FLT n, 11, 0⟩
/-- Offset of DIO_CHn_STAT. -/
abbrev DIO_CH_STAT (n : Nat) : Nat := 0xa01008 + 0x20 * n
abbrev DIO_CH_STAT_OVL (n : Nat) : Fld := ⟨DIO_CH_STAT n, 31, 31⟩
abbrev DIO_CH_STAT_OPEN (n : Nat) : Fld := ⟨DIO_CH_STAT n, 30, 30⟩
abbrev DIO_CH_STAT_OTEMP (n : Nat) : Fld := ⟨DIO_CH_STAT n, 29, 29⟩
abbrev DIO_CH_STAT_EXT (n : Nat) : Fld := ⟨DIO_CH_STAT n, 28, 28⟩
abbrev DIO_CH_STAT_QERR (n : Nat) : Fld := ⟨DIO_CH_STAT n, 27, 27⟩
abbrev DIO_CH_STAT_FLOW (n : Nat) : Fld := ⟨DIO_CH_STAT n, 26, 26⟩
abbrev DIO_CH_STAT_Y (n : Nat) : Fld := ⟨DIO_CH_STAT n, 25, 25⟩
abbrev DIO_CH_STAT_RAW (n : Nat) : Fld := ⟨DIO_CH_STAT n, 24, 24⟩
abbrev DIO_CH_STAT_INTEG (n : Nat) : Fld := ⟨DIO_CH_STAT n, 11, 0⟩
/-- Offset of DIO_CHn_CNT. -/
abbrev DIO_CH_CNT (n : Nat) : Nat := 0xa0100c + 0x20 * n
abbrev DIO_CH_CNT_COUNT (n : Nat) : Fld := ⟨DIO_CH_CNT n, 31, 0⟩
/-- Offset of DIO_CHn_FREQ. -/
abbrev DIO_CH_FREQ (n : Nat) : Nat := 0xa01010 + 0x20 * n
abbrev DIO_CH_FREQ_HZ (n : Nat) : Fld := ⟨DIO_CH_FREQ n, 31, 0⟩
/-- Offset of AO_STAT. -/
abbrev AO_STAT : Nat := 0xb00020
abbrev AO_STAT_VAO_LOW : Fld := ⟨AO_STAT, 31, 31⟩
abbrev AO_STAT_THERMAL : Fld := ⟨AO_STAT, 15, 8⟩
abbrev AO_STAT_COMPL : Fld := ⟨AO_STAT, 7, 0⟩
/-- Offset of AO_WDT. -/
abbrev AO_WDT : Nat := 0xb00024
abbrev AO_WDT_EN : Fld := ⟨AO_WDT, 31, 31⟩
abbrev AO_WDT_US : Fld := ⟨AO_WDT, 23, 0⟩
/-- Offset of AO_WST. -/
abbrev AO_WST : Nat := 0xb00028
abbrev AO_WST_SAFE : Fld := ⟨AO_WST, 31, 31⟩
abbrev AO_WST_REFRESHED : Fld := ⟨AO_WST, 30, 30⟩
abbrev AO_WST_REARM_REJ : Fld := ⟨AO_WST, 29, 29⟩
abbrev AO_WST_EXPIRIES : Fld := ⟨AO_WST, 15, 0⟩
/-- Offset of AO_CMD. -/
abbrev AO_CMD : Nat := 0xb0002c
abbrev AO_CMD_REARM : Fld := ⟨AO_CMD, 1, 1⟩
abbrev AO_CMD_KICK : Fld := ⟨AO_CMD, 0, 0⟩
/-- Offset of AO_CHn_CFG. -/
abbrev AO_CH_CFG (n : Nat) : Nat := 0xb01000 + 0x40 * n
abbrev AO_CH_CFG_SEALED (n : Nat) : Fld := ⟨AO_CH_CFG n, 31, 31⟩
abbrev AO_CH_CFG_SAFE (n : Nat) : Fld := ⟨AO_CH_CFG n, 29, 28⟩
abbrev AO_CH_CFG_MODE (n : Nat) : Fld := ⟨AO_CH_CFG n, 1, 0⟩
/-- Offset of AO_CHn_INIT. -/
abbrev AO_CH_INIT (n : Nat) : Nat := 0xb01004 + 0x40 * n
abbrev AO_CH_INIT_CODE (n : Nat) : Fld := ⟨AO_CH_INIT n, 15, 0⟩
/-- Offset of AO_CHn_CODE. -/
abbrev AO_CH_CODE (n : Nat) : Nat := 0xb01008 + 0x40 * n
abbrev AO_CH_CODE_CODE (n : Nat) : Fld := ⟨AO_CH_CODE n, 15, 0⟩
/-- Offset of AO_CHn_OUT. -/
abbrev AO_CH_OUT (n : Nat) : Nat := 0xb0100c + 0x40 * n
abbrev AO_CH_OUT_RAW (n : Nat) : Fld := ⟨AO_CH_OUT n, 15, 0⟩
/-- Offset of AO_CHn_STAT. -/
abbrev AO_CH_STAT (n : Nat) : Nat := 0xb01010 + 0x40 * n
abbrev AO_CH_STAT_COMPLIANCE (n : Nat) : Fld := ⟨AO_CH_STAT n, 31, 31⟩
abbrev AO_CH_STAT_THERMAL (n : Nat) : Fld := ⟨AO_CH_STAT n, 30, 30⟩
abbrev AO_CH_STAT_CUT (n : Nat) : Fld := ⟨AO_CH_STAT n, 29, 29⟩
abbrev AO_CH_STAT_TRIM_ERR (n : Nat) : Fld := ⟨AO_CH_STAT n, 28, 28⟩
abbrev AO_CH_STAT_RSAFE (n : Nat) : Fld := ⟨AO_CH_STAT n, 27, 27⟩
/-- Offset of AO_CHn_RB. -/
abbrev AO_CH_RB (n : Nat) : Nat := 0xb01014 + 0x40 * n
abbrev AO_CH_RB_V (n : Nat) : Fld := ⟨AO_CH_RB n, 31, 16⟩
abbrev AO_CH_RB_I (n : Nat) : Fld := ⟨AO_CH_RB n, 15, 0⟩
/-- Offset of AO_CHn_TEMP. -/
abbrev AO_CH_TEMP (n : Nat) : Nat := 0xb01018 + 0x40 * n
abbrev AO_CH_TEMP_DEG (n : Nat) : Fld := ⟨AO_CH_TEMP n, 15, 0⟩
/-- Offset of AO_CHn_TRIM_G. -/
abbrev AO_CH_TRIM_G (n : Nat) : Nat := 0xb0101c + 0x40 * n
abbrev AO_CH_TRIM_G_G (n : Nat) : Fld := ⟨AO_CH_TRIM_G n, 31, 0⟩
/-- Offset of AO_CHn_TRIM_O. -/
abbrev AO_CH_TRIM_O (n : Nat) : Nat := 0xb01020 + 0x40 * n
abbrev AO_CH_TRIM_O_O (n : Nat) : Fld := ⟨AO_CH_TRIM_O n, 31, 0⟩
/-- Offset of AO_CHn_TCTL. -/
abbrev AO_CH_TCTL (n : Nat) : Nat := 0xb01024 + 0x40 * n
abbrev AO_CH_TCTL_TRIM (n : Nat) : Fld := ⟨AO_CH_TCTL n, 31, 31⟩
abbrev AO_CH_TCTL_APPLY (n : Nat) : Fld := ⟨AO_CH_TCTL n, 30, 30⟩
abbrev AO_CH_TCTL_TCODE (n : Nat) : Fld := ⟨AO_CH_TCTL n, 15, 0⟩
/-- Offset of AO_CHn_TMEAS_1. -/
abbrev AO_CH_TMEAS_1 (n : Nat) : Nat := 0xb01028 + 0x40 * n
abbrev AO_CH_TMEAS_1_NA (n : Nat) : Fld := ⟨AO_CH_TMEAS_1 n, 31, 0⟩
/-- Offset of AO_CHn_TMEAS_2. -/
abbrev AO_CH_TMEAS_2 (n : Nat) : Nat := 0xb0102c + 0x40 * n
abbrev AO_CH_TMEAS_2_NA (n : Nat) : Fld := ⟨AO_CH_TMEAS_2 n, 31, 0⟩
/-- Offset of AO_CHn_TRAW. -/
abbrev AO_CH_TRAW (n : Nat) : Nat := 0xb01030 + 0x40 * n
abbrev AO_CH_TRAW_R2 (n : Nat) : Fld := ⟨AO_CH_TRAW n, 31, 16⟩
abbrev AO_CH_TRAW_R1 (n : Nat) : Fld := ⟨AO_CH_TRAW n, 15, 0⟩
/-- Offset of PWR_STAT. -/
abbrev PWR_STAT : Nat := 0x10020
abbrev PWR_STAT_PROFILE : Fld := ⟨PWR_STAT, 31, 30⟩
abbrev PWR_STAT_VIN_OK : Fld := ⟨PWR_STAT, 29, 29⟩
abbrev PWR_STAT_RIDE : Fld := ⟨PWR_STAT, 28, 28⟩
abbrev PWR_STAT_FORCED : Fld := ⟨PWR_STAT, 27, 27⟩
abbrev PWR_STAT_STAG_DONE : Fld := ⟨PWR_STAT, 26, 26⟩
abbrev PWR_STAT_CHARGED : Fld := ⟨PWR_STAT, 25, 25⟩
abbrev PWR_STAT_SLOT : Fld := ⟨PWR_STAT, 4, 0⟩
/-- Offset of PWR_CMD. -/
abbrev PWR_CMD : Nat := 0x10024
abbrev PWR_CMD_STANDBY : Fld := ⟨PWR_CMD, 2, 2⟩
abbrev PWR_CMD_COLD : Fld := ⟨PWR_CMD, 1, 1⟩
abbrev PWR_CMD_WARM : Fld := ⟨PWR_CMD, 0, 0⟩
/-- Offset of PWR_GOV_CTL. -/
abbrev PWR_GOV_CTL : Nat := 0x10028
abbrev PWR_GOV_CTL_FORCE : Fld := ⟨PWR_GOV_CTL, 1, 0⟩
/-- Offset of PWR_GOV_THR_F. -/
abbrev PWR_GOV_THR_F : Nat := 0x1002c
abbrev PWR_GOV_THR_F_MJ : Fld := ⟨PWR_GOV_THR_F, 31, 0⟩
/-- Offset of PWR_GOV_THR_L. -/
abbrev PWR_GOV_THR_L : Nat := 0x10030
abbrev PWR_GOV_THR_L_MJ : Fld := ⟨PWR_GOV_THR_L, 31, 0⟩
/-- Offset of PWR_GOV_THR_S. -/
abbrev PWR_GOV_THR_S : Nat := 0x10034
abbrev PWR_GOV_THR_S_MJ : Fld := ⟨PWR_GOV_THR_S, 31, 0⟩
/-- Offset of PWR_HOLD_CAP. -/
abbrev PWR_HOLD_CAP : Nat := 0x10038
abbrev PWR_HOLD_CAP_UF : Fld := ⟨PWR_HOLD_CAP, 31, 0⟩
/-- Offset of PWR_HOLD_VMIN. -/
abbrev PWR_HOLD_VMIN : Nat := 0x1003c
abbrev PWR_HOLD_VMIN_MV : Fld := ⟨PWR_HOLD_VMIN, 31, 0⟩
/-- Offset of PWR_HOLD_VSET. -/
abbrev PWR_HOLD_VSET : Nat := 0x10040
abbrev PWR_HOLD_VSET_MV : Fld := ⟨PWR_HOLD_VSET, 31, 0⟩
/-- Offset of PWR_HOLD_V. -/
abbrev PWR_HOLD_V : Nat := 0x10044
abbrev PWR_HOLD_V_MV : Fld := ⟨PWR_HOLD_V, 31, 0⟩
/-- Offset of PWR_VIN_V. -/
abbrev PWR_VIN_V : Nat := 0x1004c
abbrev PWR_VIN_V_MV : Fld := ⟨PWR_VIN_V, 31, 0⟩
/-- Offset of PWR_HOLD_E. -/
abbrev PWR_HOLD_E : Nat := 0x10048
abbrev PWR_HOLD_E_MJ : Fld := ⟨PWR_HOLD_E, 31, 0⟩
/-- Offset of PWR_CHG. -/
abbrev PWR_CHG : Nat := 0x10050
abbrev PWR_CHG_EN : Fld := ⟨PWR_CHG, 31, 31⟩
abbrev PWR_CHG_MA : Fld := ⟨PWR_CHG, 15, 0⟩
/-- Offset of PWR_VBAT. -/
abbrev PWR_VBAT : Nat := 0x10054
abbrev PWR_VBAT_LOW : Fld := ⟨PWR_VBAT, 31, 31⟩
abbrev PWR_VBAT_MV : Fld := ⟨PWR_VBAT, 15, 0⟩
/-- Offset of PWR_STAG. -/
abbrev PWR_STAG : Nat := 0x10058
abbrev PWR_STAG_GAP : Fld := ⟨PWR_STAG, 7, 0⟩
/-- Offset of PWR_SHED_0. -/
abbrev PWR_SHED_0 : Nat := 0x1005c
abbrev PWR_SHED_0_SLOTS : Fld := ⟨PWR_SHED_0, 24, 0⟩
/-- Offset of PWR_SHED_1. -/
abbrev PWR_SHED_1 : Nat := 0x10060
abbrev PWR_SHED_1_PORTS : Fld := ⟨PWR_SHED_1, 3, 0⟩
/-- Offset of PWR_BOOT. -/
abbrev PWR_BOOT : Nat := 0x10064
abbrev PWR_BOOT_CAUSE : Fld := ⟨PWR_BOOT, 31, 30⟩
abbrev PWR_BOOT_T_PROT : Fld := ⟨PWR_BOOT, 19, 0⟩
/-- Offset of PWR_BOOT_T. -/
abbrev PWR_BOOT_T : Nat := 0x10068
abbrev PWR_BOOT_T_T_READY : Fld := ⟨PWR_BOOT_T, 31, 0⟩
/-- Offset of PWR_CNT. -/
abbrev PWR_CNT : Nat := 0x1006c
abbrev PWR_CNT_RIDES : Fld := ⟨PWR_CNT, 31, 16⟩
abbrev PWR_CNT_ENDS : Fld := ⟨PWR_CNT, 15, 0⟩
/-- Offset of PWR_RT_LAST_0. -/
abbrev PWR_RT_LAST_0 : Nat := 0x10070
abbrev PWR_RT_LAST_0_MS : Fld := ⟨PWR_RT_LAST_0, 31, 0⟩
/-- Offset of PWR_RT_LAST_1. -/
abbrev PWR_RT_LAST_1 : Nat := 0x10074
abbrev PWR_RT_LAST_1_END : Fld := ⟨PWR_RT_LAST_1, 31, 31⟩
abbrev PWR_RT_LAST_1_LOWEST : Fld := ⟨PWR_RT_LAST_1, 1, 0⟩
/-- Offset of PWR_SLOT_u. -/
abbrev PWR_SLOT (u : Nat) : Nat := 0x10100 + 0x4 * u
abbrev PWR_SLOT_FAIL (u : Nat) : Fld := ⟨PWR_SLOT u, 31, 31⟩
abbrev PWR_SLOT_EMPTY (u : Nat) : Fld := ⟨PWR_SLOT u, 30, 30⟩
abbrev PWR_SLOT_START (u : Nat) : Fld := ⟨PWR_SLOT u, 29, 16⟩
abbrev PWR_SLOT_READY (u : Nat) : Fld := ⟨PWR_SLOT u, 15, 0⟩
/-- Offset of WYT_CFG. -/
abbrev WYT_CFG : Nat := 0xc00020
abbrev WYT_CFG_EN : Fld := ⟨WYT_CFG, 31, 31⟩
abbrev WYT_CFG_TRIPW : Fld := ⟨WYT_CFG, 30, 30⟩
abbrev WYT_CFG_LOSS : Fld := ⟨WYT_CFG, 27, 24⟩
abbrev WYT_CFG_FORM : Fld := ⟨WYT_CFG, 23, 16⟩
abbrev WYT_CFG_WAIT : Fld := ⟨WYT_CFG, 15, 0⟩
/-- Offset of WYT_STAT. -/
abbrev WYT_STAT : Nat := 0xc00024
abbrev WYT_STAT_STATE : Fld := ⟨WYT_STAT, 31, 29⟩
abbrev WYT_STAT_ROLE : Fld := ⟨WYT_STAT, 28, 27⟩
abbrev WYT_STAT_SIDE : Fld := ⟨WYT_STAT, 26, 26⟩
abbrev WYT_STAT_CAUSE : Fld := ⟨WYT_STAT, 25, 24⟩
abbrev WYT_STAT_P_ROLE : Fld := ⟨WYT_STAT, 23, 22⟩
abbrev WYT_STAT_P_PROF : Fld := ⟨WYT_STAT, 21, 20⟩
abbrev WYT_STAT_DEGRADED : Fld := ⟨WYT_STAT, 19, 19⟩
abbrev WYT_STAT_RINGABS : Fld := ⟨WYT_STAT, 17, 16⟩
abbrev WYT_STAT_HBGOOD : Fld := ⟨WYT_STAT, 7, 0⟩
/-- Offset of WYT_CMD. -/
abbrev WYT_CMD : Nat := 0xc00028
abbrev WYT_CMD_REBASE : Fld := ⟨WYT_CMD, 0, 0⟩
/-- Offset of WYT_PSTAMP. -/
abbrev WYT_PSTAMP : Nat := 0xc0002c
abbrev WYT_PSTAMP_STAMP : Fld := ⟨WYT_PSTAMP, 31, 0⟩
/-- Offset of WYT_HB_CNT. -/
abbrev WYT_HB_CNT : Nat := 0xc00030
abbrev WYT_HB_CNT_MISSED : Fld := ⟨WYT_HB_CNT, 31, 16⟩
abbrev WYT_HB_CNT_LOSSES : Fld := ⟨WYT_HB_CNT, 15, 0⟩
/-- Offset of WYT_TRIP. -/
abbrev WYT_TRIP : Nat := 0xc00034
abbrev WYT_TRIP_DISAGREE : Fld := ⟨WYT_TRIP, 31, 16⟩
abbrev WYT_TRIP_WIN : Fld := ⟨WYT_TRIP, 15, 0⟩
/-- Offset of WYT_TOT_TOL. -/
abbrev WYT_TOT_TOL : Nat := 0xc00038
abbrev WYT_TOT_TOL_PPM : Fld := ⟨WYT_TOT_TOL, 31, 16⟩
abbrev WYT_TOT_TOL_ABS : Fld := ⟨WYT_TOT_TOL, 15, 0⟩
/-- Offset of WYT_TOT_STAT. -/
abbrev WYT_TOT_STAT : Nat := 0xc0003c
abbrev WYT_TOT_STAT_FLAGGED : Fld := ⟨WYT_TOT_STAT, 31, 16⟩
abbrev WYT_TOT_STAT_UNPAIRED : Fld := ⟨WYT_TOT_STAT, 15, 0⟩
/-- Offset of WYT_TOT_MAP_m. -/
abbrev WYT_TOT_MAP (m : Nat) : Nat := 0xc00040 + 0x4 * m
abbrev WYT_TOT_MAP_MAP (m : Nat) : Fld := ⟨WYT_TOT_MAP m, 31, 0⟩
/-- Offset of WYT_TKO_TW_0. -/
abbrev WYT_TKO_TW_0 : Nat := 0xc00060
abbrev WYT_TKO_TW_0_TW : Fld := ⟨WYT_TKO_TW_0, 31, 0⟩
/-- Offset of WYT_TKO_TW_1. -/
abbrev WYT_TKO_TW_1 : Nat := 0xc00064
abbrev WYT_TKO_TW_1_TW : Fld := ⟨WYT_TKO_TW_1, 31, 0⟩
/-- Offset of WYT_TKO_TW_2. -/
abbrev WYT_TKO_TW_2 : Nat := 0xc00068
abbrev WYT_TKO_TW_2_TW : Fld := ⟨WYT_TKO_TW_2, 31, 0⟩
/-- Offset of ETH_W_STAT. -/
abbrev ETH_W_STAT : Nat := 0x840020
abbrev ETH_W_STAT_LINK : Fld := ⟨ETH_W_STAT, 0, 0⟩
/-- Offset of ETH_W_MAC_0. -/
abbrev ETH_W_MAC_0 : Nat := 0x840024
abbrev ETH_W_MAC_0_MAC_LO : Fld := ⟨ETH_W_MAC_0, 31, 0⟩
/-- Offset of ETH_W_MAC_1. -/
abbrev ETH_W_MAC_1 : Nat := 0x840028
abbrev ETH_W_MAC_1_MAC_HI : Fld := ⟨ETH_W_MAC_1, 15, 0⟩
/-- Offset of ETH_W_CNT. -/
abbrev ETH_W_CNT : Nat := 0x84002c
abbrev ETH_W_CNT_FCS : Fld := ⟨ETH_W_CNT, 31, 16⟩
abbrev ETH_W_CNT_UNKNOWN : Fld := ⟨ETH_W_CNT, 15, 0⟩
/-- Offset of UNIT_ID. -/
abbrev UNIT_ID (b : Blk) : Nat := b.base + 0x0
abbrev UNIT_ID_FAMILY (b : Blk) : Fld := ⟨UNIT_ID b, 31, 16⟩
abbrev UNIT_ID_TYPE (b : Blk) : Fld := ⟨UNIT_ID b, 15, 8⟩
abbrev UNIT_ID_INST (b : Blk) : Fld := ⟨UNIT_ID b, 7, 0⟩
/-- Offset of UNIT_VER. -/
abbrev UNIT_VER (b : Blk) : Nat := b.base + 0x4
abbrev UNIT_VER_HWREV (b : Blk) : Fld := ⟨UNIT_VER b, 31, 16⟩
abbrev UNIT_VER_SEC_FMT (b : Blk) : Fld := ⟨UNIT_VER b, 15, 0⟩
/-- Offset of UNIT_CTL. -/
abbrev UNIT_CTL (b : Blk) : Nat := b.base + 0x8
abbrev UNIT_CTL_ENABLE (b : Blk) : Fld := ⟨UNIT_CTL b, 0, 0⟩
/-- Offset of UNIT_STAT. -/
abbrev UNIT_STAT (b : Blk) : Nat := b.base + 0xc
abbrev UNIT_STAT_STATE (b : Blk) : Fld := ⟨UNIT_STAT b, 5, 3⟩
abbrev UNIT_STAT_ENABLE_PENDING (b : Blk) : Fld := ⟨UNIT_STAT b, 2, 2⟩
abbrev UNIT_STAT_STOPPING (b : Blk) : Fld := ⟨UNIT_STAT b, 1, 1⟩
abbrev UNIT_STAT_READY (b : Blk) : Fld := ⟨UNIT_STAT b, 0, 0⟩
/-- Offset of UNIT_IRQ. -/
abbrev UNIT_IRQ (b : Blk) : Nat := b.base + 0x10
abbrev UNIT_IRQ_IRQ (b : Blk) : Fld := ⟨UNIT_IRQ b, 31, 0⟩
/-- Offset of UNIT_IRQ_EN. -/
abbrev UNIT_IRQ_EN (b : Blk) : Nat := b.base + 0x14
abbrev UNIT_IRQ_EN_EN (b : Blk) : Fld := ⟨UNIT_IRQ_EN b, 31, 0⟩
/-- Offset of UNIT_STAMP_0. -/
abbrev UNIT_STAMP_0 (b : Blk) : Nat := b.base + 0x18
abbrev UNIT_STAMP_0_LO (b : Blk) : Fld := ⟨UNIT_STAMP_0 b, 31, 0⟩
/-- Offset of UNIT_STAMP_1. -/
abbrev UNIT_STAMP_1 (b : Blk) : Nat := b.base + 0x1c
abbrev UNIT_STAMP_1_HI (b : Blk) : Fld := ⟨UNIT_STAMP_1 b, 31, 0⟩
/-- Offset of HST_ID. -/
abbrev HST_ID : Nat := 0x20
abbrev HST_ID_DEVICE : Fld := ⟨HST_ID, 31, 16⟩
abbrev HST_ID_VENDOR : Fld := ⟨HST_ID, 15, 0⟩
/-- Offset of HST_UNIT_PRES. -/
abbrev HST_UNIT_PRES : Nat := 0x24
abbrev HST_UNIT_PRES_DRAM2G : Fld := ⟨HST_UNIT_PRES, 24, 24⟩
abbrev HST_UNIT_PRES_AO : Fld := ⟨HST_UNIT_PRES, 23, 16⟩
abbrev HST_UNIT_PRES_DIO : Fld := ⟨HST_UNIT_PRES, 9, 8⟩
abbrev HST_UNIT_PRES_AFE : Fld := ⟨HST_UNIT_PRES, 7, 0⟩
/-- Offset of HST_STAT. -/
abbrev HST_STAT : Nat := 0x28
abbrev HST_STAT_DENIED_IF : Fld := ⟨HST_STAT, 7, 7⟩
abbrev HST_STAT_WARM : Fld := ⟨HST_STAT, 6, 6⟩
abbrev HST_STAT_WIN_DENIED : Fld := ⟨HST_STAT, 5, 5⟩
abbrev HST_STAT_PARTIAL : Fld := ⟨HST_STAT, 4, 4⟩
abbrev HST_STAT_BAD_ADDR : Fld := ⟨HST_STAT, 3, 3⟩
abbrev HST_STAT_TORN : Fld := ⟨HST_STAT, 2, 2⟩
abbrev HST_STAT_ACC_DENIED : Fld := ⟨HST_STAT, 1, 1⟩
/-- Offset of HST_ACC_CMD. -/
abbrev HST_ACC_CMD : Nat := 0x2c
abbrev HST_ACC_CMD_DROP : Fld := ⟨HST_ACC_CMD, 2, 2⟩
abbrev HST_ACC_CMD_LEVEL : Fld := ⟨HST_ACC_CMD, 1, 0⟩
/-- Offset of HST_ACC_STAT. -/
abbrev HST_ACC_STAT : Nat := 0x30
abbrev HST_ACC_STAT_LOCK_S : Fld := ⟨HST_ACC_STAT, 31, 16⟩
abbrev HST_ACC_STAT_FAILS : Fld := ⟨HST_ACC_STAT, 15, 8⟩
abbrev HST_ACC_STAT_SPI : Fld := ⟨HST_ACC_STAT, 7, 4⟩
abbrev HST_ACC_STAT_PCIE : Fld := ⟨HST_ACC_STAT, 3, 0⟩
/-- Offset of HST_ACC_TMO. -/
abbrev HST_ACC_TMO : Nat := 0x34
abbrev HST_ACC_TMO_S : Fld := ⟨HST_ACC_TMO, 15, 0⟩
/-- Offset of HST_ACC_PW_w. -/
abbrev HST_ACC_PW (w : Nat) : Nat := 0x40 + 0x4 * w
abbrev HST_ACC_PW_BYTES (w : Nat) : Fld := ⟨HST_ACC_PW w, 31, 0⟩
/-- Offset of HST_WIN. -/
abbrev HST_WIN : Nat := 0x60
abbrev HST_WIN_BASE : Fld := ⟨HST_WIN, 2, 0⟩
/-- Offset of HST_SPI_STAT. -/
abbrev HST_SPI_STAT : Nat := 0x64
abbrev HST_SPI_STAT_TORN : Fld := ⟨HST_SPI_STAT, 3, 3⟩
abbrev HST_SPI_STAT_PARTIAL : Fld := ⟨HST_SPI_STAT, 2, 2⟩
abbrev HST_SPI_STAT_BAD_ADDR : Fld := ⟨HST_SPI_STAT, 1, 1⟩
abbrev HST_SPI_STAT_DENIED : Fld := ⟨HST_SPI_STAT, 0, 0⟩
/-- Offset of HST_IRQ_SUM. -/
abbrev HST_IRQ_SUM : Nat := 0x70
abbrev HST_IRQ_SUM_SRC : Fld := ⟨HST_IRQ_SUM, 30, 0⟩
/-- Offset of HST_INTN_MASK. -/
abbrev HST_INTN_MASK : Nat := 0x74
abbrev HST_INTN_MASK_MASK : Fld := ⟨HST_INTN_MASK, 30, 0⟩
/-- Offset of HST_VEOI. -/
abbrev HST_VEOI : Nat := 0x78
abbrev HST_VEOI_VEC : Fld := ⟨HST_VEOI, 4, 0⟩
/-- Offset of HST_VMAP_s. -/
abbrev HST_VMAP (s : Nat) : Nat := 0x80 + 0x4 * s
abbrev HST_VMAP_VEC (s : Nat) : Fld := ⟨HST_VMAP s, 4, 0⟩
/-- Offset of HST_VMOD_v. -/
abbrev HST_VMOD (v : Nat) : Nat := 0x100 + 0x4 * v
abbrev HST_VMOD_US (v : Nat) : Fld := ⟨HST_VMOD v, 15, 0⟩
/-- Offset of HST_DMAc_CTL. -/
abbrev HST_DMA_CTL (c : Nat) : Nat := 0x200 + 0x40 * c
abbrev HST_DMA_CTL_STOP (c : Nat) : Fld := ⟨HST_DMA_CTL c, 1, 1⟩
abbrev HST_DMA_CTL_EN (c : Nat) : Fld := ⟨HST_DMA_CTL c, 0, 0⟩
/-- Offset of HST_DMAc_STAT. -/
abbrev HST_DMA_STAT (c : Nat) : Nat := 0x204 + 0x40 * c
abbrev HST_DMA_STAT_ERR (c : Nat) : Fld := ⟨HST_DMA_STAT c, 31, 24⟩
abbrev HST_DMA_STAT_BUSY (c : Nat) : Fld := ⟨HST_DMA_STAT c, 0, 0⟩
/-- Offset of HST_DMAc_RING_LO. -/
abbrev HST_DMA_RING_LO (c : Nat) : Nat := 0x208 + 0x40 * c
abbrev HST_DMA_RING_LO_ADDR (c : Nat) : Fld := ⟨HST_DMA_RING_LO c, 31, 5⟩
/-- Offset of HST_DMAc_RING_HI. -/
abbrev HST_DMA_RING_HI (c : Nat) : Nat := 0x20c + 0x40 * c
abbrev HST_DMA_RING_HI_ADDR (c : Nat) : Fld := ⟨HST_DMA_RING_HI c, 31, 0⟩
/-- Offset of HST_DMAc_SIZE. -/
abbrev HST_DMA_SIZE (c : Nat) : Nat := 0x210 + 0x40 * c
abbrev HST_DMA_SIZE_N (c : Nat) : Fld := ⟨HST_DMA_SIZE c, 12, 0⟩
/-- Offset of HST_DMAc_HEAD. -/
abbrev HST_DMA_HEAD (c : Nat) : Nat := 0x214 + 0x40 * c
abbrev HST_DMA_HEAD_IDX (c : Nat) : Fld := ⟨HST_DMA_HEAD c, 11, 0⟩
/-- Offset of HST_DMAc_TAIL. -/
abbrev HST_DMA_TAIL (c : Nat) : Nat := 0x218 + 0x40 * c
abbrev HST_DMA_TAIL_IDX (c : Nat) : Fld := ⟨HST_DMA_TAIL c, 11, 0⟩
/-- Offset of HST_DMAc_IRQ. -/
abbrev HST_DMA_IRQ (c : Nat) : Nat := 0x21c + 0x40 * c
abbrev HST_DMA_IRQ_ERR (c : Nat) : Fld := ⟨HST_DMA_IRQ c, 1, 1⟩
abbrev HST_DMA_IRQ_DONE (c : Nat) : Fld := ⟨HST_DMA_IRQ c, 0, 0⟩
/-- Offset of HST_DMAc_IRQ_EN. -/
abbrev HST_DMA_IRQ_EN (c : Nat) : Nat := 0x220 + 0x40 * c
abbrev HST_DMA_IRQ_EN_EN (c : Nat) : Fld := ⟨HST_DMA_IRQ_EN c, 1, 0⟩
/-- Offset of TBU_W_LAT_TX. -/
abbrev TBU_W_LAT_TX : Nat := 0x20308
abbrev TBU_W_LAT_TX_NS : Fld := ⟨TBU_W_LAT_TX, 31, 0⟩
/-- Offset of TBU_W_LAT_RX. -/
abbrev TBU_W_LAT_RX : Nat := 0x2030c
abbrev TBU_W_LAT_RX_NS : Fld := ⟨TBU_W_LAT_RX, 31, 0⟩

end Sys2Proof.Machine.Reg
end

