-- ==== Sys2Proof/Machine/RegTable.lean ====
section
/-!
DEFINITION. The register maps of BAR0 (spec: the "have the offsets and fields of the following maps" rule of every
unit's chapter, R70 R110 R149 R185 R229 R247 R273 R312 R338 R374 R414 R453 R490 R512 R537 R560 R579 R609 R632 R641 R663):
one row per register, with its offset, the strides of its indexes, its value at reset, and per field the bits, the access
type of R7, the level of R644, what a written value outside the stated range does, and the value after a warm reset.
-/
namespace Sys2Proof.Machine

/-- Register rows of chapter 02, part 0. -/
def regRows02_0 : List RegRow := [
  ⟨"ANG_CTL", [0x30020], [], 0x8, 0, [
    ⟨9, 9, .rw, .operate, .any, .kept, true⟩,
    ⟨8, 8, .rw, .operate, .any, .kept, false⟩,
    ⟨3, 2, .rw, .operate, .any, .kept, true⟩,
    ⟨0, 0, .img, .operate, .any, .kept, true⟩]⟩,
  ⟨"ANG_REF_PRI", [0x30024], [], 0x0, 0, [
    ⟨25, 24, .rw, .operate, .ignore 0 2, .kept, true⟩,
    ⟨21, 16, .rw, .operate, .any, .kept, true⟩,
    ⟨13, 8, .rw, .operate, .any, .kept, true⟩,
    ⟨5, 0, .rw, .operate, .any, .kept, true⟩]⟩,
  ⟨"ANG_REF_ALT", [0x30028], [], 0x0, 0, [
    ⟨25, 24, .rw, .operate, .ignore 0 2, .kept, true⟩,
    ⟨21, 16, .rw, .operate, .any, .kept, true⟩,
    ⟨13, 8, .rw, .operate, .any, .kept, true⟩,
    ⟨5, 0, .rw, .operate, .any, .kept, true⟩]⟩,
  ⟨"ANG_ALT_OFS", [0x3002c], [], 0x0, 0, [
    ⟨31, 0, .rw, .operate, .any, .kept, true⟩]⟩,
  ⟨"ANG_LIM", [0x30030], [], 0x32000a, 0, [
    ⟨23, 16, .rw, .operate, .clamp 5 200, .kept, true⟩,
    ⟨5, 0, .rw, .operate, .clamp 2 50, .kept, true⟩]⟩,
  ⟨"ANG_STAT", [0x30034], [], 0x3, 0, [
    ⟨7, 7, .ro, .operate, .any, .kept, false⟩,
    ⟨6, 6, .ro, .operate, .any, .kept, false⟩,
    ⟨5, 5, .ro, .operate, .any, .kept, false⟩,
    ⟨4, 4, .ro, .operate, .any, .kept, false⟩,
    ⟨3, 3, .ro, .operate, .any, .kept, false⟩,
    ⟨2, 2, .ro, .operate, .any, .kept, false⟩,
    ⟨1, 0, .ro, .operate, .any, .kept, false⟩]⟩,
  ⟨"ANG_FREQ", [0x30038], [], 0x32000000, 0, [
    ⟨31, 0, .ro, .operate, .any, .kept, false⟩]⟩,
  ⟨"ANG_ROCOF", [0x3003c], [], 0x0, 0, [
    ⟨31, 0, .ro, .operate, .any, .kept, false⟩]⟩,
  ⟨"ANG_PINC", [0x30040], [], 0x218def4, 0, [
    ⟨31, 0, .ro, .operate, .any, .kept, false⟩]⟩,
  ⟨"ANG_POS_0", [0x30050], [], 0x0, 0, [
    ⟨31, 0, .rs, .operate, .any, .value 0, false⟩]⟩,
  ⟨"ANG_POS_1", [0x30054], [], 0x0, 0, [
    ⟨31, 0, .rs, .operate, .any, .value 0, false⟩]⟩,
  ⟨"ANG_POS_2", [0x30058], [], 0x0, 0, [
    ⟨31, 0, .rs, .operate, .any, .value 0, false⟩]⟩,
  ⟨"ANG_POS_3", [0x3005c], [], 0x0, 0, [
    ⟨31, 0, .rs, .operate, .any, .value 0, false⟩]⟩,
  ⟨"ANG_POS_4", [0x30060], [], 0x0, 0, [
    ⟨31, 0, .rs, .operate, .any, .value 0, false⟩]⟩,
  ⟨"ANG_POS_5", [0x30064], [], 0x0, 0, [
    ⟨7, 0, .rs, .operate, .any, .value 0, false⟩]⟩,
  ⟨"ANG_TUP_0", [0x30070], [], 0x0, 0, [
    ⟨31, 0, .rs, .operate, .any, .value 0, false⟩]⟩,
  ⟨"ANG_TUP_1", [0x30074], [], 0x0, 0, [
    ⟨31, 0, .rs, .operate, .any, .value 0, false⟩]⟩,
  ⟨"ANG_TUP_2", [0x30078], [], 0x0, 0, [
    ⟨31, 0, .rs, .operate, .any, .value 0, false⟩]⟩,
  ⟨"ANG_TUP_3", [0x3007c], [], 0x0, 0, [
    ⟨31, 0, .rs, .operate, .any, .value 0, false⟩]⟩,
  ⟨"ANG_TUP_4", [0x30080], [], 0x0, 0, [
    ⟨31, 0, .rs, .operate, .any, .value 0, false⟩]⟩,
  ⟨"ANG_TUP_5", [0x30084], [], 0x32000000, 0, [
    ⟨31, 0, .rs, .operate, .any, .kept, false⟩]⟩,
  ⟨"ANG_RUNT_0", [0x30090], [], 0x0, 0, [
    ⟨31, 0, .rs, .operate, .any, .kept, false⟩]⟩,
  ⟨"ANG_RUNT_1", [0x30094], [], 0x0, 0, [
    ⟨31, 0, .rs, .operate, .any, .kept, false⟩]⟩,
  ⟨"ANG_GRID_CFG_g", [0x30100], [(16, 0x10)], 0x0, 0, [
    ⟨4, 4, .img, .operate, .any, .kept, true⟩,
    ⟨1, 0, .img, .operate, .any, .kept, true⟩]⟩]

/-- Register rows of chapter 02, part 1. -/
def regRows02_1 : List RegRow := [
  ⟨"ANG_GRID_MASK_LO_g", [0x30104], [(16, 0x10)], 0x0, 0, [
    ⟨31, 0, .img, .operate, .any, .kept, true⟩]⟩,
  ⟨"ANG_GRID_MASK_HI_g", [0x30108], [(16, 0x10)], 0x0, 0, [
    ⟨31, 0, .img, .operate, .any, .kept, true⟩]⟩,
  ⟨"ANG_GRID_DLY_g", [0x3010c], [(16, 0x10)], 0x0, 0, [
    ⟨31, 0, .ro, .operate, .any, .kept, true⟩]⟩]

/-- Register rows of chapter 03, part 0. -/
def regRows03_0 : List RegRow := [
  ⟨"TBU_CTL", [0x20020], [], 0x10, 0, [
    ⟨5, 4, .rw, .operate, .any, .kept, true⟩,
    ⟨1, 0, .rw, .operate, .any, .kept, true⟩]⟩,
  ⟨"TBU_STAT", [0x20024], [], 0x80, 0, [
    ⟨12, 12, .w1c, .operate, .any, .kept, false⟩,
    ⟨11, 11, .w1c, .operate, .any, .kept, false⟩,
    ⟨10, 10, .w1c, .operate, .any, .kept, false⟩,
    ⟨9, 9, .ro, .operate, .any, .kept, false⟩,
    ⟨8, 8, .ro, .operate, .any, .kept, false⟩,
    ⟨7, 7, .ro, .operate, .any, .kept, true⟩,
    ⟨6, 6, .ro, .operate, .any, .kept, false⟩,
    ⟨5, 4, .ro, .operate, .any, .kept, false⟩,
    ⟨1, 0, .ro, .operate, .any, .kept, false⟩]⟩,
  ⟨"TBU_CMD", [0x20028], [], 0x0, 0, [
    ⟨2, 2, .wo, .operate, .any, .value 0, false⟩,
    ⟨1, 1, .wo, .engineer, .any, .value 0, false⟩,
    ⟨0, 0, .wo, .operate, .any, .value 0, false⟩]⟩,
  ⟨"TBU_INC_0", [0x2002c], [], 0x80000000, 0, [
    ⟨31, 0, .rw, .operate, .any, .kept, false⟩]⟩,
  ⟨"TBU_INC_1", [0x20030], [], 0x2, 0, [
    ⟨7, 0, .rw, .operate, .any, .kept, false⟩]⟩,
  ⟨"TBU_SLEW_MAX", [0x20034], [], 0x30d40, 0, [
    ⟨31, 0, .rw, .operate, .clamp 1 500000, .kept, false⟩]⟩,
  ⟨"TBU_TIME_0", [0x20040], [], 0x0, 0, [
    ⟨31, 0, .rs, .operate, .any, .kept, false⟩]⟩,
  ⟨"TBU_TIME_1", [0x20044], [], 0x0, 0, [
    ⟨31, 0, .rs, .operate, .any, .kept, false⟩]⟩,
  ⟨"TBU_TIME_2", [0x20048], [], 0x0, 0, [
    ⟨31, 0, .rs, .operate, .any, .kept, false⟩]⟩,
  ⟨"TBU_EPOCH", [0x2004c], [], 0x0, 0, [
    ⟨7, 0, .rs, .operate, .any, .kept, false⟩]⟩,
  ⟨"TBU_SET_0", [0x20050], [], 0x0, 0, [
    ⟨31, 0, .rw, .operate, .any, .kept, false⟩]⟩,
  ⟨"TBU_SET_1", [0x20054], [], 0x0, 0, [
    ⟨31, 0, .rw, .operate, .any, .kept, false⟩]⟩,
  ⟨"TBU_SET_2", [0x20058], [], 0x0, 0, [
    ⟨31, 0, .rw, .operate, .any, .kept, false⟩]⟩,
  ⟨"TBU_PTP_CTL", [0x20060], [], 0x0, 0, [
    ⟨11, 10, .rw, .operate, .any, .kept, true⟩,
    ⟨9, 9, .rw, .operate, .any, .kept, true⟩,
    ⟨8, 8, .rw, .operate, .any, .kept, true⟩,
    ⟨7, 0, .rw, .operate, .any, .kept, true⟩]⟩,
  ⟨"TBU_BMCA_0", [0x20064], [], 0x0, 0, [
    ⟨31, 24, .rw, .operate, .any, .kept, true⟩,
    ⟨23, 16, .rw, .operate, .any, .kept, true⟩,
    ⟨15, 8, .rw, .operate, .any, .kept, true⟩,
    ⟨7, 0, .rw, .operate, .any, .kept, true⟩]⟩,
  ⟨"TBU_BMCA_1", [0x20068], [], 0x0, 0, [
    ⟨31, 24, .rw, .operate, .any, .kept, true⟩,
    ⟨23, 16, .rw, .operate, .any, .kept, true⟩,
    ⟨15, 8, .rw, .operate, .any, .kept, true⟩]⟩,
  ⟨"TBU_BMCA_2", [0x20078], [], 0x0, 0, [
    ⟨31, 16, .rw, .operate, .any, .kept, true⟩,
    ⟨15, 0, .rw, .operate, .any, .kept, true⟩]⟩,
  ⟨"TBU_PTP_INTV", [0x2006c], [], 0x3000000, 0, [
    ⟨31, 24, .rw, .operate, .range 2 10, .kept, true⟩,
    ⟨23, 16, .rw, .operate, .rangeS (-4) 2, .kept, true⟩,
    ⟨15, 8, .rw, .operate, .range 0 2, .kept, true⟩,
    ⟨7, 0, .rw, .operate, .rangeS (-4) 1, .kept, true⟩]⟩,
  ⟨"TBU_PTP_THR", [0x20070], [], 0x6400c8, 0, [
    ⟨31, 16, .rw, .operate, .any, .kept, false⟩,
    ⟨15, 0, .rw, .operate, .any, .kept, false⟩]⟩,
  ⟨"TBU_PTP_ASYM", [0x20074], [], 0x3c03e8, 0, [
    ⟨31, 16, .rw, .operate, .any, .kept, false⟩,
    ⟨15, 0, .rw, .operate, .any, .kept, false⟩]⟩,
  ⟨"TBU_HO_T", [0x20080], [], 0x0, 0, [
    ⟨7, 0, .rw, .operate, .range 2 255, .kept, true⟩]⟩,
  ⟨"TBU_HO_DUR", [0x20084], [], 0x0, 0, [
    ⟨31, 0, .ro, .operate, .any, .kept, false⟩]⟩,
  ⟨"TBU_HO_ERR", [0x20088], [], 0x0, 0, [
    ⟨31, 0, .ro, .operate, .any, .kept, false⟩]⟩,
  ⟨"TBU_HO_DRIFT", [0x2008c], [], 0x10, 0, [
    ⟨31, 0, .rw, .operate, .any, .kept, false⟩]⟩]

/-- Register rows of chapter 03, part 1. -/
def regRows03_1 : List RegRow := [
  ⟨"TBU_HO_DRIFT_AGE", [0x20090], [], 0x0, 0, [
    ⟨31, 0, .rw, .operate, .any, .kept, false⟩]⟩,
  ⟨"TBU_PPS_CTL", [0x200a0], [], 0x64, 0, [
    ⟨9, 9, .rw, .operate, .any, .kept, true⟩,
    ⟨8, 0, .rw, .operate, .clamp 1 500, .kept, false⟩]⟩,
  ⟨"TBU_PPS_OUT_CMP", [0x200a4], [], 0x0, 0, [
    ⟨31, 0, .rw, .operate, .any, .kept, true⟩]⟩,
  ⟨"TBU_PPS_IN_CMP", [0x200a8], [], 0x0, 0, [
    ⟨31, 0, .rw, .operate, .any, .kept, true⟩]⟩,
  ⟨"TBU_PPS_IN_TS_0", [0x200ac], [], 0x0, 0, [
    ⟨31, 0, .rs, .operate, .any, .kept, false⟩]⟩,
  ⟨"TBU_PPS_IN_TS_1", [0x200b0], [], 0x0, 0, [
    ⟨31, 0, .rs, .operate, .any, .kept, false⟩]⟩,
  ⟨"TBU_PPS_IN_TS_2", [0x200b4], [], 0x0, 0, [
    ⟨31, 0, .rs, .operate, .any, .kept, false⟩]⟩,
  ⟨"TBU_Pp_CTL", [0x20200], [(4, 0x40)], 0x0, 0, [
    ⟨2, 2, .rw, .operate, .any, .kept, true⟩,
    ⟨1, 1, .rw, .operate, .any, .kept, true⟩,
    ⟨0, 0, .rw, .operate, .any, .kept, true⟩]⟩,
  ⟨"TBU_Pp_STAT", [0x20204], [(4, 0x40)], 0x0, 0, [
    ⟨31, 16, .ro, .operate, .any, .kept, false⟩,
    ⟨3, 3, .w1c, .operate, .any, .kept, false⟩,
    ⟨2, 2, .ro, .operate, .any, .kept, false⟩,
    ⟨1, 1, .ro, .operate, .any, .kept, false⟩,
    ⟨0, 0, .ro, .operate, .any, .kept, false⟩]⟩,
  ⟨"TBU_Pp_LAT_TX", [0x20208], [(4, 0x40)], 0x0, 0, [
    ⟨31, 0, .rw, .operate, .any, .kept, true⟩]⟩,
  ⟨"TBU_Pp_LAT_RX", [0x2020c], [(4, 0x40)], 0x0, 0, [
    ⟨31, 0, .rw, .operate, .any, .kept, true⟩]⟩,
  ⟨"TBU_Pp_ASYM", [0x20210], [(4, 0x40)], 0x0, 0, [
    ⟨31, 0, .rw, .operate, .any, .kept, true⟩]⟩,
  ⟨"TBU_Pp_MPD", [0x20214], [(4, 0x40)], 0x0, 0, [
    ⟨31, 0, .ro, .operate, .any, .kept, false⟩]⟩,
  ⟨"TBU_Pp_OFS", [0x20218], [(4, 0x40)], 0x0, 0, [
    ⟨31, 0, .ro, .operate, .any, .kept, false⟩]⟩,
  ⟨"TBU_Pp_TXQ_ID", [0x2021c], [(4, 0x40)], 0x0, 0, [
    ⟨31, 0, .rs, .operate, .any, .value 0, false⟩]⟩,
  ⟨"TBU_Pp_TXQ_TS_0", [0x20220], [(4, 0x40)], 0x0, 0, [
    ⟨31, 0, .rs, .operate, .any, .value 0, false⟩]⟩,
  ⟨"TBU_Pp_TXQ_TS_1", [0x20224], [(4, 0x40)], 0x0, 0, [
    ⟨31, 0, .rs, .operate, .any, .value 0, false⟩]⟩,
  ⟨"TBU_Pp_TXQ_TS_2", [0x20228], [(4, 0x40)], 0x0, 0, [
    ⟨31, 0, .rs, .operate, .any, .value 0, false⟩]⟩,
  ⟨"TBU_Pp_TXQ_TS_3", [0x2022c], [(4, 0x40)], 0x0, 0, [
    ⟨7, 0, .rs, .operate, .any, .value 0, false⟩]⟩,
  ⟨"TBU_Pp_TXQ_LOST", [0x20230], [(4, 0x40)], 0x0, 0, [
    ⟨31, 0, .w1c, .operate, .any, .kept, false⟩]⟩,
  ⟨"TBU_W_LAT_TX", [0x20308], [], 0x0, 0, [
    ⟨31, 0, .rw, .operate, .any, .kept, true⟩]⟩,
  ⟨"TBU_W_LAT_RX", [0x2030c], [], 0x0, 0, [
    ⟨31, 0, .rw, .operate, .any, .kept, true⟩]⟩]

/-- Register rows of chapter 04, part 0. -/
def regRows04_0 : List RegRow := [
  ⟨"KLN_CMD", [0x50020], [], 0x0, 0, [
    ⟨9, 8, .wo, .operate, .any, .value 0, false⟩,
    ⟨5, 4, .wo, .operate, .any, .value 0, false⟩,
    ⟨3, 0, .wo, .operate, .any, .value 0, false⟩]⟩,
  ⟨"KLN_STAT", [0x50024], [], 0x2, 0, [
    ⟨31, 24, .ro, .operate, .any, .kept, true⟩,
    ⟨23, 20, .ro, .operate, .any, .kept, false⟩,
    ⟨7, 7, .ro, .operate, .any, .kept, true⟩,
    ⟨5, 5, .ro, .operate, .any, .kept, true⟩,
    ⟨4, 4, .ro, .operate, .any, .kept, true⟩,
    ⟨3, 3, .ro, .operate, .any, .value 0, false⟩,
    ⟨2, 2, .ro, .operate, .any, .value 0, false⟩,
    ⟨1, 0, .ro, .operate, .any, .kept, true⟩]⟩,
  ⟨"KLN_ERR", [0x50028], [], 0x0, 0, [
    ⟨31, 24, .ro, .operate, .any, .kept, true⟩,
    ⟨15, 0, .ro, .operate, .any, .kept, true⟩]⟩,
  ⟨"KLN_BOOT", [0x5002c], [], 0x1010002, 0, [
    ⟨31, 24, .ro, .operate, .any, .kept, true⟩,
    ⟨23, 16, .ro, .operate, .any, .kept, true⟩,
    ⟨1, 0, .ro, .operate, .any, .kept, true⟩]⟩,
  ⟨"KLN_SRC_ADDR", [0x50030], [], 0x0, 0, [
    ⟨31, 4, .rw, .operate, .any, .kept, false⟩]⟩,
  ⟨"KLN_SRC_LEN", [0x50034], [], 0x0, 0, [
    ⟨31, 0, .rw, .operate, .any, .kept, false⟩]⟩,
  ⟨"KLN_OTP_STAT", [0x50038], [], 0x1, 0, [
    ⟨7, 4, .ro, .operate, .any, .kept, false⟩,
    ⟨3, 0, .ro, .operate, .any, .kept, false⟩]⟩,
  ⟨"KLN_STAMP_0", [0x50040], [], 0x0, 0, [
    ⟨31, 0, .rs, .operate, .any, .kept, true⟩]⟩,
  ⟨"KLN_MSTAMP_0", [0x50048], [], 0x0, 0, [
    ⟨31, 0, .rs, .operate, .any, .kept, true⟩]⟩,
  ⟨"KLN_U0_STAMP_0", [0x50050], [], 0x0, 0, [
    ⟨31, 0, .rs, .operate, .any, .kept, true⟩]⟩,
  ⟨"KLN_U1_STAMP_0", [0x50058], [], 0x0, 0, [
    ⟨31, 0, .rs, .operate, .any, .kept, true⟩]⟩,
  ⟨"KLN_STAMP_1", [0x50044], [], 0x0, 0, [
    ⟨31, 0, .rs, .operate, .any, .kept, true⟩]⟩,
  ⟨"KLN_MSTAMP_1", [0x5004c], [], 0x0, 0, [
    ⟨31, 0, .rs, .operate, .any, .kept, true⟩]⟩,
  ⟨"KLN_U0_STAMP_1", [0x50054], [], 0x0, 0, [
    ⟨31, 0, .rs, .operate, .any, .kept, true⟩]⟩,
  ⟨"KLN_U1_STAMP_1", [0x5005c], [], 0x0, 0, [
    ⟨31, 0, .rs, .operate, .any, .kept, true⟩]⟩,
  ⟨"KLN_JRNL", [0x50060], [], 0x0, 0, [
    ⟨31, 31, .ro, .operate, .any, .kept, true⟩,
    ⟨26, 16, .ro, .operate, .any, .kept, true⟩,
    ⟨10, 0, .ro, .operate, .any, .kept, true⟩]⟩,
  ⟨"KLN_TILE_USE_0", [0x50070], [], 0x0, 0, [
    ⟨31, 0, .ro, .operate, .any, .kept, true⟩]⟩,
  ⟨"KLN_TILE_USE_1", [0x50074], [], 0x0, 0, [
    ⟨31, 0, .ro, .operate, .any, .kept, true⟩]⟩,
  ⟨"KLN_SENT_USE", [0x50078], [], 0x0, 0, [
    ⟨15, 0, .ro, .operate, .any, .kept, true⟩]⟩,
  ⟨"KLN_LANES", [0x5007c], [], 0x0, 0, [
    ⟨23, 16, .ro, .operate, .any, .kept, true⟩,
    ⟨15, 8, .ro, .operate, .any, .kept, true⟩,
    ⟨7, 0, .ro, .operate, .any, .kept, true⟩]⟩,
  ⟨"KLN_PATCH_CTL", [0x50080], [], 0x0, 0, [
    ⟨13, 12, .rw, .operate, .any, .value 0, false⟩,
    ⟨9, 8, .rw, .operate, .any, .value 0, false⟩,
    ⟨5, 0, .rw, .operate, .any, .value 0, false⟩]⟩,
  ⟨"KLN_PATCH_STAT", [0x50084], [], 0xff00, 0, [
    ⟨31, 24, .ro, .operate, .any, .value 0, false⟩,
    ⟨16, 16, .w1c, .operate, .any, .value 0, false⟩,
    ⟨15, 8, .ro, .operate, .any, .value 255, false⟩,
    ⟨7, 0, .ro, .operate, .any, .value 0, false⟩]⟩,
  ⟨"KLN_PATCH_TGT_0", [0x50088], [], 0x0, 0, [
    ⟨31, 0, .rw, .operate, .any, .value 0, false⟩]⟩,
  ⟨"KLN_PATCH_TGT_1", [0x5008c], [], 0x0, 0, [
    ⟨31, 0, .rw, .operate, .any, .value 0, false⟩]⟩]

/-- Register rows of chapter 04, part 1. -/
def regRows04_1 : List RegRow := [
  ⟨"KLN_PATCH_TGT_2", [0x50090], [], 0x0, 0, [
    ⟨31, 0, .rw, .operate, .any, .value 0, false⟩]⟩,
  ⟨"KLN_PATCH_IDX_i", [0x50100], [(32, 0x4)], 0x0, 0, [
    ⟨31, 16, .rw, .operate, .any, .value 0, false⟩,
    ⟨11, 0, .rw, .operate, .any, .value 0, false⟩]⟩,
  ⟨"KLN_PATCH_VAL_i", [0x50180], [(32, 0x4)], 0x0, 0, [
    ⟨31, 0, .rw, .operate, .any, .value 0, false⟩]⟩,
  ⟨"KLN_SEC_i_0", [0x50400], [(128, 0x8)], 0xc000000, 0, [
    ⟨27, 26, .ro, .operate, .any, .kept, true⟩,
    ⟨25, 24, .ro, .operate, .any, .kept, true⟩,
    ⟨23, 16, .ro, .operate, .any, .kept, true⟩,
    ⟨15, 0, .ro, .operate, .any, .kept, true⟩]⟩,
  ⟨"KLN_SEC_i_1", [0x50404], [(128, 0x8)], 0x0, 0, [
    ⟨31, 0, .ro, .operate, .any, .kept, true⟩]⟩,
  ⟨"KLN_TILE_OWN_t", [0x50800], [(64, 0x4)], 0xffff, 0, [
    ⟨23, 16, .ro, .operate, .any, .kept, true⟩,
    ⟨15, 0, .ro, .operate, .any, .kept, true⟩]⟩,
  ⟨"KLN_SENT_OWN_s", [0x50900], [(16, 0x4)], 0xffff, 0, [
    ⟨23, 16, .ro, .operate, .any, .kept, true⟩,
    ⟨15, 0, .ro, .operate, .any, .kept, true⟩]⟩]

/-- Register rows of chapter 05, part 0. -/
def regRows05_0 : List RegRow := [
  ⟨"CRS_CTL", [0x60020], [], 0x0, 0, [
    ⟨15, 8, .wo, .operate, .any, .value 0, false⟩,
    ⟨1, 1, .wo, .operate, .any, .value 0, false⟩,
    ⟨0, 0, .wo, .operate, .any, .value 0, false⟩]⟩,
  ⟨"CRS_RES", [0x60024], [], 0xff, 0, [
    ⟨31, 31, .ro, .operate, .any, .value 0, false⟩,
    ⟨23, 16, .ro, .operate, .any, .value 0, false⟩,
    ⟨15, 8, .ro, .operate, .any, .value 0, false⟩,
    ⟨7, 0, .ro, .operate, .any, .value 255, false⟩]⟩,
  ⟨"CRS_CNT", [0x60028], [], 0x0, 0, [
    ⟨31, 24, .ro, .operate, .any, .image, true⟩,
    ⟨15, 8, .ro, .operate, .any, .image, true⟩,
    ⟨7, 0, .ro, .operate, .any, .image, true⟩]⟩,
  ⟨"CRS_BUSY_CNT", [0x6002c], [], 0x0, 0, [
    ⟨31, 0, .w1c, .operate, .any, .kept, false⟩]⟩,
  ⟨"CRS_STG_HDR", [0x60030], [], 0x0, 0, [
    ⟨18, 18, .rw, .operate, .any, .value 0, false⟩,
    ⟨17, 17, .rw, .operate, .any, .value 0, false⟩,
    ⟨16, 16, .rw, .operate, .any, .value 0, false⟩,
    ⟨13, 8, .rw, .operate, .any, .value 0, false⟩,
    ⟨5, 4, .rw, .operate, .any, .value 0, false⟩,
    ⟨1, 0, .rw, .operate, .any, .value 0, false⟩]⟩,
  ⟨"CRS_STG_TGT_0", [0x60034], [], 0x0, 0, [
    ⟨31, 0, .rw, .operate, .any, .value 0, false⟩]⟩,
  ⟨"CRS_STG_TGT_1", [0x60038], [], 0x0, 0, [
    ⟨31, 0, .rw, .operate, .any, .value 0, false⟩]⟩,
  ⟨"CRS_STG_TGT_2", [0x6003c], [], 0x0, 0, [
    ⟨31, 0, .rw, .operate, .any, .value 0, false⟩]⟩,
  ⟨"CRS_STG_DL", [0x60040], [], 0x0, 0, [
    ⟨31, 0, .rw, .operate, .any, .value 0, false⟩]⟩,
  ⟨"CRS_MIR_CTL", [0x60050], [], 0xfa00000, 0, [
    ⟨31, 16, .img, .operate, .any, .kept, true⟩]⟩,
  ⟨"CRS_MIR_STAT", [0x60054], [], 0x0, 0, [
    ⟨31, 16, .ro, .operate, .any, .kept, false⟩,
    ⟨15, 0, .ro, .operate, .any, .kept, false⟩]⟩,
  ⟨"CRS_PORT_k", [0x60060], [(11, 0x4)], 0x0, 4, [
    ⟨24, 24, .img, .operate, .any, .kept, true⟩,
    ⟨23, 16, .img, .operate, .range 1 192, .kept, true⟩,
    ⟨7, 0, .ro, .operate, .any, .image, true⟩]⟩,
  ⟨"CRS_STG_ACT_i_0", [0x60100], [(32, 0xc)], 0x0, 0, [
    ⟨31, 28, .rw, .operate, .any, .value 0, false⟩,
    ⟨27, 25, .rw, .operate, .any, .value 0, false⟩,
    ⟨24, 24, .rw, .operate, .any, .value 0, false⟩,
    ⟨23, 0, .rw, .operate, .any, .value 0, false⟩]⟩,
  ⟨"CRS_STG_ACT_i_1", [0x60104], [(32, 0xc)], 0x0, 0, [
    ⟨31, 0, .rw, .operate, .any, .value 0, false⟩]⟩,
  ⟨"CRS_STG_ACT_i_2", [0x60108], [(32, 0xc)], 0x0, 0, [
    ⟨31, 0, .rw, .operate, .any, .value 0, false⟩]⟩,
  ⟨"CRS_CST_n_0", [0x61000], [(192, 0x20)], 0x0, 0, [
    ⟨31, 24, .rs, .operate, .any, .kept, false⟩,
    ⟨23, 16, .rs, .operate, .any, .kept, false⟩,
    ⟨15, 12, .rs, .operate, .any, .kept, false⟩,
    ⟨11, 11, .rs, .operate, .any, .kept, false⟩,
    ⟨10, 10, .rs, .operate, .any, .kept, false⟩,
    ⟨9, 9, .rs, .operate, .any, .kept, false⟩,
    ⟨4, 0, .rs, .operate, .any, .kept, false⟩]⟩,
  ⟨"CRS_CST_n_1", [0x61004], [(192, 0x20)], 0x0, 0, [
    ⟨31, 0, .rs, .operate, .any, .kept, false⟩]⟩,
  ⟨"CRS_CST_n_2", [0x61008], [(192, 0x20)], 0x0, 0, [
    ⟨31, 0, .rs, .operate, .any, .kept, false⟩]⟩,
  ⟨"CRS_CST_n_3", [0x6100c], [(192, 0x20)], 0x0, 0, [
    ⟨31, 0, .rs, .operate, .any, .kept, false⟩]⟩,
  ⟨"CRS_CST_n_4", [0x61010], [(192, 0x20)], 0x0, 0, [
    ⟨31, 0, .rs, .operate, .any, .kept, false⟩]⟩,
  ⟨"CRS_CST_n_5", [0x61014], [(192, 0x20)], 0x0, 0, [
    ⟨31, 0, .rs, .operate, .any, .kept, false⟩]⟩,
  ⟨"CRS_CST_n_6", [0x61018], [(192, 0x20)], 0x0, 0, [
    ⟨9, 8, .rs, .operate, .any, .kept, false⟩,
    ⟨7, 0, .rs, .operate, .any, .kept, false⟩]⟩,
  ⟨"CRS_CST_n_7", [0x6101c], [(192, 0x20)], 0x0, 0, [
    ⟨31, 0, .rs, .operate, .any, .kept, false⟩]⟩]

/-- Register rows of chapter 06, part 0. -/
def regRows06_0 : List RegRow := [
  ⟨"AFEg_RPT_CTL", [0x100020], [(8, 0x1000)], 0x800807d0, 0, [
    ⟨31, 31, .rw, .operate, .any, .kept, true⟩,
    ⟨19, 16, .rw, .operate, .clamp 0 8, .kept, true⟩,
    ⟨15, 0, .rw, .operate, .clamp 3 60000, .kept, true⟩]⟩,
  ⟨"AFEg_RPT_STAT", [0x100024], [(8, 0x1000)], 0x20007fff, 0, [
    ⟨31, 31, .ro, .operate, .any, .kept, false⟩,
    ⟨30, 30, .ro, .operate, .any, .kept, false⟩,
    ⟨29, 28, .ro, .operate, .any, .kept, false⟩,
    ⟨27, 27, .ro, .operate, .any, .kept, false⟩,
    ⟨26, 26, .ro, .operate, .any, .kept, false⟩,
    ⟨25, 25, .ro, .operate, .any, .kept, false⟩,
    ⟨14, 10, .ro, .operate, .any, .kept, false⟩,
    ⟨9, 5, .ro, .operate, .any, .kept, false⟩,
    ⟨4, 0, .ro, .operate, .any, .kept, false⟩]⟩,
  ⟨"AFEg_RPT_LIM", [0x100028], [(8, 0x1000)], 0xc80800, 0, [
    ⟨31, 16, .rw, .operate, .any, .kept, true⟩,
    ⟨15, 0, .rw, .operate, .any, .kept, true⟩]⟩,
  ⟨"AFEg_RPT_CNT", [0x10002c], [(8, 0x1000)], 0x0, 0, [
    ⟨31, 16, .ro, .operate, .any, .kept, false⟩,
    ⟨15, 0, .ro, .operate, .any, .kept, false⟩]⟩,
  ⟨"AFEg_SENSE", [0x100030], [(8, 0x1000)], 0x0, 0, [
    ⟨5, 4, .rw, .operate, .any, .kept, true⟩,
    ⟨2, 0, .rw, .operate, .any, .kept, true⟩]⟩,
  ⟨"AFEg_PROOF_CTL", [0x100034], [(8, 0x1000)], 0x0, 0, [
    ⟨31, 31, .wo, .operate, .any, .value 0, false⟩,
    ⟨9, 8, .rw, .operate, .any, .value 0, false⟩,
    ⟨2, 0, .rw, .operate, .any, .value 0, false⟩]⟩,
  ⟨"AFEg_PROOF_STAT", [0x100038], [(8, 0x1000)], 0x0, 0, [
    ⟨31, 31, .w1c, .operate, .any, .value 0, false⟩,
    ⟨30, 30, .ro, .operate, .any, .value 0, false⟩,
    ⟨29, 29, .ro, .operate, .any, .value 0, false⟩,
    ⟨23, 16, .ro, .operate, .any, .value 0, false⟩,
    ⟨2, 0, .ro, .operate, .any, .value 0, false⟩]⟩,
  ⟨"AFEg_PROOF_RES", [0x10003c], [(8, 0x1000)], 0x0, 0, [
    ⟨31, 0, .ro, .operate, .any, .value 0, false⟩]⟩,
  ⟨"AFEg_REF_VAL", [0x100040], [(8, 0x1000)], 0x7d0000, 0, [
    ⟨31, 0, .seal, .engineer, .any, .kept, true⟩]⟩,
  ⟨"AFEg_PDAC_G", [0x100044], [(8, 0x1000)], 0x400000, 0, [
    ⟨31, 0, .seal, .engineer, .any, .kept, true⟩]⟩,
  ⟨"AFEg_PDAC_O", [0x100048], [(8, 0x1000)], 0x0, 0, [
    ⟨31, 0, .seal, .engineer, .any, .kept, true⟩]⟩,
  ⟨"AFEg_CHc_CFG", [0x100100], [(8, 0x1000), (8, 0x40)], 0x0, 0, [
    ⟨27, 24, .img, .operate, .any, .kept, true⟩,
    ⟨19, 16, .img, .operate, .any, .kept, true⟩,
    ⟨9, 8, .img, .operate, .any, .kept, true⟩,
    ⟨1, 0, .img, .operate, .any, .kept, true⟩]⟩,
  ⟨"AFEg_CHc_CTL", [0x100104], [(8, 0x1000), (8, 0x40)], 0x0, 0, [
    ⟨0, 0, .rw, .operate, .any, .kept, false⟩]⟩,
  ⟨"AFEg_CHc_STAT", [0x100108], [(8, 0x1000), (8, 0x40)], 0x0, 0, [
    ⟨5, 5, .ro, .operate, .any, .kept, false⟩,
    ⟨4, 4, .ro, .operate, .any, .value 0, false⟩,
    ⟨3, 3, .ro, .operate, .any, .kept, false⟩,
    ⟨2, 2, .w1c, .operate, .any, .kept, false⟩,
    ⟨1, 1, .ro, .operate, .any, .kept, false⟩]⟩,
  ⟨"AFEg_CHc_MAP", [0x10010c], [(8, 0x1000), (8, 0x40)], 0x0, 8, [
    ⟨12, 8, .ro, .operate, .any, .kept, false⟩,
    ⟨4, 0, .ro, .operate, .any, .kept, false⟩]⟩,
  ⟨"AFEg_CHc_RES", [0x100110], [(8, 0x1000), (8, 0x40)], 0x0, 0, [
    ⟨31, 0, .ro, .operate, .any, .kept, false⟩]⟩,
  ⟨"AFEg_CHc_MATCH_G", [0x100114], [(8, 0x1000), (8, 0x40)], 0x400000, 0, [
    ⟨31, 0, .ro, .operate, .any, .kept, false⟩]⟩,
  ⟨"AFEg_CHc_MATCH_O", [0x100118], [(8, 0x1000), (8, 0x40)], 0x0, 0, [
    ⟨31, 0, .ro, .operate, .any, .kept, false⟩]⟩,
  ⟨"AFEg_CHc_CAL_G", [0x10011c], [(8, 0x1000), (8, 0x40)], 0x400000, 0, [
    ⟨31, 0, .seal, .engineer, .any, .kept, true⟩]⟩,
  ⟨"AFEg_CHc_CAL_O", [0x100120], [(8, 0x1000), (8, 0x40)], 0x0, 0, [
    ⟨31, 0, .seal, .engineer, .any, .kept, true⟩]⟩,
  ⟨"AFEg_CHc_SKEW", [0x100124], [(8, 0x1000), (8, 0x40)], 0x0, 0, [
    ⟨31, 0, .seal, .engineer, .clampS (-200) 200, .kept, true⟩]⟩,
  ⟨"AFEg_CHc_RATIO", [0x100128], [(8, 0x1000), (8, 0x40)], 0x3f800000, 0, [
    ⟨31, 0, .seal, .engineer, .any, .kept, true⟩]⟩,
  ⟨"AFEg_CVv_STAT", [0x100400], [(8, 0x1000), (18, 0x10)], 0x500, 0, [
    ⟨10, 8, .ro, .operate, .any, .kept, false⟩,
    ⟨7, 7, .ro, .operate, .any, .kept, false⟩,
    ⟨6, 6, .ro, .operate, .any, .kept, false⟩,
    ⟨2, 0, .ro, .operate, .any, .kept, false⟩]⟩,
  ⟨"AFEg_CVv_OFS", [0x100404], [(8, 0x1000), (18, 0x10)], 0x0, 0, [
    ⟨31, 0, .ro, .operate, .any, .kept, false⟩]⟩]

/-- Register rows of chapter 06, part 1. -/
def regRows06_1 : List RegRow := [
  ⟨"AFEg_CVv_GAIN", [0x100408], [(8, 0x1000), (18, 0x10)], 0x400000, 0, [
    ⟨31, 0, .ro, .operate, .any, .kept, false⟩]⟩,
  ⟨"AFEg_CVv_AGE", [0x10040c], [(8, 0x1000), (18, 0x10)], 0x0, 0, [
    ⟨31, 0, .ro, .operate, .any, .kept, false⟩]⟩]

/-- Register rows of chapter 07, part 0. -/
def regRows07_0 : List RegRow := [
  ⟨"HKC_CTL", [0x180020], [], 0x3c0001, 0, [
    ⟨31, 16, .rw, .operate, .clamp 0 3600, .kept, true⟩,
    ⟨6, 0, .rw, .operate, .clamp 1 64, .kept, true⟩]⟩,
  ⟨"HKC_SEL", [0x180024], [], 0x0, 0, [
    ⟨23, 16, .wo, .operate, .any, .value 0, false⟩,
    ⟨11, 8, .wo, .operate, .any, .value 0, false⟩,
    ⟨4, 0, .wo, .operate, .any, .value 0, false⟩]⟩,
  ⟨"HKC_CMD", [0x180028], [], 0x0, 0, [
    ⟨1, 1, .wo, .operate, .any, .value 0, false⟩,
    ⟨0, 0, .wo, .operate, .any, .value 0, false⟩]⟩,
  ⟨"HKC_STAT", [0x18002c], [], 0xff0000, 0, [
    ⟨31, 31, .w1c, .operate, .any, .kept, false⟩,
    ⟨30, 30, .w1c, .operate, .any, .kept, false⟩,
    ⟨29, 29, .w1c, .operate, .any, .kept, false⟩,
    ⟨28, 28, .ro, .operate, .any, .kept, false⟩,
    ⟨27, 27, .ro, .operate, .any, .value 0, false⟩,
    ⟨26, 26, .ro, .operate, .any, .value 0, false⟩,
    ⟨25, 25, .ro, .operate, .any, .value 0, false⟩,
    ⟨23, 16, .ro, .operate, .any, .kept, false⟩,
    ⟨11, 8, .ro, .operate, .any, .value 0, false⟩,
    ⟨6, 0, .ro, .operate, .any, .value 0, false⟩]⟩,
  ⟨"HKC_LOST", [0x180030], [], 0x0, 0, [
    ⟨31, 16, .w1c, .operate, .any, .kept, false⟩,
    ⟨15, 0, .w1c, .operate, .any, .kept, false⟩]⟩,
  ⟨"HKC_CAL_OFS", [0x180034], [], 0x0, 0, [
    ⟨31, 0, .ro, .operate, .any, .kept, false⟩]⟩,
  ⟨"HKC_CAL_GAIN", [0x180038], [], 0x400000, 0, [
    ⟨31, 0, .ro, .operate, .any, .kept, false⟩]⟩,
  ⟨"HKC_CAL_AGE", [0x18003c], [], 0x0, 0, [
    ⟨31, 0, .ro, .operate, .any, .kept, false⟩]⟩,
  ⟨"HKC_Q_0", [0x180040], [], 0x0, 0, [
    ⟨31, 0, .rs, .operate, .any, .value 0, false⟩]⟩,
  ⟨"HKC_Q_1", [0x180044], [], 0x0, 0, [
    ⟨31, 0, .rs, .operate, .any, .value 0, false⟩]⟩,
  ⟨"HKC_Q_2", [0x180048], [], 0x0, 0, [
    ⟨31, 0, .rs, .operate, .any, .value 0, false⟩]⟩,
  ⟨"HKC_Q_3", [0x18004c], [], 0x0, 0, [
    ⟨31, 0, .rs, .operate, .any, .value 0, false⟩]⟩,
  ⟨"HKC_Q_4", [0x180050], [], 0x0, 0, [
    ⟨31, 0, .rs, .operate, .any, .value 0, false⟩]⟩]

/-- Register rows of chapter 08, part 0. -/
def regRows08_0 : List RegRow := [
  ⟨"FLT_CMD", [0x200020], [], 0x0, 0, [
    ⟨31, 31, .wo, .operate, .any, .value 0, false⟩,
    ⟨15, 0, .wo, .operate, .any, .value 0, false⟩]⟩,
  ⟨"FLT_STAT", [0x200024], [], 0x0, 0, [
    ⟨31, 31, .w1c, .operate, .any, .kept, false⟩,
    ⟨30, 30, .ro, .operate, .any, .value 0, false⟩,
    ⟨15, 0, .ro, .operate, .any, .image, true⟩]⟩,
  ⟨"FLT_LOAD_FULL", [0x200028], [], 0x0, 0, [
    ⟨31, 0, .ro, .operate, .any, .kept, true⟩]⟩,
  ⟨"FLT_LOAD_LEAN", [0x20002c], [], 0x0, 0, [
    ⟨31, 0, .ro, .operate, .any, .kept, true⟩]⟩,
  ⟨"FLT_LOAD_GUARD", [0x200030], [], 0x0, 0, [
    ⟨31, 0, .ro, .operate, .any, .kept, true⟩]⟩,
  ⟨"FLT_CAP", [0x200034], [], 0x5b8d80, 0, [
    ⟨31, 0, .ro, .operate, .any, .value 6000000, false⟩]⟩,
  ⟨"FLT_ORIGIN_0", [0x200040], [], 0x0, 0, [
    ⟨31, 0, .rs, .operate, .any, .image, true⟩]⟩,
  ⟨"FLT_ORIGIN_1", [0x200044], [], 0x0, 0, [
    ⟨31, 0, .rs, .operate, .any, .image, true⟩]⟩,
  ⟨"FLT_ORIGIN_2", [0x200048], [], 0x0, 0, [
    ⟨31, 0, .rs, .operate, .any, .image, true⟩]⟩,
  ⟨"FLT_PROFp_CFG", [0x200100], [(16, 0x20)], 0x0, 6, [
    ⟨26, 24, .img, .operate, .any, .kept, true⟩,
    ⟨21, 20, .img, .operate, .any, .kept, true⟩,
    ⟨16, 16, .img, .operate, .any, .kept, true⟩,
    ⟨14, 12, .img, .operate, .range 0 6, .kept, true⟩,
    ⟨8, 0, .img, .operate, .range 1 384, .kept, true⟩]⟩,
  ⟨"FLT_PROFp_GD", [0x200104], [(16, 0x20)], 0x0, 0, [
    ⟨31, 0, .img, .operate, .any, .kept, true⟩]⟩,
  ⟨"FLT_PROFp_CTL", [0x200108], [(16, 0x20)], 0x0, 0, [
    ⟨0, 0, .rw, .operate, .any, .image, true⟩]⟩,
  ⟨"FLT_PROFp_STAT", [0x20010c], [(16, 0x20)], 0x0, 0, [
    ⟨31, 31, .ro, .operate, .any, .value 0, false⟩,
    ⟨30, 30, .ro, .operate, .any, .value 0, false⟩,
    ⟨29, 29, .ro, .operate, .any, .value 0, false⟩,
    ⟨28, 28, .ro, .operate, .any, .image, true⟩,
    ⟨27, 27, .ro, .operate, .any, .value 0, false⟩,
    ⟨16, 0, .ro, .operate, .any, .value 0, false⟩]⟩,
  ⟨"FLT_PROFp_XF", [0x200110], [(16, 0x20)], 0x1, 0, [
    ⟨15, 0, .rw, .operate, .clamp 1 65535, .kept, true⟩]⟩,
  ⟨"FLT_PROFp_CNT", [0x200114], [(16, 0x20)], 0x0, 0, [
    ⟨31, 16, .ro, .operate, .any, .kept, false⟩,
    ⟨15, 0, .ro, .operate, .any, .kept, false⟩]⟩,
  ⟨"FLT_GD_n", [0x200800], [(64, 0x4)], 0x0, 0, [
    ⟨31, 0, .ro, .operate, .any, .kept, true⟩]⟩,
  ⟨"FLT_CH_STAT_n", [0x200a00], [(64, 0x4)], 0x0, 0, [
    ⟨31, 31, .ro, .operate, .any, .value 0, false⟩,
    ⟨8, 0, .ro, .operate, .any, .value 0, false⟩]⟩,
  ⟨"FLT_COEF_p_b_k", [0x210000], [(16, 0x1000), (2, 0x800), (384, 0x4)], 0x0, 7, [
    ⟨31, 24, .ro, .operate, .any, .kept, true⟩,
    ⟨23, 0, .img, .operate, .any, .kept, true⟩]⟩]

/-- Register rows of chapter 09, part 0. -/
def regRows09_0 : List RegRow := [
  ⟨"PRT_RUN", [0x300020], [], 0x0, 0, [
    ⟨16, 16, .ro, .operate, .any, .kept, false⟩,
    ⟨11, 0, .ro, .operate, .any, .kept, true⟩]⟩,
  ⟨"PRT_OPMASK", [0x300024], [], 0x0, 0, [
    ⟨11, 0, .ro, .operate, .any, .kept, false⟩]⟩,
  ⟨"PRT_Ff_CFG", [0x301000], [(12, 0x1000)], 0x80000000, 0, [
    ⟨31, 31, .img, .operate, .any, .kept, true⟩,
    ⟨8, 8, .img, .operate, .any, .kept, true⟩]⟩,
  ⟨"PRT_Ff_STAT", [0x301004], [(12, 0x1000)], 0x0, 0, [
    ⟨31, 31, .ro, .operate, .any, .kept, false⟩,
    ⟨30, 30, .ro, .operate, .any, .kept, false⟩,
    ⟨29, 29, .ro, .operate, .any, .kept, false⟩,
    ⟨28, 28, .ro, .operate, .any, .kept, false⟩]⟩,
  ⟨"PRT_Ff_SG", [0x301008], [(12, 0x1000)], 0x0, 0, [
    ⟨1, 0, .ro, .operate, .any, .kept, true⟩]⟩,
  ⟨"PRT_Ff_BLK", [0x30100c], [(12, 0x1000)], 0x0, 0, [
    ⟨23, 0, .rw, .operate, .any, .kept, false⟩]⟩,
  ⟨"PRT_Ff_PU", [0x301010], [(12, 0x1000)], 0x0, 0, [
    ⟨23, 0, .ro, .operate, .any, .kept, false⟩]⟩,
  ⟨"PRT_Ff_OP", [0x301014], [(12, 0x1000)], 0x0, 0, [
    ⟨23, 0, .ro, .operate, .any, .kept, false⟩]⟩,
  ⟨"PRT_Ff_NOM_I", [0x301020], [(12, 0x1000)], 0x3f800000, 0, [
    ⟨31, 0, .img, .operate, .any, .kept, true⟩]⟩,
  ⟨"PRT_Ff_NOM_V", [0x301024], [(12, 0x1000)], 0x3f800000, 0, [
    ⟨31, 0, .img, .operate, .any, .kept, true⟩]⟩,
  ⟨"PRT_Ff_IN_q", [0x301030], [(12, 0x1000), (8, 0x4)], 0xc0000000, 0, [
    ⟨31, 30, .img, .operate, .any, .kept, true⟩,
    ⟨15, 0, .img, .operate, .any, .kept, true⟩]⟩,
  ⟨"PRT_Ff_UPD_0", [0x301060], [(12, 0x1000)], 0x0, 0, [
    ⟨15, 8, .rs, .operate, .any, .kept, false⟩,
    ⟨3, 0, .rs, .operate, .any, .kept, false⟩]⟩,
  ⟨"PRT_Ff_UPD_1", [0x301064], [(12, 0x1000)], 0x0, 0, [
    ⟨31, 0, .rs, .operate, .any, .kept, false⟩]⟩,
  ⟨"PRT_Ff_UPD_2", [0x301068], [(12, 0x1000)], 0x0, 0, [
    ⟨31, 0, .rs, .operate, .any, .kept, false⟩]⟩,
  ⟨"PRT_Ff_UPD_3", [0x30106c], [(12, 0x1000)], 0x0, 0, [
    ⟨31, 0, .rs, .operate, .any, .kept, false⟩]⟩,
  ⟨"PRT_Ff_UPD_4", [0x301070], [(12, 0x1000)], 0x0, 0, [
    ⟨31, 0, .rs, .operate, .any, .kept, false⟩]⟩,
  ⟨"PRT_Ff_UPD_5", [0x301074], [(12, 0x1000)], 0x0, 0, [
    ⟨31, 0, .rs, .operate, .any, .kept, false⟩]⟩,
  ⟨"PRT_Ff_PHq_0", [0x301100], [(12, 0x1000), (14, 0x10)], 0x0, 0, [
    ⟨31, 0, .rs, .operate, .any, .kept, false⟩]⟩,
  ⟨"PRT_Ff_PHq_1", [0x301104], [(12, 0x1000), (14, 0x10)], 0x0, 0, [
    ⟨31, 31, .rs, .operate, .any, .kept, false⟩,
    ⟨30, 30, .rs, .operate, .any, .kept, false⟩,
    ⟨29, 29, .rs, .operate, .any, .kept, false⟩,
    ⟨28, 28, .rs, .operate, .any, .kept, false⟩,
    ⟨7, 0, .rs, .operate, .any, .kept, false⟩]⟩,
  ⟨"PRT_Ff_PHq_2", [0x301108], [(12, 0x1000), (14, 0x10)], 0x0, 0, [
    ⟨31, 0, .rs, .operate, .any, .kept, false⟩]⟩,
  ⟨"PRT_Ff_Ee_STAT", [0x301200], [(12, 0x1000), (24, 0x10)], 0x0, 0, [
    ⟨31, 31, .ro, .operate, .any, .kept, false⟩,
    ⟨30, 30, .ro, .operate, .any, .kept, false⟩,
    ⟨29, 27, .ro, .operate, .any, .kept, false⟩,
    ⟨26, 26, .ro, .operate, .any, .kept, false⟩,
    ⟨25, 25, .ro, .operate, .any, .kept, false⟩,
    ⟨24, 24, .ro, .operate, .any, .kept, false⟩,
    ⟨23, 20, .ro, .operate, .any, .kept, false⟩,
    ⟨19, 19, .ro, .operate, .any, .kept, false⟩]⟩,
  ⟨"PRT_Ff_Ee_ACC", [0x301204], [(12, 0x1000), (24, 0x10)], 0x0, 0, [
    ⟨31, 0, .ro, .operate, .any, .kept, false⟩]⟩,
  ⟨"PRT_Ff_Ee_CNT", [0x301208], [(12, 0x1000), (24, 0x10)], 0x0, 0, [
    ⟨31, 0, .ro, .operate, .any, .kept, false⟩]⟩,
  ⟨"PRT_Ff_SGs_Ee_CFG", [0x301400], [(12, 0x1000), (4, 0x200), (24, 0x10)], 0x0, 0, [
    ⟨31, 31, .img, .operate, .any, .kept, true⟩,
    ⟨27, 24, .img, .operate, .any, .kept, true⟩,
    ⟨23, 23, .img, .operate, .any, .kept, true⟩,
    ⟨22, 22, .img, .operate, .any, .kept, true⟩,
    ⟨21, 20, .img, .operate, .any, .kept, true⟩,
    ⟨19, 18, .img, .operate, .any, .kept, true⟩,
    ⟨17, 16, .img, .operate, .any, .kept, true⟩,
    ⟨15, 15, .img, .operate, .any, .kept, true⟩,
    ⟨14, 14, .img, .operate, .any, .kept, true⟩]⟩]

/-- Register rows of chapter 09, part 1. -/
def regRows09_1 : List RegRow := [
  ⟨"PRT_Ff_SGs_Ee_PICKUP", [0x301404], [(12, 0x1000), (4, 0x200), (24, 0x10)], 0x0, 0, [
    ⟨31, 0, .img, .operate, .any, .kept, true⟩]⟩,
  ⟨"PRT_Ff_SGs_Ee_TIME", [0x301408], [(12, 0x1000), (4, 0x200), (24, 0x10)], 0x0, 0, [
    ⟨31, 0, .img, .operate, .any, .kept, true⟩]⟩,
  ⟨"PRT_Ff_SGs_Ee_AUX", [0x30140c], [(12, 0x1000), (4, 0x200), (24, 0x10)], 0x0, 0, [
    ⟨31, 0, .img, .operate, .any, .kept, true⟩]⟩]

/-- Register rows of chapter 10, part 0. -/
def regRows10_0 : List RegRow := [
  ⟨"PRT_TRIPO_n", [0x300040], [(16, 0x4)], 0xc8, 0, [
    ⟨31, 31, .img, .operate, .any, .kept, true⟩,
    ⟨30, 30, .img, .operate, .any, .kept, true⟩,
    ⟨29, 29, .ro, .operate, .any, .kept, false⟩,
    ⟨15, 0, .img, .operate, .range 0 10000, .kept, true⟩]⟩,
  ⟨"PRT_Ff_LINK", [0x301c00], [(12, 0x1000)], 0x0, 0, [
    ⟨15, 0, .img, .operate, .any, .kept, true⟩]⟩,
  ⟨"PRT_Ff_BF_TGT", [0x301c04], [(12, 0x1000)], 0x0, 0, [
    ⟨31, 16, .img, .operate, .any, .kept, true⟩,
    ⟨11, 0, .img, .operate, .any, .kept, true⟩]⟩,
  ⟨"PRT_Ff_BF_EXT", [0x301c08], [(12, 0x1000)], 0x0, 0, [
    ⟨31, 31, .img, .operate, .any, .kept, true⟩,
    ⟨4, 0, .img, .operate, .any, .kept, true⟩]⟩,
  ⟨"PRT_Ff_BF_INIT", [0x301c0c], [(12, 0x1000)], 0x0, 0, [
    ⟨0, 0, .rw, .operate, .any, .value 0, false⟩]⟩,
  ⟨"PRT_Ff_POW_CFG", [0x301d00], [(12, 0x1000)], 0x0, 0, [
    ⟨31, 31, .img, .operate, .any, .kept, true⟩,
    ⟨29, 28, .img, .operate, .any, .kept, true⟩,
    ⟨25, 24, .img, .operate, .any, .kept, true⟩,
    ⟨23, 20, .img, .operate, .any, .kept, true⟩,
    ⟨11, 8, .img, .operate, .any, .kept, true⟩,
    ⟨3, 0, .img, .operate, .any, .kept, true⟩]⟩,
  ⟨"PRT_Ff_POW_DET", [0x301d04], [(12, 0x1000)], 0x0, 0, [
    ⟨28, 24, .img, .operate, .any, .kept, true⟩,
    ⟨20, 16, .img, .operate, .any, .kept, true⟩,
    ⟨15, 0, .img, .operate, .range 5 2000, .kept, true⟩]⟩,
  ⟨"PRT_Ff_POW_LIM", [0x301d08], [(12, 0x1000)], 0x200c8, 0, [
    ⟨31, 16, .rw, .operate, .clamp 1 1000, .kept, true⟩,
    ⟨15, 0, .rw, .operate, .clamp 10 2000, .kept, true⟩]⟩,
  ⟨"PRT_Ff_POW_T_CLOSE", [0x301d0c], [(12, 0x1000)], 0x0, 0, [
    ⟨31, 0, .rw, .engineer, .any, .kept, true⟩]⟩,
  ⟨"PRT_Ff_POW_T_OPEN", [0x301d10], [(12, 0x1000)], 0x0, 0, [
    ⟨31, 0, .rw, .engineer, .any, .kept, true⟩]⟩,
  ⟨"PRT_Ff_POW_TGT_0", [0x301d14], [(12, 0x1000)], 0x0, 0, [
    ⟨31, 0, .rw, .operate, .any, .value 0, false⟩]⟩,
  ⟨"PRT_Ff_POW_TGT_1", [0x301d18], [(12, 0x1000)], 0x0, 0, [
    ⟨31, 0, .rw, .operate, .any, .value 0, false⟩]⟩,
  ⟨"PRT_Ff_POW_ADV_CLOSE_0", [0x301d20], [(12, 0x1000)], 0x0, 0, [
    ⟨31, 0, .rs, .operate, .any, .kept, false⟩]⟩,
  ⟨"PRT_Ff_POW_ADV_OPEN_0", [0x301d28], [(12, 0x1000)], 0x0, 0, [
    ⟨31, 0, .rs, .operate, .any, .kept, false⟩]⟩,
  ⟨"PRT_Ff_POW_ADV_CLOSE_1", [0x301d24], [(12, 0x1000)], 0x0, 0, [
    ⟨31, 0, .rs, .operate, .any, .kept, false⟩]⟩,
  ⟨"PRT_Ff_POW_ADV_OPEN_1", [0x301d2c], [(12, 0x1000)], 0x0, 0, [
    ⟨31, 0, .rs, .operate, .any, .kept, false⟩]⟩,
  ⟨"PRT_Ff_POW_LAST_0", [0x301d30], [(12, 0x1000)], 0x0, 0, [
    ⟨31, 30, .rs, .operate, .any, .kept, false⟩,
    ⟨29, 28, .rs, .operate, .any, .kept, false⟩,
    ⟨27, 26, .rs, .operate, .any, .kept, false⟩,
    ⟨25, 25, .rs, .operate, .any, .kept, false⟩,
    ⟨24, 24, .ro, .operate, .any, .kept, false⟩,
    ⟨23, 16, .rs, .operate, .any, .kept, false⟩,
    ⟨15, 8, .rs, .operate, .any, .kept, false⟩]⟩,
  ⟨"PRT_Ff_POW_LAST_1", [0x301d34], [(12, 0x1000)], 0x0, 0, [
    ⟨31, 0, .rs, .operate, .any, .kept, false⟩]⟩,
  ⟨"PRT_Ff_POW_LAST_2", [0x301d38], [(12, 0x1000)], 0x0, 0, [
    ⟨31, 0, .rs, .operate, .any, .kept, false⟩]⟩,
  ⟨"PRT_Ff_POW_LAST_3", [0x301d3c], [(12, 0x1000)], 0x0, 0, [
    ⟨31, 0, .rs, .operate, .any, .kept, false⟩]⟩,
  ⟨"PRT_Ff_POW_LAST_4", [0x301d40], [(12, 0x1000)], 0x0, 0, [
    ⟨31, 0, .rs, .operate, .any, .kept, false⟩]⟩,
  ⟨"PRT_Ss_STAT", [0x30d000], [(16, 0x100)], 0x0, 0, [
    ⟨23, 16, .ro, .operate, .any, .kept, false⟩,
    ⟨7, 0, .ro, .operate, .any, .kept, false⟩]⟩,
  ⟨"PRT_Ss_CNT", [0x30d004], [(16, 0x100)], 0x0, 0, [
    ⟨31, 0, .ro, .operate, .any, .kept, false⟩]⟩,
  ⟨"PRT_Ss_LAST_0", [0x30d008], [(16, 0x100)], 0x0, 0, [
    ⟨15, 8, .rs, .operate, .any, .kept, false⟩,
    ⟨7, 0, .rs, .operate, .any, .kept, false⟩]⟩]

/-- Register rows of chapter 10, part 1. -/
def regRows10_1 : List RegRow := [
  ⟨"PRT_Ss_LAST_1", [0x30d00c], [(16, 0x100)], 0x0, 0, [
    ⟨31, 0, .rs, .operate, .any, .kept, false⟩]⟩,
  ⟨"PRT_Ss_LAST_2", [0x30d010], [(16, 0x100)], 0x0, 0, [
    ⟨31, 0, .rs, .operate, .any, .kept, false⟩]⟩,
  ⟨"PRT_Ss_LAST_3", [0x30d014], [(16, 0x100)], 0x0, 0, [
    ⟨31, 0, .rs, .operate, .any, .kept, false⟩]⟩,
  ⟨"PRT_Ss_Ci_CFG", [0x30d040], [(16, 0x100), (8, 0x10)], 0x0, 0, [
    ⟨31, 31, .img, .operate, .any, .kept, true⟩,
    ⟨17, 16, .img, .operate, .range 0 2, .kept, true⟩,
    ⟨12, 8, .img, .operate, .range 1 16, .kept, true⟩,
    ⟨5, 0, .img, .operate, .any, .kept, true⟩]⟩,
  ⟨"PRT_Ss_Ci_THR", [0x30d044], [(16, 0x100), (8, 0x10)], 0x0, 0, [
    ⟨22, 0, .img, .operate, .range 1 8388607, .kept, true⟩]⟩,
  ⟨"PRT_Ss_Ci_QUAL", [0x30d048], [(16, 0x100), (8, 0x10)], 0x0, 0, [
    ⟨31, 31, .img, .operate, .any, .kept, true⟩,
    ⟨20, 16, .img, .operate, .any, .kept, true⟩,
    ⟨9, 0, .img, .operate, .range 0 1000, .kept, true⟩]⟩,
  ⟨"PRT_Ss_Ci_HOLD", [0x30d04c], [(16, 0x100), (8, 0x10)], 0x7530, 0, [
    ⟨15, 0, .img, .operate, .range 1 65535, .kept, true⟩]⟩]

/-- Register rows of chapter 11, part 0. -/
def regRows11_0 : List RegRow := [
  ⟨"ACQ_CMD", [0x400020], [], 0x0, 0, [
    ⟨31, 16, .wo, .operate, .any, .value 0, false⟩,
    ⟨15, 8, .wo, .operate, .any, .value 0, false⟩,
    ⟨7, 0, .wo, .operate, .any, .value 0, false⟩]⟩,
  ⟨"ACQ_STAT", [0x400024], [], 0x0, 0, [
    ⟨31, 31, .ro, .operate, .any, .value 0, false⟩,
    ⟨23, 16, .ro, .operate, .any, .value 0, false⟩,
    ⟨15, 8, .ro, .operate, .any, .value 0, false⟩,
    ⟨7, 0, .ro, .operate, .any, .value 0, false⟩]⟩,
  ⟨"ACQ_ERR", [0x400028], [], 0x70000, 0, [
    ⟨31, 24, .ro, .operate, .any, .value 0, false⟩,
    ⟨18, 16, .ro, .operate, .any, .value 7, false⟩,
    ⟨2, 0, .ro, .operate, .any, .value 0, false⟩]⟩,
  ⟨"ACQ_EVAL_DLY", [0x40002c], [], 0x0, 0, [
    ⟨31, 0, .ro, .operate, .any, .kept, true⟩]⟩,
  ⟨"ACQ_BW", [0x400030], [], 0x0, 0, [
    ⟨31, 0, .ro, .operate, .any, .value 0, false⟩]⟩,
  ⟨"ACQ_BUS_CTL", [0x400040], [], 0x0, 0, [
    ⟨31, 30, .img, .operate, .range 0 2, .kept, true⟩,
    ⟨15, 8, .img, .operate, .any, .kept, true⟩,
    ⟨7, 0, .ro, .operate, .any, .value 0, false⟩]⟩,
  ⟨"ACQ_BUS_LAT", [0x400044], [], 0x0, 0, [
    ⟨31, 0, .img, .operate, .any, .kept, true⟩]⟩,
  ⟨"ACQ_BUS_STAT", [0x400048], [], 0x0, 0, [
    ⟨31, 31, .ro, .operate, .any, .value 0, false⟩,
    ⟨15, 8, .w1c, .operate, .any, .kept, false⟩,
    ⟨7, 0, .ro, .operate, .any, .value 0, false⟩]⟩,
  ⟨"ACQ_TRGl_DLY", [0x400060], [(8, 0x4)], 0x0, 0, [
    ⟨31, 0, .img, .operate, .any, .kept, true⟩]⟩,
  ⟨"ACQ_TUn_CFG", [0x400100], [(16, 0x20)], 0x0, 0, [
    ⟨31, 31, .img, .operate, .any, .kept, true⟩,
    ⟨27, 24, .img, .operate, .any, .kept, true⟩,
    ⟨23, 20, .img, .operate, .any, .kept, true⟩,
    ⟨17, 16, .img, .operate, .any, .kept, true⟩,
    ⟨13, 12, .img, .operate, .any, .kept, true⟩]⟩,
  ⟨"ACQ_TUn_SRC", [0x400104], [(16, 0x20)], 0x0, 0, [
    ⟨31, 28, .img, .operate, .any, .kept, true⟩,
    ⟨19, 16, .img, .operate, .any, .kept, true⟩,
    ⟨15, 8, .img, .operate, .any, .kept, true⟩,
    ⟨5, 0, .img, .operate, .any, .kept, true⟩]⟩,
  ⟨"ACQ_TUn_A", [0x400108], [(16, 0x20)], 0x0, 0, [
    ⟨31, 0, .rw, .operate, .any, .kept, true⟩]⟩,
  ⟨"ACQ_TUn_B", [0x40010c], [(16, 0x20)], 0x0, 0, [
    ⟨31, 0, .rw, .operate, .any, .kept, true⟩]⟩,
  ⟨"ACQ_TUn_C", [0x400110], [(16, 0x20)], 0x0, 0, [
    ⟨31, 0, .rw, .operate, .any, .kept, true⟩]⟩,
  ⟨"ACQ_TUn_QUAL", [0x400114], [(16, 0x20)], 0x0, 0, [
    ⟨31, 30, .rw, .operate, .any, .kept, true⟩,
    ⟨19, 16, .rw, .operate, .any, .kept, true⟩,
    ⟨15, 0, .rw, .operate, .any, .kept, true⟩]⟩,
  ⟨"ACQ_TUn_STAT", [0x400118], [(16, 0x20)], 0x0, 0, [
    ⟨31, 31, .ro, .operate, .any, .value 0, false⟩,
    ⟨30, 30, .ro, .operate, .any, .value 0, false⟩,
    ⟨29, 29, .ro, .operate, .any, .value 0, false⟩]⟩,
  ⟨"ACQ_TUn_CNT", [0x40011c], [(16, 0x20)], 0x0, 0, [
    ⟨31, 0, .w1c, .operate, .any, .kept, false⟩]⟩,
  ⟨"ACQ_Cj_CFG", [0x400400], [(8, 0x40)], 0x0, 0, [
    ⟨31, 31, .img, .operate, .any, .kept, true⟩,
    ⟨30, 30, .img, .operate, .any, .kept, true⟩,
    ⟨29, 29, .img, .operate, .any, .kept, true⟩,
    ⟨28, 28, .img, .operate, .any, .kept, true⟩,
    ⟨27, 24, .img, .operate, .any, .kept, true⟩,
    ⟨23, 21, .img, .operate, .any, .kept, true⟩,
    ⟨20, 20, .img, .operate, .any, .kept, true⟩,
    ⟨19, 16, .img, .operate, .any, .kept, true⟩,
    ⟨15, 8, .img, .operate, .any, .kept, true⟩,
    ⟨6, 0, .img, .operate, .range 1 64, .kept, true⟩]⟩,
  ⟨"ACQ_Cj_CH_LO", [0x400404], [(8, 0x40)], 0x0, 0, [
    ⟨31, 0, .img, .operate, .any, .kept, true⟩]⟩,
  ⟨"ACQ_Cj_CH_HI", [0x400408], [(8, 0x40)], 0x0, 0, [
    ⟨31, 0, .img, .operate, .any, .kept, true⟩]⟩,
  ⟨"ACQ_Cj_TMASK", [0x40040c], [(8, 0x40)], 0x0, 0, [
    ⟨23, 16, .img, .operate, .any, .kept, true⟩,
    ⟨15, 0, .img, .operate, .any, .kept, true⟩]⟩,
  ⟨"ACQ_Cj_PRE", [0x400410], [(8, 0x40)], 0x0, 0, [
    ⟨31, 0, .rw, .operate, .any, .kept, true⟩]⟩,
  ⟨"ACQ_Cj_POST", [0x400414], [(8, 0x40)], 0x0, 0, [
    ⟨31, 0, .rw, .operate, .any, .kept, true⟩]⟩,
  ⟨"ACQ_Cj_BASE", [0x400418], [(8, 0x40)], 0x0, 0, [
    ⟨31, 12, .img, .operate, .any, .kept, true⟩]⟩]

/-- Register rows of chapter 11, part 1. -/
def regRows11_1 : List RegRow := [
  ⟨"ACQ_Cj_SIZE", [0x40041c], [(8, 0x40)], 0x0, 0, [
    ⟨31, 0, .img, .operate, .any, .kept, true⟩]⟩,
  ⟨"ACQ_Cj_CAP", [0x400420], [(8, 0x40)], 0x0, 0, [
    ⟨31, 0, .ro, .operate, .any, .kept, true⟩]⟩,
  ⟨"ACQ_Cj_STAT", [0x400424], [(8, 0x40)], 0x0, 0, [
    ⟨31, 29, .ro, .operate, .any, .kept, false⟩,
    ⟨28, 28, .ro, .operate, .any, .kept, false⟩,
    ⟨27, 27, .ro, .operate, .any, .kept, false⟩,
    ⟨26, 26, .ro, .operate, .any, .kept, false⟩,
    ⟨25, 25, .ro, .operate, .any, .kept, false⟩,
    ⟨24, 24, .ro, .operate, .any, .kept, false⟩,
    ⟨19, 14, .ro, .operate, .any, .kept, false⟩,
    ⟨13, 7, .ro, .operate, .any, .kept, false⟩]⟩,
  ⟨"ACQ_Cj_WRPTR", [0x400428], [(8, 0x40)], 0x0, 0, [
    ⟨31, 0, .ro, .operate, .any, .kept, false⟩]⟩,
  ⟨"ACQ_Cj_RDPTR", [0x40042c], [(8, 0x40)], 0x0, 0, [
    ⟨31, 0, .rw, .operate, .any, .kept, false⟩]⟩,
  ⟨"ACQ_Cj_REL", [0x400430], [(8, 0x40)], 0x0, 0, [
    ⟨0, 0, .wo, .operate, .any, .value 0, false⟩]⟩,
  ⟨"ACQ_Cj_FRAMES", [0x400434], [(8, 0x40)], 0x0, 0, [
    ⟨31, 0, .ro, .operate, .any, .kept, false⟩]⟩,
  ⟨"ACQ_Cj_SEQ", [0x400438], [(8, 0x40)], 0x0, 0, [
    ⟨31, 0, .ro, .operate, .any, .kept, false⟩]⟩,
  ⟨"ACQ_RDk_CFG", [0x400600], [(5, 0x20)], 0x0, 0, [
    ⟨31, 31, .img, .operate, .any, .kept, true⟩,
    ⟨26, 24, .img, .operate, .range 0 4, .kept, true⟩,
    ⟨23, 20, .img, .operate, .any, .kept, true⟩,
    ⟨18, 16, .img, .operate, .any, .kept, true⟩]⟩,
  ⟨"ACQ_RDk_FACT", [0x400604], [(5, 0x20)], 0x0, 0, [
    ⟨31, 0, .img, .operate, .range 2 65536, .kept, true⟩]⟩,
  ⟨"ACQ_RDk_PRE", [0x400608], [(5, 0x20)], 0x0, 0, [
    ⟨31, 0, .rw, .operate, .any, .kept, true⟩]⟩,
  ⟨"ACQ_RDk_POST", [0x40060c], [(5, 0x20)], 0x0, 0, [
    ⟨31, 0, .rw, .operate, .any, .kept, true⟩]⟩,
  ⟨"ACQ_RDk_BASE", [0x400610], [(5, 0x20)], 0x0, 0, [
    ⟨31, 12, .img, .operate, .any, .kept, true⟩]⟩,
  ⟨"ACQ_RDk_SIZE", [0x400614], [(5, 0x20)], 0x0, 0, [
    ⟨31, 0, .img, .operate, .any, .kept, true⟩]⟩,
  ⟨"ACQ_RDk_CAP", [0x400618], [(5, 0x20)], 0x0, 0, [
    ⟨31, 0, .ro, .operate, .any, .kept, true⟩]⟩,
  ⟨"ACQ_RDk_STAT", [0x40061c], [(5, 0x20)], 0x0, 0, [
    ⟨31, 29, .ro, .operate, .any, .kept, false⟩,
    ⟨28, 28, .ro, .operate, .any, .kept, false⟩,
    ⟨27, 27, .ro, .operate, .any, .kept, false⟩,
    ⟨26, 26, .ro, .operate, .any, .kept, false⟩]⟩]

/-- Register rows of chapter 12, part 0. -/
def regRows12_0 : List RegRow := [
  ⟨"MTR_CTL", [0x500020], [], 0x64, 0, [
    ⟨9, 0, .img, .operate, .any, .kept, true⟩]⟩,
  ⟨"MTR_STAT", [0x500024], [], 0x0, 0, [
    ⟨31, 31, .ro, .operate, .any, .kept, true⟩,
    ⟨30, 30, .ro, .operate, .any, .kept, false⟩,
    ⟨29, 29, .ro, .operate, .any, .kept, true⟩,
    ⟨28, 28, .ro, .operate, .any, .value 0, false⟩,
    ⟨15, 0, .ro, .operate, .any, .kept, false⟩]⟩,
  ⟨"MTR_CMD", [0x500028], [], 0x0, 0, [
    ⟨2, 2, .wo, .engineer, .any, .value 0, false⟩,
    ⟨1, 1, .wo, .engineer, .any, .value 0, false⟩,
    ⟨0, 0, .wo, .operate, .any, .value 0, false⟩]⟩,
  ⟨"MTR_COMMIT_SEQ", [0x50002c], [], 0x0, 0, [
    ⟨31, 0, .ro, .operate, .any, .kept, true⟩]⟩,
  ⟨"MTR_COMMIT_TW_0", [0x500030], [], 0x0, 0, [
    ⟨31, 0, .rs, .operate, .any, .kept, true⟩]⟩,
  ⟨"MTR_COMMIT_TW_1", [0x500034], [], 0x0, 0, [
    ⟨31, 0, .rs, .operate, .any, .kept, true⟩]⟩,
  ⟨"MTR_COMMIT_TW_2", [0x500038], [], 0x0, 0, [
    ⟨31, 0, .rs, .operate, .any, .kept, true⟩]⟩,
  ⟨"MTR_SEAL_STAT", [0x50003c], [], 0x0, 0, [
    ⟨31, 31, .ro, .operate, .any, .kept, false⟩,
    ⟨30, 30, .ro, .operate, .any, .kept, false⟩,
    ⟨25, 24, .ro, .operate, .any, .value 0, false⟩,
    ⟨15, 8, .ro, .operate, .any, .kept, false⟩,
    ⟨7, 0, .ro, .operate, .any, .kept, false⟩]⟩,
  ⟨"MTR_AUD_STAT", [0x500040], [], 0x800000, 0, [
    ⟨31, 31, .ro, .operate, .any, .kept, true⟩,
    ⟨30, 30, .w1c, .operate, .any, .kept, false⟩,
    ⟨29, 29, .w1c, .operate, .any, .kept, false⟩,
    ⟨23, 12, .ro, .operate, .any, .kept, true⟩,
    ⟨11, 0, .ro, .operate, .any, .kept, true⟩]⟩,
  ⟨"MTR_AUD_FIRST", [0x500044], [], 0x0, 0, [
    ⟨31, 0, .ro, .operate, .any, .kept, true⟩]⟩,
  ⟨"MTR_AUD_LAST", [0x500048], [], 0x0, 0, [
    ⟨31, 0, .ro, .operate, .any, .kept, true⟩]⟩,
  ⟨"MTR_AUD_SEL", [0x50004c], [], 0x0, 0, [
    ⟨31, 0, .rw, .operate, .any, .kept, false⟩]⟩,
  ⟨"MTR_AUD_ACK", [0x500050], [], 0x0, 0, [
    ⟨31, 0, .wo, .engineer, .any, .value 0, false⟩]⟩,
  ⟨"MTR_TOT_SET_IDX", [0x500058], [], 0x0, 0, [
    ⟨7, 0, .rw, .operate, .range 0 159, .value 0, false⟩]⟩,
  ⟨"MTR_TOT_SET_0", [0x50005c], [], 0x0, 0, [
    ⟨31, 0, .seal, .engineer, .any, .value 0, false⟩]⟩,
  ⟨"MTR_TOT_SET_1", [0x500060], [], 0x0, 0, [
    ⟨31, 0, .seal, .engineer, .any, .value 0, false⟩]⟩,
  ⟨"MTR_AUD_RD_w", [0x500080], [(16, 0x4)], 0x0, 0, [
    ⟨31, 0, .rs, .operate, .any, .value 0, false⟩]⟩,
  ⟨"MTR_Ff_CFG", [0x501000], [(12, 0x40)], 0x0, 0, [
    ⟨31, 31, .img, .operate, .any, .kept, true⟩]⟩,
  ⟨"MTR_Ff_STAT", [0x501004], [(12, 0x40)], 0x0, 0, [
    ⟨31, 31, .ro, .operate, .any, .kept, false⟩,
    ⟨30, 30, .ro, .operate, .any, .kept, false⟩,
    ⟨29, 29, .w1c, .operate, .any, .kept, false⟩,
    ⟨28, 28, .ro, .operate, .any, .kept, false⟩,
    ⟨27, 27, .ro, .operate, .any, .kept, false⟩]⟩,
  ⟨"MTR_Ff_KE", [0x501008], [(12, 0x40)], 0x400000, 0, [
    ⟨31, 0, .seal, .engineer, .any, .kept, true⟩]⟩,
  ⟨"MTR_Ff_CREEP", [0x50100c], [(12, 0x40)], 0x1, 0, [
    ⟨31, 0, .seal, .engineer, .clamp 0 100, .kept, true⟩]⟩,
  ⟨"MTR_Ff_P", [0x501010], [(12, 0x40)], 0x0, 0, [
    ⟨31, 0, .ro, .operate, .any, .kept, false⟩]⟩,
  ⟨"MTR_Ff_Q", [0x501014], [(12, 0x40)], 0x0, 0, [
    ⟨31, 0, .ro, .operate, .any, .kept, false⟩]⟩,
  ⟨"MTR_Ff_P1", [0x501018], [(12, 0x40)], 0x0, 0, [
    ⟨31, 0, .ro, .operate, .any, .kept, false⟩]⟩]

/-- Register rows of chapter 12, part 1. -/
def regRows12_1 : List RegRow := [
  ⟨"MTR_Ff_QTIME", [0x50101c], [(12, 0x40)], 0x0, 0, [
    ⟨31, 0, .ro, .operate, .any, .kept, false⟩]⟩,
  ⟨"MTR_Mr_CFG", [0x502000], [(16, 0x100)], 0x0, 0, [
    ⟨31, 31, .img, .operate, .any, .kept, true⟩,
    ⟨27, 24, .img, .operate, .any, .kept, true⟩,
    ⟨23, 20, .img, .operate, .range 0 3, .kept, true⟩,
    ⟨19, 18, .img, .operate, .range 0 2, .kept, true⟩,
    ⟨17, 16, .img, .operate, .any, .kept, true⟩]⟩,
  ⟨"MTR_Mr_STAT", [0x502004], [(16, 0x100)], 0x0, 0, [
    ⟨31, 30, .ro, .operate, .any, .kept, false⟩,
    ⟨27, 24, .ro, .operate, .any, .kept, false⟩,
    ⟨23, 23, .ro, .operate, .any, .kept, false⟩,
    ⟨22, 22, .ro, .operate, .any, .kept, false⟩,
    ⟨21, 21, .ro, .operate, .any, .kept, false⟩]⟩,
  ⟨"MTR_Mr_IN_0", [0x502008], [(16, 0x100)], 0x0, 0, [
    ⟨31, 30, .img, .operate, .any, .kept, true⟩,
    ⟨15, 0, .img, .operate, .any, .kept, true⟩]⟩,
  ⟨"MTR_Mr_IN_1", [0x50200c], [(16, 0x100)], 0x0, 0, [
    ⟨31, 30, .img, .operate, .any, .kept, true⟩,
    ⟨15, 0, .img, .operate, .any, .kept, true⟩]⟩,
  ⟨"MTR_Mr_IN_2", [0x502010], [(16, 0x100)], 0x0, 0, [
    ⟨31, 30, .img, .operate, .any, .kept, true⟩,
    ⟨15, 0, .img, .operate, .any, .kept, true⟩]⟩,
  ⟨"MTR_Mr_RATE", [0x502014], [(16, 0x100)], 0x0, 0, [
    ⟨31, 0, .ro, .operate, .any, .kept, false⟩]⟩,
  ⟨"MTR_Mr_RHO", [0x502018], [(16, 0x100)], 0x0, 0, [
    ⟨31, 0, .ro, .operate, .any, .kept, false⟩]⟩,
  ⟨"MTR_Mr_H", [0x50201c], [(16, 0x100)], 0x0, 0, [
    ⟨31, 0, .ro, .operate, .any, .kept, false⟩]⟩,
  ⟨"MTR_Mr_ALARMS", [0x502020], [(16, 0x100)], 0x0, 0, [
    ⟨31, 0, .ro, .operate, .any, .kept, false⟩]⟩,
  ⟨"MTR_Mr_PAR_i", [0x502040], [(16, 0x100), (20, 0x4)], 0x0, 0, [
    ⟨31, 0, .seal, .engineer, .any, .kept, true⟩]⟩,
  ⟨"MTR_TOT_n_0", [0x504000], [(160, 0x10)], 0x0, 0, [
    ⟨31, 0, .rs, .operate, .any, .kept, true⟩]⟩,
  ⟨"MTR_TOT_n_1", [0x504004], [(160, 0x10)], 0x0, 0, [
    ⟨31, 0, .rs, .operate, .any, .kept, true⟩]⟩,
  ⟨"MTR_TOT_n_2", [0x504008], [(160, 0x10)], 0x0, 0, [
    ⟨31, 0, .rs, .operate, .any, .kept, true⟩]⟩,
  ⟨"MTR_TOT_n_3", [0x50400c], [(160, 0x10)], 0x0, 0, [
    ⟨31, 0, .rs, .operate, .any, .kept, true⟩]⟩]

/-- Register rows of chapter 13, part 0. -/
def regRows13_0 : List RegRow := [
  ⟨"BLK_BASE", [0x600020], [], 0x0, 0, [
    ⟨2, 0, .img, .operate, .any, .kept, true⟩]⟩,
  ⟨"BLK_CMD", [0x600024], [], 0x0, 0, [
    ⟨10, 8, .wo, .engineer, .any, .value 0, false⟩,
    ⟨3, 0, .wo, .engineer, .any, .value 0, false⟩]⟩,
  ⟨"BLK_ERR", [0x600028], [], 0x0, 0, [
    ⟨31, 24, .ro, .operate, .any, .kept, false⟩,
    ⟨18, 16, .ro, .operate, .any, .kept, false⟩,
    ⟨9, 8, .ro, .operate, .any, .kept, false⟩]⟩,
  ⟨"BLK_SRC_ADDR", [0x60002c], [], 0x0, 0, [
    ⟨31, 4, .rw, .operate, .any, .kept, false⟩]⟩,
  ⟨"BLK_SRC_LEN", [0x600030], [], 0x0, 0, [
    ⟨31, 0, .rw, .operate, .any, .kept, false⟩]⟩,
  ⟨"BLK_PSe_0", [0x600040], [(8, 0x8)], 0x0, 0, [
    ⟨31, 0, .rs, .operate, .any, .kept, true⟩]⟩,
  ⟨"BLK_PSe_1", [0x600044], [(8, 0x8)], 0x0, 0, [
    ⟨31, 0, .rs, .operate, .any, .kept, true⟩]⟩,
  ⟨"BLK_Cc_TASK", [0x601000], [(4, 0x1000)], 0x0, 0, [
    ⟨24, 16, .img, .operate, .range 1 256, .kept, true⟩,
    ⟨7, 0, .img, .operate, .any, .kept, true⟩]⟩,
  ⟨"BLK_Cc_LIM", [0x601004], [(4, 0x1000)], 0xc80004, 0, [
    ⟨31, 16, .rw, .engineer, .clamp 16 4000, .kept, true⟩,
    ⟨4, 0, .rw, .engineer, .clamp 2 16, .kept, true⟩]⟩,
  ⟨"BLK_Cc_CMD", [0x601008], [(4, 0x1000)], 0x0, 0, [
    ⟨10, 8, .wo, .operate, .any, .value 0, false⟩,
    ⟨3, 0, .wo, .operate, .any, .value 0, false⟩]⟩,
  ⟨"BLK_Cc_STAT", [0x60100c], [(4, 0x1000)], 0x0, 0, [
    ⟨31, 29, .ro, .operate, .any, .kept, true⟩,
    ⟨28, 27, .ro, .operate, .any, .kept, false⟩,
    ⟨26, 26, .ro, .operate, .any, .kept, true⟩,
    ⟨25, 25, .ro, .operate, .any, .kept, false⟩,
    ⟨24, 24, .ro, .operate, .any, .kept, false⟩]⟩,
  ⟨"BLK_Cc_BOOT", [0x601010], [(4, 0x1000)], 0x0, 0, [
    ⟨31, 31, .rw, .engineer, .any, .kept, false⟩,
    ⟨2, 0, .rw, .engineer, .any, .kept, false⟩]⟩,
  ⟨"BLK_Cc_CYCLE", [0x601014], [(4, 0x1000)], 0x0, 0, [
    ⟨31, 0, .ro, .operate, .any, .kept, false⟩]⟩,
  ⟨"BLK_Cc_EXEC_LAST", [0x601018], [(4, 0x1000)], 0x0, 0, [
    ⟨31, 0, .ro, .operate, .any, .kept, false⟩]⟩,
  ⟨"BLK_Cc_EXEC_MAX", [0x60101c], [(4, 0x1000)], 0x0, 0, [
    ⟨31, 0, .w1c, .operate, .any, .kept, false⟩]⟩,
  ⟨"BLK_Cc_OVR", [0x601020], [(4, 0x1000)], 0x0, 0, [
    ⟨31, 16, .w1c, .operate, .any, .kept, false⟩,
    ⟨15, 0, .w1c, .operate, .any, .kept, false⟩]⟩,
  ⟨"BLK_Cc_OUTD", [0x601024], [(4, 0x1000)], 0x0, 0, [
    ⟨31, 0, .w1c, .operate, .any, .kept, false⟩]⟩,
  ⟨"BLK_Cc_INST", [0x601028], [(4, 0x1000)], 0x0, 0, [
    ⟨27, 16, .ro, .operate, .any, .kept, true⟩,
    ⟨8, 0, .ro, .operate, .any, .kept, true⟩]⟩,
  ⟨"BLK_Cc_STAMP_A_0", [0x601030], [(4, 0x1000)], 0x0, 0, [
    ⟨31, 0, .rs, .operate, .any, .kept, true⟩]⟩,
  ⟨"BLK_Cc_STAMP_S_0", [0x601038], [(4, 0x1000)], 0x0, 0, [
    ⟨31, 0, .rs, .operate, .any, .kept, true⟩]⟩,
  ⟨"BLK_Cc_STAMP_A_1", [0x601034], [(4, 0x1000)], 0x0, 0, [
    ⟨31, 0, .rs, .operate, .any, .kept, true⟩]⟩,
  ⟨"BLK_Cc_STAMP_S_1", [0x60103c], [(4, 0x1000)], 0x0, 0, [
    ⟨31, 0, .rs, .operate, .any, .kept, true⟩]⟩,
  ⟨"BLK_Cc_VP_CTL", [0x601040], [(4, 0x1000)], 0x0, 0, [
    ⟨8, 8, .rw, .operate, .any, .value 0, false⟩,
    ⟨6, 0, .rw, .operate, .any, .value 0, false⟩]⟩,
  ⟨"BLK_Cc_VP_CYC", [0x601044], [(4, 0x1000)], 0x0, 0, [
    ⟨31, 0, .rw, .operate, .any, .value 0, false⟩]⟩]

/-- Register rows of chapter 13, part 1. -/
def regRows13_1 : List RegRow := [
  ⟨"BLK_Cc_VP_STAT", [0x601048], [(4, 0x1000)], 0xff00, 0, [
    ⟨31, 24, .ro, .operate, .any, .value 0, false⟩,
    ⟨16, 16, .w1c, .operate, .any, .value 0, false⟩,
    ⟨15, 8, .ro, .operate, .any, .value 255, false⟩,
    ⟨5, 0, .ro, .operate, .any, .value 0, false⟩]⟩,
  ⟨"BLK_Cc_VP_IDX_i", [0x601100], [(4, 0x1000), (64, 0x4)], 0x0, 0, [
    ⟨11, 0, .rw, .operate, .any, .value 0, false⟩]⟩,
  ⟨"BLK_Cc_VP_VAL_i", [0x601200], [(4, 0x1000), (64, 0x4)], 0x0, 0, [
    ⟨31, 0, .rw, .operate, .any, .value 0, false⟩]⟩,
  ⟨"BLK_Cc_XR_0", [0x601050], [(4, 0x1000)], 0x0, 0, [
    ⟨27, 16, .ro, .operate, .any, .kept, false⟩,
    ⟨11, 0, .ro, .operate, .any, .kept, false⟩]⟩,
  ⟨"BLK_Cc_XR_1", [0x601054], [(4, 0x1000)], 0x0, 0, [
    ⟨27, 16, .ro, .operate, .any, .kept, false⟩,
    ⟨11, 0, .ro, .operate, .any, .kept, false⟩]⟩,
  ⟨"BLK_Cc_XSTAT", [0x601058], [(4, 0x1000)], 0x0, 0, [
    ⟨31, 24, .ro, .operate, .any, .kept, false⟩]⟩,
  ⟨"BLK_Cc_XMAP_w", [0x601300], [(4, 0x1000), (64, 0x4)], 0x0, 0, [
    ⟨31, 0, .ro, .operate, .any, .kept, false⟩]⟩]

/-- Register rows of chapter 14, part 0. -/
def regRows14_0 : List RegRow := [
  ⟨"YUL_CTL", [0x700020], [], 0x88b50320, 0, [
    ⟨31, 16, .img, .operate, .any, .kept, true⟩,
    ⟨11, 8, .rw, .operate, .clamp 1 15, .kept, true⟩,
    ⟨7, 4, .rw, .operate, .clamp 1 15, .kept, true⟩,
    ⟨1, 0, .img, .operate, .any, .kept, true⟩]⟩,
  ⟨"YUL_STAT", [0x700024], [], 0x0, 0, [
    ⟨31, 29, .ro, .operate, .any, .kept, false⟩,
    ⟨23, 16, .ro, .operate, .any, .kept, false⟩,
    ⟨15, 8, .ro, .operate, .any, .kept, false⟩,
    ⟨7, 0, .ro, .operate, .any, .kept, false⟩]⟩,
  ⟨"YUL_CYCLE", [0x700028], [], 0x0, 0, [
    ⟨31, 0, .ro, .operate, .any, .kept, false⟩]⟩,
  ⟨"YUL_LEAD", [0x70002c], [], 0x0, 0, [
    ⟨31, 0, .img, .operate, .any, .kept, true⟩]⟩,
  ⟨"YUL_CABLE", [0x700030], [], 0x0, 0, [
    ⟨31, 0, .img, .operate, .any, .kept, true⟩]⟩,
  ⟨"YUL_RT", [0x700034], [], 0x0, 0, [
    ⟨31, 16, .w1c, .operate, .any, .kept, false⟩,
    ⟨15, 0, .ro, .operate, .any, .kept, false⟩]⟩,
  ⟨"YUL_CNT", [0x700038], [], 0x0, 0, [
    ⟨31, 0, .w1c, .operate, .any, .kept, false⟩]⟩,
  ⟨"YUL_CMD", [0x70003c], [], 0x0, 0, [
    ⟨0, 0, .wo, .engineer, .any, .value 0, false⟩]⟩,
  ⟨"YUL_STA_STAT", [0x700040], [], 0x0, 0, [
    ⟨31, 31, .ro, .operate, .any, .kept, false⟩,
    ⟨30, 30, .ro, .operate, .any, .kept, false⟩,
    ⟨5, 0, .ro, .operate, .any, .kept, false⟩]⟩,
  ⟨"YUL_STA_WDT", [0x700044], [], 0x0, 0, [
    ⟨31, 0, .img, .operate, .any, .kept, true⟩]⟩,
  ⟨"YUL_STs_CFG", [0x700100], [(64, 0x20)], 0x0, 0, [
    ⟨31, 31, .img, .operate, .any, .kept, true⟩,
    ⟨28, 16, .img, .operate, .any, .kept, true⟩,
    ⟨12, 0, .img, .operate, .any, .kept, true⟩]⟩,
  ⟨"YUL_STs_CTL", [0x700104], [(64, 0x20)], 0x0, 0, [
    ⟨0, 0, .rw, .engineer, .any, .kept, false⟩]⟩,
  ⟨"YUL_STs_STAT", [0x700108], [(64, 0x20)], 0x0, 0, [
    ⟨31, 29, .ro, .operate, .any, .kept, false⟩,
    ⟨28, 28, .ro, .operate, .any, .kept, false⟩,
    ⟨27, 27, .ro, .operate, .any, .kept, false⟩,
    ⟨26, 26, .ro, .operate, .any, .kept, false⟩,
    ⟨25, 25, .w1c, .operate, .any, .kept, false⟩,
    ⟨24, 24, .ro, .operate, .any, .kept, false⟩,
    ⟨23, 16, .ro, .operate, .any, .kept, false⟩,
    ⟨15, 0, .ro, .operate, .any, .kept, false⟩]⟩,
  ⟨"YUL_STs_STAMP", [0x70010c], [(64, 0x20)], 0x0, 0, [
    ⟨31, 0, .img, .operate, .any, .kept, true⟩]⟩,
  ⟨"YUL_STs_RXSTAMP", [0x700110], [(64, 0x20)], 0x0, 0, [
    ⟨31, 0, .ro, .operate, .any, .kept, false⟩]⟩,
  ⟨"YUL_STs_LINK", [0x700114], [(64, 0x20)], 0x0, 0, [
    ⟨31, 0, .img, .operate, .any, .kept, true⟩]⟩,
  ⟨"YUL_MAP_e_0", [0x701000], [(4096, 0x8)], 0x0, 0, [
    ⟨31, 31, .img, .operate, .any, .kept, true⟩,
    ⟨30, 30, .img, .operate, .any, .kept, true⟩,
    ⟨27, 24, .img, .operate, .any, .kept, true⟩,
    ⟨21, 16, .img, .operate, .any, .kept, true⟩,
    ⟨15, 13, .img, .operate, .any, .kept, true⟩,
    ⟨12, 0, .img, .operate, .any, .kept, true⟩]⟩,
  ⟨"YUL_MAP_e_1", [0x701004], [(4096, 0x8)], 0x0, 0, [
    ⟨31, 28, .img, .operate, .range 0 6, .kept, true⟩,
    ⟨23, 0, .img, .operate, .any, .kept, true⟩]⟩,
  ⟨"YUL_PI_e", [0x710000], [(4096, 0x4)], 0x0, 0, [
    ⟨31, 0, .ro, .operate, .any, .kept, false⟩]⟩]

/-- Register rows of chapter 15, part 0. -/
def regRows15_0 : List RegRow := [
  ⟨"ETH_UTC", [0x800020], [], 0x0, 0, [
    ⟨31, 31, .rw, .operate, .any, .kept, false⟩,
    ⟨15, 0, .rw, .operate, .any, .kept, false⟩]⟩,
  ⟨"ETH_PRP_CNT", [0x800024], [], 0x0, 0, [
    ⟨31, 16, .w1c, .operate, .any, .kept, false⟩,
    ⟨15, 0, .w1c, .operate, .any, .kept, false⟩]⟩,
  ⟨"ETH_HOST_STAT", [0x800028], [], 0x0, 0, [
    ⟨31, 0, .w1c, .operate, .any, .kept, false⟩]⟩,
  ⟨"ETH_MCAST_i_0", [0x800040], [(8, 0x8)], 0x0, 0, [
    ⟨31, 0, .img, .operate, .any, .kept, true⟩]⟩,
  ⟨"ETH_MCAST_i_1", [0x800044], [(8, 0x8)], 0x0, 0, [
    ⟨31, 31, .img, .operate, .any, .kept, true⟩,
    ⟨15, 0, .img, .operate, .any, .kept, true⟩]⟩,
  ⟨"ETH_Pp_CFG", [0x801000], [(4, 0x100)], 0x0, 9, [
    ⟨7, 7, .img, .operate, .any, .kept, true⟩,
    ⟨6, 6, .img, .operate, .any, .kept, true⟩,
    ⟨2, 0, .img, .operate, .range 0 4, .kept, true⟩]⟩,
  ⟨"ETH_Pp_STAT", [0x801004], [(4, 0x100)], 0x0, 0, [
    ⟨1, 1, .ro, .operate, .any, .value 0, false⟩,
    ⟨0, 0, .ro, .operate, .any, .value 0, false⟩]⟩,
  ⟨"ETH_Pp_MAC_0", [0x801008], [(4, 0x100)], 0x0, 10, [
    ⟨31, 0, .img, .operate, .any, .kept, true⟩]⟩,
  ⟨"ETH_Pp_MAC_1", [0x80100c], [(4, 0x100)], 0x0, 11, [
    ⟨31, 0, .img, .operate, .any, .kept, true⟩]⟩,
  ⟨"ETH_Pp_CNT", [0x801010], [(4, 0x100)], 0x0, 0, [
    ⟨31, 16, .w1c, .operate, .any, .kept, false⟩,
    ⟨15, 0, .w1c, .operate, .any, .kept, false⟩]⟩,
  ⟨"ETH_GPk_CFG", [0x802000], [(32, 0x20)], 0x0, 0, [
    ⟨31, 31, .img, .operate, .any, .kept, true⟩,
    ⟨30, 30, .img, .operate, .any, .kept, true⟩,
    ⟨29, 29, .img, .operate, .any, .kept, true⟩,
    ⟨13, 8, .img, .operate, .range 1 32, .kept, true⟩,
    ⟨3, 0, .img, .operate, .any, .kept, true⟩]⟩,
  ⟨"ETH_GPk_INT", [0x802004], [(32, 0x20)], 0x0, 0, [
    ⟨31, 16, .img, .operate, .range 100 60000, .kept, true⟩,
    ⟨15, 0, .img, .operate, .range 1 100, .kept, true⟩]⟩,
  ⟨"ETH_GPk_ST", [0x802008], [(32, 0x20)], 0x0, 0, [
    ⟨31, 0, .ro, .operate, .any, .kept, true⟩]⟩,
  ⟨"ETH_GPk_SQ", [0x80200c], [(32, 0x20)], 0x0, 0, [
    ⟨31, 0, .ro, .operate, .any, .kept, true⟩]⟩,
  ⟨"ETH_GPk_VAL", [0x802010], [(32, 0x20)], 0x0, 0, [
    ⟨31, 0, .ro, .operate, .any, .kept, true⟩]⟩,
  ⟨"ETH_GSk_CFG", [0x803000], [(128, 0x20)], 0x0, 0, [
    ⟨31, 31, .img, .operate, .any, .kept, true⟩,
    ⟨30, 30, .img, .operate, .any, .kept, true⟩,
    ⟨29, 29, .img, .operate, .any, .kept, true⟩,
    ⟨13, 0, .img, .operate, .any, .kept, true⟩]⟩,
  ⟨"ETH_GSk_CONFREV", [0x803004], [(128, 0x20)], 0x0, 0, [
    ⟨31, 0, .img, .operate, .any, .kept, true⟩]⟩,
  ⟨"ETH_GSk_STAT", [0x803008], [(128, 0x20)], 0x80000000, 0, [
    ⟨31, 31, .ro, .operate, .any, .kept, false⟩,
    ⟨30, 30, .w1c, .operate, .any, .kept, false⟩,
    ⟨29, 0, .ro, .operate, .any, .kept, false⟩]⟩,
  ⟨"ETH_GSk_VAL", [0x80300c], [(128, 0x20)], 0x0, 0, [
    ⟨31, 0, .ro, .operate, .any, .kept, false⟩]⟩,
  ⟨"ETH_SVPk_CFG", [0x804000], [(8, 0x20)], 0x0, 0, [
    ⟨31, 31, .img, .operate, .any, .kept, true⟩,
    ⟨30, 30, .img, .operate, .any, .kept, true⟩,
    ⟨3, 0, .img, .operate, .any, .kept, true⟩]⟩,
  ⟨"ETH_SVPk_SRC_0", [0x804004], [(8, 0x20)], 0x0, 0, [
    ⟨31, 0, .img, .operate, .any, .kept, true⟩]⟩,
  ⟨"ETH_SVPk_SRC_1", [0x804008], [(8, 0x20)], 0x0, 0, [
    ⟨31, 0, .img, .operate, .any, .kept, true⟩]⟩,
  ⟨"ETH_SVSk_CFG", [0x804200], [(8, 0x20)], 0x0, 0, [
    ⟨31, 31, .img, .operate, .any, .kept, true⟩,
    ⟨30, 30, .img, .operate, .any, .kept, true⟩,
    ⟨29, 29, .img, .operate, .any, .kept, true⟩,
    ⟨13, 0, .img, .operate, .any, .kept, true⟩]⟩,
  ⟨"ETH_SVSk_DLY", [0x804204], [(8, 0x20)], 0x0, 0, [
    ⟨31, 0, .img, .operate, .any, .kept, true⟩]⟩]

/-- Register rows of chapter 15, part 1. -/
def regRows15_1 : List RegRow := [
  ⟨"ETH_SVSk_STAT", [0x804208], [(8, 0x20)], 0x0, 0, [
    ⟨31, 16, .ro, .operate, .any, .kept, false⟩,
    ⟨15, 0, .ro, .operate, .any, .kept, false⟩]⟩]

/-- Register rows of chapter 16, part 0. -/
def regRows16_0 : List RegRow := [
  ⟨"EVT_STAT", [0x900020], [], 0x0, 0, [
    ⟨31, 31, .w1c, .operate, .any, .kept, false⟩,
    ⟨30, 30, .ro, .operate, .any, .kept, false⟩,
    ⟨29, 29, .w1c, .operate, .any, .kept, false⟩,
    ⟨15, 0, .ro, .operate, .any, .kept, false⟩]⟩,
  ⟨"EVT_INTAKE_LOST", [0x900024], [], 0x0, 0, [
    ⟨31, 0, .w1c, .operate, .any, .kept, false⟩]⟩,
  ⟨"EVT_Pp_CFG", [0x900040], [(4, 0x10)], 0x7000000, 5, [
    ⟨27, 24, .img, .operate, .any, .kept, true⟩,
    ⟨15, 0, .img, .operate, .budget, .kept, true⟩]⟩,
  ⟨"EVT_Pp_WIN", [0x900044], [(4, 0x10)], 0x0, 0, [
    ⟨31, 31, .ro, .operate, .any, .value 0, false⟩,
    ⟨25, 24, .ro, .operate, .any, .value 0, false⟩,
    ⟨15, 0, .ro, .operate, .any, .value 0, false⟩]⟩,
  ⟨"EVT_Pp_GROUT", [0x900048], [(4, 0x10)], 0x0, 0, [
    ⟨31, 0, .w1c, .operate, .any, .kept, false⟩]⟩,
  ⟨"EVT_Pp_LOSS", [0x90004c], [(4, 0x10)], 0x0, 0, [
    ⟨31, 16, .w1c, .operate, .any, .kept, false⟩,
    ⟨15, 0, .w1c, .operate, .any, .kept, false⟩]⟩,
  ⟨"EVT_HQ_STAT", [0x900080], [], 0x0, 0, [
    ⟨26, 16, .ro, .operate, .any, .kept, false⟩,
    ⟨10, 0, .ro, .operate, .any, .kept, false⟩]⟩,
  ⟨"EVT_HQ_THR", [0x900084], [], 0x1, 0, [
    ⟨10, 0, .rw, .operate, .clamp 1 1024, .kept, true⟩]⟩,
  ⟨"EVT_HQ_w", [0x9000a0], [(8, 0x4)], 0x0, 0, [
    ⟨31, 0, .rs, .operate, .any, .kept, false⟩]⟩,
  ⟨"EVT_SOE_STAT", [0x9000c0], [], 0x0, 0, [
    ⟨31, 31, .ro, .operate, .any, .kept, false⟩,
    ⟨15, 0, .ro, .operate, .any, .kept, false⟩]⟩,
  ⟨"EVT_SOE0_STAT", [0x9000c4], [], 0x0, 0, [
    ⟨28, 16, .ro, .operate, .any, .kept, false⟩,
    ⟨11, 0, .ro, .operate, .any, .kept, false⟩]⟩,
  ⟨"EVT_SOE_CMD", [0x9000c8], [], 0x0, 0, [
    ⟨8, 8, .wo, .operate, .any, .value 0, false⟩,
    ⟨3, 0, .wo, .operate, .any, .value 0, false⟩]⟩,
  ⟨"EVT_SOE_ARG", [0x9000cc], [], 0x0, 0, [
    ⟨31, 16, .rw, .read, .any, .kept, false⟩,
    ⟨15, 0, .rw, .read, .any, .kept, false⟩]⟩,
  ⟨"EVT_DUMP_ADDR", [0x9000d0], [], 0x0, 0, [
    ⟨31, 5, .rw, .operate, .any, .kept, false⟩]⟩,
  ⟨"EVT_SOE_RD_w", [0x9000e0], [(8, 0x4)], 0x0, 0, [
    ⟨31, 0, .rs, .operate, .any, .kept, false⟩]⟩,
  ⟨"EVT_TRC_BASE", [0x900100], [], 0x60000000, 0, [
    ⟨31, 0, .ro, .operate, .any, .kept, false⟩]⟩,
  ⟨"EVT_TRC_WRPTR", [0x900104], [], 0x0, 0, [
    ⟨31, 0, .ro, .operate, .any, .kept, false⟩]⟩,
  ⟨"EVT_TRC_WRAPS", [0x900108], [], 0x0, 0, [
    ⟨31, 0, .ro, .operate, .any, .kept, false⟩]⟩]

/-- Register rows of chapter 17, part 0. -/
def regRows17_0 : List RegRow := [
  ⟨"DIO_IN", [0xa00020], [], 0x0, 0, [
    ⟨31, 0, .ro, .operate, .any, .kept, false⟩]⟩,
  ⟨"DIO_RAW", [0xa00024], [], 0x0, 0, [
    ⟨31, 0, .ro, .operate, .any, .kept, false⟩]⟩,
  ⟨"DIO_CMDST", [0xa00028], [], 0x0, 0, [
    ⟨31, 0, .ro, .operate, .any, .kept, false⟩]⟩,
  ⟨"DIO_LATCH", [0xa0002c], [], 0x0, 0, [
    ⟨31, 0, .ro, .operate, .any, .kept, false⟩]⟩,
  ⟨"DIO_DRV", [0xa00030], [], 0x0, 0, [
    ⟨31, 0, .ro, .operate, .any, .kept, false⟩]⟩,
  ⟨"DIO_Gg_SUP", [0xa00100], [(2, 0x20)], 0x0, 0, [
    ⟨31, 30, .ro, .operate, .any, .kept, false⟩,
    ⟨29, 29, .ro, .operate, .any, .kept, false⟩,
    ⟨28, 28, .w1c, .operate, .any, .kept, false⟩,
    ⟨27, 27, .w1c, .operate, .any, .kept, false⟩,
    ⟨26, 26, .ro, .operate, .any, .kept, false⟩,
    ⟨15, 0, .ro, .operate, .any, .kept, false⟩]⟩,
  ⟨"DIO_Gg_WDT", [0xa00104], [(2, 0x20)], 0x0, 0, [
    ⟨31, 31, .img, .operate, .any, .kept, true⟩,
    ⟨23, 0, .img, .operate, .range 100 10000000, .kept, true⟩]⟩,
  ⟨"DIO_Gg_WST", [0xa00108], [(2, 0x20)], 0x0, 0, [
    ⟨31, 31, .ro, .operate, .any, .kept, false⟩,
    ⟨30, 30, .ro, .operate, .any, .kept, false⟩,
    ⟨29, 29, .w1c, .operate, .any, .kept, false⟩,
    ⟨15, 0, .ro, .operate, .any, .kept, false⟩]⟩,
  ⟨"DIO_Gg_CMD", [0xa0010c], [(2, 0x20)], 0x0, 0, [
    ⟨1, 1, .wo, .operate, .any, .value 0, false⟩,
    ⟨0, 0, .wo, .operate, .any, .value 0, false⟩]⟩,
  ⟨"DIO_CHn_CFG", [0xa01000], [(32, 0x20)], 0x1, 0, [
    ⟨31, 31, .img, .operate, .any, .kept, true⟩,
    ⟨30, 30, .img, .operate, .any, .kept, true⟩,
    ⟨29, 28, .img, .operate, .range 0 2, .kept, true⟩,
    ⟨27, 27, .img, .operate, .any, .kept, true⟩,
    ⟨26, 26, .img, .operate, .any, .kept, true⟩,
    ⟨17, 16, .img, .operate, .any, .kept, true⟩,
    ⟨1, 0, .img, .operate, .any, .kept, true⟩]⟩,
  ⟨"DIO_CHn_FLT", [0xa01004], [(32, 0x20)], 0x19001001, 0, [
    ⟨31, 22, .img, .operate, .range 1 1000, .kept, true⟩,
    ⟨21, 12, .img, .operate, .range 1 1000, .kept, true⟩,
    ⟨11, 0, .img, .operate, .range 1 4095, .kept, true⟩]⟩,
  ⟨"DIO_CHn_STAT", [0xa01008], [(32, 0x20)], 0x0, 0, [
    ⟨31, 31, .w1c, .operate, .any, .kept, false⟩,
    ⟨30, 30, .ro, .operate, .any, .kept, false⟩,
    ⟨29, 29, .ro, .operate, .any, .kept, false⟩,
    ⟨28, 28, .ro, .operate, .any, .kept, false⟩,
    ⟨27, 27, .w1c, .operate, .any, .kept, false⟩,
    ⟨26, 26, .ro, .operate, .any, .kept, false⟩,
    ⟨25, 25, .ro, .operate, .any, .kept, false⟩,
    ⟨24, 24, .ro, .operate, .any, .kept, false⟩,
    ⟨11, 0, .ro, .operate, .any, .kept, false⟩]⟩,
  ⟨"DIO_CHn_CNT", [0xa0100c], [(32, 0x20)], 0x0, 0, [
    ⟨31, 0, .ro, .operate, .any, .kept, false⟩]⟩,
  ⟨"DIO_CHn_FREQ", [0xa01010], [(32, 0x20)], 0x0, 0, [
    ⟨31, 0, .ro, .operate, .any, .kept, false⟩]⟩]

/-- Register rows of chapter 18, part 0. -/
def regRows18_0 : List RegRow := [
  ⟨"AO_STAT", [0xb00020], [], 0x0, 0, [
    ⟨31, 31, .ro, .operate, .any, .kept, false⟩,
    ⟨15, 8, .ro, .operate, .any, .kept, false⟩,
    ⟨7, 0, .ro, .operate, .any, .kept, false⟩]⟩,
  ⟨"AO_WDT", [0xb00024], [], 0x0, 0, [
    ⟨31, 31, .img, .operate, .any, .kept, true⟩,
    ⟨23, 0, .img, .operate, .range 100 10000000, .kept, true⟩]⟩,
  ⟨"AO_WST", [0xb00028], [], 0x0, 0, [
    ⟨31, 31, .ro, .operate, .any, .kept, false⟩,
    ⟨30, 30, .ro, .operate, .any, .kept, false⟩,
    ⟨29, 29, .w1c, .operate, .any, .kept, false⟩,
    ⟨15, 0, .ro, .operate, .any, .kept, false⟩]⟩,
  ⟨"AO_CMD", [0xb0002c], [], 0x0, 0, [
    ⟨1, 1, .wo, .operate, .any, .value 0, false⟩,
    ⟨0, 0, .wo, .operate, .any, .value 0, false⟩]⟩,
  ⟨"AO_CHn_CFG", [0xb01000], [(8, 0x40)], 0x30000001, 0, [
    ⟨31, 31, .img, .operate, .any, .kept, true⟩,
    ⟨29, 28, .img, .operate, .any, .kept, true⟩,
    ⟨1, 0, .img, .operate, .range 0 2, .kept, true⟩]⟩,
  ⟨"AO_CHn_INIT", [0xb01004], [(8, 0x40)], 0x0, 0, [
    ⟨15, 0, .img, .operate, .any, .kept, true⟩]⟩,
  ⟨"AO_CHn_CODE", [0xb01008], [(8, 0x40)], 0x0, 0, [
    ⟨15, 0, .ro, .operate, .any, .kept, true⟩]⟩,
  ⟨"AO_CHn_OUT", [0xb0100c], [(8, 0x40)], 0x0, 0, [
    ⟨15, 0, .ro, .operate, .any, .kept, false⟩]⟩,
  ⟨"AO_CHn_STAT", [0xb01010], [(8, 0x40)], 0x0, 0, [
    ⟨31, 31, .ro, .operate, .any, .kept, false⟩,
    ⟨30, 30, .ro, .operate, .any, .kept, false⟩,
    ⟨29, 29, .ro, .operate, .any, .kept, false⟩,
    ⟨28, 28, .w1c, .operate, .any, .kept, false⟩,
    ⟨27, 27, .ro, .operate, .any, .kept, false⟩]⟩,
  ⟨"AO_CHn_RB", [0xb01014], [(8, 0x40)], 0x0, 0, [
    ⟨31, 16, .ro, .operate, .any, .kept, false⟩,
    ⟨15, 0, .ro, .operate, .any, .kept, false⟩]⟩,
  ⟨"AO_CHn_TEMP", [0xb01018], [(8, 0x40)], 0x0, 0, [
    ⟨15, 0, .ro, .operate, .any, .kept, false⟩]⟩,
  ⟨"AO_CHn_TRIM_G", [0xb0101c], [(8, 0x40)], 0x400000, 0, [
    ⟨31, 0, .seal, .engineer, .any, .kept, true⟩]⟩,
  ⟨"AO_CHn_TRIM_O", [0xb01020], [(8, 0x40)], 0x0, 0, [
    ⟨31, 0, .seal, .engineer, .any, .kept, true⟩]⟩,
  ⟨"AO_CHn_TCTL", [0xb01024], [(8, 0x40)], 0x0, 0, [
    ⟨31, 31, .rw, .engineer, .any, .kept, false⟩,
    ⟨30, 30, .wo, .operate, .any, .value 0, false⟩,
    ⟨15, 0, .rw, .operate, .any, .kept, false⟩]⟩,
  ⟨"AO_CHn_TMEAS_1", [0xb01028], [(8, 0x40)], 0x0, 0, [
    ⟨31, 0, .rw, .operate, .any, .kept, false⟩]⟩,
  ⟨"AO_CHn_TMEAS_2", [0xb0102c], [(8, 0x40)], 0x0, 0, [
    ⟨31, 0, .rw, .operate, .any, .kept, false⟩]⟩,
  ⟨"AO_CHn_TRAW", [0xb01030], [(8, 0x40)], 0x0, 0, [
    ⟨31, 16, .ro, .operate, .any, .kept, false⟩,
    ⟨15, 0, .ro, .operate, .any, .kept, false⟩]⟩]

/-- Register rows of chapter 19, part 0. -/
def regRows19_0 : List RegRow := [
  ⟨"PWR_STAT", [0x10020], [], 0x20000000, 0, [
    ⟨31, 30, .ro, .operate, .any, .kept, false⟩,
    ⟨29, 29, .ro, .operate, .any, .kept, false⟩,
    ⟨28, 28, .ro, .operate, .any, .kept, false⟩,
    ⟨27, 27, .ro, .operate, .any, .kept, false⟩,
    ⟨26, 26, .ro, .operate, .any, .kept, false⟩,
    ⟨25, 25, .ro, .operate, .any, .kept, false⟩,
    ⟨4, 0, .ro, .operate, .any, .kept, false⟩]⟩,
  ⟨"PWR_CMD", [0x10024], [], 0x0, 0, [
    ⟨2, 2, .wo, .engineer, .any, .value 0, false⟩,
    ⟨1, 1, .wo, .engineer, .any, .value 0, false⟩,
    ⟨0, 0, .wo, .engineer, .any, .value 0, false⟩]⟩,
  ⟨"PWR_GOV_CTL", [0x10028], [], 0x0, 0, [
    ⟨1, 0, .rw, .engineer, .ignore 0 2, .value 0, false⟩]⟩,
  ⟨"PWR_GOV_THR_F", [0x1002c], [], 0x3e80, 0, [
    ⟨31, 0, .rw, .engineer, .govThr, .kept, true⟩]⟩,
  ⟨"PWR_GOV_THR_L", [0x10030], [], 0x2710, 0, [
    ⟨31, 0, .rw, .engineer, .govThr, .kept, true⟩]⟩,
  ⟨"PWR_GOV_THR_S", [0x10034], [], 0xc8, 0, [
    ⟨31, 0, .rw, .engineer, .govThr, .kept, true⟩]⟩,
  ⟨"PWR_HOLD_CAP", [0x10038], [], 0x0, 0, [
    ⟨31, 0, .img, .operate, .range 0 100000, .kept, true⟩]⟩,
  ⟨"PWR_HOLD_VMIN", [0x1003c], [], 0x4e20, 0, [
    ⟨31, 0, .img, .operate, .range 18000 30000, .kept, true⟩]⟩,
  ⟨"PWR_HOLD_VSET", [0x10040], [], 0xbb80, 0, [
    ⟨31, 0, .img, .operate, .range 24000 48000, .kept, true⟩]⟩,
  ⟨"PWR_HOLD_V", [0x10044], [], 0x0, 0, [
    ⟨31, 0, .ro, .operate, .any, .kept, false⟩]⟩,
  ⟨"PWR_VIN_V", [0x1004c], [], 0x0, 0, [
    ⟨31, 0, .ro, .operate, .any, .kept, false⟩]⟩,
  ⟨"PWR_HOLD_E", [0x10048], [], 0x0, 0, [
    ⟨31, 0, .ro, .operate, .any, .kept, false⟩]⟩,
  ⟨"PWR_CHG", [0x10050], [], 0x96, 0, [
    ⟨31, 31, .img, .operate, .any, .kept, true⟩,
    ⟨15, 0, .img, .operate, .range 50 500, .kept, true⟩]⟩,
  ⟨"PWR_VBAT", [0x10054], [], 0x0, 0, [
    ⟨31, 31, .ro, .operate, .any, .kept, false⟩,
    ⟨15, 0, .ro, .operate, .any, .kept, false⟩]⟩,
  ⟨"PWR_STAG", [0x10058], [], 0x1, 0, [
    ⟨7, 0, .rw, .operate, .clamp 1 20, .kept, false⟩]⟩,
  ⟨"PWR_SHED_0", [0x1005c], [], 0x0, 0, [
    ⟨24, 0, .ro, .operate, .any, .kept, false⟩]⟩,
  ⟨"PWR_SHED_1", [0x10060], [], 0x0, 0, [
    ⟨3, 0, .ro, .operate, .any, .kept, false⟩]⟩,
  ⟨"PWR_BOOT", [0x10064], [], 0x0, 0, [
    ⟨31, 30, .ro, .operate, .any, .kept, true⟩,
    ⟨19, 0, .ro, .operate, .any, .kept, true⟩]⟩,
  ⟨"PWR_BOOT_T", [0x10068], [], 0x0, 0, [
    ⟨31, 0, .ro, .operate, .any, .kept, true⟩]⟩,
  ⟨"PWR_CNT", [0x1006c], [], 0x0, 0, [
    ⟨31, 16, .ro, .operate, .any, .kept, false⟩,
    ⟨15, 0, .ro, .operate, .any, .kept, false⟩]⟩,
  ⟨"PWR_RT_LAST_0", [0x10070], [], 0x0, 0, [
    ⟨31, 0, .ro, .operate, .any, .kept, false⟩]⟩,
  ⟨"PWR_RT_LAST_1", [0x10074], [], 0x0, 0, [
    ⟨31, 31, .ro, .operate, .any, .kept, false⟩,
    ⟨1, 0, .ro, .operate, .any, .kept, false⟩]⟩,
  ⟨"PWR_SLOT_u", [0x10100], [(25, 0x4)], 0x0, 0, [
    ⟨31, 31, .ro, .operate, .any, .kept, false⟩,
    ⟨30, 30, .ro, .operate, .any, .kept, true⟩,
    ⟨29, 16, .ro, .operate, .any, .kept, false⟩,
    ⟨15, 0, .ro, .operate, .any, .kept, false⟩]⟩]

/-- Register rows of chapter 20, part 0. -/
def regRows20_0 : List RegRow := [
  ⟨"WYT_CFG", [0xc00020], [], 0x41001f4, 0, [
    ⟨31, 31, .img, .operate, .any, .kept, true⟩,
    ⟨30, 30, .img, .operate, .any, .kept, true⟩,
    ⟨27, 24, .img, .operate, .range 1 15, .kept, true⟩,
    ⟨23, 16, .img, .operate, .range 4 255, .kept, true⟩,
    ⟨15, 0, .img, .operate, .range 50 10000, .kept, true⟩]⟩,
  ⟨"WYT_STAT", [0xc00024], [], 0x0, 0, [
    ⟨31, 29, .ro, .operate, .any, .kept, false⟩,
    ⟨28, 27, .ro, .operate, .any, .kept, false⟩,
    ⟨26, 26, .ro, .operate, .any, .kept, false⟩,
    ⟨25, 24, .ro, .operate, .any, .kept, false⟩,
    ⟨23, 22, .ro, .operate, .any, .kept, false⟩,
    ⟨21, 20, .ro, .operate, .any, .kept, false⟩,
    ⟨19, 19, .ro, .operate, .any, .kept, false⟩,
    ⟨17, 16, .ro, .operate, .any, .kept, false⟩,
    ⟨7, 0, .ro, .operate, .any, .kept, false⟩]⟩,
  ⟨"WYT_CMD", [0xc00028], [], 0x0, 0, [
    ⟨0, 0, .wo, .engineer, .any, .value 0, false⟩]⟩,
  ⟨"WYT_PSTAMP", [0xc0002c], [], 0x0, 0, [
    ⟨31, 0, .ro, .operate, .any, .kept, false⟩]⟩,
  ⟨"WYT_HB_CNT", [0xc00030], [], 0x0, 0, [
    ⟨31, 16, .w1c, .operate, .any, .kept, false⟩,
    ⟨15, 0, .w1c, .operate, .any, .kept, false⟩]⟩,
  ⟨"WYT_TRIP", [0xc00034], [], 0x14, 0, [
    ⟨31, 16, .ro, .operate, .any, .kept, false⟩,
    ⟨15, 0, .img, .operate, .range 1 1000, .kept, true⟩]⟩,
  ⟨"WYT_TOT_TOL", [0xc00038], [], 0x1f403e8, 0, [
    ⟨31, 16, .img, .operate, .any, .kept, true⟩,
    ⟨15, 0, .img, .operate, .any, .kept, true⟩]⟩,
  ⟨"WYT_TOT_STAT", [0xc0003c], [], 0x0, 0, [
    ⟨31, 16, .ro, .operate, .any, .kept, false⟩,
    ⟨15, 0, .w1c, .operate, .any, .kept, false⟩]⟩,
  ⟨"WYT_TOT_MAP_m", [0xc00040], [(5, 0x4)], 0x0, 0, [
    ⟨31, 0, .ro, .operate, .any, .kept, false⟩]⟩,
  ⟨"WYT_TKO_TW_0", [0xc00060], [], 0x0, 0, [
    ⟨31, 0, .rs, .operate, .any, .kept, false⟩]⟩,
  ⟨"WYT_TKO_TW_1", [0xc00064], [], 0x0, 0, [
    ⟨31, 0, .rs, .operate, .any, .kept, false⟩]⟩,
  ⟨"WYT_TKO_TW_2", [0xc00068], [], 0x0, 0, [
    ⟨31, 0, .rs, .operate, .any, .kept, false⟩]⟩,
  ⟨"ETH_W_STAT", [0x840020], [], 0x0, 0, [
    ⟨0, 0, .ro, .operate, .any, .value 0, false⟩]⟩,
  ⟨"ETH_W_MAC_0", [0x840024], [], 0x0, 0, [
    ⟨31, 0, .img, .operate, .any, .kept, true⟩]⟩,
  ⟨"ETH_W_MAC_1", [0x840028], [], 0x0, 0, [
    ⟨15, 0, .img, .operate, .any, .kept, true⟩]⟩,
  ⟨"ETH_W_CNT", [0x84002c], [], 0x0, 0, [
    ⟨31, 16, .w1c, .operate, .any, .kept, false⟩,
    ⟨15, 0, .w1c, .operate, .any, .kept, false⟩]⟩]

/-- Register rows of chapter 21, part 0. -/
def regRows21h_0 : List RegRow := [
  ⟨"UNIT_ID", (hdrBases.map (· + 0)), [], 0x9600000, 2, [
    ⟨31, 16, .ro, .operate, .any, .value 2400, false⟩,
    ⟨15, 8, .ro, .operate, .any, .kept, false⟩,
    ⟨7, 0, .ro, .operate, .any, .kept, false⟩]⟩,
  ⟨"UNIT_VER", (hdrBases.map (· + 4)), [], 0x0, 12, [
    ⟨31, 16, .ro, .operate, .any, .kept, false⟩,
    ⟨15, 0, .ro, .operate, .any, .kept, false⟩]⟩,
  ⟨"UNIT_CTL", (hdrBases.map (· + 8)), [], 0x0, 3, [
    ⟨0, 0, .rw, .engineer, .any, .kept, true⟩]⟩,
  ⟨"UNIT_STAT", (hdrBases.map (· + 12)), [], 0x0, 0, [
    ⟨5, 3, .ro, .operate, .any, .kept, false⟩,
    ⟨2, 2, .ro, .operate, .any, .kept, false⟩,
    ⟨1, 1, .ro, .operate, .any, .kept, false⟩,
    ⟨0, 0, .ro, .operate, .any, .kept, false⟩]⟩,
  ⟨"UNIT_IRQ", (hdrBases.map (· + 16)), [], 0x0, 0, [
    ⟨31, 0, .w1c, .operate, .any, .kept, false⟩]⟩,
  ⟨"UNIT_IRQ_EN", (hdrBases.map (· + 20)), [], 0x0, 0, [
    ⟨31, 0, .rw, .operate, .any, .value 0, false⟩]⟩,
  ⟨"UNIT_STAMP_0", (hdrBases.map (· + 24)), [], 0x0, 0, [
    ⟨31, 0, .rs, .operate, .any, .kept, true⟩]⟩,
  ⟨"UNIT_STAMP_1", (hdrBases.map (· + 28)), [], 0x0, 0, [
    ⟨31, 0, .rs, .operate, .any, .kept, true⟩]⟩]

/-- Register rows of chapter 21, part 0. -/
def regRows21_0 : List RegRow := [
  ⟨"HST_ID", [0x20], [], 0x9601f7c, 0, [
    ⟨31, 16, .ro, .operate, .any, .value 2400, false⟩,
    ⟨15, 0, .ro, .operate, .any, .value 8060, false⟩]⟩,
  ⟨"HST_UNIT_PRES", [0x24], [], 0x1ff03ff, 0, [
    ⟨24, 24, .ro, .operate, .any, .kept, false⟩,
    ⟨23, 16, .ro, .operate, .any, .kept, false⟩,
    ⟨9, 8, .ro, .operate, .any, .kept, false⟩,
    ⟨7, 0, .ro, .operate, .any, .kept, false⟩]⟩,
  ⟨"HST_STAT", [0x28], [], 0x0, 0, [
    ⟨7, 7, .ro, .operate, .any, .value 0, false⟩,
    ⟨6, 6, .w1c, .operate, .any, .value 1, false⟩,
    ⟨5, 5, .w1c, .operate, .any, .value 0, false⟩,
    ⟨4, 4, .w1c, .operate, .any, .value 0, false⟩,
    ⟨3, 3, .w1c, .operate, .any, .value 0, false⟩,
    ⟨2, 2, .w1c, .operate, .any, .value 0, false⟩,
    ⟨1, 1, .w1c, .operate, .any, .value 0, false⟩]⟩,
  ⟨"HST_ACC_CMD", [0x2c], [], 0x0, 0, [
    ⟨2, 2, .wo, .read, .any, .value 0, false⟩,
    ⟨1, 0, .wo, .read, .any, .value 0, false⟩]⟩,
  ⟨"HST_ACC_STAT", [0x30], [], 0x0, 0, [
    ⟨31, 16, .ro, .operate, .any, .value 0, false⟩,
    ⟨15, 8, .ro, .operate, .any, .value 0, false⟩,
    ⟨7, 4, .ro, .operate, .any, .value 0, false⟩,
    ⟨3, 0, .ro, .operate, .any, .value 0, false⟩]⟩,
  ⟨"HST_ACC_TMO", [0x34], [], 0x384, 0, [
    ⟨15, 0, .rw, .engineer, .clamp 10 65535, .kept, true⟩]⟩,
  ⟨"HST_ACC_PW_w", [0x40], [(8, 0x4)], 0x0, 0, [
    ⟨31, 0, .wo, .read, .any, .value 0, false⟩]⟩,
  ⟨"HST_WIN", [0x60], [], 0x0, 0, [
    ⟨2, 0, .rw, .operate, .ignore 0 7, .value 0, false⟩]⟩,
  ⟨"HST_SPI_STAT", [0x64], [], 0x0, 0, [
    ⟨3, 3, .ro, .operate, .any, .value 0, false⟩,
    ⟨2, 2, .ro, .operate, .any, .value 0, false⟩,
    ⟨1, 1, .ro, .operate, .any, .value 0, false⟩,
    ⟨0, 0, .ro, .operate, .any, .value 0, false⟩]⟩,
  ⟨"HST_IRQ_SUM", [0x70], [], 0x0, 0, [
    ⟨30, 0, .ro, .operate, .any, .value 0, false⟩]⟩,
  ⟨"HST_INTN_MASK", [0x74], [], 0x0, 0, [
    ⟨30, 0, .rw, .operate, .any, .kept, true⟩]⟩,
  ⟨"HST_VEOI", [0x78], [], 0x0, 0, [
    ⟨4, 0, .wo, .operate, .any, .value 0, false⟩]⟩,
  ⟨"HST_VMAP_s", [0x80], [(31, 0x4)], 0x0, 1, [
    ⟨4, 0, .rw, .operate, .any, .kept, false⟩]⟩,
  ⟨"HST_VMOD_v", [0x100], [(32, 0x4)], 0x0, 0, [
    ⟨15, 0, .rw, .operate, .any, .kept, false⟩]⟩,
  ⟨"HST_DMAc_CTL", [0x200], [(4, 0x40)], 0x0, 0, [
    ⟨1, 1, .wo, .operate, .any, .value 0, false⟩,
    ⟨0, 0, .rw, .operate, .any, .value 0, false⟩]⟩,
  ⟨"HST_DMAc_STAT", [0x204], [(4, 0x40)], 0x0, 0, [
    ⟨31, 24, .ro, .operate, .any, .value 0, false⟩,
    ⟨0, 0, .ro, .operate, .any, .value 0, false⟩]⟩,
  ⟨"HST_DMAc_RING_LO", [0x208], [(4, 0x40)], 0x0, 0, [
    ⟨31, 5, .rw, .operate, .any, .kept, false⟩]⟩,
  ⟨"HST_DMAc_RING_HI", [0x20c], [(4, 0x40)], 0x0, 0, [
    ⟨31, 0, .rw, .operate, .any, .kept, false⟩]⟩,
  ⟨"HST_DMAc_SIZE", [0x210], [(4, 0x40)], 0x4, 0, [
    ⟨12, 0, .rw, .operate, .pow2, .kept, false⟩]⟩,
  ⟨"HST_DMAc_HEAD", [0x214], [(4, 0x40)], 0x0, 0, [
    ⟨11, 0, .ro, .operate, .any, .kept, false⟩]⟩,
  ⟨"HST_DMAc_TAIL", [0x218], [(4, 0x40)], 0x0, 0, [
    ⟨11, 0, .rw, .operate, .any, .kept, false⟩]⟩,
  ⟨"HST_DMAc_IRQ", [0x21c], [(4, 0x40)], 0x0, 0, [
    ⟨1, 1, .w1c, .operate, .any, .value 0, false⟩,
    ⟨0, 0, .w1c, .operate, .any, .value 0, false⟩]⟩,
  ⟨"HST_DMAc_IRQ_EN", [0x220], [(4, 0x40)], 0x0, 0, [
    ⟨1, 0, .rw, .operate, .any, .value 0, false⟩]⟩]

/-- Every register of BAR0 that a map names. -/
def regTable : List RegRow :=
  regRows02_0 ++ regRows02_1 ++ regRows03_0 ++ regRows03_1 ++ regRows04_0 ++ regRows04_1 ++ regRows05_0 ++ regRows06_0 ++ regRows06_1 ++ regRows07_0 ++ regRows08_0 ++ regRows09_0 ++ regRows09_1 ++ regRows10_0 ++ regRows10_1 ++ regRows11_0 ++ regRows11_1 ++ regRows12_0 ++ regRows12_1 ++ regRows13_0 ++ regRows13_1 ++ regRows14_0 ++ regRows15_0 ++ regRows15_1 ++ regRows16_0 ++ regRows17_0 ++ regRows18_0 ++ regRows19_0 ++ regRows20_0 ++ regRows21h_0 ++ regRows21_0

end Sys2Proof.Machine
end

