-- ==== Sys2Proof/Machine/Regs.lean ====
section
/-!
DEFINITION. Reading the register maps: which register an offset names, its value at reset, and how a host write changes a
register field by field (R7, R9, R10, R644).
-/
namespace Sys2Proof.Machine

/-- The rows that may hold an offset: the common header (R641), else the map of the block the offset lies in. -/
def rowsAt (off : Nat) : List RegRow :=
  if hdrBases.any fun b => b ≤ off && decide (off < b + 0x20) then regRows21h_0 else
  match off / 0x10000 with
  | 0x00 => regRows21_0
  | 0x01 => regRows19_0
  | 0x02 => regRows03_0 ++ regRows03_1
  | 0x03 => regRows02_0 ++ regRows02_1
  | 0x05 => regRows04_0 ++ regRows04_1
  | 0x06 => regRows05_0
  | 0x10 => regRows06_0 ++ regRows06_1
  | 0x18 => regRows07_0
  | 0x20 => regRows08_0
  | 0x21 => regRows08_0
  | 0x30 => regRows09_0 ++ regRows09_1 ++ regRows10_0 ++ regRows10_1
  | 0x40 => regRows11_0 ++ regRows11_1
  | 0x50 => regRows12_0 ++ regRows12_1
  | 0x60 => regRows13_0 ++ regRows13_1
  | 0x70 => regRows14_0
  | 0x71 => regRows14_0
  | 0x80 => regRows15_0 ++ regRows15_1
  | 0x84 => regRows20_0
  | 0x90 => regRows16_0
  | 0xA0 => regRows17_0
  | 0xB0 => regRows18_0
  | 0xC0 => regRows20_0
  | _ => []

/-- The indexes a distance from a register's base stands for, outermost first. -/
def idxOf : List (Nat × Nat) → Nat → Option (List Nat)
  | [], r => if r = 0 then some [] else none
  | (c, st) :: t, r => if r / st < c then (idxOf t (r % st)).map (r / st :: ·) else none

/-- A row with the base and the indexes of one of its registers. -/
structure RegHit where
  row : RegRow
  base : Nat
  idx : List Nat
  deriving DecidableEq, Repr

/-- The register at an offset of a row. -/
def RegRow.hit (r : RegRow) (off : Nat) : Option RegHit :=
  r.bases.findSome? fun b => if b ≤ off then (idxOf r.dims (off - b)).map (⟨r, b, ·⟩) else none

/-- The register at an offset, if a map names one. -/
def regAt (off : Nat) : Option RegHit := (rowsAt off).findSome? (·.hit off)

/-- The unit whose header lies at a base offset. -/
def blkAt (base : Nat) : Option Blk := Blk.all.find? fun b => b.base == base

/-- Instance byte of UNIT_ID (R641). -/
def Blk.inst : Blk → Nat
  | .afe g => g
  | .ethW => 4
  | _ => 0

/-- Reset values that depend on the register's index: HST_VMAP, UNIT_ID, UNIT_CTL and the sections of F (log 5, 6). -/
def resetSpecial (n : Nat) (h : RegHit) : Nat :=
  let i := h.idx.headD 0
  match n with
  | 1 => i
  | 2 => match blkAt h.base with
    | some b => b.unitType * 256 + b.inst
    | none => 0
  | 3 => match blkAt (h.base - 8) with
    | some .blk | some .yul | some .wyt | some .ethW | none => 0
    | some _ => 1
  | 4 => ([64, 8, 8, 8, 8, 12, 0, 4, 4, 4, 64].getD i 0) * 0x10000
  | 5 => ([0x7000000, 0xF000000, 0xF000000, 0xF000000].getD i 0) + ([256, 128, 8192, 64].getD i 0)
  | 6 => if i = 0 then 0x1010001 else 0
  | 7 => if i = 0 ∧ h.idx.getD 2 0 = 0 then 0x400000 else 0
  | 8 => 2 * h.idx.getD 1 0 + (2 * h.idx.getD 1 0 + 1) * 0x100
  | 9 => if i < 2 then 1 else 0
  | 10 => Config.macAddr i % 2 ^ 32
  | 11 => Config.macAddr i / 2 ^ 32 % 2 ^ 16
  | 12 => match blkAt (h.base - 4) with
    | some b => Config.hwRev b.base % 2 ^ 16 * 2 ^ 16 + Config.secFmt b.unitType % 2 ^ 16
    | none => 0
  | _ => 0

/-- The word at an offset after power-on reset (the Reset column of the maps; F's values where it says "image", log 5; the
values of log 6 where the spec gives none). Offsets that no map names hold zero (R643). -/
def resetWord (off : Nat) : Word :=
  match regAt off with
  | none => 0
  | some h => BitVec.ofNat 32 (if h.row.special = 0 then h.row.reset else h.row.reset ||| resetSpecial h.row.special h)

/-! ### A host write, field by field (R7, R9, R10, R644) -/

/-- Whether an access level suffices for a field's (R644). -/
def Level.ge : Level → Level → Bool
  | .engineer, _ => true
  | .operate, .engineer => false
  | .operate, _ => true
  | .read, .read => true
  | .read, _ => false

/-- The number of an access level in HST_ACC_STAT and in events. -/
def Level.num : Level → Nat
  | .read => 0 | .operate => 1 | .engineer => 2

/-- The value a field of w bits takes when v is written to it (ranges: see WRule; log 11 for `range`). `govOk` says whether
the governor thresholds would keep F > L > S. -/
def WRule.value (r : WRule) (govOk : Bool) (w old v : Nat) : Nat :=
  match r with
  | .any | .range _ _ | .rangeS _ _ | .budget => v
  | .clamp lo hi => clampN lo hi v
  | .ignore lo hi => if lo ≤ v ∧ v ≤ hi then v else old
  | .clampS lo hi => ofSigned w (clampI lo hi (toSigned w v))
  | .pow2 => if v ∈ [4, 8, 16, 32, 64, 128, 256, 512, 1024, 2048, 4096] then v else old
  | .govThr => if govOk then v else old

/-- Circumstances of a host write: the interface's level, whether the seal is open, whether R577 releases the register's
SEAL fields, whether governor thresholds would stay in order, the register's bits that hardware set in this fc (R8), those that a
write of this fc which comes later in its order has given their value (R636). -/
structure WriteCtx where
  level : Level
  sealOpen : Bool
  released : Bool
  govOk : Bool
  setNow : Nat
  kept : Nat
  deriving DecidableEq, Repr

/-- What a host write does to one field: its new value and whether the write was denied (R7, R9, R10, R644). -/
def FieldRow.write (f : FieldRow) (c : WriteCtx) (old v : Nat) : Nat × Bool :=
  let w := f.hi - f.lo + 1
  let stay := fun (x : Nat) => maskPut x (bits c.kept f.hi f.lo) (old &&& bits c.kept f.hi f.lo)
  match f.acc with
  | .ro | .rs => (old, false)
  | .img => (old, v != old)
  | .rw => if c.level.ge f.level then (stay (f.rule.value c.govOk w old v), false) else (old, v != old)
  | .w1c =>
    let hw := bits c.setNow f.hi f.lo
    if c.level.ge f.level then (old - (old &&& (v - (v &&& hw))), false) else (old, v != 0)
  | .wo => (old, !c.level.ge f.level && v != 0)
  | .seal =>
    if c.level = .engineer ∧ (c.sealOpen ∨ c.released) then (stay (f.rule.value c.govOk w old v), false) else (old, v != old)

/-- The bits of a register that a host write may give a value. -/
def RegRow.taken (r : RegRow) (c : WriteCtx) : Nat :=
  r.fields.foldl (fun (m : Nat) f =>
    if (f.acc = .rw ∧ c.level.ge f.level) ∨ (f.acc = .seal ∧ c.level = .engineer ∧ (c.sealOpen ∨ c.released)) then
      m ||| (2 ^ (f.hi + 1) - 2 ^ f.lo)
    else m) 0

/-- What a host write does to a register: its new word and whether any field denied it. -/
def RegRow.write (r : RegRow) (c : WriteCtx) (old v : Nat) : Nat × Bool :=
  r.fields.foldl (fun (acc : Nat × Bool) f =>
    let p := f.write c (bits old f.hi f.lo) (bits v f.hi f.lo)
    (maskPut acc.1 ((2 ^ (f.hi - f.lo + 1) - 1) * 2 ^ f.lo) (p.1 * 2 ^ f.lo), acc.2 || p.2)) (old, false)

end Sys2Proof.Machine
end

