-- ==== Sys2Proof/Machine/State.lean ====
section
/-!
DEFINITION. The state of the AK960 as plain data: the register file, the memories, the state each unit keeps beside its
registers, the log of what the module sent, and the queue of waiting commands.  Run times, time words and durations are
whole numbers of 2^−32 ns (R36, R73) unless a field says otherwise.
-/
namespace Sys2Proof.Machine

/-- How the machine can stop with a fault: never.  No rule of the spec gives a command a fault, so no meaning raises this
one; it is safe (a stop proves nothing false). -/
inductive Fault where
  /-- Raised by nobody; safe. -/
  | unused
  deriving DecidableEq, Repr

/-- How a command can be refused. -/
inductive Refusal where
  /-- Raised by `exec` for a command that has no meaning yet; safe. -/
  | notModelled (mnemonic : String)
  deriving DecidableEq, Repr

/-! ### Time and angle (02, 03) -/

/-- The two variants of R1. -/
inductive Variant where
  | x | b
  deriving DecidableEq, Repr

/-- A stretch of the oscillator's scale over which the time word advanced evenly: from which instant, the time word there, its
advance per fc, the length of the fc, the epoch.  It says what the time word held at an edge of the past (R24). -/
structure TimeSeg where
  nom : Nat
  time : Nat
  step : Nat
  fc : Nat
  epoch : Nat
  deriving DecidableEq, Repr

/-- The timebase: time word, its value in the previous fc, the first instant that counts as reached in the present fc (R81), run
time, run time at nominal rate (the oscillator's scale), the increment the servo or the host demands referred to 400 MHz (R71,
R74), FCLK as a divider of 400 MHz, the count of fc, the stretches of the past second, newest first. -/
structure TimeSt where
  time : Nat
  prev : Nat
  reach : Nat
  runt : Nat
  nom : Nat
  inc : Nat
  div : Nat
  fc : Nat
  segs : List TimeSeg
  deriving DecidableEq, Repr

/-- A transmit time stamp (R103): identifier, time word in 2^−16 ns, epoch. -/
structure TxStamp where
  id : Nat
  tw : Nat
  epoch : Nat
  deriving DecidableEq, Repr

/-- States of a PTP port under the BMCA (R90). -/
inductive PtpState where
  | listening | uncalibrated | slave | master | passive
  deriving DecidableEq, Repr

/-- What the PTP engine keeps for a port beside its registers; stamps, delays and offsets in 2^−16 ns: state, best Announce with
its sender and run time; a two-step Sync that waits (sequence, ingress, correction), the master's logSyncInterval, what the
last Sync measured; own delay request (sequence, egress), a two-step answer that waits (sequence, t2, t4, correction);
filtered path delay and offset; consecutive deviations of R98; run time of the last shift, treatment as single path, run
times of the last divergence and of the last deviation; per kind the run time and sequence of the last message sent; whether a
changed compensation makes the next measurement restart the delay filter (R97); stamps queued.  `sender` is the port identity the
best Announce came from: clockIdentity × 2^16 + port number. -/
structure PtpPort where
  st : PtpState
  best : Option PtpDataset
  sender : Nat
  bestAt : Nat
  syncRx : Option (Nat × Nat × Int)
  syncLog : Int
  lastSync : Option Int
  reqTx : Option (Nat × Nat)
  pdResp : Option (Nat × Nat × Nat × Int)
  mpd : Int
  ofs : Int
  mpdValid : Bool
  ofsValid : Bool
  devs : List Int
  shiftAt : Option Nat
  single : Bool
  divBadAt : Nat
  mpdBadAt : Nat
  sent : List (PtpKind × Nat × Nat)
  fresh : Bool
  txq : List TxStamp
  deriving DecidableEq, Repr

/-- The timebase unit beside its registers: the last offset measurements corrected for the rate applied between them (R86),
filtered rate and offset (R93), offset magnitude at entry to holdover (R94), that entry, last accepted Sync or edge,
PTP ports, the slew limit of R100, whether the clock follows a SUSPECT port for want of another (R100), PPS_OUT and the run time
of its rise. -/
structure TbuSt where
  meas : List Int
  rate : Nat
  ofs : Int
  e0 : Nat
  hoEntry : Nat
  hoStart : Nat
  ports : List PtpPort
  slewAsym : Bool
  lone : Bool
  ppsHigh : Bool
  ppsRise : Nat
  deriving DecidableEq, Repr

/-- The tracker's internal estimate of one reference, its count of updates towards the lock conditions (R51, R55), its updates of
low amplitude, and the state of the tracker's own filter of it (R44). -/
structure RefEst where
  phase : Nat
  freq : Nat
  err : Int
  good : Nat
  low : Nat
  filt : List Int
  deriving DecidableEq, Repr

/-- A grid crossing whose sample is not formed yet (R58): index, cycle, instant on the oscillator's scale, time word
(2^−16 ns), epoch, tracker state. -/
structure Cross where
  k : Nat
  cycle : Nat
  inst : Nat
  tw : Nat
  epoch : Nat
  trk : Nat
  deriving DecidableEq, Repr

/-- The tuple of R48 as the conversions of R63 and R64 use it: position, time word (2^−16 ns), frequency. -/
structure Tuple where
  pos : Nat
  tw : Nat
  freq : Nat
  deriving DecidableEq, Repr

/-- Angle accumulator (48 bits) and cycle count (R39, R41), and what the tracker keeps beside its registers: the
accumulator of the previous fc, estimates of both references, updates out of range, the frequencies of the last 16 updates
with their run times (R49), whether a change of reference or offset may start a pull (R46, R52), crossings per grid slot, the
latest published tuple. -/
structure AngSt where
  acc : Nat
  prev : Nat
  cycle : Nat
  pri : RefEst
  alt : RefEst
  rangeCnt : Nat
  hist : List (Nat × Nat)
  pullDue : Bool
  cross : List (List Cross)
  tup : Tuple
  deriving DecidableEq, Repr

/-! ### Events (16) -/

/-- An event record (R513); tw in 2^−16 ns. -/
structure EvRec where
  tw : Nat
  angle : Nat
  src : Nat
  code : Nat
  cls : Nat
  dye : Nat
  grout : Bool
  epoch : Nat
  value : Nat
  seq : Nat
  deriving DecidableEq, Repr

/-- An event raised and not yet taken in (R517): the fc in which it was raised, and its record without number. -/
structure EvRaised where
  fc : Nat
  ev : EvRec
  deriving DecidableEq, Repr

/-- An open grout record of a path and class (R523). -/
structure Grout where
  path : Nat
  cls : Nat
  tw : Nat
  epoch : Nat
  last : Nat
  srcLo : Nat
  srcHi : Nat
  count : Nat
  deriving DecidableEq, Repr

/-- A stored SoE record and whether READ or DUMP has copied it (R531, R532). -/
structure SoeRec where
  ev : EvRec
  copied : Bool
  deriving DecidableEq, Repr

/-- A running SoE dump (R531). -/
structure SoeDump where
  region : Nat
  index : Nat
  count : Nat
  addr : Nat
  deriving DecidableEq, Repr

/-- The event unit beside its registers: events waiting for intake and how many of classes 1–3 the present fc has taken
(R517), open grout records, the host queue, the two regions of the SoE log (the general one by index), class-0 records the
host queue refused in this window (R527), the window's index, the highest class admitted per path (R522), the running
dump. -/
structure EvtSt where
  raised : List EvRaised
  takenFc : Nat
  taken : Nat
  grouts : List Grout
  hq : List EvRec
  soe0 : List SoeRec
  soeGen : List (Nat × SoeRec)
  refusedNow : Nat
  windowIdx : Nat
  maxCls : List Nat
  dump : Option SoeDump
  deriving DecidableEq, Repr

/-! ### Courses (05) -/

/-- One action of a course: its three words (R156). -/
structure Action where
  w0 : Nat
  w1 : Nat
  w2 : Nat
  deriving DecidableEq, Repr

/-- Schedule of a course (R155): time targets in 2^−16 ns, angle targets as 64-bit positions. -/
inductive Sched where
  | immediate
  | time (t : Nat)
  | angle (p : Nat)
  | standing
  deriving DecidableEq, Repr

/-- State of a course slot (R150). -/
inductive SlotSt where
  | free | pending | committed | set | discarded | standing
  deriving DecidableEq, Repr

/-- Mirroring of a course (R179–R181): not mirrored, copy sent and unanswered, accepted by the SHADOW; or a copy here. -/
inductive Mirror where
  | no | waiting | accepted | copy
  deriving DecidableEq, Repr

/-- What a course is for, where its end matters to the unit that prepared it: an output course of a core (R423), a value patch
of a core with its generation (R443), a program exchange (R448), a commit with its CAUSE and preset (R393, R413), a commit
for a refire (R134), a patch with its journal entries (R143), outputs of a ring station (R487). -/
inductive CourseTag where
  | none
  | out (core : Nat)
  | vpatch (core gen : Nat)
  | exch (core : Nat)
  | commit (cause : Nat) (preset : Option (Nat × Nat))
  | refire (sec : Nat)
  | patch (keys : List (Nat × Nat))
  | station
  deriving DecidableEq, Repr

/-- A course slot with the record of R183. -/
structure Slot where
  st : SlotSt
  gen : Nat
  port : Nat
  sched : Sched
  policy : Nat
  acts : List Action
  evt : Bool
  rset : Bool
  ringFrame : Option Nat
  lateFlag : Bool
  deadline : Option Nat
  accFc : Nat
  seq : Nat
  mirror : Mirror
  mirSeq : Nat
  srcId : Nat
  status : Nat
  ovr : Bool
  miss : Bool
  next : Bool
  act : Nat
  recTw : Nat
  recAngle : Nat
  recCycle : Nat
  recTrk : Nat
  recEpoch : Nat
  outcome : Option Nat
  setFc : Nat
  tag : CourseTag
  entries : List (Nat × Nat)
  deriving DecidableEq, Repr

/-- What a course of the present fc wrote, for R170 and R171. -/
structure FcWrite where
  slot : Nat
  seq : Nat
  kind : Nat
  target : Nat
  mask : Nat
  value : Nat
  trip : Bool
  deriving DecidableEq, Repr

/-- A decision that waits for its standing course (R173): source identifier of the feeder or tile, the fc in which the course
sets, the fc in which it draws its sequence number and that number once drawn, the comparators that decided, what the set-fc
check of the fc before found: none before it ran, then the lowest failing action, if any. -/
structure Decision where
  src : Nat
  due : Nat
  drawAt : Nat
  seq : Option Nat
  mask : Nat
  check : Option (Option Nat)
  deriving DecidableEq, Repr

/-- An ARM that waits for the end of its acceptance fc (R164): the interface, whether its level sufficed, that fc. -/
structure ArmReq where
  ifc : Iface
  ok : Bool
  fc : Nat
  deriving DecidableEq, Repr

/-- The course engine beside its registers: the 192 slots, the next sequence number, what courses wrote in this fc, the
decisions of standing courses that wait to set, the ARMs registered and not yet accepted, the outcomes of mirrored courses
(sequence number, status) that the partner has not answered yet (R181). -/
structure CrsSt where
  slots : List Slot
  nextSeq : Nat
  writes : List FcWrite
  writesFc : Nat
  decisions : List Decision
  arms : List ArmReq
  told : List (Nat × Nat)
  deriving DecidableEq, Repr

/-! ### Block cores (13) -/

/-- An instance of a program (R432). -/
structure Inst where
  hash : Nat
  ty : Nat
  ver : Nat
  ofs : Nat
  size : Nat
  flags : Nat
  deriving DecidableEq, Repr

/-- A timer's or edge detector's state (R438, R440): preset in cycles (R437), last IN or CLK, ET, running, Q. -/
structure TimerSt where
  pre : Nat
  mem : Bool
  et : Nat
  run : Bool
  q : Bool
  deriving DecidableEq, Repr

/-- A program in a slot: its image, its instance data, its timers by instance index. -/
structure Prog where
  image : List Byte
  data : List Byte
  timers : List TimerSt
  deriving DecidableEq, Repr

/-- A metering run's latched input: its value in its unit and the quality of R419; whether a 4–20 mA input lies outside
3.6–21.0 mA. -/
structure RunIn where
  val : Rat
  qual : Nat
  span : Bool
  deriving DecidableEq, Repr

/-- A retain bank (R436): sequence number, per range the instance key, the offset within the instance, the bytes. -/
structure RetainBank where
  seq : Nat
  parts : List (Nat × Nat × Nat × Nat × List Byte)
  deriving DecidableEq, Repr

/-- The input image of a core (R419): entry, value and quality of each ring input; filtered level, count, frequency and quality
of each DIO channel; AO readbacks; PU and OP of each feeder; ANG_FREQ and ANG_STAT; committed totalisers. -/
structure InImage where
  ring : List (Nat × Nat × Nat)
  dio : List (Nat × Nat × Nat × Nat)
  ao : List Nat
  prt : List (Nat × Nat)
  ang : Nat × Nat
  tot : List Nat
  deriving DecidableEq, Repr

/-- An execution in progress: base index, run time and time word (2^−16 ns) of its sync instant, input image, latched run
inputs, instants skipped so far, whether it overran. -/
structure Exec where
  idx : Nat
  start : Nat
  tw : Nat
  img : InImage
  runs : List (Nat × List RunIn)
  skipped : Nat
  late : Bool
  deriving DecidableEq, Repr

/-- A block core beside its registers: active and shadow slot, entry being loaded, execution in progress, base index up to
which instants are done, staged value patch (generation, level entries) and the values that wait for an execution, hold of
an exchange with its base index and whether the copy is complete, the task's state before it was shed, whether a RETAIN
copy is due, the retain banks. -/
structure CoreSt where
  active : Option Prog
  shadow : Option Prog
  loading : Option Nat
  exec : Option Exec
  done : Nat
  vpGen : Nat
  vpBuf : List (Nat × Nat)
  vpDue : List (Nat × Nat)
  hold : Option (Nat × Bool)
  was : Nat
  retain : Bool
  bankA : Option RetainBank
  bankB : Option RetainBank
  deriving DecidableEq, Repr

/-- The BLK unit beside its registers: cores, program store in MRAM, the store write in progress. -/
structure BlkSt where
  core : List CoreSt
  store : List (Option (List Byte))
  op : Option (Nat × List Byte)
  deriving DecidableEq, Repr

/-! ### Ring (14) and ports (15) -/

/-- A station as the master keeps it beside its registers: frames without a valid answer, valid answers while rejoining, the
stamp last reported as differing, the stamp OVR was written for. -/
structure StnSt where
  loss : Nat
  good : Nat
  stampSeen : Option Nat
  ovr : Option Nat
  deriving DecidableEq, Repr

/-- Set items a station keeps for an acknowledged tag (R469). -/
structure KeptTag where
  cycle : Nat
  tag : Nat
  items : List SetItem
  deriving DecidableEq, Repr

/-- A set-mode course that travels (R177, R473): its slot, its tag, the stations it addresses. -/
structure RingTag where
  slot : Nat
  tag : Nat
  stns : List Nat
  deriving DecidableEq, Repr

/-- The ring controller beside its registers.  As master: base index of the next frame and of the last one sent, run time of
its departure, ports its copies left on and have returned on, stations with a valid answer in it and their ACK bytes,
set-mode courses in it and those committed by it, station count of the last SCAN, stations found, the state to take from
the next frame, turning stations, the frame that is leaving with the instants at which its blocks leave, stations.  As station: CYCLE of the last frame, kept items, IN snapshot, next apply
instant (2^−16 ns) with its CYCLE and committed tags, CYCLE in which a tag was acknowledged, SAFE, MISSED, APPLY_FAIL, run
time of the last valid frame, the block sizes and upstream link delay adopted at SCAN.  In ROLE 3: CYCLEs registered, base index up to which they were checked. -/
structure YulSt where
  next : Nat
  sent : Option Nat
  sentAt : Nat
  ports : List Nat
  back : List Nat
  answered : List Nat
  acks : List (Nat × Nat)
  tags : List RingTag
  committed : List RingTag
  scanCnt : Option Nat
  found : Nat
  toLine : Option Bool
  turners : List Nat
  leaving : Option (RingFrame × List Nat)
  stn : List StnSt
  cyc : Option Nat
  kept : List KeptTag
  snap : List Byte
  applyAt : Option (Nat × Nat × Nat)
  ackedIn : Option Nat
  safe : Bool
  missed : Bool
  applyFail : Bool
  validAt : Nat
  staOut : Nat
  staIn : Nat
  staLink : Nat
  seen : List Nat
  checked : Nat
  deriving DecidableEq, Repr

/-- A published dataset beside its registers: stNum, time word (2^−16 ns) and members of the frame being repeated, run time of
the next frame and the interval in ms that ends then, deferred first frames with the same (R535), oldest first. -/
structure GpSt where
  st : Nat
  tw : Nat
  members : Nat
  next : Option Nat
  interval : Nat
  deferred : List (Nat × Nat × Nat)
  deriving DecidableEq, Repr

/-- A subscription beside its registers: run time of the last accepted frame, its timeAllowedToLive in ms, stNum, sqNum. -/
structure GsSt where
  at_ : Nat
  ttl : Nat
  st : Nat
  sq : Nat
  heard : Bool
  deriving DecidableEq, Repr

/-- A duplicate-table entry (R495): source, sequence number, run time. -/
structure DupEnt where
  mac : Nat
  seq : Nat
  at_ : Nat
  deriving DecidableEq, Repr

/-- A frame that waits at a port (R497): priority, fc in which it became ready, dataset for the order of R498, the frame, its LAN
identifier (1 A, 2 B, 3 an HSR tag) and sequence number (R494), the identifier of the stamp it asks for (R511). -/
structure TxWait where
  prio : Nat
  fc : Nat
  k : Nat
  what : TxFrame
  tag : Option (Nat × Nat)
  stamp : Option Nat
  deriving DecidableEq, Repr

/-- A port as it transmits (R497): frames that wait in the order they came, the frame being transmitted with the instant of the
oscillator's scale at which it ends and the stamp it took. -/
structure PortTx where
  wait : List TxWait
  cur : Option (TxWait × Nat × Option TxStamp)
  deriving DecidableEq, Repr

/-- The station ports beside their registers: datasets, subscriptions, index of the next sample published per stream,
subscribed streams' next expected sample index, duplicate table (oldest first), run time of the last supervision frame, the
ports as they transmit, the next sequence number of R494. -/
structure EthSt where
  gp : List GpSt
  gs : List GsSt
  svp : List Nat
  svs : List (Option Nat)
  dup : List DupEnt
  superv : Nat
  ptx : List PortTx
  redSeq : Nat
  deriving DecidableEq, Repr

/-! ### Pair (20) -/

/-- A commit record that waits for its partner record (R629): time word, values, run time. -/
structure PairRec where
  tw : Nat
  values : List Nat
  at_ : Nat
  deriving DecidableEq, Repr

/-- A refire agreed between the modules (R625): slot, configuration stamp, T_r in 2^−16 ns, whether this module started it,
whether it was refired here, and what the partner's first heartbeat after T_r tells of its own refire. -/
structure PairRefire where
  slot : Nat
  stamp : Nat
  at_ : Nat
  mine : Bool
  done : Bool
  partner : Option Bool
  deriving DecidableEq, Repr

/-- The WYT unit beside its registers: run times of the last heartbeat and of READY, whether its loss has expired, consecutive
heartbeats with stamps equal, with stamps differing, from the same side; whether a frame of another ring master was registered
since READY; standing courses set since the last heartbeat sent, those awaiting the partner's report with their run times;
commit records own and received; base and L0 of R630; the refire in progress, the partner's REFIRING flag and stamp, run time
since which neither is refiring; heartbeat index last sent, whether one came since, frames sent (R612). -/
structure WytSt where
  hbAt : Option Nat
  readyAt : Nat
  same : Nat
  differ : Nat
  sameSide : Nat
  ringHeard : Bool
  tripf : Nat
  trips : List (Nat × Nat)
  own : List PairRec
  theirs : List PairRec
  base : Option (List Int × List Nat)
  refire : Option PairRefire
  pRefiring : Bool
  pStamp : Nat
  calmAt : Option Nat
  hbIdx : Nat
  hbSeen : Bool
  lost : Bool
  frames : Nat
  deriving DecidableEq, Repr

/-! ### Power and units (19) -/

/-- State of a unit or part, R587. -/
inductive PartState where
  | off | waiting | starting | on | stopping | shed
  deriving DecidableEq, Repr

/-- A unit, or a part that starts in its own slot (R686), under its SEC_ID. -/
structure Part where
  id : Nat
  st : PartState
  since : Nat
  conf : Bool
  refire : Bool
  shedAfter : Bool
  heldEnable : Option Nat
  failed : Bool
  deriving DecidableEq, Repr

/-- What a running end sequence leads to (R592, R602, R603, R607). -/
inductive EndCause where
  | ride | cold | standby
  deriving DecidableEq, Repr

/-- The power unit beside its registers. -/
structure PwrSt where
  parts : List Part
  vinGoodAt : Nat
  lostAt : Nat
  rideStart : Nat
  lowest : Nat
  nextSlot : Nat
  slotShift : Nat
  endSeq : Option EndCause
  unpowered : Bool
  standby : Bool
  clockPending : Option Nat
  heldReset : Option (Bool × Nat)
  heldSince : Nat
  sampleAt : Nat
  warmBusy : Bool
  lastStart : Nat
  lastReady : Nat
  rtcSec : Nat
  rtcSub : Nat
  rtcValid : Bool
  lastCharge : Nat
  vbatAt : Option Nat
  deriving DecidableEq, Repr

/-! ### Kiln (04) -/

/-- A fired section (R124, R131): SEC_ID, its source (user image or F), its state, the step-6 error, its SEC_DIGEST
(of a user section), its flags and its body. -/
structure Section where
  id : Nat
  src : Nat
  st : Nat
  err : Nat
  digest : Nat
  flags : Nat
  fmt : Nat
  body : List Byte
  deriving DecidableEq, Repr

/-- A journal entry of R142; tw in 2^−16 ns. -/
structure JEntry where
  secId : Nat
  vidx : Nat
  value : Nat
  digest : Nat
  tw : Nat
  level : Nat
  cls : Nat
  pending : Bool
  deriving DecidableEq, Repr

/-- A KLN operation in progress (R138): a STORE to a slot; a REFIRE from a slot, with the interface (2: the partner) and the
level it was commanded with. -/
inductive KlnOp where
  | store (slot : Nat)
  | refire (slot ifc level : Nat)
  deriving DecidableEq, Repr

/-- The block of a feeder's elements under R135: since when, until the listed sections are READY. -/
structure FeederBlock where
  feeder : Nat
  since : Nat
  secs : List Nat
  deriving DecidableEq, Repr

/-- The kiln unit beside its registers: the image slots U0 and U1, the OTP key slots, the fired configuration, the patch
journal, the staged copy of a STORE in progress, the register words the fired image gave and those of the one before a refire. -/
structure KlnSt where
  u0 : List Host.Cell
  u1 : List Host.Cell
  otpProg : Nat
  otpRev : Nat
  fired : Nat
  firedDigest : Nat
  firedKey : Nat
  secs : List Section
  journal : List JEntry
  op : Option KlnOp
  staged : List Byte
  image : List (Nat × Word)
  imageOld : List (Nat × Word)
  refiring : List Nat
  blocks : List FeederBlock
  digestOp : Option Nat
  digestEng : Option Nat
  keptOp : Option Nat
  keptEng : Option Nat
  deriving DecidableEq, Repr

/-! ### Samples, grids (R11, R58–R60) and protection (09, 10) -/

/-- A sample word (R11): its signed value, dye and four flags. -/
structure Sample where
  value : Int
  dye : Nat
  uns : Bool
  ovr : Bool
  sub : Bool
  stale : Bool
  deriving DecidableEq, Repr

/-- A grid sample of a slot: index within its cycle, cycle, crossing time in 2^−16 ns, angle word, epoch, tracker state, and
the sample of each input under its key (local channel n: n; ring stream i: 0x10000 + i; SV stream i: 0x20000 + i). -/
structure GSample where
  k : Nat
  cycle : Nat
  tw : Nat
  angle : Nat
  epoch : Nat
  trk : Nat
  vals : List (Nat × Sample)
  deriving DecidableEq, Repr

/-- A phasor without the factor √2 of R277: real and imaginary part on the pin scale, and its flags. -/
structure Phasor where
  re : Rat
  im : Rat
  uns : Bool
  ovr : Bool
  sub : Bool
  stale : Bool
  deriving DecidableEq, Repr

/-- One phase of an element, or its one quantity: pickup, accumulator (R287), time held in reset in ms (R288), consecutive
updates (R299, R300), the last settled M (R309), the latched direction (R295). -/
structure Lane where
  pu : Bool
  acc : Nat
  rst : Rat
  cnt : Nat
  m : Rat
  fwd : Bool
  rev : Bool
  mem : Bool
  deriving DecidableEq, Repr

/-- An element slot: its lanes and its operate output. -/
structure Elem where
  lanes : List Lane
  op : Bool
  deriving DecidableEq, Repr

/-- A point-on-wave measurement in progress (R332): time word (2^−16 ns) and run time of the latch change, epoch, and since
when every phase current lies below DET (SRC_OPEN 0). -/
structure PowRun where
  tw : Nat
  runt : Nat
  below : Option (Nat × Nat × Nat × Nat)
  deriving DecidableEq, Repr

/-- A feeder beside its registers: elements, the last update made (cycle, index), full- and half-cycle phasors of R277 and
R281 in the order of R312, V1 memories of slots 7 and 8 with their age in updates (R293), the 50BF timers and current check
(R302–R305), the run time since which the elements are held (R309), the measurements of the close and of the open operation. -/
structure FdrSt where
  elems : List Elem
  upd : Option (Nat × Nat)
  full : List Phasor
  half : List Phasor
  v1mem : List (Option (Phasor × Nat))
  bfStart : Option Nat
  bfPick : Bool
  holdAt : Option Nat
  powClose : Option PowRun
  powOpen : Option PowRun
  deriving DecidableEq, Repr

/-- A sentinel comparator beside its registers: consecutive exceeding results (R315), run time of the last one (R317), the fc in
which a decision's output rises (R320). -/
structure CompSt where
  cnt : Nat
  lastEx : Nat
  rise : Option Nat
  deriving DecidableEq, Repr

/-- The settings of an element in force at an update (R282, R286). -/
structure ElemSet where
  en : Bool
  curve : Nat
  reset : Bool
  half : Bool
  dir : Nat
  src : Nat
  logic : Nat
  trip : Bool
  bfi : Bool
  pickup : Nat
  time : Nat
  aux : Nat
  deriving DecidableEq, Repr

/-- What an update makes of an element (R283–R309): slot, CAUSE, settings, its new state, whether no event is written. -/
structure ElemOut where
  e : Nat
  cause : Nat
  st : ElemSet
  x : Elem
  quiet : Bool
  deriving DecidableEq, Repr

/-- An update on its way from the phasors to the element outputs, valid 52 fc later (R27): the fc, the feeder, the current check
of 50BF (none: reset) with its CAUSE, the other slots. -/
structure ElemJob where
  due : Nat
  f : Nat
  bf : Option Bool
  bfCause : Nat
  outs : List ElemOut
  deriving DecidableEq, Repr

/-- The PRT unit beside its registers: feeders, comparators (tile s, comparator i at 8s + i), updates on their way. -/
structure PrtSt where
  fdr : List FdrSt
  comp : List CompSt
  jobs : List ElemJob
  deriving DecidableEq, Repr

/-! ### Field digital I/O (17) and current loops (18) -/

/-- One field digital channel beside its registers: the zone the pin voltage lies in, the raw state before the last change
and the fc of that change (R540), run times of the last raw rise, the last tick, the last fc with Y = 1 and the last rise
of Y; the gate of R546; the overload and retry of R548, whether the slot of R550 has passed, the kind of an open load, the
start of the trip hold (R324). -/
structure DioCh where
  zone : PinZone
  rawOld : Bool
  rawFc : Nat
  rawRise : Nat
  tickAt : Nat
  yLast : Option Nat
  yRise : Nat
  gateStart : Nat
  edgeFirst : Option Nat
  edgeLast : Nat
  edges : Nat
  ovlOff : Bool
  retryAt : Nat
  released : Bool
  openOff : Bool
  holdStart : Nat
  deriving DecidableEq, Repr

/-- One DIO group beside its registers: entry to LOW or MISSING, entry to RESTORING and slots done; the watchdog's last start,
whether it runs, the last refresh (or the start at READY). -/
structure DioGrp where
  trouble : Nat
  restore : Nat
  slot : Nat
  wdStart : Nat
  wdRun : Bool
  wdLast : Nat
  deriving DecidableEq, Repr

/-- What a course that set gives the output latches 2 fc later (R27): the fc, channels and values, whether it is a trip. -/
structure LatchOp where
  due : Nat
  mask : Nat
  vals : Nat
  trip : Bool
  deriving DecidableEq, Repr

/-- The DIO unit beside its registers: what courses have given the latches, and DIO_LATCH as it stood one and two fc ago: the
gates of the drivers follow it by 2 fc (R27). -/
structure DioSt where
  ch : List DioCh
  grp : List DioGrp
  pipe : List LatchOp
  gate1 : Nat
  gate2 : Nat
  deriving DecidableEq, Repr

/-- One current-loop channel beside its registers: whether a readback was made since READY, run times since which the current is short, since which no readback is
short, of the rise of COMPLIANCE and of FOLD; whether the alarm was raised; the code held in the safe state; the points
recorded since TRIM was set, and the fc of that write. -/
structure AoCh where
  read : Bool
  short : Option Nat
  okSince : Nat
  complSince : Nat
  alarmed : Bool
  foldSince : Nat
  safeCode : Nat
  seen1 : Bool
  seen2 : Bool
  trimFc : Option Nat
  deriving DecidableEq, Repr

/-- The AO unit beside its registers: channels; the watchdog's last start, whether it runs, the last refresh (or READY). -/
structure AoSt where
  ch : List AoCh
  wdStart : Nat
  wdRun : Bool
  wdLast : Nat
  deriving DecidableEq, Repr

/-! ### Analogue front end (06), filter chain (08), housekeeping converter (07) -/

/-- A converter beside its registers: run time of its last calibration, samples since a code limit (R209, up to 16), the
match term (Δg, Δo) it carries with the index j of its next sample (R206, R210). -/
structure CvSt where
  calAt : Nat
  quiet : Nat
  term : Option (Rat × Rat × Nat)
  deriving DecidableEq, Repr

/-- A repointing step in SHADOW (R204–R206): target and spare, edges so far, valid pairs and their sums (target, spare, spare
squared, product), smallest and largest code of the spare; once computed, the match term, or none beyond the limits. -/
structure RptStep where
  target : Nat
  spare : Nat
  edges : Nat
  pairs : Nat
  sT : Int
  sS : Int
  sSS : Int
  sST : Int
  lo : Int
  hi : Int
  term : Option (Option (Rat × Rat))
  deriving DecidableEq, Repr

/-- A match window (R195, R198): samples, usable ones, sums of x, y, x², xy for the fit of y against x. -/
structure MatchWin where
  n : Nat
  used : Nat
  sx : Int
  sy : Int
  sxx : Int
  sxy : Int
  deriving DecidableEq, Repr

/-- A channel beside its registers: match window; in interleaved mode the last four codes of converter B (R194), the last A
sample, and the B sample that waits for its second neighbour. -/
structure AfeCh where
  win : MatchWin
  bq : List Int
  aLast : Option Int
  bMid : Option (Int × Int)
  deriving DecidableEq, Repr

/-- The proof DAC's user (R217): a calibration of converter v, or a proof test. -/
inductive DacUser where
  | calib (v : Nat)
  | proof
  deriving DecidableEq, Repr

/-- An AFE group beside its registers: converters, channels, the step in SHADOW, run time from which INTERVAL counts; user
of the proof DAC, and those who have asked for it or will, with the CCLK edge of their request (R217); whether a firing has set the
map since power-on (R188); TEST of the running proof test (R222); words that sealed registers held until an instant of the
oscillator's scale (instant, offset, word), newest first (R226). -/
structure AfeGrp where
  cvs : List CvSt
  chs : List AfeCh
  step : Option RptStep
  stepFrom : Nat
  dac : Option DacUser
  dacWait : List (Nat × DacUser)
  mapped : Bool
  test : Nat
  was : List (Nat × Nat × Nat)
  deriving DecidableEq, Repr

/-- A channel of the filter unit: input samples of stage A in its span (instant on the oscillator's scale, sample), newest
first; stage-A outputs, newest first, which are the history of stage B; stage-A outputs still to mark; stage-B outputs
(represented instant, sample), newest first. -/
structure FltCh where
  ins : List (Nat × Sample)
  aOut : List Sample
  aUns : Nat
  bOut : List (Nat × Sample)
  deriving DecidableEq, Repr

/-- A stage-B profile beside its registers: stage-A index of its next output; target of a fade (R265), its queue, outputs made
and length of the fade (0 before its first output), the stage-A index from which it may start; whether the governor has
stopped it, and whether the reset of R261 is due; requests registered in this fc (R263, R270); where the interleaved channels
have made the next output already (R258), the coefficients it took, none while the profile did not run. -/
structure FltProf where
  next : Nat
  target : Option Nat
  queue : Option Nat
  j : Nat
  l : Nat
  start : Nat
  stopped : Bool
  resume : Bool
  reqs : List Nat
  early : Option (Option (List Int))
  deriving DecidableEq, Repr

/-- The filter unit beside its registers: whether it has started (R249), origin E0 on the oscillator's scale, next stage-A index
of the interleaved channels and of the others (R248), channels, profiles. -/
structure FltSt where
  started : Bool
  e0 : Nat
  kIl : Nat
  k : Nat
  ch : List FltCh
  prof : List FltProf
  deriving DecidableEq, Repr

/-- A request to the housekeeping converter (R232): sequence number, source, N, SHIFT. -/
structure HkcReq where
  seq : Nat
  src : Nat
  n : Nat
  shift : Nat
  deriving DecidableEq, Repr

/-- An entry of the tagged queue (R245); tw in 2^−16 ns. -/
structure HkcEntry where
  req : HkcReq
  epoch : Nat
  ovr : Bool
  calf : Bool
  value : Nat
  tw : Nat
  deriving DecidableEq, Repr

/-- A conversion in progress (R233): its request, the run time of its start, the instant of its first sample on the oscillator's
scale (R24), the sense node it converts. -/
structure HkcCur where
  req : HkcReq
  start : Nat
  inst : Nat
  node : Nat
  deriving DecidableEq, Repr

/-- The housekeeping converter beside its registers: the conversion in progress, held requests, entries, the fc of a
calibration request that has not started, run times of the last calibration and of the last passing one; the fc after which
the next request may start (R237); an entry that met a full queue in this fc (R243). -/
structure HkcSt where
  cur : Option HkcCur
  held : List HkcReq
  q : List HkcEntry
  calReq : Option Nat
  lastCal : Nat
  lastPass : Nat
  freeFc : Nat
  late : Option HkcEntry
  deriving DecidableEq, Repr

/-! ### Acquisition (11) -/

/-- An item the acquisition unit receives (R340): stage-A outputs of index k, stage-B outputs of a profile, a grid sample,
an update's phasor words, a burst sample of a channel, an event record, a force of trigger units. -/
inductive FeedIt where
  | stageA (il : Bool) (k : Nat) (words : List Nat)
  | stageB (p i : Nat) (words : List (Nat × Nat))
  | grid (g k : Nat) (words : List (Nat × Nat))
  | phasor (f u : Nat) (words : List Nat)
  | burst (n word : Nat)
  | event (e : EvRec)
  | force (units : Nat)
  deriving DecidableEq, Repr

/-- An item with the instant it represents: on the oscillator's scale, as a time word (2^−16 ns), angle word and cycle
count, epoch, tracker state. -/
structure Feed where
  inst : Nat
  tw : Nat
  angle : Nat
  cycle : Nat
  epoch : Nat
  trk : Nat
  it : FeedIt
  deriving DecidableEq, Repr

/-- A trigger unit beside its registers (R344–R349): parameters taken at arm; the pulse or rise in progress, the dip in
progress or the TIMEOUT count, the values of a slew, the last match of a pattern; run times of its last hit since arm and of its
arming. -/
structure TuSt where
  a : Nat
  b : Nat
  c : Nat
  qual : Nat
  run : Nat
  cnt : Nat
  hist : List Int
  pat : Option Bool
  hitAt : Option Nat
  armedAt : Nat
  deriving DecidableEq, Repr

/-- The trigger of a record (R351, R352); `early` says that it lies before the oldest frame held. -/
structure TrigRec where
  frame : Nat
  early : Bool
  fired : Nat
  hits : Nat
  primary : Nat
  dye : Nat
  forced : Bool
  bus : Bool
  inst : Nat
  tw : Nat
  angle : Nat
  cycle : Nat
  epoch : Nat
  trk : Nat
  deriving DecidableEq, Repr

/-- A frame kept or written: its instant on the oscillator's scale, time word, stage-A index. -/
structure FrameAt where
  inst : Nat
  tw : Nat
  k : Nat
  deriving DecidableEq, Repr

/-- A capture or a reduction engine beside its registers: PRE and POST taken at arm, its segment, frames since arm, the
instants of the frames still held (newest first), its trigger, epoch at arm and whether it changed, lines received, index
of the first frame not stored, bytes read in stream mode, record number, items of the frame or grid cycle being assembled,
frames of the reduction span being assembled, RATIO of its channels at arm, whether only STOP ends it (R359), the fc in which its
capture re-arms (R358). -/
structure RecSt where
  pre : Nat
  post : Nat
  seg : Nat
  frames : Nat
  insts : List FrameAt
  trig : Option TrigRec
  epoch0 : Nat
  epochChg : Bool
  busin : Nat
  ovf : Option Nat
  readTo : Nat
  seq : Nat
  cyc : List Feed
  span : List (FrameAt × List Nat)
  ratios : List Nat
  endless : Bool
  again : Option Nat
  deriving DecidableEq, Repr

/-- The acquisition unit beside its registers: items received, the digital words over time (instant of each change, the
words of R343), trigger units, captures, reduction engines, assertions of bus lines that wait (line, time word), run time
since which a line is driven and of its last edge, time word of the last TRC edge. -/
structure AcqSt where
  feed : List Feed
  dig : List (Nat × List Nat)
  tu : List TuSt
  cap : List RecSt
  rd : List RecSt
  lineDue : List (Nat × Nat)
  lineAt : List (Nat × Nat)
  edgeAt : List (Nat × Nat)
  trcAt : Option Nat
  deriving DecidableEq, Repr

/-! ### The mordant seal and the audit log (12) -/

/-- An audit record (R407); tw is the 96-bit value of R35, chain the first 8 bytes of the hash; and whether it was read. -/
structure AuditRec where
  seq : Nat
  tw : Nat
  epoch : Nat
  kind : Nat
  access : Nat
  width : Nat
  target : Nat
  before : Nat
  after : Nat
  stamp : Nat
  chain : Nat
  crc : Nat
  read : Bool
  deriving DecidableEq, Repr

/-- A change the always-on domain watched while unpowered (R404): KIND, RTC second, count before. -/
structure VbatRec where
  kind : Nat
  sec : Nat
  before : Nat
  deriving DecidableEq, Repr

/-- The audit log, oldest record first, the bytes its chain continues from, the next sequence number, records held on VBAT,
the count of closings. -/
structure AudSt where
  recs : List AuditRec
  last : List Byte
  next : Nat
  held : List VbatRec
  closes : Nat
  deriving DecidableEq, Repr

/-- A commit record of R395 without its MAGIC and CRC. -/
structure TotRec where
  seq : Nat
  tw : Nat
  epoch : Nat
  cause : Nat
  final : Bool
  invalid : Bool
  stamp : Nat
  runset : Nat
  values : List Nat
  deriving DecidableEq, Repr

/-- A feeder's energy metering beside its registers: the stage-A index of the last stage-B instant metered; sums of the open
window: p, |p| and the time in W·ns and ns, Q, P1 and their time in W·ms and ms, p of each phase, whether anything was
replaced (R378–R381); mean power of each phase in the last window without replacement; since when each phase has been
replaced; replaced time in ns; the index of the open window. -/
structure MtrFdr where
  last : Option Nat
  p : Rat
  abs : Rat
  dt : Rat
  q : Rat
  p1 : Rat
  dtq : Rat
  ph : List Rat
  repl : Bool
  mean : List Rat
  since : List (Option Nat)
  qt : Rat
  win : Nat
  deriving DecidableEq, Repr

/-- Increments of a run's cycle that wait for the output course (R387): the run time of its sync instant, mass in g, volume
in mL, energy in J, fault mass in g. -/
structure RunInc where
  sync : Nat
  mass : Rat
  vol : Rat
  energy : Rat
  fault : Rat
  deriving DecidableEq, Repr

/-- A metering run beside its registers: the run time of the sync instant of the last delivered cycle (R387), last good flow,
pressure and temperature with their run times and ρ, h of the last good cycle (R390), increments not delivered yet,
whether its core was shed since (R599). -/
structure MtrRun where
  lastSync : Option Nat
  flow : Option (Rat × Nat)
  pres : Option (Rat × Nat)
  temp : Option (Rat × Nat)
  props : Option (Rat × Rat)
  inc : Option RunInc
  shed : Bool
  deriving DecidableEq, Repr

/-- A commit course the MTR unit is to prepare at once: CAUSE, and the totaliser and value of a preset (R393, R413). -/
structure CommitWish where
  cause : Nat
  preset : Option (Nat × Nat)
  deriving DecidableEq, Repr

/-- The MTR unit beside its registers: working accumulators in 2^−32 of the unit, committed values (R376), the commit banks
in MRAM, the record being written, the one held (R397), the next SEQ, whether records carry INVALID_START and whether
ACCEPT has asked to end that (R399, R413), whether the final snapshot was taken (R401), commit courses to prepare, the fc
in which the last one set or was discarded, feeders, runs. -/
structure MtrSt where
  work : List Nat
  comm : List Nat
  bankA : Option TotRec
  bankB : Option TotRec
  writing : Option TotRec
  held : Option TotRec
  nextSeq : Nat
  invalid : Bool
  accepted : Bool
  final : Bool
  want : List CommitWish
  doneFc : Nat
  fdr : List MtrFdr
  run : List MtrRun
  deriving DecidableEq, Repr

/-! ### Host interface (21) -/

/-- An interface's copy of a snapshot group (R649): interface, group base offset, words. -/
structure SnapCopy where
  ifc : Iface
  base : Nat
  words : List Nat
  deriving DecidableEq, Repr

/-- Access state of one interface (R644–R647). -/
structure AccSt where
  level : Level
  lockFrom : Option Nat
  fails : Nat
  used : Nat
  deriving DecidableEq, Repr

/-- The host interface beside its registers: access state per interface, passphrase words, snapshot copies, MSI-X table,
pending vectors, last messages, flags of the SPI status, the W1C bits that hardware set in the present fc as offsets and masks
(R8). -/
structure HstSt where
  acc : List AccSt
  pw : List Nat
  snaps : List SnapCopy
  msix : List Nat
  vpend : Nat
  vlast : List (Option Nat)
  spiStat : Nat
  setNow : List (Nat × Nat)
  wrNow : List (Nat × Nat × Bool)
  deriving DecidableEq, Repr

/-- What the module put out at its pins, ports and buses, in order (the model's own record of outputs, log 14). -/
inductive TxItem where
  | msix (vector addr data : Nat)
  | readData (ifc : Iface) (off value : Nat)
  | frame (port : Nat) (tag : Option (Nat × Nat)) (what : TxFrame)
  | frameCut (port : Nat)
  | wFrame (count : Nat) (what : WFrame)
  | hostWrite (addr : Nat) (bytes : List Byte)
  | busLine (l : Nat) (level : Bool)
  | spiOut (words : List Nat)
  | ppsOut (level : Bool)
  deriving DecidableEq, Repr

/-- The state of the machine.  `variant` says which of R1's two it is and never changes; `streams` holds the newest samples of each ring stream (key 0x10000 + entry) and subscribed
sampled-value stream (0x20000 + number), newest first, with their instants on the oscillator's scale. -/
@[ext]
structure State where
  variant : Variant
  regs : List (Nat × Word)
  dram : List Host.Cell
  tm : TimeSt
  tbu : TbuSt
  ang : AngSt
  evt : EvtSt
  crs : CrsSt
  pwr : PwrSt
  kln : KlnSt
  grids : List (List GSample)
  prt : PrtSt
  dio : DioSt
  ao : AoSt
  afe : List AfeGrp
  flt : FltSt
  streams : List (Nat × List (Nat × Sample))
  hkc : HkcSt
  acq : AcqSt
  aud : AudSt
  mtr : MtrSt
  blk : BlkSt
  yul : YulSt
  eth : EthSt
  wyt : WytSt
  hst : HstSt
  tx : List TxItem
  freeCtr : Nat
  pending : List Instr
  deriving DecidableEq, Repr

/-! ### Power-on reset (R581, R592) -/

/-- The parts that start in their own slot (R582, R686), by SEC_ID. -/
def partIds : List Nat :=
  [0x0000, 0x0100, 0x0200, 0x0300, 0x0500, 0x0600] ++ (List.range 8).map (0x1000 + ·) ++ [0x1800] ++ (List.range 16).map (0x2000 + ·) ++
  (List.range 12).map (0x3000 + ·) ++ (List.range 16).map (0x3040 + ·) ++ [0x4000] ++ (List.range 17).map (0x5000 + ·) ++
  (List.range 4).map (0x6000 + ·) ++ [0x7000] ++ (List.range 5).map (0x8000 + ·) ++ [0x9000, 0xA000, 0xA001, 0xB000, 0xC000]

/-- A part before the firing: HST, PWR and KLN wait for the sequencer, every other part is OFF (R684). -/
def Part.reset (id : Nat) : Part :=
  ⟨id, if id = 0x0000 ∨ id = 0x0100 ∨ id = 0x0500 then .waiting else .off, 0, false, false, false, none, false⟩

/-- A course slot never used. -/
def Slot.reset : Slot :=
  { st := .free, gen := 0, port := 0, sched := .immediate, policy := 0, acts := [], evt := false, rset := false,
    ringFrame := none, lateFlag := false, deadline := none, accFc := 0, seq := 0, mirror := .no, mirSeq := 0, srcId := 0,
    status := 0, ovr := false, miss := false, next := false, act := 0, recTw := 0, recAngle := 0, recCycle := 0, recTrk := 0,
    recEpoch := 0, outcome := none, setFc := 0, tag := .none, entries := [] }

/-- Time and angle: the time word is zero, as after an invalid RTC (R76, log 5); run time and angle zero (R36, R51). -/
def TimeSt.reset : TimeSt :=
  { time := 0, prev := 0, reach := 0, runt := 0, nom := 0, inc := 10737418240, div := 1, fc := 0, segs := [] }

def PtpPort.reset : PtpPort :=
  { st := .listening, best := none, sender := 0, bestAt := 0, syncRx := none, syncLog := 0, lastSync := none, reqTx := none,
    pdResp := none, mpd := 0, ofs := 0, mpdValid := false, ofsValid := false, devs := [], shiftAt := none, single := false,
    divBadAt := 0, mpdBadAt := 0, sent := [], fresh := false, txq := [] }

def TbuSt.reset : TbuSt :=
  { meas := [], rate := 10737418240, ofs := 0, e0 := 0, hoEntry := 0, hoStart := 0, ports := List.replicate 4 PtpPort.reset,
    slewAsym := false, lone := false, ppsHigh := false, ppsRise := 0 }

def RefEst.reset : RefEst := ⟨0, 50 * 2 ^ 24, 0, 0, 0, []⟩

def AngSt.reset : AngSt :=
  { acc := 0, prev := 0, cycle := 0, pri := RefEst.reset, alt := RefEst.reset, rangeCnt := 0, hist := [], pullDue := false,
    cross := List.replicate 16 [], tup := ⟨0, 0, 50 * 2 ^ 24⟩ }

def EvtSt.reset : EvtSt :=
  { raised := [], takenFc := 0, taken := 0, grouts := [], hq := [], soe0 := [], soeGen := [], refusedNow := 0, windowIdx := 0,
    maxCls := List.replicate 4 0, dump := none }

def CrsSt.reset : CrsSt := ⟨List.replicate 192 Slot.reset, 0, [], 0, [], [], []⟩

def CoreSt.reset : CoreSt := ⟨none, none, none, none, 0, 0, [], [], none, 0, false, none, none⟩

def BlkSt.reset : BlkSt := ⟨List.replicate 4 CoreSt.reset, List.replicate 8 none, none⟩

def YulSt.reset : YulSt :=
  { next := 0, sent := none, sentAt := 0, ports := [], back := [], answered := [], acks := [], tags := [], committed := [],
    scanCnt := none, found := 0, toLine := none, turners := [], leaving := none, stn := List.replicate 64 ⟨0, 0, none, none⟩, cyc := none, kept := [],
    snap := [], applyAt := none, ackedIn := none, safe := false, missed := false, applyFail := false, validAt := 0, staOut := 0,
    staIn := 0, staLink := 0, seen := [], checked := 0 }

def EthSt.reset : EthSt :=
  { gp := List.replicate 32 ⟨0, 0, 0, none, 0, []⟩, gs := List.replicate 128 ⟨0, 0, 0, 0, false⟩, svp := List.replicate 8 0,
    svs := List.replicate 8 none, dup := [], superv := 0, ptx := List.replicate 4 ⟨[], none⟩, redSeq := 0 }

def WytSt.reset : WytSt :=
  { hbAt := none, readyAt := 0, same := 0, differ := 0, sameSide := 0, ringHeard := false, tripf := 0, trips := [], own := [],
    theirs := [], base := none, refire := none, pRefiring := false, pStamp := 0, calmAt := none, hbIdx := 0, hbSeen := false,
    lost := false, frames := 0 }

/-- The power unit at the first fc after VIN became good. -/
def PwrSt.reset : PwrSt :=
  { parts := partIds.map Part.reset, vinGoodAt := 0, lostAt := 0, rideStart := 0, lowest := 0, nextSlot := 0, slotShift := 0,
    endSeq := none, unpowered := false, standby := false, clockPending := none, heldReset := none, heldSince := 0, sampleAt := 0, warmBusy := false,
    lastStart := 0, lastReady := 0, rtcSec := 0, rtcSub := 0, rtcValid := false, lastCharge := 0, vbatAt := none }

/-- No image is stored, the key slots are as the OTP register reads, nothing is fired. -/
def KlnSt.reset : KlnSt :=
  { u0 := [], u1 := [], otpProg := 1, otpRev := 0, fired := 3, firedDigest := 0, firedKey := 0, secs := [], journal := [],
    op := none, staged := [], image := [], imageOld := [], refiring := [], blocks := [], digestOp := none, digestEng := none, keptOp := none,
    keptEng := none }

/-- Lanes of an element slot (R282). -/
def elemLanes (e : Nat) : Nat := if e < 3 ∨ e = 5 ∨ e = 7 ∨ e = 8 ∨ (12 ≤ e ∧ e ≤ 15) then 3 else 1

def FdrSt.reset : FdrSt :=
  { elems := (List.range 24).map fun e => ⟨List.replicate (elemLanes e) ⟨false, 0, 0, 0, 0, false, false, false⟩, false⟩,
    upd := none, full := [], half := [], v1mem := [none, none], bfStart := none, bfPick := false, holdAt := none, powClose := none, powOpen := none }

def PrtSt.reset : PrtSt := ⟨List.replicate 12 FdrSt.reset, List.replicate 128 ⟨0, 0, none⟩, []⟩

def DioSt.reset : DioSt :=
  { ch := List.replicate 32
      { zone := .below, rawOld := false, rawFc := 0, rawRise := 0, tickAt := 0, yLast := none, yRise := 0, gateStart := 0,
        edgeFirst := none, edgeLast := 0, edges := 0, ovlOff := false, retryAt := 0, released := false, openOff := false,
        holdStart := 0 },
    grp := List.replicate 2 ⟨0, 0, 0, 0, false, 0⟩, pipe := [], gate1 := 0, gate2 := 0 }

def AoSt.reset : AoSt := ⟨List.replicate 8 ⟨false, none, 0, 0, false, 0, 0, false, false, none⟩, 0, false, 0⟩

def AfeGrp.reset : AfeGrp :=
  { cvs := List.replicate 18 ⟨0, 0, none⟩, chs := List.replicate 8 ⟨⟨0, 0, 0, 0, 0, 0⟩, [], none, none⟩, step := none, stepFrom := 0,
    dac := none, dacWait := [], mapped := false, test := 0, was := [] }

def FltSt.reset : FltSt :=
  { started := false, e0 := 0, kIl := 0, k := 0, ch := List.replicate 64 ⟨[], [], 0, []⟩,
    prof := List.replicate 16 ⟨0, none, none, 0, 0, 0, false, false, [], none⟩ }

def HkcSt.reset : HkcSt := ⟨none, [], [], none, 0, 0, 0, none⟩

def RecSt.reset : RecSt :=
  { pre := 0, post := 0, seg := 0, frames := 0, insts := [], trig := none, epoch0 := 0, epochChg := false, busin := 0, ovf := none,
    readTo := 0, seq := 0, cyc := [], span := [], ratios := [], endless := false, again := none }

def AcqSt.reset : AcqSt :=
  { feed := [], dig := [], tu := List.replicate 16 ⟨0, 0, 0, 0, 0, 0, [], none, none, 0⟩, cap := List.replicate 8 RecSt.reset,
    rd := List.replicate 5 RecSt.reset, lineDue := [], lineAt := [], edgeAt := [], trcAt := none }

def MtrFdr.reset : MtrFdr := ⟨none, 0, 0, 0, 0, 0, 0, [0, 0, 0], false, [0, 0, 0], [none, none, none], 0, 0⟩

def MtrSt.reset : MtrSt :=
  { work := List.replicate 160 0, comm := List.replicate 160 0, bankA := none, bankB := none, writing := none, held := none,
    nextSeq := 1, invalid := false, accepted := false, final := false, want := [], doneFc := 0,
    fdr := List.replicate 12 MtrFdr.reset, run := List.replicate 16 ⟨none, none, none, none, none, none, false⟩ }

/-- The audit log as at manufacture (R407). -/
def AudSt.reset : AudSt := ⟨[], [], 1, [], 0⟩

/-- Both interfaces at read level (R645); the MSI-X table with every vector masked (log 6). -/
def HstSt.reset : HstSt :=
  { acc := List.replicate 2 ⟨.read, none, 0, 0⟩, pw := List.replicate 8 0, snaps := [],
    msix := (List.replicate 32 [0, 0, 0, 1]).flatten, vpend := 0, vlast := List.replicate 32 none, spiStat := 0, setNow := [], wrNow := [] }

/-- The machine right after power-on reset, before the sequencer's slot 0: every register at its reset word, no image stored,
nothing fired, no command waiting.  It is an AK960-X; an AK960-B is the same state with its variant (log 2). -/
def State.reset : State :=
  { variant := .x, regs := [], dram := [], tm := TimeSt.reset, tbu := TbuSt.reset, ang := AngSt.reset, evt := EvtSt.reset, crs := CrsSt.reset,
    pwr := PwrSt.reset, kln := KlnSt.reset, grids := List.replicate 16 [], prt := PrtSt.reset, dio := DioSt.reset, ao := AoSt.reset,
    afe := List.replicate 8 AfeGrp.reset, flt := FltSt.reset, streams := [], hkc := HkcSt.reset, acq := AcqSt.reset,
    aud := AudSt.reset, mtr := MtrSt.reset, blk := BlkSt.reset, yul := YulSt.reset, eth := EthSt.reset, wyt := WytSt.reset,
    hst := HstSt.reset, tx := [], freeCtr := 0, pending := [] }

end Sys2Proof.Machine
end

