-- ==== Sys2Proof/Machine/Ops.lean ====
section
/-!
DEFINITION. The named operations over State that every unit's meanings share: the register file, the memories, time words,
free values, interrupts (R654, R655), raising an event (R514, R519), availability of units and parts (R587, R686), and the
record of what the module put out.
-/
namespace Sys2Proof.Machine

/-- The answer of a meaning. -/
abbrev Out := Host.Outcome State Fault Refusal

/-- A command that names no part of the module changes nothing (log 1). -/
def State.only (s : State) (c : Bool) (o : Out) : Out := if c then o else .next s

/-! ### Registers -/

/-- The word a register holds. -/
def State.rd (s : State) (off : Nat) : Nat := ((Sparse.find s.regs off).getD (resetWord off)).toNat

/-- The word the fired image gives a register. -/
def State.imageWord (s : State) (off : Nat) : Nat := ((Sparse.find s.kln.image off).getD (resetWord off)).toNat

/-- Put a word into a register, keeping the register file canonical. -/
def State.wr (s : State) (off v : Nat) : State :=
  { s with regs := Sparse.put s.regs off (if BitVec.ofNat 32 v = resetWord off then none else some (BitVec.ofNat 32 v)) }

/-- The value of a field. -/
def State.getF (s : State) (f : Fld) : Nat := bits (s.rd f.off) f.hi f.lo

/-- Whether a field is not zero. -/
def State.flag (s : State) (f : Fld) : Bool := s.getF f != 0

/-- The value of a field read as a signed number. -/
def State.getI (s : State) (f : Fld) : Int := toSigned (f.hi - f.lo + 1) (s.getF f)

/-- Put a value into a field; the register's other bits stay. -/
def State.setF (s : State) (f : Fld) (v : Nat) : State :=
  s.wr f.off (maskPut (s.rd f.off) ((2 ^ (f.hi - f.lo + 1) - 1) * 2 ^ f.lo) (v % 2 ^ (f.hi - f.lo + 1) * 2 ^ f.lo))

/-- Put a signed value into a field (two's complement, wrapping). -/
def State.setI (s : State) (f : Fld) (v : Int) : State := s.setF f (ofSigned (f.hi - f.lo + 1) v)

/-- Put a truth value into a one-bit field. -/
def State.setB (s : State) (f : Fld) (b : Bool) : State := s.setF f (b2n b)

/-- Add to a counter field that saturates. -/
def State.incF (s : State) (f : Fld) (n : Nat := 1) : State := s.setF f (satAdd (f.hi - f.lo + 1) (s.getF f) n)

/-- Add to a counter field that wraps. -/
def State.wrapF (s : State) (f : Fld) (n : Nat := 1) : State := s.setF f (s.getF f + n)

/-- Set or clear one bit of a field. -/
def State.setBit (s : State) (f : Fld) (i : Nat) (b : Bool) : State := s.setF f (putBit (s.getF f) i b)

/-! ### Memory -/

/-- Size of DRAM of a variant (R1). -/
def Variant.dram (v : Variant) : Nat := if v = .x then 0x80000000 else 0x40000000

/-- Size of the module's DRAM. -/
def State.dramSize (s : State) : Nat := s.variant.dram

/-- Capture memory of a variant (R1). -/
def Variant.capture (v : Variant) : Nat := if v = .x then 0x60000000 else 0x30000000

/-- Where the trace ring begins in DRAM (R534), the host area, and supervisor memory (R653). -/
def State.traceBase (s : State) : Nat := s.variant.capture
def State.hostArea (s : State) : Nat := s.variant.capture + 0x4000000
def State.superMem (s : State) : Nat := if s.variant = .x then 0x74000000 else 0x3C000000

/-- An address lies in the host area (R653). -/
def State.inHostArea (s : State) (a : Nat) : Bool := decide (s.hostArea ≤ a ∧ a < s.superMem)

/-- HST_UNIT_PRES of a variant (R1, R3): the AFE groups, DIO groups and AO channels fitted, and 2 GiB of DRAM. -/
def Variant.pres (v : Variant) : Nat := if v = .x then 0x01FF03FF else 0x000F010F

/-- The AFE group, DIO group, or channel is fitted in a variant (R1). -/
def Variant.hasAfe (v : Variant) (g : Nat) : Bool := decide (g < 8) && v.pres.testBit g
def Variant.hasAi (v : Variant) (n : Nat) : Bool := v.hasAfe (n / 8)
def Variant.hasDioGrp (v : Variant) (g : Nat) : Bool := decide (g < 2) && v.pres.testBit (8 + g)
def Variant.hasDio (v : Variant) (n : Nat) : Bool := v.hasDioGrp (n / 16)
def Variant.hasAo (v : Variant) (n : Nat) : Bool := decide (n < 8) && v.pres.testBit (16 + n)

/-- The AFE group, DIO group, or channel is fitted. -/
def State.hasAfe (s : State) (g : Nat) : Bool := s.variant.hasAfe g
def State.hasAi (s : State) (n : Nat) : Bool := s.variant.hasAi n
def State.hasDioGrp (s : State) (g : Nat) : Bool := s.variant.hasDioGrp g
def State.hasDio (s : State) (n : Nat) : Bool := s.variant.hasDio n
def State.hasAo (s : State) (n : Nat) : Bool := s.variant.hasAo n

/-- A register block or a per-channel register of an absent unit or channel, which reads zero and ignores writes (R2): AFE groups,
registers of DIO groups and channels, of AO channels, of the filter unit's channels. -/
def State.absent (s : State) (off : Nat) : Bool :=
  let at_ := fun (base stride count : Nat) =>
    if base ≤ off ∧ off < base + stride * count then some ((off - base) / stride) else none
  match off / 0x10000 with
  | 0x10 => !s.hasAfe (off / 0x1000 % 16)
  | 0x20 => ((at_ (Reg.FLT_CH_STAT 0) 4 64).any fun n => !s.hasAi n) || ((at_ (Reg.FLT_GD 0) 4 64).any fun n => !s.hasAi n)
  | 0xA0 => ((at_ (Reg.DIO_G_SUP 0) 0x20 2).any fun g => !s.hasDioGrp g) || ((at_ (Reg.DIO_CH_CFG 0) 0x20 32).any fun n => !s.hasDio n)
  | 0xB0 => (at_ (Reg.AO_CH_CFG 0) 0x40 8).any fun n => !s.hasAo n
  | _ => false

/-- Read bytes of DRAM. -/
def State.dramRd (s : State) (a n : Nat) : List Byte := Mem.rdN s.dram a n

/-- Write bytes of DRAM; bytes beyond its end are not there to be written. -/
def State.dramWr (s : State) (a : Nat) (bs : List Byte) : State := { s with dram := Mem.wrN s.dram a (bs.take (s.dramSize - a)) }

/-! ### Lists -/

/-- Replace the entry at an index. -/
def upd {α : Type} (l : List α) (i : Nat) (f : α → α) : List α := l.modify i f

/-! ### Time (R12, R32–R37, R73) -/

/-- One second and one nanosecond in 2^−32 ns. -/
def ns32 : Nat := 2 ^ 32
def sec32 : Nat := 1000000000 * 2 ^ 32

/-- One second in 2^−16 ns. -/
def sec16 : Nat := 1000000000 * 2 ^ 16

/-- The time word as a count of 2^−16 ns: the fraction field is the upper 16 bits, truncated (R73). -/
def State.tw (s : State) : Nat := s.tm.time / 2 ^ 16

/-- A count of 2^−16 ns as the 96-bit value of R12: seconds, nanoseconds, fraction. -/
def twPack (t : Nat) : Nat := t / sec16 % 2 ^ 48 * 2 ^ 48 + t % sec16

/-- The count of 2^−16 ns a 96-bit value of R12 stands for. -/
def twUnpack (v : Nat) : Nat := v / 2 ^ 48 * sec16 + v % 2 ^ 48

/-- A 96-bit time word is malformed when its nanoseconds exceed 999,999,999 (R681). -/
def twBad (v : Nat) : Bool := decide (v % 2 ^ 48 / 2 ^ 16 > 999999999)

/-- The 96-bit value three registers of R35 hold. -/
def State.rd96 (s : State) (off : Nat) : Nat := s.rd off + s.rd (off + 4) * 2 ^ 32 + s.rd (off + 8) * 2 ^ 64

/-- Put a 96-bit value into three registers (R35). -/
def State.wr96 (s : State) (off v : Nat) : State := ((s.wr off v).wr (off + 4) (v / 2 ^ 32)).wr (off + 8) (v / 2 ^ 64)

/-- Put a time word, counted in 2^−16 ns, into three registers (R35). -/
def State.wrTw (s : State) (off t : Nat) : State := s.wr96 off (twPack t)

/-- Put a 64-bit value into two registers, low word first. -/
def State.wr64 (s : State) (off v : Nat) : State := (s.wr off v).wr (off + 4) (v / 2 ^ 32)

/-- The 64-bit value of two registers, low word first. -/
def State.rd64 (s : State) (off : Nat) : Nat := s.rd off + s.rd (off + 4) * 2 ^ 32

/-- Run time in whole nanoseconds (R36). -/
def State.runNs (s : State) : Nat := s.tm.runt / 2 ^ 32

/-- Whether a timeout that started at a run time (2^−32 ns) with a duration in ns has expired (R37). -/
def State.expired (s : State) (start durNs : Nat) : Bool := decide (start + durNs * 2 ^ 32 ≤ s.tm.runt)

/-- The angle word: the upper 32 bits of the accumulator (R41). -/
def State.angle (s : State) : Nat := s.ang.acc / 2 ^ 16

/-- The position of R39. -/
def State.pos (s : State) : Nat := s.ang.cycle * 2 ^ 32 + s.angle

/-- The epoch counter. -/
def State.epoch (s : State) : Nat := s.getF Reg.TBU_EPOCH_EPOCH

/-! ### Free values (log 8) -/

/-- The next free value of w bits. -/
def State.freeBits (s : State) (w : Nat) : Nat := Config.freeValue s.freeCtr % 2 ^ w

/-- The free values so far are used up. -/
def State.bump (s : State) : State := { s with freeCtr := s.freeCtr + 1 }

/-- What a converter's calibration measured, offset and gain: free where the command does not say (log 8). -/
def State.measured (s : State) (c : Option (Int × Nat)) : (Int × Nat) × State :=
  match c with
  | some c => (c, s)
  | none => ((toSigned 32 (s.freeBits 32), s.bump.freeBits 32), s.bump.bump)

/-! ### Outputs -/

/-- The module puts something out (log 14). -/
def State.out (s : State) (t : TxItem) : State := { s with tx := s.tx ++ [t] }

/-! ### Interrupts (R654, R655) -/

/-- UNIT_IRQ and UNIT_IRQ_EN of source i, or the pair of a DMA channel. -/
def irqOffs (i : Nat) : Nat × Nat :=
  if i < 27 then
    match Blk.all.find? fun b => b.source == i with
    | some b => (Reg.UNIT_IRQ b, Reg.UNIT_IRQ_EN b)
    | none => (0, 0)
  else (Reg.HST_DMA_IRQ (i - 27), Reg.HST_DMA_IRQ_EN (i - 27))

/-- Whether source i is asserted: UNIT_IRQ AND UNIT_IRQ_EN is not zero. -/
def State.asserted (s : State) (i : Nat) : Bool := (s.rd (irqOffs i).1 &&& s.rd (irqOffs i).2) != 0

/-- Vector v becomes pending. -/
def State.pendVec (s : State) (v : Nat) : State := { s with hst := { s.hst with vpend := putBit s.hst.vpend v true } }

/-- After a change of an interrupt register of source i: when the source rose, its vector becomes pending (R655). -/
def State.rise (s : State) (was : Bool) (i : Nat) : State :=
  if !was && s.asserted i then s.pendVec (s.getF (Reg.HST_VMAP_VEC i)) else s

/-- Hardware sets bits of a register in this fc: a host write of the same fc that clears them leaves them set (R8). -/
def State.mark (s : State) (off m : Nat) : State := { s with hst := { s.hst with setNow := (off, m) :: s.hst.setNow } }

/-- The bits of a register that hardware set in this fc. -/
def State.setInFc (s : State) (off : Nat) : Nat := s.hst.setNow.foldl (fun (m : Nat) x => if x.1 = off then m ||| x.2 else m) 0

/-- A register write of this fc that a host write coming after it in the queue does not undo (R636): bits a course has set, and
against PCI Express bits SPI has written. -/
def State.wroteNow (s : State) (off m : Nat) (course : Bool) : State := { s with hst := { s.hst with wrNow := (off, m, course) :: s.hst.wrNow } }

/-- The bits of a register that a write of this fc over an interface leaves alone (R636). -/
def State.keptNow (s : State) (i : Iface) (off : Nat) : Nat :=
  s.hst.wrNow.foldl (fun (m : Nat) x => if x.1 = off ∧ (x.2.2 ∨ i = .pcie) then m ||| x.2.1 else m) 0

/-- Hardware sets a W1C flag. -/
def State.raise (s : State) (f : Fld) : State := (s.setF f 1).mark f.off (2 ^ f.lo)

/-- Hardware sets bit i of a W1C field. -/
def State.raiseBit (s : State) (f : Fld) (i : Nat) : State := (s.setBit f i true).mark f.off (2 ^ (f.lo + i))

/-- Hardware puts a value into a W1C field; the bits it turns to 1 count as set. -/
def State.tally (s : State) (f : Fld) (v : Nat) : State :=
  let t := s.setF f v
  t.mark f.off (t.rd f.off - (t.rd f.off &&& s.rd f.off))

/-- Hardware counts in a W1C counter that saturates. -/
def State.count (s : State) (f : Fld) (n : Nat := 1) : State := s.tally f (satAdd (f.hi - f.lo + 1) (s.getF f) n)

/-- Set bit i of a unit's UNIT_IRQ. -/
def State.irq (s : State) (b : Blk) (i : Nat) : State :=
  (s.raiseBit (Reg.UNIT_IRQ_IRQ b) i).rise (s.asserted b.source) b.source

/-- Set a bit of HST_DMAc_IRQ. -/
def State.dmaIrq (s : State) (c : Nat) (f : Fld) : State := (s.raise f).rise (s.asserted (27 + c)) (27 + c)

/-! ### Arrivals in the fc of an expiry (R66) -/

/-- A command of the present fc still waits that a timeout awaits: commands wait only within their fc (log 3). -/
def State.comes (s : State) (p : Instr → Bool) : Bool := s.pending.any p

/-! ### Events (R513–R519) -/

/-- A source identifier (R515). -/
def srcId (ty inst : Nat) : Nat := ty * 256 + inst

/-- Events of classes 1–3 that wait for intake. -/
def State.waiting (s : State) : Nat := s.evt.raised.countP fun r => r.ev.cls != 0

/-- Raise an event with given instants (R514): a class 1–3 event that finds the buffer of 4,096 entries full is dropped and
counted (R519); class-0 events never wait and are never dropped (R517). -/
def State.emitAt (s : State) (tw angle epoch src code cls value dye : Nat) : State :=
  if cls ≠ 0 ∧ s.waiting ≥ 4096 then
    (s.count Reg.EVT_INTAKE_LOST_COUNT).raise Reg.EVT_STAT_INTAKE_LOST
  else
    { s with evt := { s.evt with raised := s.evt.raised ++
        [⟨s.tm.fc, ⟨tw, angle, src, code, cls, dye, false, epoch, value % 2 ^ 64, 0⟩⟩] } }

/-- Raise an event at the instant of the present fc (R514). -/
def State.emit (s : State) (src code cls value : Nat) : State :=
  s.emitAt s.tw s.angle s.epoch src code cls value 0

/-- Raise an event whose value no rule states: a free value (log 17). -/
def State.emitOpen (s : State) (src code cls : Nat) : State := (s.emit src code cls (s.freeBits 64)).bump

/-! ### Units and parts (19) -/

/-- SEC_IDs of the parts that start in their own slot (R113, R582, R686). -/
def secPwr : Nat := 0x0100
def secHst : Nat := 0x0000
def secKln : Nat := 0x0500
def secEvt : Nat := 0x9000
def secTbu : Nat := 0x0200
def secCrs : Nat := 0x0600
def secAng : Nat := 0x0300
def secHkc : Nat := 0x1800
def secAcq : Nat := 0x4000
def secMtr : Nat := 0x5010
def secRun (r : Nat) : Nat := 0x5000 + r
def secYul : Nat := 0x7000
def secAo : Nat := 0xB000
def secWyt : Nat := 0xC000
def secDio (g : Nat) : Nat := 0xA000 + g
def secTile (i : Nat) : Nat := 0x3040 + i
def secFeeder (f : Nat) : Nat := 0x3000 + f
def secProf (p : Nat) : Nat := 0x2000 + p
def secAfe (g : Nat) : Nat := 0x1000 + g
def secCore (c : Nat) : Nat := 0x6000 + c
def secEth (p : Nat) : Nat := 0x8000 + p

/-- The part with a SEC_ID. -/
def State.part (s : State) (id : Nat) : Option Part := s.pwr.parts.find? fun p => p.id == id

/-- The state of a unit or part; OFF where there is none. -/
def State.partSt (s : State) (id : Nat) : PartState :=
  match s.part id with
  | some p => p.st
  | none => .off

/-- A unit or part is READY, that is ON (R587). -/
def State.on (s : State) (id : Nat) : Bool := s.partSt id == .on

/-- Change the entry of a unit or part. -/
def State.setPart (s : State) (id : Nat) (f : Part → Part) : State :=
  { s with pwr := { s.pwr with parts := s.pwr.parts.map fun p => if p.id = id then f p else p } }

/-- A part begins to stop (R587): for a refire, or shed by the governor. -/
def State.partHalt (s : State) (id : Nat) (refire shed : Bool) : State :=
  s.setPart id fun p => { p with st := .stopping, since := s.tm.runt, refire := p.refire || refire, shedAfter := shed, failed := false }

end Sys2Proof.Machine
end

