-- ==== Sys2Proof/Machine/Audit.lean ====
section
/-!
DEFINITION. The audit log (R404–R413) as far as other units write it, the judgement of a host write (R7, R9, R10, R644), and
an interface's copy of a snapshot group (R649).
-/
namespace Sys2Proof.Machine

/-! ### Audit records (R406–R410) -/

/-- Entries the log holds (R409). -/
def auditSize : Nat := 2048

/-- Free entries of the audit log. -/
def State.auditFree (s : State) : Nat := auditSize - s.aud.recs.length

/-- A change of KIND 1–4 or 9 needs n free entries beyond the 8 kept (R409). -/
def State.auditRoom (s : State) (n : Nat) : Bool := decide (n + 8 ≤ s.auditFree)

/-- Bytes 0x00–0x3B of an audit record (R407). -/
def AuditRec.body (r : AuditRec) : List Byte :=
  leBytes 4 r.seq ++ leBytes 12 r.tw ++ leBytes 1 r.epoch ++ leBytes 1 r.kind ++ leBytes 1 r.access ++ leBytes 1 r.width ++
  leBytes 4 r.target ++ leBytes 8 r.before ++ leBytes 8 r.after ++ leBytes 4 r.stamp ++ leBytes 4 0 ++ leBytes 8 r.chain ++
  leBytes 4 0

/-- The 64 bytes of an audit record (R407). -/
def AuditRec.bytes (r : AuditRec) : List Byte := r.body ++ leBytes 4 r.crc

/-- The first 8 bytes of a digest, read little-endian. -/
def digest8 (d : Nat) : Nat := leNat (beBytes 8 (d / 2 ^ 192))

/-- Whether the seal is open (MTR_SEAL_STAT.OPEN, R404). -/
def State.sealOpen (s : State) : Bool := s.flag Reg.MTR_SEAL_STAT_OPEN

/-- ACCESS byte of a record: level, interface (2 internal), seal (R407). -/
def State.auditAccess (s : State) (level ifc : Nat) : Nat := level + 4 * ifc + 16 * b2n s.sealOpen

/-- The registers of the audit log that follow its records (R409, R414); AUDIT_LOW when FREE falls below 64. -/
def State.auditSync (s : State) (freeBefore : Nat) : State :=
  let s := s.setF Reg.MTR_AUD_STAT_FREE s.auditFree
  let s := s.setB Reg.MTR_AUD_STAT_FULL (!s.auditRoom 1)
  let s := s.wr Reg.MTR_AUD_FIRST ((s.aud.recs.head?.map (·.seq)).getD 0)
  let s := s.wr Reg.MTR_AUD_LAST ((s.aud.recs.getLast?.map (·.seq)).getD 0)
  if freeBefore ≥ 64 ∧ s.auditFree < 64 then s.irq .mtr 4 else s

/-- Write a record with a time word of R35 and an epoch (R407); the caller has made sure of a free entry. -/
def State.auditPut (s : State) (tw96 epoch kind access width target before after : Nat) : State :=
  let r : AuditRec :=
    { seq := s.aud.next, tw := tw96, epoch := epoch, kind := kind, access := access, width := width, target := target,
      before := before, after := after, stamp := s.rd Reg.KLN_MSTAMP_1,
      chain := if s.aud.next = 1 then 0 else digest8 (sha256 s.aud.last), crc := 0, read := false }
  let r := { r with crc := crc32 r.body }
  let free := s.auditFree
  ({ s with aud := { s.aud with recs := s.aud.recs ++ [r], last := r.bytes, next := s.aud.next + 1 } }).auditSync free

/-- A record of the present fc. -/
def State.audit (s : State) (kind access width target before after : Nat) : State :=
  s.auditPut (twPack s.tw) s.epoch kind access width target before after

/-- A record of KIND 5–8 or 10: dropped and counted when no entry is free (R410). -/
def State.auditSys (s : State) (kind access width target before after : Nat) : State :=
  if s.auditFree = 0 then s.incF Reg.MTR_AUD_STAT_LOST else s.audit kind access width target before after

/-! ### Access levels (R644–R647) -/

/-- The host interface takes in writes: HST is READY and no warm reset is in progress (R592, R637). -/
def State.hostUp (s : State) : Bool := s.on secHst && !s.pwr.warmBusy

/-- Index of an interface: 0 PCI Express, 1 SPI. -/
def ifcNum : Iface → Nat
  | .pcie => 0
  | .spi => 1

/-- A flag of HST_SPI_STAT for the SPI transaction in progress: the bits 3:0 hold the last completed one, the flags of the
present one wait above them (R639). -/
def State.spiFlag (s : State) (i : Iface) (b : Nat) : State :=
  match i with
  | .spi => { s with hst := { s.hst with spiStat := putBit s.hst.spiStat (b + 4) true } }
  | .pcie => s

/-- An SPI transaction completes: HST_SPI_STAT takes its flags, all of them (R639). -/
def State.spiEnd (s : State) (i : Iface) : State :=
  match i with
  | .spi => { s with hst := { s.hst with spiStat := s.hst.spiStat / 16 % 16 } }
  | .pcie => s

/-- A command on a host interface; while the interface takes none in it is dropped (R637). -/
def State.hostRow (s : State) (i : Iface) (o : Out) : Out :=
  if s.hostUp then
    match o with
    | .next t => .next (t.spiEnd i)
    | o => o
  else .next s

/-- Access state of an interface. -/
def State.accOf (s : State) (i : Iface) : AccSt := s.hst.acc.getD (ifcNum i) ⟨.read, none, 0, 0⟩

/-- Change the access state of an interface. -/
def State.setAcc (s : State) (i : Iface) (f : AccSt → AccSt) : State :=
  { s with hst := { s.hst with acc := upd s.hst.acc (ifcNum i) f } }

/-- The access level of an interface. -/
def State.level (s : State) (i : Iface) : Level := (s.accOf i).level

/-- A host write was denied: HST_STAT.ACC_DENIED, DENIED_IF, the interrupt, and DENIED of the SPI status (R644, R663). -/
def State.deny (s : State) (i : Iface) : State :=
  let s := (s.raise Reg.HST_STAT_ACC_DENIED).setF Reg.HST_STAT_DENIED_IF (ifcNum i)
  (s.irq .hst 0).spiFlag i 0

/-- Whether an interface may do what needs a level. -/
def State.may (s : State) (i : Iface) (l : Level) : Bool := (s.level i).ge l

/-- An accepted write that needed the interface's level restarts HST_ACC_TMO (R647). -/
def State.used (s : State) (i : Iface) (need : Level) : State :=
  if need ≠ .read ∧ need = s.level i then s.setAcc i fun a => { a with used := s.tm.runt } else s

/-- A command bit at a level: below it the write sets ACC_DENIED and does nothing (R644). -/
def State.command (s : State) (i : Iface) (need : Level) (act : State → State) : State :=
  if s.may i need then act (s.used i need) else s.deny i

/-! ### A host write, judged field by field -/

/-- Whether R577 releases the SEAL fields of a register: an AO trim of a channel with SEALED = 0. -/
def State.released (s : State) (off : Nat) : Bool :=
  (List.range 8).any fun n =>
    (off == Reg.AO_CH_TRIM_G n || off == Reg.AO_CH_TRIM_O n) && !s.flag (Reg.AO_CH_CFG_SEALED n)

/-- Whether the governor's thresholds would keep F > L > S after a write (R608's map). -/
def State.govOk (s : State) (off v : Nat) : Bool :=
  let at_ := fun r => if r = off then v else s.rd r
  decide (at_ Reg.PWR_GOV_THR_F > at_ Reg.PWR_GOV_THR_L ∧ at_ Reg.PWR_GOV_THR_L > at_ Reg.PWR_GOV_THR_S)

/-- The circumstances of a host write to a register. -/
def State.writeCtx (s : State) (i : Iface) (off v : Nat) : WriteCtx :=
  ⟨s.level i, s.sealOpen, s.released off, s.govOk off v, s.setInFc off, s.keptNow i off⟩

/-- The SEAL field of a register, where it has one. -/
def RegRow.sealField (r : RegRow) : Option FieldRow := r.fields.find? fun f => f.acc == .seal

/-- The highest level at which a write changed a field that it may change, for HST_ACC_TMO. -/
def RegRow.needed (r : RegRow) : Level :=
  if r.fields.any fun f => f.level == .engineer then .engineer
  else if r.fields.any fun f => f.level == .operate && f.acc != .ro && f.acc != .rs && f.acc != .img then .operate
  else .read

/-- A host write of a whole word to a register that a map names: every field under its own access type and level (R644), a
denial reported, and the audit record of a changed SEAL field written first (R406), or the write ignored when the log is
full (R409). -/
def State.fieldWrite (s : State) (i : Iface) (off v : Nat) : State :=
  match regAt off with
  | none => s
  | some h =>
    let old := s.rd off
    let ctx := s.writeCtx i off v
    let p := h.row.write ctx old v
    let was := (List.range 31).map s.asserted
    let done := fun (s : State) (w : Nat) =>
      let s := s.wr off w
      let s := if i = .spi then s.wroteNow off (h.row.taken ctx) false else s
      let s := if off % 0x1000 = 0x14 ∨ off < 0x300 then (List.range 31).foldl (fun s k => s.rise (was.getD k true) k) s else s
      if p.2 then s.deny i else s.used i h.row.needed
    match h.row.sealField with
    | none => done s p.1
    | some f =>
      let a := bits old f.hi f.lo
      let b := bits p.1 f.hi f.lo
      if a = b ∨ ctx.released then done s p.1
      else if s.auditRoom 1 then
        done (s.audit 1 (s.auditAccess (s.level i).num (ifcNum i)) 4 off a b) p.1
      else (s.raise Reg.MTR_AUD_STAT_FULL_REJ).deny i

/-! ### Snapshot copies (R649) -/

/-- An interface takes the words of a group into its copy. -/
def State.setSnap (s : State) (i : Iface) (base : Nat) (ws : List Nat) : State :=
  { s with hst := { s.hst with snaps := s.hst.snaps.filter (fun c => !(c.ifc == i && c.base == base)) ++ [⟨i, base, ws⟩] } }

/-- An interface's copy of a group. -/
def State.snapOf (s : State) (i : Iface) (base : Nat) : Option (List Nat) :=
  (s.hst.snaps.find? fun c => c.ifc == i && c.base == base).map (·.words)

/-- The answer to a host read. -/
def State.answer (s : State) (i : Iface) (off v : Nat) : State := s.out (.readData i off v)

/-- A host read: during a warm reset it completes with all bits 1 (R637). -/
def State.readRow (s : State) (i : Iface) (off : Nat) (o : Out) : Out :=
  if s.pwr.warmBusy then .next (s.answer i off 0xFFFFFFFF) else s.hostRow i o

/-- Little-endian 32-bit words of bytes. -/
def wordsOf : List Byte → List Nat
  | a :: b :: c :: d :: t => leNat [a, b, c, d] :: wordsOf t
  | [] => []
  | l => [leNat l]

end Sys2Proof.Machine
end

