-- ==== Sys2Proof/Machine/Real.lean ====
section
/-!
DEFINITION. Numbers that are not words: IEEE 754 singles in registers, rounding of rationals, and the real functions the spec
uses. A root, a sine or an argument is irrational: the model works it out to more places than any register shows, and which of the
two neighbouring places stands is free, as the spec states no rounding (log 9, 15).
-/
namespace Sys2Proof.Machine

/-- 2 to an integer power. -/
def pow2R (e : Int) : Rat := if 0 ≤ e then ((2 ^ e.toNat : Nat) : Rat) else 1 / ((2 ^ (-e).toNat : Nat) : Rat)

/-- The number an IEEE 754 single stands for. -/
def f32 (w : Nat) : Rat :=
  let e := bits w 30 23
  let m := bits w 22 0
  let v : Rat :=
    if e = 255 then Config.f32Special w
    else if e = 0 then (m : Rat) * pow2R (-149)
    else ((m + 2 ^ 23 : Nat) : Rat) * pow2R ((e : Int) - 150)
  if w.testBit 31 then -v else v

/-- The number nearest a rational, halves away from zero. -/
def roundR (r : Rat) : Int := roundAway r.num r.den

/-- A rational brought to a whole number where the spec states no rounding (log 9). -/
def openR (r : Rat) : Int := openDiv r.num r.den

/-- The magnitude of a rational. -/
def absR (r : Rat) : Rat := if r < 0 then -r else r

/-- Exponent e with 2^e ≤ |r| < 2^(e+1), for r ≠ 0. -/
def expOf (r : Rat) : Int :=
  let e : Int := (Nat.log2 r.num.natAbs : Int) - (Nat.log2 r.den : Int)
  if absR r < pow2R e then e - 1 else e

/-- The IEEE 754 single of a rational; its last place is open (log 9), what does not fit becomes an infinity. -/
def toF32 (r : Rat) : Nat :=
  if r = 0 then 0 else
  let sgn := if r < 0 then 2 ^ 31 else 0
  let e := max (expOf r) (-126)
  let m := (openR (absR r * pow2R (23 - e))).toNat
  let e := if m ≥ 2 ^ 24 then e + 1 else e
  let m := if m ≥ 2 ^ 24 then 2 ^ 23 else m
  if e > 127 then sgn + 255 * 2 ^ 23
  else if m < 2 ^ 23 then sgn + m
  else sgn + (e + 127).toNat * 2 ^ 23 + (m - 2 ^ 23)

/-! ### Roots (R276, R289) -/

/-- The largest r, below the bits tried so far and those left, whose k-th power is at most n. -/
def rootGo (k n : Nat) : Nat → Nat → Nat
  | 0, r => r
  | b + 1, r => rootGo k n b (if (r + 2 ^ b) ^ k ≤ n then r + 2 ^ b else r)

/-- The k-th root of a positive rational, to 40 binary places; where it is no such number, the last place is open. -/
def rootR (k : Nat) (x : Rat) : Rat :=
  if x ≤ 0 then 0 else
  let n := x.num.toNat * 2 ^ (40 * k) / x.den
  let r := rootGo k n (Nat.log2 n / k + 1) 0
  let exact := r ^ k * x.den == x.num.toNat * 2 ^ (40 * k)
  ((r + b2n (!exact && Config.roundUp n r) : Nat) : Rat) / 2 ^ 40

/-- The square root. -/
def sqrtR (x : Rat) : Rat := rootR 2 x

/-- x to the power 0.02 (R289). -/
def pow002 (x : Rat) : Rat := rootR 50 x

/-! ### Sine and cosine of an angle in turns (R277, R281) -/

/-- π in 96 binary places. -/
def piFx : Nat := 0x3243F6A8885A308D313198A2E

/-- π as a rational. -/
def piR : Rat := (piFx : Rat) / 2 ^ 96

/-- The terms of a Taylor series in x², from one of index n on, in 96 binary places. -/
def taylor (x2 : Nat) : Nat → Nat → Nat → Int
  | 0, _, _ => 0
  | c + 1, n, t => (t : Int) - taylor x2 c (n + 2) (t * x2 / 2 ^ 96 / ((n + 1) * (n + 2)))

/-- Sine of a fraction of a quarter turn, in 96 binary places. -/
def sinFx (f : Rat) : Nat :=
  let ang := fun (q : Rat) => q.num.toNat * piFx / (2 * q.den)
  let sq := fun (x : Nat) => x * x / 2 ^ 96
  (if f ≤ 1 / 2 then taylor (sq (ang f)) 14 1 (ang f) else taylor (sq (ang (1 - f))) 14 0 (2 ^ 96)).toNat

/-- Sine of a fraction of a quarter turn, to 48 binary places. -/
def sinQ (f : Rat) : Rat :=
  if f = 0 then 0 else if f = 1 then 1 else if f = 1 / 3 then 1 / 2
  else (openDivN (sinFx f) (2 ^ 48) : Rat) / 2 ^ 48

/-- The sine of an angle in turns. -/
def sinT (t : Rat) : Rat :=
  let u := 4 * (t - t.floor)
  let f := u - u.floor
  match u.floor.toNat with
  | 0 => sinQ f
  | 1 => sinQ (1 - f)
  | 2 => -sinQ f
  | _ => -sinQ (1 - f)

/-- The cosine of an angle in turns. -/
def cosT (t : Rat) : Rat := sinT (t + 1 / 4)

/-! ### The argument of a phasor (R277, R292) -/

/-- Euler's series of the arctangent: y = z² ÷ (1 + z²), the term and its index, in 96 binary places. -/
def atanGo (y : Nat) : Nat → Nat → Nat → Nat
  | 0, _, _ => 0
  | c + 1, n, t => t + atanGo y c (n + 1) (t * y / 2 ^ 96 * (2 * n + 2) / (2 * n + 3))

/-- The arctangent of b ÷ a for 0 ≤ b ≤ a, a positive, in turns with 96 binary places. -/
def atanTurns (a b : Rat) : Nat :=
  if a = b then 2 ^ 93
  else
    let z := b / a
    let y := z * z / (1 + z * z)
    let t := z / (1 + z * z)
    atanGo (y.num.toNat * 2 ^ 96 / y.den) 80 0 (t.num.toNat * 2 ^ 96 / t.den) * 2 ^ 95 / piFx

/-- The argument of re + j im as an angle word. -/
def argOf (re im : Rat) : Nat :=
  let a := absR re
  let b := absR im
  if a = 0 ∧ b = 0 then Config.argZero else
  let first := if b ≤ a then atanTurns a b else 2 ^ 94 - atanTurns b a
  let t := if 0 ≤ re then (if 0 ≤ im then first else 2 ^ 96 - first) else if 0 ≤ im then 2 ^ 95 - first else 2 ^ 95 + first
  openDivN t (2 ^ 64) % 2 ^ 32

end Sys2Proof.Machine
end

