-- ==== Sys2Proof/Machine/Feed.lean ====
section
/-!
DEFINITION. Instants on the oscillator's scale (CCLK edges, R24, R189, R249), sample words (R11), and what the acquisition unit
receives (R339, R340, R343).
-/
namespace Sys2Proof.Machine

/-! ### The increment and instants of the past (R71, R74, R249) -/

/-- The nominal increment of R71. -/
def incNominal : Nat := 10737418240

/-- The slew limit of R74, in units of the increment: TBU_SLEW_MAX, or TBU_PTP_ASYM.SLEW while R100 limits it. -/
def State.slewLimit (s : State) : Nat :=
  roundDiv (incNominal * (if s.tbu.slewAsym then s.getF Reg.TBU_PTP_ASYM_SLEW else s.rd Reg.TBU_SLEW_MAX)) 1000000000

/-- The increment in force, referred to 400 MHz (R74). -/
def State.incOf (s : State) : Nat := clampN (incNominal - s.slewLimit) (incNominal + s.slewLimit) s.tm.inc

/-- The amount of time word and run time that an amount of oscillator time makes (R72); the quotient's rounding is open. -/
def State.span (s : State) (d : Nat) : Nat := openDivN (d * s.incOf) incNominal

/-- The stretch that holds an instant of the oscillator's scale: the newest that does not begin after it. -/
def State.segAt (s : State) (inst : Nat) : TimeSeg :=
  let now : TimeSeg := ⟨s.tm.nom, s.tm.time, s.incOf * s.tm.div, incNominal * s.tm.div, s.epoch⟩
  match s.tm.segs.find? fun g => decide (g.nom ≤ inst) with
  | some g => g
  | none => (s.tm.segs.getLast?).getD now

/-- The value, in 2^−16 ns, that the time word held at an edge of the oscillator's scale (R24, R249): it advances once each fc. -/
def State.twAt (s : State) (inst : Nat) : Nat :=
  let g := s.segAt inst
  (if g.nom ≤ inst then g.time + (inst - g.nom) / g.fc * g.step else g.time - ((g.nom - inst + g.fc - 1) / g.fc) * g.step) / 2 ^ 16

/-- The epoch of an instant of the oscillator's scale. -/
def State.epochAt (s : State) (inst : Nat) : Nat := (s.segAt inst).epoch

/-- How far the time word advanced from one instant of the oscillator's scale to a later one, its jumps aside, in 2^−32 ns. -/
def State.lapse (s : State) (a b : Nat) : Nat :=
  let r := s.tm.segs.foldl (fun (x : Nat × Nat) g =>
    let lo := max a g.nom
    if lo < x.2 then (x.1 + ((x.2 - g.nom) / g.fc - (lo - g.nom) / g.fc) * g.step, lo) else x) (0, b)
  r.1 + (if a < r.2 then s.span (r.2 - a) else 0)

/-- The present stretch is kept, and those of the last second. -/
def State.segKeep (s : State) : State :=
  let d := s.incOf * s.tm.div
  let f := incNominal * s.tm.div
  match s.tm.segs with
  | g :: _ =>
    if g.step = d ∧ g.fc = f then s
    else
      let old := s.tm.segs.take 1 ++ (s.tm.segs.drop 1).filter fun x => s.tm.nom < x.nom + 1000000000 * 2 ^ 32
      { s with tm := { s.tm with segs := ⟨s.tm.nom, s.tm.time, d, f, s.epoch⟩ :: old } }
  | [] => { s with tm := { s.tm with segs := [⟨s.tm.nom, s.tm.time, d, f, s.epoch⟩] } }

/-- One CCLK period (25 ns) in 2^−32 ns. -/
def cclk : Nat := 25 * 2 ^ 32

/-- The sample instant of converter A (CCLK edges 40k), or of B in interleaved mode (edges 40k + 20), that lies at least a
number of CCLK periods back (R189). -/
def State.sampleInst (s : State) (half : Bool) (age : Nat) : Nat :=
  let e := s.tm.nom / cclk - age
  let h := if half then 20 else 0
  ((e - h) / 40 * 40 + h) * cclk

/-! ### Sample words (R11) -/

/-- The largest value of a sample. -/
def maxVal : Int := 2 ^ 23 - 1

/-- Saturation at ±(2^23 − 1) (R191, R256). -/
def satVal (v : Int) : Int := clampI (-maxVal) maxVal v

/-- The sample word. -/
def Sample.word (x : Sample) : Nat :=
  ofSigned 24 x.value * 2 ^ 8 + x.dye % 16 * 2 ^ 4 + b2n x.uns * 8 + b2n x.ovr * 4 + b2n x.sub * 2 + b2n x.stale

/-- The sample a word stands for. -/
def sampleOf (w : Nat) : Sample :=
  ⟨toSigned 24 (bits w 31 8), bits w 7 4, bit w 3, bit w 2, bit w 1, bit w 0⟩

/-- Value 0 with STALE (R187, R218, R261, R268). -/
def staleSample (dye : Nat) : Sample := ⟨0, dye, false, false, false, true⟩

/-! ### What the acquisition unit receives (R340) -/

/-- Whether an enabled trigger unit or capture uses a source kind. -/
def State.acqUses (s : State) (kind : Nat) : Bool :=
  ((List.range 16).any fun n => s.flag (Reg.ACQ_TU_CFG_EN n) && s.getF (Reg.ACQ_TU_SRC_KIND n) == kind) ||
  ((List.range 8).any fun j => s.flag (Reg.ACQ_C_CFG_EN j) && s.getF (Reg.ACQ_C_CFG_KIND j) == kind)

/-- Hand an item to the acquisition unit, with the instant it represents. -/
def State.feedAt (s : State) (kind inst tw angle cycle epoch trk : Nat) (it : FeedIt) : State :=
  if s.on secAcq && s.acqUses kind then
    { s with acq := { s.acq with feed := s.acq.feed ++ [⟨inst, tw, angle, cycle, epoch, trk, it⟩] } }
  else s

/-- The predicted position of a time word (2^−16 ns) from the published tuple, to the nearest angle LSB (R64); that of the
present fc where the tuple lies a second or more away, or the tracker is stopped. -/
def State.posAt (s : State) (tw : Nat) : Nat :=
  let t := s.ang.tup
  let d : Int := (tw : Int) - t.tw
  if s.getF Reg.ANG_STAT_STATE = 3 ∨ d.natAbs ≥ sec16 then s.pos
  else ofSigned 64 ((t.pos : Int) + roundDivI (d * (256 * t.freq : Nat)) (1000000000 * 2 ^ 16))

/-- The predicted time word (2^−16 ns) of a position from the published tuple, to the nearest 2^−16 ns (R63): the interval is
negative when the position has passed (R65). -/
def State.twOfPos (s : State) (p : Nat) : Nat :=
  let t := s.ang.tup
  let d := toSigned 64 (ofSigned 64 ((p : Int) - t.pos))
  ((t.tw : Int) + roundDivI (d * (1000000000 * 2 ^ 16 : Nat)) (256 * t.freq)).toNat

/-- `feedAt` for an instant of the oscillator's scale. -/
def State.feedInst (s : State) (kind inst : Nat) (it : FeedIt) : State :=
  let tw := s.twAt inst
  let p := s.posAt tw
  s.feedAt kind inst tw (p % 2 ^ 32) (p / 2 ^ 32) (s.epochAt inst) (s.getF Reg.ANG_STAT_STATE) it

/-- The instant of the oscillator's scale at which the time word reached a value (2^−16 ns) of the past or the next fc. -/
def State.instOf (s : State) (tw : Nat) : Nat :=
  let g := ((s.tm.segs.find? fun g => g.epoch == s.epoch && decide (g.time / 2 ^ 16 ≤ tw)).getD (s.segAt s.tm.nom))
  let t := tw * 2 ^ 16
  if g.time ≤ t then g.nom + (t - g.time + g.step - 1) / g.step * g.fc else g.nom - (g.time - t) / g.step * g.fc

/-- Every event at its intake, and the grout records of the SoE path (R520). -/
def State.feedEvent (s : State) (e : EvRec) : State :=
  s.feedAt 5 (s.instOf e.tw) e.tw e.angle s.ang.cycle e.epoch (s.getF Reg.ANG_STAT_STATE) (.event e)

/-- The digital words of R343 now: DIO inputs, output latches, PU and OP of the feeders, OUT of the tiles in fours. -/
def State.digNow (s : State) : List Nat :=
  let out := fun t => s.getF (Reg.PRT_S_STAT_OUT t)
  [s.rd Reg.DIO_IN, s.rd Reg.DIO_LATCH] ++ (List.range 12).map (fun f => s.rd (Reg.PRT_F_PU f)) ++
    (List.range 12).map (fun f => s.rd (Reg.PRT_F_OP f)) ++
    (List.range 4).map fun u => out (4 * u) + out (4 * u + 1) * 2 ^ 8 + out (4 * u + 2) * 2 ^ 16 + out (4 * u + 3) * 2 ^ 24

/-- Keep the history of the digital words: an entry at each change, for a tenth of a second. -/
def State.digKeep (s : State) : State :=
  if !s.on secAcq then s else
  let w := s.digNow
  if (s.acq.dig.head?.map Prod.snd) = some w then s
  else
    let old := s.acq.dig.take 1 ++ (s.acq.dig.drop 1).filter fun d => s.tm.nom < d.1 + 100000000 * 2 ^ 32
    { s with acq := { s.acq with dig := (s.tm.nom, w) :: old } }

/-- A digital word (DIGK or SUBSEL, UNIT) as it stood at an instant; reserved codes read 0. -/
def State.digAt (s : State) (inst k unit : Nat) : Nat :=
  let ws := match s.acq.dig.find? fun d => d.1 ≤ inst with
    | some d => d.2
    | none => (s.acq.dig.getLast?.map Prod.snd).getD []
  match k with
  | 0 => ws.getD 0 0
  | 1 => ws.getD 1 0
  | 2 => if unit < 12 then ws.getD (2 + unit) 0 else 0
  | 3 => if unit < 12 then ws.getD (14 + unit) 0 else 0
  | 4 => if unit < 4 then ws.getD (26 + unit) 0 else 0
  | _ => 0

end Sys2Proof.Machine
end

