-- ==== Sys2Proof/Machine/Filter.lean ====
section
/-!
DEFINITION. The filter unit (08): stage A, stage B with its profiles, bank requests and fades, synchronising resets.
-/
namespace Sys2Proof.Machine

/-! ### Channels and profiles -/

/-- MODE of channel AIn (R187). -/
def State.chMode (s : State) (n : Nat) : Nat := s.getF (Reg.AFE_CH_CFG_MODE (n / 8) (n % 8))

/-- Stage-B profile of a channel. -/
def State.chProf (s : State) (n : Nat) : Nat := s.getF (Reg.AFE_CH_CFG_PROF (n / 8) (n % 8))

/-- Dye of a channel. -/
def State.chDye (s : State) (n : Nat) : Nat := s.getF (Reg.AFE_CH_CFG_DYE (n / 8) (n % 8))

/-- A channel of the filter unit at reset. -/
def fltChZero : FltCh := ⟨[], [], 0, []⟩

/-- A profile at reset. -/
def fltProfZero : FltProf := ⟨0, none, none, 0, 0, 0, false, false, [], none⟩

/-- A channel's entry. -/
def State.fch (s : State) (n : Nat) : FltCh := s.flt.ch.getD n fltChZero

/-- Change a channel's entry. -/
def State.setFch (s : State) (n : Nat) (f : FltCh → FltCh) : State := { s with flt := { s.flt with ch := upd s.flt.ch n f } }

/-- A profile's entry. -/
def State.fprof (s : State) (p : Nat) : FltProf := s.flt.prof.getD p fltProfZero

/-- Change a profile's entry. -/
def State.setFprof (s : State) (p : Nat) (f : FltProf → FltProf) : State :=
  { s with flt := { s.flt with prof := upd s.flt.prof p f } }

/-- A channel in interleaved mode, whose stage A is 2.5 µs faster (R248). -/
def State.isIl (s : State) (n : Nat) : Bool := s.chMode n == 1

/-- The filter unit runs: one of its sections is READY, or is being refired, which stops neither the unit nor stage A (R249,
R268). -/
def State.fltOn (s : State) : Bool :=
  (List.range 16).any fun p => s.on (secProf p) || (s.flt.started && (s.part (secProf p)).any fun x => x.refire)

/-- D of a profile (R253). -/
def State.profD (s : State) (p : Nat) : Nat := 2 ^ s.getF (Reg.FLT_PROF_CFG_DSEL p)

/-- TAPS of a profile (R253). -/
def State.profTaps (s : State) (p : Nat) : Nat := s.getF (Reg.FLT_PROF_CFG_TAPS p)

/-- Next stage-A index of a channel (R248). -/
def State.chNext (s : State) (n : Nat) : Nat := if s.isIl n then s.flt.kIl else s.flt.k

/-- The channels of a profile. -/
def State.profChs (s : State) (p : Nat) : List Nat := (List.range 64).filter fun n => s.chProf n == p

/-- The channels of an AFE group. -/
def grpChs (g : Nat) : List Nat := (List.range 8).map fun c => 8 * g + c

/-! ### Synchronising resets (R268–R271) -/

/-- UNSETTLED outputs after a stage-A reset, by mode (R248). -/
def unsettledA (mode : Nat) : Nat := match mode with
  | 0 => 7
  | 1 => 6
  | 2 => 7
  | _ => 0

/-- Stage-A reset of a channel (R248, R269). -/
def State.syncA (s : State) (n : Nat) : State :=
  let u := unsettledA (s.chMode n)
  s.setFch n fun c => { c with ins := [], aUns := u }

/-- REMAIN of a channel (R269); UNS says whether any output is left to mark. -/
def State.setRemain (s : State) (n v : Nat) : State :=
  (s.setF (Reg.FLT_CH_STAT_REMAIN n) v).setB (Reg.FLT_CH_STAT_UNS n) (decide (v ≠ 0))

/-- Stage-B reset of a channel (R269). -/
def State.syncB (s : State) (n : Nat) : State :=
  let p := s.chProf n
  let d := s.profD p
  (s.setFch n fun c => { c with aOut := [] }).setRemain n ((s.profTaps p + d - 1) / d)

/-- Reset of both stages of a channel (R220, R268). -/
def State.syncCh (s : State) (n : Nat) : State := (s.syncA n).syncB n

/-- A fade is complete: the bank is active and the fade counted (R264). -/
def State.fadeDone (s : State) (p bank : Nat) : State :=
  let s := s.setFprof p fun x => { x with target := none, j := 0, l := 0 }
  let s := (s.setF (Reg.FLT_PROF_STAT_ACTIVE p) bank).setF (Reg.FLT_PROF_STAT_FADING p) 0
  ((s.setF (Reg.FLT_PROF_STAT_TARGET p) 0).wrapF (Reg.FLT_PROF_CNT_SWAPS p)).irq .flt 0

/-- The queue of a profile, with its register fields. -/
def State.setQueue (s : State) (p : Nat) (q : Option Nat) : State :=
  let s := s.setFprof p fun x => { x with queue := q }
  (s.setB (Reg.FLT_PROF_STAT_QUEUED p) q.isSome).setF (Reg.FLT_PROF_STAT_QBANK p) (q.getD 0)

/-- What a profile-wide reset does to fade and queue (R270). -/
def State.fadeFlush (s : State) (p : Nat) : State :=
  match (s.fprof p).target with
  | none => s
  | some t =>
    let b := ((s.fprof p).queue).getD t
    ((s.fadeDone p b).setQueue p none).setF (Reg.FLT_PROF_STAT_ALPHA p) 0

/-- Fade, queue and requests of a profile are discarded: its section is refired or stops (R267). -/
def State.fadeDrop (s : State) (p : Nat) : State :=
  let s := s.setFprof p fun x => { x with target := none, j := 0, l := 0, reqs := [], early := none }
  let s := ((s.setF (Reg.FLT_PROF_STAT_FADING p) 0).setF (Reg.FLT_PROF_STAT_TARGET p) 0).setF (Reg.FLT_PROF_STAT_ALPHA p) 0
  (s.profChs p).foldl (fun (s : State) n => s.syncB n) (s.setQueue p none)

/-- Profile-wide synchronising reset of stage B (R268–R270). -/
def State.syncProf (s : State) (p : Nat) : State :=
  (s.profChs p).foldl (fun (s : State) n => s.syncB n) (s.fadeFlush p)

/-- FLT_CMD written with SYNC (R268; operate access). -/
def State.fltSync (s : State) (i : Iface) (v : Nat) : State :=
  if !v.testBit 31 then s else
  s.command i .operate fun s => (bitList 16 v).foldl (fun (s : State) p => s.syncProf p) s

/-- FLT_SYNC (R268): a write of FLT_CMD with SYNC set. -/
def execFltSync (ifc : Iface) (v : Word) (s : State) : Out := s.hostRow ifc <| .next (s.fltSync ifc (v.toNat ||| 2 ^ 31))

/-! ### Start of the unit and of its profiles -/

/-- The filter unit becomes READY: E0 at the first CCLK edge 40k at or after this fc, all stages reset (R249, R268). -/
def State.fltStart (s : State) : State :=
  let us := 1000 * 2 ^ 32
  let e0 := (s.tm.nom + us - 1) / us * us
  let s := s.wrTw Reg.FLT_ORIGIN_0 ((s.tm.time + s.span (e0 - s.tm.nom)) / 2 ^ 16)
  let s := { s with flt := { s.flt with
    started := true, e0 := e0, kIl := 0, k := 0, prof := s.flt.prof.map fun x => { fltProfZero with stopped := x.stopped } } }
  (List.range 64).foldl (fun (s : State) n => (s.setFch n fun _ => fltChZero).syncCh n) s

/-- The governor stops a profile, or lets it run again (R260, R261): its fade and queue are handled as at a profile-wide
reset, and the reset follows at the first output instant. -/
def State.profStop (s : State) (p : Nat) (stop : Bool) : State :=
  if (s.fprof p).stopped = stop then s else
  let s := (s.fadeFlush p).setFprof p fun x => { x with stopped := stop, resume := !stop }
  let s := s.setBit Reg.FLT_STAT_RUN p (!stop)
  let s := s.setB Reg.FLT_STAT_SHED ((List.range 16).any fun q => (s.fprof q).stopped)
  if stop then s.irq .flt 3 else s

/-- Whether a governor profile stops a filter profile, by its LEVEL (R260). -/
def State.levelStops (s : State) (prof p : Nat) : Bool := decide (s.getF (Reg.FLT_PROF_CFG_LEVEL p) > 2 - prof)

/-- A profile starts on the bank its section names as active at start; fade and queue are discarded, and its LEVEL is judged
by the governor profile in force (R253, R260, R267, R268). -/
def State.profRestart (s : State) (p : Nat) : State :=
  let d := s.profD p
  let k := s.flt.k
  let s := (s.fadeDrop p).setFprof p fun x => { fltProfZero with next := (k + d - 1) / d * d, stopped := x.stopped }
  let s := s.setF (Reg.FLT_PROF_STAT_ACTIVE p) (s.imageWord (Reg.FLT_PROF_CTL p) % 2)
  s.profStop p (s.levelStops (s.getF Reg.PWR_STAT_PROFILE) p)

/-! ### Bank requests (R263, R265) -/

/-- The first stage-A index whose window is not yet complete for a channel of the profile (R263). -/
def State.winNext (s : State) (p : Nat) : Nat := if (s.profChs p).any s.isIl then s.flt.kIl else s.flt.k

/-- A request for a bank of a profile (R265): a fade it starts begins with the first output whose window becomes complete after
this fc (R263). -/
def State.bankRequest (s : State) (p b : Nat) : State :=
  let x := s.fprof p
  match x.target with
  | none =>
    if b = s.getF (Reg.FLT_PROF_STAT_ACTIVE p) then s
    else s.setFprof p fun x => { x with target := some b, j := 0, l := 0, start := s.winNext p }
  | some t =>
    match x.queue with
    | none => if b = t then s else s.setQueue p (some b)
    | some q =>
      if b = q then s
      else
        let s := (s.setQueue p (some b)).raise Reg.FLT_STAT_SWAP_REPLACED
        (s.incF (Reg.FLT_PROF_CNT_REPLACED p)).irq .flt 1

/-- The requests of a fc are handled at its end, after the resets of that fc (R263, R270). -/
def State.fltEnd (s : State) : State :=
  (List.range 16).foldl (fun (s : State) p =>
    let rs := (s.fprof p).reqs
    if rs.isEmpty then s
    else rs.foldl (fun (s : State) b => s.bankRequest p b) (s.setFprof p fun x => { x with reqs := [] })) s

/-- A write of FLT_PROFp_CTL: every accepted write is a request (R263). -/
def State.fltCtl (s : State) (i : Iface) (p v : Nat) : State :=
  let ok := s.may i .operate
  let s := s.fieldWrite i (Reg.FLT_PROF_CTL p) v
  if ok && s.on (secProf p) then s.setFprof p fun x => { x with reqs := x.reqs ++ [v % 2] } else s

/-- FLT_BANK_REQUEST (R263). -/
def execFltBankRequest (ifc : Iface) (p : Nat) (v : Word) (s : State) : Out := s.only (decide (p < 16)) <| s.hostRow ifc <| .next (s.fltCtl ifc p v.toNat)

/-! ### Stage A (R248–R251) -/

/-- One stage-A period, 156.25 CCLK periods, in 2^−32 ns. -/
def stagePer : Nat := 15625 * 2 ^ 30

/-- Instant of stage-A output k (R249). -/
def State.stageInst (s : State) (k : Nat) : Nat := s.flt.e0 + k * stagePer

/-- An output sample of the front end reaches stage A of its channel. -/
def State.stageIn (s : State) (n inst : Nat) (x : Sample) : State :=
  s.setFch n fun c => { c with ins := ((inst, x) :: c.ins).take 64 }

/-- H of R251 in 2^−32 ns. -/
def spanH (mode : Nat) : Nat := (if mode = 1 then 10000 else 12500) * 2 ^ 32

/-- A channel whose words are 0 with STALE: off, out of service, or of a group that is not READY (R187, R218, R268). -/
def State.dark (s : State) (n : Nat) : Bool :=
  s.chMode n == 3 || !s.on (secAfe (n / 8)) || s.flag (Reg.AFE_CH_STAT_OOS (n / 8) (n % 8))

/-- Stage-A output of a channel for an instant (R218, R248, R250, R251, R268). -/
def State.stageAOf (s : State) (n inst : Nat) : Sample :=
  let mode := s.chMode n
  if s.dark n then staleSample (s.chDye n)
  else
    let c := s.fch n
    let h := spanH mode
    let xs := c.ins.filter fun p => p.1 ≤ inst + h && inst ≤ p.1 + h
    let v := Config.stageA (xs.map fun p => ((p.1 : Int) - inst, p.2.value))
    ⟨satVal v, s.chDye n, decide (c.aUns ≠ 0), xs.any (·.2.ovr), xs.any (·.2.sub), xs.any (·.2.stale)⟩

/-- Channels a reference register names (R43). -/
def refChs (w : Nat) : List Nat := match bits w 25 24 with
  | 1 => [bits w 5 0]
  | 2 => [bits w 5 0, bits w 13 8, bits w 21 16]
  | _ => []

/-- A reference comes from interleaved channels alone. -/
def State.refIl (s : State) (off : Nat) : Bool := (refChs (s.rd off)).all s.isIl

/-- The stage-A output k of a channel, among those kept. -/
def State.aAt (s : State) (n k : Nat) : Sample := ((s.fch n).aOut[s.chNext n - 1 - k]?).getD (staleSample (s.chDye n))

/-- The tracker's filter of a reference takes output k of the channels its register names (R43), as soon as all have it. -/
def State.refTake (s : State) (off k : Nat) (il : Bool) (r : RefEst) : RefEst :=
  let ns := refChs (s.rd off)
  if ns.isEmpty || s.refIl off != il then r
  else { r with filt := Config.refFilter r.filt (ns.map fun n => (s.aAt n k).value) }

/-- Output k of the interleaved channels, or of the others (R248, R249). -/
def State.stageAPut (s : State) (il : Bool) (k : Nat) : State :=
  let t := s.stageInst k
  let ch := (List.range 64).map fun n =>
    let c := s.fch n
    if s.isIl n = il then { c with aOut := (s.stageAOf n t :: c.aOut).take 1024, aUns := c.aUns - 1 } else c
  let flt := if il then { s.flt with ch := ch, kIl := k + 1 } else { s.flt with ch := ch, k := k + 1 }
  let s := { s with flt := flt }
  { s with ang := { s.ang with pri := s.refTake Reg.ANG_REF_PRI k il s.ang.pri, alt := s.refTake Reg.ANG_REF_ALT k il s.ang.alt } }

/-- Stage-A delay of interleaved channels, and of the others, in 2^−32 ns (R248). -/
def delayA (il : Bool) : Nat := (if il then 11000 else 13500) * 2 ^ 32

/-- Whether the next output of the interleaved channels, or of the others, is available. -/
def State.stageADue (s : State) (il : Bool) : Bool :=
  s.fltOn && decide (s.stageInst (if il then s.flt.kIl else s.flt.k) + delayA il ≤ s.tm.nom)

/-- STAGE_A_OUTPUT (R248, R249): the next output of the interleaved channels and that of the others, each once its delay has
passed; with the latter an index is complete for all channels. -/
def execStageAOutput (s : State) : Out :=
  let words := fun (s : State) (k : Nat) => (List.range 64).map fun n => (s.aAt n k).word
  let s := if s.stageADue true then
      let k := s.flt.kIl
      let s := s.stageAPut true k
      if (List.range 64).any s.isIl && s.acqUses 0 then s.feedInst 0 (s.stageInst k) (.stageA true k (words s k)) else s
    else s
  if s.stageADue false then
    let k := s.flt.k
    let s := s.stageAPut false k
    let kind := if s.acqUses 0 then 0 else 6
    .next (s.feedInst kind (s.stageInst k) (.stageA false k (words s k)))
  else .next s

/-! ### Stage B (R253–R258, R261, R264, R266) -/

/-- The coefficients of a bank. -/
def State.bank (s : State) (p b : Nat) : List Int := (List.range (s.profTaps p)).map fun k => s.getI (Reg.FLT_COEF_COEF p b k)

/-- The blended coefficients of a fade at α (R264). -/
def blend (alpha : Nat) (old new : List Int) : List Int :=
  (old.zip new).map fun h => h.1 + roundAway ((alpha : Int) * (h.2 - h.1)) 65536

/-- One stage-B output from the window, newest sample first, and the coefficients, tap 0 first (R256, R257). -/
def firOut (gsh : Nat) (h : List Int) (win : List Sample) (dye : Nat) (uns : Bool) : Sample :=
  let sum := (h.zip win).foldl (fun (a : Int) p => a + p.1 * p.2.value) 0
  let v := roundAway sum (2 ^ (23 - gsh))
  ⟨satVal v, dye, uns || win.any (·.uns), decide (satVal v ≠ v) || win.any (·.ovr), win.any (·.sub), win.any (·.stale)⟩

/-- The coefficients of a profile's next output: those of the active bank, or the fade's with its registers moved on; a fade
that is complete is followed by the queued request (R264, R266). -/
def State.coeffs (s : State) (p : Nat) : List Int × State :=
  let x := s.fprof p
  let a := s.getF (Reg.FLT_PROF_STAT_ACTIVE p)
  let old := s.bank p a
  match x.target with
  | none => (old, s.setF (Reg.FLT_PROF_STAT_ALPHA p) 0)
  | some t =>
    if x.next < x.start then (old, s)
    else
      let l := if x.j = 0 then max 1 (s.getF (Reg.FLT_PROF_XF_LEN p)) else x.l
      let j := x.j + 1
      let alpha := 65536 * j / l
      let s := (s.setFprof p fun x => { x with j := j, l := l }).setF (Reg.FLT_PROF_STAT_ALPHA p) alpha
      let s := (s.setF (Reg.FLT_PROF_STAT_FADING p) 1).setF (Reg.FLT_PROF_STAT_TARGET p) t
      let h := blend alpha old (s.bank p t)
      if j < l then (h, s)
      else
        let s := s.fadeDone p t
        match x.queue with
        | none => (h, s)
        | some q =>
          let s := s.setQueue p none
          (h, if q = t then s else s.setFprof p fun x => { x with target := some q, j := 0, l := 0, start := x.next + 1 })

/-- REMAIN counts down; SETTLED when it reaches zero (R269). -/
def State.settle (s : State) (n : Nat) : State :=
  let r := s.getF (Reg.FLT_CH_STAT_REMAIN n)
  if r = 0 then s else
  let s := s.setRemain n (r - 1)
  if r = 1 then s.irq .flt 2 else s

/-- The stage-A index up to which every channel of a profile has its outputs. -/
def State.winAll (s : State) (p : Nat) : Nat := if (s.profChs p).all s.isIl && (s.profChs p).any s.isIl then s.flt.kIl else s.flt.k

/-- Whether a profile's next output is due: the window of its stage-A index is complete, for its interleaved channels first
(R255, R258). -/
def State.stageBDue (s : State) (p : Nat) : Bool :=
  s.fltOn && decide (p < 16) && (decide ((s.fprof p).next < s.winAll p) ||
    ((s.fprof p).early.isNone && decide ((s.fprof p).next < s.winNext p)))

/-- A stage-B output of a channel at stage-A index i with coefficients h; none of a profile that does not run (R218, R255–R257,
R261, R268, R269). -/
def State.stageBOf (s : State) (p i n : Nat) (h : Option (List Int)) : Sample :=
  let c := s.fch n
  let uns := s.getF (Reg.FLT_CH_STAT_REMAIN n) != 0
  match h with
  | some h =>
    if s.dark n then { staleSample (s.chDye n) with uns := uns }
    else firOut (s.getF (Reg.FLT_PROF_CFG_GSH p)) h ((c.aOut.drop (s.chNext n - 1 - i)).take (s.profTaps p)) (s.chDye n) uns
  | none => { staleSample (s.chDye n) with uns := uns }

/-- The instant that a stage-B output represents (R255). -/
def State.stageBInst (s : State) (p i : Nat) : Nat := s.stageInst i - s.getF (Reg.FLT_PROF_GD_GD p) * (15625 * 2 ^ 22)

/-- The stage-B outputs of channels at a stage-A index. -/
def State.stageBPut (s : State) (p i : Nat) (h : Option (List Int)) (ns : List Nat) : State :=
  let inst := s.stageBInst p i
  let outs := ns.map fun n => (n, s.stageBOf p i n h)
  let s := outs.foldl (fun (s : State) o => (s.setFch o.1 fun c => { c with bOut := ((inst, o.2) :: c.bOut).take 32 }).settle o.1) s
  s.feedInst 1 inst (.stageB p i (outs.map fun o => (o.1, o.2.word)))

/-- The coefficients of a profile's next output: those its interleaved channels took for it already, or the next ones; none
while it does not run. -/
def State.nextCoeffs (s : State) (p : Nat) : Option (List Int) × State :=
  let x := s.fprof p
  match x.early with
  | some h => (h, s)
  | none =>
    if s.on (secProf p) && !x.stopped then
      let s := if x.resume then (s.syncProf p).setFprof p fun x => { x with resume := false } else s
      let q := s.coeffs p
      (some q.1, q.2)
    else (none, s)

/-- The stage-B outputs of a profile at its next index: those of its interleaved channels first, while the others still wait
for stage A (R255–R258, R261, R264, R266, R269). -/
def State.stageB (s : State) (p : Nat) : State :=
  let x := s.fprof p
  let i := x.next
  let all := decide (i < s.winAll p)
  let q := s.nextCoeffs p
  let ns := (s.profChs p).filter fun n => if s.isIl n then x.early.isNone else all
  let s := q.2.stageBPut p i q.1 ns
  let d := s.profD p
  s.setFprof p fun x => if all then { x with next := i + d, early := none } else { x with early := some q.1 }

end Sys2Proof.Machine
end

