-- ==== Sys2Proof/Machine/Events.lean ====
section
/-!
DEFINITION. The event unit (16): intake and sequence numbers, the three record paths with their budgets and grout records,
the host queue, the SoE log with its commands, the trace ring.
-/
namespace Sys2Proof.Machine

/-! ### Records as bytes (R513, R524) -/

/-- Byte 20 of a record. -/
def EvRec.cd (e : EvRec) : Nat := e.dye % 16 * 16 + (if e.grout then 8 else 0) + e.cls % 4

/-- The 32 bytes of a record (R513). -/
def EvRec.bytes (e : EvRec) : List Byte :=
  leBytes 12 (twPack e.tw) ++ leBytes 4 e.angle ++ leBytes 2 e.src ++ leBytes 2 e.code ++ leBytes 1 e.cd ++
  leBytes 1 e.epoch ++ leBytes 8 e.value ++ leBytes 2 e.seq

/-- The eight words an empty queue or an empty index latches (R528, R531). -/
def emptyWords : List Nat := List.replicate 8 0xFFFFFFFF

/-! ### Storing a record on a path -/

/-- Size of the general region (R529), of the class-0 region, and of the trace ring in bytes (R534). -/
def soeGenSize : Nat := 61440
def soe0Size : Nat := 4096
def traceSize : Nat := 0x4000000

/-- The EVT unit's source identifier. -/
def evtSrc : Nat := srcId 0x90 0

/-- The host queue as an arriving record finds it: a removal of the same fc counts first (R528). -/
def State.hqHeld (s : State) : List EvRec :=
  s.evt.hq.drop (s.pending.countP fun i => match i with
    | .hostQueueRead _ => true
    | .snapshotRead _ off n => off == Reg.EVT_HQ 0 && n != 0
    | _ => false)

/-- Entries of the host queue that are not class-0 records (R526). -/
def State.hqLow (s : State) : Nat := s.hqHeld.countP fun e => e.cls != 0

/-- Room in the host queue for a record of classes 1–3 or a grout record (R526). -/
def State.hqRoom (s : State) : Bool := decide (s.hqLow < 896 ∧ s.hqHeld.length < 1024)

/-- Append to the host queue; the HQ interrupt when the depth reaches EVT_HQ_THR. -/
def State.hqPut (s : State) (e : EvRec) : State :=
  let s := { s with evt := { s.evt with hq := s.evt.hq ++ [e] } }
  if s.evt.hq.length = s.getF Reg.EVT_HQ_THR_THR then s.irq .evt 0 else s

/-- Append to the general region, a ring (R529), counting the loss of an uncopied record (R532). -/
def State.soeGenPut (s : State) (e : EvRec) : State :=
  let wr := s.getF Reg.EVT_SOE_STAT_WR
  let lost := match Sparse.find s.evt.soeGen wr with
    | some r => !r.copied
    | none => false
  let s := if lost then s.count (Reg.EVT_P_LOSS_LOSS 0) else s
  let s := { s with evt := { s.evt with soeGen := Sparse.ins s.evt.soeGen wr ⟨e, false⟩ } }
  if wr + 1 = soeGenSize then (s.setF Reg.EVT_SOE_STAT_WR 0).setF Reg.EVT_SOE_STAT_WRAPPED 1
  else s.setF Reg.EVT_SOE_STAT_WR (wr + 1)

/-- Append to the class-0 region, or refuse when it holds 4,096 records (R530). -/
def State.soe0Put (s : State) (e : EvRec) : State × Bool :=
  if s.evt.soe0.length ≥ soe0Size then (s.count (Reg.EVT_P_LOSS_LOSS0 0), false)
  else
    let s := { s with evt := { s.evt with soe0 := s.evt.soe0 ++ [⟨e, false⟩] } }
    if s.evt.soe0.length = soe0Size then
      (((s.setF Reg.EVT_STAT_SOE_RES_FULL 1).irq .evt 2).emitOpen evtSrc 0x9001 1, true)
    else (s, true)

/-- Append to the trace ring in DRAM (R534). -/
def State.tracePut (s : State) (e : EvRec) : State :=
  let o := s.rd Reg.EVT_TRC_WRPTR
  let s := s.dramWr (s.traceBase + o) e.bytes
  if o + 32 ≥ traceSize then (s.wr Reg.EVT_TRC_WRPTR 0).wrapF Reg.EVT_TRC_WRAPS_COUNT
  else s.wr Reg.EVT_TRC_WRPTR (o + 32)

/-! ### Grout records (R523–R525) -/

/-- The next sequence number, taken (R518). -/
def State.nextSeq (s : State) : State × Nat :=
  (s.wrapF Reg.EVT_STAT_NEXT_SEQ, s.getF Reg.EVT_STAT_NEXT_SEQ)

/-- The record a grout stands for (R524). -/
def Grout.toRec (g : Grout) (seq : Nat) : EvRec :=
  { tw := g.tw, angle := min g.count (2 ^ 32 - 1), src := g.srcLo, code := g.srcHi, cls := g.cls, dye := 0, grout := true,
    epoch := g.epoch, value := g.last / sec16 % 2 ^ 32 + g.last % sec16 / 2 ^ 16 * 2 ^ 32, seq := seq }

/-- Write a grout record on its path, if there is room (R525): a sequence number of its own (R518), the count of grout
records, and for the SoE path a copy to the acquisition unit (R520). Answers whether it was written. -/
def State.groutWrite (s : State) (g : Grout) : State × Bool :=
  if g.path = 1 ∧ !s.hqRoom then (s, false)
  else
    let p := s.nextSeq
    let e := g.toRec p.2
    let s := p.1
    let s := match g.path with
      | 0 => (s.feedEvent e).soeGenPut e
      | 1 => s.hqPut e
      | _ => s.tracePut e
    ((s.tally (Reg.EVT_P_GROUT_COUNT g.path) (s.getF (Reg.EVT_P_GROUT_COUNT g.path) + 1)).irq .evt 5, true)

/-- Drop an open grout record from the list. -/
def State.groutDrop (s : State) (g : Grout) : State :=
  { s with evt := { s.evt with grouts := s.evt.grouts.erase g } }

/-- Add an event to the open grout record of its path and class; an event of another epoch closes that record in the same
fc and opens a new one (R523). -/
def State.coalesce (s : State) (path : Nat) (e : EvRec) : State :=
  let fresh : Grout := ⟨path, e.cls, e.tw, e.epoch, e.tw, e.src, e.src, 1⟩
  let add := fun (s : State) => { s with evt := { s.evt with grouts := s.evt.grouts ++ [fresh] } }
  match s.evt.grouts.reverse.find? fun g => g.path == path && g.cls == e.cls with
  | none => add s
  | some g =>
    if g.epoch = e.epoch then
      let g' := { g with last := e.tw, srcLo := min g.srcLo e.src, srcHi := max g.srcHi e.src, count := g.count + 1 }
      { s with evt := { s.evt with grouts := s.evt.grouts.map fun x => if x = g then g' else x } }
    else
      let p := s.groutWrite g
      add (if p.2 then p.1.groutDrop g else p.1)

/-! ### Budgets (R521, R522) -/

/-- FLOOR of a path. -/
def pathFloor (p : Nat) : Nat := if p ≤ 1 then 1 else 0

/-- A path has admitted a record of a class: COUNT, and CUT at the tiers of R522. -/
def State.admitOn (s : State) (p cls : Nat) : State :=
  let b := s.getF (Reg.EVT_P_CFG_BUDGET p)
  let q := (b + 3) / 4
  let s := s.incF (Reg.EVT_P_WIN_COUNT p)
  let s := { s with evt := { s.evt with maxCls := upd s.evt.maxCls p (max cls) } }
  let n := s.getF (Reg.EVT_P_WIN_COUNT p)
  if n = b then
    ((s.setF (Reg.EVT_P_WIN_OVER p) 1).setF (Reg.EVT_P_WIN_CUT p) (max (pathFloor p) (s.evt.maxCls.getD p 0))).irq .evt 3
  else if n = b + q ∨ n = b + 2 * q ∨ n = b + 3 * q then
    s.setF (Reg.EVT_P_WIN_CUT p) (max (pathFloor p) (s.getF (Reg.EVT_P_WIN_CUT p) - 1))
  else s

/-- Whether the budget makes a path coalesce a class (R522). -/
def State.cutOff (s : State) (p cls : Nat) : Bool :=
  s.flag (Reg.EVT_P_WIN_OVER p) && decide (cls ≥ s.getF (Reg.EVT_P_WIN_CUT p)) && !(decide (p ≤ 1) && cls == 0)

/-- HOST_Q_LOSS0 goes on the SoE and trace paths only (R527). -/
def notOnHost (e : EvRec) : Bool := e.code == 0x9002 && e.src == evtSrc

/-- Deliver a numbered event on a path (R521–R527). -/
def State.deliver (s : State) (p : Nat) (e : EvRec) : State :=
  if !(s.getF (Reg.EVT_P_CFG_CLASSES p)).testBit e.cls || (p == 1 && notOnHost e) then s
  else if s.cutOff p e.cls then s.coalesce p e
  else match p with
    | 0 =>
      if e.cls = 0 then
        let r := s.soe0Put e
        if r.2 then r.1.admitOn 0 0 else r.1
      else (s.soeGenPut e).admitOn 0 e.cls
    | 1 =>
      if e.cls = 0 then
        if s.hqHeld.length ≥ 1024 then
          let s := (s.raise Reg.EVT_STAT_HOST_Q_LOSS0).count (Reg.EVT_P_LOSS_LOSS0 1)
          { s with evt := { s.evt with refusedNow := s.evt.refusedNow + 1 } }.irq .evt 1
        else (s.hqPut e).admitOn 1 0
      else if s.hqRoom then (s.hqPut e).admitOn 1 e.cls
      else s.coalesce 1 e
    | _ => (s.tracePut e).admitOn 2 e.cls

/-- Intake of one event: a sequence number, every path, the acquisition unit (R518, R520). -/
def State.takeIn (s : State) (r : EvRaised) : State :=
  let p := s.nextSeq
  let e := { r.ev with seq := p.2 }
  let s := p.1.feedEvent e
  ((s.deliver 0 e).deliver 1 e).deliver 2 e

/-- Order of intake (R517): fc, source, class-0 events of a source first. -/
def EvRaised.le (a b : EvRaised) : Bool :=
  decide (a.fc < b.fc) || (a.fc == b.fc && (decide (a.ev.src < b.ev.src) ||
    (a.ev.src == b.ev.src && (a.ev.cls == 0 || b.ev.cls != 0))))

/-- Of the ordered events, those this fc takes: every class-0 event, and n of classes 1–3; and those that wait. -/
def splitTake : Nat → List EvRaised → List EvRaised × List EvRaised
  | _, [] => ([], [])
  | n, r :: t =>
    if r.ev.cls = 0 then (r :: (splitTake n t).1, (splitTake n t).2)
    else match n with
      | 0 => ((splitTake 0 t).1, r :: (splitTake 0 t).2)
      | k + 1 => (r :: (splitTake k t).1, (splitTake k t).2)

/-- EVENT_INTAKE (R517–R520). -/
def execEventIntake (s : State) : Out :=
  let n := if s.evt.takenFc = s.tm.fc then 32 - s.evt.taken else 32
  let p := splitTake n (sortBy EvRaised.le s.evt.raised)
  let low := p.1.countP fun r => r.ev.cls != 0
  let s := { s with evt := { s.evt with raised := p.2, takenFc := s.tm.fc, taken := 32 - n + low } }
  .next (p.1.foldl State.takeIn s)

/-! ### Windows (R521, R525, R527) -/

/-- Length of a window in ns of run time. -/
def windowNs : Nat := 10000000

/-- The first fc of a window on paths 0–2: open grout records in ascending class, then COUNT and CUT cleared (R525); the
HOST_Q_LOSS0 event of the window that ended (R527). -/
def State.windowStart (s : State) : State :=
  let gs := sortBy (fun (a b : Grout) => decide (a.path * 4 + a.cls ≤ b.path * 4 + b.cls)) s.evt.grouts
  let s := gs.foldl (fun (s : State) g =>
    let p := s.groutWrite g
    if p.2 then p.1.groutDrop g else p.1) s
  let s := (List.range 4).foldl (fun (s : State) p =>
    ((s.setF (Reg.EVT_P_WIN_COUNT p) 0).setF (Reg.EVT_P_WIN_CUT p) 0).setF (Reg.EVT_P_WIN_OVER p) 0) s
  let n := s.evt.refusedNow
  let s := { s with evt := { s.evt with maxCls := [0, 0, 0, 0], refusedNow := 0, windowIdx := s.runNs / windowNs } }
  if n > 0 then s.emit evtSrc 0x9002 1 n else s

/-- Write every record taken in and every open grout record of the SoE path (R533). -/
def State.soeFlush (s : State) : State :=
  (s.evt.grouts.filter fun g => g.path == 0).foldl (fun (s : State) g => (s.groutWrite g).1.groutDrop g) s

/-! ### The host queue (R528) -/

/-- A read of EVT_HQ_0: the oldest record leaves the queue and is latched for the interface; all ones when it is empty. -/
def State.hqRead (s : State) (i : Iface) : State :=
  match s.evt.hq with
  | [] => s.setSnap i (Reg.EVT_HQ 0) emptyWords
  | e :: t => { s with evt := { s.evt with hq := t } }.setSnap i (Reg.EVT_HQ 0) (wordsOf e.bytes)

/-- HOST_QUEUE_READ (R528). -/
def execHostQueueRead (ifc : Iface) (s : State) : Out := s.readRow ifc (Reg.EVT_HQ 0) <|
  let s := s.hqRead ifc
  .next (s.answer ifc (Reg.EVT_HQ 0) (((s.snapOf ifc (Reg.EVT_HQ 0)).getD []).headD 0))

/-! ### SoE commands (R531) -/

/-- The record at an index of a region: the class-0 region counts from the oldest held. -/
def State.soeAt (s : State) (region idx : Nat) : Option SoeRec :=
  if region = 1 then s.evt.soe0[idx]? else Sparse.find s.evt.soeGen idx

/-- Mark a record as copied. -/
def State.soeMark (s : State) (region idx : Nat) : State :=
  if region = 1 then { s with evt := { s.evt with soe0 := upd s.evt.soe0 idx fun r => { r with copied := true } } }
  else match Sparse.find s.evt.soeGen idx with
    | some r => { s with evt := { s.evt with soeGen := Sparse.ins s.evt.soeGen idx { r with copied := true } } }
    | none => s

/-- Put the words of a record into registers from an offset on. -/
def State.wrWords (s : State) (off : Nat) (ws : List Nat) : State :=
  (ws.foldl (fun (p : State × Nat) w => (p.1.wr p.2 w, p.2 + 4)) (s, off)).1

/-- OP 1: latch one record into EVT_SOE_RD. -/
def State.soeRead (s : State) (region : Nat) : State :=
  let idx := s.getF Reg.EVT_SOE_ARG_INDEX
  match s.soeAt region idx with
  | none => s.wrWords (Reg.EVT_SOE_RD 0) emptyWords
  | some r => (s.wrWords (Reg.EVT_SOE_RD 0) (wordsOf r.ev.bytes)).soeMark region idx

/-- OP 2: a dump begins. -/
def State.soeDumpStart (s : State) (region : Nat) : State :=
  let d : SoeDump :=
    ⟨region, s.getF Reg.EVT_SOE_ARG_INDEX, s.getF Reg.EVT_SOE_ARG_COUNT, s.getF Reg.EVT_DUMP_ADDR_ADDR * 32⟩
  { s with evt := { s.evt with dump := some d } }

/-- OP 3: free copied class-0 records, oldest first, stopping at the first that has not been copied. -/
def State.soeArch (s : State) : State :=
  let n := ((s.evt.soe0.take (s.getF Reg.EVT_SOE_ARG_COUNT)).takeWhile fun r => r.copied).length
  let s := { s with evt := { s.evt with soe0 := s.evt.soe0.drop n } }
  let s := s.setF Reg.EVT_SOE0_STAT_OLDEST (s.getF Reg.EVT_SOE0_STAT_OLDEST + n)
  let s := if n > 0 then s.setF Reg.EVT_STAT_SOE_RES_FULL 0 else s
  s.emit evtSrc 0x9003 2 n

/-- A write of EVT_SOE_CMD: READ needs read level, DUMP and ARCH0 operate level; other values are ignored (R531, R644). -/
def State.soeCmd (s : State) (i : Iface) (v : Nat) : State :=
  let region := bits v 8 8
  match bits v 3 0 with
  | 1 => s.soeRead region
  | 2 => s.command i .operate fun s => s.soeDumpStart region
  | 3 => s.command i .operate State.soeArch
  | _ => s

/-- SOE_READ (R531): the word written to EVT_SOE_CMD with OP taken as READ. -/
def execSoeRead (ifc : Iface) (v : Word) (s : State) : Out := s.hostRow ifc <| .next (s.soeRead (bits v.toNat 8 8))

/-- SOE_DUMP (R531). -/
def execSoeDump (ifc : Iface) (v : Word) (s : State) : Out := s.hostRow ifc <|
  .next (s.command ifc .operate fun s => s.soeDumpStart (bits v.toNat 8 8))

/-- SOE_DUMP_DONE (R531): the records are in DRAM at EVT_DUMP_ADDR, and DUMP_DONE is raised. -/
def execSoeDumpDone (s : State) : Out :=
  match s.evt.dump with
  | none => .next s
  | some d =>
    let s := (List.range d.count).foldl (fun (s : State) k =>
      let bs := match s.soeAt d.region (d.index + k) with
        | some r => r.ev.bytes
        | none => List.replicate 32 0xFF
      (s.dramWr (d.addr + 32 * k) bs).soeMark d.region (d.index + k)) s
    .next ({ s with evt := { s.evt with dump := none } }.irq .evt 4)

/-- SOE_ARCH0 (R531). -/
def execSoeArch0 (ifc : Iface) (_v : Word) (s : State) : Out := s.hostRow ifc <| .next (s.command ifc .operate State.soeArch)

end Sys2Proof.Machine
end

