-- ==== Sys2Proof/Machine/Dio.lean ====
section
/-!
DEFINITION. Field digital inputs and outputs (17) and the trip hold (R324–R326): commanded states, latches, drivers, supply,
watchdog, diagnostics. What a change of an input starts elsewhere stands in Field.
-/
namespace Sys2Proof.Machine

/-! ### Access -/

/-- A channel's entry. -/
def State.dch (s : State) (n : Nat) : DioCh :=
  s.dio.ch.getD n ⟨.below, false, 0, 0, 0, none, 0, 0, none, 0, 0, false, 0, false, false, 0⟩

/-- Change a channel's entry. -/
def State.setDch (s : State) (n : Nat) (f : DioCh → DioCh) : State :=
  { s with dio := { s.dio with ch := upd s.dio.ch n f } }

/-- A group's entry. -/
def State.dgrp (s : State) (g : Nat) : DioGrp := s.dio.grp.getD g ⟨0, 0, 0, 0, false, 0⟩

/-- Change a group's entry. -/
def State.setDgrp (s : State) (g : Nat) (f : DioGrp → DioGrp) : State :=
  { s with dio := { s.dio with grp := upd s.dio.grp g f } }

/-- Source identifiers of a channel and of a group (R515). -/
def dioSrc (n : Nat) : Nat := srcId 0xA0 n
def dioGrpSrc (g : Nat) : Nat := srcId 0xA0 (0x40 + g)

/-- The channels of a group. -/
def grpChans (g : Nat) : List Nat := (List.range 16).map (· + 16 * g)

/-- Bit n of one of the five summary registers. -/
def State.dioBit (s : State) (r n : Nat) : Bool := (s.rd r).testBit n

/-- The group is READY. -/
def State.dioOn (s : State) (g : Nat) : Bool := s.on (secDio g)

/-- TYPE tells an output, or an input (R538). -/
def State.isOut (s : State) (n : Nat) : Bool := s.getF (Reg.DIO_CH_CFG_TYPE n) == 3
def State.isIn (s : State) (n : Nat) : Bool := s.getF (Reg.DIO_CH_CFG_TYPE n) == 1 || s.getF (Reg.DIO_CH_CFG_TYPE n) == 2

/-- Supply states of R549. -/
def supPresent : Nat := 0
def supLow : Nat := 1
def supMissing : Nat := 2
def supRestoring : Nat := 3

/-- The group's supply state. -/
def State.supply (s : State) (g : Nat) : Nat := s.getF (Reg.DIO_G_SUP_STATE g)

/-- The supply lets the driver of a channel follow its latch (R548–R551). -/
def State.supplyOk (s : State) (n : Nat) : Bool :=
  let st := s.supply (n / 16)
  st == supPresent || st == supLow || (st == supRestoring && (s.dch n).released)

/-- The driver of an output is on (R548): its gate follows the latch by 2 fc (R27). -/
def State.driver (s : State) (n : Nat) : Bool :=
  s.dio.gate2.testBit n && s.isOut n && s.dioOn (n / 16) && s.supplyOk n &&
  !(if s.flag (Reg.DIO_CH_CFG_RETRY n) then (s.dch n).ovlOff else s.flag (Reg.DIO_CH_STAT_OVL n)) &&
  !s.flag (Reg.DIO_CH_STAT_OTEMP n)

/-- DIO_DRV, bit n the driver of DIOn. -/
def State.drivers (s : State) : Nat := (List.range 32).foldl (fun v n => putBit v n (s.driver n)) 0

/-- A trip hold runs on a channel. -/
def State.holding (s : State) (n : Nat) : Bool := decide (n < 16) && s.flag (Reg.PRT_TRIPO_HOLDING n)

/-! ### Latches -/

/-- New latches of the masked channels: a latch that goes on clears EXT, and OPEN of the latch-off test (R553). -/
def State.setLatch (s : State) (mask bits_ : Nat) : State :=
  let old := s.rd Reg.DIO_LATCH
  let s := s.wr Reg.DIO_LATCH (maskPut old mask (bits_ &&& mask))
  (bitList 32 mask).foldl (fun (s : State) n =>
    if bits_.testBit n && !old.testBit n then
      let s := s.setF (Reg.DIO_CH_STAT_EXT n) 0
      if (s.dch n).openOff then (s.setF (Reg.DIO_CH_STAT_OPEN n) 0).setDch n fun c => { c with openOff := false } else s
    else s) s

/-- A course gives latches values: they change 2 fc after it sets (R27). -/
def State.latchLater (s : State) (mask vals : Nat) (trip : Bool) : State :=
  { s with dio := { s.dio with pipe := s.dio.pipe ++ [⟨s.tm.fc + 2, mask, vals, trip⟩] } }

/-- The gates at the end of a fc. -/
def State.gateTick (s : State) : State := { s with dio := { s.dio with gate1 := s.rd Reg.DIO_LATCH, gate2 := s.dio.gate1 } }

/-- The safe value of an output's latch (R556). -/
def State.safeLatch (s : State) (n : Nat) : Bool :=
  match s.getF (Reg.DIO_CH_CFG_SAFE n) with
  | 0 => false
  | 1 => true
  | _ => s.dioBit Reg.DIO_LATCH n

/-- Put the outputs among some channels to their safe values, except where a trip hold runs (R326, R556). -/
def State.latchSafe (s : State) (chs : List Nat) : State :=
  chs.foldl (fun (s : State) n =>
    if s.isOut n && !s.holding n then s.setLatch (2 ^ n) (b2n (s.safeLatch n) * 2 ^ n) else s) s

/-- A refresh of a group is registered (R555, R557). -/
def State.dioRefresh (s : State) (g : Nat) : State :=
  (s.setF (Reg.DIO_G_WST_REFRESHED g) 1).setDgrp g fun d => { d with wdStart := s.tm.runt, wdRun := true, wdLast := s.tm.runt }

/-- A DIO action without TRIP sets: mask and values of the group's 16 channels (R547, R555, R557). -/
def State.dioWrite (s : State) (g mask vals : Nat) : State :=
  let m := mask % 2 ^ 16 * 2 ^ (16 * g)
  let v := vals % 2 ^ 16 * 2 ^ (16 * g)
  let s := s.wr Reg.DIO_CMDST (maskPut (s.rd Reg.DIO_CMDST) m (v &&& m))
  (s.latchLater m v false).dioRefresh g

/-- A TRIP action sets on one channel: commanded state and latch take TSTATE, the trip hold starts, and during RESTORING the
driver is released at once (R324, R550). -/
def State.tripOne (s : State) (n : Nat) : State :=
  let t := s.getF (Reg.PRT_TRIPO_TSTATE n)
  let s := s.wr Reg.DIO_CMDST (maskPut (s.rd Reg.DIO_CMDST) (2 ^ n) (t * 2 ^ n))
  let s := s.latchLater (2 ^ n) (t * 2 ^ n) true
  let s := (s.setF (Reg.PRT_TRIPO_HOLDING n) 1).setDch n fun c => { c with holdStart := s.tm.runt }
  if s.supply (n / 16) = supRestoring then s.setDch n fun c => { c with released := true } else s

/-- The outputs a non-trip action may not drive: channels in a trip hold that it would leave opposite to TSTATE (R325). A
hold that has reached its end lets the action pass; one that began in this fc is a matter of R171. -/
def State.holdBlocks (s : State) (g mask vals : Nat) : Bool :=
  g == 0 && (bitList 16 mask).any fun n =>
    s.holding n && (s.dch n).holdStart != s.tm.runt &&
    !s.expired (s.dch n).holdStart (s.getF (Reg.PRT_TRIPO_HOLD n) * 1000000) && (b2n (vals.testBit n) != s.getF (Reg.PRT_TRIPO_TSTATE n))

/-- TRIP_HOLD_END (R325, R326). -/
def execTripHoldEnd (n : Nat) (s : State) : Out := s.only (decide (n < 16)) <|
  if s.holding n && s.expired (s.dch n).holdStart (s.getF (Reg.PRT_TRIPO_HOLD n) * 1000000) then
    let s := s.setF (Reg.PRT_TRIPO_HOLDING n) 0
    .next (if s.flag (Reg.DIO_G_WST_SAFE (n / 16)) then s.latchSafe [n] else s)
  else .next s

/-! ### A group becomes READY or stops (R541, R547, R555) -/

/-- The group is READY: commanded states and latches take INIT, inputs start at zero with the raw state following the pin,
the watchdog starts. -/
def State.dioReady (s : State) (g : Nat) : State :=
  let m := 0xFFFF * 2 ^ (16 * g)
  let init := (grpChans g).foldl (fun v n => putBit v n (s.isOut n && s.flag (Reg.DIO_CH_CFG_INIT n))) 0
  let raw := (grpChans g).foldl (fun v n => putBit v n (s.isIn n && (s.dch n).zone == .above)) 0
  let s := s.wr Reg.DIO_CMDST (maskPut (s.rd Reg.DIO_CMDST) m init)
  let s := s.setF (Reg.DIO_G_WST_SAFE g) 0
  let s := s.setF (Reg.DIO_G_WST_REFRESHED g) 0
  let s := { s with dio := { s.dio with pipe := s.dio.pipe.filter fun o => o.mask &&& m == 0 } }
  let s := s.setLatch m init
  let s := s.wr Reg.DIO_RAW (maskPut (s.rd Reg.DIO_RAW) m raw)
  let s := s.wr Reg.DIO_IN (maskPut (s.rd Reg.DIO_IN) m 0)
  let s := (grpChans g).foldl (fun (s : State) n =>
    (s.setF (Reg.DIO_CH_STAT_INTEG n) 0).setDch n fun c =>
      { c with rawOld := raw.testBit n, rawFc := s.tm.fc, tickAt := s.tm.runt, yLast := none, yRise := s.tm.runt,
               gateStart := s.tm.runt, edgeFirst := none, edges := 0 }) s
  (s.setF (Reg.DIO_G_SUP_PREADY g) 1).setDgrp g fun d => { d with wdStart := s.tm.runt, wdRun := true, wdLast := s.tm.runt }

/-- The group is no longer READY. -/
def State.dioDown (s : State) (g : Nat) : State :=
  (s.setF (Reg.DIO_G_SUP_PREADY g) 0).setDgrp g fun d => { d with wdRun := false }

/-! ### Inputs (R540–R546, R687) -/

/-- DIO_PIN_TRANSITION (R687): the raw state follows the thresholds with hysteresis. -/
def execDioPinTransition (n : Nat) (zone : PinZone) (s : State) : Out :=
  let s := s.setDch n fun c => { c with zone := zone }
  if !(decide (n < 32) && s.isIn n && s.dioOn (n / 16)) then .next s else
  let old := s.dioBit Reg.DIO_RAW n
  let new := match zone with
    | .above => true
    | .below => false
    | .between => old
  if new = old then .next s else
  let s := s.wr Reg.DIO_RAW (putBit (s.rd Reg.DIO_RAW) n new)
  .next (s.setDch n fun c =>
    { c with rawOld := if c.rawFc = s.tm.fc then c.rawOld else old, rawFc := s.tm.fc,
             rawRise := if new then s.tm.runt else c.rawRise })

/-- A tick of the channel falls in this fc: the run time has crossed a whole multiple of TICK since the last one (R540). -/
def State.tickDue (s : State) (n : Nat) : Bool :=
  let t := s.getF (Reg.DIO_CH_FLT_TICK n) * 1000 * 2 ^ 32
  s.isIn n && s.dioOn (n / 16) && decide ((s.dch n).tickAt / t < s.tm.runt / t)

/-- The raw state as it stood in the fc before. -/
def State.rawBefore (s : State) (n : Nat) : Bool :=
  if (s.dch n).rawFc = s.tm.fc then (s.dch n).rawOld else s.dioBit Reg.DIO_RAW n

/-- One tick of the integrator (R540). -/
def integ (raw : Bool) (l i : Nat) (y : Bool) : Nat × Bool :=
  let i := if raw then min (i + 1) l else i - 1
  (i, if i = l then true else if i = 0 then false else y)

/-- Sample one channel at its tick: I and Y. -/
def State.sampleTick (s : State) (n : Nat) : State :=
  let p := integ (s.rawBefore n) (s.getF (Reg.DIO_CH_FLT_L n)) (s.getF (Reg.DIO_CH_STAT_INTEG n)) (s.dioBit Reg.DIO_IN n)
  let was := s.dioBit Reg.DIO_IN n
  let s := s.setF (Reg.DIO_CH_STAT_INTEG n) p.1
  let s := s.wr Reg.DIO_IN (putBit (s.rd Reg.DIO_IN) n p.2)
  s.setDch n fun c =>
    { c with tickAt := s.tm.runt, yLast := if was && !p.2 then some (s.tm.runt - s.incOf * s.tm.div) else c.yLast,
             yRise := if !was && p.2 then s.tm.runt else c.yRise }

/-- DIO_IN_CHANGE with the estimated instant of a clean raw edge (R543). -/
def State.inChange (s : State) (n : Nat) : State :=
  if s.flag (Reg.DIO_CH_CFG_EVT n) then
    let us := s.getF (Reg.DIO_CH_FLT_L n) * s.getF (Reg.DIO_CH_FLT_TICK n)
    let back := (openDiv (us * s.rd Reg.ANG_FREQ * 2 ^ 8) 1000000).toNat
    s.emitAt (s.tw - us * 1000 * 2 ^ 16) (ofSigned 32 ((s.angle : Int) - back)) s.epoch (dioSrc n) 0xA00A 2
      (b2n (s.dioBit Reg.DIO_IN n)) 0
  else s

/-- Four-edge decoding (R545): +1 when A leads B, −1 when B leads A, nothing when both or neither changed. -/
def quadStep (a b a' b' : Bool) : Int :=
  if a != a' && b != b' then 0
  else if a != a' then (if a' != b then 1 else -1)
  else if b != b' then (if a == b' then 1 else -1)
  else 0

/-- The counting functions at a change of Y of channel n (R544, R546). -/
def State.countRise (s : State) (n : Nat) : State :=
  match s.getF (Reg.DIO_CH_CFG_FUNC n) with
  | 1 => s.wrapF (Reg.DIO_CH_CNT_COUNT n)
  | 3 =>
    let s := s.setF (Reg.DIO_CH_STAT_FLOW n) 0
    s.setDch n fun c =>
      { c with edgeFirst := some (c.edgeFirst.getD c.rawRise), edgeLast := c.rawRise, edges := c.edges + 1 }
  | _ => s

/-- A tick of one channel, or of the two tracks of a quadrature pair on its even channel (R540–R546). The caller handles
what a change of Y starts outside this unit. -/
def State.dioTick (s : State) (n : Nat) : State :=
  let quad := s.getF (Reg.DIO_CH_CFG_FUNC n) == 2
  let y := s.dioBit Reg.DIO_IN n
  if quad && n % 2 == 0 then
    let y1 := s.dioBit Reg.DIO_IN (n + 1)
    let s := (s.sampleTick n).sampleTick (n + 1)
    let y' := s.dioBit Reg.DIO_IN n
    let y1' := s.dioBit Reg.DIO_IN (n + 1)
    let s := s.setF (Reg.DIO_CH_CNT_COUNT n)
      (ofSigned 32 (toSigned 32 (s.getF (Reg.DIO_CH_CNT_COUNT n)) + quadStep y y1 y' y1'))
    let s := if y != y' then s.inChange n else s
    let s := if y1 != y1' then s.inChange (n + 1) else s
    if y != y' && y1 != y1' then
      ((s.raise (Reg.DIO_CH_STAT_QERR n)).irq .dio 3).emit (dioSrc n) 0xA00B 3 (s.getF (Reg.DIO_CH_CNT_COUNT n))
    else s
  else
    let s := s.sampleTick n
    let y' := s.dioBit Reg.DIO_IN n
    if y = y' then s else
    let s := s.inChange n
    if y' && !quad then s.countRise n else s

/-- DIO_FREQ_GATE_END (R546): a gate that holds at least two edge instants ends and writes DIO_CHn_FREQ. -/
def execDioFreqGateEnd (n : Nat) (s : State) : Out := s.only (decide (n < 32)) <|
  let c := s.dch n
  let span := c.edgeLast - c.edgeFirst.getD 0
  if s.getF (Reg.DIO_CH_CFG_FUNC n) = 3 ∧ s.expired c.gateStart (s.getF (Reg.DIO_CH_FLT_GATE n) * 1000000) ∧ 2 ≤ c.edges then
    let s := s.wr (Reg.DIO_CH_FREQ n) (openDivN ((c.edges - 1) * sec32 * 1024) span)
    .next (s.setDch n fun c => { c with gateStart := s.tm.runt, edgeFirst := none, edges := 0 })
  else .next s

/-! ### Field supply (R549–R552) -/

/-- The group enters a supply state. -/
def State.supplyTo (s : State) (g st : Nat) : State := (s.setF (Reg.DIO_G_SUP_STATE g) st).irq .dio 0

/-- DIO_SUPPLY_OK with the duration of LOW or MISSING. -/
def State.supplyOkEvent (s : State) (g : Nat) : State :=
  s.emit (dioGrpSrc g) 0xA003 2 ((s.tm.runt - (s.dgrp g).trouble) / 2 ^ 32)

/-- FIELD_SUPPLY_LOW (R549). -/
def execFieldSupplyLow (g mv : Nat) (s : State) : Out := s.only (s.hasDioGrp g) <|
  if s.supply g = supPresent then
    let s := ((s.supplyTo g supLow).raise (Reg.DIO_G_SUP_LOW_SEEN g)).setDgrp g fun d => { d with trouble := s.tm.runt }
    .next (s.emit (dioGrpSrc g) 0xA001 1 mv)
  else .next s

/-- FIELD_SUPPLY_RECOVER (R549): LOW to PRESENT. -/
def execFieldSupplyRecover (g : Nat) (s : State) : Out := s.only (s.hasDioGrp g) <|
  if s.supply g = supLow then .next ((s.supplyTo g supPresent).supplyOkEvent g) else .next s

/-- FIELD_SUPPLY_MISSING (R549, R551): every driver of the group is forced off, commanded states and latches stay. -/
def execFieldSupplyMissing (g : Nat) (s : State) : Out := s.only (s.hasDioGrp g) <|
  if s.supply g = supMissing then .next s else
  let s := if s.supply g = supPresent then s.setDgrp g fun d => { d with trouble := s.tm.runt } else s
  let s := ((s.supplyTo g supMissing).raise (Reg.DIO_G_SUP_MISS_SEEN g)).incF (Reg.DIO_G_SUP_DROPS g)
  let s := (grpChans g).foldl (fun (s : State) n => s.setDch n fun c => { c with released := false }) s
  .next (s.emit (dioGrpSrc g) 0xA002 1 (s.rd Reg.DIO_CMDST &&& 0xFFFF * 2 ^ (16 * g)))

/-- FIELD_SUPPLY_RESTORING (R549, R550). -/
def execFieldSupplyRestoring (g : Nat) (s : State) : Out := s.only (s.hasDioGrp g) <|
  if s.supply g = supMissing then
    .next ((s.supplyTo g supRestoring).setDgrp g fun d => { d with restore := s.tm.runt, slot := 0 })
  else .next s

/-- RESTORE_SLOT (R550): slot k begins k ms after the entry, for the outputs with index 4k to 4k + 3 of the group; with the
last slot the group is PRESENT. -/
def execRestoreSlot (g : Nat) (s : State) : Out := s.only (s.hasDioGrp g) <|
  let d := s.dgrp g
  if s.supply g = supRestoring ∧ s.expired d.restore (d.slot * 1000000) then
    let outs := (grpChans g).filter s.isOut
    let s := ((outs.drop (4 * d.slot)).take 4).foldl (fun (s : State) n => s.setDch n fun c => { c with released := true }) s
    let s := s.setDgrp g fun d => { d with slot := d.slot + 1 }
    .next (if outs.length ≤ 4 * (d.slot + 1) then (s.supplyTo g supPresent).supplyOkEvent g else s)
  else .next s

/-- FIELD_SUPPLY_HIGH (R549). -/
def execFieldSupplyHigh (g : Nat) (high : Bool) (s : State) : Out := s.only (s.hasDioGrp g) <| .next (s.setB (Reg.DIO_G_SUP_HIGH g) high)

/-! ### Diagnostics (R548, R552–R554) -/

/-- Per-channel diagnostics of an output are reported (R552). -/
def State.diagOn (s : State) (n : Nat) : Bool := decide (n < 32) && s.isOut n && s.dioOn (n / 16) && s.supplyOk n

/-- A diagnostic flag rises: the flag, DIAG, its class-1 event (R553). -/
def State.diagRise (s : State) (n : Nat) (f : Fld) (code v : Nat) : State :=
  if s.flag f then s.mark f.off (2 ^ f.lo) else ((s.raise f).irq .dio 1).emit (dioSrc n) code 1 v

/-- DIO_OVERLOAD (R553, R554): the driver has been in current limit for 50 µs and does not turn off in
this fc. -/
def execDioOverload (n : Nat) (s : State) : Out := s.only (decide (n < 32)) <|
  let off := s.comes fun c => match c with
    | .fieldSupplyMissing g => g == n / 16
    | .dioOvertemp m => m == n
    | _ => false
  if s.diagOn n && s.driver n && !off then
    let s := s.diagRise n (Reg.DIO_CH_STAT_OVL n) 0xA004 0
    .next (s.setDch n fun c => { c with ovlOff := true, retryAt := s.tm.runt })
  else .next s

/-- DIO_OVERLOAD_RETRY (R548): every 100 ms of run time, with RETRY = 1; the driver goes on again unless the limit
persists. -/
def execDioOverloadRetry (n : Nat) (persists : Bool) (s : State) : Out := s.only (decide (n < 32)) <|
  let c := s.dch n
  if s.flag (Reg.DIO_CH_CFG_RETRY n) && c.ovlOff && s.expired c.retryAt 100000000 then
    .next (s.setDch n fun c => { c with ovlOff := persists, retryAt := s.tm.runt })
  else .next s

/-- DIO_OPEN (R553): with the driver on, or with the latch off under OPEN_OFF. -/
def execDioOpen (n : Nat) (s : State) : Out := s.only (decide (n < 32)) <|
  if !s.diagOn n then .next s
  else if s.driver n then
    .next ((s.diagRise n (Reg.DIO_CH_STAT_OPEN n) 0xA005 0).setDch n fun c => { c with openOff := false })
  else if !s.dioBit Reg.DIO_LATCH n && s.flag (Reg.DIO_CH_CFG_OPEN_OFF n) then
    .next ((s.diagRise n (Reg.DIO_CH_STAT_OPEN n) 0xA005 1).setDch n fun c => { c with openOff := true })
  else .next s

/-- DIO_OPEN_CLEAR (R553). -/
def execDioOpenClear (n : Nat) (s : State) : Out := s.only (decide (n < 32)) <|
  if s.diagOn n then .next ((s.setF (Reg.DIO_CH_STAT_OPEN n) 0).setDch n fun c => { c with openOff := false }) else .next s

/-- DIO_OVERTEMP (R553): the driver is forced off. -/
def execDioOvertemp (n : Nat) (s : State) : Out := s.only (decide (n < 32)) <|
  if s.diagOn n then .next (s.diagRise n (Reg.DIO_CH_STAT_OTEMP n) 0xA006 0) else .next s

/-- DIO_OVERTEMP_CLEAR (R553). -/
def execDioOvertempClear (n : Nat) (s : State) : Out := s.only (decide (n < 32)) <|
  if s.diagOn n then .next (s.setF (Reg.DIO_CH_STAT_OTEMP n) 0) else .next s

/-- DIO_EXT_DRIVE (R553): latch off and the pin driven from outside. -/
def execDioExtDrive (n : Nat) (s : State) : Out := s.only (decide (n < 32)) <|
  if s.diagOn n && !s.dioBit Reg.DIO_LATCH n then .next (s.diagRise n (Reg.DIO_CH_STAT_EXT n) 0xA007 0) else .next s

/-- DIO_EXT_DRIVE_CLEAR (R553). -/
def execDioExtDriveClear (n : Nat) (s : State) : Out := s.only (decide (n < 32)) <|
  if s.diagOn n then .next (s.setF (Reg.DIO_CH_STAT_EXT n) 0) else .next s

/-! ### Logic-side watchdog (R555–R558) -/

/-- The group enters SAFE, or expires again while SAFE (R556, R557). -/
def State.dioExpire (s : State) (g : Nat) (chs : List Nat) : State :=
  let was := s.flag (Reg.DIO_G_WST_SAFE g)
  let since := (s.tm.runt - (s.dgrp g).wdLast) / 2 ^ 32
  let s := (s.incF (Reg.DIO_G_WST_EXPIRIES g)).setF (Reg.DIO_G_WST_REFRESHED g) 0
  let s := (s.setDgrp g fun d => { d with wdRun := false }).irq .dio 2
  if was then s else ((s.setF (Reg.DIO_G_WST_SAFE g) 1).latchSafe chs).emit (dioGrpSrc g) 0xA008 1 since

end Sys2Proof.Machine
end

