-- ==== Sys2Proof/Machine/Protect.lean ====
section
/-!
DEFINITION. Protection elements (09): phasors and derived quantities, the 24 element slots, blocking and holding, breaker
failure; and what a decision of a feeder or tile does (R173, R323).
-/
namespace Sys2Proof.Machine

/-! ### Decisions (R173, R284, R323) -/

/-- Source identifiers of a feeder and of a sentinel tile (R515). -/
def fdrSrc (f : Nat) : Nat := srcId 0x30 f
def tileSrc (t : Nat) : Nat := srcId 0x30 (0x40 + t)

/-- The slot of the standing course of a source, if it has one. -/
def State.standingOf (s : State) (src : Nat) : Option Nat :=
  s.crs.slots.findIdx? fun c => (c.st == .standing || c.st == .set) && c.srcId == src

/-- A decision of one source in a fc sets its standing course some fc later; a second decision for the same fc joins the first.
It draws its sequence number in the fc after the decision (R173). -/
def State.decideOne (s : State) (src at_ wait mask : Nat) : State :=
  if (s.standingOf src).isNone then s
  else if s.crs.decisions.any fun d => d.src == src && d.due == at_ + wait then
    { s with crs := { s.crs with decisions := s.crs.decisions.map fun d =>
        if d.src = src ∧ d.due = at_ + wait then { d with mask := d.mask ||| mask } else d } }
  else { s with crs := { s.crs with decisions := s.crs.decisions ++ [⟨src, at_ + wait, at_ + 1, none, mask, none⟩] } }

/-- A decision of feeder f in a fc: its standing course sets 5 fc later, and in the same fc that of every tile in
PRT_Ff_LINK.TILES (R173, R323). -/
def State.decideFeeder (s : State) (f at_ : Nat) : State :=
  let s := s.decideOne (fdrSrc f) at_ 5 0
  (bitList 16 (s.getF (Reg.PRT_F_LINK_TILES f))).foldl (fun (s : State) t => s.decideOne (tileSrc t) at_ 5 0) s

/-- A result of this fc makes comparator i of tile t decide: its output rises 2 fc later (R27, R320), and the course sets 3 fc
after that (R173). -/
def State.decideTile (s : State) (t i : Nat) : State := s.decideOne (tileSrc t) (s.tm.fc + 2) 3 (2 ^ i)

/-! ### Feeder state -/

/-- An element lane at reset. -/
def laneZero : Lane := ⟨false, 0, 0, 0, 0, false, false, false⟩

/-- The phases of a slot: three for the phase-based slots, else one quantity (R282). -/
def slotLanes (e : Nat) : Nat := elemLanes e

/-- A feeder at reset. -/
def fdrZero : FdrSt := FdrSt.reset

/-- A feeder's entry. -/
def State.fdr (s : State) (f : Nat) : FdrSt := s.prt.fdr.getD f fdrZero

/-- Change a feeder's entry. -/
def State.setFdr (s : State) (f : Nat) (g : FdrSt → FdrSt) : State :=
  { s with prt := { s.prt with fdr := upd s.prt.fdr f g } }

/-- An element of a feeder. -/
def State.elem (s : State) (f e : Nat) : Elem := (s.fdr f).elems.getD e ⟨[], false⟩

/-- Change an element. -/
def State.setElem (s : State) (f e : Nat) (x : Elem) : State :=
  s.setFdr f fun d => { d with elems := d.elems.set e x }

/-- The active setting group, 1–4 (R307). -/
def State.sg (s : State) (f : Nat) : Nat := s.getF (Reg.PRT_F_SG_SG f) + 1

/-! ### Phasors (R276–R281) -/

/-- The key of an input's sample in a grid sample, or none (R274). -/
def State.inputKey (s : State) (f q : Nat) : Option Nat :=
  let i := s.getF (Reg.PRT_F_IN_INDEX f q)
  match s.getF (Reg.PRT_F_IN_KIND f q) with
  | 0 => some i
  | 1 => some (0x10000 + i)
  | 2 => some (0x20000 + i)
  | _ => none

/-- RATIO of an input: that of its channel; for a stream no rule states one (log 16). -/
def State.ratioOf (s : State) (key : Nat) : Rat :=
  if key < 0x10000 then f32 (s.rd (Reg.AFE_CH_RATIO (key / 8) (key % 8))) else Config.streamRatio key

/-- The number of grid samples per cycle (R70). -/
def State.gridN (s : State) (g : Nat) : Nat := 32 * 2 ^ s.getF (Reg.ANG_GRID_CFG_NSEL g)

/-- A grid sample's value of an input. -/
def GSample.get (g : GSample) (key : Nat) : Option Sample := (g.vals.find? fun v => v.1 == key).map (·.2)

/-- No phasor: an input that is none. -/
def phasorZero : Phasor := ⟨0, 0, false, false, false, false⟩

/-- The phasor of an input over the W newest grid samples, with the flags of the N newest (R277, R280). The factor √2 is
left out; magnitudes put it back. -/
def phasorOf (grid : List GSample) (key n w : Nat) : Phasor :=
  let win := (grid.take w).filterMap fun g => (g.get key).map fun x => (g.k, x)
  let fl := (grid.take n).filterMap fun g => g.get key
  let sum := fun (c : Rat → Rat) => win.foldl (fun (a : Rat) p => a + (p.2.value : Rat) * c ((p.1 : Rat) / n)) 0
  ⟨sum sinT / w, sum cosT / w, fl.any (·.uns), fl.any (·.ovr), fl.any (·.sub), fl.any (·.stale)⟩

/-- Sum of two phasors, flags combined (R280). -/
def Phasor.add (a b : Phasor) : Phasor :=
  ⟨a.re + b.re, a.im + b.im, a.uns || b.uns, a.ovr || b.ovr, a.sub || b.sub, a.stale || b.stale⟩

/-- A phasor turned by an angle in turns. -/
def Phasor.turn (a : Phasor) (t : Rat) : Phasor :=
  { a with re := a.re * cosT t - a.im * sinT t, im := a.re * sinT t + a.im * cosT t }

/-- A phasor times a rational. -/
def Phasor.scale (a : Phasor) (k : Rat) : Phasor := { a with re := a.re * k, im := a.im * k }

/-- Half the square of the magnitude: |X|² = 2 (re² + im²). -/
def Phasor.sq (a : Phasor) : Rat := 2 * (a.re * a.re + a.im * a.im)

/-- The angle of a phasor. -/
def Phasor.arg (a : Phasor) : Nat := argOf a.re a.im % 2 ^ 32

/-- The 14 quantities of R312 from the eight inputs (R281); ROT = 1 exchanges B and C. -/
def derive (rot : Bool) (x : List Phasor) : List Phasor :=
  let p := fun i => x.getD i phasorZero
  let sym := fun (a b c : Phasor) =>
    let b' := if rot then c else b
    let c' := if rot then b else c
    [((a.add (b'.turn (1 / 3))).add (c'.turn (2 / 3))).scale (1 / 3),
     ((a.add (b'.turn (2 / 3))).add (c'.turn (1 / 3))).scale (1 / 3), (a.add b').add c']
  (List.range 8).map p ++ sym (p 0) (p 1) (p 2) ++ sym (p 4) (p 5) (p 6)

/-! ### Element inputs -/

/-- What an element evaluates in one lane: the square of its quantity per-unit of nominal, what it uses, and the two
phasors of a directional element. -/
structure Quant where
  sq : Rat
  uses : List Nat
  uns : Bool
  stale : Bool
  op : Phasor
  pol : Phasor
  deriving DecidableEq, Repr

/-- Square of a phasor's magnitude in per-unit (R276): pin scale 10 V in 2^23, RATIO, the nominal; `k` is 3 for what R276
divides by NOM_V ÷ √3. -/
def State.puSq (s : State) (f : Nat) (volt : Bool) (k : Rat) (key : Option Nat) (x : Phasor) : Rat :=
  let r := (key.map s.ratioOf).getD 0 * 10 / 2 ^ 23
  let nom := f32 (if volt then s.rd (Reg.PRT_F_NOM_V f) else s.rd (Reg.PRT_F_NOM_I f))
  x.sq * r * r * k / (nom * nom)

/-- A current quantity (index of R312), a phase-neutral voltage quantity, a phase-phase voltage. -/
def State.quant (s : State) (f : Nat) (ph : List Phasor) (i : Nat) (uses : List Nat) (volt : Bool) (k : Rat) : Quant :=
  let x := ph.getD i phasorZero
  ⟨s.puSq f volt k (s.inputKey f (uses.headD 0)) x, uses, x.uns, x.stale, x, phasorZero⟩

/-- A phase-phase voltage: VAB, VBC or VCA (R281), before ROT. -/
def ppVolt (ph : List Phasor) (a b : Nat) : Phasor := (ph.getD a phasorZero).add ((ph.getD b phasorZero).scale (-1))

/-- The phases of phase-phase voltage x (R281): VAB, VBC, VCA; B and C exchanged under ROT. -/
def ppPair (rot : Bool) (x : Nat) : Nat × Nat :=
  let r := fun (i : Nat) => if rot && i != 0 then 3 - i else i
  (r x, r ((x + 1) % 3))

/-- The polarising phase-phase voltage of phase x of 67P (R292): VBC, VCA, VAB, with B and C exchanged under ROT. -/
def polPair (rot : Bool) (x : Nat) : Nat × Nat :=
  let pr := match x with
    | 0 => (1, 2)
    | 1 => (2, 0)
    | _ => (0, 1)
  if rot then (pr.2, pr.1) else pr

/-- The quantity of lane x of slot e (R282, R291–R296). -/
def State.laneQuant (s : State) (f e x : Nat) (ph : List Phasor) (src logic : Nat) (rot : Bool) : Quant :=
  let cur := fun i uses => s.quant f ph i uses false 1
  let resid := if src = 0 then cur 13 [4, 5, 6] else cur 7 [7]
  if e ≤ 2 ∨ e = 5 ∨ e = 23 then cur (4 + x) [4 + x]
  else if e = 3 ∨ e = 4 ∨ e = 6 then resid
  else if e = 7 ∨ e = 8 then
    let pr := polPair rot x
    let v := (ppVolt ph pr.1 pr.2).turn (1 / 4)
    let q := cur (4 + x) [4 + x]
    { q with uses := [4 + x, pr.1, pr.2], uns := q.uns || v.uns, stale := q.stale || v.stale, pol := v }
  else if e = 9 ∨ e = 10 then
    let q := if logic = 1 then cur 12 [4, 5, 6] else resid
    let v := (ph.getD (if logic = 1 then 9 else 10) phasorZero).scale (-1)
    { q with uses := q.uses ++ [0, 1, 2], uns := q.uns || v.uns, stale := q.stale || v.stale, pol := v }
  else if e = 11 then cur 12 [4, 5, 6]
  else if 12 ≤ e ∧ e ≤ 15 then
    if src = 0 then s.quant f ph x [x] true 3
    else
      let pr := ppPair rot x
      let v := ppVolt ph pr.1 pr.2
      ⟨s.puSq f true 1 (s.inputKey f pr.1) v, [pr.1, pr.2], v.uns, v.stale, v, phasorZero⟩
  else if e = 16 ∨ e = 17 then (if src = 0 then s.quant f ph 10 [0, 1, 2] true 3 else s.quant f ph 3 [3] true 3)
  else s.quant f ph 8 [0, 1, 2] true 3

/-- A quantity is at least a level in mpu times a factor (squares compared). -/
def atLeast (q : Quant) (mpu : Nat) (k : Rat) : Bool :=
  decide (q.sq * 1000000 ≥ ((mpu : Rat) * k) * ((mpu : Rat) * k))

/-! ### Direction (R292–R295) -/

/-- θ = arg I − arg V − RCA in units of 2^32 × 36,000 per turn, as a signed number. -/
def thetaOf (argI argV : Nat) (rca : Int) : Int :=
  let turn : Int := 2 ^ 32 * 36000
  let t := (((argI : Int) - argV) * 36000 - rca * 2 ^ 32) % turn
  if t > turn / 2 then t - turn else t

/-- Forward, reverse, or undetermined (R292). -/
def dirOf (argI argV : Nat) (rca : Int) (lim : Nat) : Bool × Bool :=
  let t := thetaOf argI argV rca
  let l : Int := (lim : Int) * 100 * 2 ^ 32
  let half : Int := 2 ^ 31 * 36000
  (decide ((t.natAbs : Int) ≤ l), decide (half - (t.natAbs : Int) ≤ l))

/-- The direction of a directional lane and whether it comes from memory (R292–R294). -/
def State.laneDir (s : State) (f e x : Nat) (q : Quant) (aux : Nat) (rot : Bool) : Bool × Bool × Bool :=
  let rca := toSigned 16 (bits aux 31 16)
  let lim := bits aux 15 8
  let vp : Rat := (bits aux 7 0 : Rat) / 200
  let key := s.inputKey f 0
  if e = 7 ∨ e = 8 then
    if s.puSq f true 1 key q.pol ≥ vp * vp then
      let d := dirOf q.op.arg q.pol.arg rca lim
      (d.1, d.2, false)
    else match (s.fdr f).v1mem.getD (e - 7) none with
      | some (m, age) =>
        if age ≤ 160 then
          let t : Rat := match (if rot ∧ x ≠ 0 then 3 - x else x) with
            | 0 => 0
            | 1 => 2 / 3
            | _ => 1 / 3
          let d := dirOf q.op.arg (m.turn t).arg rca lim
          (d.1, d.2, true)
        else (false, false, false)
      | none => (false, false, false)
  else if s.puSq f true 3 key q.pol ≥ vp * vp then
    let d := dirOf q.op.arg q.pol.arg rca lim
    (d.1, d.2, false)
  else (false, false, false)

/-! ### Operate times (R287–R290) -/

/-- The update interval in ms: 1 ÷ (16 × ANG_FREQ). -/
def State.dtMs (s : State) : Rat :=
  let fr := s.rd Reg.ANG_FREQ
  if fr = 0 then 0 else 1000 * 2 ^ 20 / (fr : Rat)

/-- Constants of a curve (R289): k or A, exponent (0 stands for 0.02), B, tr. -/
def curveOf (c : Nat) : Rat × Nat × Rat × Rat :=
  match c with
  | 1 => (14 / 100, 0, 0, 97 / 10)
  | 2 => (135 / 10, 1, 0, 432 / 10)
  | 3 => (80, 2, 0, 582 / 10)
  | 4 => (120, 1, 0, 120)
  | 5 => (515 / 10000, 0, 114 / 1000, 485 / 100)
  | 6 => (1961 / 100, 2, 491 / 1000, 216 / 10)
  | _ => (282 / 10, 2, 1217 / 10000, 291 / 10)

/-- M to the curve's exponent. -/
def powCurve (m : Rat) (p : Nat) : Rat := match p with
  | 0 => pow002 m
  | 1 => m
  | _ => m * m

/-- t(M) in ms for an inverse-time element, or none where it is infinite (R289); `tms` in thousandths. -/
def opTimeMs (curve tms tmin : Nat) (m : Rat) : Option Rat :=
  let c := curveOf curve
  let d := powCurve m c.2.1 - 1
  if d ≤ 0 then none
  else
    let t := (tms : Rat) * (c.1 / d + c.2.2.1)
    some (if t < (tmin : Rat) then tmin else t)

/-- A share of 2^31, rounded with halves away from zero (R287). -/
def share (dt : Rat) (t : Option Rat) : Nat :=
  match t with
  | none => 0
  | some t => if t ≤ 0 then 0 else (roundR (2 ^ 31 * dt / t)).toNat

/-- Decrease of the accumulator under timed reset (R290). -/
def resetShare (dt : Rat) (curve tms : Nat) (m : Rat) : Nat :=
  if m < 1 then share dt (some ((tms : Rat) * (curveOf curve).2.2.2 / (1 - m * m))) else 0

/-! ### One lane at one update -/

/-- Settings of slot e in the active group. -/
def State.elemSet (s : State) (f e : Nat) : ElemSet :=
  let g := s.sg f
  ⟨s.flag (Reg.PRT_F_SG_E_CFG_EN f g e), s.getF (Reg.PRT_F_SG_E_CFG_CURVE f g e), s.flag (Reg.PRT_F_SG_E_CFG_RESET f g e),
   s.flag (Reg.PRT_F_SG_E_CFG_HALF f g e), s.getF (Reg.PRT_F_SG_E_CFG_DIR f g e), s.getF (Reg.PRT_F_SG_E_CFG_SRC f g e),
   s.getF (Reg.PRT_F_SG_E_CFG_LOGIC f g e), s.flag (Reg.PRT_F_SG_E_CFG_TRIP f g e), s.flag (Reg.PRT_F_SG_E_CFG_BFI f g e),
   s.rd (Reg.PRT_F_SG_E_PICKUP f g e), s.rd (Reg.PRT_F_SG_E_TIME f g e), s.rd (Reg.PRT_F_SG_E_AUX f g e)⟩

/-- What the conditions of one lane say at an update: pickup may set, pickup may stay, consecutive updates needed (0 none),
direction, M. -/
structure LaneIn where
  set : Bool
  keep : Bool
  need : Nat
  count : Bool
  fwd : Bool
  rev : Bool
  mem : Bool
  m : Rat
  hold : Bool
  deriving DecidableEq, Repr

/-- TRST of a slot in ms (R282, R288). -/
def trstOf (e : Nat) (st : ElemSet) : Nat := if e ≤ 6 ∨ e = 11 then bits st.aux 15 0 else 0

/-- TMIN of a slot in ms (R282, R289). -/
def tminOf (e : Nat) (st : ElemSet) : Nat := if e = 5 ∨ e = 6 ∨ e = 11 then bits st.aux 31 16 else 0

/-- Pickup of a lane (R283, R289, R295, R299, R309): under `hold` it cannot set and an element picked up keeps. -/
def lanePu (st : ElemSet) (i : LaneIn) (l : Lane) : Lane :=
  let cnt := if i.need = 0 then 0 else if i.count then min (l.cnt + 1) i.need else 0
  let l := { l with cnt := if i.hold then l.cnt else cnt }
  if i.hold then l
  else if l.pu then
    if i.keep then { l with m := i.m, mem := i.mem } else { l with pu := false, m := i.m, mem := i.mem }
  else
    let dirOk := st.dir = 0 ∨ (st.dir = 1 ∧ i.fwd) ∨ (st.dir = 2 ∧ i.rev)
    if i.set && decide (i.need ≤ cnt) && decide dirOk then
      { l with pu := true, m := i.m, fwd := decide (st.dir ≠ 0) && i.fwd, rev := decide (st.dir ≠ 0) && i.rev, mem := i.mem }
    else { l with m := i.m, mem := i.mem }

/-- The accumulator of a lane at an update (R287, R288, R290). -/
def laneAcc (e : Nat) (dt : Rat) (st : ElemSet) (l : Lane) : Lane :=
  let inv := st.curve ≠ 0
  if l.pu then
    let l := { l with rst := 0 }
    if inv then { l with acc := min (2 ^ 31) (l.acc + if l.m < 1 ∧ st.reset then 0 else
        share dt (opTimeMs st.curve st.time (tminOf e st) l.m)) }
    else if st.time = 0 then { l with acc := 2 ^ 31 }
    else { l with acc := min (2 ^ 31) (l.acc + share dt (some (st.time : Rat))) }
  else if inv then
    if st.reset then { l with acc := l.acc - resetShare dt st.curve st.time l.m }
    else { l with acc := 0 }
  else if st.reset ∧ l.acc ≠ 0 then
    if l.rst + dt ≤ (trstOf e st : Rat) then { l with rst := l.rst + dt } else { l with acc := 0, rst := 0 }
  else { l with acc := 0, rst := 0 }

/-- While picked up with M below 1 under timed reset the accumulator falls (R290: at each update with M < 1); at 2^31 it stays
while OP is 1 (R287). -/
def laneFall (dt : Rat) (st : ElemSet) (op : Bool) (l : Lane) : Lane :=
  if st.curve ≠ 0 ∧ st.reset ∧ l.pu ∧ l.m < 1 ∧ ¬ (op ∧ l.acc = 2 ^ 31) then
    { l with acc := l.acc - resetShare dt st.curve st.time l.m }
  else l

/-! ### Blocking (R309) -/

/-- CAUSE codes. -/
def causeBlk : Nat := 4
def causeRefire : Nat := 2
def causeNogrid : Nat := 5
def causeStale : Nat := 3
def causeNoinput : Nat := 7
def causeUns : Nat := 1
def causeTracker : Nat := 6
def causeDir : Nat := 8
def causeVblk : Nat := 9

/-- The 81 slots. -/
def is81 (e : Nat) : Bool := decide (18 ≤ e ∧ e ≤ 22)

/-- The LOCKED state of ANG_STAT. -/
def trkLocked : Nat := 1

/-- Conditions of R301. -/
def State.trkHeld (s : State) (f : Nat) (ph : List Phasor) (vblk : Nat) : Bool :=
  !atLeast (s.quant f ph 8 [0, 1, 2] true 3) vblk 1 || s.getF Reg.ANG_STAT_STATE != trkLocked || s.flag Reg.ANG_STAT_PULLING

/-- The conditions of one lane (R289, R292–R301). -/
def State.laneIn (s : State) (f e : Nat) (st : ElemSet) (rot : Bool) (q : Quant) (x : Nat) : LaneIn :=
  let none_ : LaneIn := ⟨false, false, 0, false, false, false, false, 0, false⟩
  if is81 e then
    let fr : Int := s.rd Reg.ANG_FREQ * 1000
    let p : Int := st.pickup * 2 ^ 24
    let back : Int := 20 * 2 ^ 24
    let r := s.getI Reg.ANG_ROCOF_ROCOF
    let rp : Int := st.pickup * 2 ^ 16
    if e ≤ 19 then { none_ with set := true, keep := decide (fr > p - back), need := 3, count := decide (fr ≥ p) }
    else if e ≤ 21 then { none_ with set := true, keep := decide (fr < p + back), need := 3, count := decide (fr ≤ p) }
    else
      let v := match st.logic with
        | 1 => r
        | 2 => -r
        | _ => (r.natAbs : Int)
      { none_ with set := true, keep := decide ((r.natAbs : Int) * 10000 ≥ rp * 9), need := 4,
                   count := decide (v * 1000 ≥ rp) }
  else if e = 12 ∨ e = 13 then
    { none_ with set := !atLeast q st.pickup 1 || decide (q.sq * 1000000 = (st.pickup : Rat) * st.pickup),
                 keep := !atLeast q st.pickup (103 / 100) ||
                   decide (q.sq * 1000000 = (st.pickup : Rat) * st.pickup * (103 / 100) * (103 / 100)) }
  else if 14 ≤ e ∧ e ≤ 17 then { none_ with set := atLeast q st.pickup 1, keep := atLeast q st.pickup (97 / 100) }
  else
    let m := if st.curve = 0 ∨ st.pickup = 0 then 0 else
      let m := sqrtR (q.sq * 1000000 / ((st.pickup : Rat) * st.pickup))
      if m > 20 then 20 else m
    let d := if 7 ≤ e ∧ e ≤ 10 then s.laneDir f e x q st.aux rot else (false, false, false)
    { none_ with set := atLeast q st.pickup 1, keep := atLeast q st.pickup (95 / 100), fwd := d.1, rev := d.2.1, mem := d.2.2,
                 m := m }

/-! ### Element outputs -/

/-- The value of PICKUP, DROPOUT and ELEMENT_OP: slot in bits 7:0, phases in bits 10:8 (R285). -/
def elemValue (e phases : Nat) : Nat := e + phases * 2 ^ 8

/-- The phase bits of an element (bit 0 A). -/
def Elem.phases (x : Elem) : Nat :=
  if x.lanes.length = 3 then (List.range 3).foldl (fun v i => v + b2n ((x.lanes.getD i laneZero).pu) * 2 ^ i) 0 else 0

/-- PU of an element. -/
def Elem.pu (x : Elem) : Bool := x.lanes.any (·.pu)

/-- Write an element's registers (R312). -/
def State.elemRegs (s : State) (f e cause : Nat) (x : Elem) : State :=
  let s := s.setB (Reg.PRT_F_E_STAT_OP f e) x.op
  let s := s.setB (Reg.PRT_F_E_STAT_PU f e) x.pu
  let s := s.setF (Reg.PRT_F_E_STAT_PHASE f e) x.phases
  let s := s.setB (Reg.PRT_F_E_STAT_DIRF f e) (x.lanes.any fun l => l.pu && l.fwd)
  let s := s.setB (Reg.PRT_F_E_STAT_DIRR f e) (x.lanes.any fun l => l.pu && l.rev)
  let s := s.setB (Reg.PRT_F_E_STAT_MEM f e) (x.lanes.any (·.mem))
  let s := s.setF (Reg.PRT_F_E_STAT_CAUSE f e) cause
  let s := if e = 23 then s else s.wr (Reg.PRT_F_E_ACC f e) ((x.lanes.map (·.acc)).foldl max 0)
  let s := s.setBit (Reg.PRT_F_PU_MASK f) e x.pu
  let s := s.setBit (Reg.PRT_F_OP_MASK f) e x.op
  s.setBit Reg.PRT_OPMASK_OP f (s.getF (Reg.PRT_F_OP_MASK f) != 0)

/-- Start 50BF (R303, R304): only while its current check is picked up, the element is enabled and neither blocked nor held
(R309). -/
def State.bfStart (s : State) (f : Nat) : State :=
  let d := s.fdr f
  let st := s.elemSet f 23
  if st.en && d.bfPick && d.bfStart.isNone && !(s.getF (Reg.PRT_F_BLK_BLK f)).testBit 23 && d.holdAt.isNone &&
      s.getF (Reg.PRT_F_E_STAT_CAUSE f 23) != causeUns then
    let x : Elem := ⟨[{ laneZero with pu := true }], false⟩
    let s := (s.setFdr f fun d => { d with bfStart := some s.tm.runt }).setElem f 23 x
    let s := s.elemRegs f 23 0 x
    (s.irq .prt 0).emit (fdrSrc f) 0x3008 2 (elemValue 23 0)
  else s

/-- The BLOCK interrupt: an element enters REFIRE, NOGRID or STALE. -/
def State.causeIrq (s : State) (old new : Nat) : State :=
  if new ≠ old ∧ (new = causeRefire ∨ new = causeNogrid ∨ new = causeStale) then s.irq .prt 2 else s

/-- CAUSE of 50BF. -/
def State.bfCause (s : State) (f cause : Nat) : State :=
  (s.causeIrq (s.getF (Reg.PRT_F_E_STAT_CAUSE f 23)) cause).setF (Reg.PRT_F_E_STAT_CAUSE f 23) cause

/-- Clear 50BF: PU, OP, RETRIP and both timers (R305), with the DROPOUT event unless it is blocked (R285, R309). -/
def State.bfClear (s : State) (f cause : Nat) : State :=
  let old := s.elem f 23
  let x : Elem := ⟨[laneZero], false⟩
  let s := s.bfCause f cause
  let s := (s.setFdr f fun d => { d with bfStart := none }).setElem f 23 x
  let s := (s.elemRegs f 23 cause x).setF (Reg.PRT_F_E_STAT_RETRIP f 23) 0
  if old.pu && !old.op && cause != causeBlk then s.emit (fdrSrc f) 0x3009 3 (elemValue 23 0) else s

/-- The elements of a feeder are held: PU, OP, accumulators and the timers of 50BF stand still (R135, R309). A cause higher in
the table stays. -/
def State.holdElems (s : State) (f cause : Nat) : State :=
  let s := { s with prt := { s.prt with jobs := s.prt.jobs.filter fun j => j.f != f } }
  let s := s.setFdr f fun d => { d with holdAt := some (d.holdAt.getD s.tm.runt) }
  (List.range 24).foldl (fun (s : State) e =>
    let c := s.getF (Reg.PRT_F_E_STAT_CAUSE f e)
    if !(s.elemSet f e).en || c == causeBlk || (c == causeRefire && cause == causeNogrid) then s
    else (s.causeIrq c cause).setF (Reg.PRT_F_E_STAT_CAUSE f e) cause) s

/-- The hold ends, unless the other of its two causes stands: 50BF times on. -/
def State.unholdElems (s : State) (f : Nat) : State :=
  if s.flag (Reg.PRT_F_STAT_REFIRE f) || s.flag (Reg.PRT_F_STAT_NOGRID f) then s
  else s.setFdr f fun d =>
    let past := s.tm.runt - d.holdAt.getD s.tm.runt
    { d with holdAt := none, bfStart := d.bfStart.map fun t => t + past }

/-- What a new state of an element brings about: registers, events, decisions, start of 50BF (R284, R285, R303). `quiet`
says that a block under BLK writes no events. -/
def State.elemDone (s : State) (f e cause : Nat) (st : ElemSet) (x : Elem) (quiet : Bool) : State :=
  let old := s.elem f e
  let oldCause := s.getF (Reg.PRT_F_E_STAT_CAUSE f e)
  let s := ((s.setElem f e x).elemRegs f e cause x).causeIrq oldCause cause
  if quiet then s else
  let s := if x.pu && !old.pu then (s.irq .prt 0).emit (fdrSrc f) 0x3008 2 (elemValue e x.phases) else s
  let s := if !x.pu && old.pu && !old.op then s.emit (fdrSrc f) 0x3009 3 (elemValue e old.phases) else s
  if x.op && !old.op then
    let s := (s.irq .prt 1).incF (Reg.PRT_F_E_CNT_OPS f e)
    let s := if st.trip then s.decideFeeder f s.tm.fc else s.emit (fdrSrc f) 0x3004 1 (elemValue e x.phases)
    if st.bfi then s.bfStart f else s
  else s

/-- Reset a whole element. -/
def elemZero (e : Nat) : Elem := ⟨List.replicate (slotLanes e) laneZero, false⟩

/-- What an update makes of slot 0–22 (R283–R301, R307–R309). -/
def State.elemOut (s : State) (f e : Nat) : ElemOut :=
  let st := s.elemSet f e
  let d := s.fdr f
  let rot := s.flag (Reg.PRT_F_CFG_ROT f)
  let ph := if st.half then d.half else d.full
  let old := s.elem f e
  if !st.en then ⟨e, 0, st, (elemZero e), false⟩
  else if (s.getF (Reg.PRT_F_BLK_BLK f)).testBit e then ⟨e, causeBlk, st, (elemZero e), true⟩
  else if s.flag (Reg.PRT_F_STAT_REFIRE f) then ⟨e, causeRefire, st, old, true⟩
  else
    let qs := (List.range (slotLanes e)).map fun x => s.laneQuant f e x ph st.src st.logic rot
    let perPhase := slotLanes e = 3
    let staleAll := !perPhase && qs.any (·.stale)
    let stale := qs.any (·.stale)
    let gone := fun (q : Quant) => q.uses.any fun i => (s.inputKey f i).isNone
    if staleAll then ⟨e, causeStale, st, (elemZero e), false⟩
    else if !stale && qs.any gone then ⟨e, causeNoinput, st, (elemZero e), false⟩
    else
      let uns := qs.any fun q => q.uns && !q.stale
      if is81 e && s.trkHeld f ph (bits st.aux 15 0) && !uns then ⟨e, causeTracker, st, (elemZero e), false⟩
      else
        let vb := bits st.aux 15 0
        let dead := (e = 12 ∨ e = 13) ∧ vb ≠ 0 ∧
          (List.range 3).all fun x => !atLeast (s.quant f ph x [x] true 3) vb 1
        if dead ∧ !uns then ⟨e, causeVblk, st, (elemZero e), false⟩
        else
          let ins := (List.range (slotLanes e)).map fun x => s.laneIn f e st rot (qs.getD x ⟨0, [], false, false, phasorZero, phasorZero⟩) x
          let all := st.logic = 1 ∧ 12 ≤ e ∧ e ≤ 15
          let out := fun (x : Nat) => (qs[x]?).any fun q => q.stale || gone q
          let some_ := (List.range (slotLanes e)).any out
          let ins := if all then ins.map fun i =>
            { i with set := ins.all (·.set) && !some_, keep := ins.all (·.keep) && !some_ } else ins
          let dt := s.dtMs
          let lanes := (List.range (slotLanes e)).map fun x =>
            let l := old.lanes.getD x laneZero
            if out x then laneZero
            else
              let i := { ins.getD x ⟨false, false, 0, false, false, false, false, 0, false⟩ with hold := uns }
              laneFall dt st old.op (laneAcc e dt st (lanePu st i l))
          let full := lanes.any fun l => l.pu && l.acc == 2 ^ 31
          let pu := lanes.any (·.pu)
          let op := if old.op then pu else pu && full && !uns
          let noDir := 7 ≤ e ∧ e ≤ 10 ∧ !pu ∧ ins.any fun i => i.set && !i.fwd && !i.rev
          let cause := if stale then causeStale else if uns then causeUns else if noDir then causeDir else 0
          ⟨e, cause, st, ⟨lanes, op⟩, false⟩

/-- What an update makes of the current check of 50BF, none where the element is reset, and its CAUSE (R302, R309). -/
def State.bfOut (s : State) (f : Nat) : Option Bool × Nat :=
  let st := s.elemSet f 23
  let d := s.fdr f
  let ibfn := bits st.aux 15 0
  let qs := (List.range 3).map (fun x => (s.quant f d.half (4 + x) [4 + x] false 1, st.pickup)) ++
    (if ibfn = 0 then [] else [(s.quant f d.half 13 [4, 5, 6] false 1, ibfn)])
  let gone := fun (q : Quant) => q.uses.any fun i => (s.inputKey f i).isNone
  let stale := qs.any fun q => q.1.stale
  if !st.en then (none, 0)
  else if (s.getF (Reg.PRT_F_BLK_BLK f)).testBit 23 then (none, causeBlk)
  else if s.flag (Reg.PRT_F_STAT_REFIRE f) then (some d.bfPick, causeRefire)
  else if !stale && qs.any fun q => gone q.1 then (none, causeNoinput)
  else
    let live := qs.filter fun q => !q.1.stale && !gone q.1
    let uns := live.any fun q => q.1.uns
    let above := live.any fun q => atLeast q.1 q.2 1
    let below := live.all fun q => !atLeast q.1 q.2 (95 / 100)
    (some (if uns then d.bfPick else if above then true else if below then false else d.bfPick),
      if stale then causeStale else if uns then causeUns else 0)

/-- The current check takes its new state; a check that resets clears 50BF (R305). -/
def State.bfDone (s : State) (f : Nat) (bf : Option Bool) (cause : Nat) : State :=
  let d := s.fdr f
  let s := s.setFdr f fun d => { d with bfPick := bf.getD false }
  if bf.isNone || (bf == some false && d.bfPick && d.bfStart.isSome) then s.bfClear f cause else s.bfCause f cause

/-- The element outputs of an update become valid (R27, R305): the current check first, then the slots in order. -/
def State.jobDone (s : State) (j : ElemJob) : State :=
  j.outs.foldl (fun (s : State) o => s.elemDone j.f o.e o.cause o.st o.x o.quiet) (s.bfDone j.f j.bf j.bfCause)

/-- The updates of some feeders that are on their way are dropped. -/
def State.jobsDrop (s : State) (f : Nat) : State := { s with prt := { s.prt with jobs := s.prt.jobs.filter fun j => j.f != f } }

/-- The element outputs that are valid in this fc, by a test on the update. -/
def State.jobsRun (s : State) (p : ElemJob → Bool) : State :=
  (s.prt.jobs.filter p).foldl State.jobDone { s with prt := { s.prt with jobs := s.prt.jobs.filter fun j => !p j } }

/-- Elapsed share of T2 that PRT_Ff_E23_ACC reads (R312); the quotient's rounding is open. -/
def State.bfShare (s : State) (f : Nat) : Nat :=
  match (s.fdr f).bfStart with
  | none => 0
  | some t =>
    let t2 := bits (s.elemSet f 23).time 15 0 * 1000000 * 2 ^ 32
    let now := (s.fdr f).holdAt.getD s.tm.runt
    if t2 = 0 then 2 ^ 31 else min (2 ^ 31) (openDivN (2 ^ 31 * (now - t)) t2)

/-! ### An update -/

/-- The phasor registers of a feeder (R312). -/
def State.phasorRegs (s : State) (f : Nat) (g : GSample) (u : Nat) : State :=
  let s := (s.setF (Reg.PRT_F_UPD_0_EPOCH f) g.epoch).setF (Reg.PRT_F_UPD_0_U f) u
  let s := (s.wr (Reg.PRT_F_UPD_1 f) g.cycle).wr (Reg.PRT_F_UPD_2 f) g.angle
  let s := s.wrTw (Reg.PRT_F_UPD_3 f) g.tw
  let full := (s.fdr f).full
  (List.range 14).foldl (fun (s : State) q =>
    let x := full.getD q phasorZero
    let mag := (openR (sqrtR x.sq * 256)).toNat % 2 ^ 40
    let s := (s.wr (Reg.PRT_F_PH_0 f q) mag).setF (Reg.PRT_F_PH_1_MAG_HI f q) (mag / 2 ^ 32)
    let s := ((s.setB (Reg.PRT_F_PH_1_UNS f q) x.uns).setB (Reg.PRT_F_PH_1_OVR f q) x.ovr)
    let s := ((s.setB (Reg.PRT_F_PH_1_SUB f q) x.sub).setB (Reg.PRT_F_PH_1_STALE f q) x.stale)
    s.wr (Reg.PRT_F_PH_2 f q) x.arg) s

/-- The newest grid sample of a feeder's slot and the update it completes, if it has not been made (R278). -/
def State.updateDue (s : State) (f : Nat) : Option (GSample × Nat) :=
  match s.grids.getD f [] with
  | [] => none
  | g :: _ =>
    let n := s.gridN f
    let u := (g.k + 1) * 16 / n
    if (g.k + 1) * 16 % n = 0 ∧ 0 < u ∧ (s.fdr f).upd ≠ some (g.cycle, u - 1) then some (g, u - 1) else none

/-- Form the phasors of an update and evaluate every element with the settings in force (R277–R309); the element outputs are
valid 52 fc later (R27). An update that the outputs of the last one still await has them first. -/
def State.phasorUpdate (s : State) (f : Nat) (g : GSample) (u : Nat) : State :=
  let s := s.jobsRun fun j => j.f == f
  let n := s.gridN f
  let grid := s.grids.getD f []
  let rot := s.flag (Reg.PRT_F_CFG_ROT f)
  let xs := fun w => derive rot ((List.range 8).map fun q =>
    match s.inputKey f q with
    | some k => phasorOf grid k n w
    | none => phasorZero)
  let full := xs n
  let s := s.setFdr f fun d => { d with upd := some (g.cycle, u), full := full, half := xs (n / 2) }
  let v1 := full.getD 8 phasorZero
  let mem := [7, 8].map fun e =>
    let lvl : Rat := (bits (s.elemSet f e).aux 7 0 : Rat) / 200
    if s.puSq f true 1 (s.inputKey f 0) v1 ≥ lvl * lvl then some (v1, 0)
    else ((s.fdr f).v1mem.getD (e - 7) none).map fun p => (p.1, p.2 + 1)
  let s := s.setFdr f fun d => { d with v1mem := mem }
  let s := s.phasorRegs f g u
  let s := (s.setB (Reg.PRT_F_STAT_UNS f) ((full.take 8).any (·.uns))).setB (Reg.PRT_F_STAT_STALE f) ((full.take 8).any (·.stale))
  let s := (s.setF (Reg.PRT_F_STAT_NOGRID f) 0).unholdElems f
  let bf := s.bfOut f
  let job : ElemJob := ⟨s.tm.fc + 52, f, bf.1, bf.2, (List.range 23).map fun e => s.elemOut f e⟩
  { s with prt := { s.prt with jobs := s.prt.jobs ++ [job] } }

/-- With the tracker STOPPED no updates arrive at a feeder: its elements hold, NOGRID with its event on entry (R309). -/
def State.nogridOne (s : State) (f : Nat) : State :=
  if s.flag (Reg.PRT_F_STAT_NOGRID f) then s
  else ((s.setF (Reg.PRT_F_STAT_NOGRID f) 1).holdElems f causeNogrid).emitOpen (fdrSrc f) 0x3005 1

/-- The tracker is STOPPED: every feeder that runs enters NOGRID (R309). -/
def State.nogrid (s : State) : State :=
  (List.range 12).foldl (fun (s : State) f => if s.on (secFeeder f) then s.nogridOne f else s) s

/-! ### 50BF timers and starts (R304, R329–R331) -/

/-- T1 and T2 of 50BF in ms. -/
def State.bfT1 (s : State) (f : Nat) : Nat := bits (s.elemSet f 23).time 31 16
def State.bfT2 (s : State) (f : Nat) : Nat := bits (s.elemSet f 23).time 15 0

/-- A timer of 50BF has expired and may act: it is neither blocked nor held, and its phasors are settled (R309). The outputs of an
update become valid before the commands of their fc: a reset comes before an expiry of the same fc (R66, R305). -/
def State.bfDue (s : State) (f ms : Nat) : Bool :=
  match (s.fdr f).bfStart with
  | some t => s.expired t (ms * 1000000) && (s.fdr f).holdAt.isNone && !(s.getF (Reg.PRT_F_BLK_BLK f)).testBit 23 &&
      s.getF (Reg.PRT_F_E_STAT_CAUSE f 23) != causeUns
  | none => false

/-- BF_T1_EXPIRY (R304, R329). -/
def execBfT1Expiry (f : Nat) (s : State) : Out := s.only (decide (f < 12)) <|
  if decide (s.bfT1 f ≠ 0) && s.bfDue f (s.bfT1 f) && !s.flag (Reg.PRT_F_E_STAT_RETRIP f 23) then
    .next ((s.setF (Reg.PRT_F_E_STAT_RETRIP f 23) 1).decideFeeder f s.tm.fc)
  else .next s

/-- BF_T2_EXPIRY (R304, R330): OP, the decisions of the feeder and of every target, and TRIP_FAILED for the targets that
have no standing course. -/
def execBfT2Expiry (f : Nat) (s : State) : Out := s.only (decide (f < 12)) <|
  let x := s.elem f 23
  if s.bfDue f (s.bfT2 f) && !x.op then
    let st := s.elemSet f 23
    let x := { x with op := true }
    let s := (s.setElem f 23 x).elemRegs f 23 (s.getF (Reg.PRT_F_E_STAT_CAUSE f 23)) x
    let s := (s.irq .prt 1).incF (Reg.PRT_F_E_CNT_OPS f 23)
    let s := if st.trip then s.decideFeeder f s.tm.fc else s.emit (fdrSrc f) 0x3004 1 (elemValue 23 0)
    let fs := s.getF (Reg.PRT_F_BF_TGT_FEEDERS f)
    let ts := s.getF (Reg.PRT_F_BF_TGT_TILES f)
    let goneF := (bitList 12 fs).filter fun g => (s.standingOf (fdrSrc g)).isNone
    let goneT := (bitList 16 ts).filter fun t => (s.standingOf (tileSrc t)).isNone
    let s := (bitList 12 fs).foldl (fun (s : State) g => s.decideFeeder g s.tm.fc) s
    let s := (bitList 16 ts).foldl (fun (s : State) t => s.decideOne (tileSrc t) s.tm.fc 5 0) s
    if goneF.isEmpty && goneT.isEmpty then .next s
    else .next (s.emit (fdrSrc f) 0x0601 0
      (2 ^ 63 + goneF.foldl (fun v g => v + 2 ^ g) 0 + goneT.foldl (fun v t => v + 2 ^ (12 + t)) 0))
  else .next s

/-- A write of PRT_Ff_BF_INIT (R331): 1 starts 50BF; the field reads 0. -/
def State.bfInit (s : State) (i : Iface) (f v : Nat) : State :=
  if v.testBit 0 then s.command i .operate fun s => s.bfStart f else s

/-- BF_INIT_WRITE (R331). -/
def execBfInitWrite (ifc : Iface) (f : Nat) (v : Word) (s : State) : Out := s.only (decide (f < 12)) <| s.hostRow ifc <| .next (s.bfInit ifc f v.toNat)

/-- A rising filtered input starts 50BF of the feeders whose PRT_Ff_BF_EXT names it (R331). -/
def State.bfExt (s : State) (n : Nat) : State :=
  (List.range 12).foldl (fun (s : State) f =>
    if s.flag (Reg.PRT_F_BF_EXT_EN f) && s.getF (Reg.PRT_F_BF_EXT_DIO f) == n && s.on (secFeeder f) then s.bfStart f else s) s

end Sys2Proof.Machine
end

