-- ==== Sys2Proof/Machine/Trip.lean ====
section
/-!
DEFINITION. Sentinel comparators and point-on-wave switching (10).
-/
namespace Sys2Proof.Machine

/-! ### Sentinel comparators (R313–R320) -/

/-- A comparator's entry. -/
def State.comp (s : State) (t i : Nat) : CompSt := s.prt.comp.getD (8 * t + i) ⟨0, 0, none⟩

/-- Change a comparator's entry. -/
def State.setComp (s : State) (t i : Nat) (f : CompSt → CompSt) : State :=
  { s with prt := { s.prt with comp := upd s.prt.comp (8 * t + i) f } }

/-- A result exceeds (R314); one with STALE never does. -/
def exceeds (pol thr : Nat) (v : Int) (stale : Bool) : Bool :=
  !stale && match pol with
    | 0 => decide ((v.natAbs : Int) ≥ thr)
    | 1 => decide (v ≥ thr)
    | _ => decide (v ≤ -(thr : Int))

/-- The qualifier of a comparator: QEN = 0, or the filtered input was 1 in a fc within the last QWIN µs (R316). -/
def State.qualified (s : State) (t i : Nat) : Bool :=
  if !s.flag (Reg.PRT_S_C_QUAL_QEN t i) then true
  else
    let n := s.getF (Reg.PRT_S_C_QUAL_QDIO t i)
    s.dioBit Reg.DIO_IN n || match (s.dch n).yLast with
      | some y => decide (s.tm.runt ≤ y + s.getF (Reg.PRT_S_C_QUAL_QWIN t i) * 1000 * 2 ^ 32)
      | none => false

/-- A comparator that is armed decides when it is qualified and its output is 0; armed and not qualified it waits
(R316, R317). Its output rises 2 fc after the result (R320). -/
def State.compDecide (s : State) (t i : Nat) : State :=
  let armed := decide ((s.comp t i).cnt ≥ s.getF (Reg.PRT_S_C_CFG_COUNT t i))
  let q := s.qualified t i
  let s := s.setBit (Reg.PRT_S_STAT_QWAIT t) i (armed && !q)
  if armed && q && !(s.getF (Reg.PRT_S_STAT_OUT t)).testBit i && (s.comp t i).rise.isNone then
    (s.setComp t i fun c => { c with rise := some (s.tm.fc + 2) }).decideTile t i
  else s

/-- The comparator outputs that rise in this fc (R320). -/
def State.compRise (s : State) : State :=
  (List.range 128).foldl (fun (s : State) k =>
    if (s.comp (k / 8) (k % 8)).rise.any fun fc => decide (fc ≤ s.tm.fc) then
      (s.setBit (Reg.PRT_S_STAT_OUT (k / 8)) (k % 8) true).setComp (k / 8) (k % 8) fun c => { c with rise := none }
    else s) s

/-- One result at a comparator (R314–R317). -/
def State.compResult (s : State) (t i : Nat) (v : Int) (stale : Bool) : State :=
  let ex := exceeds (s.getF (Reg.PRT_S_C_CFG_POL t i)) (s.getF (Reg.PRT_S_C_THR_THR t i)) v stale
  let c := s.comp t i
  let done := s.expired c.lastEx (s.getF (Reg.PRT_S_C_HOLD_HOLD t i) * 1000)
  let s := if (s.getF (Reg.PRT_S_STAT_OUT t)).testBit i && done then s.setBit (Reg.PRT_S_STAT_OUT t) i false else s
  let s := s.setComp t i fun c => if ex then { c with cnt := min (c.cnt + 1) 16, lastEx := s.tm.runt } else { c with cnt := 0 }
  s.compDecide t i

/-- The comparators in use that watch a channel, of tiles that are READY (R313, R319). -/
def State.compsOf (s : State) (n : Nat) : List (Nat × Nat) :=
  ((List.range 16).filter fun t => s.on (secTile t)).flatMap fun t =>
    ((List.range 8).filter fun i => s.flag (Reg.PRT_S_C_CFG_EN t i) && s.getF (Reg.PRT_S_C_CFG_CH t i) == n).map fun i => (t, i)

/-- A result of a channel's sentinel feed (R200, R313–R317). -/
def State.sentinel (s : State) (n : Nat) (v : Int) (stale : Bool) : State :=
  (s.compsOf n).foldl (fun (s : State) c => s.compResult c.1 c.2 v stale) s

/-- Channel n is out of service: the counts of its comparators stay zero (R218, R319). -/
def State.sentinelOff (s : State) (n : Nat) : State :=
  (s.compsOf n).foldl (fun (s : State) c => (s.setComp c.1 c.2 fun x => { x with cnt := 0 }).compDecide c.1 c.2) s

/-- Y of an input became 1: armed comparators that it qualifies decide (R316). -/
def State.sentinelQual (s : State) (n : Nat) : State :=
  ((List.range 16).filter fun t => s.on (secTile t)).foldl (fun (s : State) t =>
    (List.range 8).foldl (fun (s : State) i =>
      if s.flag (Reg.PRT_S_C_CFG_EN t i) && s.flag (Reg.PRT_S_C_QUAL_QEN t i) && s.getF (Reg.PRT_S_C_QUAL_QDIO t i) == n then
        s.compDecide t i
      else s) s) s

/-- The record of a decision that sets the tile's course (R318). -/
def State.sentinelSet (s : State) (t mask : Nat) : State :=
  let s := (s.setF (Reg.PRT_S_LAST_0_MASK t) mask).setF (Reg.PRT_S_LAST_0_EPOCH t) s.epoch
  (s.wrTw (Reg.PRT_S_LAST_1 t) s.tw).incF (Reg.PRT_S_CNT_DEC t)

/-! ### Point-on-wave (R332–R337) -/

/-- The feeder is running with point-on-wave measurement enabled. -/
def State.powOn (s : State) (f : Nat) : Bool := s.on (secFeeder f) && s.flag (Reg.PRT_F_POW_CFG_EN f)

/-- A measurement starts (R332), counted from 2 fc before the latch changed (R334); one already running for the operation is
abandoned. -/
def State.powStart (s : State) (f : Nat) (opn : Bool) : State :=
  let r : PowRun := ⟨(s.tm.time - 2 * s.incOf * s.tm.div) / 2 ^ 16, s.tm.runt, none⟩
  s.setFdr f fun d => if opn then { d with powOpen := some r } else { d with powClose := some r }

/-- A running measurement when the time word steps: its instants move with the time (R34). -/
def PowRun.shifted (d : Int) (r : PowRun) : PowRun :=
  { r with tw := ((r.tw : Int) + d).toNat, below := r.below.map fun b => (((b.1 : Int) + d).toNat, b.2) }

/-- A feeder's measurements when the time word steps. -/
def FdrSt.shifted (d : Int) (x : FdrSt) : FdrSt :=
  { x with powOpen := x.powOpen.map (PowRun.shifted d), powClose := x.powClose.map (PowRun.shifted d) }

/-- Run what a course does to latches, and start the measurements of the coil outputs whose latch changed to on (R332). -/
def State.latching (s : State) (f : State → State) : State :=
  let old := s.rd Reg.DIO_LATCH
  let s := f s
  let new := s.rd Reg.DIO_LATCH
  if new = old then s else
  (List.range 12).foldl (fun (s : State) f =>
    if s.powOn f then
      let rose := fun n => new.testBit n && !old.testBit n
      let s := if rose (s.getF (Reg.PRT_F_POW_CFG_CLOSE_DIO f)) then s.powStart f false else s
      if rose (s.getF (Reg.PRT_F_POW_CFG_OPEN_DIO f)) then s.powStart f true else s
    else s) s

/-- What courses gave the latches 2 fc ago (R27): in the safe state the latches of a group take trips only (R557), and those of a
group that is not READY nothing; a trip whose hold has already ended leaves the safe value (R557). -/
def State.latchOne (s : State) (o : LatchOp) : State :=
  let m := (bitList 32 o.mask).foldl (fun v n =>
    if s.dioOn (n / 16) && (o.trip || !s.flag (Reg.DIO_G_WST_SAFE (n / 16))) then v + 2 ^ n else v) 0
  let s := s.latching fun s => s.setLatch m o.vals
  if o.trip then s.latchSafe ((bitList 32 m).filter fun n => s.flag (Reg.DIO_G_WST_SAFE (n / 16))) else s

/-- The latches change that are due in this fc, and the gates follow (R27). -/
def State.latchTick (s : State) : State :=
  let due := s.dio.pipe.filter fun o => decide (o.due ≤ s.tm.fc)
  due.foldl State.latchOne { s with dio := { s.dio with pipe := s.dio.pipe.filter fun o => !decide (o.due ≤ s.tm.fc) } }

/-- Results of a measurement in PRT_Ff_POW_LAST_0. -/
def powLearned : Nat := 0
def powRejected : Nat := 1
def powTimeoutCode : Nat := 2
def powFirst : Nat := 3

/-- The learned time register of an operation. -/
def powTest (f : Nat) (opn : Bool) : Nat := if opn then Reg.PRT_F_POW_T_OPEN f else Reg.PRT_F_POW_T_CLOSE f

/-- PRT_Ff_POW_LAST_0 of a result, the target disarmed (R334–R337). -/
def State.powLast (s : State) (f : Nat) (opn : Bool) (result valid : Nat) : State :=
  let s := (s.setF (Reg.PRT_F_POW_LAST_0_OP f) (if opn then 2 else 1)).setF (Reg.PRT_F_POW_LAST_0_RESULT f) result
  let s := (s.setF (Reg.PRT_F_POW_LAST_0_TRK f) (s.getF Reg.ANG_STAT_STATE)).setF (Reg.PRT_F_POW_LAST_0_TGT_VALID f) valid
  (s.setF (Reg.PRT_F_POW_LAST_0_EPOCH f) s.epoch).setF (Reg.PRT_F_POW_LAST_0_ARMED f) 0

/-- The contact instant of a measurement is found: time word in 2^−16 ns and position (R334, R335, R337). -/
def State.powContact (s : State) (f : Nat) (opn : Bool) (r : PowRun) (tw pos : Nat) : State :=
  let t := openDivN (tw - r.tw) (2 ^ 16)
  let est := s.rd (powTest f opn)
  let gate := s.getF (Reg.PRT_F_POW_LIM_GATE f) * 1000000
  let w := s.getF (Reg.PRT_F_POW_CFG_W f)
  let w := if w = 0 then 16 else w
  let armed := s.flag (Reg.PRT_F_POW_LAST_0_ARMED f)
  let tgt : Nat := s.rd (Reg.PRT_F_POW_TGT_0 f) + s.rd (Reg.PRT_F_POW_TGT_1 f) * 2 ^ 32
  let diff : Int := (t : Int) - est
  let result := if est = 0 then powFirst else if diff.natAbs ≤ gate then powLearned else powRejected
  let s := s.powLast f opn result (b2n armed)
  let s := ((s.wr (Reg.PRT_F_POW_LAST_1 f) t).wr (Reg.PRT_F_POW_LAST_2 f) pos).wr (Reg.PRT_F_POW_LAST_3 f) (pos / 2 ^ 32)
  let s := s.wr (Reg.PRT_F_POW_LAST_4 f) (if armed then ofSigned 32 ((pos : Int) - tgt) else 0)
  let s := s.setFdr f fun d => if opn then { d with powOpen := none } else { d with powClose := none }
  if result = powFirst then s.wr (powTest f opn) t
  else if result = powLearned then s.wr (powTest f opn) (((est : Int) + roundAway (diff * w) 16).toNat)
  else (s.incF (Reg.PRT_F_POW_LAST_0_REJ f)).emit (fdrSrc f) 0x3006 1 t

/-- DET of a feeder as a value on the pin scale for a channel (R333): mpu of PRT_Ff_NOM_I. -/
def State.powDet (s : State) (f n : Nat) : Rat :=
  (s.getF (Reg.PRT_F_POW_DET_DET f) : Rat) / 1000 * f32 (s.rd (Reg.PRT_F_NOM_I f)) / (s.ratioOf n * 10 / 2 ^ 23)

/-- A sentinel-feed result of channel n, sampled at a time word: contact of SRC 0 (R333). -/
def State.powResult (s : State) (n : Nat) (v : Int) (tw : Nat) : State :=
  (List.range 12).foldl (fun (s : State) f =>
    if s.powOn f && [4, 5, 6].any (fun q => s.inputKey f q == some n) then
      let big := decide (((v.natAbs : Int) : Rat) ≥ s.powDet f n)
      let s := match (s.fdr f).powClose with
        | some r => if s.getF (Reg.PRT_F_POW_CFG_SRC_CLOSE f) = 0 ∧ big ∧ r.tw ≤ tw then s.powContact f false r tw (s.posAt tw) else s
        | none => s
      match (s.fdr f).powOpen with
      | some r =>
        if s.getF (Reg.PRT_F_POW_CFG_SRC_OPEN f) ≠ 0 ∨ tw < r.tw then s
        else if big then s.setFdr f fun d => { d with powOpen := some { r with below := none } }
        else match r.below with
          | none => s.setFdr f fun d => { d with powOpen := some { r with below := some (tw, s.posAt tw, s.tm.runt, 0) } }
          | some b => if s.expired b.2.2.1 1000000 then s.powContact f true r b.1 b.2.1 else s
      | none => s
    else s) s

/-- A rising filtered input: contact of SRC 1 (R333). -/
def State.powInput (s : State) (n : Nat) : State :=
  (List.range 12).foldl (fun (s : State) f =>
    if s.powOn f then
      let s := match (s.fdr f).powClose with
        | some r => if s.getF (Reg.PRT_F_POW_CFG_SRC_CLOSE f) = 1 ∧ s.getF (Reg.PRT_F_POW_DET_CLOSE_IN f) = n then
            s.powContact f false r s.tw s.pos else s
        | none => s
      match (s.fdr f).powOpen with
      | some r => if s.getF (Reg.PRT_F_POW_CFG_SRC_OPEN f) = 1 ∧ s.getF (Reg.PRT_F_POW_DET_OPEN_IN f) = n then
          s.powContact f true r s.tw s.pos else s
      | none => s
    else s) s

/-- ADV = round(T_est × 256 × FREQ ÷ 10^9) for both operations of every feeder (R336). -/
def State.powAdvance (s : State) : State :=
  let adv := fun t => (roundAway ((t : Int) * 256 * s.rd Reg.ANG_FREQ) 1000000000).toNat
  (List.range 12).foldl (fun (s : State) f =>
    (s.wr64 (Reg.PRT_F_POW_ADV_CLOSE_0 f) (adv (s.rd (Reg.PRT_F_POW_T_CLOSE f)))).wr64 (Reg.PRT_F_POW_ADV_OPEN_0 f)
      (adv (s.rd (Reg.PRT_F_POW_T_OPEN f)))) s

/-- A write of PRT_Ff_POW_TGT_1 arms the target (R337). -/
def State.powArm (s : State) (i : Iface) (f v : Nat) : State :=
  let ok := s.may i .operate
  let s := s.fieldWrite i (Reg.PRT_F_POW_TGT_1 f) v
  if ok then s.setF (Reg.PRT_F_POW_LAST_0_ARMED f) 1 else s

/-- POW_TARGET_ARM (R337). -/
def execPowTargetArm (ifc : Iface) (f : Nat) (v : Word) (s : State) : Out := s.only (decide (f < 12)) <| s.hostRow ifc <| .next (s.powArm ifc f v.toNat)

end Sys2Proof.Machine
end

