-- ==== Sys2Proof/Machine/Angle.lean ====
section
/-!
DEFINITION. The angle tracker and the resampler grids (02), and one fc of the clock: time, run time, angle, crossings.
-/
namespace Sys2Proof.Machine

/-! ### The tracker's own quantities -/

/-- Change the tracker's entry. -/
def State.setAng (s : State) (f : AngSt → AngSt) : State := { s with ang := f s.ang }

/-- Nominal frequency, 24 fraction bits (ANG_CTL.NOM). -/
def State.nomFreq (s : State) : Nat := (if s.flag Reg.ANG_CTL_NOM then 60 else 50) * 2 ^ 24

/-- ANG_PINC of a frequency with 24 fraction bits, at the FCLK in force (R41, R42). -/
def State.pincOf (s : State) (freq : Nat) : Nat := roundDiv (freq * 2 ^ 24 * s.tm.div) 400000000

/-- States of R51. -/
def trkSearch : Nat := 0
def trkHold : Nat := 2
def trkStopped : Nat := 3

/-- State of the tracker. -/
def State.trk (s : State) : Nat := s.getF Reg.ANG_STAT_STATE

/-- A frequency within 40–70 Hz. -/
def inRange (freq : Nat) : Bool := decide (40 * 2 ^ 24 ≤ freq) && decide (freq ≤ 70 * 2 ^ 24)

/-- A phase error below 0.5° (R51, R52): |e| × 720 < 2^32. -/
def smallErr (e : Int) : Bool := decide (e.natAbs * 720 < 2 ^ 32)

/-- A channel that may serve as reference (R45, R187). -/
def State.refChOk (s : State) (n : Nat) : Bool :=
  s.on (secAfe (n / 8)) && !s.flag (Reg.AFE_CH_STAT_OOS (n / 8) (n % 8)) && s.chMode n != 3 &&
    s.getF (Reg.AFE_CH_CFG_KIND (n / 8) (n % 8)) == 0

/-- Whether a reference register names usable channels (R44, R45). -/
def State.refOk (s : State) (off : Nat) : Bool :=
  let w := s.rd off
  match bits w 25 24 with
  | 1 => s.refChOk (bits w 5 0)
  | 2 => s.refChOk (bits w 5 0) && s.refChOk (bits w 13 8) && s.refChOk (bits w 21 16)
  | _ => false

/-- An estimate before any update. -/
def State.refZero (s : State) : RefEst := ⟨0, s.nomFreq, 0, 0, 0, []⟩

/-- Amplitude of a reference in 0.01 % of its channel's nominal, from the tracker's filter (R43). -/
def State.refAmp (s : State) (off : Nat) (r : RefEst) : Nat := Config.refAmp (bits (s.rd off) 5 0) r.filt

/-- Phase of a reference's fundamental at the pins now, extrapolated over the delays with the frequency estimate (R38, R44); the
alternate's with ANG_ALT_OFS added (R46). -/
def State.refPhase (s : State) (off : Nat) (r : RefEst) : Nat :=
  let age := s.tm.nom - s.stageInst ((if s.refIl off then s.flt.kIl else s.flt.k) - 1)
  (Config.refPhase r.filt age r.freq + if off = Reg.ANG_REF_ALT then s.rd Reg.ANG_ALT_OFS else 0) % 2 ^ 32

/-- One update of the estimate of a reference (R48, R51, R53, R55).  The LOCKED loop of the reference in use runs on the angle word
itself, so that its phase error is corrected through the frequency (R50); any other on its internal phase. -/
def State.refStep (s : State) (off : Nat) (inUse hold : Bool) (r : RefEst) : RefEst :=
  let bw := s.getF Reg.ANG_CTL_BW
  let amp := s.refAmp off r
  let meas := s.refPhase off r
  let at_ := if inUse then s.angle else r.phase
  let err := toSigned 32 (ofSigned 32 ((meas : Int) - at_))
  let freq := Config.loopFreq bw r.freq err % 2 ^ 32
  let phase := Config.loopPhase bw at_ r.freq meas % 2 ^ 32
  let min_ := s.getF Reg.ANG_LIM_REF_MIN
  let good := s.refOk off && decide (amp ≥ (min_ + 2) * 100) && inRange freq && smallErr err
  ⟨phase, freq, err, if good && !hold then min 16 (r.good + 1) else 0, if amp < min_ * 100 then min 8 (r.low + 1) else 0, r.filt⟩

/-- A reference meets the lock conditions (R51). -/
def RefEst.locks (r : RefEst) : Bool := decide (r.good ≥ 16)

/-! ### Publishing (R48, R49) -/

/-- Frequency and increment registers of an update, the pull sign included (R41, R52). -/
def State.setFreq (s : State) (freq : Nat) (pull : Int) : State :=
  let d : Int := (s.getF Reg.ANG_LIM_PULL * 2 ^ 24 / 100 : Nat)
  let eff := ((freq : Int) + pull * d).toNat
  (s.wr Reg.ANG_FREQ freq).wr Reg.ANG_PINC (s.pincOf eff)

/-- ANG_ROCOF (R49): zero until 16 updates have been published. -/
def State.rocofOf (s : State) (freq : Nat) : Int :=
  if s.ang.hist.length < 16 then 0 else
  match s.ang.hist.getLast? with
  | some h =>
    let dt : Int := (s.tm.runt : Int) - h.2
    if dt ≤ 0 then 0 else openDiv (((freq : Int) - h.1) * (sec32 : Int)) (2 ^ 8 * dt)
  | none => 0

/-- The tuple of the update, and the history of frequencies. -/
def State.publish (s : State) : State :=
  let f := s.rd Reg.ANG_FREQ
  let s := s.setAng fun a => { a with tup := ⟨s.pos, s.tw, f⟩ }
  let s := (s.wr Reg.ANG_TUP_0 s.angle).wr Reg.ANG_TUP_1 s.ang.cycle
  let s := (s.wrTw Reg.ANG_TUP_2 s.tw).wr Reg.ANG_TUP_5 f
  s.setAng fun a => { a with hist := ((f, s.tm.runt) :: a.hist).take 16, prev := a.acc }

/-! ### Transitions (R46, R51, R52) -/

/-- PULLING clears with PULL_DONE when the error is small; a pull starts when one is due and it is not (R52). -/
def State.pullStep (s : State) (err : Int) : State :=
  if s.flag Reg.ANG_STAT_PULLING then
    if smallErr err then (s.setF Reg.ANG_STAT_PULLING 0).irq .ang 5 else s
  else if s.ang.pullDue && !smallErr err then s.setF Reg.ANG_STAT_PULLING 1
  else s

/-- Enter HOLD from LOCKED: nominal frequency, no step (R51, R52). -/
def State.trkToHold (s : State) : State :=
  let s := (s.setF Reg.ANG_STAT_STATE trkHold).setF Reg.ANG_STAT_PULLING 0
  let s := (s.setFreq s.nomFreq 0).wr Reg.ANG_ROCOF 0
  let s := s.setAng fun a => { a with pullDue := false, rangeCnt := 0, pri := { a.pri with good := 0 }, alt := { a.alt with good := 0 } }
  s.irq .ang 2

/-- Lock on a reference (R46, R51): the single step on the first lock since enable, else a pull; ANG_ROCOF is that of a LOCKED
update (R49).  DESIGN CHOICE (log 222): a lock from HOLD on the other reference than before sets ON_ALT without the ALT interrupt. -/
def State.trkLock (s : State) (alt : Bool) (r : RefEst) : State :=
  let s := (s.setF Reg.ANG_STAT_STATE trkLocked).setF Reg.ANG_STAT_SCHED_OK 1
  let s := ((s.setF Reg.ANG_STAT_RANGE 0).setF Reg.ANG_STAT_REF_LOST 0).setB Reg.ANG_STAT_ON_ALT alt
  let s := s.irq .ang 0
  let s :=
    if s.flag Reg.ANG_STAT_STEPPED then
      let err := toSigned 32 (ofSigned 32 ((r.phase : Int) - s.angle))
      if smallErr err then s else s.setF Reg.ANG_STAT_PULLING 1
    else ((s.setF Reg.ANG_STAT_STEPPED 1).setAng fun a => { a with acc := r.phase * 2 ^ 16, prev := r.phase * 2 ^ 16 }).irq .ang 1
  let err := toSigned 32 (ofSigned 32 ((r.phase : Int) - s.angle))
  let pull : Int := if s.flag Reg.ANG_STAT_PULLING then (if err < 0 then -1 else 1) else 0
  let s := (s.setFreq r.freq pull).setAng fun a => { a with rangeCnt := 0, pullDue := false }
  s.setI Reg.ANG_ROCOF_ROCOF (s.rocofOf r.freq)

/-- The LOCKED tracker follows its reference (R48–R52). -/
def State.trkFollow (s : State) (r : RefEst) (phase : Nat) : State :=
  let err := toSigned 32 (ofSigned 32 ((phase : Int) - s.angle))
  let s := s.pullStep err
  let freq := r.freq
  let pull : Int := if s.flag Reg.ANG_STAT_PULLING then (if err < 0 then -1 else 1) else 0
  let cnt := if inRange freq then 0 else s.ang.rangeCnt + 1
  let s := s.setAng fun a => { a with rangeCnt := cnt, pullDue := false }
  if cnt ≥ 16 then ((s.setF Reg.ANG_STAT_RANGE 1).irq .ang 4).trkToHold
  else
    let s := s.setFreq freq pull
    s.setI Reg.ANG_ROCOF_ROCOF (s.rocofOf freq)

/-- The tracker switches its reference without stepping the angle word (R46). -/
def State.trkSwitch (s : State) (alt : Bool) : State :=
  ((s.setB Reg.ANG_STAT_ON_ALT alt).setAng fun a => { a with pullDue := true }).irq .ang 3

/-- The loop of a reference runs on the angle word: LOCKED on it and not pulling (R50, R52). -/
def State.refInUse (s : State) (alt : Bool) : Bool :=
  s.trk == trkLocked && s.flag Reg.ANG_STAT_ON_ALT == alt && !s.flag Reg.ANG_STAT_PULLING

/-- The estimate of a reference after this update; in SEARCH and HOLD the alternate's lock conditions count only while AUTO_ALT is
1 (R46), and none while HOLD_FORCE is 1 (R53). -/
def State.refNext (s : State) (alt : Bool) : RefEst :=
  let hold := s.flag Reg.ANG_CTL_HOLD_FORCE
  if alt then s.refStep Reg.ANG_REF_ALT (s.refInUse true) (hold || s.trk != trkLocked && !s.flag Reg.ANG_CTL_AUTO_ALT) s.ang.alt
  else s.refStep Reg.ANG_REF_PRI (s.refInUse false) hold s.ang.pri

/-- One update of the loop (R46, R48–R55). -/
def State.trkUpdate (s : State) : State :=
  let auto := s.flag Reg.ANG_CTL_AUTO_ALT
  let hold := s.flag Reg.ANG_CTL_HOLD_FORCE
  let p := s.refNext false
  let a := s.refNext true
  let phP := s.refPhase Reg.ANG_REF_PRI s.ang.pri
  let phA := s.refPhase Reg.ANG_REF_ALT s.ang.alt
  let lostP := !s.refOk Reg.ANG_REF_PRI || decide (p.low ≥ 8)
  let lostA := !s.refOk Reg.ANG_REF_ALT || decide (a.low ≥ 8)
  let s := s.setAng fun x => { x with pri := p, alt := a }
  let s :=
    if s.trk = trkLocked then
      let onAlt := s.flag Reg.ANG_STAT_ON_ALT
      let lost := if onAlt then lostA else lostP
      if lost then
        if auto && (if onAlt then p.locks else a.locks) then
          let s := s.trkSwitch (!onAlt)
          if onAlt then s.trkFollow p phP else s.trkFollow a phA
        else (s.setF Reg.ANG_STAT_REF_LOST 1).trkToHold
      else if onAlt then s.trkFollow a phA
      else s.trkFollow p phP
    else if !hold && p.locks then s.trkLock false p
    else if !hold && auto && a.locks then s.trkLock true a
    else
      let s := (s.setFreq s.nomFreq 0).wr Reg.ANG_ROCOF 0
      if lostP && (!auto || lostA) then s.setF Reg.ANG_STAT_REF_LOST 1 else s
  (s.publish).powAdvance

/-- TRACKER_UPDATE (R48): the angle word has crossed a multiple of 2^28. -/
def execTrackerUpdate (_pri _alt : Unit) (s : State) : Out :=
  if s.trk ≠ trkStopped ∧ s.ang.acc / 2 ^ 44 ≠ s.ang.prev / 2 ^ 44 then .next s.trkUpdate else .next s

/-! ### Host writes (R47, R53) -/

/-- The counts towards a lock start afresh (R53). -/
def State.lockAfresh (s : State) : State :=
  s.setAng fun a => { a with pri := { a.pri with good := 0 }, alt := { a.alt with good := 0 } }

/-- A write of ANG_CTL (R51, R53). -/
def State.angCtl (s : State) (i : Iface) (v : Nat) : State :=
  let was := s.flag Reg.ANG_CTL_HOLD_FORCE
  let s := s.fieldWrite i Reg.ANG_CTL v
  let now := s.flag Reg.ANG_CTL_HOLD_FORCE
  let s := if was = now then s else s.lockAfresh
  if now && !was && s.trk == trkLocked then s.trkToHold else s

/-- ANG_HOLD_FORCE_WRITE (R53): a write of ANG_CTL. -/
def execAngHoldForceWrite (ifc : Iface) (v : Word) (s : State) : Out := s.hostRow ifc <| .next (s.angCtl ifc v.toNat)

/-- A write of ANG_REF_PRI or ANG_REF_ALT (R47): MODE 3 is ignored; a change of the reference in use acts as a switch.  DESIGN
CHOICE (log 222): a changed reference's estimate, filter and counts start afresh at nominal and zero. -/
def State.angRef (s : State) (i : Iface) (alt : Bool) (v : Nat) : State :=
  let off := if alt then Reg.ANG_REF_ALT else Reg.ANG_REF_PRI
  let was := s.rd off
  let s := s.fieldWrite i off v
  if s.rd off = was then s
  else
    let z := s.refZero
    let s := s.setAng fun a => if alt then { a with alt := z } else { a with pri := z }
    if s.trk == trkLocked && s.flag Reg.ANG_STAT_ON_ALT == alt then s.trkSwitch alt else s

/-- ANG_REFERENCE_WRITE (R47). -/
def execAngReferenceWrite (ifc : Iface) (alt : Bool) (v : Word) (s : State) : Out := s.hostRow ifc <| .next (s.angRef ifc alt v.toNat)

/-- A write of ANG_ALT_OFS (R47): no switch; a changed offset of the alternate in use may start a pull. -/
def State.angOfs (s : State) (i : Iface) (v : Nat) : State :=
  let was := s.rd Reg.ANG_ALT_OFS
  let s := s.fieldWrite i Reg.ANG_ALT_OFS v
  if s.rd Reg.ANG_ALT_OFS ≠ was ∧ s.flag Reg.ANG_STAT_ON_ALT then s.setAng fun a => { a with pullDue := true } else s

/-- ANG_ALT_OFS_WRITE (R47). -/
def execAngAltOfsWrite (ifc : Iface) (v : Word) (s : State) : Out := s.hostRow ifc <| .next (s.angOfs ifc v.toNat)

/-! ### Start and stop (R51) -/

/-- The tracker starts: SEARCH, running at nominal from zero (R51). -/
def State.angStart (s : State) : State :=
  let z := s.refZero
  let s := s.setAng fun a => { a with acc := 0, prev := 0, cycle := 0, pri := z, alt := z, rangeCnt := 0, hist := [], pullDue := false,
                                      cross := a.cross.map fun _ => [] }
  let s := s.wr Reg.ANG_STAT 0
  (s.setFreq s.nomFreq 0).wr Reg.ANG_ROCOF 0

/-- The tracker stops: angle word and cycle count frozen, SCHED_OK 0, no grids (R51, R309). -/
def State.angStop (s : State) : State :=
  let s := ((s.setF Reg.ANG_STAT_STATE trkStopped).setF Reg.ANG_STAT_SCHED_OK 0).setF Reg.ANG_STAT_PULLING 0
  (s.setAng fun a => { a with cross := a.cross.map fun _ => [] }).nogrid

/-! ### Grids (R58–R61) -/

/-- The channels of a grid slot. -/
def State.gridChs (s : State) (g : Nat) : List Nat :=
  bitList 64 (s.rd (Reg.ANG_GRID_MASK_LO g) + s.rd (Reg.ANG_GRID_MASK_HI g) * 2 ^ 32)

/-- The streams a feeder's slot takes in (R274). -/
def State.gridStreams (s : State) (g : Nat) : List Nat :=
  if g < 12 then ((List.range 8).filterMap fun q => s.inputKey g q).filter fun k => decide (k ≥ 0x10000) else []

/-- The samples of a stream, newest first. -/
def State.stream (s : State) (key : Nat) : List (Nat × Sample) := ((s.streams.find? fun x => x.1 == key).map Prod.snd).getD []

/-- Put a sample into a stream. -/
def State.streamPut (s : State) (key inst : Nat) (x : Sample) : State :=
  if s.streams.any fun y => y.1 == key then
    { s with streams := s.streams.map fun y => if y.1 = key then (key, ((inst, x) :: y.2).take 4096) else y }
  else { s with streams := s.streams ++ [(key, [(inst, x)])] }

/-- Four samples after an instant have come. -/
def fourAfter (l : List (Nat × Sample)) (inst : Nat) : Bool := decide ((l.countP fun x => decide (inst < x.1)) ≥ 4)

/-- The reported delay of a stream in 2^−32 ns (R478, R509). -/
def State.streamDelay (s : State) (key : Nat) : Nat :=
  if key < 0x20000 then s.rd (Reg.YUL_PI (key - 0x10000)) * 2 ^ 32 / 10
  else
    let i := (key - 0x20000) / 8
    s.getF (Reg.ETH_SVS_DLY_NS i) * 2 ^ 32 + 4 * sec32 / (if s.flag (Reg.ETH_SVS_CFG_RATE i) then 14400 else 4800)

/-- A sample of the grid from the four before and the four after the crossing (R59, R60). -/
def gridSample (l : List (Nat × Sample)) (inst dye : Nat) : Sample :=
  let after := (l.filter fun x => decide (inst < x.1)).reverse.take 4
  let before := ((l.filter fun x => decide (x.1 ≤ inst)).take 4).reverse
  let eight := before ++ after
  let t0 := (before.getLast?.map Prod.fst).getD 0
  let t1 := (after.head?.map Prod.fst).getD 0
  let w : Rat := if t1 ≤ t0 then 0 else ((inst - t0 : Nat) : Rat) / ((t1 - t0 : Nat) : Rat)
  ⟨satVal (Config.interp (eight.map fun x => x.2.value) w), dye, eight.any (·.2.uns), eight.any (·.2.ovr), eight.any (·.2.sub),
    eight.any (·.2.stale)⟩

/-- Whether the oldest crossing of a slot has its samples: the local channels, and the streams or their reported delay. -/
def State.crossReady (s : State) (g : Nat) (c : Cross) : Bool :=
  (s.gridChs g).all (fun n => fourAfter (s.fch n).bOut c.inst) &&
    (s.gridStreams g).all fun k => fourAfter (s.stream k) c.inst || decide (c.inst + s.streamDelay k ≤ s.tm.nom)

/-- The angle word of a grid index. -/
def gridAngle (n k : Nat) : Nat := k * 2 ^ 32 / n

/-- GRID_SAMPLE (R58–R61): the oldest crossing of slot g becomes a grid sample. -/
def execGridSample (g : Nat) (s : State) : Out := s.only (decide (g < 16)) <|
  match s.ang.cross.getD g [] with
  | c :: t =>
    if s.crossReady g c then
      let loc := (s.gridChs g).map fun n =>
        (n, if s.dark n then staleSample (s.chDye n) else gridSample (s.fch n).bOut c.inst (s.chDye n))
      let rem := (s.gridStreams g).map fun k =>
        let l := s.stream k
        (k, if fourAfter l c.inst then gridSample l c.inst ((l.head?.map fun x => x.2.dye).getD 0) else staleSample 0)
      let n := s.gridN g
      let x : GSample := ⟨c.k, c.cycle, c.tw, gridAngle n c.k, c.epoch, c.trk, loc ++ rem⟩
      let s := s.setAng fun a => { a with cross := a.cross.set g t }
      let s := { s with grids := upd s.grids g fun l => (x :: l).take 512 }
      .next (s.feedAt 2 c.inst c.tw x.angle c.cycle c.epoch c.trk (.grid g c.k (loc.map fun v => (v.1, v.2.word))))
    else .next s
  | [] => .next s

/-! ### One fc (R33, R36, R39, R41, R72) -/

/-- The crossings of a fc in one slot: the grid angle lies between the accumulator of the last fc and of this one. -/
def State.crossing (s : State) (prev : Nat) (g : Nat) (l : List Cross) : List Cross :=
  if !s.flag (Reg.ANG_GRID_CFG_EN g) then l else
  let n := s.gridN g
  let k := s.ang.acc * n / 2 ^ 48
  if k = prev * n / 2 ^ 48 then l
  else
    let past := s.ang.acc - k * 2 ^ 48 / n
    let fcLen := incNominal * s.tm.div
    let p := max 1 (s.rd Reg.ANG_PINC)
    let inst := s.tm.nom - openDivN (fcLen * past) p
    let tw := (s.tm.time - openDivN (s.incOf * s.tm.div * past) p) / 2 ^ 16
    l ++ [⟨k, s.ang.cycle, inst, tw, s.epoch, s.trk⟩]

/-- The angle accumulator, the cycle count and the crossings of a fc. -/
def State.angTick (s : State) : State :=
  if s.trk = trkStopped then s else
  let old := s.ang.acc
  let new := (old + s.rd Reg.ANG_PINC) % 2 ^ 48
  let wrap := decide (old / 2 ^ 16 ≥ 0xFFFFF000) && decide (new / 2 ^ 16 < 0x1000)
  let s := s.setAng fun a => { a with acc := new, prev := old, cycle := if wrap then (a.cycle + 1) % 2 ^ 32 else a.cycle }
  s.setAng fun a => { a with cross := (List.range 16).map fun g => s.crossing old g (a.cross.getD g []) }

/-- One fc: the time word and the run time advance by the increment in force, then the angle (log 3); an unpowered module has
no fc (R602). -/
def State.tick (s : State) : State :=
  if s.pwr.unpowered then s else
  let s := s.segKeep
  let d := s.incOf * s.tm.div
  let s := { s with
    tm := { s.tm with time := s.tm.time + d, prev := s.tm.time, reach := s.tm.time + 1, runt := s.tm.runt + d,
                      nom := s.tm.nom + incNominal * s.tm.div, fc := s.tm.fc + 1 },
    hst := { s.hst with setNow := [], wrNow := [] } }
  (s.angTick).digKeep

end Sys2Proof.Machine
end

