-- ==== Sys2Proof/Machine/Afe.lean ====
section
/-!
DEFINITION. The analogue front end (06): correction of raw codes, channel modes, repointing, self-calibration, channels out of
service, proof tests.
-/
namespace Sys2Proof.Machine

/-! ### Groups, converters, channels -/

/-- Converters of a group. -/
def nCv : Nat := 18

/-- A converter at reset. -/
def cvZero : CvSt := ⟨0, 0, none⟩

/-- An empty match window. -/
def winZero : MatchWin := ⟨0, 0, 0, 0, 0, 0⟩

/-- A channel at reset. -/
def afeChZero : AfeCh := ⟨winZero, [], none, none⟩

/-- A group at reset. -/
def afeGrpZero : AfeGrp := AfeGrp.reset

/-- A group's entry. -/
def State.grp (s : State) (g : Nat) : AfeGrp := s.afe.getD g afeGrpZero

/-- Change a group's entry. -/
def State.setGrp (s : State) (g : Nat) (f : AfeGrp → AfeGrp) : State := { s with afe := upd s.afe g f }

/-- A converter's entry. -/
def State.cv (s : State) (g v : Nat) : CvSt := (s.grp g).cvs.getD v cvZero

/-- Change a converter's entry. -/
def State.setCv (s : State) (g v : Nat) (f : CvSt → CvSt) : State := s.setGrp g fun x => { x with cvs := upd x.cvs v f }

/-- A channel's entry. -/
def State.afeChan (s : State) (n : Nat) : AfeCh := (s.grp (n / 8)).chs.getD (n % 8) afeChZero

/-- Change a channel's entry. -/
def State.setAfeChan (s : State) (n : Nat) (f : AfeCh → AfeCh) : State :=
  s.setGrp (n / 8) fun x => { x with chs := upd x.chs (n % 8) f }

/-- Source identifiers of a channel, a converter, a group (R515). -/
def chSrc (n : Nat) : Nat := srcId 0x10 n
def cvSrc (g v : Nat) : Nat := srcId 0x10 (0x40 + 18 * g + v)
def grpSrc (g : Nat) : Nat := srcId 0x10 (0xE0 + g)

/-- Converter states of R201. -/
def cvWorking : Nat := 0
def cvShadow : Nat := 1
def cvCalib : Nat := 2
def cvSpare : Nat := 3
def cvFailed : Nat := 4

/-- State of a converter. -/
def State.cvState (s : State) (g v : Nat) : Nat := s.getF (Reg.AFE_CV_STAT_STATE g v)

/-- The converters of a group in a state, ascending. -/
def State.cvsIn (s : State) (g st : Nat) : List Nat := (List.range nCv).filter fun v => s.cvState g v == st

/-- Put a converter into a state with path, role and channel. -/
def State.setCvStat (s : State) (g v st path role ch : Nat) : State :=
  let s := (s.setF (Reg.AFE_CV_STAT_STATE g v) st).setF (Reg.AFE_CV_STAT_PATH g v) path
  (s.setF (Reg.AFE_CV_STAT_ROLE g v) role).setF (Reg.AFE_CV_STAT_CH g v) ch

/-- AGE of a converter: ms of run time since its last calibration, saturating. -/
def State.cvAge (s : State) (g v : Nat) : Nat := min ((s.tm.runt - (s.cv g v).calAt) / (1000000 * 2 ^ 32)) (2 ^ 32 - 1)

/-- AFEg_RPT_STAT.AGE: a WORKING converter is older than 36 × INTERVAL (R215). -/
def State.rptOld (s : State) (g : Nat) : Bool :=
  (s.cvsIn g cvWorking).any fun v => decide (s.cvAge g v > 36 * s.getF (Reg.AFE_RPT_CTL_INTERVAL g))

/-- F of R210. -/
def State.fadeLen (s : State) (g : Nat) : Nat := 256 * 2 ^ s.getF (Reg.AFE_RPT_CTL_FADE g)

/-- Whether a converter's match term is applied to its next sample and is not zero (R210, R211). -/
def State.termOn (s : State) (g v : Nat) : Bool :=
  match (s.cv g v).term with
  | some t => decide (t.2.2 < s.fadeLen g) && !(t.1 == 1 && t.2.1 == 0)
  | none => false

/-- The state fields of AFEg_RPT_STAT follow the converters' states. -/
def State.rptSync (s : State) (g : Nat) : State :=
  let sh := s.cvsIn g cvShadow
  let ca := s.cvsIn g cvCalib
  let s := (s.setF (Reg.AFE_RPT_STAT_SPARES g) (min 3 (s.cvsIn g cvSpare).length)).setB (Reg.AFE_RPT_STAT_SHADOW g) (!sh.isEmpty)
  let s := (s.setB (Reg.AFE_RPT_STAT_CALIB g) (!ca.isEmpty)).setF (Reg.AFE_RPT_STAT_CALIB_CV g) (ca.headD 0x1F)
  let s := s.setF (Reg.AFE_RPT_STAT_SHADOW_CV g) (sh.headD 0x1F)
  let s := s.setB (Reg.AFE_RPT_STAT_FADE g) ((List.range nCv).any fun v => s.termOn g v)
  s.setB (Reg.AFE_RPT_STAT_AGE g) (s.rptOld g)

/-! ### Start of a group (R188, R202) -/

/-- The converters take the states that AFEg_CHc_MAP gives them: WORKING as A or B of a channel, all others SPARE (R188). -/
def State.afeRoles (s : State) (g : Nat) : State :=
  let s := (List.range nCv).foldl (fun (s : State) v => s.setCvStat g v cvSpare 0 0 0) s
  (List.range 8).foldl (fun (s : State) c =>
    let b := if s.chMode (8 * g + c) = 2 then 1 else 0
    (s.setCvStat g (s.getF (Reg.AFE_CH_MAP_CV_A g c)) cvWorking 0 0 c).setCvStat g (s.getF (Reg.AFE_CH_MAP_CV_B g c)) cvWorking b 1 c) s

/-- The map, the match terms and the fusion states after a firing or refiring (R188, R197). -/
def State.afeMap (s : State) (g : Nat) : State :=
  (List.range 8).foldl (fun (s : State) c =>
    let s := (s.setF (Reg.AFE_CH_MAP_CV_A g c) (2 * c)).setF (Reg.AFE_CH_MAP_CV_B g c) (2 * c + 1)
    let s := (s.setF (Reg.AFE_CH_MATCH_G_G g c) (2 ^ 22)).setF (Reg.AFE_CH_MATCH_O_LSB g c) 0
    s.setF (Reg.AFE_CH_STAT_FUSE_HI g c) 0) s

/-- AFE group g becomes READY with the coefficients its converters measured at start-up (R202): after a firing or refiring with
the map of R188, after a stop with the map as it stood; every converter's age is zero, its channels' filters are reset (R268). -/
def State.afeReady (s : State) (g : Nat) (refire : Bool) (cal : List (Int × Nat)) : State :=
  let fresh := refire || !(s.grp g).mapped
  let s := s.setGrp g fun x => { afeGrpZero with
    cvs := List.replicate nCv ⟨s.tm.runt, 0, none⟩, stepFrom := s.tm.runt, mapped := true, was := x.was }
  let s := ((if fresh then s.afeMap g else s).afeRoles g)
  let s := (List.range 8).foldl (fun (s : State) c => s.setF (Reg.AFE_CH_STAT_SUBST g c) 0) s
  let s := (List.range nCv).foldl (fun (s : State) v =>
    let q := s.measured cal[v]?
    (q.2.setI (Reg.AFE_CV_OFS_OFS g v) q.1.1).wr (Reg.AFE_CV_GAIN g v) q.1.2) s
  let s := (s.setF (Reg.AFE_RPT_STAT_NOSPARE g) 0).rptSync g
  if s.fltOn then (grpChs g).foldl (fun (s : State) n => s.syncCh n) s else s

/-! ### Correction (R190–R192) -/

/-- The corrected code of a converter (R190). -/
def State.corr (s : State) (g v r : Nat) : Int :=
  roundAway ((((r : Int) - 2048) * 4096 - s.getI (Reg.AFE_CV_OFS_OFS g v)) * (s.rd (Reg.AFE_CV_GAIN g v) : Int)) (2 ^ 22)

/-- A raw code at a limit. -/
def atLimit (r : Nat) : Bool := r == 0 || r == 4095

/-- The word of a sealed register of group g that counts for a sample instant: a write takes effect at the next sample boundary
(R226). -/
def State.wordAt (s : State) (g off inst : Nat) : Nat :=
  match (s.grp g).was.reverse.find? fun w => w.2.1 == off && decide (inst ≤ w.1) with
  | some w => w.2.2
  | none => s.rd off

/-- A sealed register of a group has been written: the word it held counts for the samples up to now; words of the last
millisecond are kept. -/
def State.sealKeep (s : State) (g off old : Nat) : State :=
  s.setGrp g fun x => { x with
    was := (s.tm.nom, off, old) :: x.was.filter fun w => decide (s.tm.nom < w.1 + 1000000 * 2 ^ 32) }

/-- Path correction of R191, before saturation. -/
def State.pathCorr (s : State) (n inst : Nat) (y : Int) : Int :=
  roundAway (y * (s.wordAt (n / 8) (Reg.AFE_CH_CAL_G (n / 8) (n % 8)) inst : Int)) (2 ^ 22) +
    toSigned 32 (s.wordAt (n / 8) (Reg.AFE_CH_CAL_O (n / 8) (n % 8)) inst)

/-- y × MATCH_G ÷ 2^22 + MATCH_O (R194, R196), the product rounded as in R190. -/
def State.matched (s : State) (n : Nat) (q : Int) : Int :=
  roundAway (q * (s.rd (Reg.AFE_CH_MATCH_G (n / 8) (n % 8)) : Int)) (2 ^ 22) + s.getI (Reg.AFE_CH_MATCH_O_LSB (n / 8) (n % 8))

/-- A converter has made a sample: j of its match term counts (R210). -/
def State.fadeOne (s : State) (g v : Nat) : State :=
  match (s.cv g v).term with
  | some t => if t.2.2 < s.fadeLen g then s.setCv g v fun c => { c with term := some (t.1, t.2.1, t.2.2 + 1) } else s
  | none => s

/-- A converter's code with the match term of R210, whether the term was not zero, and the converter's next sample; the
term's product is not said to be rounded in one way (log 9). -/
def State.coded (s : State) (g v r : Nat) : Int × Bool × State :=
  let q := s.corr g v r
  match (s.cv g v).term with
  | some t =>
    let f := s.fadeLen g
    if t.2.2 < f then
      let w : Rat := 1 - (t.2.2 : Rat) / f
      (q + openR (w * ((t.1 - 1) * q + t.2.1)), s.termOn g v, s.fadeOne g v)
    else (q, false, s)
  | none => (q, false, s)

/-! ### Match windows (R195, R198) -/

/-- One sample in a match window. -/
def MatchWin.put (w : MatchWin) (usable : Bool) (x y : Int) : MatchWin :=
  if w.n ≥ 65536 then w
  else if usable then ⟨w.n + 1, w.used + 1, w.sx + x, w.sy + y, w.sxx + x * x, w.sxy + x * y⟩
  else { w with n := w.n + 1 }

/-- MATCH_WINDOW_CLOSE (R195, R198): the terms move towards the least-squares fit, by at most 16 LSB and 32 ppm; the fit's
rounding is open, and its gain is free where all samples have one value (log 9, 21). -/
def execMatchWindowClose (n : Nat) (s : State) : Out :=
  let g := n / 8
  let c := n % 8
  let w := (s.afeChan n).win
  if n < 64 ∧ w.n ≥ 65536 then
    let s0 := s.setAfeChan n fun x => { x with win := winZero }
    if w.used < 4096 then .next s0
    else
      let den := (w.used : Int) * w.sxx - w.sx * w.sx
      let s := if den = 0 then s0.bump else s0
      let gf : Rat := if den = 0 then (s0.freeBits 32 : Rat) / 2 ^ 22 else
        (((w.used : Int) * w.sxy - w.sx * w.sy : Int) : Rat) / (den : Rat)
      let oF : Rat := ((w.sy : Rat) - gf * (w.sx : Rat)) / w.used
      let og : Int := s.rd (Reg.AFE_CH_MATCH_G g c)
      let oo := s.getI (Reg.AFE_CH_MATCH_O_LSB g c)
      let lim : Int := (2 ^ 22 * 32 / 1000000 : Nat)
      let s := s.setI (Reg.AFE_CH_MATCH_G_G g c) (clampI (og - lim) (og + lim) (openR (gf * 2 ^ 22)))
      .next (s.setI (Reg.AFE_CH_MATCH_O_LSB g c) (clampI (oo - 16) (oo + 16) (openR oF)))
  else .next s

/-! ### A conversion (R191–R200, R204, R218) -/

/-- A sample of the channel is complete: its word, its flags, stage A, the burst stream. -/
def State.chSample (s : State) (n inst : Nat) (x : Sample) : State :=
  let g := n / 8
  let c := n % 8
  let was := s.flag (Reg.AFE_CH_STAT_OVR g c)
  let s := s.wr (Reg.AFE_CH_RES g c) x.word
  let s := s.setB (Reg.AFE_CH_STAT_SUBST g c) x.sub
  let s := if x.ovr then s.raise (Reg.AFE_CH_STAT_OVR g c) else s
  let s := if x.ovr && !was then s.irq (.afe g) 6 else s
  (s.stageIn n inst x).feedInst 4 inst (.burst n x.word)

/-- An output sample from y (R191, R192). -/
def State.outSample (s : State) (n inst : Nat) (y : Int) (limit sub : Bool) : Sample :=
  let v := s.pathCorr n inst y
  ⟨satVal v, s.chDye n, false, limit || decide (satVal v ≠ v), sub, false⟩

/-- The sentinel feed of a channel (R200): the value after path correction; point-on-wave takes the same result (R333). -/
def State.feedSentinel (s : State) (n inst : Nat) (q : Int) : State :=
  let v := satVal (s.pathCorr n inst q)
  (s.sentinel n v false).powResult n v (s.twAt inst)

/-- The interleaved channel's B sample meets its second neighbour (R195). -/
def State.matchIl (s : State) (n : Nat) (a : Int) : State :=
  let c := s.afeChan n
  match c.bMid with
  | some b =>
    let near := decide ((b.2 - a).natAbs < 83887)
    s.setAfeChan n fun x => { x with win := x.win.put near b.1 (roundDivI (b.2 + a) 2), bMid := none, aLast := some a }
  | none => s.setAfeChan n fun x => { x with aLast := some a }

/-- The code of the SHADOW converter pairs with its target's (R204); the spare's quiet count for R209. -/
def State.shadowPair (s : State) (n : Nat) (half : Bool) (rA rB rS : Nat) : State :=
  let g := n / 8
  let c := n % 8
  match (s.grp g).step with
  | none => s
  | some st =>
    let roleB := s.getF (Reg.AFE_CV_STAT_ROLE g st.target) = 1
    let mine := s.getF (Reg.AFE_CV_STAT_CH g st.target) = c ∧ st.term = none ∧
      (if s.chMode n = 1 then half = decide roleB else half = false)
    if !mine then s else
    let rT := if roleB then rB else rA
    let s := s.setCv g st.spare fun x => { x with quiet := if atLimit rS then 0 else min 16 (x.quiet + 1) }
    let hi := s.flag (Reg.AFE_CV_STAT_PATH g st.target) && s.flag (Reg.AFE_CH_STAT_FUSE_HI g c)
    let ok := !atLimit rT && !atLimit rS && !hi && decide (st.pairs < 256)
    let t := s.corr g st.target rT
    let q := s.corr g st.spare rS
    let st := { st with edges := st.edges + 1 }
    let st := if ok then
        { st with pairs := st.pairs + 1, sT := st.sT + t, sS := st.sS + q, sSS := st.sSS + q * q, sST := st.sST + q * t,
                  lo := if st.pairs = 0 then q else min st.lo q, hi := if st.pairs = 0 then q else max st.hi q }
      else st
    s.setGrp g fun x => { x with step := some st }

/-- The spare that a computed step shadows still converts: its quiet count (R209). -/
def State.shadowQuiet (s : State) (n rS : Nat) : State :=
  match (s.grp (n / 8)).step with
  | some st =>
    if st.term.isSome && s.getF (Reg.AFE_CV_STAT_CH (n / 8) st.target) == n % 8 then
      s.setCv (n / 8) st.spare fun x => { x with quiet := if atLimit rS then 0 else min 16 (x.quiet + 1) }
    else s
  | none => s

/-- Fusion state after a sample (R197). -/
def fuse (hi : Bool) (yHi : Int) (rB : Nat) : Bool :=
  if hi then !(decide (yHi.natAbs < 438305) && !atLimit rB) else decide (yHi.natAbs ≥ 484442) || atLimit rB

/-- Single mode: B converts too, and its results are discarded (R193). -/
def State.convSingle (s : State) (n inst rA : Nat) : State :=
  let p := s.coded (n / 8) (s.getF (Reg.AFE_CH_MAP_CV_A (n / 8) (n % 8))) rA
  let s := (p.2.2.fadeOne (n / 8) (s.getF (Reg.AFE_CH_MAP_CV_B (n / 8) (n % 8)))).feedSentinel n inst p.1
  s.chSample n inst (s.outSample n inst p.1 (atLimit rA) p.2.1)

/-- Interleaved mode, converter A (R194). -/
def State.convIlA (s : State) (n inst rA : Nat) : State :=
  let p := s.coded (n / 8) (s.getF (Reg.AFE_CH_MAP_CV_A (n / 8) (n % 8))) rA
  let s := (p.2.2.matchIl n p.1).feedSentinel n inst p.1
  s.chSample n inst (s.outSample n inst p.1 (atLimit rA) p.2.1)

/-- Interleaved mode, converter B: skew, match terms (R194). -/
def State.convIlB (s : State) (n inst rB : Nat) : State :=
  let g := n / 8
  let c := n % 8
  let p := s.coded g (s.getF (Reg.AFE_CH_MAP_CV_B g c)) rB
  let s := p.2.2.setAfeChan n fun x => { x with bq := (p.1 :: x.bq).take 4 }
  let q := Config.skewFir (s.afeChan n).bq (toSigned 32 (s.wordAt g (Reg.AFE_CH_SKEW g c) inst))
  let s := s.setAfeChan n fun x => { x with bMid := x.aLast.map fun a => (q, a) }
  let s := s.feedSentinel n inst p.1
  s.chSample n inst (s.outSample n inst (s.matched n q) (atLimit rB) p.2.1)

/-- Split-gain mode: both paths, fusion, the match window in state LO (R196–R198). -/
def State.convSplit (s : State) (n inst rA rB : Nat) : State :=
  let g := n / 8
  let c := n % 8
  let a := s.coded g (s.getF (Reg.AFE_CH_MAP_CV_A g c)) rA
  let b := a.2.2.coded g (s.getF (Reg.AFE_CH_MAP_CV_B g c)) rB
  let s := b.2.2
  let yHi := s.matched n a.1
  let yLo := roundAway b.1 16
  let hi := fuse (s.flag (Reg.AFE_CH_STAT_FUSE_HI g c)) yHi rB
  let s := s.setB (Reg.AFE_CH_STAT_FUSE_HI g c) hi
  let usable := !hi && decide (104858 ≤ yLo.natAbs) && decide (yLo.natAbs ≤ 438305)
  let s := s.setAfeChan n fun x => { x with win := x.win.put usable a.1 yLo }
  let s := s.feedSentinel n inst yHi
  s.chSample n inst (if hi then s.outSample n inst yHi (atLimit rA) a.2.1 else s.outSample n inst yLo false b.2.1)

/-- The converters of a channel that delivers no result still convert: their match terms count on (R210). -/
def State.fadeOff (s : State) (n : Nat) (half : Bool) : State :=
  let a := s.getF (Reg.AFE_CH_MAP_CV_A (n / 8) (n % 8))
  let b := s.getF (Reg.AFE_CH_MAP_CV_B (n / 8) (n % 8))
  if s.isIl n then s.fadeOne (n / 8) (if half then b else a) else (s.fadeOne (n / 8) a).fadeOne (n / 8) b

/-- A channel without a result: 0 with STALE on the sentinel feed and the streams; an off channel has no output (R187, R218,
R137). -/
def State.convDark (s : State) (n inst : Nat) : State :=
  let x := staleSample (s.chDye n)
  if s.chMode n = 3 then s.wr (Reg.AFE_CH_RES (n / 8) (n % 8)) x.word else (s.sentinel n 0 true).chSample n inst x

/-- A conversion of a channel completes: raw codes of converters A and B and of the SHADOW converter, B's half of an
interleaved channel's frame, CCLK periods since the sample instant. The fusion state of the sample itself decides whether a
pair of the step in SHADOW counts (R197, R204). -/
def State.conversion (s : State) (n rA rB rS : Nat) (half : Bool) (age : Nat) : State :=
  let inst := s.sampleInst half age
  let mode := s.chMode n
  let s := s.shadowQuiet n rS
  let s :=
    if half && mode != 1 then s
    else if s.dark n then (s.fadeOff n half).convDark n inst
    else if mode = 0 then s.convSingle n inst rA
    else if mode = 1 then (if half then s.convIlB n inst rB else s.convIlA n inst rA)
    else s.convSplit n inst rA rB
  s.shadowPair n half rA rB rS

/-- CONVERTER_RESULT (R191): while the group is refired or stopped its channels deliver 0 with STALE (R137). -/
def execConverterResult (n rA rB rS : Nat) (half : Bool) (age : Nat) (s : State) : Out :=
  if n < 64 then
    if s.on (secAfe (n / 8)) then .next (s.conversion n (rA % 4096) (rB % 4096) (rS % 4096) half age)
    else if (s.part (secAfe (n / 8))).any (·.refire) && (!half || s.isIl n) then .next (s.convDark n (s.sampleInst half age))
    else .next s
  else .next s

/-! ### Repointing (R203–R211, R216) -/

/-- FULL governor profile in force. -/
def State.govFull (s : State) : Bool := s.getF Reg.PWR_STAT_PROFILE == 0

/-- Repointing may run (R203, R214, R216). -/
def State.rptRuns (s : State) (g : Nat) : Bool :=
  s.flag (Reg.AFE_RPT_CTL_EN g) && s.govFull && s.on (secAfe g) && !s.flag (Reg.AFE_RPT_STAT_NOSPARE g)

/-- The WORKING converter with the greatest AGE, the lowest-numbered among equals, of the channels in service (R203, R221). -/
def State.rptTarget (s : State) (g : Nat) : Option Nat :=
  ((s.cvsIn g cvWorking).filter fun v => !s.flag (Reg.AFE_CH_STAT_OOS g (s.getF (Reg.AFE_CV_STAT_CH g v)))).foldl
    (fun (b : Option Nat) v => match b with
      | none => some v
      | some w => if s.cvAge g v > s.cvAge g w then some v else b) none

/-- REPOINT_STEP_START (R203, R204). -/
def execRepointStepStart (g : Nat) (s : State) : Out :=
  let due := s.expired (s.grp g).stepFrom (s.getF (Reg.AFE_RPT_CTL_INTERVAL g) * 1000000)
  if decide (g < 8) && s.rptRuns g && due && (s.grp g).step.isNone then
    match s.rptTarget g, s.cvsIn g cvSpare with
    | some t, sp :: _ =>
      let s := s.setCvStat g sp cvShadow (s.getF (Reg.AFE_CV_STAT_PATH g t)) (s.getF (Reg.AFE_CV_STAT_ROLE g t))
        (s.getF (Reg.AFE_CV_STAT_CH g t))
      let s := s.setCv g sp fun c => { c with quiet := 0, term := none }
      let s := s.setGrp g fun x => { x with step := some ⟨t, sp, 0, 0, 0, 0, 0, 0, 0, 0, none⟩, stepFrom := s.tm.runt }
      .next ((s.setF (Reg.AFE_RPT_STAT_TARGET_CV g) t).rptSync g)
    | _, _ => .next s
  else .next s

/-- The step in SHADOW is abandoned: the spare is a spare again (R205, R209, R216). -/
def State.rptAbandon (s : State) (g : Nat) : State :=
  match (s.grp g).step with
  | none => s
  | some st =>
    let s := s.setCvStat g st.spare cvSpare 0 0 0
    let s := s.setGrp g fun x => { x with step := none, stepFrom := s.tm.runt }
    let s := s.incF (Reg.AFE_RPT_CNT_ABANDONED g)
    (s.rptSync g).irq (.afe g) 1

/-- REPOINT_ABANDON (R205, R216): 16 windows without 256 valid pairs, or repointing may no longer run. -/
def execRepointAbandon (g : Nat) (s : State) : Out := s.only (decide (g < 8)) <|
  match (s.grp g).step with
  | some st =>
    let late := decide (st.edges ≥ 16 * 256) && decide (st.pairs < 256)
    let paused := !s.flag (Reg.AFE_RPT_CTL_EN g) || !s.govFull
    if late || paused then .next (s.rptAbandon g) else .next s
  | none => .next s

/-- Δo and Δg of the target relative to the spare (R206): Δg is 1 below 10 % of full scale. -/
def RptStep.fit (st : RptStep) : Rat × Rat :=
  let n : Int := st.pairs
  let den := n * st.sSS - st.sS * st.sS
  let dg : Rat := if (st.hi - st.lo) * 10 < 2 ^ 23 ∨ den = 0 then 1 else ((n * st.sST - st.sS * st.sT : Int) : Rat) / (den : Rat)
  ((((st.sT : Rat) - dg * (st.sS : Rat)) / (n : Rat)), dg)

/-- REPOINT_MISMATCH (R206, R207). -/
def execRepointMismatch (g : Nat) (s : State) : Out := s.only (decide (g < 8)) <|
  match (s.grp g).step with
  | some st =>
    if st.pairs ≥ 256 ∧ st.term = none then
      let f := st.fit
      let okO := decide (absR f.1 ≤ (s.getF (Reg.AFE_RPT_LIM_OFS g) : Rat))
      let okG := decide (absR (f.2 - 1) * 1000000 ≤ (s.getF (Reg.AFE_RPT_LIM_GAIN g) : Rat))
      let ok := okO && okG
      let s := s.setGrp g fun x => { x with step := some { st with term := some (if ok then some (f.2, f.1) else none) } }
      if ok then .next s
      else .next ((s.irq (.afe g) 2).emit (cvSrc g st.target) 0x1001 1 (ofSigned 64 (openR f.1)))
    else .next s
  | none => .next s

/-- Frames of 40 CCLK edges of steps 1 and 2 of a calibration, 256 conversions each, before step 3 asks for the proof DAC
(R189, R212). -/
def calSteps : Nat := 512 * 40

/-- SUBSTITUTION_COURSE (R208–R210): at the first sample boundary after the mismatch was computed. -/
def execSubstitutionCourse (g : Nat) (s : State) : Out := s.only (decide (g < 8)) <|
  match (s.grp g).step with
  | some st =>
    match st.term with
    | some term =>
      let c := s.getF (Reg.AFE_CV_STAT_CH g st.target)
      let inSvc := !s.flag (Reg.AFE_CH_STAT_OOS g c) && !s.flag (Reg.AFE_CH_CTL_OOS g c)
      let ok := inSvc && s.on (secAfe g) && !(s.kln.refiring.any fun i => i == secAfe g) && decide ((s.cv g st.spare).quiet ≥ 16)
      if !ok then .next (s.rptAbandon g)
      else
        let path := s.getF (Reg.AFE_CV_STAT_PATH g st.target)
        let role := s.getF (Reg.AFE_CV_STAT_ROLE g st.target)
        let s := s.setF (if role = 1 then Reg.AFE_CH_MAP_CV_B g c else Reg.AFE_CH_MAP_CV_A g c) st.spare
        let s := (s.setCvStat g st.target cvCalib 0 0 0).setCvStat g st.spare cvWorking path role c
        let s := s.setCv g st.spare fun x => { x with term := term.map fun t => (t.1, t.2, 0) }
        let s := s.setCv g st.target fun x => { x with term := none }
        let w := (s.tm.nom / cclk + calSteps, DacUser.calib st.target)
        let s := s.setGrp g fun x => { x with step := none, dacWait := x.dacWait ++ [w] }
        let s := s.wrapF (Reg.AFE_RPT_CNT_STEPS g)
        .next ((s.rptSync g).irq (.afe g) 0)
    | none => .next s
  | none => .next s

/-- REPOINT_FADE_END (R210, R211): match terms whose fade has reached F no longer apply. -/
def execRepointFadeEnd (g : Nat) (s : State) : Out := s.only (decide (g < 8)) <|
  let f := s.fadeLen g
  let done := (List.range nCv).filter fun v => match (s.cv g v).term with
    | some t => decide (t.2.2 ≥ f)
    | none => false
  if done.isEmpty then .next s else
  let s := done.foldl (fun (s : State) v => s.setCv g v fun c => { c with term := none }) s
  let s := done.foldl (fun (s : State) v =>
    if s.cvState g v = cvWorking then s.setF (Reg.AFE_CH_STAT_SUBST g (s.getF (Reg.AFE_CV_STAT_CH g v))) 0 else s) s
  .next (s.rptSync g)

/-! ### Self-calibration and the proof DAC (R212–R217) -/

/-- The CCLK edge at which a request made in this fc is seen. -/
def State.edgeNow (s : State) : Nat := (s.tm.nom + cclk - 1) / cclk

/-- The free proof DAC goes to the next user that has asked for it: in order of request, calibration first among requests of one
CCLK edge (R217). -/
def State.dacGrant (s : State) (g : Nat) : State :=
  let x := s.grp g
  if x.dac.isSome then s else
  let due := x.dacWait.filter fun w => decide (w.1 ≤ s.edgeNow)
  match due.foldl (fun (b : Option (Nat × DacUser)) w => match b with
    | none => some w
    | some u => if w.1 < u.1 || (w.1 == u.1 && u.2 == .proof) then some w else b) none with
  | none => s
  | some w =>
    let s := s.setGrp g fun x => { x with dac := some w.2, dacWait := x.dacWait.erase w }
    if w.2 = .proof then s.setF (Reg.AFE_PROOF_STAT_WAIT g) 0 else s

/-- PROOF_DAC_GRANT (R217). -/
def execProofDacGrant (g : Nat) (s : State) : Out := s.only (decide (g < 8)) <| .next (s.dacGrant g)

/-- The limits of R213: offset in 2^−12 code, gain in Q10.22, largest linearity residual in 2^−12 code. -/
def calPasses (ofs : Int) (gain resid : Nat) : Bool :=
  decide (ofs.natAbs ≤ 65536) && decide (((gain : Int) - 2 ^ 22).natAbs * 100 ≤ 2 ^ 22) && decide (resid ≤ 4096)

/-- CONVERTER_CALIB_DONE (R212–R214): converter v of group g has measured offset, gain and linearity, the last with the proof
DAC; while another user has the DAC, step 3 waits. -/
def execConverterCalibDone (g v : Nat) (ofs : Int) (gain resid : Nat) (s : State) : Out := s.only (decide (g < 8 ∧ v < 18)) <|
  let s := s.dacGrant g
  if s.cvState g v = cvCalib ∧ ((s.grp g).dac = some (.calib v) ∨ (s.grp g).dac = none) then
    let s := s.setGrp g fun x => { x with dac := none, dacWait := x.dacWait.filter fun w => w.2 != .calib v }
    let s :=
      if calPasses ofs gain resid then
        let s := ((s.setI (Reg.AFE_CV_OFS_OFS g v) ofs).wr (Reg.AFE_CV_GAIN g v) gain).setCv g v fun c => { c with calAt := s.tm.runt }
        s.setF (Reg.AFE_CV_STAT_STATE g v) cvSpare
      else
        ((s.setF (Reg.AFE_CV_STAT_STATE g v) cvFailed).irq (.afe g) 3).emitOpen (cvSrc g v) 0x1002 1
    let s := s.rptSync g
    if (s.cvsIn g cvSpare).isEmpty && (s.cvsIn g cvCalib).isEmpty && (s.cvsIn g cvShadow).isEmpty &&
        !s.flag (Reg.AFE_RPT_STAT_NOSPARE g) then
      .next (((s.setF (Reg.AFE_RPT_STAT_NOSPARE g) 1).irq (.afe g) 4).emitOpen (grpSrc g) 0x1003 1)
    else .next s
  else .next s

/-- AGE_LIMIT (R215). -/
def execAgeLimit (g : Nat) (s : State) : Out := s.only (decide (g < 8)) <| .next (s.setB (Reg.AFE_RPT_STAT_AGE g) (s.rptOld g))

/-- A group stops, or is refired: steps in progress, calibrations and proof tests are abandoned (R216). -/
def State.afeStop (s : State) (g : Nat) : State :=
  let s := s.rptAbandon g
  let s := s.setGrp g fun x => { afeGrpZero with
    cvs := x.cvs.map fun c => { c with quiet := 0, term := none }, mapped := x.mapped, was := x.was }
  let s := (s.setF (Reg.AFE_PROOF_STAT_BUSY g) 0).setF (Reg.AFE_PROOF_STAT_WAIT g) 0
  let s := (List.range 8).foldl (fun (s : State) c => (s.setF (Reg.AFE_CH_STAT_SUBST g c) 0).sentinelOff (8 * g + c)) s
  ((List.range nCv).foldl (fun (s : State) v => s.setCvStat g v 5 0 0 0) s).rptSync g

/-! ### Channels out of service (R218–R221) -/

/-- AFE_OOS_WRITE (R218): a write of AFEg_CHc_CTL; its effect comes at the next sample boundary. -/
def execAfeOosWrite (ifc : Iface) (n : Nat) (v : Word) (s : State) : Out := s.hostRow ifc <|
  .next (if decide (n < 64) && s.hasAi n then s.fieldWrite ifc (Reg.AFE_CH_CTL (n / 8) (n % 8)) v.toNat else s)

/-- CHANNEL_OUT_OF_SERVICE (R218, R221). -/
def execChannelOutOfService (n : Nat) (s : State) : Out :=
  let g := n / 8
  let c := n % 8
  if decide (n < 64) && s.flag (Reg.AFE_CH_CTL_OOS g c) && !s.flag (Reg.AFE_CH_STAT_OOS g c) && s.on (secAfe g) then
    let s := ((s.setF (Reg.AFE_CH_STAT_OOS g c) 1).sentinelOff n).wr (Reg.AFE_CH_RES g c) (staleSample (s.chDye n)).word
    .next (s.emitOpen (chSrc n) 0x1004 1)
  else .next s

/-- A proof test ends with a result (R225). -/
def State.proofEnd (s : State) (g result : Nat) : State :=
  let s := (s.setF (Reg.AFE_PROOF_STAT_BUSY g) 0).setF (Reg.AFE_PROOF_STAT_WAIT g) 0
  let s := (s.setF (Reg.AFE_PROOF_STAT_RESULT g) result).raise (Reg.AFE_PROOF_STAT_DONE g)
  let s := s.setGrp g fun x => { x with dac := if x.dac = some .proof then none else x.dac,
                                        dacWait := x.dacWait.filter fun u => u.2 != .proof }
  s.irq (.afe g) 5

/-- CHANNEL_RETURN_TO_SERVICE (R220, R221, R225). -/
def execChannelReturnToService (n : Nat) (s : State) : Out :=
  let g := n / 8
  let c := n % 8
  if decide (n < 64) && !s.flag (Reg.AFE_CH_CTL_OOS g c) && s.flag (Reg.AFE_CH_STAT_OOS g c) && s.on (secAfe g) then
    let s := (s.setF (Reg.AFE_CH_STAT_OOS g c) 0).setF (Reg.AFE_CH_STAT_FUSE_HI g c) 0
    let s := s.syncCh n
    let s := if s.flag (Reg.AFE_PROOF_STAT_BUSY g) && s.getF (Reg.AFE_PROOF_STAT_CH g) == c then s.proofEnd g 3 else s
    .next (s.emitOpen (chSrc n) 0x1005 2)
  else .next s

/-! ### Proof tests (R222–R225) -/

/-- A write of AFEg_PROOF_CTL (R217, R222): START takes the test that TEST selects then. -/
def State.proofCtl (s : State) (i : Iface) (g v : Nat) : State :=
  let s := s.fieldWrite i (Reg.AFE_PROOF_CTL g) v
  if !v.testBit 31 || !s.may i .operate || s.flag (Reg.AFE_PROOF_STAT_BUSY g) then s
  else
    let c := s.getF (Reg.AFE_PROOF_CTL_CH g)
    let s := s.setF (Reg.AFE_PROOF_STAT_CH g) c
    if s.getF (Reg.AFE_PROOF_CTL_TEST g) ≥ 2 || !s.flag (Reg.AFE_CH_STAT_OOS g c) || !s.on (secAfe g) then s.proofEnd g 3
    else
      let t := s.getF (Reg.AFE_PROOF_CTL_TEST g)
      let s := (s.setF (Reg.AFE_PROOF_STAT_BUSY g) 1).setF (Reg.AFE_PROOF_STAT_WAIT g) 1
      (s.setGrp g fun x => { x with test := t, dacWait := x.dacWait ++ [(s.edgeNow, .proof)] }).dacGrant g

/-- PROOF_START (R222): a write of AFEg_PROOF_CTL with START set. -/
def execProofStart (ifc : Iface) (g : Nat) (v : Word) (s : State) : Out := s.only (s.hasAfe g) <| s.hostRow ifc <| .next (s.proofCtl ifc g (v.toNat ||| 2 ^ 31))

/-- PROOF_TEST_DONE (R223–R225): the response measured, in ppm. -/
def execProofTestDone (g : Nat) (val : Int) (s : State) : Out := s.only (decide (g < 8)) <|
  let s := s.dacGrant g
  if s.flag (Reg.AFE_PROOF_STAT_BUSY g) ∧ (s.grp g).dac = some .proof then
    let c := s.getF (Reg.AFE_PROOF_STAT_CH g)
    let s := s.setI (Reg.AFE_PROOF_RES_VAL g) val
    if (s.grp g).test = 0 then
      let opn := decide (val > 250000)
      .next ((s.setB (Reg.AFE_CH_STAT_OPEN g c) opn).proofEnd g (b2n opn))
    else .next (s.proofEnd g (if val.natAbs ≤ 300 then 0 else 2))
  else .next s

/-! ### Other writes and the warm reset -/

/-- Sealed registers of a group block whose words count by sample (R226): CAL_G, CAL_O, SKEW. -/
def sealedAfe (off : Nat) : Bool :=
  let o := off % 0x1000
  decide (0x100 ≤ o ∧ o < 0x300) && (o % 0x40 == 0x1C || o % 0x40 == 0x20 || o % 0x40 == 0x24)

/-- A write of a plain register of an AFE group: a sealed coefficient takes effect at the next sample boundary (R226), and a step
in SHADOW is abandoned when EN is cleared (R216). -/
def State.afeWrite (s : State) (i : Iface) (off v : Nat) : State :=
  let g := off / 0x1000 % 16
  let t := s.fieldWrite i off v
  let t := if sealedAfe off && t.rd off != s.rd off then t.sealKeep g off (s.rd off) else t
  if off = Reg.AFE_RPT_CTL g ∧ s.flag (Reg.AFE_RPT_CTL_EN g) ∧ !t.flag (Reg.AFE_RPT_CTL_EN g) then t.rptAbandon g else t

/-- A warm reset ends the proof tests, whose registers it clears, and frees the proof DAC of them (R229). -/
def State.afeWarm (s : State) : State :=
  (List.range 8).foldl (fun (s : State) g => s.setGrp g fun x => { x with
    dac := if x.dac = some .proof then none else x.dac, dacWait := x.dacWait.filter fun u => u.2 != .proof }) s

end Sys2Proof.Machine
end

