-- ==== Sys2Proof/Machine/KilnImage.lean ====
section
/-!
DEFINITION. Images as bytes (R111–R117): header, section table, bodies, records and patch descriptors; verification in the
seven steps of R121; the words a section gives registers.
-/
namespace Sys2Proof.Machine

/-! ### Bytes and fields -/

/-- A little-endian number of n bytes at an offset. -/
def imgN (b : List Byte) (o n : Nat) : Nat := leNat ((b.drop o).take n)

/-- The number n bytes at an offset stand for, most significant first. -/
def imgBe (b : List Byte) (o n : Nat) : Nat := beNat ((b.drop o).take n)

/-- A section table entry (R113); `rsv` holds its reserved bytes. -/
structure SecEnt where
  id : Nat
  fmt : Nat
  flags : Nat
  ofs : Nat
  len : Nat
  digest : Nat
  rsv : Nat
  deriving DecidableEq, Repr

/-- Fields of the header (R112). -/
def imgKind (b : List Byte) : Nat := imgN b 6 2
def imgLen (b : List Byte) : Nat := imgN b 8 4
def imgCount (b : List Byte) : Nat := imgN b 12 2
def imgKey (b : List Byte) : Nat := imgN b 14 1

/-- The section table. -/
def imgSecs (b : List Byte) : List SecEnt :=
  (List.range (imgCount b)).map fun i =>
    let o := 0x100 + 64 * i
    ⟨imgN b o 2, imgN b (o + 2) 2, imgN b (o + 4) 4, imgN b (o + 8) 4, imgN b (o + 12) 4, imgBe b (o + 16) 32, imgN b (o + 48) 16⟩

/-- The body of a section. -/
def SecEnt.body (e : SecEnt) (b : List Byte) : List Byte := (b.drop e.ofs).take e.len

/-- IMAGE_DIGEST as R114 forms it. -/
def imgDigest (b : List Byte) : Nat :=
  let x := b.take (imgLen b)
  sha256 (x.take 0x40 ++ List.replicate 0x60 0 ++ x.drop 0xA0)

/-- The configuration stamp (R118). -/
def imgStamp (b : List Byte) : Nat := imgBe b 0x40 8

/-! ### Steps 1–5 (R121) -/

/-- Unit types of R113. -/
def unitTypes : List Nat := [0x00, 0x01, 0x02, 0x03, 0x05, 0x06, 0x10, 0x18, 0x20, 0x30, 0x40, 0x50, 0x60, 0x70, 0x80, 0x90, 0xA0, 0xB0, 0xC0]

/-- Step 1 of an image of a kind and a largest length: FORMAT, LENGTH. -/
def step1 (kind maxLen : Nat) (b : List Byte) : Nat :=
  if imgN b 0 4 ≠ 0x4E4C494B ∨ imgN b 4 2 ≠ 1 ∨ imgKind b ≠ kind then 1
  else
    let n := imgLen b
    if n % 16 ≠ 0 ∨ n < 0x200 ∨ n > maxLen ∨ n > b.length ∨ imgCount b = 0 ∨ imgCount b > 96 ∨ n < 0x100 + 64 * imgCount b then 2
    else 0

/-- Steps 2–4: KEY, DIGEST, SIGNATURE; `prog` and `rev` are the OTP slots. -/
def step234 (prog rev : Nat) (b : List Byte) : Nat :=
  let k := imgKey b
  let d := imgDigest b
  if k > 3 ∨ !prog.testBit k ∨ rev.testBit k then 3
  else if imgBe b 0x40 32 ≠ d then 4
  else if !ecdsaOk (Config.otpKey k) d (imgBe b 0x60 32) (imgBe b 0x80 32) then 5
  else 0

/-- Two bodies share a byte. -/
def SecEnt.overlaps (x y : SecEnt) : Bool := decide (x.ofs < y.ofs + y.len ∧ y.ofs < x.ofs + x.len)

/-- Step 5: TABLE, SEC_DIGEST. -/
def step5 (b : List Byte) : Nat :=
  let es := imgSecs b
  let n := imgLen b
  let bad := es.any fun e =>
    decide (e.ofs % 16 ≠ 0 ∨ e.ofs < 0x100 + 64 * es.length ∨ e.ofs + e.len > n ∨ e.id / 256 ∉ unitTypes) ||
      decide (es.countP (fun x => x.id == e.id || e.overlaps x) ≠ if e.len = 0 then es.countP (fun x => x.id == e.id) else 1) ||
      decide (es.countP (fun x => x.id == e.id) ≠ 1)
  if bad then 6
  else if es.any fun e => e.digest != sha256 (e.body b) then 7
  else 0

/-- Steps 1–5; 0 when all pass. -/
def steps15 (kind maxLen prog rev : Nat) (b : List Byte) : Nat :=
  let a := step1 kind maxLen b
  if a ≠ 0 then a else
  let a := step234 prog rev b
  if a ≠ 0 then a else step5 b

/-! ### Records and patch descriptors (R115, R117) -/

/-- A record: its type, the reserved bytes of its header, the offset of its payload within the body, the payload. -/
structure Rec where
  ty : Nat
  rsv : Nat
  at_ : Nat
  data : List Byte
  deriving DecidableEq, Repr

/-- The records from an offset on; none where one does not fit. -/
def readRecs (body : List Byte) : Nat → Nat → Option (List Rec)
  | 0, _ => some []
  | n + 1, o =>
    let len := imgN body (o + 4) 4
    if o + 8 + len > body.length then none
    else (readRecs body n (o + 8 + (len + 3) / 4 * 4)).map (⟨imgN body o 2, imgN body (o + 2) 2, o + 8, (body.drop (o + 8)).take len⟩ :: ·)

/-- The records of a section body (R115). -/
def bodyRecs (body : List Byte) : Option (List Rec) :=
  if body.length < 16 then none else readRecs body (imgN body 8 4) 16

/-- A patch descriptor (R117); `rsv` holds bits 6:2 of CLASS, which R117 gives no meaning. -/
structure Desc where
  vidx : Nat
  width : Nat
  cls : Nat
  rsv : Nat
  signed : Bool
  ofs : Nat
  lo : Nat
  hi : Nat
  deriving DecidableEq, Repr

/-- Patch descriptors from an offset on. -/
def readDescs (b : List Byte) (o n : Nat) : List Desc :=
  (List.range n).map fun i =>
    let p := o + 16 * i
    let c := imgN b (p + 3) 1
    ⟨imgN b p 2, imgN b (p + 2) 1, c % 4, bits c 6 2, c.testBit 7, imgN b (p + 4) 4, imgN b (p + 8) 4, imgN b (p + 12) 4⟩

/-- The patch table of a section body. -/
def bodyDescs (body : List Byte) : List Desc := readDescs body (imgN body 4 4) (imgN body 0 2)

/-- Whether a value lies within MIN and MAX of a descriptor (signed where CLASS says so). -/
def Desc.admits (d : Desc) (v : Nat) : Bool :=
  if d.signed then decide (toSigned 32 d.lo ≤ toSigned 32 v ∧ toSigned 32 v ≤ toSigned 32 d.hi) else decide (d.lo ≤ v ∧ v ≤ d.hi)

/-- The value at a descriptor's place, zero- or sign-extended to 32 bits. -/
def Desc.value (d : Desc) (body : List Byte) : Nat :=
  let v := imgN body d.ofs d.width
  if d.signed then ofSigned 32 (toSigned (8 * d.width) v) else v

/-- A body with a value put at a descriptor's place. -/
def Desc.put (d : Desc) (body : List Byte) (v : Nat) : List Byte :=
  body.take d.ofs ++ leBytes d.width v ++ body.drop (d.ofs + d.width)

/-- Base offset of the unit's block a section writes to (R113). -/
def secBase (id : Nat) : Nat :=
  if id / 256 = 0x10 then (Blk.afe (id % 256)).base
  else if id = 0x8004 then Blk.ethW.base
  else id / 256 * 0x10000

/-- Size of the unit's block a section writes to (R641, R643). -/
def secSpan (id : Nat) : Nat :=
  match id / 256 with
  | 0x10 => 0x1000
  | 0x20 | 0x70 => 0x20000
  | 0x80 => if id = 0x8004 then 0x10000 else 0x40000
  | _ => 0x10000

/-- The register writes of a body, as BAR0 offset and word, in record order. -/
def bodyWrites (id : Nat) (body : List Byte) : List (Nat × Nat) :=
  ((bodyRecs body).getD []).filterMap fun r =>
    if r.ty = 1 then some (secBase id + imgN r.data 0 4, imgN r.data 4 4) else none

/-- The fields a section may set. -/
def FieldRow.settable (f : FieldRow) : Bool := f.acc == .rw || f.acc == .seal || f.acc == .img

/-- The bits of a register a section may set. -/
def RegRow.settable (r : RegRow) : Nat :=
  r.fields.foldl (fun m f => if f.settable then m ||| (2 ^ (f.hi + 1) - 2 ^ f.lo) else m) 0

/-- PRT_Ff_SG, in which the image names the power-on setting group of feeder f (R307, log 227). -/
def isSg (off : Nat) : Bool := (List.range 12).any fun f => Reg.PRT_F_SG f == off

/-- The bits of a register that an image sets. -/
def settableAt (off : Nat) (r : RegRow) : Nat := if isSg off then 3 else r.settable

/-- The word a register takes from a section: its settable fields. -/
def secWord (off v : Nat) : Nat :=
  match regAt off with
  | none => 0
  | some h => maskPut (resetWord off).toNat (settableAt off h.row) v

/-- A value within the range its field states. -/
def WRule.within (r : WRule) (w p v : Nat) : Bool :=
  match r with
  | .any | .govThr => true
  | .clamp lo hi | .ignore lo hi | .range lo hi => decide (lo ≤ v ∧ v ≤ hi)
  | .clampS lo hi | .rangeS lo hi => decide (lo ≤ toSigned w v ∧ toSigned w v ≤ hi)
  | .pow2 => decide (v ∈ [4, 8, 16, 32, 64, 128, 256, 512, 1024, 2048, 4096])
  | .budget =>
    let b := [(16, 1024), (16, 512), (64, 65535), (4, 256)].getD p (0, 65535)
    decide (b.1 ≤ v ∧ v ≤ b.2)

/-- Step 6 of one register write: RECORD or RANGE. -/
def writeErr (off v : Nat) : Nat :=
  match regAt off with
  | none => 0x12
  | some h =>
    let m := settableAt off h.row
    if off % 4 ≠ 0 ∨ m = 0 ∨ v % 2 ^ 32 &&& (2 ^ 32 - 1 - m) ≠ 0 then 0x12
    else if h.row.fields.all fun f => !f.settable || f.rule.within (f.hi - f.lo + 1) (h.idx.headD 0) (bits v f.hi f.lo) then 0
    else 0x13

/-- Step 6 of records and patch table: RECORD, RANGE.  An offset lies within the unit's block, reserved bits are zero. -/
def recsErr (id : Nat) (body : List Byte) : Nat :=
  match bodyRecs body with
  | none => 0x12
  | some rs =>
    let ds := bodyDescs body
    let ok := fun (r : Rec) => r.rsv == 0 && match r.ty with
      | 1 => r.data.length == 8 && decide (imgN r.data 0 4 < secSpan id)
      | 2 => decide (4 ≤ r.data.length)
      | 3 => decide (20 ≤ r.data.length)
      | _ => false
    if !rs.all ok ∨ imgN body 2 2 ≠ 0 ∨ imgN body 12 4 ≠ 0 ∨ imgN body 0 2 > 4095 then 0x12
    else if ds ≠ [] ∧ imgN body 4 4 + 16 * ds.length > body.length then 0x12
    else if !(ds.zip (ds.drop 1)).all fun p => decide (p.1.vidx < p.2.vidx) then 0x12
    else if ds.any fun d => decide (d.width ∉ [1, 2, 4] ∨ d.cls = 3 ∨ d.rsv ≠ 0) ||
        !rs.any fun r => decide (r.ty ≤ 2 ∧ r.at_ ≤ d.ofs ∧ d.ofs + d.width ≤ r.at_ + r.data.length) then 0x12
    else
      let es := (bodyWrites id body).map fun w => writeErr w.1 w.2
      if 0x12 ∈ es then 0x12
      else if 0x13 ∈ es then 0x13
      else if ds.all fun d => d.admits (d.value body) then 0 else 0x13

/-! ### Step 6 across fields -/

/-- The registers as a configuration gives them. -/
abbrev Conf := Nat → Nat

/-- A field of a configuration. -/
def Conf.f (c : Conf) (x : Fld) : Nat := bits (c x.off) x.hi x.lo

/-- A bit set in a configuration. -/
def Conf.b (c : Conf) (x : Fld) : Bool := c.f x != 0

/-- Words over the reset words. -/
def confOf (ws : List (Nat × Nat)) : Conf := fun off =>
  match ws.reverse.find? fun w => w.1 == off with
  | some w => secWord off w.2
  | none => (resetWord off).toNat

/-- Mode, profile and D of a channel. -/
def Conf.mode (c : Conf) (n : Nat) : Nat := c.f (Reg.AFE_CH_CFG_MODE (n / 8) (n % 8))
def Conf.prof (c : Conf) (n : Nat) : Nat := c.f (Reg.AFE_CH_CFG_PROF (n / 8) (n % 8))
def Conf.dec (c : Conf) (n : Nat) : Nat := 2 ^ c.f (Reg.FLT_PROF_CFG_DSEL (c.prof n))

/-- The channels a grid slot holds. -/
def Conf.gridChs (c : Conf) (g : Nat) : List Nat := bitList 32 (c (Reg.ANG_GRID_MASK_LO g)) ++ (bitList 32 (c (Reg.ANG_GRID_MASK_HI g))).map (· + 32)

/-- Stage-A delay by mode in 0.1 ns (R248). -/
def stageADelay (mode : Nat) : Nat := if mode = 1 then 110000 else 135000

/-- FLT_GD_n (R272). -/
def Conf.groupDelay (c : Conf) (n : Nat) : Nat :=
  let m := c.mode n
  if m = 3 then 0 else
  let p := c.prof n
  let inGrid := (List.range 16).any fun g => c.b (Reg.ANG_GRID_CFG_EN g) && decide (n ∈ c.gridChs g)
  (roundR ((stageADelay m : Rat) + (c.f (Reg.FLT_PROF_GD_GD p) : Rat) / 256 * 78125 / 2 + (if inGrid then ((4 * c.dec n * 78125 : Nat) : Rat) / 2 else 0))).toNat

/-- ANG_GRID_DLY_g (R61). -/
def Conf.gridDelay (c : Conf) (g : Nat) : Nat :=
  match c.gridChs g with
  | n :: _ => 4 * c.dec n * 78125 / 2
  | [] => 0

/-- R62 for the enabled grid slots. -/
def Conf.gridBad (c : Conf) : Bool :=
  (List.range 16).any fun g => c.b (Reg.ANG_GRID_CFG_EN g) &&
    (c.gridChs g).any fun n =>
      c.dec n != c.dec ((c.gridChs g).headD 0) || decide (256000 < 2 * (32 * 2 ^ c.f (Reg.ANG_GRID_CFG_NSEL g)) * 70 * c.dec n)

/-- Coefficients and delay of a profile (R253, R254). -/
def Conf.profBad (c : Conf) (p : Nat) : Bool :=
  let t := c.f (Reg.FLT_PROF_CFG_TAPS p)
  let co := fun b k => c.f (Reg.FLT_COEF_COEF p b k)
  let sym := c.b (Reg.FLT_PROF_CFG_SYM p)
  decide (t = 0 ∨ t > 384 ∨ c.f (Reg.FLT_PROF_CFG_DSEL p) > 6 ∨ c.f (Reg.FLT_PROF_CFG_LEVEL p) = 3) ||
    (sym && decide (c.f (Reg.FLT_PROF_GD_GD p) ≠ (t - 1) * 128)) ||
    (List.range 2).any fun b => (List.range 384).any fun k =>
      if t ≤ k then decide (co b k ≠ 0) else sym && decide (co b k ≠ co b (t - 1 - k))

/-- PICKUP range, whether AUX is as a 51 element, largest CURVE of an element slot (R282). -/
def elemLim (e : Nat) : Nat × Nat × Nat :=
  if e ≤ 2 ∨ e = 5 ∨ e = 7 ∨ e = 8 then (50, 40000, if e ≤ 2 then 0 else 7)
  else if e = 3 ∨ e = 4 ∨ e = 6 ∨ e = 9 ∨ e = 10 then (10, 40000, if e ≤ 4 then 0 else 7)
  else if e = 11 then (20, 5000, 7)
  else if e = 12 ∨ e = 13 then (50, 1200, 0)
  else if e = 14 ∨ e = 15 then (800, 1500, 0)
  else if e = 16 ∨ e = 17 then (20, 1500, 0)
  else if e ≤ 21 then (40000, 70000, 0)
  else if e = 22 then (100, 10000, 0)
  else (20, 2000, 0)

/-- An option that the slot does not allow: HALF outside 0–4 and 7–10, DIR (R295), SRC (R282, R291),
LOGIC (R294, R296, R300). -/
def Conf.optBad (c : Conf) (f g e : Nat) : Bool :=
  let dir := c.f (Reg.PRT_F_SG_E_CFG_DIR f g e)
  let src := c.f (Reg.PRT_F_SG_E_CFG_SRC f g e)
  let logic := c.f (Reg.PRT_F_SG_E_CFG_LOGIC f g e)
  let directional := decide (7 ≤ e ∧ e ≤ 10)
  let half := c.b (Reg.PRT_F_SG_E_CFG_HALF f g e) && decide (¬ (e ≤ 4 ∨ 7 ≤ e ∧ e ≤ 10))
  let dirBad := if directional then decide (dir ≠ 1 ∧ dir ≠ 2) else decide (dir ≠ 0)
  let srcBad := decide (src > if e ∈ [3, 4, 6, 9, 10, 12, 13, 14, 15, 16, 17] then 1 else 0)
  let logicBad := decide (logic > if e ∈ [9, 10, 12, 13, 14, 15] then 1 else if e = 22 then 2 else 0)
  half || dirBad || srcBad || logicBad

/-- An enabled element's settings outside R282. -/
def Conf.elemBad (c : Conf) (f g e : Nat) : Bool :=
  let l := elemLim e
  let pu := c (Reg.PRT_F_SG_E_PICKUP f g e)
  let t := c (Reg.PRT_F_SG_E_TIME f g e)
  let a := c (Reg.PRT_F_SG_E_AUX f g e)
  let cv := c.f (Reg.PRT_F_SG_E_CFG_CURVE f g e)
  let tBad :=
    if e = 23 then decide (t % 65536 = 0 ∨ t % 65536 ≤ t / 65536)
    else if cv = 0 then decide (t > 600000)
    else if cv ≤ 4 then decide (t < 25 ∨ t > 1200)
    else decide (t < 100 ∨ t > 15000)
  let aBad :=
    if e = 5 ∨ e = 6 ∨ e = 11 then decide (bits a 31 16 > 10000)
    else if 7 ≤ e ∧ e ≤ 10 then
      decide ((toSigned 16 (bits a 31 16)).natAbs > 9000 ∨ bits a 15 8 < 60 ∨ bits a 15 8 > 90 ∨ bits a 7 0 = 0 ∨ bits a 7 0 > 100)
    else if e = 12 ∨ e = 13 then decide (bits a 15 0 ≠ 0 ∧ (bits a 15 0 < 50 ∨ bits a 15 0 > 1000))
    else if 18 ≤ e ∧ e ≤ 22 then decide (bits a 15 0 < 200 ∨ bits a 15 0 > 1000)
    else if e = 23 then decide (bits a 15 0 ≠ 0 ∧ (bits a 15 0 < 20 ∨ bits a 15 0 > 2000))
    else if 14 ≤ e ∧ e ≤ 17 then decide (a ≠ 0)
    else false
  c.b (Reg.PRT_F_SG_E_CFG_EN f g e) &&
    (decide (pu < l.1 ∨ pu > l.2.1 ∨ cv > l.2.2) || tBad || aBad || c.optBad f g e)

/-- The form of a standing course (R172, R321, R688). -/
def Conf.standBad (c : Conf) (acts : List (Nat × Nat × Nat)) : Bool :=
  let ty := fun (a : Nat × Nat × Nat) => bits a.1 31 28
  let tgt := fun (a : Nat × Nat × Nat) => bits a.1 23 0
  let one := fun (a : Nat × Nat × Nat) =>
    if bits a.1 27 25 ≠ 0 then false
    else match ty a with
      | 2 => bit a.1 24 && decide (tgt a = 0 ∧ a.2.1 / 65536 = 0) && (bitList 16 a.2.1).all fun n => c.b (Reg.PRT_TRIPO_EN n)
      | 7 => !bit a.1 24 && decide (bits a.2.2 17 16 = 0)
      | 8 => !bit a.1 24 && decide (tgt a < 16) && c.b (Reg.ACQ_TU_CFG_EN (tgt a))
      | 9 => !bit a.1 24 && decide (tgt a < 32) && c.b (Reg.ETH_GP_CFG_EN (tgt a))
      | _ => false
  !acts.all one || decide (acts.length > 32 ∨ acts.countP (fun a => ty a = 7) ≠ 1 ∨ acts.countP (fun a => ty a = 8) > 1 ∨ acts.countP (fun a => ty a = 9) > 1)

/-- A feeder section: GRID (R275) or RANGE (R172, R282, R333). -/
def Conf.feederErr (c : Conf) (f : Nat) (body : List Byte) : Nat :=
  let ins := (List.range 8).filterMap fun q => if c.f (Reg.PRT_F_IN_KIND f q) = 0 then some (c.f (Reg.PRT_F_IN_INDEX f q)) else none
  if ins.any fun n => decide (n ∉ c.gridChs f ∨ c.groupDelay n > 20000000) then 0x14
  else if (List.range 4).any fun g => (List.range 24).any fun e => c.elemBad f (g + 1) e then 0x13
  else if c.standBad (Config.standingActs body) then 0x13
  else if c.b (Reg.PRT_F_POW_CFG_EN f) && (decide (c.f (Reg.PRT_F_POW_CFG_SRC_CLOSE f) = 0 ∨ c.f (Reg.PRT_F_POW_CFG_SRC_OPEN f) = 0)) &&
      [4, 5, 6].any (fun q => c.f (Reg.PRT_F_IN_KIND f q) != 0) then 0x13
  else 0

/-- A sentinel section (R172, R313, R316) of a variant. -/
def Conf.tileErr (c : Conf) (v : Variant) (t : Nat) (body : List Byte) : Nat :=
  let bad := (List.range 8).any fun i => c.b (Reg.PRT_S_C_CFG_EN t i) &&
    (!v.hasAi (c.f (Reg.PRT_S_C_CFG_CH t i)) || c.mode (c.f (Reg.PRT_S_C_CFG_CH t i)) == 3 || (c.b (Reg.PRT_S_C_QUAL_QEN t i) &&
      decide (!v.hasDio (c.f (Reg.PRT_S_C_QUAL_QDIO t i)) ∨ c.f (Reg.DIO_CH_CFG_TYPE (c.f (Reg.PRT_S_C_QUAL_QDIO t i))) ∉ [1, 2])))
  if bad || c.standBad (Config.standingActs body) then 0x13 else 0

/-- A trigger unit's configuration (R345, R346). -/
def Conf.tuBad (c : Conf) (n : Nat) : Bool :=
  let ty := c.f (Reg.ACQ_TU_CFG_TYPE n)
  let k := c.f (Reg.ACQ_TU_SRC_KIND n)
  let a := c (Reg.ACQ_TU_A n)
  let b := c (Reg.ACQ_TU_B n)
  let p := c (Reg.ACQ_TU_C n)
  c.b (Reg.ACQ_TU_CFG_EN n) &&
    (decide (ty > 7 ∨ c.f (Reg.ACQ_TU_CFG_DIR n) = 3 ∨ c.f (Reg.ACQ_TU_CFG_SUB n) = 3) ||
     (match ty with
      | 0 => false
      | 4 => decide (k > 4 ∧ k ≠ 6)
      | 6 => decide (k ≠ 6 ∨ b = 0)
      | 7 => decide (k ≠ 5)
      | _ => decide (k > 4)) ||
     (ty == 3 && decide (toSigned 32 a ≤ toSigned 32 b)) || (ty == 2 && decide (bits p 15 0 > bits p 31 16)))

/-- The channels of a capture. -/
def Conf.capChs (c : Conf) (j : Nat) : List Nat := bitList 32 (c (Reg.ACQ_C_CH_LO j)) ++ (bitList 32 (c (Reg.ACQ_C_CH_HI j))).map (· + 32)

/-- The areas of captures and reduction engines (R354). -/
def Conf.areas (c : Conf) : List (Nat × Nat) :=
  ((List.range 8).filterMap fun j => if c.b (Reg.ACQ_C_CFG_EN j) then some (c.f (Reg.ACQ_C_BASE_ADDR j) * 4096, c (Reg.ACQ_C_SIZE j)) else none) ++
  (List.range 16).filterMap fun k => if c.b (Reg.ACQ_RD_CFG_EN k) then some (c.f (Reg.ACQ_RD_BASE_ADDR k) * 4096, c (Reg.ACQ_RD_SIZE k)) else none

/-- ACQ_EVAL_DLY in ns of a configuration (R339), rounded up to a ns: the largest stream delay of the enabled trigger units
and captures and 8 fc. `div` is FCLK as a divider of 400 MHz: counts of fc bind at every setting of it (R5). -/
def Conf.evalDelay (c : Conf) (div : Nat) : Nat :=
  let gd := fun (ns : List Nat) => ns.foldl (fun m n => max m ((c.groupDelay n + 9) / 10)) 0
  let slot := fun g => gd (c.gridChs g)
  let delay := fun (k u : Nat) (chs : List Nat) => match k with
    | 0 => chs.foldl (fun m n => max m (stageADelay (c.mode n) / 10)) 0
    | 1 => gd chs
    | 2 => slot u
    | 3 => slot u + 60 * div
    | 4 => 700 + 75 * div
    | 6 => 13500
    | _ => 0
  let tu := (List.range 16).filterMap fun n =>
    if c.b (Reg.ACQ_TU_CFG_EN n) then some (delay (c.f (Reg.ACQ_TU_SRC_KIND n)) (c.f (Reg.ACQ_TU_SRC_UNIT n)) [c.f (Reg.ACQ_TU_SRC_CH n)]) else none
  let cp := (List.range 8).filterMap fun j =>
    if c.b (Reg.ACQ_C_CFG_EN j) then some (delay (c.f (Reg.ACQ_C_CFG_KIND j)) (c.f (Reg.ACQ_C_CFG_UNIT j)) (c.capChs j)) else none
  (tu ++ cp).foldl max 0 + 20 * div

/-- The ACQ section (R341, R345, R346, R354, R369) of a variant with an FCLK divider. -/
def Conf.acqErr (c : Conf) (v : Variant) (div : Nat) : Nat :=
  let ar := c.areas.zipIdx
  let capBad := (List.range 8).any fun j => c.b (Reg.ACQ_C_CFG_EN j) &&
    (let k := c.f (Reg.ACQ_C_CFG_KIND j)
     let ch := c.capChs j
     let u := c.f (Reg.ACQ_C_CFG_UNIT j)
     (k == 1 && ch.any (fun n => c.dec n != c.dec (ch.headD 0))) || (k == 2 && ch.any (fun n => !decide (n ∈ c.gridChs u))) ||
     (k == 4 && (decide (ch.length > 16) || (ch.any (fun n => c.mode n == 1) && ch.any (fun n => c.mode n != 1)))) || decide (k > 6) ||
     (c.b (Reg.ACQ_C_CFG_DIG j) && decide (k ∉ [0, 1, 4, 6])) || (k == 6 && !c.b (Reg.ACQ_C_CFG_DIG j)))
  if (List.range 16).any c.tuBad || capBad || decide (c Reg.ACQ_BUS_LAT < c.evalDelay div + 1000) ||
    ar.any (fun x => decide (x.1.1 + x.1.2 > v.capture) ||
      ar.any fun y => x.2 != y.2 && decide (x.1.1 < y.1.1 + y.1.2 ∧ y.1.1 < x.1.1 + x.1.2)) then 0x13
  else 0

/-- The MTR section 0x10 (R377, R391). -/
def Conf.energyErr (c : Conf) : Nat :=
  let per := c.f Reg.MTR_CTL_PERIOD
  let bad := (List.range 12).any fun f => c.b (Reg.MTR_F_CFG_EN f) &&
    (let qs := [0, 1, 2, 4, 5, 6]
     let loc := qs.filterMap fun q => if c.f (Reg.PRT_F_IN_KIND f q) = 0 then some (c.f (Reg.PRT_F_IN_INDEX f q)) else none
     qs.any (fun q => decide (c.f (Reg.PRT_F_IN_KIND f q) > 1)) || loc.any fun n => c.dec n != c.dec (loc.headD 0))
  if bad || decide (per < 10 ∨ per > 1000 ∨ 1000 % max per 1 ≠ 0) then 0x13 else 0

/-- Base period in ns (R415). -/
def Conf.baseNs (c : Conf) : Nat := 31250 * 2 ^ c.f Reg.BLK_BASE_NSEL

/-- The enabled stations of a configuration. -/
def Conf.stations (c : Conf) : List Nat := (List.range 64).filter fun s => c.b (Reg.YUL_ST_CFG_EN s)

/-- Bytes of ring header and blocks (R457–R459), without set items. -/
def Conf.ringBytes (c : Conf) : Nat :=
  c.stations.foldl (fun a s => a + 12 + c.f (Reg.YUL_ST_CFG_OUTLEN s) + c.f (Reg.YUL_ST_CFG_INLEN s)) 16

/-- The YUL section (R454, R463); the largest frame holds 16 set items of 12 bytes per station. -/
def Conf.yulErr (c : Conf) : Nat :=
  let n := c.stations.length
  let wire := 14 + (c.ringBytes + n * 192) + 4 + 20
  let lead := c Reg.YUL_LEAD
  if c.f Reg.YUL_CTL_ROLE = 0 then 0
  else if c.f (Reg.ETH_P_CFG_ROLE 2) ≠ 4 ∨ c.f (Reg.ETH_P_CFG_ROLE 3) ≠ 4 then 0x13
  else if lead * 10 < wire * 32 + 20 * (n * 128 + c Reg.YUL_CABLE) + 4000 ∨ lead * 5 > c.baseNs then 0x13
  else 0

/-- An ETH section (R491, R506). -/
def Conf.ethErr (c : Conf) (p : Nat) : Nat :=
  let r := c.f (Reg.ETH_P_CFG_ROLE p)
  let o := c.f (Reg.ETH_P_CFG_ROLE (p ^^^ 1))
  let sv := (List.range 8).any fun k => c.b (Reg.ETH_SVP_CFG_EN k) &&
    ((List.range 4).flatMap fun b => [bits (c (Reg.ETH_SVP_SRC_0 k)) (8 * b + 7) (8 * b), bits (c (Reg.ETH_SVP_SRC_1 k)) (8 * b + 7) (8 * b)]).any
      fun n => decide (c.dec (n % 64) > 16)
  if p ≥ 4 then 0
  else if decide (r > 4) || (decide (r = 2 ∨ r = 3) && decide (p > 1 ∨ o ≠ r)) || (r == 4 && decide (p < 2 ∨ o ≠ 4)) || sv then 0x13
  else 0

/-- A DIO section (R538, R545). -/
def Conf.dioErr (c : Conf) (g : Nat) : Nat :=
  let bad := (List.range 16).any fun i =>
    let n := 16 * g + i
    let fn := c.f (Reg.DIO_CH_CFG_FUNC n)
    let ty := c.f (Reg.DIO_CH_CFG_TYPE n)
    let m := n ^^^ 1
    (ty == 3 && fn != 0) || (fn == 2 && (decide (c.f (Reg.DIO_CH_CFG_TYPE m) ∉ [1, 2] ∨ c.f (Reg.DIO_CH_CFG_FUNC m) ≠ 2) ||
      c.f (Reg.DIO_CH_FLT_TICK m) != c.f (Reg.DIO_CH_FLT_TICK n)))
  if bad then 0x13 else 0

/-- Step 6 across the fields of a section. -/
def Conf.secErr (c : Conf) (v : Variant) (div : Nat) (id : Nat) (body : List Byte) : Nat :=
  let i := id % 256
  match id / 256 with
  | 0x03 => if c.gridBad then 0x14 else 0
  | 0x06 => if c.b Reg.WYT_CFG_EN && decide (c.f Reg.CRS_MIR_CTL_LEAD < 3000) then 0x13 else 0
  | 0x20 => if c.profBad i then 0x13 else 0
  | 0x30 => if i < 12 then c.feederErr i body else c.tileErr v (i - 0x40) body
  | 0x40 => c.acqErr v div
  | 0x50 =>
    if i = 0x10 then c.energyErr
    else if c.b (Reg.MTR_M_CFG_EN i) && decide (c.f (Reg.MTR_M_CFG_TYPE i) > 3 ∨ c.f (Reg.MTR_M_CFG_FLUID i) > 3 ∨ c.f (Reg.MTR_M_CFG_TAPS i) = 3) then 0x13
    else 0
  | 0x60 =>
    let k := c.f (Reg.BLK_C_TASK_K i)
    if k = 0 ∨ k > 256 ∨ c.f (Reg.BLK_C_TASK_PHASE i) ≥ k then 0x13 else 0
  | 0x70 => c.yulErr
  | 0x80 => c.ethErr i
  | 0xA0 => c.dioErr i
  | _ => 0

/-- Instances of a unit type that exist and are fitted in a variant (R4, R113). -/
def secFitted (v : Variant) (id : Nat) : Bool :=
  let i := id % 256
  match id / 256 with
  | 0x10 => v.hasAfe i
  | 0x20 => decide (i < 16)
  | 0x30 => decide (i < 12 ∨ (0x40 ≤ i ∧ i < 0x50))
  | 0x50 => decide (i ≤ 0x10)
  | 0x60 => decide (i < 4)
  | 0x80 => decide (i < 5)
  | 0xA0 => v.hasDioGrp i
  | 0xB0 => v.hasAo i
  | _ => i == 0

/-- Analogue and digital channels that a section enables the use of (R4); a comparator's channels follow R313 and R316. -/
def Conf.uses (c : Conf) (id : Nat) : List Nat × List Nat :=
  let i := id % 256
  match id / 256 with
  | 0x03 =>
    let ref := fun (mode a b x : Fld) => match c.f mode with
      | 1 => [c.f a]
      | 2 => [c.f a, c.f b, c.f x]
      | _ => []
    (ref Reg.ANG_REF_PRI_MODE Reg.ANG_REF_PRI_AI_A Reg.ANG_REF_PRI_AI_B Reg.ANG_REF_PRI_AI_C ++
      ref Reg.ANG_REF_ALT_MODE Reg.ANG_REF_ALT_AI_A Reg.ANG_REF_ALT_AI_B Reg.ANG_REF_ALT_AI_C ++
      ((List.range 16).filter fun g => c.b (Reg.ANG_GRID_CFG_EN g)).flatMap c.gridChs, [])
  | 0x30 =>
    if i < 12 then
      ((List.range 8).filterMap fun q => if c.f (Reg.PRT_F_IN_KIND i q) = 0 then some (c.f (Reg.PRT_F_IN_INDEX i q)) else none,
        (if c.b (Reg.PRT_F_BF_EXT_EN i) then [c.f (Reg.PRT_F_BF_EXT_DIO i)] else []) ++
        (if c.b (Reg.PRT_F_POW_CFG_EN i) ∧ c.f (Reg.PRT_F_POW_CFG_SRC_OPEN i) = 1 then [c.f (Reg.PRT_F_POW_DET_OPEN_IN i)] else []) ++
        (if c.b (Reg.PRT_F_POW_CFG_EN i) ∧ c.f (Reg.PRT_F_POW_CFG_SRC_CLOSE i) = 1 then [c.f (Reg.PRT_F_POW_DET_CLOSE_IN i)] else []))
    else ([], [])
  | 0x40 =>
    (((List.range 16).filter fun n => c.b (Reg.ACQ_TU_CFG_EN n) && decide (c.f (Reg.ACQ_TU_SRC_KIND n) ∈ [0, 1, 2, 4])).map (fun n =>
        c.f (Reg.ACQ_TU_SRC_CH n)) ++
      ((List.range 8).filter fun j => c.b (Reg.ACQ_C_CFG_EN j) && decide (c.f (Reg.ACQ_C_CFG_KIND j) ∈ [0, 1, 2, 4])).flatMap c.capChs, [])
  | 0x50 =>
    if i < 0x10 ∧ c.b (Reg.MTR_M_CFG_EN i) then
      let ins := [Reg.MTR_M_IN_0 i, Reg.MTR_M_IN_1 i, Reg.MTR_M_IN_2 i].map fun o => (bits (c o) 31 30, bits (c o) 15 0)
      ((ins.filter fun x => x.1 == 0).map (·.2), (ins.filter fun x => x.1 == 2).map (·.2))
    else ([], [])
  | 0x80 =>
    (((List.range 8).filter fun k => c.b (Reg.ETH_SVP_CFG_EN k)).flatMap fun k => (List.range 4).flatMap fun b =>
      [bits (c (Reg.ETH_SVP_SRC_0 k)) (8 * b + 7) (8 * b) % 64, bits (c (Reg.ETH_SVP_SRC_1 k)) (8 * b + 7) (8 * b) % 64], [])
  | _ => ([], [])

/-- A section enables a unit or channel that HST_UNIT_PRES reports absent (R4). -/
def Conf.unitAbsent (c : Conf) (v : Variant) (id : Nat) : Bool :=
  !secFitted v id || !(c.uses id).1.all v.hasAi || !(c.uses id).2.all v.hasDio

/-- Step 6 of a section against the configuration its image makes: UNIT_ABSENT, SEC_FMT, RECORD, then the checks across fields. -/
def step6 (v : Variant) (div : Nat) (c : Conf) (e : SecEnt) (body : List Byte) : Nat :=
  if c.unitAbsent v e.id then 0x10
  else if e.fmt > Config.secFmt (e.id / 256) % 2 ^ 16 then 0x11
  else if e.flags / 8 ≠ 0 ∨ e.rsv ≠ 0 then 0x12
  else
    let r := recsErr e.id body
    if r ≠ 0 then r else c.secErr v div e.id body

/-! ### Step 7 -/

/-- Tile program records of a body: tile number, declared load, lanes. -/
def bodyTiles (body : List Byte) : List (Nat × Nat × Nat) :=
  ((bodyRecs body).getD []).filterMap fun r => if r.ty = 3 then some (imgN r.data 0 2, imgN r.data 2 2, imgN r.data 4 16) else none

/-- Tile program records of a section that is fired: its body's, or those of F's section. -/
def Section.tiles (x : Section) : List (Nat × Nat × Nat) :=
  match x.src with
  | 0 => bodyTiles x.body
  | 1 => Config.fTiles x.id
  | _ => []

/-- Load of the channels on profiles of a LEVEL up to a limit, in MAC/s (R259). -/
def Conf.macs (c : Conf) (lvl : Nat) : Nat :=
  (List.range 64).foldl (fun a n =>
    if c.mode n = 3 ∨ c.f (Reg.FLT_PROF_CFG_LEVEL (c.prof n)) > lvl then a
    else a + c.f (Reg.FLT_PROF_CFG_TAPS (c.prof n)) * 256000 / c.dec n) 0

/-- Bits of OUT or IN an entry of the ring map takes, from bit and width; a STREAM's from M (R474, R477). -/
def Conf.mapSpan (c : Conf) (e : Nat) : Nat × Nat :=
  let o := 8 * c.f (Reg.YUL_MAP_0_OFS e)
  match c.f (Reg.YUL_MAP_0_TYPE e) with
  | 0 => (o + c.f (Reg.YUL_MAP_0_BIT e), 1)
  | 1 => (o, 8)
  | 2 => (o, 16)
  | 5 => (o, 32 * (8 * 2 ^ c.f Reg.BLK_BASE_NSEL / 2 ^ c.f (Reg.YUL_MAP_1_DSEL e)))
  | _ => (o, 32)

/-- The ring map breaks R457, R474 or R477. -/
def Conf.mapBad (c : Conf) : Bool :=
  let es := (List.range 4096).filter fun e => c.b (Reg.YUL_MAP_0_EN e)
  let one := es.any fun e =>
    let st := c.f (Reg.YUL_MAP_0_STN e)
    let out := c.b (Reg.YUL_MAP_0_DIR e)
    let len := if out then c.f (Reg.YUL_ST_CFG_OUTLEN st) else c.f (Reg.YUL_ST_CFG_INLEN st)
    let sp := c.mapSpan e
    let ty := c.f (Reg.YUL_MAP_0_TYPE e)
    decide (ty > 5 ∨ sp.1 + sp.2 > 8 * len) ||
      (ty == 5 && (out || decide (8 * 2 ^ c.f Reg.BLK_BASE_NSEL % 2 ^ c.f (Reg.YUL_MAP_1_DSEL e) ≠ 0 ∨ sp.2 = 0)))
  let outs := es.filter fun e => c.b (Reg.YUL_MAP_0_DIR e)
  let lap := outs.any fun x => outs.any fun y =>
    x != y && c.f (Reg.YUL_MAP_0_STN x) == c.f (Reg.YUL_MAP_0_STN y) &&
      decide ((c.mapSpan x).1 < (c.mapSpan y).1 + (c.mapSpan y).2 ∧ (c.mapSpan y).1 < (c.mapSpan x).1 + (c.mapSpan x).2)
  decide (c.ringBytes > 8960) || one || lap

/-- Step 7 of a configuration with the tile program records of all the sections that are fired, F's among them. -/
def step7 (c : Conf) (ts : List (Nat × Nat × Nat)) : Nat :=
  let nums := ts.map (·.1)
  if nums.any fun (t : Nat) => decide (nums.count t ≠ 1 ∨ ¬(t < 64 ∨ (0x100 ≤ t ∧ t < 0x110))) then 0x20
  else if ts.any fun t => decide (t.2.1 > 100) then 0x21
  else if ts.any fun t => t.2.2 &&& (Config.reservedLanes % 2 ^ 128) != 0 then 0x22
  else if c.macs 2 > 6000000000 ∨ c.macs 1 > 3000000000 ∨ c.macs 0 > 1500000000 then 0x23
  else if c.mapBad then 0x24
  else 0

end Sys2Proof.Machine
end

