-- ==== Sys2Proof/Machine/Capture.lean ====
section
/-!
DEFINITION. The acquisition unit (11): items on one timeline, trigger units, captures, reduction engines, records, the trigger
bus.
-/
namespace Sys2Proof.Machine

/-! ### Entries -/

/-- A trigger unit at reset. -/
def tuZero : TuSt := ⟨0, 0, 0, 0, 0, 0, [], none, none, 0⟩

/-- A capture or engine at reset. -/
def recZero : RecSt := RecSt.reset

/-- Entries and changes of them. -/
def State.tuOf (s : State) (n : Nat) : TuSt := s.acq.tu.getD n tuZero
def State.capOf (s : State) (j : Nat) : RecSt := s.acq.cap.getD j recZero
def State.rdOf (s : State) (k : Nat) : RecSt := s.acq.rd.getD k recZero
def State.setTu (s : State) (n : Nat) (f : TuSt → TuSt) : State := { s with acq := { s.acq with tu := upd s.acq.tu n f } }
def State.setCap (s : State) (j : Nat) (f : RecSt → RecSt) : State := { s with acq := { s.acq with cap := upd s.acq.cap j f } }
def State.setRd (s : State) (k : Nat) (f : RecSt → RecSt) : State := { s with acq := { s.acq with rd := upd s.acq.rd k f } }

/-- Source identifiers of a capture and a trigger unit (R515). -/
def capSrc (j : Nat) : Nat := srcId 0x40 j

/-- States of ACQ_Cj_STAT.STATE. -/
def cIdle : Nat := 0
def cArmed : Nat := 1
def cTrig : Nat := 2
def cDone : Nat := 3
def cFull : Nat := 4
def cStopped : Nat := 5

/-- State of a capture, of an engine. -/
def State.capSt (s : State) (j : Nat) : Nat := s.getF (Reg.ACQ_C_STAT_STATE j)
def State.rdSt (s : State) (k : Nat) : Nat := s.getF (Reg.ACQ_RD_STAT_STATE k)

/-- A capture that takes frames. -/
def State.capLive (s : State) (j : Nat) : Bool := s.capSt j == cArmed || s.capSt j == cTrig

/-- The engines configured for a capture (R364). -/
def State.engines (s : State) (j : Nat) : List Nat :=
  (List.range 5).filter fun k => s.flag (Reg.ACQ_RD_CFG_EN k) && s.getF (Reg.ACQ_RD_CFG_CAP k) == j

/-! ### Sizes and rates (R341, R355, R356, R364, R367) -/

/-- The channels of a capture, ascending. -/
def State.capChs (s : State) (j : Nat) : List Nat := bitList 64 (s.rd (Reg.ACQ_C_CH_LO j) + s.rd (Reg.ACQ_C_CH_HI j) * 2 ^ 32)

/-- Source kind of a capture. -/
def State.capKind (s : State) (j : Nat) : Nat := s.getF (Reg.ACQ_C_CFG_KIND j)

/-- Analogue channels with a descriptor (R373). -/
def State.capAnalog (s : State) (j : Nat) : List Nat :=
  if s.capKind j ∈ [0, 1, 2, 4] then s.capChs j else []

/-- Bytes of a frame (R341). -/
def State.frameBytes (s : State) (j : Nat) : Nat :=
  let n := (s.capChs j).length
  let d := if s.flag (Reg.ACQ_C_CFG_DIG j) then 4 else 0
  match s.capKind j with
  | 0 | 1 | 4 => 4 * n + d
  | 2 => 20 + 4 * s.gridN (s.getF (Reg.ACQ_C_CFG_UNIT j)) * n
  | 3 => 20 + 14 * 12
  | 5 => 32
  | _ => 4

/-- Stream mode (R359). -/
def State.isStream (s : State) (j : Nat) : Bool := s.flag (Reg.ACQ_C_CFG_MODE j)

/-- Segments of a capture (R355). -/
def State.segs (s : State) (j : Nat) : Nat := if s.isStream j then 1 else max 1 (s.getF (Reg.ACQ_C_CFG_SEG j))

/-- Bytes of a segment of an area of SIZE bytes (R355). -/
def segBytes (size segs : Nat) : Nat := size / segs / 4096 * 4096

/-- Bytes of the data area of a capture's segment. -/
def State.dataLen (s : State) (j : Nat) : Nat :=
  segBytes (s.rd (Reg.ACQ_C_SIZE j)) (s.segs j) - 128 - 16 * (s.capAnalog j).length

/-- Capacity of a capture in frames (ACQ_Cj_CAP, R355). -/
def State.capacity (s : State) (j : Nat) : Nat := s.dataLen j / max 1 (s.frameBytes j)

/-- The channels an engine reduces: all of its capture, or the first 16 for the AK720 layout (R367). -/
def State.rdChs (s : State) (k : Nat) : List Nat :=
  let c := s.capChs (s.getF (Reg.ACQ_RD_CFG_CAP k))
  if s.getF (Reg.ACQ_RD_CFG_TYPE k) = 4 then c.take 16 else c

/-- Bytes of a reduced frame (R364, R367). -/
def State.rdBytes (s : State) (k : Nat) : Nat :=
  let n := (s.rdChs k).length
  match s.getF (Reg.ACQ_RD_CFG_TYPE k) with
  | 0 => 8 * n
  | 4 => (16 + 4 * n + 15) / 16 * 16
  | _ => 4 * n

/-- Bytes of the data area of an engine's segment. -/
def State.rdLen (s : State) (k : Nat) : Nat :=
  segBytes (s.rd (Reg.ACQ_RD_SIZE k)) (s.segs (s.getF (Reg.ACQ_RD_CFG_CAP k))) - 128 - 16 * (s.rdChs k).length

/-- Capacity of an engine in spans. -/
def State.rdCapacity (s : State) (k : Nat) : Nat := s.rdLen k / max 1 (s.rdBytes k)

/-- Address of a capture's segment, of an engine's. -/
def State.segAddr (s : State) (j seg : Nat) : Nat :=
  s.getF (Reg.ACQ_C_BASE_ADDR j) * 4096 + seg * segBytes (s.rd (Reg.ACQ_C_SIZE j)) (s.segs j)
def State.rdAddr (s : State) (k seg : Nat) : Nat :=
  s.getF (Reg.ACQ_RD_BASE_ADDR k) * 4096 + seg * segBytes (s.rd (Reg.ACQ_RD_SIZE k)) (s.segs (s.getF (Reg.ACQ_RD_CFG_CAP k)))

/-- D of a capture's stage-B channels, 1 for the other kinds. -/
def State.capD (s : State) (j : Nat) : Nat :=
  if s.capKind j = 1 then s.profD (s.chProf ((s.capChs j).headD 0)) else 1

/-- Interleaved channels in a burst capture (R341). -/
def State.capIl (s : State) (j : Nat) : Bool := (s.capChs j).any fun n => s.chMode n == 1

/-- Write rate of a capture in B/s at nominal rates; the rate of events is not fixed and counts as none (log 22). -/
def State.capRate (s : State) (j : Nat) : Nat :=
  let nom := if s.flag Reg.ANG_CTL_NOM then 60 else 50
  let fb := s.frameBytes j
  match s.capKind j with
  | 0 | 6 => 256000 * fb
  | 1 => 256000 / s.capD j * fb
  | 2 => nom * fb
  | 3 => 16 * nom * fb
  | 4 => (if s.capIl j then 2000000 else 1000000) * fb
  | _ => 0

/-- Write rate of an engine in B/s. -/
def State.rdRate (s : State) (k : Nat) : Nat :=
  let j := s.getF (Reg.ACQ_RD_CFG_CAP k)
  s.capRate j / max 1 (s.frameBytes j) * s.rdBytes k / max 1 (s.rd (Reg.ACQ_RD_FACT k))

/-- Rate of a capture with its engines. -/
def State.rateOf (s : State) (j : Nat) : Nat := s.capRate j + ((s.engines j).map s.rdRate).foldl (· + ·) 0

/-- Rate of all captures that take frames. -/
def State.liveRate (s : State) : Nat := (((List.range 8).filter s.capLive).map s.rateOf).foldl (· + ·) 0

/-- ACQ_STAT and ACQ_BW follow the captures. -/
def State.acqSync (s : State) : State :=
  let m := fun (p : Nat → Bool) => (List.range 8).foldl (fun v j => v + b2n (p j) * 2 ^ j) 0
  let s := s.setF Reg.ACQ_STAT_ARMED (m fun j => s.capSt j == cArmed)
  let s := s.setF Reg.ACQ_STAT_TRIGD (m fun j => s.capSt j == cTrig)
  let s := s.setF Reg.ACQ_STAT_DONE (m fun j => s.capSt j == cDone || s.capSt j == cFull || s.capSt j == cStopped)
  s.wr Reg.ACQ_BW (openDivN s.liveRate 1000)

/-! ### Arming (R344, R356) -/

/-- Units armed now: enabled, and named by a capture that is ARMED (R344). -/
def State.tuWanted (s : State) (n : Nat) : Bool :=
  s.flag (Reg.ACQ_TU_CFG_EN n) && (List.range 8).any fun j =>
    s.capSt j == cArmed && (s.getF (Reg.ACQ_C_TMASK_UNITS j)).testBit n

/-- A record of a capture or of one of its engines has triggered and not ended. -/
def State.hitsOpen (s : State) (j : Nat) : Bool := s.capSt j == cTrig || (s.engines j).any fun k => s.rdSt k == cTrig

/-- Units evaluated: those armed, and those named by a capture with a triggered record, whose firings add to HITS (R351). A unit that
is neither has no hits for a qualifier either (R344, R349). -/
def State.tuLive (s : State) (n : Nat) : Bool :=
  s.flag (Reg.ACQ_TU_CFG_EN n) && (List.range 8).any fun j =>
    (s.capSt j == cArmed || s.hitsOpen j) && (s.getF (Reg.ACQ_C_TMASK_UNITS j)).testBit n

/-- A unit that passes to armed takes its parameters and clears hit state, counts and rearm flag (R344). -/
def State.tuSync (s : State) : State :=
  (List.range 16).foldl (fun (s : State) n =>
    let want := s.tuWanted n
    let was := s.flag (Reg.ACQ_TU_STAT_ARMED n)
    if want = was then s
    else if want then
      let t : TuSt := { tuZero with a := s.rd (Reg.ACQ_TU_A n), b := s.rd (Reg.ACQ_TU_B n), c := s.rd (Reg.ACQ_TU_C n),
                                    qual := s.rd (Reg.ACQ_TU_QUAL n), armedAt := s.tm.runt }
      (s.setTu n fun _ => t).wr (Reg.ACQ_TU_STAT n) (2 ^ 31)
    else s.setF (Reg.ACQ_TU_STAT_ARMED n) 0) s

/-- The free segment a capture would use next, if any: held segments follow one another from the oldest (R358). -/
def State.freeSeg (s : State) (j : Nat) : Option Nat :=
  let held := s.getF (Reg.ACQ_C_STAT_HELD j)
  if held < s.segs j then some ((s.getF (Reg.ACQ_C_STAT_OLDEST j) + held) % s.segs j) else none

/-- The checks of R356 in order: the code of the first that fails, with the engine concerned (7 the capture). -/
def State.armFails (s : State) (j : Nat) (state : Bool) : Option (Nat × Nat) :=
  let ring := !s.isStream j
  let pre := s.rd (Reg.ACQ_C_PRE j)
  let post := s.rd (Reg.ACQ_C_POST j)
  let cap := s.capacity j
  let es := s.engines j
  let postBad := es.find? fun k => decide (s.rd (Reg.ACQ_RD_POST k) > s.rdCapacity k)
  let spanBad := es.find? fun k => decide (s.rd (Reg.ACQ_RD_PRE k) + s.rd (Reg.ACQ_RD_POST k) > s.rdCapacity k)
  if !s.flag (Reg.ACQ_C_CFG_EN j) || !s.on secAcq then some (3, 7)
  else if state && s.capSt j != cIdle then some (5, 7)
  else if s.flag Reg.ACQ_STAT_SHED then some (6, 7)
  else if ring && (s.freeSeg j).isNone then some (7, 7)
  else if ring && decide (post > cap) then some (1, 7)
  else if ring && postBad.isSome then some (1, postBad.getD 7)
  else if decide ((if ring then pre + post else pre) > cap) then some (2, 7)
  else if ring && spanBad.isSome then some (2, spanBad.getD 7)
  else if decide (s.liveRate + s.rateOf j > 400000000) then some (4, 7)
  else none

/-- A capture and its engines start a record (R357, R364). -/
def State.armStart (s : State) (j : Nat) : State :=
  let seg := if s.isStream j then 0 else (s.freeSeg j).getD 0
  let r := s.capOf j
  let ratios := (s.capAnalog j).map fun n => s.rd (Reg.AFE_CH_RATIO (n / 8) (n % 8))
  let s := s.setCap j fun _ => { recZero with pre := s.rd (Reg.ACQ_C_PRE j), post := s.rd (Reg.ACQ_C_POST j), seg := seg,
                                              epoch0 := s.epoch, seq := r.seq, ratios := ratios,
                                              endless := s.isStream j && decide (s.rd (Reg.ACQ_C_POST j) = 0) }
  let keep := s.rd (Reg.ACQ_C_STAT j) % 2 ^ 20
  let s := (s.wr (Reg.ACQ_C_STAT j) keep).setF (Reg.ACQ_C_STAT_STATE j) cArmed
  let s := (s.wr (Reg.ACQ_C_WRPTR j) 0).wr (Reg.ACQ_C_FRAMES j) 0
  let s := (s.engines j).foldl (fun (s : State) k =>
    let r := s.rdOf k
    let s := s.setRd k fun _ => { recZero with pre := s.rd (Reg.ACQ_RD_PRE k), post := s.rd (Reg.ACQ_RD_POST k), seg := seg,
                                               epoch0 := s.epoch, seq := r.seq, ratios := ratios,
                                               endless := s.isStream j && decide (s.rd (Reg.ACQ_RD_POST k) = 0) }
    (s.wr (Reg.ACQ_RD_STAT k) 0).setF (Reg.ACQ_RD_STAT_STATE k) cArmed) s
  (s.acqSync).tuSync

/-- Arm a capture, or refuse with ACQ_ERR (R356). -/
def State.arm (s : State) (j : Nat) (state : Bool) : State :=
  match s.armFails j state with
  | none => s.armStart j
  | some e =>
    (((s.setF Reg.ACQ_ERR_CODE e.1).setF Reg.ACQ_ERR_ENG e.2).setF Reg.ACQ_ERR_CAP j).irq .acq 3

/-! ### Records in DRAM (R372, R373) -/

/-- What the header of a record says beside its trigger: R372's fields of the capture or engine. -/
structure HdrInfo where
  rkind : Nat
  skind : Nat
  cap : Nat
  engine : Nat
  fb : Nat
  dyeDef : Nat
  period : Nat
  gridN : Nat
  digk : Nat
  rf : Nat
  chs : List Nat
  len : Nat
  capacity : Nat
  deriving DecidableEq, Repr

/-- Frame period of a capture in 2^−16 ns at the nominal increment (R372). -/
def State.capPeriod (s : State) (j : Nat) : Nat :=
  match s.capKind j with
  | 0 | 6 => 256000000
  | 1 => 256000000 * s.capD j
  | 4 => (if s.capIl j then 500 else 1000) * 2 ^ 16
  | _ => 0

/-- Header information of a capture. -/
def State.capInfo (s : State) (j : Nat) : HdrInfo :=
  let k := s.capKind j
  ⟨0, k, j, 0xFF, s.frameBytes j, 0, s.capPeriod j, if k = 2 then s.gridN (s.getF (Reg.ACQ_C_CFG_UNIT j)) else 0,
   if s.flag (Reg.ACQ_C_CFG_DIG j) then s.getF (Reg.ACQ_C_CFG_DIGK j) else 0xFF, 1, s.capAnalog j, s.dataLen j, s.capacity j⟩

/-- Header information of an engine. -/
def State.rdInfo (s : State) (k : Nat) : HdrInfo :=
  let j := s.getF (Reg.ACQ_RD_CFG_CAP k)
  let rf := s.rd (Reg.ACQ_RD_FACT k)
  ⟨if s.getF (Reg.ACQ_RD_CFG_TYPE k) = 4 then 2 else 1, s.capKind j, j, k, s.rdBytes k, 0, s.capPeriod j * rf, 0, 0xFF, rf,
   s.rdChs k, s.rdLen k, s.rdCapacity k⟩

/-- Index of the oldest frame still held. -/
def RecSt.oldest (r : RecSt) (cap : Nat) : Nat := r.frames - min r.frames cap

/-- Frame 0 of a record: PRE frames before the trigger frame as far as they are held; without a trigger the PRE newest. -/
def RecSt.frame0 (r : RecSt) (cap : Nat) : Nat :=
  match r.trig with
  | some t => max (r.oldest cap) (t.frame - r.pre)
  | none => max (r.oldest cap) (r.frames - r.pre)

/-- Frames stored in the record: up to POST from the trigger frame on, where POST bounds it. -/
def RecSt.stored (r : RecSt) (cap : Nat) : Nat :=
  let n := r.frames - r.frame0 cap
  match r.trig with
  | some t => if r.endless then n else min n (t.frame - r.frame0 cap + r.post)
  | none => n

/-- The pre-trigger part is shorter than PRE (R352, R357). -/
def RecSt.preShort (r : RecSt) (cap : Nat) : Bool :=
  match r.trig with
  | some t => t.early || decide (t.frame - r.frame0 cap < r.pre)
  | none => false

/-- Instant of a frame still held. -/
def RecSt.frameAt (r : RecSt) (i : Nat) : FrameAt := r.insts.getD (r.frames - 1 - i) ⟨0, 0, 0⟩

/-- The stream delay of R339 of a channel for a kind, in 0.1 ns. -/
def State.chDelay (s : State) (kind n : Nat) : Nat :=
  match kind with
  | 0 => if s.chMode n = 1 then 110000 else 135000
  | 4 => 7000 + 750 * s.tm.div
  | _ => Conf.groupDelay (fun o => s.rd o) n

/-- A channel descriptor (R373). -/
def State.chDesc (s : State) (kind n ratio : Nat) : List Byte :=
  leBytes 1 n ++ leBytes 1 (s.getF (Reg.AFE_CH_CFG_KIND (n / 8) (n % 8))) ++ leBytes 1 (s.chMode n) ++ leBytes 1 (s.chProf n) ++
    leBytes 4 ratio ++ leBytes 4 (s.chDelay kind n) ++ leBytes 1 (s.chDye n) ++ leBytes 3 0

/-- Bits 7:0 of DYE: the primary unit's, 0xF for a bus trigger. -/
def TrigRec.hdrDye (t : TrigRec) : Nat := if t.bus then 0xF else t.dye

/-- The 124 bytes of a header before its CRC (R372); `done` says that the record has ended. -/
def State.hdrBody (s : State) (h : HdrInfo) (r : RecSt) (done stopped shed starve : Bool) : List Byte :=
  let t := r.trig.getD ⟨0, false, 0, 0, 0, 0, false, false, 0, 0, 0, 0, 0, 0⟩
  let f0 := r.frame0 h.capacity
  let a0 := r.frameAt f0
  let flags := b2n r.trig.isSome + b2n (done && !stopped && !shed && r.ovf.isNone) * 2 + b2n (r.preShort h.capacity) * 4 +
    b2n r.ovf.isSome * 8 + b2n starve * 16 + b2n stopped * 32 + b2n t.forced * 64 + b2n t.bus * 128 + b2n r.epochChg * 256 +
    b2n shed * 512
  let map := h.chs.foldl (fun v n => v + 2 ^ n) 0
  leBytes 4 0x52514341 ++ leBytes 2 1 ++ leBytes 1 h.rkind ++ leBytes 1 h.skind ++ leBytes 1 h.cap ++ leBytes 1 h.engine ++
  leBytes 2 flags ++ leBytes 2 h.fb ++ leBytes 1 h.chs.length ++ leBytes 1 t.hdrDye ++ leBytes 4 h.period ++ leBytes 2 h.gridN ++
  leBytes 1 h.digk ++ leBytes 1 t.trk ++ leBytes 4 h.rf ++ leBytes 4 r.pre ++ leBytes 4 r.post ++
  leBytes 4 (r.stored h.capacity) ++ leBytes 4 (t.frame - f0) ++
  leBytes 4 (match r.ovf with | some o => o | none => 0xFFFFFFFF) ++ leBytes 4 (f0 % max 1 h.capacity * h.fb) ++ leBytes 4 h.len ++
  leBytes 2 t.fired ++ leBytes 2 t.hits ++ leBytes 1 t.primary ++ leBytes 1 r.busin ++ leBytes 1 t.epoch ++ leBytes 1 0 ++
  leBytes 12 (twPack t.tw) ++ leBytes 4 t.angle ++ leBytes 4 t.cycle ++ leBytes 12 (twPack a0.tw) ++
  leBytes 8 (if h.skind = 0 ∨ h.skind = 1 ∨ h.skind = 6 then a0.k else 0) ++ leBytes 8 map ++
  leBytes 4 (s.rd Reg.KLN_MSTAMP_1) ++ leBytes 4 r.seq ++ leBytes 4 0

/-- Write a record's header and its channel descriptors. -/
def State.putHdr (s : State) (addr : Nat) (h : HdrInfo) (r : RecSt) (done stopped shed starve : Bool) : State :=
  let b := s.hdrBody h r done stopped shed starve
  let d := (h.chs.zip r.ratios).flatMap fun p => s.chDesc h.skind p.1 p.2
  s.dramWr addr (b ++ leBytes 4 (crc32 b) ++ d)

/-- The header of a capture's record. -/
def State.capHdr (s : State) (j : Nat) (done stopped shed starve : Bool) : State :=
  s.putHdr (s.segAddr j (s.capOf j).seg) (s.capInfo j) (s.capOf j) done stopped shed starve

/-- The header of an engine's record. -/
def State.rdHdr (s : State) (k : Nat) (done stopped shed starve : Bool) : State :=
  s.putHdr (s.rdAddr k (s.rdOf k).seg) (s.rdInfo k) (s.rdOf k) done stopped shed starve

/-! ### The end of a record (R353, R357–R362, R366) -/

/-- An engine's record ends in a state. -/
def State.rdEnd (s : State) (k st : Nat) (shed starve : Bool) : State :=
  if !(s.rdSt k == cArmed || s.rdSt k == cTrig) then s else
  let s := s.setRd k fun r => if r.trig.isNone then { r with seq := (s.capOf (s.getF (Reg.ACQ_RD_CFG_CAP k))).seq } else r
  let s := s.rdHdr k true (decide (st = cStopped) && !shed && (s.rdOf k).ovf.isNone) shed starve
  let s := (s.setF (Reg.ACQ_RD_STAT_STATE k) st).setB (Reg.ACQ_RD_STAT_PRE_SHORT k) ((s.rdOf k).preShort (s.rdCapacity k))
  (s.irq .acq 1).emitOpen (capSrc (s.getF (Reg.ACQ_RD_CFG_CAP k))) 0x4003 3

/-- All records of a capture's segment have ended. -/
def State.allEnded (s : State) (j : Nat) : Bool := !s.capLive j && (s.engines j).all fun k => !(s.rdSt k == cArmed || s.rdSt k == cTrig)

/-- When every record of the segment has ended: with AUTO the capture re-arms in the following fc, or is FULL (R358, R366). -/
def State.rearm (s : State) (j : Nat) : State :=
  if s.capSt j == cDone && s.allEnded j && s.flag (Reg.ACQ_C_CFG_AUTO j) && !s.isStream j && (s.capOf j).again.isNone then
    if (s.freeSeg j).isSome then s.setCap j fun r => { r with again := some (s.tm.fc + 1) }
    else ((s.setF (Reg.ACQ_C_STAT_STATE j) cFull).acqSync).irq .acq 4
  else s

/-- The captures that re-arm in this fc (R358). -/
def State.rearmTick (s : State) : State :=
  (List.range 8).foldl (fun (s : State) j =>
    if (s.capOf j).again.any fun fc => decide (fc ≤ s.tm.fc) then
      let s := s.setCap j fun r => { r with again := none }
      if s.capLive j || s.capSt j == cStopped then s
      else
        let s := if s.capSt j == cFull then s.setF (Reg.ACQ_C_STAT_STATE j) cDone else s
        s.arm j false
    else s) s

/-- A capture's record ends in a state; its segment is held. -/
def State.capEnd (s : State) (j st : Nat) (shed starve : Bool) : State :=
  if !s.capLive j then s else
  let r := s.capOf j
  let stopped := decide (st = cStopped) && !shed && r.ovf.isNone
  let s := if r.trig.isNone then s.setCap j fun r => { r with seq := (r.seq + 1) % 2 ^ 32 } else s
  let s := s.capHdr j true stopped shed starve
  let r := s.capOf j
  let s := (s.setF (Reg.ACQ_C_STAT_STATE j) st).setB (Reg.ACQ_C_STAT_PRE_SHORT j) (r.preShort (s.capacity j))
  let s := (s.wr (Reg.ACQ_C_FRAMES j) (r.stored (s.capacity j))).wr (Reg.ACQ_C_SEQ j) r.seq
  let s := s.setF (Reg.ACQ_C_STAT_HELD j) (min (s.segs j) (s.getF (Reg.ACQ_C_STAT_HELD j) + 1))
  let s := (s.irq .acq 1).emitOpen (capSrc j) 0x4003 3
  (s.acqSync).tuSync

/-- The record of a capture with those of its engines stops (R362). -/
def State.capStop (s : State) (j : Nat) (shed : Bool) : State :=
  if !s.capLive j then s else
  let s := s.capEnd j cStopped shed false
  (s.engines j).foldl (fun (s : State) k => s.rdEnd k cStopped shed false) s

/-- Whether a record has its POST frames; in stream mode POST 0 stands for no end (R359; for an engine DEDUCED, log 229). -/
def RecSt.full (r : RecSt) : Bool :=
  match r.trig with
  | some t => !r.endless && decide (r.frames ≥ t.frame + r.post)
  | none => false

/-- CAPTURE_RECORD_END (R353, R357, R358, R366): the records of capture j and of its engines that have their POST frames. -/
def execCaptureRecordEnd (j : Nat) (s : State) : Out := s.only (decide (j < 8)) <|
  let s := if s.capSt j == cTrig && (s.capOf j).full then s.capEnd j cDone false false else s
  let s := (s.engines j).foldl (fun (s : State) k =>
    if s.rdSt k == cTrig && (s.rdOf k).full then s.rdEnd k cDone false false else s) s
  .next (s.rearm j)

/-- A capture overflows or starves (R360). -/
def State.capOverflow (s : State) (j : Nat) (starve : Bool) : State :=
  let r := s.capOf j
  let o := r.frames - r.frame0 (s.capacity j)
  let s := s.setCap j fun r => { r with ovf := some o }
  let s := (s.setF (Reg.ACQ_C_STAT_OVF j) 1).setB (Reg.ACQ_C_STAT_STARVE j) starve
  let s := (s.capEnd j cStopped false starve).irq .acq 2
  let s := (s.engines j).foldl (fun (s : State) k =>
    let x := s.rdOf k
    let s := s.setRd k fun r => { r with ovf := some (x.frames - x.frame0 (s.rdCapacity k)) }
    let s := (s.setF (Reg.ACQ_RD_STAT_OVF k) 1).setB (Reg.ACQ_RD_STAT_STARVE k) starve
    s.rdEnd k cStopped false starve) s
  s.emit (capSrc j) 0x4001 1 (Config.evValue [j, b2n starve, o])

/-! ### Reduction engines (R364–R367) -/

/-- ⌊√x⌉ of a quotient of natural numbers. -/
def roundSqrt (a b : Nat) : Nat := ((4 * a / max 1 b).sqrt + 1) / 2

/-- The values of a channel's words in a span that are not STALE, and the flags and values reduced (R364, R365). -/
def reduceCh (ty dye : Nat) (xs : List Sample) : List Nat :=
  let ok := (xs.filter fun x => !x.stale).map (·.value)
  let n := ok.length
  let w := fun (v : Int) => (Sample.mk v dye (xs.any (·.uns)) (xs.any (·.ovr)) (xs.any (·.sub)) (xs.any (·.stale))).word
  match ok with
  | [] => if ty = 0 then [w 0, w 0] else [w 0]
  | v :: t =>
    match ty with
    | 0 => [w (t.foldl min v), w (t.foldl max v)]
    | 1 => [w (roundAway (ok.foldl (· + ·) 0) n)]
    | 2 => [w (roundSqrt (ok.foldl (fun a x => a + x.natAbs * x.natAbs) 0) n : Nat)]
    | _ => [w v]

/-- The AK720 block of a span (R367). -/
def ak720 (idx : Nat) (at_ : FrameAt) (dye : Nat) (holds : Bool) (chs : List (List Sample)) (len : Nat) : List Byte :=
  let all := chs.flatten
  let flags := b2n (all.any (·.ovr)) + b2n (all.any (·.sub)) * 2 + b2n (all.any (·.stale)) * 4 + b2n (all.any (·.uns)) * 8 + b2n holds * 16
  let t := twPack at_.tw
  let pair := fun (xs : List Sample) =>
    match (xs.filter fun x => !x.stale).map (·.value) with
    | [] => leBytes 4 0
    | v :: r =>
      let mx : Int := -((-(r.foldl max v)) / 256)
      leBytes 2 (ofSigned 16 ((r.foldl min v) / 256)) ++ leBytes 2 (ofSigned 16 (min 32767 mx))
  let b := leBytes 4 idx ++ leBytes 4 (t / 2 ^ 48) ++ leBytes 4 (t / 2 ^ 16 % 2 ^ 32) ++ leBytes 2 chs.length ++ leBytes 1 flags ++
    leBytes 1 (dye % 16) ++ chs.flatMap pair
  b ++ List.replicate (len - b.length) 0

/-- The bytes of a reduced frame from the frames of its span. -/
def State.rdFrame (s : State) (k idx : Nat) (holds : Bool) (span : List (FrameAt × List Nat)) : List Byte :=
  let ty := s.getF (Reg.ACQ_RD_CFG_TYPE k)
  let dye := s.getF (Reg.ACQ_RD_CFG_DYE k)
  let n := (s.rdChs k).length
  let chs := (List.range n).map fun c => span.map fun f => sampleOf (f.2.getD c 0)
  if ty = 4 then ak720 idx ((span.head?.map Prod.fst).getD ⟨0, 0, 0⟩) dye holds chs (s.rdBytes k)
  else chs.flatMap fun xs => (reduceCh ty dye xs).flatMap (leBytes 4)

/-- Address of a frame of an engine's record. -/
def State.rdFrameAddr (s : State) (k idx : Nat) : Nat :=
  s.rdAddr k (s.rdOf k).seg + 128 + 16 * (s.rdChs k).length + idx % max 1 (s.rdCapacity k) * s.rdBytes k

/-- A frame of the capture enters the engine's span; a full span is written (R364, R366). -/
def State.rdTake (s : State) (k epoch : Nat) (f : FrameAt × List Nat) : State :=
  let r := s.rdOf k
  if !(s.rdSt k == cArmed || s.rdSt k == cTrig) || r.full then s else
  let span := r.span ++ [f]
  let s := s.setRd k fun r => { r with epochChg := r.epochChg || epoch != r.epoch0 }
  if span.length < s.rd (Reg.ACQ_RD_FACT k) then s.setRd k fun r => { r with span := span }
  else
    let cap := s.rdCapacity k
    let f0 := r.frame0 cap
    let holds := match r.trig with
      | some t => t.frame == r.frames
      | none => false
    let b := s.rdFrame k (r.frames - (if r.trig.isSome then f0 else 0)) holds span
    let s := s.dramWr (s.rdFrameAddr k r.frames) b
    let at_ := (span.head?.map Prod.fst).getD ⟨0, 0, 0⟩
    s.setRd k fun r => { r with span := [], frames := r.frames + 1, insts := (at_ :: r.insts).take (max 1 cap) }

/-- Once the trigger is known, INDEX and the trigger bit of AK720 blocks already written (R367). -/
def State.rdReindex (s : State) (k : Nat) : State :=
  let r := s.rdOf k
  if s.getF (Reg.ACQ_RD_CFG_TYPE k) ≠ 4 then s else
  let f0 := r.frame0 (s.rdCapacity k)
  (List.range (r.frames - f0)).foldl (fun (s : State) i =>
    let a := s.rdFrameAddr k (f0 + i)
    let fl := (Mem.rd s.dram (a + 14)).toNat
    let here := match r.trig with
      | some t => t.frame == f0 + i
      | none => false
    (s.dramWr a (leBytes 4 i)).dramWr (a + 14) (leBytes 1 (fl % 16 + b2n here * 16))) s

/-! ### Frames (R341, R342, R355, R359, R360) -/

/-- Store a frame of a capture: its instant, its bytes, its channel words for the engines. -/
def State.putFrame (s : State) (j : Nat) (at_ : FrameAt) (epoch : Nat) (bytes : List Byte) (words : List Nat) : State :=
  let r := s.capOf j
  let cap := max 1 (s.capacity j)
  let fb := s.frameBytes j
  let s :=
    if !s.capLive j || r.full then s
    else if s.isStream j && s.capSt j == cTrig && decide ((r.frames + 1) * fb > r.readTo + cap * fb) then s.capOverflow j false
    else
      let a := s.segAddr j r.seg + 128 + 16 * (s.capAnalog j).length + r.frames % cap * fb
      let s := s.dramWr a bytes
      let s := s.setCap j fun r => { r with frames := r.frames + 1, insts := (at_ :: r.insts).take cap,
                                            epochChg := r.epochChg || epoch != r.epoch0 }
      let s := s.wr (Reg.ACQ_C_WRPTR j) ((r.frames + 1) % cap * fb)
      s.wr (Reg.ACQ_C_FRAMES j) ((s.capOf j).stored cap)
  (s.engines j).foldl (fun (s : State) k => s.rdTake k epoch (at_, words)) s

/-- Words of the mask's channels, ascending. -/
def pickWords (chs : List Nat) (ws : List (Nat × Nat)) : List Nat := chs.map fun n => ((ws.find? fun w => w.1 == n).map Prod.snd).getD 0

/-- The DIG word of a frame (R341, R343). -/
def State.digBytes (s : State) (j inst : Nat) : List Byte :=
  if s.flag (Reg.ACQ_C_CFG_DIG j) then leBytes 4 (s.digAt inst (s.getF (Reg.ACQ_C_CFG_DIGK j)) (s.getF (Reg.ACQ_C_CFG_UNIT j))) else []

/-- A marker of R342. -/
def marker (tw cycle b16 epoch : Nat) : List Byte :=
  leBytes 12 (twPack tw) ++ leBytes 4 cycle ++ leBytes 1 b16 ++ leBytes 1 epoch ++ leBytes 2 0

/-- The stage-B items of one index that a capture is assembling, complete when every channel has come. -/
def State.takeB (s : State) (j i : Nat) (f : Feed) : State :=
  let same := (s.capOf j).cyc.filter fun g => match g.it with
    | .stageB _ i' _ => i' == i
    | _ => false
  let all := same ++ [f]
  let ws := all.flatMap fun g => match g.it with
    | .stageB _ _ w => w
    | _ => []
  if (s.capChs j).all fun n => ws.any fun w => w.1 == n then
    let w := pickWords (s.capChs j) ws
    (s.setCap j fun r => { r with cyc := [] }).putFrame j ⟨f.inst, f.tw, i⟩ f.epoch (w.flatMap (leBytes 4) ++ s.digBytes j f.inst) w
  else s.setCap j fun r => { r with cyc := all }

/-- The burst samples of one instant. -/
def State.takeBurst (s : State) (j : Nat) (f : Feed) : State :=
  let all := (s.capOf j).cyc.filter (fun g => g.inst == f.inst) ++ [f]
  let ws := all.filterMap fun g => match g.it with
    | .burst n w => some (n, w)
    | _ => none
  if (s.capChs j).all fun n => ws.any fun w => w.1 == n then
    let w := pickWords (s.capChs j) ws
    (s.setCap j fun r => { r with cyc := [] }).putFrame j ⟨f.inst, f.tw, 0⟩ f.epoch (w.flatMap (leBytes 4) ++ s.digBytes j f.inst) w
  else s.setCap j fun r => { r with cyc := all }

/-- The grid samples of one cycle (R341, R342): a frame when sample N − 1 completes a cycle seen from sample 0. -/
def State.takeGrid (s : State) (j g k : Nat) (f : Feed) : State :=
  let old := if k = 0 then [] else (s.capOf j).cyc.filter fun x => x.cycle == f.cycle
  let all := old ++ [f]
  let n := s.gridN g
  if k + 1 = n ∧ all.length = n then
    let h := all.headD f
    let words := fun (x : Feed) => match x.it with
      | .grid _ _ w => w
      | _ => []
    let b := (s.capChs j).flatMap fun c => all.flatMap fun x => leBytes 4 ((pickWords [c] (words x)).headD 0)
    (s.setCap j fun r => { r with cyc := [] }).putFrame j ⟨h.inst, h.tw, 0⟩ h.epoch (marker h.tw h.cycle h.trk h.epoch ++ b) []
  else s.setCap j fun r => { r with cyc := all }

/-- An item as a frame, or part of a frame, of a capture (R341). -/
def State.capTake (s : State) (j : Nat) (f : Feed) : State :=
  let busy := s.capLive j || (s.engines j).any fun k => s.rdSt k == cTrig
  if !busy then s else
  match s.capKind j, f.it with
  | 0, .stageA il k ws =>
    let chs := s.capChs j
    if il != (chs.all s.isIl && !chs.isEmpty) then s
    else
      let w := chs.map fun n => ws.getD n 0
      s.putFrame j ⟨f.inst, f.tw, k⟩ f.epoch (w.flatMap (leBytes 4) ++ s.digBytes j f.inst) w
  | 6, .stageA false k _ =>
    s.putFrame j ⟨f.inst, f.tw, k⟩ f.epoch
      (leBytes 4 (s.digAt f.inst (s.getF (Reg.ACQ_C_CFG_DIGK j)) (s.getF (Reg.ACQ_C_CFG_UNIT j)))) []
  | 1, .stageB _ i ws => if ws.any fun w => decide (w.1 ∈ s.capChs j) then s.takeB j i f else s
  | 2, .grid g k _ => if g = s.getF (Reg.ACQ_C_CFG_UNIT j) then s.takeGrid j g k f else s
  | 3, .phasor g u ws =>
    if g = s.getF (Reg.ACQ_C_CFG_UNIT j) then
      s.putFrame j ⟨f.inst, f.tw, 0⟩ f.epoch (marker f.tw f.cycle u f.epoch ++ ws.flatMap (leBytes 4)) []
    else s
  | 4, .burst n _ => if n ∈ s.capChs j then s.takeBurst j f else s
  | 5, .event e =>
    if (s.getF (Reg.ACQ_C_CFG_UNIT j)).testBit e.cls then s.putFrame j ⟨f.inst, f.tw, 0⟩ f.epoch e.bytes [] else s
  | _, _ => s

/-! ### Trigger units (R345–R350) -/

/-- The level condition and the rearm condition (R346). -/
def levelMet (dir : Nat) (a v : Int) : Bool := match dir with
  | 0 => decide (v ≥ a)
  | 1 => decide (v ≤ a)
  | _ => decide ((v.natAbs : Int) ≥ a)
def rearmMet (dir : Nat) (b v : Int) : Bool := match dir with
  | 0 => decide (v < b)
  | 1 => decide (v > b)
  | _ => decide ((v.natAbs : Int) < b)

/-- LEVEL (R346): the hit and the rearm flag. -/
def hitLevel (dir : Nat) (a b v : Int) (re : Bool) : Bool × Bool :=
  if re && levelMet dir a v then (true, false) else (false, re || rearmMet dir b v)

/-- WIDTH (R346): the hit and the length of the pulse. -/
def hitWidth (dir sub c : Nat) (a v : Int) (run : Nat) : Bool × Nat :=
  let wmax := bits c 31 16
  let wmin := bits c 15 0
  if levelMet dir a v then (sub = 1 && run + 1 == wmax + 1, run + 1)
  else (decide (0 < run) && ((sub == 0 && decide (wmin ≤ run ∧ run ≤ wmax)) || (sub == 2 && decide (run < wmin))), 0)

/-- One side of RUNT: 0 outside, 1 past the first level, 2 past both; the hit is the way back from 1. -/
def runtSide (first second : Bool) (st : Nat) : Bool × Nat :=
  if first then (false, if second ∨ st = 2 then 2 else 1) else (st == 1, 0)

/-- SLEW (R346): the hit and the rearm flag, from the value K samples back. -/
def hitSlew (dir : Nat) (a b : Int) (d : Option Int) (re : Bool) : Bool × Bool :=
  match d with
  | none => (false, re)
  | some d =>
    let met := match dir with
      | 0 => decide (d ≥ a)
      | 1 => decide (d ≤ -a)
      | _ => decide ((d.natAbs : Int) ≥ a)
    if re && met then (true, false) else (false, re || decide ((d.natAbs : Int) < b))

/-- One sample at a unit of kinds 0–4 (R346–R348): hit, unit, rearm flag. -/
def tuSample (ty dir sub : Nat) (t : TuSt) (re : Bool) (v : Int) (stale : Bool) : Bool × TuSt × Bool :=
  let a := toSigned 32 t.a
  let b := toSigned 32 t.b
  if stale then
    (false, { t with run := if ty = 4 then t.run else 0, cnt := if ty = 4 then t.cnt + 1 else 0, hist := [] }, re)
  else match ty with
    | 1 =>
      let h := hitLevel dir a b v re
      (h.1, t, h.2)
    | 2 =>
      let h := hitWidth dir sub t.c a v t.run
      (h.1, { t with run := h.2 }, re)
    | 3 =>
      let up := runtSide (decide (v ≥ b)) (decide (v ≥ a)) t.run
      let dn := runtSide (decide (v ≤ a)) (decide (v ≤ b)) t.cnt
      ((dir != 1 && up.1) || (dir != 0 && dn.1), { t with run := up.2, cnt := dn.2 }, re)
    | 4 =>
      let q := hitLevel dir a a v re
      if q.1 then (false, { t with cnt := 0 }, q.2)
      else (t.cnt + 1 == t.c, { t with cnt := t.cnt + 1 }, q.2)
    | 5 =>
      let k := bits t.c 7 0
      let h := hitSlew dir a b ((t.hist[k - 1]?).map fun o => v - o) re
      (h.1, { t with hist := (v :: t.hist).take 255 }, h.2)
    | _ => (false, t, re)

/-- One digital word at a unit of kind 6 (R346). -/
def tuWord (ty dir : Nat) (t : TuSt) (w : Nat) : Bool × TuSt :=
  let m := decide (w &&& t.b = t.a &&& t.b)
  let rise := m && t.pat == some false
  let fall := !m && t.pat == some true
  if ty = 6 then ((dir != 1 && rise) || (dir != 0 && fall), { t with pat := some m })
  else if ty = 4 then
    if m && t.pat != some true then (false, { t with pat := some m, cnt := 0 })
    else (t.cnt + 1 == t.c, { t with pat := some m, cnt := t.cnt + 1 })
  else (false, t)

/-- An event at an EVENT unit (R346). -/
def tuEvent (t : TuSt) (e : EvRec) : Bool :=
  let cm := bits t.a 15 0
  let sm := bits t.b 15 0
  (bits t.c 3 0).testBit e.cls && (!e.grout || t.c.testBit 4) && decide (e.code &&& cm = bits t.a 31 16 &&& cm) &&
    decide (e.src &&& sm = bits t.b 31 16 &&& sm)

/-- The magnitude of a phasor quantity on the pin scale, saturated (R345), and its STALE flag; the fraction's rounding is open. -/
def phasorMag (ws : List Nat) (q : Nat) : Int × Bool :=
  let m : Nat := ws.getD (3 * q) 0 + bits (ws.getD (3 * q + 1) 0) 31 24 * 2 ^ 32
  (min maxVal (openDiv (m : Nat) 256), bit (ws.getD (3 * q + 1) 0) 0)

/-- One item at a trigger unit: whether it hits (R345, R346). -/
def State.tuTake (s : State) (n : Nat) (f : Feed) : Bool × State :=
  let ty := s.getF (Reg.ACQ_TU_CFG_TYPE n)
  let dir := s.getF (Reg.ACQ_TU_CFG_DIR n)
  let sub := s.getF (Reg.ACQ_TU_CFG_SUB n)
  let ch := s.getF (Reg.ACQ_TU_SRC_CH n)
  let unit := s.getF (Reg.ACQ_TU_SRC_UNIT n)
  let q := s.getF (Reg.ACQ_TU_SRC_SUBSEL n)
  let re := s.flag (Reg.ACQ_TU_STAT_REARMED n)
  let t := s.tuOf n
  let smp := fun (v : Int) (stale : Bool) =>
    let h := tuSample ty dir sub t re v stale
    (h.1, ((s.setTu n fun _ => h.2.1).setB (Reg.ACQ_TU_STAT_REARMED n) h.2.2).setB (Reg.ACQ_TU_STAT_HIT n) h.1)
  let word := fun (w : Nat) =>
    let x := sampleOf w
    smp x.value x.stale
  match s.getF (Reg.ACQ_TU_SRC_KIND n), f.it with
  | 0, .stageA il _ ws => if il = s.isIl ch then word (ws.getD ch 0) else (false, s)
  | 1, .stageB _ _ ws => match ws.find? fun w => w.1 == ch with
    | some w => word w.2
    | none => (false, s)
  | 2, .grid g _ ws => match (if g = unit then ws.find? fun w => w.1 == ch else none) with
    | some w => word w.2
    | none => (false, s)
  | 3, .phasor g _ ws => if g = unit then smp (phasorMag ws q).1 (phasorMag ws q).2 else (false, s)
  | 4, .burst m w => if m = ch then word w else (false, s)
  | 5, .event e => if ty = 7 then
      let h := tuEvent t e
      (h, s.setB (Reg.ACQ_TU_STAT_HIT n) h)
    else (false, s)
  | 6, .stageA false _ _ =>
    let h := tuWord ty dir t (s.digAt f.inst q unit)
    (h.1, (s.setTu n fun _ => h.2).setB (Reg.ACQ_TU_STAT_HIT n) h.1)
  | _, _ => (false, s)

/-- A hit passes its qualifier (R349); the hits of this fc are already noted. -/
def State.tuQualified (s : State) (n : Nat) : Bool :=
  let t := s.tuOf n
  let q := bits t.qual 19 16
  let win := match (s.tuOf q).hitAt with
    | some h => decide (s.tm.runt ≤ h + bits t.qual 15 0 * 1000 * 2 ^ 32)
    | none => false
  match bits t.qual 31 30 with
  | 0 => true
  | 1 => (s.tuOf q).hitAt.any fun h => decide (t.armedAt ≤ h)
  | 2 => win
  | _ => !win

/-- What a unit's firing in this fc is: the item, and whether a force made it. -/
structure Firing where
  unit : Nat
  at_ : Feed
  forced : Bool
  deriving DecidableEq, Repr

/-- The hits of a group of items, unit by unit. -/
def State.tuGroup (s : State) (items : List Feed) : List (Nat × Feed) × State :=
  ((List.range 16).filter s.tuLive).foldl (fun (acc : List (Nat × Feed) × State) n =>
    let r := items.foldl (fun (a : Option Feed × State) f =>
      let h := a.2.tuTake n f
      (if h.1 && a.1.isNone then some f else a.1, h.2)) (none, acc.2)
    match r.1 with
    | some f => (acc.1 ++ [(n, f)], r.2.setTu n fun t => { t with hitAt := some s.tm.runt })
    | none => (acc.1, r.2)) ([], s)

/-- The firings of a group: hits that pass their qualifier, and forces of armed units (R349, R350). -/
def State.firings (s : State) (hits : List (Nat × Feed)) (items : List Feed) : List Firing :=
  let byHit := (hits.filter fun h => s.tuQualified h.1).map fun h => Firing.mk h.1 h.2 false
  let byForce := items.flatMap fun f => match f.it with
    | .force u => (bitList 16 u).map fun n => Firing.mk n f true
    | _ => []
  byForce.foldl (fun (fs : List Firing) x => if fs.any fun y => y.unit == x.unit then fs else fs ++ [x]) byHit

/-! ### Triggering (R351–R353, R368, R369) -/

/-- The trigger frame for an instant (R352). -/
def RecSt.trigFrame (r : RecSt) (cap inst : Nat) (grid : Bool) : Nat :=
  let later := r.insts.countP fun f => if grid then decide (inst < f.inst) else decide (inst ≤ f.inst)
  let i := if grid then (if r.insts.isEmpty then r.frames else r.frames - 1 - later) else r.frames - later
  let open_ := grid && later == 0 && (r.cyc.any fun f => decide (f.inst ≤ inst))
  max (r.oldest cap) (if open_ then r.frames else i)

/-- A trigger instant lies before the oldest frame still held (R352). -/
def RecSt.trigEarly (r : RecSt) (inst : Nat) : Bool := r.insts.getLast?.any fun f => decide (inst < f.inst)

/-- A time word in 2^−16 ns rounded up to a multiple of 100 ns (R371). -/
def trcUp (t : Nat) : Nat :=
  let p := 100 * 2 ^ 16
  (t + p - 1) / p * p

/-- When a capture's line is to be asserted (R368, R369): with TRC driven, at a TRC edge. -/
def State.lineInstant (s : State) (tw : Nat) : Nat :=
  let d := tw + s.rd Reg.ACQ_BUS_LAT * 2 ^ 16
  let d := if d < s.tw + 200 * 2 ^ 16 then s.tw + 1 else d
  if s.getF Reg.ACQ_BUS_CTL_TRC = 2 then trcUp d else d

/-- A capture triggers (R351–R353). -/
def State.capTrigger (s : State) (j : Nat) (t : TrigRec) : State :=
  let grid := s.capKind j == 2
  let cap := max 1 (s.capacity j)
  let s := s.setCap j fun r => { r with trig := some { t with frame := r.trigFrame cap t.inst grid, early := r.trigEarly t.inst }, seq := (r.seq + 1) % 2 ^ 32 }
  let r := s.capOf j
  let fr := (r.trig.map (·.frame)).getD 0
  let s := (s.setF (Reg.ACQ_C_STAT_STATE j) cTrig).setB (Reg.ACQ_C_STAT_FORCED j) t.forced
  let s := (s.setB (Reg.ACQ_C_STAT_BUS j) t.bus).setB (Reg.ACQ_C_STAT_PRE_SHORT j) (r.preShort cap)
  let s := if s.isStream j then
      let f0 := r.frame0 cap
      (s.wr (Reg.ACQ_C_RDPTR j) (f0 % cap * s.frameBytes j)).setCap j fun r => { r with readTo := f0 * s.frameBytes j }
    else s
  let s := s.capHdr j false false false false
  let s := (s.engines j).foldl (fun (s : State) k =>
    let rf := max 1 (s.rd (Reg.ACQ_RD_FACT k))
    let s := s.setRd k fun x =>
      { x with trig := some { t with frame := max (x.oldest (s.rdCapacity k)) (fr / rf), early := decide (fr / rf < x.oldest (s.rdCapacity k)) },
               seq := r.seq }
    let s := s.setF (Reg.ACQ_RD_STAT_STATE k) cTrig
    (s.rdReindex k).rdHdr k false false false false) s
  let s := (s.irq .acq 0).emitAt s.tw s.angle s.epoch (capSrc j) 0x4002 2 (Config.evValue [t.fired, t.primary]) t.hdrDye
  let s := if s.flag (Reg.ACQ_C_CFG_BOEN j) && !t.bus then
      { s with acq := { s.acq with lineDue := s.acq.lineDue ++ [(s.getF (Reg.ACQ_C_CFG_BOLINE j), s.lineInstant t.tw)] } }
    else s
  s.acqSync

/-- The firings of a fc at one capture: a trigger, or further hits of its record (R351). -/
def State.capFire (s : State) (j : Nat) (fs : List Firing) : State :=
  let mine := fs.filter fun f => (s.getF (Reg.ACQ_C_TMASK_UNITS j)).testBit f.unit
  let mask := mine.foldl (fun v f => v ||| 2 ^ f.unit) 0
  let first := mine.foldl (fun (b : Option Firing) f => match b with
    | none => some f
    | some x => if f.unit < x.unit then some f else b) none
  match first with
  | none => s
  | some p =>
    if s.capSt j == cArmed then
      s.capTrigger j ⟨0, false, mask, mask, p.unit, s.getF (Reg.ACQ_TU_CFG_DYE p.unit), p.forced, false, p.at_.inst, p.at_.tw, p.at_.angle,
        p.at_.cycle, p.at_.epoch, p.at_.trk⟩
    else
      let add := fun (r : RecSt) => { r with trig := r.trig.map fun t => { t with hits := t.hits ||| mask } }
      let s := if s.capSt j == cTrig then s.setCap j add else s
      ((s.engines j).filter fun k => s.rdSt k == cTrig).foldl (fun (s : State) k => s.setRd k add) s

/-! ### Evaluation (R340) -/

/-- The fc, counted on the oscillator's scale, in which an instant lies. -/
def State.fcOf (s : State) (inst : Nat) : Nat := inst / (incNominal * s.tm.div)

/-- Whether ACQ_EVAL_DLY of run time has passed since an item's instant. -/
def State.itemDue (s : State) (f : Feed) : Bool :=
  decide (s.rd Reg.ACQ_EVAL_DLY * 2 ^ 32 ≤ s.span (s.tm.nom - f.inst))

/-- The items that are evaluated next: those due of the earliest fc. -/
def State.dueItems (s : State) : List Feed :=
  let due := s.acq.feed.filter s.itemDue
  match due.foldl (fun (m : Option Nat) f => some (match m with
      | none => s.fcOf f.inst
      | some x => min x (s.fcOf f.inst))) none with
  | none => []
  | some t => due.filter fun f => s.fcOf f.inst == t

/-- Evaluate and store the items of one fc (R340): trigger units, frames, firings; captures starved of DRAM stop (R360). -/
def State.acqEvaluate (s : State) (starved : Nat) : State :=
  let items := s.dueItems
  let s := { s with acq := { s.acq with feed := s.acq.feed.filter fun f => !items.contains f } }
  let h := s.tuGroup items
  let fs := h.2.firings h.1 items
  let s := fs.foldl (fun (s : State) f => s.count (Reg.ACQ_TU_CNT_FIRES f.unit)) h.2
  let s := (List.range 8).foldl (fun (s : State) j =>
    if starved.testBit j && s.capLive j && !items.isEmpty then s.capOverflow j true
    else items.foldl (fun (s : State) f => s.capTake j f) s) s
  let s := (List.range 8).foldl (fun (s : State) j => s.capFire j fs) s
  s.tuSync

/-- ACQ_ITEM_EVALUATE (R340); `starved` names the captures whose write buffer is full (R360). -/
def execAcqItemEvaluate (starved : Nat) (s : State) : Out := .next (s.acqEvaluate starved)

/-- The TMO-th sample of a TIMEOUT unit is among the items of the next fc (R348). -/
def State.timeoutDue (s : State) (n : Nat) : Bool :=
  s.tuLive n && s.getF (Reg.ACQ_TU_CFG_TYPE n) == 4 && s.dueItems.any fun f => (s.tuTake n f).1

/-- TRIGGER_TIMEOUT (R348): the items whose evaluation brings the TMO-th sample are evaluated, and the unit hits. -/
def execTriggerTimeout (n : Nat) (s : State) : Out := s.only (decide (n < 16)) <| if s.timeoutDue n then .next (s.acqEvaluate 0) else .next s

/-! ### Commands (R350, R356, R358, R361, R362) -/

/-- Force units: those armed in this fc (R350). -/
def State.acqForce (s : State) (units : Nat) : State :=
  let u := (List.range 16).foldl (fun v n => if units.testBit n && s.flag (Reg.ACQ_TU_STAT_ARMED n) then v + 2 ^ n else v) 0
  if u = 0 then s else
  { s with acq := { s.acq with feed := s.acq.feed ++ [⟨s.tm.nom, s.tw, s.angle, s.ang.cycle, s.epoch, s.getF Reg.ANG_STAT_STATE, .force u⟩] } }

/-- A write of ACQ_CMD (operate access): STOP, ARM, FORCE. -/
def State.acqCmd (s : State) (i : Iface) (v : Nat) : State :=
  if v % 2 ^ 32 = 0 then s else
  s.command i .operate fun s =>
    let s := (bitList 8 (bits v 15 8)).foldl (fun (s : State) j => s.capStop j false) s
    let s := (bitList 8 (bits v 7 0)).foldl (fun (s : State) j => s.arm j true) s
    s.acqForce (bits v 31 16)

/-- ACQ_ARM (R356). -/
def execAcqArm (ifc : Iface) (v : Word) (s : State) : Out := s.hostRow ifc <| .next (s.acqCmd ifc v.toNat)

/-- ACQ_STOP (R362). -/
def execAcqStop (ifc : Iface) (v : Word) (s : State) : Out := s.hostRow ifc <| .next (s.acqCmd ifc v.toNat)

/-- ACQ_FORCE (R350). -/
def execAcqForce (ifc : Iface) (v : Word) (s : State) : Out := s.hostRow ifc <| .next (s.acqCmd ifc v.toNat)

/-- Release the oldest held segment (R358, R366). -/
def State.acqRel (s : State) (i : Iface) (j v : Nat) : State :=
  if !v.testBit 0 then s else
  s.command i .operate fun s =>
    let held := s.getF (Reg.ACQ_C_STAT_HELD j)
    if held = 0 ∨ (held = 1 ∧ !s.allEnded j) then s else
    let s := s.setF (Reg.ACQ_C_STAT_OLDEST j) ((s.getF (Reg.ACQ_C_STAT_OLDEST j) + 1) % s.segs j)
    let s := s.setF (Reg.ACQ_C_STAT_HELD j) (held - 1)
    if s.capSt j == cFull then s.setCap j fun r => { r with again := some (r.again.getD (s.tm.fc + 1)) }
    else if (s.capOf j).again.isSome then s
    else if held = 1 && (s.capSt j == cDone || s.capSt j == cStopped) then
      let s := (s.engines j).foldl (fun (s : State) k => s.setF (Reg.ACQ_RD_STAT_STATE k) cIdle) s
      (s.setF (Reg.ACQ_C_STAT_STATE j) cIdle).acqSync
    else s

/-- ACQ_RELEASE (R358). -/
def execAcqRelease (ifc : Iface) (j : Nat) (v : Word) (s : State) : Out := s.only (decide (j < 8)) <| s.hostRow ifc <| .next (s.acqRel ifc j (v.toNat ||| 1))

/-- A write of ACQ_Cj_RDPTR: within the span of written, unread data, else ignored (R359, R361). -/
def State.acqRdptr (s : State) (i : Iface) (j v : Nat) : State :=
  s.command i .operate fun s =>
    let r := s.capOf j
    let fb := s.frameBytes j
    let len := max 1 (s.capacity j) * max 1 fb
    let adv := (v + len - s.rd (Reg.ACQ_C_RDPTR j) % len) % len
    let unread := r.frames * fb - r.readTo
    if s.isStream j && r.trig.isSome && decide (v < len) && decide (adv ≤ unread) then
      (s.wr (Reg.ACQ_C_RDPTR j) v).setCap j fun r => { r with readTo := r.readTo + adv }
    else s

/-- ACQ_RDPTR_WRITE (R361). -/
def execAcqRdptrWrite (ifc : Iface) (j : Nat) (v : Word) (s : State) : Out := s.only (decide (j < 8)) <| s.hostRow ifc <| .next (s.acqRdptr ifc j v.toNat)

/-- Every record in progress ends: shed, warm reset, refire, stop of the unit (R362). -/
def State.acqStopAll (s : State) (shed : Bool) : State :=
  let s := (List.range 8).foldl (fun (s : State) j =>
    let s := s.capStop j shed
    (s.engines j).foldl (fun (s : State) k => s.rdEnd k cStopped shed false) s) s
  { s with acq := { s.acq with feed := [], lineDue := [] } }

/-! ### The trigger bus (R368–R371) -/

/-- TRIGGER_BUS_ASSERT (R368, R369): a line whose instant has come, with TRC received at a TRC edge. -/
def execTriggerBusAssert (l : Nat) (s : State) : Out := s.only (decide (l < 8)) <|
  let edge := s.getF Reg.ACQ_BUS_CTL_TRC = 1 ∧ s.flag Reg.ACQ_BUS_STAT_TRC_OK
  let now := if edge then s.acq.trcAt.getD 0 else s.tw
  match s.acq.lineDue.find? fun d => d.1 == l && decide (d.2 ≤ now) with
  | some d =>
    let s := { s with acq := { s.acq with lineDue := s.acq.lineDue.erase d,
                                          lineAt := s.acq.lineAt.filter (fun (x : Nat × Nat) => x.1 != l) ++ [(l, s.tm.runt)] } }
    .next ((s.setBit Reg.ACQ_BUS_STAT_DRV l true).out (.busLine l true))
  | none => .next s

/-- TRIGGER_BUS_RELEASE (R368): 400 ns after the assertion. -/
def execTriggerBusRelease (l : Nat) (s : State) : Out := s.only (decide (l < 8)) <|
  match s.acq.lineAt.find? fun x => x.1 == l with
  | some x =>
    if s.expired x.2 400 then
      let s := { s with acq := { s.acq with lineAt := s.acq.lineAt.filter fun (x : Nat × Nat) => x.1 != l } }
      .next ((s.setBit Reg.ACQ_BUS_STAT_DRV l false).out (.busLine l false))
    else .next s
  | none => .next s

/-- The stamp of an edge (R370): the TRC edge at which the line was sampled high, or the fc. -/
def State.edgeStamp (s : State) : Nat :=
  let m := s.getF Reg.ACQ_BUS_CTL_TRC
  if m = 2 then s.tw / (100 * 2 ^ 16) * (100 * 2 ^ 16)
  else if m = 1 ∧ s.flag Reg.ACQ_BUS_STAT_TRC_OK then s.acq.trcAt.getD s.tw
  else s.tw

/-- TRIGGER_BUS_EDGE (R370): a rising edge on line l. -/
def execTriggerBusEdge (l : Nat) (s : State) : Out :=
  let recent := match s.acq.edgeAt.find? fun x => x.1 == l with
    | some x => !s.expired x.2 400
    | none => false
  if decide (l < 8) && s.on secAcq && (s.getF Reg.ACQ_BUS_CTL_RXEN).testBit l && !recent then
    let s := { s with acq := { s.acq with edgeAt := s.acq.edgeAt.filter (fun (x : Nat × Nat) => x.1 != l) ++ [(l, s.tm.runt)] } }
    let s := (s.raiseBit Reg.ACQ_BUS_STAT_SEEN l).irq .acq 5
    let tw := s.edgeStamp - s.rd Reg.ACQ_BUS_LAT * 2 ^ 16 - s.rd (Reg.ACQ_TRG_DLY l) * 2 ^ 8
    let p := s.posAt tw
    .next <| ((List.range 8).foldl (fun (s : State) j =>
      if !(s.getF (Reg.ACQ_C_TMASK_LINES j)).testBit l then s
      else
        let add := fun (r : RecSt) => { r with busin := r.busin ||| 2 ^ l }
        let s := if s.capLive j then s.setCap j add else s
        let s := ((s.engines j).filter fun k => s.rdSt k == cArmed || s.rdSt k == cTrig).foldl (fun (s : State) k => s.setRd k add) s
        if s.capSt j == cArmed then
          s.capTrigger j ⟨0, false, 0, 0, 0x10 + l, 0xF, false, true, s.instOf tw, tw, p % 2 ^ 32, p / 2 ^ 32, s.epoch, s.getF Reg.ANG_STAT_STATE⟩
        else s) s).tuSync
  else .next s

/-- TRC_EDGE_RX (R371): TRC_OK while edges arrive within 110 ns of each other. -/
def execTrcEdgeRx (s : State) : Out :=
  if s.getF Reg.ACQ_BUS_CTL_TRC = 1 then
    let ok := match s.acq.trcAt with
      | some t => decide (s.tw ≤ t + 110 * 2 ^ 16)
      | none => false
    .next ({ s with acq := { s.acq with trcAt := some s.tw } }.setB Reg.ACQ_BUS_STAT_TRC_OK ok)
  else .next s

/-- TRC_TIMEOUT (R371): no edge within 110 ns; one of the same fc wins (R66). -/
def execTrcTimeout (s : State) : Out :=
  match s.acq.trcAt with
  | some t => if s.tw > t + 110 * 2 ^ 16 ∧ !s.comes (fun c => c == .trcEdgeRx) then .next (s.setF Reg.ACQ_BUS_STAT_TRC_OK 0) else .next s
  | none => .next (s.setF Reg.ACQ_BUS_STAT_TRC_OK 0)

end Sys2Proof.Machine
end

