-- ==== Sys2Proof/Machine/Hkc.lean ====
section
/-!
DEFINITION. The housekeeping converter and its tagged queue (07).
-/
namespace Sys2Proof.Machine

/-- Change the converter's entry. -/
def State.setHkc (s : State) (f : HkcSt → HkcSt) : State := { s with hkc := f s.hkc }

/-- REQ_DEPTH and Q_DEPTH follow the queues, CONV_BUSY the conversion, CAL_WAIT a request that waits for it (R240). -/
def State.hkcSync (s : State) : State :=
  let s := (s.setF Reg.HKC_STAT_REQ_DEPTH s.hkc.held.length).setF Reg.HKC_STAT_Q_DEPTH s.hkc.q.length
  let s := s.setB Reg.HKC_STAT_CONV_BUSY s.hkc.cur.isSome
  s.setB Reg.HKC_STAT_CAL_WAIT (s.hkc.calReq.isSome && s.hkc.cur.isSome)

/-! ### Requests and conversions (R231–R238) -/

/-- A source is present (R230, R231): the taps with their AFE group, UFB with DIO group B. -/
def State.hkcPresent (s : State) (src : Nat) : Bool :=
  let afe := s.variant.pres % 256
  if src < 8 then afe.testBit src
  else if src = 19 then s.hasDioGrp 1
  else if src = 11 ∨ src = 20 then s.hasAo 0
  else decide (src ≤ 23)

/-- Settling interval of a source in ns (R233). -/
def hkcSettle (src : Nat) : Nat := if src < 8 then 4000 else 2000

/-- A conversion starts: settling first; its first sample is at the first CCLK edge after it (R24, R233, R236). -/
def State.hkcBegin (s : State) (r : HkcReq) : State :=
  let inst := (s.tm.nom + hkcSettle r.src * 2 ^ 32 + cclk - 1) / cclk * cclk
  let node := if r.src < 8 then s.rd (Reg.AFE_SENSE r.src) else 0
  s.setHkc fun h => { h with cur := some ⟨r, s.tm.runt, inst, node⟩ }

/-- The next held request may start in this fc: the converter is idle, and the last entry or calibration ended in an earlier fc
(R237, R240). -/
def State.hkcFree (s : State) : Bool :=
  s.hkc.cur.isNone && s.hkc.calReq.isNone && !s.flag Reg.HKC_STAT_CAL_BUSY && s.on secHkc && decide (s.hkc.freeFc < s.tm.fc)

/-- The oldest held request leaves its queue and starts. -/
def State.hkcNext (s : State) : State :=
  match s.hkc.held with
  | r :: t => (s.setHkc fun h => { h with held := t }).hkcBegin r
  | [] => s

/-- A write of HKC_SEL (R231, R232, R237, R238, R241; operate access). At a full queue the departure due in this fc counts first
(R238). -/
def State.hkcSel (s : State) (i : Iface) (v : Nat) : State :=
  s.command i .operate fun s =>
    let src := bits v 4 0
    if !s.on secHkc then s
    else if !s.hkcPresent src then s.raise Reg.HKC_STAT_SEL_ERR
    else
    let s := if s.hkc.held.length ≥ 8 && s.hkcFree then s.hkcNext else s
    if s.hkc.held.length ≥ 8 then ((s.raise Reg.HKC_STAT_REQ_LOST).count Reg.HKC_LOST_REQ).irq .hkc 2
    else
      let seq := (s.getF Reg.HKC_STAT_LAST_SEQ + 1) % 256
      let s := s.setF Reg.HKC_STAT_LAST_SEQ seq
      let r : HkcReq := ⟨seq, src, bits v 23 16, min 8 (bits v 11 8)⟩
      let calFirst := match s.hkc.calReq with
        | some fc => decide (fc ≠ s.tm.fc)
        | none => s.flag Reg.HKC_STAT_CAL_BUSY
      if s.hkc.cur.isSome || calFirst || !s.hkc.held.isEmpty then
        (s.setHkc fun h => { h with held := h.held ++ [r] }).hkcSync
      else (s.hkcBegin r).hkcSync

/-- HKC_SEL_WRITE (R232). -/
def execHkcSelWrite (ifc : Iface) (v : Word) (s : State) : Out := s.hostRow ifc <| .next (s.hkcSel ifc v.toNat)

/-- HKC_CONVERSION_START (R233, R237, R240). -/
def execHkcConversionStart (s : State) : Out :=
  if !s.hkc.held.isEmpty && s.hkcFree then .next s.hkcNext.hkcSync else .next s

/-- c of a raw code (R234). -/
def State.hkcCorr (s : State) (r : Nat) : Nat :=
  (clampI 0 65535 (roundAway (((r : Int) * 16 - s.getI Reg.HKC_CAL_OFS_OFS) * (s.rd Reg.HKC_CAL_GAIN : Int)) (2 ^ 22))).toNat

/-- VALUE (R235). -/
def hkcValue (shift sum : Nat) : Nat := if shift = 0 then sum else (sum + 2 ^ (shift - 1)) / 2 ^ shift

/-- An entry enters the tagged queue; at a full queue it waits for a removal in the same fc (R243). -/
def State.hkcPut (s : State) (e : HkcEntry) : State :=
  if s.hkc.q.length ≥ 64 then s.setHkc fun h => { h with late := some e }
  else
    let s := (s.setHkc fun h => { h with q := h.q ++ [e] }).hkcSync
    if s.hkc.q.length = s.getF Reg.HKC_CTL_THR then s.irq .hkc 0 else s

/-- The end of a fc: an entry that met a full queue is dropped (R243). -/
def State.hkcEnd (s : State) : State :=
  if s.hkc.late.isNone then s
  else (((s.setHkc fun h => { h with late := none }).raise Reg.HKC_STAT_Q_OVF).count Reg.HKC_LOST_ENTRY).irq .hkc 1

/-- HKC_ENTRY_WRITE (R233–R236, R243): the burst is over; its raw codes. The entry carries the time word and epoch that its first
sample's CCLK edge had (R24). -/
def execHkcEntryWrite (codes : List Nat) (s : State) : Out :=
  match s.hkc.cur with
  | some c =>
    if decide (codes.length = c.req.n + 1) && s.expired c.start (hkcSettle c.req.src + (c.req.n + 1) * 1000) then
      let raw := codes.map (· % 4096)
      let e : HkcEntry := ⟨c.req, s.epochAt c.inst, raw.any fun r => r == 0 || r == 4095, s.flag Reg.HKC_STAT_CAL_FAIL,
        hkcValue c.req.shift ((raw.map s.hkcCorr).foldl (· + ·) 0), s.twAt c.inst⟩
      .next ((s.setHkc fun h => { h with cur := none, freeFc := s.tm.fc }).hkcPut e).hkcSync
    else .next s
  | none => .next s

/-! ### Calibration (R239–R242) -/

/-- A calibration is requested; one that waits or runs already makes it ignored (R241). -/
def State.hkcCal (s : State) : State :=
  if !s.on secHkc || s.hkc.calReq.isSome || s.flag Reg.HKC_STAT_CAL_BUSY then s
  else (s.setHkc fun h => { h with calReq := some s.tm.fc }).hkcSync

/-- A write of HKC_CMD: CAL and FLUSH (R239, R247; operate access). -/
def State.hkcCmd (s : State) (i : Iface) (v : Nat) : State :=
  if v % 4 = 0 then s else
  s.command i .operate fun s =>
    let s := if v.testBit 0 then s.hkcCal else s
    if v.testBit 1 then (s.setHkc fun h => { h with q := [] }).hkcSync else s

/-- HKC_CAL_COMMAND (R239). -/
def execHkcCalCommand (ifc : Iface) (v : Word) (s : State) : Out := s.hostRow ifc <| .next (s.hkcCmd ifc (v.toNat ||| 1))

/-- HKC_FLUSH (R247). -/
def execHkcFlush (ifc : Iface) (v : Word) (s : State) : Out := s.hostRow ifc <| .next (s.hkcCmd ifc (v.toNat ||| 2))

/-- HKC_CAL_INTERVAL (R239). -/
def execHkcCalInterval (s : State) : Out :=
  let n := s.getF Reg.HKC_CTL_CAL_INT
  if decide (n ≠ 0) && s.expired s.hkc.lastCal (n * 1000000000) then .next s.hkcCal else .next s

/-- HKC_CAL_START (R240). -/
def execHkcCalStart (s : State) : Out :=
  if s.hkc.calReq.isSome && s.hkc.cur.isNone then
    .next ((s.setHkc fun h => { h with calReq := none }).hkcSync.setF Reg.HKC_STAT_CAL_BUSY 1)
  else .next s

/-- What a calibration measured: offset in 1/16 code, gain in Q10.22 (R242). -/
def State.hkcCalEnd (s : State) (ofs : Int) (gain : Nat) : State :=
  let s := (s.setF Reg.HKC_STAT_CAL_BUSY 0).setHkc fun h => { h with lastCal := s.tm.runt, freeFc := s.tm.fc }
  if ofs.natAbs ≤ 256 ∧ ((gain : Int) - 2 ^ 22).natAbs * 100 ≤ 2 ^ 22 then
    let s := (s.setI Reg.HKC_CAL_OFS_OFS ofs).wr Reg.HKC_CAL_GAIN gain
    let s := s.setHkc fun h => { h with lastPass := s.tm.runt }
    (s.setF Reg.HKC_STAT_CAL_FAIL 0).irq .hkc 3
  else
    let s := (s.setF Reg.HKC_STAT_CAL_FAIL 1).irq .hkc 4
    s.emitOpen (srcId 0x18 0) 0x1801 1

/-- HKC_CAL_DONE (R239, R242). -/
def execHkcCalDone (ofs : Int) (gain : Nat) (s : State) : Out :=
  if s.flag Reg.HKC_STAT_CAL_BUSY then .next (s.hkcCalEnd ofs gain) else .next s

/-- HKC_CAL_AGE: ms of run time since the last passing calibration. -/
def State.hkcAge (s : State) : Nat := min ((s.tm.runt - s.hkc.lastPass) / (1000000 * 2 ^ 32)) (2 ^ 32 - 1)

/-! ### The tagged queue (R244, R245) -/

/-- The five words of an entry (R245). -/
def HkcEntry.words (e : HkcEntry) : List Nat :=
  let t := twPack e.tw
  [e.req.src * 2 ^ 24 + e.epoch % 256 * 2 ^ 16 + e.req.shift * 2 ^ 12 + b2n e.ovr * 2 ^ 11 + b2n e.calf * 2 ^ 10 + e.req.n,
   e.req.seq * 2 ^ 24 + e.value % 2 ^ 24, t % 2 ^ 32, t / 2 ^ 32 % 2 ^ 32, t / 2 ^ 64 % 2 ^ 32]

/-- A read of HKC_Q_0 (R244). -/
def State.hkcRead (s : State) (i : Iface) : State :=
  match s.hkc.q with
  | [] => s.setSnap i Reg.HKC_Q_0 [0xFFFFFFFF]
  | e :: t =>
    let r := s.setHkc fun h => { h with q := t, late := none }
    let s := match s.hkc.late with
      | some l => r.hkcPut l
      | none => r
    s.hkcSync.setSnap i Reg.HKC_Q_0 e.words

/-- HKC_QUEUE_READ (R244). -/
def execHkcQueueRead (ifc : Iface) (s : State) : Out := s.readRow ifc Reg.HKC_Q_0 <|
  let s := s.hkcRead ifc
  .next (s.answer ifc Reg.HKC_Q_0 (((s.snapOf ifc Reg.HKC_Q_0).getD []).headD 0))

/-! ### Stop, shedding, warm reset (R246, R247) -/

/-- The converter stops or is shed: every request is abandoned and counted, a waiting calibration cancelled (R246). -/
def State.hkcStop (s : State) : State :=
  let n := s.hkc.held.length + b2n s.hkc.cur.isSome
  let s := s.setHkc fun h => { h with cur := none, held := [], calReq := none }
  let s := (s.setF Reg.HKC_STAT_CAL_BUSY 0).hkcSync
  if n = 0 then s else ((s.count Reg.HKC_LOST_REQ n).raise Reg.HKC_STAT_REQ_LOST).irq .hkc 2

/-- A warm reset empties both queues and abandons a conversion in progress. -/
def State.hkcWarm (s : State) : State :=
  (s.setHkc fun h => { h with cur := none, held := [], q := [], calReq := none, late := none }).hkcSync.setF Reg.HKC_STAT_CAL_BUSY 0

end Sys2Proof.Machine
end

