-- ==== Sys2Proof/Machine/Ao.lean ====
section
/-!
DEFINITION. The 4–20 mA current-loop outputs (18): codes, compliance, thermal states, watchdog, readback, trim.
-/
namespace Sys2Proof.Machine

/-- A channel's entry. -/
def State.ach (s : State) (n : Nat) : AoCh := s.ao.ch.getD n ⟨false, none, 0, 0, false, 0, 0, false, false, none⟩

/-- Change a channel's entry. -/
def State.setAch (s : State) (n : Nat) (f : AoCh → AoCh) : State := { s with ao := { s.ao with ch := upd s.ao.ch n f } }

/-- Source identifiers of a channel and of the unit. -/
def aoSrc (n : Nat) : Nat := srcId 0xB0 n

/-- The code of 3.6 mA, and of 21.0 mA. -/
def aoLow : Nat := 9830
def aoHigh : Nat := 57344

/-- The channel stands at its safe value: unit SAFE, or R573. -/
def State.aoSafe (s : State) (n : Nat) : Bool := s.flag Reg.AO_WST_SAFE || s.flag (Reg.AO_CH_STAT_RSAFE n)

/-- The code that drives the DAC (R563); TCODE stands in row 2. -/
def State.aoCode (s : State) (n : Nat) : Nat :=
  if s.flag (Reg.AO_CH_STAT_THERMAL n) then aoLow
  else if s.flag (Reg.AO_CH_TCTL_TRIM n) then s.getF (Reg.AO_CH_TCTL_TCODE n)
  else if s.aoSafe n then (s.ach n).safeCode
  else s.getF (Reg.AO_CH_CODE_CODE n)

/-- The raw DAC code in force (R562, R563). -/
def State.aoRaw (s : State) (n : Nat) : Nat :=
  if !s.on secAo then 0
  else if s.flag (Reg.AO_CH_TCTL_TRIM n) && !s.flag (Reg.AO_CH_STAT_THERMAL n) then s.getF (Reg.AO_CH_TCTL_TCODE n)
  else
    let g : Int := s.getF (Reg.AO_CH_TRIM_G_G n)
    let o := s.getI (Reg.AO_CH_TRIM_O_O n)
    (clampI 0 65535 (roundAway ((s.aoCode n : Int) * g + o * 2 ^ 14) (2 ^ 22))).toNat

/-- The safe value of a channel (R571). -/
def State.aoSafeValue (s : State) (n : Nat) : Nat :=
  match s.getF (Reg.AO_CH_CFG_SAFE n) with
  | 0 => s.aoCode n
  | 1 => aoLow
  | 2 => aoHigh
  | _ => 0

/-- The unit becomes READY: codes take AO_CHn_INIT and the watchdog starts (R564, R571). -/
def State.aoReady (s : State) : State :=
  let s := (List.range 8).foldl (fun (s : State) n => (s.setF (Reg.AO_CH_CODE_CODE n) (s.getF (Reg.AO_CH_INIT_CODE n))).setAch n fun c => { c with read := false, short := none }) s
  let s := (s.setF Reg.AO_WST_SAFE 0).setF Reg.AO_WST_REFRESHED 0
  { s with ao := { s.ao with wdStart := s.tm.runt, wdRun := true, wdLast := s.tm.runt } }

/-- The unit is no longer READY. -/
def State.aoDown (s : State) : State := { s with ao := { s.ao with wdRun := false } }

/-- A refresh (R571, R572). -/
def State.aoRefresh (s : State) : State :=
  { s.setF Reg.AO_WST_REFRESHED 1 with ao := { s.ao with wdStart := s.tm.runt, wdRun := true, wdLast := s.tm.runt } }

/-- The write check of an AO action: channel enabled and not in trim; an action in the fc of the write of TRIM passes
(R156, R575). -/
def State.aoCheck (s : State) (n : Nat) : Bool :=
  s.flag (Reg.AO_CH_CFG_MODE n) &&
  (!s.flag (Reg.AO_CH_TCTL_TRIM n) || (s.ach n).trimFc == some s.tm.fc)

/-- An AO action sets (R157, R562, R570–R572). -/
def State.aoWrite (s : State) (n v : Nat) : State := (s.setF (Reg.AO_CH_CODE_CODE n) v).aoRefresh

/-! ### Watchdog -/

/-- The unit enters SAFE, or expires again while SAFE (R571, R572). -/
def State.aoExpire (s : State) : State :=
  let was := s.flag Reg.AO_WST_SAFE
  let since := (s.tm.runt - s.ao.wdLast) / 2 ^ 32
  let s := (s.incF Reg.AO_WST_EXPIRIES).setF Reg.AO_WST_REFRESHED 0
  let s := { s with ao := { s.ao with wdRun := false } }.irq .ao 2
  if was then s else
  let s := (List.range 8).foldl (fun (s : State) n =>
    if s.aoSafe n then s else s.setAch n fun c => { c with safeCode := s.aoSafeValue n }) s
  (s.setF Reg.AO_WST_SAFE 1).emit (aoSrc 0) 0xB005 1 since

/-- In ROLE 2 an expiry of the ring watchdog puts a channel to its safe value (R573). -/
def State.aoRingSafe (s : State) (n : Nat) : State :=
  if s.aoSafe n then s.setF (Reg.AO_CH_STAT_RSAFE n) 1
  else (s.setAch n fun c => { c with safeCode := s.aoSafeValue n }).setF (Reg.AO_CH_STAT_RSAFE n) 1

/-- The expiry that the ring's safe state counts as (R573): a REARM needs a refresh after it. -/
def State.aoRingExpiry (s : State) : State := ((s.incF Reg.AO_WST_EXPIRIES).setF Reg.AO_WST_REFRESHED 0).irq .ao 2

/-! ### Readback and compliance (R566–R568, R574) -/

/-- A current more than 40 µA below the ideal value of the code (R566); one code is 24,000 ÷ 65,536 µA. -/
def aoShort (code uA : Nat) : Bool := decide ((uA + 40) * 65536 < code * 24000)

/-- The latest readback of a channel against the ideal value of the code in force (R566). -/
def State.aoJudge (s : State) (n : Nat) : State :=
  let c := s.ach n
  let short := c.read && s.on secAo && s.flag (Reg.AO_CH_CFG_MODE n) && aoShort (s.aoCode n) (s.getF (Reg.AO_CH_RB_I n))
  s.setAch n fun c => { c with short := if short then some (c.short.getD s.tm.runt) else none }

/-- The codes of a fc stand: every channel's current is judged. -/
def State.aoEnd (s : State) : State := (List.range 8).foldl State.aoJudge s

/-- AO_READBACK (R574): a visit of the readback converter: current in µA, terminal voltage in mV, junction in 0.1 °C. -/
def execAoReadback (n i u : Nat) (deg : Int) (s : State) : Out := s.only (decide (n < 8)) <|
  if !(s.on secAo && s.flag (Reg.AO_CH_CFG_MODE n)) then .next s else
  let s := (s.setF (Reg.AO_CH_RB_I n) i).setF (Reg.AO_CH_RB_V n) u
  let s := s.setI (Reg.AO_CH_TEMP_DEG n) deg
  let s := (s.setAch n fun c => { c with read := true }).aoJudge n
  .next (s.setAch n fun c => if c.short.isSome then { c with okSince := s.tm.runt } else c)

/-- AO_COMPLIANCE_SET (R566): short for 10 ms, in sink mode with the terminal below 4.0 V. -/
def execAoComplianceSet (n : Nat) (s : State) : Out := s.only (decide (n < 8)) <|
  let due := match (s.ach n).short with
    | some t => s.expired t 10000000
    | none => false
  let low := s.getF (Reg.AO_CH_CFG_MODE n) == 1 || decide (s.getF (Reg.AO_CH_RB_V n) < 4000)
  if due && low && !s.flag (Reg.AO_CH_STAT_COMPLIANCE n) then
    let s := ((s.setF (Reg.AO_CH_STAT_COMPLIANCE n) 1).setBit Reg.AO_STAT_COMPL n true).irq .ao 0
    .next (s.setAch n fun c => { c with complSince := s.tm.runt, alarmed := false })
  else .next s

/-- AO_COMPLIANCE_ALARM (R567): COMPLIANCE has stayed set for 1 s. -/
def execAoComplianceAlarm (n : Nat) (s : State) : Out := s.only (decide (n < 8)) <|
  let c := s.ach n
  if s.flag (Reg.AO_CH_STAT_COMPLIANCE n) && !c.alarmed && s.expired c.complSince 1000000000 then
    .next ((s.setAch n fun c => { c with alarmed := true }).emit (aoSrc n) 0xB001 1 (s.getF (Reg.AO_CH_RB_I n)))
  else .next s

/-- AO_COMPLIANCE_CLEAR (R567): 100 ms in which no readback is short. -/
def execAoComplianceClear (n : Nat) (s : State) : Out := s.only (decide (n < 8)) <|
  let c := s.ach n
  if s.flag (Reg.AO_CH_STAT_COMPLIANCE n) && s.expired c.okSince 100000000 then
    let s := (s.setF (Reg.AO_CH_STAT_COMPLIANCE n) 0).setBit Reg.AO_STAT_COMPL n false
    .next (if c.alarmed then s.emit (aoSrc n) 0xB002 2 ((s.tm.runt - c.complSince) / 2 ^ 32) else s)
  else .next s

/-- AO_VAO_LOW (R568). -/
def execAoVaoLow (low : Bool) (s : State) : Out := .next (s.setB Reg.AO_STAT_VAO_LOW low)

/-! ### Thermal states (R569) -/

/-- AO_THERMAL_CUT: NORMAL, junction above 140 °C. -/
def execAoThermalCut (n : Nat) (deg : Int) (s : State) : Out := s.only (decide (n < 8)) <|
  let s := s.setI (Reg.AO_CH_TEMP_DEG n) deg
  if !s.flag (Reg.AO_CH_STAT_CUT n) && !s.flag (Reg.AO_CH_STAT_THERMAL n) && decide (deg > 1400) then
    .next (s.setF (Reg.AO_CH_STAT_CUT n) 1)
  else .next s

/-- AO_THERMAL_FOLD: CUT, junction above 155 °C. -/
def execAoThermalFold (n : Nat) (deg : Int) (s : State) : Out := s.only (decide (n < 8)) <|
  let s := s.setI (Reg.AO_CH_TEMP_DEG n) deg
  if s.flag (Reg.AO_CH_STAT_CUT n) && !s.flag (Reg.AO_CH_STAT_THERMAL n) && decide (deg > 1550) then
    let s := ((s.setF (Reg.AO_CH_STAT_THERMAL n) 1).setBit Reg.AO_STAT_THERMAL n true).irq .ao 1
    .next ((s.setAch n fun c => { c with foldSince := s.tm.runt }).emit (aoSrc n) 0xB003 1 (ofSigned 64 deg))
  else .next s

/-- AO_THERMAL_NORMAL: CUT or FOLD, junction below 125 °C. -/
def execAoThermalNormal (n : Nat) (deg : Int) (s : State) : Out := s.only (decide (n < 8)) <|
  let s := s.setI (Reg.AO_CH_TEMP_DEG n) deg
  let fold := s.flag (Reg.AO_CH_STAT_THERMAL n)
  if (s.flag (Reg.AO_CH_STAT_CUT n) || fold) && decide (deg < 1250) then
    let s := ((s.setF (Reg.AO_CH_STAT_CUT n) 0).setF (Reg.AO_CH_STAT_THERMAL n) 0).setBit Reg.AO_STAT_THERMAL n false
    .next (if fold then s.emit (aoSrc n) 0xB004 2 ((s.tm.runt - (s.ach n).foldSince) / 2 ^ 32) else s)
  else .next s

/-! ### Two-point trim (R575–R577) -/

/-- APPLY (R576, R577): with TRIM = 1 the new trim is computed from the two points and written as two SEAL register writes,
or refused with TRIM_ERR. -/
def State.aoApply (s : State) (i : Iface) (n : Nat) : State :=
  if !s.flag (Reg.AO_CH_TCTL_TRIM n) then s else
  let r1 : Int := s.getF (Reg.AO_CH_TRAW_R1 n)
  let r2 : Int := s.getF (Reg.AO_CH_TRAW_R2 n)
  let m1 : Int := s.getF (Reg.AO_CH_TMEAS_1_NA n)
  let m2 : Int := s.getF (Reg.AO_CH_TMEAS_2_NA n)
  let c := s.ach n
  let dm := (m2 - m1).toNat
  let g := roundAway (1536000000 * (r2 - r1)) dm
  let o := roundAway (256 * (r1 * dm - m1 * (r2 - r1))) dm
  if !c.seen1 ∨ !c.seen2 ∨ r2 - r1 < 32768 ∨ m2 ≤ m1 ∨ (g - 2 ^ 22) * 50 > 2 ^ 22 ∨ (2 ^ 22 - g) * 50 > 2 ^ 22 ∨
      o > 512 * 256 ∨ o < -(512 * 256) then
    s.raise (Reg.AO_CH_STAT_TRIM_ERR n)
  else
    let gw := ofSigned 32 g
    let ow := ofSigned 32 o
    let s := (s.fieldWrite i (Reg.AO_CH_TRIM_G n) gw).fieldWrite i (Reg.AO_CH_TRIM_O n) ow
    if s.rd (Reg.AO_CH_TRIM_G n) = gw ∧ s.rd (Reg.AO_CH_TRIM_O n) = ow then
      (s.irq .ao 3).emit (aoSrc n) 0xB007 2 gw
    else s

/-- A write of AO_CHn_TCTL: its fields, the recorded points cleared when TRIM becomes 1 (R575), then APPLY, which needs engineer access as TRIM does (DEDUCED,
log 228). -/
def State.aoTctl (s : State) (i : Iface) (n v : Nat) : State :=
  let was := s.flag (Reg.AO_CH_TCTL_TRIM n)
  let s := s.fieldWrite i (Reg.AO_CH_TCTL n) v
  let s := if !was && s.flag (Reg.AO_CH_TCTL_TRIM n) then
      (s.wr (Reg.AO_CH_TRAW n) 0).setAch n fun c => { c with seen1 := false, seen2 := false, trimFc := some s.tm.fc }
    else s
  if v.testBit 30 && s.may i .engineer then s.aoApply i n else s

/-- AO_TRIM_CONTROL (R575): a write of AO_CHn_TCTL. -/
def execAoTrimControl (ifc : Iface) (n : Nat) (v : Word) (s : State) : Out := s.only (s.hasAo n) <| s.hostRow ifc <| .next (s.aoTctl ifc n v.toNat)

/-- A write of AO_CHn_TMEAS_1 or _2: with TRIM = 1 the TCODE in force is recorded as the point's raw code (R575). -/
def State.aoMeasure (s : State) (i : Iface) (n point v : Nat) : State :=
  let ok := s.may i .operate
  let trim := s.flag (Reg.AO_CH_TCTL_TRIM n)
  let t := s.getF (Reg.AO_CH_TCTL_TCODE n)
  if point = 1 then
    let s := s.fieldWrite i (Reg.AO_CH_TMEAS_1 n) v
    if ok && trim then (s.setF (Reg.AO_CH_TRAW_R1 n) t).setAch n fun c => { c with seen1 := true } else s
  else
    let s := s.fieldWrite i (Reg.AO_CH_TMEAS_2 n) v
    if ok && trim then (s.setF (Reg.AO_CH_TRAW_R2 n) t).setAch n fun c => { c with seen2 := true } else s

/-- AO_TRIM_MEASURE (R575). -/
def execAoTrimMeasure (ifc : Iface) (n point : Nat) (v : Word) (s : State) : Out := s.only (s.hasAo n) <| s.hostRow ifc <| .next (s.aoMeasure ifc n point v.toNat)

/-- AO_TRIM_APPLY (R576): a write of AO_CHn_TCTL with APPLY set. -/
def execAoTrimApply (ifc : Iface) (n : Nat) (v : Word) (s : State) : Out := s.only (s.hasAo n) <| s.hostRow ifc <| .next (s.aoTctl ifc n (v.toNat ||| 2 ^ 30))

end Sys2Proof.Machine
end

