-- ==== Sys2Proof/Machine/Metering.lean ====
section
/-!
DEFINITION. Metering (12): energy of the feeders, working accumulators, commit banks, the mordant seal and the audit log's
commands; with them the rows STAGE_B_OUTPUT and PHASOR_UPDATE, whose outputs the meter takes.  The computation of a metering
run stands in Blocks.lean.
-/
namespace Sys2Proof.Machine

/-! ### Totalisers (R375, R376) -/

/-- The largest value of a working accumulator: the integer part saturates at 2^64 − 1. -/
def totMax : Nat := (2 ^ 64 - 1) * 2 ^ 32

/-- Change the MTR unit's state. -/
def State.setMtr (s : State) (f : MtrSt → MtrSt) : State := { s with mtr := f s.mtr }

/-- Put a number into a working accumulator, saturating with SAT (R375). -/
def State.totPut (s : State) (n w : Nat) : State :=
  if w < 2 ^ 96 then s.setMtr fun m => { m with work := m.work.set n w }
  else (s.setMtr fun m => { m with work := m.work.set n totMax }).setF Reg.MTR_STAT_SAT 1

/-- Add an increment to a working accumulator; none is added after the final snapshot (R376, R401). Its last place is open
(log 9). -/
def State.totAdd (s : State) (n : Nat) (x : Rat) : State :=
  if s.mtr.final then s else s.totPut n (s.mtr.work.getD n 0 + (openR (x * 2 ^ 32)).toNat)

/-- The integer part of a working accumulator. -/
def State.totWork (s : State) (n : Nat) : Nat := s.mtr.work.getD n 0 / 2 ^ 32

/-- A committed value. -/
def State.totComm (s : State) (n : Nat) : Nat := s.mtr.comm.getD n 0

/-! ### Electrical energy (R377–R382) -/

/-- A feeder's metering at reset. -/
def mtrFdrZero : MtrFdr := MtrFdr.reset

/-- A feeder's metering. -/
def State.mf (s : State) (f : Nat) : MtrFdr := s.mtr.fdr.getD f mtrFdrZero

/-- Change a feeder's metering. -/
def State.setMf (s : State) (f : Nat) (g : MtrFdr → MtrFdr) : State := s.setMtr fun m => { m with fdr := upd m.fdr f g }

/-- Energy of a feeder is metered: EN, the MTR unit and the feeder are READY. -/
def State.meterOn (s : State) (f : Nat) : Bool := s.flag (Reg.MTR_F_CFG_EN f) && s.on secMtr && s.on (secFeeder f)

/-- The stage-B output of an input at a stage-A index, or a stream's newest sample at its instant (R377). -/
def State.meterSample (s : State) (key i inst : Nat) : Sample :=
  if key < 0x10000 then
    let p := s.chProf key
    let ahead := b2n (s.isIl key && (s.fprof p).early.isSome)
    match (s.fch key).bOut[((s.fprof p).next - s.profD p - i) / s.profD p + ahead]? with
    | some x => x.2
    | none => staleSample 0
  else match (((s.streams.find? fun p => p.1 == key).map Prod.snd).getD []).find? fun x => x.1 ≤ inst with
    | some x => x.2
    | none => staleSample 0

/-- A feeder with a channel of profile p has every local input's output at stage-A index i. -/
def State.meterDue (s : State) (f p i : Nat) : Bool :=
  let ks := [0, 1, 2, 4, 5, 6].filterMap (s.inputKey f)
  s.meterOn f && (s.mf f).last != some i && ks.any (fun k => decide (k < 0x10000) && s.chProf k == p) &&
    ks.all fun k => decide (0x10000 ≤ k) || decide (i < (s.fprof (s.chProf k)).next)

/-- A sample that R381 replaces. -/
def Sample.gone (x : Sample) : Bool := x.stale || x.uns

/-- The instant that a feeder's samples at stage-A index i represent: that of its first local channel's profile (R255, R377). -/
def State.meterInst (s : State) (f p i : Nat) : Nat :=
  let ks := ([0, 1, 2, 4, 5, 6].filterMap (s.inputKey f)).filter fun k => decide (k < 0x10000)
  s.stageBInst ((ks.head?.map s.chProf).getD p) i

/-- One stage-B instant of a feeder (R378, R381, R382): power in W, the interval in ns; `d` is the decimation. -/
def State.meterAdd (s : State) (f i inst d : Nat) : State :=
  let m := s.mf f
  let dt : Rat := (s.lapse (inst - d * stagePer) inst : Rat) / 2 ^ 32
  let ke : Rat := (s.rd (Reg.MTR_F_KE f) : Rat) / 2 ^ 22
  let smp := fun q => match s.inputKey f q with
    | some k => (s.meterSample k i inst, s.ratioOf k)
    | none => (staleSample 0, 0)
  let ph : List (Rat × Bool × Bool) := (List.range 3).map fun x =>
    let v := smp x
    let c := smp (x + 4)
    let bad := v.1.gone || c.1.gone
    let since := ((m.since.getD x none).getD s.tm.runt)
    let w : Rat :=
      if bad then (if s.expired since 1000000000 then 0 else m.mean.getD x 0)
      else ke * v.1.value * c.1.value * v.2 * c.2 * 100 / 2 ^ 46
    (w, bad, v.1.ovr || c.1.ovr)
  let p := ph.foldl (fun (a : Rat) x => a + x.1) 0
  let bad := ph.any fun x => x.2.1
  let since := (m.since.zip ph).map fun z => if z.2.2.1 then some (z.1.getD s.tm.runt) else none
  let long := since.any fun z => match z with
    | some t => s.expired t 1000000000
    | none => false
  let qt := if bad then m.qt + dt else m.qt
  let m' := { m with
    last := some i, p := m.p + p * dt, abs := m.abs + absR p * dt, dt := m.dt + dt,
    ph := (m.ph.zip ph).map fun z => z.1 + z.2.1 * dt,
    repl := m.repl || bad, since := since, qt := qt }
  let s := s.setMf f fun _ => m'
  let s := s.setB (Reg.MTR_F_STAT_SUBST f) bad
  let s := if long then s else s.setF (Reg.MTR_F_STAT_ZERO f) 0
  let s := if ph.any fun x => x.2.2 then s.raise (Reg.MTR_F_STAT_OVR f) else s
  s.wr (Reg.MTR_F_QTIME f) (min (2 ^ 32 - 1) (qt / 1000000).floor.toNat)

/-- STAGE_B_OUTPUT (R255): the outputs of profile p, and the metering of the feeders whose inputs are then complete. -/
def execStageBOutput (p : Nat) (s : State) : Out := s.only (decide (p < 16)) <|
  if s.stageBDue p then
    let i := (s.fprof p).next
    let d := s.profD p
    let s := s.stageB p
    .next ((List.range 12).foldl (fun (s : State) f => if s.meterDue f p i then s.meterAdd f i (s.meterInst f p i) d else s) s)
  else .next s

/-- METER_GAP (R381): the power of a phase has been replaced for 1 s. -/
def execMeterGap (f : Nat) (s : State) : Out :=
  let long := (s.mf f).since.any fun z => match z with
    | some t => s.expired t 1000000000
    | none => false
  if decide (f < 12) && s.meterOn f && long && !s.flag (Reg.MTR_F_STAT_ZERO f) then
    .next ((s.setF (Reg.MTR_F_STAT_ZERO f) 1).emitOpen (srcId 0x50 (0x20 + f)) 0x5003 1)
  else .next s

/-- The fundamental powers of an update (R379): Q and P1 over the three phases in var and W, from phasors without √2. -/
def State.meterPhasor (s : State) (f : Nat) : State :=
  if s.meterOn f then
    let full := (s.fdr f).full
    let ratio := fun q => (((s.inputKey f q).map s.ratioOf).getD 0) * 10 / 2 ^ 23
    let sum := fun (g : Phasor → Phasor → Rat) => (List.range 3).foldl (fun (a : Rat) x =>
      a + 2 * g (full.getD x phasorZero) (full.getD (x + 4) phasorZero) * ratio x * ratio (x + 4)) 0
    let q := sum fun v c => v.im * c.re - v.re * c.im
    let p1 := sum fun v c => v.re * c.re + v.im * c.im
    let dt := s.dtMs
    (s.setMf f fun m => { m with q := m.q + q * dt, p1 := m.p1 + p1 * dt, dtq := m.dtq + dt }).setF (Reg.MTR_F_STAT_NOPHASOR f) 0
  else s

/-- The first feeder on settled phasors after the start: PWR_BOOT.T_PROT, in µs of run time (R586). -/
def State.noteProt (s : State) (f : Nat) : State :=
  if s.getF Reg.PWR_BOOT_T_PROT = 0 ∧ !s.flag (Reg.PRT_F_STAT_UNS f) ∧ ((List.range 8).any fun q => (s.inputKey f q).isSome) then
    s.setF Reg.PWR_BOOT_T_PROT (min (2 ^ 20 - 1) (s.runNs / 1000))
  else s

/-- PHASOR_UPDATE (R278): the phasors and elements of an update, the phasor stream to the acquisition unit, and the
fundamental powers of the meter. -/
def execPhasorUpdate (f : Nat) (s : State) : Out := s.only (decide (f < 12)) <|
  match s.updateDue f with
  | some (g, u) =>
    if s.on (secFeeder f) then
      let s := (s.phasorUpdate f g u).noteProt f
      let ws := (List.range 14).flatMap fun q => [s.rd (Reg.PRT_F_PH_0 f q), s.rd (Reg.PRT_F_PH_1 f q), s.rd (Reg.PRT_F_PH_2 f q)]
      let s := s.feedAt 3 (s.instOf g.tw) g.tw g.angle g.cycle g.epoch g.trk (.phasor f u ws)
      .next (s.meterPhasor f)
    else .next s
  | none => .next s

/-- Whether the open window of a feeder is over (R380): windows end at whole multiples of 10 ms of run time. -/
def State.windowDue (s : State) (f : Nat) : Bool := decide (f < 12) && s.meterOn f && decide ((s.mf f).win < s.runNs / 10000000)

/-- The window's mean |p| lies below the creep limit (R380): both sides squared. -/
def State.creeps (s : State) (f : Nat) : Bool :=
  let m := s.mf f
  let mean := if m.dt = 0 then 0 else m.abs / m.dt
  let vi := f32 (s.rd (Reg.PRT_F_NOM_V f)) * f32 (s.rd (Reg.PRT_F_NOM_I f)) * (s.rd (Reg.MTR_F_CREEP f) : Rat)
  decide (mean * mean * 1000000 < 3 * vi * vi)

/-- Post the sums of a feeder's open window to its totalisers, in mWh and mvarh, and clear them (R380). -/
def State.meterPost (s : State) (f : Nat) : State :=
  let m := s.mf f
  let creep := s.creeps f
  let s := s.setB (Reg.MTR_F_STAT_CREEP f) creep
  let s := if creep then s else
    let s := s.totAdd (8 * f + if m.p < 0 then 1 else 0) (absR m.p / 3600000000)
    let quad := if 0 ≤ m.p then (if 0 ≤ m.q then 2 else 5) else (if 0 ≤ m.q then 3 else 4)
    let s := s.totAdd (8 * f + quad) (absR m.q / 3600)
    s.totAdd (8 * f + if m.p1 < 0 then 7 else 6) (absR m.p1 / 3600)
  let mean := fun (x t : Rat) => if t = 0 then 0 else x / t
  let s := ((s.wr (Reg.MTR_F_P f) (toF32 (mean m.p m.dt))).wr (Reg.MTR_F_Q f) (toF32 (mean m.q m.dtq))).wr (Reg.MTR_F_P1 f)
    (toF32 (mean m.p1 m.dtq))
  let s := s.setB (Reg.MTR_F_STAT_NOPHASOR f) (decide (m.dtq = 0))
  s.setMf f fun m => { m with
    p := 0, abs := 0, dt := 0, q := 0, p1 := 0, dtq := 0, ph := [0, 0, 0], repl := false,
    mean := if m.repl ∨ m.dt = 0 then m.mean else m.ph.map fun x => x / m.dt }

/-- METER_WINDOW_CLOSE (R380). -/
def execMeterWindowClose (f : Nat) (s : State) : Out := s.only (decide (f < 12)) <|
  if s.windowDue f then .next ((s.meterPost f).setMf f fun m => { m with win := s.runNs / 10000000 }) else .next s

/-! ### Snapshots and banks (R394–R397) -/

/-- A run's task is RUNNING or in HOLD on a core that is not shed, and its section runs (R389). -/
def State.runRunning (s : State) (r : Nat) : Bool :=
  let c := s.getF (Reg.MTR_M_CFG_CORE r)
  let st := s.getF (Reg.BLK_C_STAT_STATE c)
  s.flag (Reg.MTR_M_CFG_EN r) && s.on secMtr && s.on (secRun r) && s.on (secCore c) && (st == 2 || st == 3)

/-- Whether totaliser n's owner runs. -/
def State.totRuns (s : State) (n : Nat) : Bool := if n < 96 then s.meterOn (n / 8) else s.runRunning ((n - 96) / 4)

/-- The short stamp of R120. -/
def State.shortStamp (s : State) : Nat := s.rd Reg.KLN_MSTAMP_1

/-- The snapshot of R394 as a record; SEQ is given when it is written. -/
def State.totRecord (s : State) (cause : Nat) (final : Bool) : TotRec :=
  { seq := 0, tw := s.tw, epoch := s.epoch, cause := cause, final := final, invalid := s.mtr.invalid, stamp := s.shortStamp,
    runset := (List.range 12).foldl (fun v f => putBit v f (s.meterOn f)) ((List.range 16).foldl (fun v r => putBit v (12 + r) (s.runRunning r)) 0),
    values := (List.range 160).map fun n => if s.totRuns n then s.totWork n else s.totComm n }

/-- Bytes 0x000–0x51F of a commit record (R395). -/
def TotRec.body (r : TotRec) : List Byte :=
  leBytes 4 0x544F544D ++ leBytes 4 r.seq ++ leBytes 12 (twPack r.tw) ++ leBytes 1 r.epoch ++ leBytes 1 r.cause ++
  leBytes 2 (b2n r.final + 2 * b2n r.invalid) ++ leBytes 4 r.stamp ++ leBytes 4 r.runset ++ r.values.flatMap (leBytes 8)

/-- The bytes of a commit record with its CRC (R395). -/
def TotRec.bytes (r : TotRec) : List Byte := r.body ++ leBytes 4 (crc32 r.body)

/-- The write of a record begins (R395, R396). -/
def State.totWrite (s : State) (r : TotRec) : State :=
  let r := { r with seq := s.mtr.nextSeq }
  (s.setMtr fun m => { m with writing := some r, nextSeq := (m.nextSeq + 1) % 2 ^ 32 }).setF Reg.MTR_STAT_WRITING 1

/-- A TOT action takes effect (R394, R397, R401): open windows are posted at the final commit; the record is written, or held
one deep while a write is in progress. -/
def State.totSnapshot (s : State) (cause : Nat) (final : Bool) : State :=
  let s := if final then (List.range 12).foldl (fun (s : State) f => if s.meterOn f then s.meterPost f else s) s else s
  let s := if s.mtr.accepted then
      (s.setMtr fun m => { m with invalid := false, accepted := false }).setF Reg.MTR_STAT_TOT_INVALID 0
    else s
  let r := s.totRecord cause final
  let s := if final then s.setMtr fun m => { m with final := true } else s
  match s.mtr.writing with
  | none => s.totWrite r
  | some _ =>
    let s := if s.mtr.held.isSome then s.incF Reg.MTR_STAT_COALESCED else s
    s.setMtr fun m => { m with held := some r }

/-- The newest valid bank (R398): its record, and whether it is bank A. -/
def newestBank (a b : Option TotRec) : Option (TotRec × Bool) :=
  match a, b with
  | some x, some y => if (x.seq + 2 ^ 32 - y.seq) % 2 ^ 32 < 2 ^ 31 then some (x, true) else some (y, false)
  | some x, none => some (x, true)
  | none, some y => some (y, false)
  | none, none => none

/-- A write completes (R396): the bank that does not hold the newest valid record takes it, the committed registers follow,
COMMIT is raised, and a held snapshot is written next. -/
def State.totDone (s : State) (r : TotRec) : State :=
  let s := s.setMtr fun m =>
    let m := match newestBank m.bankA m.bankB with
      | some (_, true) => { m with bankB := some r }
      | _ => { m with bankA := some r }
    { m with writing := none, comm := r.values }
  let s := ((s.wr Reg.MTR_COMMIT_SEQ r.seq).wrTw Reg.MTR_COMMIT_TW_0 r.tw).setF Reg.MTR_STAT_WRITING 0
  let s := s.irq .mtr 0
  match s.mtr.held with
  | some h => (s.setMtr fun m => { m with held := none }).totWrite h
  | none => s

/-- Power is lost during a write: the bank being written is left invalid (R400). -/
def State.totTorn (s : State) : State :=
  s.setMtr fun m =>
    match m.writing with
    | none => { m with held := none }
    | some _ =>
      let m := match newestBank m.bankA m.bankB with
        | some (_, true) => { m with bankB := none }
        | _ => { m with bankA := none }
      { m with writing := none, held := none }

/-- Restore at power-on (R398, R399, R401). -/
def State.totRestore (s : State) : State :=
  let src := srcId 0x50 0
  let s := s.setF Reg.MTR_STAT_WRITING 0
  match newestBank s.mtr.bankA s.mtr.bankB with
  | some (r, _) =>
    let s := s.setMtr fun m => { m with
      work := r.values.map (· * 2 ^ 32), comm := r.values, nextSeq := (r.seq + 1) % 2 ^ 32, invalid := r.invalid,
      accepted := false, final := false, want := [], writing := none, held := none }
    let s := (s.wr Reg.MTR_COMMIT_SEQ r.seq).wrTw Reg.MTR_COMMIT_TW_0 r.tw
    let s := s.setB Reg.MTR_STAT_TOT_INVALID r.invalid
    if r.final then s.setF Reg.MTR_STAT_NONFINAL 0
    else (s.setF Reg.MTR_STAT_NONFINAL 1).emit src 0x5002 1 r.seq
  | none =>
    let s := s.setMtr fun m => { m with
      work := List.replicate 160 0, comm := List.replicate 160 0, invalid := true, accepted := false, final := false,
      want := [], writing := none, held := none }
    ((s.setF Reg.MTR_STAT_TOT_INVALID 1).irq .mtr 5).emitOpen src 0x5001 1

/-- A feeder's or run's totalisers resume from the committed values with a zero fraction (R402). -/
def State.totResume (s : State) (lo n : Nat) : State :=
  s.setMtr fun m => { m with
    work := m.work.mapIdx fun i w => if lo ≤ i ∧ i < lo + n then m.comm.getD i 0 * 2 ^ 32 else w }

/-- Metering of a feeder begins: its windows start empty at the present window. -/
def State.meterStart (s : State) : State :=
  s.setMtr fun m => { m with fdr := m.fdr.map fun x => { mtrFdrZero with qt := x.qt, win := s.runNs / 10000000 } }

/-! ### The seal monitor (R404, R410) -/

/-- Source of seal and tamper events. -/
def sealSrc : Nat := srcId 0x50 0xF0

/-- Access byte of a record the AK960 writes by itself: interface 2, level 0. -/
def State.ownAccess (s : State) : Nat := s.auditAccess 0 2

/-- What the always-on domain does with a change while the module is unpowered (R404): up to four records are held, each
with the RTC second: the RTC counts on from what it last held by an amount of its own crystal, which is free (log 8). -/
def State.vbatHold (s : State) (kind before : Nat) : State :=
  let sec := (s.pwr.rtcSec + s.freeBits 48) % 2 ^ 48
  if s.aud.held.length < 4 then
    { s.bump with aud := { s.aud with held := s.aud.held ++ [⟨kind, sec, before⟩] }, pwr := { s.pwr with rtcSec := sec } }
  else s

/-- SEAL_OPEN (R404, R410). -/
def execSealOpen (s : State) : Out :=
  if s.sealOpen then .next s else
  let n := s.getF Reg.MTR_SEAL_STAT_OPENS
  let s := (s.setF Reg.MTR_SEAL_STAT_OPEN 1).setF Reg.MTR_SEAL_STAT_OPENS (n + 1)
  if s.pwr.unpowered then .next (s.vbatHold 5 n)
  else .next (((s.auditSys 5 s.ownAccess 1 0 n ((n + 1) % 256)).irq .mtr 2).emitOpen sealSrc 0x5006 1)

/-- SEAL_CLOSE (R404, R410). -/
def execSealClose (s : State) : Out :=
  if s.sealOpen then
    let n := s.aud.closes
    let s := { s with aud := { s.aud with closes := (n + 1) % 256 } }.setF Reg.MTR_SEAL_STAT_OPEN 0
    if s.pwr.unpowered then .next (s.vbatHold 6 n)
    else .next (((s.auditSys 6 s.ownAccess 1 0 n ((n + 1) % 256)).irq .mtr 2).emitOpen sealSrc 0x5007 2)
  else .next s

/-- TAMPER (R404, R410): TAMPER_N changes. -/
def execTamper (s : State) : Out :=
  let n := s.getF Reg.MTR_SEAL_STAT_TAMPERS
  let s := (s.setB Reg.MTR_SEAL_STAT_TAMPER (!s.flag Reg.MTR_SEAL_STAT_TAMPER)).setF Reg.MTR_SEAL_STAT_TAMPERS (satAdd 8 n 1)
  if s.pwr.unpowered then .next (s.vbatHold 7 n)
  else .next (((s.auditSys 7 s.ownAccess 1 0 n (satAdd 8 n 1)).irq .mtr 3).emitOpen sealSrc 0x5008 1)

/-- At power-on the held records go to the audit log in order, with RTC seconds and ns 0 (R404, R407). -/
def State.vbatFlush (s : State) : State :=
  let s := s.aud.held.foldl (fun (s : State) h =>
    if s.auditFree = 0 then s.incF Reg.MTR_AUD_STAT_LOST
    else s.auditPut (h.sec % 2 ^ 48 * 2 ^ 48) s.epoch h.kind s.ownAccess 1 0 h.before
      (if h.kind = 7 then satAdd 8 h.before 1 else (h.before + 1) % 256)) s
  { s with aud := { s.aud with held := [] } }

/-! ### Commands of the audit log (R411, R412) -/

/-- A read of MTR_AUD_RD_0: the record of MTR_AUD_SEL is latched and marked; all ones where none is held (R411). -/
def State.audRead (s : State) (i : Iface) : State :=
  let n := s.rd Reg.MTR_AUD_SEL
  match s.aud.recs.find? fun r => r.seq == n with
  | none => s.setSnap i (Reg.MTR_AUD_RD 0) (List.replicate 16 0xFFFFFFFF)
  | some r =>
    let recs := s.aud.recs.map fun x => if x.seq = n then { x with read := true } else x
    { s with aud := { s.aud with recs := recs } }.setSnap i (Reg.MTR_AUD_RD 0) (wordsOf r.bytes)

/-- AUDIT_RECORD_READ (R411). -/
def execAuditRecordRead (ifc : Iface) (s : State) : Out := s.readRow ifc (Reg.MTR_AUD_RD 0) <|
  let s := s.audRead ifc
  .next (s.answer ifc (Reg.MTR_AUD_RD 0) (((s.snapOf ifc (Reg.MTR_AUD_RD 0)).getD []).headD 0))

/-- A write of MTR_AUD_ACK (R412). -/
def State.audAck (s : State) (i : Iface) (n : Nat) : State :=
  s.command i .engineer fun s =>
    let upTo := s.aud.recs.takeWhile fun r => decide (r.seq ≤ n)
    let gone := upTo.takeWhile fun r => r.read
    let free := s.auditFree
    let s := if gone.length < upTo.length then s.raise Reg.MTR_AUD_STAT_ACK_SHORT else s
    match gone.head?, gone.getLast? with
    | some a, some b =>
      let s := ({ s with aud := { s.aud with recs := s.aud.recs.drop gone.length } }).auditSync free
      s.auditSys 8 (s.auditAccess (s.level i).num (ifcNum i)) 4 0 a.seq b.seq
    | _, _ => s

/-- AUDIT_ACK (R412). -/
def execAuditAck (ifc : Iface) (v : Word) (s : State) : Out := s.hostRow ifc <| .next (s.audAck ifc v.toNat)

end Sys2Proof.Machine
end

