-- ==== Sys2Proof/Machine/CourseOps.lean ====
section
/-!
DEFINITION. The course engine (05) up to the point where actions take effect: form, availability and write checks, late
policies, acceptance into slots, discarding with its record, and what a discard means to the unit that prepared the course.
-/
namespace Sys2Proof.Machine

/-! ### Slots -/

/-- Number of course slots. -/
def slotCount : Nat := 192

/-- A slot never used. -/
def slotZero : Slot := Slot.reset

/-- A slot. -/
def State.slot (s : State) (n : Nat) : Slot := s.crs.slots.getD n slotZero

/-- Change a slot. -/
def State.setSlot (s : State) (n : Nat) (f : Slot → Slot) : State := { s with crs := { s.crs with slots := upd s.crs.slots n f } }

/-- Courses in flight (R150). -/
def State.inFlight (s : State) : Nat := s.crs.slots.countP fun c => c.st != .free

/-- Courses of a port in flight. -/
def State.inUse (s : State) (port : Nat) : Nat := s.crs.slots.countP fun c => c.st != .free && c.port == port

/-- Status codes (R184). -/
def stBusy : Nat := 0x10
def stQuota : Nat := 0x11
def stFormat : Nat := 0x12
def stNoAngle : Nat := 0x13
def stAccess : Nat := 0x14
def stLate : Nat := 0x20
def stTarget : Nat := 0x21
def stCheck : Nat := 0x22
def stEpoch : Nat := 0x23
def stAngleLost : Nat := 0x24
def stDeadline : Nat := 0x25
def stAborted : Nat := 0x26
def stStation : Nat := 0x27
def stPair : Nat := 0x28

/-! ### Actions (R156, R688) -/

/-- Fields of an action's words. -/
def Action.ty (a : Action) : Nat := bits a.w0 31 28
def Action.trip (a : Action) : Bool := bit a.w0 24
def Action.tgt (a : Action) : Nat := bits a.w0 23 0

/-- The types a port allows; copies of mirrored courses also carry PATCH, VPATCH and EXCH (R612, R623). -/
def portAllows (port ty : Nat) : Bool :=
  let hostBlk := decide (port ≤ 4)
  match ty with
  | 1 | 4 => hostBlk || port == 10
  | 2 => hostBlk || port == 5 || port == 6 || port == 9 || port == 10
  | 3 => hostBlk || port == 9 || port == 10
  | 5 => hostBlk || port == 8 || port == 10
  | 6 => port == 7 || port == 8
  | 7 => true
  | 8 | 9 => hostBlk || port == 5 || port == 6 || port == 10
  | 10 => port == 8 || port == 10
  | 11 | 12 => decide (1 ≤ port ∧ port ≤ 4) || port == 10
  | _ => false

/-- An action whose form breaks R156 (R688). -/
def Action.bad (a : Action) (port : Nat) : Bool :=
  !portAllows port a.ty || decide (bits a.w0 27 25 ≠ 0) || (a.trip && a.ty != 2) || (a.trip && port == 0) ||
  (match a.ty with
   | 1 => decide (a.tgt % 4 ≠ 0)
   | 2 => decide (a.tgt > 1 ∨ a.w1 / 65536 ≠ 0)
   | 3 => decide (a.tgt > 7)
   | 4 => decide (a.tgt > 4095)
   | 5 => decide (a.tgt > 11)
   | 6 => decide (a.tgt > 0x10 ∧ a.tgt ≠ 0xFF)
   | 8 => decide (a.tgt > 15)
   | 9 => decide (a.tgt > 31)
   | 11 | 12 => decide (a.tgt > 3)
   | _ => false)

/-! ### Availability and write checks (R158, R159) -/

/-- Whether the part that holds a register is READY (R158, R686); a register that several parts of a unit share is available while
one of them is READY; one of an absent channel is not. -/
def State.regUp (s : State) (off : Nat) : Bool :=
  !s.absent off && match regAt off with
  | none => false
  | some h =>
    let i := h.idx.headD 0
    match off / 0x10000 with
    | 0x02 => s.on secTbu
    | 0x03 => s.on secAng
    | 0x10 => s.on (secAfe (off / 0x1000 % 16))
    | 0x18 => s.on secHkc
    | 0x20 | 0x21 => if (off - 0x200000) / 0x100 = 1 ∨ off ≥ 0x210000 then s.on (secProf i) else s.fltOn
    | 0x30 =>
      if 0x301000 ≤ off ∧ off < 0x30D000 then s.on (secFeeder ((off - 0x301000) / 0x1000))
      else if 0x30D000 ≤ off then s.on (secTile ((off - 0x30D000) / 0x100))
      else (List.range 12).any (fun f => s.on (secFeeder f)) || (List.range 16).any fun t => s.on (secTile t)
    | 0x40 => s.on secAcq
    | 0x50 => if 0x502000 ≤ off ∧ off < 0x504000 then s.on (secRun ((off - 0x502000) / 0x100)) else s.on secMtr
    | 0x60 => if 0x601000 ≤ off then s.on (secCore ((off - 0x601000) / 0x1000)) else (List.range 4).any fun c => s.on (secCore c)
    | 0x70 | 0x71 => s.on secYul
    | 0x80 => if 0x801000 ≤ off ∧ off < 0x801400 then s.on (secEth ((off - 0x801000) / 0x100)) else (List.range 4).any fun p => s.on (secEth p)
    | 0x84 => s.on (secEth 4)
    | 0x90 => s.on secEvt
    | 0xA0 =>
      if 0xA01000 ≤ off ∧ off < 0xA01400 then s.on (secDio ((off - 0xA01000) / 0x200))
      else if 0xA00100 ≤ off ∧ off < 0xA00140 then s.on (secDio ((off - 0xA00100) / 0x20))
      else s.on (secDio 0) || s.on (secDio 1)
    | 0xB0 => s.on secAo
    | 0xC0 => s.on secWyt
    | _ => false

/-- The write check of a REG action: RW fields only, each within its range, no register of HST, PWR, KLN, CRS and no
UNIT_CTL. -/
def State.regCheck (s : State) (off mask v : Nat) : Bool :=
  match regAt off with
  | none => false
  | some h =>
    let rw := h.row.fields.filter fun f => f.acc == .rw
    let m := rw.foldl (fun (m : Nat) f => m ||| (2 ^ (f.hi + 1) - 2 ^ f.lo)) 0
    let w := maskPut (s.rd off) mask v
    decide (off / 0x10000 ∉ [0x00, 0x01, 0x05, 0x06]) && !(hdrBases.any fun b => off == b + 8) &&
      decide (mask % 2 ^ 32 &&& (2 ^ 32 - 1 - m) = 0) &&
      rw.all fun f => decide (bits mask f.hi f.lo = 0) || f.rule.within (f.hi - f.lo + 1) (h.idx.headD 0) (bits w f.hi f.lo)

/-- The pair is formed (R179, R616, R625). -/
def State.paired (s : State) : Bool := s.getF Reg.WYT_STAT_STATE == 2

/-- The module's role (R617): 0 NONE, 1 LEAD, 2 SHADOW; a module without a pair acts for itself. -/
def State.role (s : State) : Nat := s.getF Reg.WYT_STAT_ROLE

/-- The module acts as ROLE 3 where YUL_CTL.ROLE is 1 (R618): the pair is enabled and the role is not LEAD. -/
def State.standby (s : State) : Bool := s.flag Reg.WYT_CFG_EN && s.on secWyt && s.role != 1

/-- The trip path of a 2oo2 pair lacks its partner (R628). -/
def State.degraded (s : State) : Bool := s.flag Reg.WYT_CFG_TRIPW && s.getF Reg.WYT_STAT_STATE != 2

/-- The ring controller is master (R454, R618). -/
def State.ringMaster (s : State) : Bool := s.on secYul && s.getF Reg.YUL_CTL_ROLE == 1 && !s.standby

/-- A port carries traffic: READY, link up, not taken down (R492). -/
def State.linkUp (s : State) (p : Nat) : Bool := s.on (secEth p) && s.flag (Reg.ETH_P_STAT_LINK p) && !s.flag (Reg.ETH_P_STAT_SHED p)

/-- The ports of a mask with both ports of a PRP or HSR pair (R322, R499). -/
def State.portsOf (s : State) (mask : Nat) : List Nat :=
  let ps := bitList 4 mask
  let pair := fun p => decide (s.getF (Reg.ETH_P_CFG_ROLE p) ∈ [2, 3])
  if ps.any fun p => decide (p < 2) && pair p then [0, 1] ++ ps.filter (2 ≤ ·) else ps

/-- The section of the running configuration with a SEC_ID. -/
def State.sec (s : State) (id : Nat) : Option Section := s.kln.secs.find? fun x => x.id == id

/-- The part that a section configures: the channels of AO share one. -/
def partOf (id : Nat) : Nat := if id / 256 = 0xB0 then secAo else id

/-- The descriptor of a patchable value of a running section that is not being refired (R140). -/
def State.patchDesc (s : State) (id vidx : Nat) : Option Desc :=
  match s.sec id with
  | some x => if x.st = 0 ∧ id ∉ s.kln.refiring ∧ s.on (partOf id) then (bodyDescs x.body).find? fun d => d.vidx == vidx else none
  | none => none

/-- The write check of a PATCH action in a fc (R140, R405, R409). -/
def State.patchCheck (s : State) (m v : Nat) : Bool :=
  match s.patchDesc (m / 65536) (m % 4096) with
  | some d => d.admits v && (d.cls != 2 || (s.sealOpen && s.auditRoom 1))
  | none => false

/-- A PATCH action on a CLASS 2 value: each needs an entry of the audit log (R406, R409). -/
def State.patchSealed (s : State) (a : Action) : Bool :=
  a.ty == 10 && (s.patchDesc (a.w1 / 65536) (a.w1 % 4096)).any fun d => d.cls == 2

/-- A core's entry. -/
def coreZero : CoreSt := CoreSt.reset
def State.core (s : State) (c : Nat) : CoreSt := s.blk.core.getD c coreZero
def State.setCore (s : State) (c : Nat) (f : CoreSt → CoreSt) : State := { s with blk := { s.blk with core := upd s.blk.core c f } }

/-- A VPATCH course of a core is in flight. -/
def State.vpInFlight (s : State) (c : Nat) : Bool :=
  s.crs.slots.any fun x => (x.st == .pending || x.st == .committed) && x.acts.any fun a => a.ty == 11 && a.tgt == c

/-- What an action finds: 0, TARGET or CHECK (R156, R158, R159). -/
def State.actErr (s : State) (port : Nat) (a : Action) : Nat :=
  let judge := fun (up ok : Bool) => if !up then stTarget else if !ok then stCheck else 0
  match a.ty with
  | 1 => judge (s.regUp a.tgt || (decide (a.tgt / 0x10000 ∈ [0x00, 0x01, 0x05, 0x06]))) (s.regCheck a.tgt a.w1 a.w2)
  | 2 =>
    let chs := (bitList 16 a.w1).map (· + 16 * a.tgt)
    judge (s.on (secDio a.tgt))
      (chs.all (fun n => s.isOut n && (!a.trip || (decide (n < 16) && s.flag (Reg.PRT_TRIPO_EN n)))) &&
        (a.trip || !s.holdBlocks a.tgt a.w1 a.w2))
  | 3 => judge (s.on secAo && s.hasAo a.tgt) (s.aoCheck a.tgt)
  | 4 => judge (s.ringMaster || (port == 10 && s.on secYul)) (s.flag (Reg.YUL_MAP_0_EN a.tgt) && s.flag (Reg.YUL_MAP_0_DIR a.tgt))
  | 5 => judge (s.on (secFeeder a.tgt)) (s.flag (Reg.PRT_F_CFG_EN a.tgt) && decide (1 ≤ a.w2 ∧ a.w2 ≤ 4))
  | 6 => judge (s.on secMtr) true
  | 7 => judge true (decide (bits a.w2 17 16 ≠ 0 ∨ port = 5 ∨ port = 6))
  | 8 => judge (s.on secAcq) true
  | 9 =>
    let up := (s.portsOf (s.getF (Reg.ETH_GP_CFG_PORTS a.tgt))).any s.linkUp
    judge ((List.range 4).any fun p => s.on (secEth p)) (s.flag (Reg.ETH_GP_CFG_EN a.tgt) && up)
  | 10 => judge true (s.patchCheck a.w1 a.w2)
  | 11 => judge (s.on (secCore a.tgt)) (decide (s.core a.tgt).active.isSome)
  | 12 => judge (s.on (secCore a.tgt)) (s.getF (Reg.BLK_C_STAT_SHADOW a.tgt) == 2 && !s.vpInFlight a.tgt)
  | _ => stCheck

/-- The lowest failing action and its status (R159); the CLASS 2 values of one course together need room in the audit log
(R409). -/
def State.actsErr (s : State) (port : Nat) (acts : List Action) : Option (Nat × Nat) :=
  acts.zipIdx.findSome? fun p =>
    let e := s.actErr port p.1
    let full := s.patchSealed p.1 && !s.auditRoom ((acts.take (p.2 + 1)).countP s.patchSealed)
    if e ≠ 0 then some (e, p.2) else if full then some (stCheck, p.2) else none

/-! ### The record and the end of a course (R183, R184) -/

/-- Source identifier of the course engine. -/
def crsSrc : Nat := srcId 0x06 0

/-- Write the record of a course that sets or is discarded in this fc, with its event. -/
def State.crsRecord (s : State) (n status : Nat) : State :=
  let trk := s.getF Reg.ANG_STAT_STATE
  let s := s.setSlot n fun c => { c with
    status := status, recTw := s.tw, recAngle := s.angle, recCycle := s.ang.cycle, recTrk := trk, recEpoch := s.epoch,
    setFc := s.tm.fc }
  let c := s.slot n
  if c.evt then s.emit crsSrc 0x0603 3 (n + c.gen * 2 ^ 8 + status * 2 ^ 16) else s

/-- BLK_ERR of a refused command or a failed exchange, with ERR (R453). -/
def State.blkErr (s : State) (code entry core : Nat) : State :=
  (((s.setF Reg.BLK_ERR_CODE code).setF Reg.BLK_ERR_ENTRY entry).setF Reg.BLK_ERR_CORE core).irq .blk 17

/-- What a discarded course means to the unit that prepared it (R143, R393, R423, R448, R487). -/
def State.discardHook (s : State) (c : Slot) : State :=
  match c.tag with
  | .none => s
  | .refire _ => s.setMtr fun m => { m with want := m.want ++ [⟨1, none⟩] }
  | .out k => (s.count (Reg.BLK_C_OUTD_COUNT k)).emit (srcId 0x60 k) 0x6007 2 c.status
  | .vpatch k _ => s.setF (Reg.BLK_C_STAT_VP_PEND k) 0
  | .exch k =>
    if c.status = stCheck then
      let e := if s.vpInFlight k then 0x59 else 0x57
      (s.blkErr e 0 k).setF (Reg.BLK_C_XSTAT_ERR k) e
    else s
  | .commit cause preset => s.setMtr fun m => { m with want := m.want ++ [⟨cause, preset⟩], doneFc := s.tm.fc }
  | .patch keys =>
    { s with kln := { s.kln with journal := s.kln.journal.filter fun e => !(e.pending && decide ((e.secId, e.vidx) ∈ keys)) } }
  | .station => { s with yul := { s.yul with applyFail := true } }

/-- Discard a course that holds a slot, with a status and the lowest failing action. -/
def State.discard (s : State) (n status act : Nat) : State :=
  let s := (s.setSlot n fun c => { c with st := .discarded, act := act }).crsRecord n status
  let c := s.slot n
  let s := if c.port = 0 then s.irq .crs 1 else s
  let s := if status = stPair then s.incF Reg.CRS_MIR_STAT_PAIR else s
  s.discardHook c

/-! ### Acceptance (R153, R154, R161–R166, R176, R179, R184) -/

/-- What a source submits. -/
structure CReq where
  port : Nat
  sched : Sched
  policy : Nat
  acts : List Action
  evt : Bool
  rset : Bool
  nomir : Bool
  dl : Nat
  tag : CourseTag
  entries : List (Nat × Nat)
  mirSeq : Option Nat
  deriving DecidableEq, Repr

/-- A plain request of a unit. -/
def reqOf (port : Nat) (sched : Sched) (policy : Nat) (acts : List Action) (tag : CourseTag) : CReq :=
  ⟨port, sched, policy, acts, false, false, false, 0, tag, [], none⟩

/-- One fc in 2^−32 ns of time word (R72). -/
def State.fcPer (s : State) : Nat := s.incOf * s.tm.div

/-- An angle target is less than a number of fc ahead (R165). -/
def State.angleLate (s : State) (p : Nat) : Bool :=
  decide (toSigned 64 (p + 2 ^ 64 - s.pos) * 65536 < 4 * (s.rd Reg.ANG_PINC : Int))

/-- The same angle word in the first cycle for which it is not late (R166). -/
def State.angleNext (s : State) (p : Nat) : Nat :=
  let cand := (List.range 4).map fun k => ((s.ang.cycle + k) * 2 ^ 32 + p % 2 ^ 32) % 2 ^ 64
  (cand.find? fun x => !s.angleLate x).getD p

/-- Base period in 2^−16 ns (R415). -/
def State.base16 (s : State) : Nat := 31250 * 2 ^ s.getF Reg.BLK_BASE_NSEL * 2 ^ 16

/-- Departure of ring frame N as a time word in 2^−16 ns (R461). -/
def State.departs (s : State) (n : Nat) : Nat := n * s.base16 - s.rd Reg.YUL_LEAD * s.fcPer / 2 ^ 16

/-- Frame N departs at least 64 fc from now. -/
def State.frameOk (s : State) (n : Nat) : Bool := decide (s.tw + 64 * s.fcPer / 2 ^ 16 ≤ s.departs n)

/-- The stations a course's RING actions address. -/
def State.ringStns (s : State) (acts : List Action) : List Nat :=
  ((acts.filter fun a => a.ty == 4).map fun a => s.getF (Reg.YUL_MAP_0_STN a.tgt)).eraseDups

/-- Set items that set-mode courses put into a station's block of a frame. -/
def State.itemsIn (s : State) (n st : Nat) : Nat :=
  s.crs.slots.foldl (fun a c =>
    if c.st = .pending ∧ c.rset ∧ c.ringFrame = some n then a + c.acts.countP (fun x => x.ty == 4 && s.getF (Reg.YUL_MAP_0_STN x.tgt) == st) else a) 0

/-- Frame N has a free tag and room for a course's items (R471, R472). -/
def State.frameRoom (s : State) (n : Nat) (acts : List Action) : Bool :=
  decide (s.crs.slots.countP (fun c => c.st == .pending && c.rset && c.ringFrame == some n) < 8) &&
  (s.ringStns acts).all fun st =>
    decide (s.itemsIn n st + acts.countP (fun x => x.ty == 4 && s.getF (Reg.YUL_MAP_0_STN x.tgt) == st) ≤ 16)

/-- The earliest frame an immediate set-mode course may use (R176, R472). -/
def State.firstFrame (s : State) (acts : List Action) : Nat :=
  let n0 := s.tw / s.base16 + 1
  ((List.range 260).map (· + n0)).find? (fun n => s.frameOk n && s.frameRoom n acts) |>.getD (n0 + 260)

/-- What lateness makes of a request: the schedule, the ring frame, late flag, NEXT; none where it is discarded LATE. -/
def State.lateRule (s : State) (r : CReq) : Option (Sched × Option Nat × Bool × Bool) :=
  let late := fun (imm : Sched × Option Nat) => if r.policy = 1 then some (imm.1, imm.2, true, false) else none
  match r.sched with
  | .time t =>
    if r.rset then
      let n := (t + s.base16 - 1) / s.base16 - 1
      if s.frameOk n && s.frameRoom n r.acts then some (r.sched, some n, false, false)
      else late (.immediate, some (s.firstFrame r.acts))
    else if t * 2 ^ 16 < s.tm.time + 4 * s.fcPer then late (.immediate, none)
    else some (r.sched, none, false, false)
  | .angle p =>
    if !s.angleLate p then some (r.sched, none, false, false)
    else if r.policy = 2 then some (.angle (s.angleNext p), none, true, true)
    else late (.immediate, none)
  | .immediate => some (.immediate, if r.rset then some (s.firstFrame r.acts) else none, false, false)
  | .standing => some (r.sched, none, false, false)

/-- An immediate course that is mirrored takes a time schedule LEAD fc after its acceptance (R179). A set-mode course takes the
frame of that time; where it departs too early or has no room, the course is late (R176): policy 1 uses the earliest frame that
qualifies, whose commit frame gives the time. -/
def State.converted (s : State) (r : CReq) (q : Sched × Option Nat × Bool × Bool) : Option (Sched × Option Nat × Bool × Bool) :=
  let at_ := s.tw + s.getF Reg.CRS_MIR_CTL_LEAD * s.fcPer / 2 ^ 16
  if !r.rset then some (.time at_, none, q.2.2)
  else
    let n := (at_ + s.base16 - 1) / s.base16 - 1
    if s.frameOk n && s.frameRoom n r.acts then some (.time at_, some n, q.2.2)
    else if r.policy = 1 then
      let n := s.firstFrame r.acts
      some (.time ((n + 1) * s.base16), some n, true, false)
    else none

/-- Whether this module mirrors a request (R179). -/
def State.mirrors (s : State) (r : CReq) : Bool :=
  s.paired && s.role == 1 && s.flag (Reg.CRS_PORT_MIR r.port) && !r.nomir && decide (r.port ≤ 4 ∨ r.port = 8)

/-- Whether courses of a port come only from copies here (R618, R623). -/
def State.copiesOnly (s : State) (port : Nat) : Bool :=
  s.paired && s.role == 2 && s.flag (Reg.CRS_PORT_MIR port) && decide (port ≤ 4 ∨ port = 8)

/-- The header word of a course (CRS_STG_HDR). -/
def hdrWord (c : Slot) : Nat :=
  (match c.sched with
   | .time _ => 1
   | .angle _ => 2
   | _ => 0) + c.policy % 4 * 2 ^ 4 + c.acts.length % 64 * 2 ^ 8 + b2n c.rset * 2 ^ 16 + b2n c.evt * 2 ^ 18

/-- A frame leaves over W, with the wrapping frame count of its header (R612). -/
def State.wSend (s : State) (f : WFrame) : State :=
  if s.on (secEth 4) && s.flag Reg.ETH_W_STAT_LINK then
    { s with wyt := { s.wyt with frames := (s.wyt.frames + 1) % 2 ^ 32 } }.out (.wFrame s.wyt.frames f)
  else s

/-- The COPY frame of a course (R612). -/
def copyOf (c : Slot) (dl : Nat) : WFrame :=
  let t := match c.sched with
    | .time t => twPack t
    | .angle p => p
    | _ => 0
  .copy ⟨c.seq, BitVec.ofNat 32 (hdrWord c), BitVec.ofNat 32 t, BitVec.ofNat 32 (t / 2 ^ 32), BitVec.ofNat 32 (t / 2 ^ 64),
    BitVec.ofNat 32 dl, c.acts.map fun a => (BitVec.ofNat 32 a.w0, BitVec.ofNat 32 a.w1, BitVec.ofNat 32 a.w2), c.entries⟩

/-- A request's form (R156, R166, R175, R681, R688). -/
def CReq.bad (r : CReq) : Bool :=
  decide (r.acts.length = 0 ∨ r.acts.length > 32) || r.acts.any (·.bad r.port) || decide (r.policy ≥ 3) ||
  (r.rset && (r.acts.any (fun a => decide (a.ty ≠ 4 ∧ a.ty ≠ 7)) || match r.sched with
    | .immediate | .time _ => false
    | _ => true))

/-- A refusal before any slot is allocated, or 0 (R184). -/
def State.refusal (s : State) (r : CReq) : Nat :=
  let angle := match r.sched with
    | .angle _ => true
    | _ => false
  if s.inFlight ≥ slotCount then stBusy
  else if s.inUse r.port ≥ s.getF (Reg.CRS_PORT_QUOTA r.port) then stQuota
  else if r.bad then stFormat
  else if angle && !s.flag Reg.ANG_STAT_SCHED_OK then stNoAngle
  else 0

/-- Submit a course: the state, its status, its slot where it was given one. -/
def State.submit (s : State) (r : CReq) : State × Nat × Option Nat :=
  let e := s.refusal r
  if e = stBusy ∨ e = stQuota then ((s.count Reg.CRS_BUSY_CNT_COUNT).irq .crs 2, e, none)
  else if e ≠ 0 then (s, e, none)
  else
    match s.crs.slots.findIdx? fun c => c.st == .free with
    | none => (s, stBusy, none)
    | some n =>
      let mir := s.mirrors r
      let l := (s.lateRule r).bind fun q => if mir && decide (q.1 = .immediate) then s.converted r q else some q
      let q := l.getD (r.sched, none, false, false)
      let sched := q.1
      let frame := q.2.1
      let mirror : Mirror := if r.mirSeq.isSome then .copy else if mir then .waiting else .no
      let c : Slot := { slotZero with
        st := .pending, gen := ((s.slot n).gen + 1) % 256, port := r.port, sched := sched, policy := r.policy, acts := r.acts,
        evt := r.evt, rset := r.rset, ringFrame := frame, lateFlag := q.2.2.1, next := q.2.2.2,
        deadline := if r.dl = 0 then none else some (s.tm.runt + r.dl * 1000 * 2 ^ 32), accFc := s.tm.fc, seq := s.crs.nextSeq,
        mirror := mirror, mirSeq := r.mirSeq.getD 0, status := 1, tag := r.tag, entries := r.entries }
      let s := { (s.setSlot n fun _ => c) with crs := { (s.setSlot n fun _ => c).crs with nextSeq := (s.crs.nextSeq + 1) % 2 ^ 32 } }
      let s := s.setF Reg.CRS_CNT_PEAK (max (s.getF Reg.CRS_CNT_PEAK) s.inFlight)
      if l.isNone then (s.discard n stLate 0, stLate, some n)
      else match s.actsErr r.port r.acts with
        | some (st, i) => (s.discard n st i, st, some n)
        | none =>
          let s := if mir then s.wSend (copyOf (s.slot n) r.dl) else s
          (s, 1, some n)

/-- A course with an action on a part that becomes unavailable (R134): its pending courses are discarded. -/
def State.discardWhere (s : State) (p : State → Slot → Bool) (status : Nat) : State :=
  (List.range slotCount).foldl (fun (s : State) n =>
    let c := s.slot n
    if c.st = .pending ∧ p s c then s.discard n status 0 else s) s

end Sys2Proof.Machine
end

