-- ==== Sys2Proof/Machine/Refresh.lean ====
section
/-!
DEFINITION. When the scheduled instant of a course has come (R159, R163), and with it what still refreshes an output unit in the
present fc (R66): the watchdogs of DIO (R555–R558) and AO (R571, R572), their KICK and REARM.
-/
namespace Sys2Proof.Machine

/-- A position has been reached (R40). -/
def State.reached (s : State) (p : Nat) : Bool := decide ((s.pos + 2 ^ 64 - p % 2 ^ 64) % 2 ^ 64 < 2 ^ 63)

/-- The scheduled instant of a course has come. -/
def State.instant (s : State) (c : Slot) : Bool :=
  if c.rset then
    match c.ringFrame with
    | some n => decide ((n + 1) * s.base16 ≤ s.tw)
    | none => false
  else match c.sched with
    | .immediate => decide (c.accFc + 2 ≤ s.tm.fc)
    | .time t => decide (t ≤ s.tw)
    | .angle p => s.reached p
    | .standing => false

/-- A course is due to set: a set-mode course once committed, or as a copy, which no frame carries here. -/
def State.courseDue (s : State) (c : Slot) : Bool :=
  s.instant c && match c.st with
    | .pending => c.mirror != .waiting && (!c.rset || c.mirror == .copy)
    | .committed => true
    | _ => false

/-- A course with an action of some kind sets in this fc: its COURSE_SET still waits, it is due and its check passes. -/
def State.setsOne (s : State) (p : Action → Bool) : Bool :=
  s.comes fun i => match i with
    | .courseSet n =>
      let c := s.slot n
      decide (n < slotCount) && s.courseDue c && c.acts.any p && (decide (c.st = .committed) || (s.actsErr c.port c.acts).isNone)
    | _ => false

/-- A host write with some bit that acts still waits in this fc: at the interface's level, of the register at an offset. -/
def State.writesBit (s : State) (off k : Nat) : Bool :=
  s.comes fun i => match i with
    | .registerWrite ifc o v be => o == off && (ifc == .spi || be == 15) && v.toNat.testBit k && s.may ifc .operate
    | _ => false

/-! ### The watchdog of a DIO group -/

/-- A refresh of the group is still registered in this fc (R66, R555). -/
def State.dioComes (s : State) (g : Nat) : Bool :=
  s.dioOn g &&
    (s.setsOne (fun a => a.ty == 2 && !a.trip && a.tgt == g) || s.writesBit (Reg.DIO_G_CMD g) 0 ||
      s.comes fun i => match i with
        | .dioKick ifc h _ => h == g && s.may ifc .operate
        | .dioRearm ifc h v => h == g && v.toNat.testBit 0 && s.may ifc .operate
        | _ => false)

/-- The group's watchdog expires in this fc (R37, R66). -/
def State.dioDue (s : State) (g : Nat) : Bool :=
  s.flag (Reg.DIO_G_WDT_EN g) && (s.dgrp g).wdRun && s.expired (s.dgrp g).wdStart (s.getF (Reg.DIO_G_WDT_US g) * 1000) &&
    !s.dioComes g

/-- DIO_WATCHDOG_EXPIRY (R37, R555–R557). -/
def execDioWatchdogExpiry (g : Nat) (s : State) : Out := s.only (s.hasDioGrp g) <|
  .next (if s.dioDue g then s.latching fun s => s.dioExpire g (grpChans g) else s)

/-- REARM of a group (R558): an expiry of this fc comes first (R68); a refresh of this fc counts. -/
def State.dioRearm (s : State) (g : Nat) : State :=
  let s := if s.dioDue g then s.latching fun s => s.dioExpire g (grpChans g) else s
  if !s.flag (Reg.DIO_G_WST_SAFE g) then s
  else if !s.flag (Reg.DIO_G_WST_REFRESHED g) && !s.dioComes g then s.raise (Reg.DIO_G_WST_REARM_REJ g)
  else
    let s := s.setF (Reg.DIO_G_WST_SAFE g) 0
    let free := ((grpChans g).filter fun n => s.isOut n && !s.holding n).foldl (fun v n => putBit v n true) 0
    let s := s.latching fun s => s.setLatch free (s.rd Reg.DIO_CMDST)
    let s := s.setDgrp g fun d => { d with wdStart := s.tm.runt, wdRun := true }
    s.emit (dioGrpSrc g) 0xA009 2 0

/-- KICK of a group: a refresh while the group is READY (R555). -/
def State.dioKick (s : State) (g : Nat) : State := if s.dioOn g then s.dioRefresh g else s

/-- A write of DIO_Gg_CMD: a KICK is taken before a REARM of the same write (R558). -/
def State.dioCmd (s : State) (i : Iface) (g v : Nat) : State :=
  if v % 4 = 0 then s else
  s.command i .operate fun s =>
    let s := if v.testBit 0 then s.dioKick g else s
    if v.testBit 1 then s.dioRearm g else s

/-- DIO_KICK (R555): a write of DIO_Gg_CMD with KICK set. -/
def execDioKick (ifc : Iface) (g : Nat) (v : Word) (s : State) : Out :=
  s.only (s.hasDioGrp g) <| s.hostRow ifc <| .next (s.dioCmd ifc g (v.toNat ||| 1))

/-- DIO_REARM (R558): a write of DIO_Gg_CMD with REARM set. -/
def execDioRearm (ifc : Iface) (g : Nat) (v : Word) (s : State) : Out :=
  s.only (s.hasDioGrp g) <| s.hostRow ifc <| .next (s.dioCmd ifc g (v.toNat ||| 2))

/-! ### The watchdog of the AO unit -/

/-- A refresh of the unit is still registered in this fc (R66, R571). -/
def State.aoComes (s : State) : Bool :=
  s.on secAo &&
    (s.setsOne (fun a => a.ty == 3) || s.writesBit Reg.AO_CMD 0 ||
      s.comes fun i => match i with
        | .aoKick ifc _ => s.may ifc .operate
        | .aoRearm ifc v => v.toNat.testBit 0 && s.may ifc .operate
        | _ => false)

/-- The unit's watchdog expires in this fc (R37, R66). -/
def State.aoDue (s : State) : Bool :=
  s.flag Reg.AO_WDT_EN && s.ao.wdRun && s.expired s.ao.wdStart (s.getF Reg.AO_WDT_US * 1000) && !s.aoComes

/-- AO_WATCHDOG_EXPIRY (R37, R571, R572). -/
def execAoWatchdogExpiry (s : State) : Out := .next (if s.aoDue then s.aoExpire else s)

/-- REARM (R572, R573): an expiry of this fc comes first (R68); a refresh of this fc counts. -/
def State.aoRearm (s : State) : State :=
  let s := if s.aoDue then s.aoExpire else s
  let rsafe := (List.range 8).any fun n => s.flag (Reg.AO_CH_STAT_RSAFE n)
  if (s.flag Reg.AO_WST_SAFE || rsafe) && (s.flag Reg.AO_WST_REFRESHED || s.aoComes) then
    let s := s.setF Reg.AO_WST_SAFE 0
    let s := (List.range 8).foldl (fun (s : State) n => s.setF (Reg.AO_CH_STAT_RSAFE n) 0) s
    { s with ao := { s.ao with wdStart := s.tm.runt, wdRun := true } }.emit (aoSrc 0) 0xB006 2 0
  else s.raise Reg.AO_WST_REARM_REJ

/-- A write of AO_CMD: a KICK is taken before a REARM of the same write (R572). -/
def State.aoCmd (s : State) (i : Iface) (v : Nat) : State :=
  if v % 4 = 0 then s else
  s.command i .operate fun s =>
    let s := if v.testBit 0 && s.on secAo then s.aoRefresh else s
    if v.testBit 1 then s.aoRearm else s

/-- AO_KICK (R571): a write of AO_CMD with KICK set. -/
def execAoKick (ifc : Iface) (v : Word) (s : State) : Out := s.hostRow ifc <| .next (s.aoCmd ifc (v.toNat ||| 1))

/-- AO_REARM (R572): a write of AO_CMD with REARM set. -/
def execAoRearm (ifc : Iface) (v : Word) (s : State) : Out := s.hostRow ifc <| .next (s.aoCmd ifc (v.toNat ||| 2))

end Sys2Proof.Machine
end

