-- ==== Sys2Proof/Machine/Commits.lean ====
section
/-!
DEFINITION. The commit courses of the MTR unit and its commands (12: R391–R394, R405, R413).
-/
namespace Sys2Proof.Machine

/-- Causes of a commit (R395). -/
def causePeriod : Nat := 0
def causeTotRefire : Nat := 1
def causeFinal : Nat := 2
def causeHost : Nat := 3
def causePreset : Nat := 4

/-- The TOT action of every instance. -/
def totAll : Action := ⟨6 * 2 ^ 28 + 0xFF, 0, 0⟩

/-- A commit course of the MTR unit is in flight. -/
def State.commitInFlight (s : State) : Bool := s.crs.slots.any fun c => c.port == 7 && (c.st == .pending || c.st == .committed)

/-- The MTR unit wishes an immediate commit course. -/
def State.wish (s : State) (cause : Nat) (preset : Option (Nat × Nat)) : State :=
  s.setMtr fun m => { m with want := m.want ++ [⟨cause, preset⟩] }

/-- Metering period in ns (R391). -/
def State.meterPeriod (s : State) : Nat := max 1 (s.getF Reg.MTR_CTL_PERIOD) * 1000000

/-- The next instant of the period grid after now, in 2^−16 ns (R392). -/
def State.nextCommit (s : State) : Nat :=
  let p := s.meterPeriod * 2 ^ 16
  s.tw / sec16 * sec16 + (s.tw % sec16 / p + 1) * p

/-- Prepare the periodic course; a refusal makes the next one immediate (R392, R393). -/
def State.commitPeriodic (s : State) : State :=
  let r := { reqOf 7 (.time s.nextCommit) 1 [totAll] (.commit causePeriod none) with dl := 2 * s.meterPeriod / 1000 }
  let q := s.submit r
  match q.2.2 with
  | some _ => q.1
  | none => q.1.wish causePeriod none

/-- Prepare an immediate course; a refused one is tried again in a later fc (R393). -/
def State.commitNow (s : State) (w : CommitWish) : State :=
  let q := s.submit (reqOf 7 .immediate 0 [totAll] (.commit w.cause w.preset))
  match q.2.2 with
  | some _ => q.1.setMtr fun m => { m with want := m.want.drop 1 }
  | none => q.1

/-- COMMIT_COURSE_PREPARE (R392, R393): in the fc after the previous course, or for a commit asked for. -/
def execCommitCoursePrepare (s : State) : Out :=
  if !s.on secMtr then .next s
  else match s.mtr.want with
    | w :: _ => .next (s.commitNow w)
    | [] => if !s.commitInFlight && decide (s.mtr.doneFc < s.tm.fc) then .next s.commitPeriodic else .next s

/-- MTR_CMD.PRESET (R405, R409, R413): its KIND 9 record, and an immediate commit that brings the value. -/
def State.mtrPreset (s : State) (i : Iface) : State :=
  let n := s.getF Reg.MTR_TOT_SET_IDX_IDX
  let v := s.rd64 Reg.MTR_TOT_SET_0
  if n ≥ 160 then s
  else if s.auditRoom 1 then
    (s.audit 9 (s.auditAccess (s.level i).num (ifcNum i)) 8 n (s.totWork n) v).wish causePreset (some (n, v))
  else (s.raise Reg.MTR_AUD_STAT_FULL_REJ).deny i

/-- MTR_CMD.ACCEPT (R405, R413). -/
def State.mtrAccept (s : State) (i : Iface) : State :=
  (s.auditSys 10 (s.auditAccess (s.level i).num (ifcNum i)) 1 0 0 0).setMtr fun m => { m with accepted := true }

/-- A write of MTR_CMD: COMMIT at operate level, PRESET and ACCEPT at engineer level with the seal open. -/
def State.mtrCmd (s : State) (i : Iface) (v : Nat) : State :=
  let sealed := fun (act : State → State) (s : State) =>
    if s.may i .engineer && s.sealOpen then act (s.used i .engineer) else s.deny i
  let s := if v.testBit 0 then s.command i .operate fun s => s.wish causeHost none else s
  let s := if v.testBit 1 then sealed (fun s => s.mtrPreset i) s else s
  if v.testBit 2 then sealed (fun s => s.mtrAccept i) s else s

/-- MTR_COMMIT (R393). -/
def execMtrCommit (ifc : Iface) (v : Word) (s : State) : Out := s.hostRow ifc <| .next (s.mtrCmd ifc (v.toNat ||| 1))

/-- MTR_PRESET (R413). -/
def execMtrPreset (ifc : Iface) (v : Word) (s : State) : Out := s.hostRow ifc <| .next (s.mtrCmd ifc (v.toNat ||| 2))

/-- MTR_ACCEPT (R413). -/
def execMtrAccept (ifc : Iface) (v : Word) (s : State) : Out := s.hostRow ifc <| .next (s.mtrCmd ifc (v.toNat ||| 4))

end Sys2Proof.Machine
end

