-- ==== Sys2Proof/Machine/Runs.lean ====
section
/-!
DEFINITION. Metering runs (12, R384–R390): the inputs a task latches, mass flow, properties, alarms with their substitutes,
and the increments of a task cycle.
-/
namespace Sys2Proof.Machine

/-! ### Inputs (R403, R419) -/

/-- A run's entry. -/
def runZero : MtrRun := ⟨none, none, none, none, none, none, false⟩
def State.run (s : State) (r : Nat) : MtrRun := s.mtr.run.getD r runZero
def State.setRun (s : State) (r : Nat) (f : MtrRun → MtrRun) : State := s.setMtr fun m => { m with run := upd m.run r f }

/-- The source of a run's events. -/
def runSrc (r : Nat) : Nat := srcId 0x50 r

/-- A sealed parameter of a run (R403). -/
def State.par (s : State) (r i : Nat) : Rat := f32 (s.rd (Reg.MTR_M_PAR r i))

/-- KIND and INDEX of input i of a run. -/
def State.runKind (s : State) (r i : Nat) : Nat := bits (s.rd (Reg.MTR_M_IN_0 r + 4 * i)) 31 30
def State.runIdx (s : State) (r i : Nat) : Nat := bits (s.rd (Reg.MTR_M_IN_0 r + 4 * i)) 15 0

/-- The newest stage-B output of a channel, STALE while its group or profile does not run. -/
def State.newestB (s : State) (n : Nat) : Sample :=
  let x := ((s.fch n).bOut.head?.map fun p => p.2).getD (staleSample 0)
  if s.on (secAfe (n / 8)) && s.on (secProf (s.chProf n)) then x else { x with stale := true }

/-- Quality of a sample word (R419). -/
def Sample.qual (x : Sample) : Nat := b2n x.stale + 8 * b2n x.ovr + 16 * b2n x.sub + 32 * b2n x.uns

/-- Quality of a ring entry (R419, R476): STALE and STAMP follow its station's state; none of either in ROLE 2. -/
def State.entryQual (s : State) (e : Nat) : Nat :=
  if !s.on secYul then 1
  else if s.getF Reg.YUL_CTL_ROLE = 2 then 0
  else match s.getF (Reg.YUL_ST_STAT_STATE (s.getF (Reg.YUL_MAP_0_STN e))) with
    | 1 => 0
    | 4 => 2
    | _ => 1

/-- The quality of a DIO channel's values (R419): SUPPLY while its group's supply is MISSING. -/
def State.dioQual (s : State) (n : Nat) : Nat := if s.supply (n / 16) = supMissing then 4 else 0

/-- Input i of a run as it is latched. -/
def State.runIn (s : State) (r i : Nat) : RunIn :=
  let k := s.runIdx r i
  match s.runKind r i with
  | 0 =>
    let x := s.newestB k
    let mA : Rat := x.value * 10 / 2 ^ 23 * s.ratioOf k
    ⟨mA, x.qual, decide (mA < 36 / 10 ∨ 21 < mA)⟩
  | 1 => ⟨f32 (s.rd (Reg.YUL_PI k)), s.entryQual k, false⟩
  | 2 => ⟨(s.rd (Reg.DIO_CH_FREQ k) : Rat) / 1024, s.dioQual k, false⟩
  | _ => ⟨0, 0, false⟩

/-- The inputs of a run. -/
def State.runIns (s : State) (r : Nat) : List RunIn := (List.range 3).map (s.runIn r)

/-- What a core latches at a sync instant (R419). -/
def State.inImage (s : State) : InImage :=
  ⟨((List.range 4096).filter fun e => s.flag (Reg.YUL_MAP_0_EN e) && !s.flag (Reg.YUL_MAP_0_DIR e)).map fun e =>
      (e, s.rd (Reg.YUL_PI e), s.entryQual e),
    (List.range 32).map fun n => (s.getF (Reg.DIO_CH_STAT_Y n), s.rd (Reg.DIO_CH_CNT n), s.rd (Reg.DIO_CH_FREQ n), s.dioQual n),
    (List.range 8).map fun n => s.rd (Reg.AO_CH_RB n),
    (List.range 12).map fun f => (s.rd (Reg.PRT_F_PU f), s.rd (Reg.PRT_F_OP f)),
    (s.rd Reg.ANG_FREQ, s.rd Reg.ANG_STAT), s.mtr.comm⟩

/-- An input raises CAUSE 1 (R389). -/
def RunIn.bad (x : RunIn) : Bool := (x.qual &&& 0xB) != 0 || x.span

/-- A value of a 4–20 mA span. -/
def spanOf (lo hi mA : Rat) : Rat := lo + (hi - lo) * (mA - 4) / 16

/-! ### Properties (R386) -/

/-- ρ and h at (p, T) for a FLUID, or none outside its valid state; `band` is PAR_18, `body` the run's section. -/
def propsOf (fluid : Nat) (p t band : Rat) (body : List Byte) : Option (Rat × Rat) :=
  match fluid with
  | 0 => if 27315 / 100 ≤ t ∧ t ≤ 62315 / 100 ∧ p ≤ 100000000 ∧ Config.pSat t < p then some (Config.ifRho 1 p t, Config.ifH 1 p t) else none
  | 1 =>
    let below := if t ≤ 62315 / 100 then decide (p < Config.pSat t) else decide (p < Config.pB23 t)
    if 27315 / 100 ≤ t ∧ t ≤ 107315 / 100 ∧ p ≤ 100000000 ∧ below then some (Config.ifRho 2 p t, Config.ifH 2 p t) else none
  | 2 => if 611213 / 1000 ≤ p ∧ p ≤ 22064000 ∧ absR (t - Config.tSat p) ≤ band then some (Config.vapRho p, Config.vapH p) else none
  | _ => (Config.zAt body p t).map fun z => (p / (z * Config.rAir * t), 0)

/-- ρ_base of moist air at (PAR_15, PAR_16). -/
def State.rhoBase (s : State) (r : Nat) (body : List Byte) : Rat :=
  let p := s.par r 15
  let t := s.par r 16
  p / ((Config.zAt body p t).getD (Config.zOut body p t) * Config.rAir * t)

/-! ### Mass flow (R384, R385) -/

/-- Geometry of an orifice at the flowing temperature. -/
structure Orifice where
  d : Rat
  bigD : Rat
  beta : Rat
  deriving DecidableEq, Repr

/-- d, D and β of R385. -/
def State.orifice (s : State) (r : Nat) (t : Rat) : Orifice :=
  let d := s.par r 0 * (1 + s.par r 2 * (t - s.par r 9))
  let bigD := s.par r 1 * (1 + s.par r 3 * (t - s.par r 9))
  ⟨d, bigD, d / bigD⟩

/-- The flow of an orifice for a discharge coefficient. -/
def Orifice.flow (o : Orifice) (c eps dp rho : Rat) : Rat :=
  c / sqrtR (1 - o.beta ^ 4) * eps * piR / 4 * o.d ^ 2 * sqrtR (2 * dp * rho)

/-- Re of a flow. -/
def Orifice.re (o : Orifice) (qm mu : Rat) : Rat := 4 * qm / (piR * o.bigD * mu)

/-- The iteration of R385 from a flow, n times at most. -/
def Orifice.iterate (o : Orifice) (taps : Nat) (eps dp rho mu : Rat) : Nat → Rat → Rat
  | 0, q => q
  | n + 1, q =>
    let q' := o.flow (Config.rhgC taps o.beta (o.re q mu) o.bigD) eps dp rho
    if absR (q' - q) * 1000000000 < absR q' then q' else o.iterate taps eps dp rho mu n q'

/-- The flow of FM_ORIFICE, and whether it lies within the limits of ISO 5167-2 (R389 CAUSE 3). -/
def State.orificeFlow (s : State) (r : Nat) (dp p t rho : Rat) : Rat × Bool :=
  let o := s.orifice r t
  let taps := s.getF (Reg.MTR_M_CFG_TAPS r)
  let mu := s.par r 10
  let ratio := (p - dp) / p
  let eps := if s.getF (Reg.MTR_M_CFG_FLUID r) = 0 then 1 else Config.expans o.beta (s.par r 11) ratio
  let q0 := o.flow (Config.rhgStart taps o.beta o.bigD) eps dp rho
  let q := o.iterate taps eps dp rho mu 8 q0
  (q, decide (125 / 10000 ≤ o.d ∧ 5 / 100 ≤ o.bigD ∧ o.bigD ≤ 1 ∧ 1 / 10 ≤ o.beta ∧ o.beta ≤ 75 / 100 ∧
    Config.reMin taps o.beta o.bigD ≤ o.re q mu ∧ 75 / 100 ≤ ratio))

/-! ### A cycle of a run (R387–R390) -/

/-- A substitute: the last good value while PAR_17 lasts, then another (R390). -/
def State.substitute (s : State) (r : Nat) (last : Option (Rat × Nat)) (other : Rat) : Rat :=
  match last with
  | some (v, at_) => if ((s.tm.runt - at_ : Nat) : Rat) ≤ s.par r 17 * sec32 then v else other
  | none => other

/-- A pressure or temperature: of its input, its substitute, or the substitute value of a run without that input. -/
def State.runPT (s : State) (r i lo sub : Nat) (x : RunIn) (last : Option (Rat × Nat)) : Rat :=
  match s.runKind r i with
  | 3 => s.par r sub
  | k => if x.bad then s.substitute r last (s.par r sub)
    else if k = 0 then spanOf (s.par r lo) (s.par r (lo + 1)) x.val else x.val

/-- The flow input in its unit: Pa, Hz or mA. -/
def State.runFlowIn (s : State) (r : Nat) (x : RunIn) : Rat :=
  if s.getF (Reg.MTR_M_CFG_TYPE r) = 1 ∧ s.runKind r 0 = 0 then spanOf 0 (s.par r 4) x.val else x.val

/-- The mass flow of a flow input at ρ, and whether it lies within the limits of CAUSE 3. -/
def State.runFlow (s : State) (r : Nat) (v p t rho : Rat) : Rat × Bool :=
  match s.getF (Reg.MTR_M_CFG_TYPE r) with
  | 1 => s.orificeFlow r v p t rho
  | 2 => (v / s.par r 0 * rho, true)
  | 3 => ((if s.runKind r 0 = 1 then v else spanOf (s.par r 1) (s.par r 0) v) * rho, true)
  | _ => (0, true)

/-- A task cycle of a run: its state, registers and events, and the increments it hands over, none when the cycle overran;
`sync` is the run time of its sync instant. -/
def State.runCycle (s : State) (r : Nat) (ins : List RunIn) (sync : Nat) (late : Bool) : State :=
  let m := s.run r
  let inp := fun i => ins.getD i ⟨0, 0, false⟩
  let bad := fun i => s.runKind r i != 3 && (inp i).bad
  let body := ((s.sec (secRun r)).map fun x => x.body).getD []
  let fluid := s.getF (Reg.MTR_M_CFG_FLUID r)
  let p := s.runPT r 1 5 19 (inp 1) m.pres
  let t := s.runPT r 2 7 14 (inp 2) m.temp
  let pr := propsOf fluid p t (s.par r 18) body
  let lastProps := m.props.getD (0, 0)
  let rh := pr.getD lastProps
  let v := s.runFlowIn r (inp 0)
  let cut := !bad 0 && decide (v < s.par r 13)
  let fl := s.runFlow r v p t rh.1
  let limits := !bad 0 && !cut && !fl.2
  let cause : Nat := if bad 0 || bad 1 || bad 2 then 1 else if pr.isNone then 2 else if limits then 3 else 0
  let rh := if cause = 3 then lastProps else rh
  let qm := if bad 0 then s.substitute r m.flow 0 else if cut then 0 else if cause = 3 then (s.runFlow r v p t rh.1).1 else fl.1
  let href := s.par r 12
  let hneg := decide (fluid ≠ 3) && decide (rh.2 < href)
  let dt : Rat := ((sync - m.lastSync.getD sync : Nat) : Rat) / sec32
  let inc : RunInc :=
    if cause = 0 then
      ⟨sync, qm * dt * 1000, qm * dt / (if fluid = 3 then s.rhoBase r body else rh.1) * 1000000,
        if fluid = 3 || hneg then 0 else qm * dt * (rh.2 - href), 0⟩
    else ⟨sync, 0, 0, 0, qm * dt * 1000⟩
  let now := s.tm.runt
  let was := s.getF (Reg.MTR_M_STAT_STATE r)
  let s := s.setRun r fun m => { m with
    flow := if cause = 0 then some (qm, now) else m.flow,
    pres := if bad 1 then m.pres else some (p, now),
    temp := if bad 2 then m.temp else some (t, now),
    props := if cause = 0 then some rh else m.props,
    inc := if late then none else some inc }
  let s := ((s.wr (Reg.MTR_M_RATE r) (toF32 qm)).wr (Reg.MTR_M_RHO r) (toF32 rh.1)).wr (Reg.MTR_M_H r) (toF32 rh.2)
  let s := ((s.setB (Reg.MTR_M_STAT_HNEG r) hneg).setB (Reg.MTR_M_STAT_CUTOFF r) cut).setB (Reg.MTR_M_STAT_SUBST r) (cause != 0)
  let s := (s.setF (Reg.MTR_M_STAT_CAUSE r) cause).setF (Reg.MTR_M_STAT_STATE r) (if cause = 0 then 1 else 2)
  if cause ≠ 0 ∧ was ≠ 2 then (s.incF (Reg.MTR_M_ALARMS_COUNT r)).emit (runSrc r) 0x5004 1 cause
  else if cause = 0 ∧ was = 2 then s.emitOpen (runSrc r) 0x5005 2
  else s

/-- The increments of a run are added in the fc in which the output course sets (R387). -/
def State.runDeliver (s : State) (r : Nat) : State :=
  match (s.run r).inc with
  | none => s
  | some i =>
    let s := s.setRun r fun m => { m with inc := none, lastSync := some i.sync }
    (((s.totAdd (96 + 4 * r) i.mass).totAdd (96 + 4 * r + 1) i.vol).totAdd (96 + 4 * r + 2) i.energy).totAdd (96 + 4 * r + 3) i.fault

/-- The runs bound to a core that are configured and READY. -/
def State.coreRuns (s : State) (c : Nat) : List Nat :=
  (List.range 16).filter fun r =>
    s.flag (Reg.MTR_M_CFG_EN r) && s.getF (Reg.MTR_M_CFG_CORE r) == c && s.on (secRun r) && s.on secMtr

/-- Every run of a core takes its increments (R387, R624). -/
def State.coreDeliver (s : State) (c : Nat) : State := (s.coreRuns c).foldl State.runDeliver s

end Sys2Proof.Machine
end

