-- ==== Sys2Proof/Machine/Blocks.lean ====
section
/-!
DEFINITION. The block cores (13): the cycle grid, task cycles with overrun and fault, timers and edges, program images and
their store, loading, value patches and program exchange.
-/
namespace Sys2Proof.Machine

/-! ### The cycle grid (R415–R418) -/

/-- States of a task (BLK_Cc_STAT.STATE). -/
def tkNoprog : Nat := 0
def tkStopped : Nat := 1
def tkRunning : Nat := 2
def tkHold : Nat := 3
def tkFault : Nat := 4
def tkShed : Nat := 5

/-- The source of a core's events. -/
def coreSrc (c : Nat) : Nat := srcId 0x60 c

/-- The state of a task. -/
def State.task (s : State) (c : Nat) : Nat := s.getF (Reg.BLK_C_STAT_STATE c)

/-- A task is RUNNING or in HOLD on a core that is READY. -/
def State.cycles (s : State) (c : Nat) : Bool := s.on (secCore c) && (s.task c == tkRunning || s.task c == tkHold)

/-- The base index of the present time word (R415). -/
def State.baseIdx (s : State) : Nat := s.tw / s.base16

/-- K of a core, and the next base index after one that qualifies (R416). -/
def State.taskK (s : State) (c : Nat) : Nat := max 1 (s.getF (Reg.BLK_C_TASK_K c))
def State.nextQual (s : State) (c after : Nat) : Nat :=
  let k := s.taskK c
  after + 1 + (s.getF (Reg.BLK_C_TASK_PHASE c) + k - (after + 1) % k) % k

/-- The next sync instant of a task that it has not processed. -/
def State.nextSync (s : State) (c : Nat) : Nat := s.nextQual c (s.core c).done

/-- A task cycle in ns. -/
def State.taskNs (s : State) (c : Nat) : Nat := 31250 * 2 ^ s.getF Reg.BLK_BASE_NSEL * s.taskK c

/-- After a step or re-epoch each task waits for the next qualifying base instant (R418). -/
def State.taskResync (s : State) : State :=
  (List.range 4).foldl (fun (s : State) c =>
    if s.cycles c then (s.setCore c fun k => { k with done := s.baseIdx }).emitOpen (coreSrc c) 0x6006 2 else s) s

/-! ### Programs (R428, R429, R432) -/

/-- The largest program image. -/
def progMax : Nat := 0x100000

/-- The body of a section of a program image. -/
def progSec (b : List Byte) (id : Nat) : Option (List Byte) := ((imgSecs b).find? fun e => e.id == id).map fun e => e.body b
def progBody (b : List Byte) (id : Nat) : List Byte := (progSec b id).getD []

/-- The instance table (R432). -/
def progInsts (b : List Byte) : List Inst :=
  let t := progBody b 0x6001
  (List.range (t.length / 16)).map fun i =>
    let o := 16 * i
    ⟨imgN t o 4, imgN t (o + 4) 2, imgN t (o + 6) 2, imgN t (o + 8) 4, imgN t (o + 12) 2, imgN t (o + 14) 2⟩

/-- The output courses and ring inputs of the I/O map, the patch table, the retain ranges. -/
def progCourses (b : List Byte) : List (Bool × List (Nat × Nat)) := Config.ioCourses (progBody b 0x6003)
def progDescs (b : List Byte) : List Desc := readDescs (progBody b 0x6004) 0 ((progBody b 0x6004).length / 16)
def progRetain (b : List Byte) : List (Nat × Nat) := Config.retainMap (progBody b 0x6005)

/-- Two instances have one key. -/
def Inst.same (x y : Inst) : Bool := x.hash == y.hash && x.ty == y.ty && x.ver == y.ver

/-- The library table (R441): every type at version 1. -/
def libTypes : List Nat :=
  [1, 2, 3, 4, 5, 6, 7, 8, 9, 10, 0x100, 0x101, 0x102, 0x103, 0x200, 0x201, 0x202, 0x203, 0x204, 0x300, 0x301, 0x302, 0x303,
   0x304, 0x400, 0x401, 0x402]

/-- An instance key occurs twice. -/
def dupKeys : List Inst → Bool
  | [] => false
  | x :: t => (t.any fun y => x.same y) || dupKeys t

/-- The checks of R429 behind steps 1–5, without IO_MAP; 0 when all pass. -/
def progErr (b : List Byte) : Nat :=
  let is := progInsts b
  let n := (progBody b 0x6002).length
  let ret := progRetain b
  let cs := progCourses b
  if !([0x6000, 0x6001, 0x6002, 0x6003].all fun id => (progSec b id).isSome) ||
      (imgSecs b).any (fun e => decide (e.fmt > Config.secFmt 0x60 ∨ e.id < 0x6000 ∨ 0x6005 < e.id)) ||
      decide ((progBody b 0x6001).length % 16 ≠ 0) then 0x50
  else if decide (is.length = 0 ∨ is.length > 2048) || dupKeys is then 0x51
  else if decide (n > 0x40000) || is.any (fun x => decide (x.ofs + x.size > n)) ||
      decide (ret.foldl (fun (a : Nat) r => a + r.2) 0 > 0x4000) || ret.any (fun r => decide (r.1 + r.2 > n)) then 0x52
  else if is.any fun x => decide (x.ty < 0x1000) && !(decide (x.ty ∈ libTypes) && x.ver == 1) then 0x53
  else if decide (cs.length = 0 ∨ cs.length > 7) ||
      cs.any (fun c => decide (c.2.length = 0 ∨ c.2.length > 32) || c.2.any fun a => (Action.mk a.1 a.2 0).bad 1) then 0x54
  else if (progDescs b).any fun d => decide (d.cls > 1) then 0x56
  else 0

/-- The IO_MAP check of a core (R429). -/
def State.ioMapErr (s : State) (c : Nat) (b : List Byte) : Nat :=
  let cs := progCourses b
  let outs := cs.flatMap fun x => x.2.filterMap fun a => if (Action.mk a.1 a.2 0).ty = 4 then some (Action.mk a.1 a.2 0).tgt else none
  let outOk := outs.all fun e => decide (e < 4096) && s.flag (Reg.YUL_MAP_0_EN e) && s.flag (Reg.YUL_MAP_0_DIR e)
  let inOk := (Config.ioRingIn (progBody b 0x6003)).all fun e => decide (e < 4096) && s.flag (Reg.YUL_MAP_0_EN e)
  if outOk && inOk && decide (cs.length + 1 ≤ s.getF (Reg.CRS_PORT_QUOTA (1 + c))) then 0 else 0x55

/-- Steps 1–5 and the checks of R429. -/
def State.progVerify (s : State) (b : List Byte) : Nat :=
  let e := steps15 2 progMax s.kln.otpProg s.kln.otpRev b
  if e ≠ 0 then e else progErr b

/-- What LOAD verifies, IO_MAP included (R447); a store entry that fails step 1 gives FORMAT. -/
def State.loadErr (s : State) (c : Nat) (b : Option (List Byte)) : Nat :=
  match b with
  | none => 1
  | some b =>
    let e := s.progVerify b
    if e ≠ 0 then e else s.ioMapErr c b

/-- A program with its initial data (R435, R447). -/
def progInit (b : List Byte) : Prog := ⟨b, progBody b 0x6002, (progInsts b).map fun _ => ⟨0, false, 0, false, false⟩⟩

/-- The preset of an instance in cycles, for a task cycle in ns (R437). -/
def Prog.presetOf (p : Prog) (ns : Nat) (i : Inst) : Nat :=
  (Config.timerPreset ((p.data.drop i.ofs).take i.size) * 1000000 + ns - 1) / ns

/-- The presets of the instances for which `q` holds, converted (R437). -/
def Prog.convert (p : Prog) (ns : Nat) (q : Inst → Bool) : Prog :=
  { p with timers := p.timers.zip (progInsts p.image) |>.map fun x => if q x.2 then { x.1 with pre := p.presetOf ns x.2 } else x.1 }

/-- Data with bytes put at an offset. -/
def putBytes (d : List Byte) (o : Nat) (x : List Byte) : List Byte := (d.take o ++ x ++ d.drop (o + x.length)).take d.length

/-! ### Stamps and reports (R119, R120, R452) -/

/-- The stamp of a slot, zero when it is empty. -/
def stampOf (p : Option Prog) : Nat :=
  match p with
  | some p => imgStamp p.image
  | none => 0

/-- The stamp of the program running in a core: from the fc in which an exchange sets, that of the new one (R119, R120). -/
def State.progStamp (s : State) (c : Nat) : Nat :=
  let k := s.core c
  if k.hold.isSome then stampOf k.shadow else stampOf k.active

/-- Recompute the module stamp and the short stamp (R119, R120). -/
def State.stampNow (s : State) : State :=
  let str := beBytes 8 (s.rd64 Reg.KLN_STAMP_0) ++ (List.range 4).flatMap fun c => beBytes 8 (s.progStamp c)
  s.wr64 Reg.KLN_MSTAMP_0 (sha256 str / 2 ^ 192)

/-- The store entry a core would load at the next firing (R434): BOOT's, or the one its section names; none of no section. -/
def State.bootWould (s : State) (c : Nat) : Option Nat :=
  if s.flag (Reg.BLK_C_BOOT_VALID c) then some (s.getF (Reg.BLK_C_BOOT_ENTRY c))
  else (s.sec (secCore c)).map fun x =>
    bits ((((bodyWrites x.id x.body).reverse.find? fun (w : Nat × Nat) => w.1 == Reg.BLK_C_BOOT c).map fun w => w.2).getD 0) 2 0

/-- The store entry a core loads when it fires. -/
def State.bootEntry (s : State) (c : Nat) : Nat := (s.bootWould c).getD 0

/-- The image of a store entry. -/
def State.store (s : State) (e : Nat) : Option (List Byte) := s.blk.store.getD e none

/-- BLK_Cc_STAT.BOOT_DIFF of every core (R452). -/
def State.blkBootDiff (s : State) : State :=
  (List.range 4).foldl (fun (s : State) c =>
    let st := ((s.store (s.bootEntry c)).map imgStamp).getD 0
    s.setB (Reg.BLK_C_STAT_BOOT_DIFF c) ((s.core c).active.isSome && stampOf (s.core c).active != st)) s

/-- The stamp registers of a store entry. -/
def State.psStamp (s : State) (e : Nat) : State := s.wr64 (Reg.BLK_PS_0 e) (((s.store e).map imgStamp).getD 0)

/-- The registers that report a core's slots. -/
def State.slotRegs (s : State) (c : Nat) : State :=
  let k := s.core c
  let n := ((k.active.map fun p => (progInsts p.image).length).getD 0)
  let len := ((k.active.map fun p => p.data.length).getD 0)
  let s := (s.wr64 (Reg.BLK_C_STAMP_A_0 c) (stampOf k.active)).wr64 (Reg.BLK_C_STAMP_S_0 c) (stampOf k.shadow)
  ((s.setF (Reg.BLK_C_INST_COUNT c) n).setF (Reg.BLK_C_INST_KIB c) ((len + 1023) / 1024)).blkBootDiff

/-! ### Retain banks (R436) -/

/-- The newest retain bank of a core, and whether it is bank A. -/
def CoreSt.newest (k : CoreSt) : Option (RetainBank × Bool) :=
  match k.bankA, k.bankB with
  | some x, some y => if x.seq > y.seq then some (x, true) else some (y, false)
  | some x, none => some (x, true)
  | none, some y => some (y, false)
  | none, none => none

/-- Copy the RETAIN ranges of the active slot into the bank that does not hold the newest valid copy. -/
def State.retainCopy (s : State) (c : Nat) : State :=
  match (s.core c).active with
  | none => s
  | some p =>
    let is := progInsts p.image
    let parts := (progRetain p.image).filterMap fun r =>
      (is.find? fun (x : Inst) => decide (x.ofs ≤ r.1 ∧ r.1 + r.2 ≤ x.ofs + x.size)).map fun x =>
        (x.hash, x.ty, x.ver, r.1 - x.ofs, (p.data.drop r.1).take r.2)
    s.setCore c fun k =>
      let seq := (k.newest.map fun b => b.1.seq + 1).getD 1
      let k := { k with retain := false }
      match k.newest with
      | some (_, true) => { k with bankB := some ⟨seq, parts⟩ }
      | _ => { k with bankA := some ⟨seq, parts⟩ }

/-- The initial data of a program with the RETAIN ranges restored whose instance exists (R435, R436). -/
def CoreSt.restored (k : CoreSt) (b : List Byte) : Prog :=
  let p := progInit b
  let is := progInsts b
  match k.newest with
  | none => p
  | some (bank, _) =>
    let put := fun (d : List Byte) (x : Nat × Nat × Nat × Nat × List Byte) =>
      match is.find? fun i => i.hash == x.1 && i.ty == x.2.1 && i.ver == x.2.2.1 with
      | some i => if x.2.2.2.1 + x.2.2.2.2.length ≤ i.size then putBytes d (i.ofs + x.2.2.2.1) x.2.2.2.2 else d
      | none => d
    { p with data := bank.parts.foldl put p.data }

/-! ### Starting and stopping a task (R434, R435, R599) -/

/-- The task begins at the first sync instant after this fc, its presets converted (R437). -/
def State.taskRun (s : State) (c : Nat) : State :=
  let ns := s.taskNs c
  (s.setCore c fun k => { k with
    exec := none, hold := none, done := s.baseIdx, active := k.active.map fun p => p.convert ns fun _ => true }).setF (Reg.BLK_C_STAT_STATE c) tkRunning

/-- The task leaves the cycle grid in a state. -/
def State.taskEnd (s : State) (c st : Nat) : State :=
  ((s.setCore c fun k => { k with exec := none }).setF (Reg.BLK_C_STAT_STATE c) st).setF (Reg.BLK_C_STAT_OVERRUN c) 0

/-- A core becomes READY after firing or a refire of its section: its active slot is loaded and the task starts, or NOPROG. -/
def State.coreFire (s : State) (c : Nat) : State :=
  let b := s.store (s.bootEntry c)
  let e := s.loadErr c b
  match b with
  | some img =>
    if e = 0 then ((s.setCore c fun k => { k with active := some (k.restored img), vpDue := [] }).taskRun c).slotRegs c
    else (((s.setCore c fun k => { k with active := none }).taskEnd c tkNoprog).slotRegs c).emitOpen (coreSrc c) 0x6003 1
  | none => (((s.setCore c fun k => { k with active := none }).taskEnd c tkNoprog).slotRegs c).emitOpen (coreSrc c) 0x6003 1

/-- A core stops with its unit. -/
def State.coreOff (s : State) (c : Nat) : State :=
  (s.setCore c fun k => { k with hold := none }).taskEnd c (if (s.core c).active.isSome then tkStopped else tkNoprog)

/-- The governor sheds a core: it halts with its data kept, and its runs accumulate nothing (R599). -/
def State.coreShed (s : State) (c : Nat) : State :=
  let st := s.task c
  let s := if st = tkRunning ∨ st = tkHold then
      (s.coreRuns c).foldl (fun (s : State) r => s.setRun r fun m => { m with shed := true, inc := none }) s
    else s
  (s.setCore c fun k => { k with was := st, hold := none }).taskEnd c tkShed

/-- A shed core restarts as it was. -/
def State.coreUnshed (s : State) (c : Nat) : State :=
  let st := (s.core c).was
  if st = tkRunning ∨ st = tkHold then s.taskRun c else s.setF (Reg.BLK_C_STAT_STATE c) st

/-! ### Timers and edges (R437–R440) -/

/-- One scan of a timer or edge detector: type, input. -/
def TimerSt.scan (t : TimerSt) (ty : Nat) (x : Bool) : TimerSt :=
  let p := t.pre
  match ty with
  | 1 =>
    let et := if x && !t.mem then 0 else if x then min (t.et + 1) p else t.et
    ⟨p, x, et, t.run, x && decide (p ≤ et)⟩
  | 2 =>
    let fall := !x && t.mem
    let et := if fall then 0 else if x then t.et else min (t.et + 1) p
    let run := t.run || fall
    ⟨p, x, et, run, x || (run && decide (et < p))⟩
  | 3 =>
    let start := x && !t.mem && !t.run
    let et := if start then 0 else if t.run then t.et + 1 else t.et
    let run := (start || t.run) && decide (et < p)
    ⟨p, x, et, run, run⟩
  | 4 => ⟨p, x, t.et, t.run, x && !t.mem⟩
  | 5 => ⟨p, x, t.et, t.run, !x && t.mem⟩
  | _ => t

/-- The scans of a cycle: instance index and input of each timer or edge detector that is scanned. -/
def Prog.scan (p : Prog) (scans : List (Nat × Bool)) : Prog :=
  let is := progInsts p.image
  scans.foldl (fun (p : Prog) x =>
    match is[x.1]? with
    | some i => { p with timers := upd p.timers x.1 fun t => t.scan i.ty x.2 }
    | none => p) p

/-! ### Value patches (R442–R446) -/

/-- Values of a patch written into instance data, for a task cycle in ns: the preset of an instance they lie in is converted
(R437). -/
def Prog.patch (p : Prog) (ns : Nat) (vals : List (Nat × Nat)) : Prog :=
  let ds := vals.filterMap fun v => ((progDescs p.image).find? fun x => x.vidx == v.1).map fun x => (x, v.2)
  { p with data := ds.foldl (fun (d : List Byte) (x : Desc × Nat) => putBytes d x.1.ofs (leBytes x.1.width x.2)) p.data }.convert ns fun i =>
    ds.any fun (x : Desc × Nat) => decide (i.ofs ≤ x.1.ofs ∧ x.1.ofs < i.ofs + i.size)

/-- Values that wait for the next execution are written. -/
def State.vpFlush (s : State) (c : Nat) : State :=
  let ns := s.taskNs c
  s.setCore c fun k => { k with vpDue := [], active := k.active.map fun p => p.patch ns k.vpDue }

/-- A VPATCH action takes effect (R445): at once, unless an execution that started earlier is still running. -/
def State.vpApply (s : State) (c : Nat) (vals : List (Nat × Nat)) : State :=
  let s := s.setCore c fun k => { k with vpDue := k.vpDue ++ vals }
  let s := match (s.core c).exec with
    | some e => if e.start = s.tm.runt then s.vpFlush c else s
    | none => s.vpFlush c
  ((s.setF (Reg.BLK_C_STAT_VP_PEND c) 0).raise (Reg.BLK_C_VP_STAT_DONE c)).irq .blk (4 * c + 2)

/-- The error of a patch entry against a program's patch table (R442), for a level. -/
def entryErr (b : List Byte) (l : Level) (v : Nat × Nat) : Nat :=
  match (progDescs b).find? fun x => x.vidx == v.1 with
  | none => 0x40
  | some d => if !l.ge (if d.cls = 0 then .operate else .engineer) then 0x40 else if !d.admits v.2 then 0x41 else 0

/-- BLK_Cc_CMD.VPATCH. -/
def State.vpatchCmd (s : State) (i : Iface) (c : Nat) : State :=
  let n := s.getF (Reg.BLK_C_VP_CTL_COUNT c)
  let fail := fun (s : State) (err entry : Nat) =>
    ((s.setF (Reg.BLK_C_VP_STAT_ERR c) err).setF (Reg.BLK_C_VP_STAT_ENTRY c) entry).setF (Reg.BLK_C_VP_STAT_COURSE c) 0xFF
  if s.copiesOnly (1 + c) then s.blkErr 0x58 0 c
  else if n = 0 ∨ n > 64 then fail s 0x42 0
  else if s.vpInFlight c then fail s 0x59 0
  else
    let es := (List.range n).map fun k => (s.getF (Reg.BLK_C_VP_IDX_VIDX c k), s.rd (Reg.BLK_C_VP_VAL c k))
    match (s.core c).active with
    | none => fail s 0x40 0
    | some p =>
      match (es.map (entryErr p.image (s.level i))).findIdx? fun e => e != 0 with
      | some k =>
        let low := (progDescs p.image).any fun d => d.vidx == (es.getD k (0, 0)).1 && !(s.level i).ge (if d.cls = 0 then .operate else .engineer)
        fail (if low then s.deny i else s) ((es.map (entryErr p.image (s.level i))).getD k 0) k
      | none =>
        let gen := ((s.core c).vpGen + 1) % 256
        let s := s.setCore c fun k => { k with vpGen := gen, vpBuf := es }
        let first := s.nextQual c s.baseIdx
        let ahead := toSigned 32 (s.rd (Reg.BLK_C_VP_CYC c) + 2 ^ 32 - s.rd (Reg.BLK_C_CYCLE c))
        let idx : Nat := if s.flag (Reg.BLK_C_VP_CTL_WHEN c) then ((first : Int) + (ahead - 1) * (s.taskK c : Int)).toNat else first + s.taskK c
        let sched : Sched := if s.cycles c then .time (idx * s.base16) else .immediate
        let r := { reqOf (1 + c) sched 0 [⟨11 * 2 ^ 28 + c, gen, 0⟩] (.vpatch c gen) with entries := es }
        let s := (((s.setF (Reg.BLK_C_VP_STAT_ERR c) 0).setF (Reg.BLK_C_VP_STAT_ENTRY c) 0).setF (Reg.BLK_C_VP_STAT_DONE c) 0).setF (Reg.BLK_C_STAT_VP_PEND c) 1
        let q := s.submit r
        let s := q.1.setF (Reg.BLK_C_VP_STAT_COURSE c) (q.2.2.getD 0xFF)
        if q.2.1 = 1 then s else s.setF (Reg.BLK_C_STAT_VP_PEND c) 0

/-- BLK_VPATCH (R442). -/
def execBlkVpatch (ifc : Iface) (c : Nat) (_v : Word) (s : State) : Out := s.hostRow ifc <|
  .next (if c < 4 ∧ s.on (secCore c) then s.vpatchCmd ifc c else s)

/-! ### Exchange (R447–R452) -/

/-- The program of the shadow slot after the carry-over (R449): initial data, and the data and timers of every instance with
the same key; `ns` is the task cycle. -/
def carryOver (ns : Nat) (old new : Prog) : Prog :=
  let os := (progInsts old.image).zip old.timers
  let base := (progInit new.image).convert ns fun _ => true
  let step := fun (p : Prog) (x : Inst × Nat) =>
    match os.find? fun o => o.1.same x.1 with
    | some o =>
      { p with
        data := putBytes p.data x.1.ofs ((old.data.drop o.1.ofs).take (min o.1.size x.1.size)),
        timers := p.timers.set x.2 o.2 }
    | none => p
  (progInsts new.image).zipIdx.foldl step base

/-- The exchange report (R451). -/
def State.exchReport (s : State) (c : Nat) (old new : Prog) : State :=
  let os := progInsts old.image
  let ns := progInsts new.image
  let carried := fun (x : Inst) => os.any fun o => o.same x
  let named := fun (l : List Inst) (x : Inst) => l.any fun o => o.hash == x.hash
  let reset := ns.map fun x => !carried x && named os x
  let s := s.setF (Reg.BLK_C_XR_0_CARRIED c) (ns.countP carried)
  let s := s.setF (Reg.BLK_C_XR_0_NEW c) (ns.countP fun x => !named os x)
  let s := s.setF (Reg.BLK_C_XR_1_REMOVED c) (os.countP fun x => !named ns x)
  let s := s.setF (Reg.BLK_C_XR_1_RESET c) (reset.countP id)
  let s := (List.range 64).foldl (fun (s : State) w =>
    s.wr (Reg.BLK_C_XMAP c w) ((List.range 32).foldl (fun (v : Nat) b => putBit v b (reset.getD (32 * w + b) false)) 0)) s
  let s := s.emitOpen (coreSrc c) 0x6005 2
  if reset.any id then s.emitOpen (coreSrc c) 0x6004 1 else s

/-- The slots and banks swap (R450, R451). -/
def State.exchSwap (s : State) (c : Nat) : State :=
  match (s.core c).active, (s.core c).shadow with
  | some old, some new =>
    let s := s.setCore c fun k => { k with active := some new, shadow := some old, hold := none }
    let s := if s.task c = tkHold then s.setF (Reg.BLK_C_STAT_STATE c) tkRunning else s
    ((s.slotRegs c).exchReport c old new).irq .blk (4 * c + 1)
  | _, _ => s.setCore c fun k => { k with hold := none }

/-- An EXCH action takes effect (R449): a running task enters HOLD, the copy begins. -/
def State.exchSet (s : State) (c : Nat) : State :=
  let s := if s.task c = tkRunning then s.setF (Reg.BLK_C_STAT_STATE c) tkHold else s
  s.setCore c fun k => { k with
    hold := some (s.baseIdx, false),
    exec := match k.exec with
      | some e => if e.start = s.tm.runt then none else some e
      | none => none }

/-- EXCH_COPY_DONE (R449): the copy completes once no execution runs; a task outside the cycle grid swaps at once. -/
def execExchCopyDone (c : Nat) (s : State) : Out := s.only (decide (c < 4)) <|
  let k := s.core c
  match k.hold, k.exec, k.active, k.shadow with
  | some (n, false), none, some old, some new =>
    let ns := s.taskNs c
    let s := s.setCore c fun k => { k with shadow := some (carryOver ns old new), hold := some (n, true) }
    .next (if s.task c = tkHold then s else s.exchSwap c)
  | _, _, _, _ => .next s

/-- An EXCH course of a core sets at base index n (its copy of the state is not scanned in that cycle). -/
def State.exchDue (s : State) (c n : Nat) : Bool :=
  s.crs.slots.any fun x => (x.st == .pending || x.st == .committed) && x.sched == .time (n * s.base16) &&
    (x.acts.any fun a => a.ty == 12 && a.tgt == c) && x.acts.all fun a => s.actErr x.port a == 0

/-! ### Task cycles (R417–R426) -/

/-- A run of a restarted core begins its interval here, and the unmetered time is reported (R599). -/
def State.runRestart (s : State) (r : Nat) : State :=
  let m := s.run r
  if m.shed then
    let ns := ((s.tm.runt - m.lastSync.getD s.tm.runt) / 2 ^ 32)
    (s.setRun r fun m => { m with shed := false, lastSync := some s.tm.runt }).emit (runSrc r) 0x0109 1 ns
  else s

/-- A cycle starts: inputs latched, timers and edge detectors scanned (R419, R420). -/
def State.taskStart (s : State) (c n : Nat) (scans : List (Nat × Bool)) : State :=
  let s := (s.coreRuns c).foldl State.runRestart s
  let runs := (s.coreRuns c).map fun r => (r, s.runIns r)
  s.setCore c fun k => { k with
    exec := some ⟨n, s.tm.runt, n * s.base16, s.inImage, runs, 0, false⟩,
    active := k.active.map fun p => p.scan scans }

/-- TASK_SYNC (R419): the next sync instant of a task has come. -/
def execTaskSync (c : Nat) (scans : List (Nat × Bool)) (s : State) : Out :=
  let n := s.nextSync c
  if decide (c < 4) && s.cycles c && decide (n ≤ s.baseIdx) then
    let s := (s.wrapF (Reg.BLK_C_CYCLE_COUNT c)).setCore c fun k => { k with done := n }
    let s := if s.copiesOnly (1 + c) then s.coreDeliver c else s
    let k := s.core c
    match k.exec with
    | some e =>
      .next ((s.setCore c fun k => { k with exec := some { e with skipped := e.skipped + 1 } }).count (Reg.BLK_C_OVR_SKIPPED c))
    | none =>
      match k.hold with
      | some (n0, copied) => if copied && decide (n0 < n) then .next ((s.exchSwap c).taskStart c n scans) else .next s
      | none => if s.exchDue c n then .next s else .next (s.taskStart c n scans)
  else .next s

/-- S′ − MARGIN of an execution has passed (R424), in 2^−16 ns. -/
def State.taskLate (s : State) (c : Nat) (e : Exec) : Bool :=
  decide ((e.idx + s.taskK c) * s.base16 < s.tw + s.getF (Reg.BLK_C_LIM_MARGIN c) * s.fcPer / 2 ^ 16)

/-- A cycle overruns (R424). The number of instants skipped is not known yet: a free value (log 17). -/
def State.taskOverrun (s : State) (c : Nat) (e : Exec) : State :=
  let s := s.setCore c fun k => { k with exec := some { e with late := true } }
  let s := (s.setF (Reg.BLK_C_STAT_OVERRUN c) 1).count (Reg.BLK_C_OVR_OVERRUNS c)
  (s.emitOpen (coreSrc c) 0x6001 1).irq .blk (4 * c)

/-- TASK_OVERRUN (R424). -/
def execTaskOverrun (c : Nat) (s : State) : Out := s.only (decide (c < 4)) <|
  match (s.core c).exec with
  | some e => if !e.late && s.taskLate c e then .next (s.taskOverrun c e) else .next s
  | none => .next s

/-- TASK_FAULT (R426): the execution lasts longer than XLIM task cycles. -/
def execTaskFault (c : Nat) (s : State) : Out := s.only (decide (c < 4)) <|
  match (s.core c).exec with
  | some e =>
    if s.tm.runt > e.start + s.getF (Reg.BLK_C_LIM_XLIM c) * s.taskNs c * 2 ^ 32 then
      .next ((((s.setCore c fun k => { k with hold := none }).taskEnd c tkFault).emitOpen (coreSrc c) 0x6002 1).irq .blk (4 * c + 3))
    else .next s
  | none => .next s

/-- Submit the output courses of a cycle (R421–R423); `outs` are the values of each course's actions. -/
def State.taskOutputs (s : State) (c : Nat) (e : Exec) (outs : List (List Nat)) : State :=
  match (s.core c).active with
  | none => s
  | some p =>
    (progCourses p.image).zipIdx.foldl (fun (s : State) x =>
      let acts := x.1.2.zipIdx.map fun a => (⟨a.1.1, a.1.2, (outs.getD x.2 []).getD a.2 0⟩ : Action)
      let n := e.idx + s.taskK c + b2n x.1.1
      let q := s.submit { reqOf (1 + c) (.time (n * s.base16)) 0 acts (.out c) with rset := x.1.1 }
      match q.2.2 with
      | some _ => q.1
      | none => q.1.discardHook { slotZero with status := q.2.1, tag := .out c }) s

/-- TASK_EXECUTION_COMPLETE (R421): `data` are the bytes the opaque code leaves in instance data (R428), `outs` the outputs. -/
def execTaskExecutionComplete (c : Nat) (data : List (Nat × List Byte)) (outs : List (List Nat)) (s : State) : Out := s.only (decide (c < 4)) <|
  match (s.core c).exec with
  | none => .next s
  | some e =>
    let s := if !e.late && s.taskLate c e then s.taskOverrun c e else s
    let late := e.late || s.taskLate c e
    let ns := (s.tm.runt - e.start) / 2 ^ 32
    let s := s.setCore c fun k => { k with
      exec := none,
      active := k.active.map fun p => { p with data := data.foldl (fun (d : List Byte) x => putBytes d x.1 x.2) p.data } }
    let s := (s.wr (Reg.BLK_C_EXEC_LAST c) ns).tally (Reg.BLK_C_EXEC_MAX_NS c) (max ns (s.rd (Reg.BLK_C_EXEC_MAX c)))
    let s := s.setF (Reg.BLK_C_STAT_OVERRUN c) 0
    let s := e.runs.foldl (fun (s : State) r => if s.runRunning r.1 then s.runCycle r.1 r.2 e.start late else s) s
    let s := if late || s.copiesOnly (1 + c) then s else s.taskOutputs c e outs
    let s := s.vpFlush c
    let s := if (s.core c).retain then s.retainCopy c else s
    .next (if s.cycles c && decide (s.nextSync c ≤ s.baseIdx) then
      let n := s.nextSync c
      ((s.wrapF (Reg.BLK_C_CYCLE_COUNT c)).setCore c fun k => { k with done := n }).count (Reg.BLK_C_OVR_SKIPPED c)
    else s)

/-! ### Commands (R430, R431, R435, R447, R448) -/

/-- BLK_CMD.STORE of a store entry. -/
def State.blkStore (s : State) (i : Iface) (entry : Nat) : State :=
  if !s.may i .engineer then (s.deny i).blkErr 0x31 entry 0
  else
    let s := s.used i .engineer
    let a := s.getF Reg.BLK_SRC_ADDR_ADDR * 16
    let n := s.rd Reg.BLK_SRC_LEN
    if s.blk.op.isSome then s.blkErr 0x30 entry 0
    else if a + n > s.dramSize ∨ n > progMax ∨ n % 16 ≠ 0 then s.blkErr 0x37 entry 0
    else
      let b := s.dramRd a n
      let e := s.progVerify b
      if e ≠ 0 then s.blkErr e entry 0
      else
        ({ s with blk := { s.blk with op := some (entry, b), store := s.blk.store.set entry none } }.psStamp entry).blkBootDiff

/-- BLK_STORE (R430). -/
def execBlkStore (ifc : Iface) (v : Word) (s : State) : Out := s.hostRow ifc <| .next (s.blkStore ifc (bits v.toNat 10 8))

/-- BLK_STORE_DONE (R430). -/
def execBlkStoreDone (s : State) : Out :=
  match s.blk.op with
  | none => .next s
  | some (e, b) =>
    .next ((({ s with blk := { s.blk with op := none, store := s.blk.store.set e (some b) } }.psStamp e).blkBootDiff).irq .blk 16)

/-- BLK_CMD.INVALIDATE of a store entry (R431). -/
def State.blkInvalidate (s : State) (i : Iface) (entry : Nat) : State :=
  if !s.may i .engineer then (s.deny i).blkErr 0x31 entry 0
  else
    let s := s.used i .engineer
    if s.blk.op.isSome then s.blkErr 0x30 entry 0
    else if (List.range 4).any fun c => s.bootWould c == some entry then s.blkErr 0x58 entry 0
    else ({ s with blk := { s.blk with store := s.blk.store.set entry none } }.psStamp entry).blkBootDiff

/-- BLK_INVALIDATE (R431). -/
def execBlkInvalidate (ifc : Iface) (v : Word) (s : State) : Out := s.hostRow ifc <| .next (s.blkInvalidate ifc (bits v.toNat 10 8))

/-- A write of BLK_CMD. -/
def State.blkCmd (s : State) (i : Iface) (v : Nat) : State :=
  match bits v 3 0 with
  | 1 => s.blkStore i (bits v 10 8)
  | 2 => s.blkInvalidate i (bits v 10 8)
  | _ => s

/-- START: from STOPPED the task continues, from FAULT it restarts at its initial data (R435). -/
def State.blkStart (s : State) (c : Nat) : State :=
  match s.task c, (s.core c).active with
  | 1, some _ => s.taskRun c
  | 4, some p => (s.setCore c fun k => { k with active := some (k.restored p.image), vpDue := [] }).taskRun c
  | _, _ => s

/-- BLK_START (R435). -/
def execBlkStart (ifc : Iface) (c : Nat) (_v : Word) (s : State) : Out := s.hostRow ifc <|
  .next (s.command ifc .operate fun s => if c < 4 ∧ s.on (secCore c) then s.blkStart c else s)

/-- STOP: the task leaves RUNNING or HOLD; an exchange whose copy is complete swaps. -/
def State.blkStop (s : State) (c : Nat) : State :=
  if s.task c = tkRunning ∨ s.task c = tkHold then
    let s := (s.taskEnd c tkStopped).vpFlush c
    match (s.core c).hold with
    | some (_, true) => s.exchSwap c
    | _ => s
  else s

/-- BLK_STOP (R435). -/
def execBlkStop (ifc : Iface) (c : Nat) (_v : Word) (s : State) : Out := s.hostRow ifc <|
  .next (s.command ifc .operate fun s => if c < 4 ∧ s.on (secCore c) then s.blkStop c else s)

/-- LOAD of a store entry into the shadow slot (R447). -/
def State.blkLoad (s : State) (i : Iface) (c entry : Nat) : State :=
  if !s.may i .engineer then (s.deny i).blkErr 0x31 entry c
  else
    let s := s.used i .engineer
    if (s.core c).loading.isSome then s.blkErr 0x30 entry c
    else if (s.core c).hold.isSome then s.blkErr 0x58 entry c
    else (s.setCore c fun k => { k with loading := some entry }).setF (Reg.BLK_C_STAT_SHADOW c) 1

/-- BLK_LOAD (R447). -/
def execBlkLoad (ifc : Iface) (c : Nat) (v : Word) (s : State) : Out := s.hostRow ifc <|
  .next (if c < 4 ∧ s.on (secCore c) then s.blkLoad ifc c (bits v.toNat 10 8) else s)

/-- BLK_LOAD_DONE (R447). -/
def execBlkLoadDone (c : Nat) (s : State) : Out := s.only (decide (c < 4)) <|
  match (s.core c).loading with
  | none => .next s
  | some entry =>
    let b := s.store entry
    let e := s.loadErr c b
    let ns := s.taskNs c
    let s := s.setCore c fun k => { k with
      loading := none, shadow := if e = 0 then b.map fun x => (progInit x).convert ns fun _ => true else none }
    let s := s.setF (Reg.BLK_C_STAT_SHADOW c) (if e = 0 then 2 else 3)
    let s := if e = 0 then s else (s.setF (Reg.BLK_C_XSTAT_ERR c) e).blkErr e entry c
    .next (s.slotRegs c)

/-- EXCH (R448): a course with one EXCH action. -/
def State.blkExch (s : State) (i : Iface) (c : Nat) : State :=
  if !s.may i .engineer then (s.deny i).blkErr 0x31 0 c
  else
    let s := s.used i .engineer
    if s.copiesOnly (1 + c) then s.blkErr 0x58 0 c
    else
      let sched : Sched := if s.cycles c then .time ((s.nextQual c s.baseIdx + s.taskK c) * s.base16) else .immediate
      (s.submit (reqOf (1 + c) sched 0 [⟨12 * 2 ^ 28 + c, 0, 0⟩] (.exch c))).1

/-- BLK_EXCH (R448). -/
def execBlkExch (ifc : Iface) (c : Nat) (_v : Word) (s : State) : Out := s.hostRow ifc <|
  .next (if c < 4 ∧ s.on (secCore c) then s.blkExch ifc c else s)

/-- A write of BLK_Cc_CMD. -/
def State.coreCmd (s : State) (i : Iface) (c v : Nat) : State :=
  if c < 4 ∧ s.on (secCore c) then
    match bits v 3 0 with
    | 1 => s.command i .operate fun s => s.blkStart c
    | 2 => s.command i .operate fun s => s.blkStop c
    | 3 => s.blkLoad i c (bits v 10 8)
    | 4 => s.blkExch i c
    | 5 => s.vpatchCmd i c
    | _ => s
  else s

end Sys2Proof.Machine
end

