-- ==== Sys2Proof/Machine/Dma.lean ====
section
/-!
DEFINITION. What the DMA channels share (21): the ring in host memory, completion and stop of a descriptor, frames delivered
to host software on channel 2 (R510, R658–R662); the transmit time-stamp queues (R103–R106).
-/
namespace Sys2Proof.Machine

/-! ### Descriptors (R658–R660) -/

/-- Fields of a descriptor's CTL word. -/
def descOwn (d : Descriptor) : Bool := bit d.ctl.toNat 31
def descIrq (d : Descriptor) : Bool := bit d.ctl.toNat 30
def descDir (d : Descriptor) : Bool := bit d.ctl.toNat 28
def descSpace (d : Descriptor) : Bool := bit d.ctl.toNat 26
def descLen (d : Descriptor) : Nat := bits d.ctl.toNat 23 0

/-- STATUS codes (R660). -/
def dmaOk : Nat := 0
def dmaRange : Nat := 1
def dmaAccess : Nat := 2
def dmaHostErr : Nat := 3
def dmaAlign : Nat := 4
def dmaAbort : Nat := 5
def dmaOwn : Nat := 6
def dmaSize : Nat := 7

/-- A channel processes descriptors: EN, and HEAD differs from TAIL (R658). -/
def State.dmaRuns (s : State) (c : Nat) : Bool :=
  s.flag (Reg.HST_DMA_CTL_EN c) && s.getF (Reg.HST_DMA_HEAD_IDX c) != s.getF (Reg.HST_DMA_TAIL_IDX c)

/-- Host address of the descriptor at HEAD. -/
def State.dmaAt (s : State) (c : Nat) : Nat :=
  s.rd (Reg.HST_DMA_RING_LO c) / 32 * 32 + s.rd (Reg.HST_DMA_RING_HI c) * 2 ^ 32 + 32 * s.getF (Reg.HST_DMA_HEAD_IDX c)

/-- HEAD advances. -/
def State.dmaAdvance (s : State) (c : Nat) : State :=
  s.setF (Reg.HST_DMA_HEAD_IDX c) ((s.getF (Reg.HST_DMA_HEAD_IDX c) + 1) % max 1 (s.getF (Reg.HST_DMA_SIZE_N c)))

/-- A code other than OK stops the channel (R660). -/
def State.dmaFail (s : State) (c code : Nat) : State :=
  ((s.setF (Reg.HST_DMA_CTL_EN c) 0).setF (Reg.HST_DMA_STAT_ERR c) code).dmaIrq c (Reg.HST_DMA_IRQ_ERR c)

/-- Completion (R660): STATUS and DONE_TW (and MODULE on channel 2) first, then CTL with OWN cleared, then HEAD. -/
def State.dmaFinish (s : State) (c ctl code bytes : Nat) (modul : Option Nat) (doneTw : Nat) : State :=
  let a := s.dmaAt c
  let s := s.out (.hostWrite (a + 4) (leBytes 4 (code * 2 ^ 24 + bytes % 2 ^ 24)))
  let s := match modul with
    | some v => s.out (.hostWrite (a + 0x10) (leBytes 4 v))
    | none => s
  let s := s.out (.hostWrite (a + 0x14) (leBytes 12 (twPack doneTw)))
  let s := s.out (.hostWrite a (leBytes 4 (ctl % 2 ^ 31)))
  let s := s.dmaAdvance c
  let s := if bit ctl 30 then s.dmaIrq c (Reg.HST_DMA_IRQ_DONE c) else s
  if code = dmaOk then s else s.dmaFail c code

/-- Channel 2 delivers a received frame, or drops it when the queue has no room (R510, R658, R662). -/
def State.hostDeliver (s : State) (port : Nat) (lanB : Bool) (bytes : List Byte) (stamp : Nat) (d : Descriptor) : State :=
  let lost := fun (s : State) => (s.count Reg.ETH_HOST_STAT_RX_LOST).irq .eth 5
  let m := some (port + 8 * b2n lanB)
  if !s.dmaRuns 2 then lost s
  else if !descOwn d then lost (s.dmaFail 2 dmaOwn)
  else if descLen d < 2048 ∨ descLen d < bytes.length then s.dmaFinish 2 d.ctl.toNat dmaSize 0 m stamp
  else if d.host % 4 ≠ 0 then s.dmaFinish 2 d.ctl.toNat dmaAlign 0 m stamp
  else if d.hostErr then s.dmaFinish 2 d.ctl.toNat dmaHostErr 0 m stamp
  else (s.out (.hostWrite d.host bytes)).dmaFinish 2 d.ctl.toNat dmaOk bytes.length m stamp

/-! ### Transmit time-stamp queues (R103–R106) -/

/-- A PTP port before it has heard anything. -/
def ptpPortZero : PtpPort := PtpPort.reset

/-- A PTP port, the timebase unit, and changes of them. -/
def State.pp (s : State) (p : Nat) : PtpPort := s.tbu.ports.getD p ptpPortZero
def State.setTbu (s : State) (f : TbuSt → TbuSt) : State := { s with tbu := f s.tbu }
def State.setPp (s : State) (p : Nat) (f : PtpPort → PtpPort) : State := s.setTbu fun t => { t with ports := upd t.ports p f }

/-- A signed compensation register of R96 in 2^−16 ns. -/
def State.comp16 (s : State) (off : Nat) : Int := toSigned 32 (s.rd off) * 256

/-- The egress stamp, in 2^−16 ns, of a frame that leaves a port now (R96). -/
def State.egress (s : State) (p : Nat) : Nat := ((s.tw : Int) + s.comp16 (Reg.TBU_P_LAT_TX p)).toNat

/-- The ingress stamp of a raw stamp. -/
def State.ingress (s : State) (p raw : Nat) : Nat := ((raw : Int) - s.comp16 (Reg.TBU_P_LAT_RX p)).toNat

/-- A stamp enters its port's queue, or is dropped when it holds 16 entries (R103, R105). -/
def State.txqAdd (s : State) (p : Nat) (e : TxStamp) : State :=
  if (s.pp p).txq.length ≥ 16 then
    ((s.raise (Reg.TBU_P_STAT_TSQ_OVF p)).count (Reg.TBU_P_TXQ_LOST_COUNT p)).irq .tbu 5
  else s.setPp p fun x => { x with txq := x.txq ++ [e] }

end Sys2Proof.Machine
end

