-- ==== Sys2Proof/Machine/Transmit.lean ====
section
/-!
DEFINITION. How a station port transmits (15): the order of R497 with the preemption of R498, redundancy tags (R494), egress
stamps of host frames (R511).
-/
namespace Sys2Proof.Machine

/-- Change the state of the station ports. -/
def State.setEth (s : State) (f : EthSt → EthSt) : State := { s with eth := f s.eth }

/-- P0 and P1 together as DANP or DANH (R491). -/
def State.pairPort (s : State) (p : Nat) : Bool := decide (p < 2) && decide (s.getF (Reg.ETH_P_CFG_ROLE p) ∈ [2, 3])

/-- A port takes station LAN frames: up, ROLE 1 to 3. -/
def State.lanPort (s : State) (p : Nat) : Bool := decide (p < 4) && s.linkUp p && decide (s.getF (Reg.ETH_P_CFG_ROLE p) ∈ [1, 2, 3])

/-- The ports a frame of one port leaves on. -/
def State.txPorts (s : State) (p : Nat) : List Nat := (if s.pairPort p then [0, 1] else [p]).filter s.lanPort

/-- The address a port uses, byte 5 inverted in bit 0 on side B (R611). -/
def State.portMac (s : State) (p : Nat) : Nat :=
  (s.rd (Reg.ETH_P_MAC_1 p) % 2 ^ 16 * 2 ^ 32 + s.rd (Reg.ETH_P_MAC_0 p)) ^^^ s.getF Reg.WYT_STAT_SIDE

/-! ### Frames and their places -/

/-- A port as it transmits, and a change of it. -/
def State.ptx (s : State) (p : Nat) : PortTx := s.eth.ptx.getD p ⟨[], none⟩
def State.setPtx (s : State) (p : Nat) (f : PortTx → PortTx) : State := s.setEth fun e => { e with ptx := upd e.ptx p f }

/-- The time a frame takes at 1000BASE-X (8 ns a byte) with preamble, FCS, gap and the 6 bytes of R494, in 2^−32 ns. -/
def wireTime (w : TxWait) : Nat :=
  let n := match w.what with
    | .host b | .forward b => b.length + 4
    | .goose k .. => Config.frameBytes 0 k
    | .sv k .. => Config.frameBytes 1 k
    | .ptp k .. => Config.frameBytes 2 (match k with
      | .sync => 0
      | .delayReq => 1
      | .pdelayReq => 2
      | .pdelayResp => 3
      | .followUp => 8
      | .delayResp => 9
      | .pdelayRespFollowUp => 10
      | .announce => 11
      | _ => 13)
    | .prpSupervision => Config.frameBytes 3 0
    | .ring _ => 0
  (n + 20 + (if w.tag.isSome then 6 else 0)) * 8 * 2 ^ 32

/-- A frame of the module's own goes to some ports: on a pair it bears one sequence number with each port's LAN identifier, or an
HSR tag (R494). -/
def State.send (s : State) (ps : List Nat) (prio k : Nat) (what : TxFrame) (stamp : Option Nat) : State :=
  let pair := ps.any s.pairPort
  let seq := s.eth.redSeq
  let s := if pair then s.setEth fun e => { e with redSeq := (seq + 1) % 65536 } else s
  ps.zipIdx.foldl (fun (s : State) (x : Nat × Nat) =>
    let tag := if s.pairPort x.1 then some (if s.getF (Reg.ETH_P_CFG_ROLE x.1) = 2 then x.1 + 1 else 3, seq) else none
    let w : TxWait := ⟨prio, s.tm.fc, k, what, tag, if x.2 = 0 then stamp else none⟩
    s.setPtx x.1 fun y => { y with wait := y.wait ++ [w] }) s

/-- The place of one waiting frame before another: priority, then the fc in which it became ready, then the dataset (R497, R498). -/
def TxWait.before (a b : TxWait) : Bool :=
  decide (a.prio < b.prio ∨ a.prio = b.prio ∧ (a.fc < b.fc ∨ a.fc = b.fc ∧ a.k < b.k))

/-- The next frame of a port, and the rest. -/
def txNext : List TxWait → Option (TxWait × List TxWait)
  | [] => none
  | w :: t =>
    match txNext t with
    | some (x, r) => if x.before w then some (x, w :: r) else some (w, t)
    | none => some (w, [])

/-- A frame begins. -/
def State.txBegin (s : State) (p : Nat) (w : TxWait) (rest : List TxWait) : State :=
  let st := w.stamp.map fun id => (⟨id, s.egress p, s.epoch⟩ : TxStamp)
  (s.setPtx p fun y => { y with wait := rest, cur := some (w, s.tm.nom + wireTime w, st) }).out (.frame p w.tag w.what)

/-- A port is free for a frame of a priority that becomes ready now (R497). -/
def State.txFree (s : State) (p prio : Nat) : Bool :=
  let y := s.ptx p
  (match y.cur with
    | some c => decide (c.2.1 ≤ s.tm.nom)
    | none => true) && y.wait.all fun w => decide (prio < w.prio)

/-- The frame of a port ends: the stamp of a host frame enters the queue (R511). -/
def State.txDone (s : State) (p : Nat) : State :=
  match (s.ptx p).cur with
  | some (_, till, st) =>
    if s.tm.nom < till then s
    else
      let s := s.setPtx p fun y => { y with cur := none }
      match st with
      | some e => s.txqAdd p e
      | none => s
  | none => s

/-- A port at the end of a fc: the frame of R497's order begins, and a trip frame ends one of priority 3 to 5 (R498), which is sent
again whole unless it was forwarded. -/
def State.portTick (s : State) (p : Nat) : State :=
  if !s.lanPort p then s.setPtx p fun _ => ⟨[], none⟩
  else
    let s := s.txDone p
    let y := s.ptx p
    match txNext y.wait, y.cur with
    | some (w, r), none => s.txBegin p w r
    | some (w, r), some (c, _, _) =>
      if w.prio = 1 ∧ 3 ≤ c.prio then
        ((s.count (Reg.ETH_P_CNT_PREEMPT p)).out (.frameCut p)).txBegin p w (if c.prio = 4 then r else c :: r)
      else s
    | none, _ => s

/-- The station ports at the end of a fc. -/
def State.txTick (s : State) : State := (List.range 4).foldl State.portTick s

end Sys2Proof.Machine
end

