-- ==== Sys2Proof/Machine/Ports.lean ====
section
/-!
DEFINITION. The station ports (15): received frames, duplicate discard, GOOSE publishing and subscriptions with the deferral of
first frames (R535), sampled values, host pass-through, supervision frames.
-/
namespace Sys2Proof.Machine

/-- One of the station ports is READY. -/
def State.ethOn (s : State) : Bool := (List.range 4).any fun p => s.on (secEth p)

/-- 1 ms in 2^−32 ns. -/
def ms32 : Nat := 1000000 * 2 ^ 32

/-! ### Duplicate discard (R495) -/

/-- Entries of the duplicate table, and its forget time in ns. -/
def dupSize : Nat := 1024
def dupForget : Nat := 400000000

/-- Duplicate discard of a frame with its source and sequence number: none where it is a duplicate. -/
def State.dupPass (s : State) (port : Nat) (tag : Option (Nat × Nat)) : Option State :=
  match tag with
  | none => some s
  | some (mac, seq) =>
    if !s.pairPort port then some s
    else if s.eth.dup.any fun e => e.mac == mac && e.seq == seq && !s.expired e.at_ dupForget then none
    else
      let full := decide (s.eth.dup.length ≥ dupSize)
      let s := if full then s.count Reg.ETH_PRP_CNT_EVICT else s
      some (s.setEth fun e => { e with dup := (if full then e.dup.drop 1 else e.dup) ++ [⟨mac, seq, s.tm.runt⟩] })

/-- A duplicate is discarded and counted. -/
def State.dupDrop (s : State) : State := s.count Reg.ETH_PRP_CNT_DUP

/-- Handle a frame a station port takes, unless it is a duplicate. -/
def State.frameRx (s : State) (port : Nat) (tag : Option (Nat × Nat)) (act : State → State) : State :=
  if !s.lanPort port then s
  else match s.dupPass port tag with
    | none => s.dupDrop
    | some s => act s

/-- PRP_ENTRY_FORGET (R495). -/
def execPrpEntryForget (s : State) : Out :=
  .next (s.setEth fun e => { e with dup := e.dup.filter fun x => !s.expired x.at_ dupForget })

/-- UNMATCHED_FRAME_RX (R493 row 6). -/
def execUnmatchedFrameRx (port : Nat) (tag : Option (Nat × Nat)) (s : State) : Out := s.only (decide (port < 4)) <|
  .next (s.frameRx port tag fun s => s.count (Reg.ETH_P_CNT_DROP port))

/-- LAN B of a pair. -/
def State.lanB (s : State) (port : Nat) : Bool := s.pairPort port && port == 1

/-- A destination is taken for host software (R493 row 5). -/
def State.hostDst (s : State) (p dst : Nat) : Bool :=
  dst == s.portMac p || dst == 2 ^ 48 - 1 ||
    (List.range 8).any fun i =>
      s.flag (Reg.ETH_MCAST_1_EN i) && dst == s.getF (Reg.ETH_MCAST_1_MAC_HI i) * 2 ^ 32 + s.rd (Reg.ETH_MCAST_0 i)

/-- HOST_FRAME_RX (R510); `always`: a PTP management message or a supervision frame (R493, R494). -/
def execHostFrameRx (port dst : Nat) (always : Bool) (raw : Nat) (bytes : List Byte) (tag : Option (Nat × Nat))
    (d : Descriptor) (s : State) : Out := s.only (decide (port < 4)) <|
  .next (s.frameRx port tag fun s =>
    if always || s.hostDst port dst then s.hostDeliver port (s.lanB port) bytes (s.ingress port raw) d
    else s.count (Reg.ETH_P_CNT_DROP port))

/-- HSR_FRAME_FORWARD (R496): a frame from `src` goes on to the other port, unless it is addressed to this node only; the node's own
is removed. -/
def execHsrFrameForward (port src : Nat) (bytes : List Byte) (s : State) : Out := s.only (decide (port < 4)) <|
  if s.lanPort port && s.pairPort port && s.getF (Reg.ETH_P_CFG_ROLE port) == 3 && s.lanPort (1 - port) &&
      src != s.portMac 0 && src != s.portMac 1 && beNat (bytes.take 6) != s.portMac port then
    .next (s.setPtx (1 - port) fun y => { y with wait := y.wait ++ [⟨4, s.tm.fc, 0, .forward bytes, none, none⟩] })
  else .next s

/-- PRP_SUPERVISION_TX (R494): every 2,000 ms. -/
def execPrpSupervisionTx (s : State) : Out :=
  let ps := (s.txPorts 0).filter fun p => s.pairPort p
  if ps ≠ [] ∧ s.eth.superv + 2000 * ms32 ≤ s.tm.runt then
    let s := s.send ps 5 0 .prpSupervision none
    .next (s.setEth fun e => { e with superv := s.tm.runt })
  else .next s

/-- A frame of host software goes to its port at priority 5 (R497, R511); every frame of it counts as a non-PTP frame in the stamp's
identifier (log 231). -/
def State.hostTransmit (s : State) (d : Descriptor) : State :=
  if !s.dmaRuns 3 then s
  else if !descOwn d then s.dmaFail 3 dmaOwn
  else
    let ctl := d.ctl.toNat
    let n := descLen d
    let m := d.modul.toNat
    let port := bits m 2 0
    if n < 60 ∨ n > 1518 then s.dmaFinish 3 ctl dmaSize 0 none s.tw
    else if d.host % 4 ≠ 0 then s.dmaFinish 3 ctl dmaAlign 0 none s.tw
    else if port > 3 then s.dmaFinish 3 ctl dmaRange 0 none s.tw
    else if d.hostErr then s.dmaFinish 3 ctl dmaHostErr 0 none s.tw
    else
      let ps := s.txPorts port
      let stamp := if bit m 8 then ps.head?.map fun p => p * 2 ^ 29 + 0xF * 2 ^ 24 + bits m 31 16 else none
      let s := s.send ps 5 0 (.host (d.data.take n)) stamp
      s.dmaFinish 3 ctl dmaOk n none s.tw

/-- HOST_FRAME_TRANSMIT (R511). -/
def execHostFrameTransmit (d : Descriptor) (s : State) : Out := .next (s.hostTransmit d)

/-! ### GOOSE publishing (R497–R502, R535) -/

/-- A published dataset beside its registers. -/
def State.gp (s : State) (k : Nat) : GpSt := s.eth.gp.getD k ⟨0, 0, 0, none, 0, []⟩
def State.setGp (s : State) (k : Nat) (f : GpSt → GpSt) : State := s.setEth fun e => { e with gp := upd e.gp k f }

/-- Ports that carry dataset k: those of PORTS, and both of a pair (R499). -/
def State.gpPorts (s : State) (k : Nat) : List Nat := (s.portsOf (s.getF (Reg.ETH_GP_CFG_PORTS k))).filter s.lanPort

/-- The field t (R502): seconds in UTC and 24 bits of fraction. -/
def State.gooseT (s : State) (tw : Nat) : Nat :=
  (tw / sec16 + 2 ^ 32 - s.getF Reg.ETH_UTC_OFS) % 2 ^ 32 * 2 ^ 24 + tw % sec16 * 2 ^ 24 / sec16

/-- The quality byte (R502). -/
def State.gooseQ (s : State) : Nat :=
  let st := s.getF Reg.TBU_STAT_STATE
  b2n (s.flag Reg.ETH_UTC_VALID) * 128 + (if st < 2 then 32 else 0) + (if st = 2 then 20 else 10)

/-- A frame of dataset k goes to its ports, with priority 1 where it is a trip dataset (R497); a module that does not publish sends
none (R618). -/
def State.gooseFrame (s : State) (k st sq tw members interval : Nat) : State :=
  if s.standby then s else
  let f := TxFrame.goose k st sq (s.gooseT tw) s.gooseQ (2 * interval) members
    (if s.flag (Reg.ETH_GP_CFG_STAMP k) then s.shortStamp else 0)
  let trip := s.flag (Reg.ETH_GP_CFG_TRIP k)
  s.send (s.gpPorts k) (if trip then 1 else 3) (if trip then k else 0) f none

/-- A first frame leaves and the repetition of R501 runs from it. -/
def State.gooseFirst (s : State) (k st tw members : Nat) : State :=
  let t := s.getF (Reg.ETH_GP_INT_TMIN k)
  let s := s.setGp k fun g => { g with st := st, tw := tw, members := members, interval := t, next := some (s.tm.runt + t * ms32) }
  s.gooseFrame k st 0 tw members t

/-- First frames of path 3 in this window (R521, R535). -/
def State.gooseRoom (s : State) (k : Nat) : Bool :=
  decide (s.getF (Reg.EVT_P_WIN_COUNT 3) + (s.gpPorts k).length ≤ s.getF (Reg.EVT_P_CFG_BUDGET 3))

/-- Path 3 counts the first frames of a dataset without TRIP. -/
def State.gooseCount (s : State) (k : Nat) : State :=
  let b := s.getF (Reg.EVT_P_CFG_BUDGET 3)
  let n := (s.gpPorts k).length
  let was := s.getF (Reg.EVT_P_WIN_COUNT 3)
  let s := s.incF (Reg.EVT_P_WIN_COUNT 3) n
  if was < b ∧ was + n ≥ b then (s.setF (Reg.EVT_P_WIN_OVER 3) 1).irq .evt 3 else s

/-- Dataset k changes to the given members (R500). -/
def State.gooseChange (s : State) (k members : Nat) : State :=
  if !s.flag (Reg.ETH_GP_CFG_EN k) then s else
  let st := s.rd (Reg.ETH_GP_ST k)
  let st := if st = 2 ^ 32 - 1 then 1 else st + 1
  let s := ((s.wr (Reg.ETH_GP_VAL k) members).wr (Reg.ETH_GP_ST k) st).wr (Reg.ETH_GP_SQ k) 0
  if s.standby then s.setGp k fun g => { g with st := st, tw := s.tw, members := members, next := none, deferred := [] }
  else if s.flag (Reg.ETH_GP_CFG_TRIP k) then s.gooseFirst k st s.tw members
  else if (s.gp k).deferred = [] ∧ s.gooseRoom k then (s.gooseCount k).gooseFirst k st s.tw members
  else
    (s.setGp k fun g => { g with next := none, deferred := g.deferred ++ [(st, s.tw, members)] }).tally (Reg.EVT_P_GROUT_COUNT 3) (s.getF (Reg.EVT_P_GROUT_COUNT 3) + 1)

/-- A GOOSE action on a dataset: a course that leaves every member unchanged sends nothing (R500). -/
def State.gooseWrite (s : State) (k old new : Nat) : State :=
  if old = new then s else s.gooseChange k new

/-- The members of a dataset (R499). -/
def State.gpMask (s : State) (k : Nat) : Nat := 2 ^ (min 32 (s.getF (Reg.ETH_GP_CFG_NB k))) - 1

/-- The module stamp is recomputed, and datasets that carry the short stamp change with it (R119, R120, R500). -/
def State.restamp (s : State) : State :=
  let old := s.shortStamp
  let s := s.stampNow
  if s.shortStamp = old then s
  else (List.range 32).foldl (fun (s : State) k =>
    if s.flag (Reg.ETH_GP_CFG_STAMP k) then s.gooseChange k (s.rd (Reg.ETH_GP_VAL k)) else s) s

/-- GOOSE_RETRANSMIT (R501). -/
def execGooseRetransmit (k : Nat) (s : State) : Out := s.only (decide (k < 32)) <|
  match (s.gp k).next with
  | none => .next s
  | some t =>
    if t ≤ s.tm.runt ∧ s.flag (Reg.ETH_GP_CFG_EN k) ∧ s.standby = false ∧ s.ethOn then
      let g := s.gp k
      let i := min (2 * g.interval) (s.getF (Reg.ETH_GP_INT_TMAX k))
      let sq := s.rd (Reg.ETH_GP_SQ k)
      let sq := if sq = 2 ^ 32 - 1 then 1 else sq + 1
      let s := (s.wr (Reg.ETH_GP_SQ k) sq).setGp k fun g => { g with interval := i, next := some (s.tm.runt + i * ms32) }
      .next (s.gooseFrame k g.st sq g.tw g.members i)
    else .next s

/-- Deferred first frames leave at the start of a window while there is room, in stNum order (R535). -/
def State.gooseDeferred (s : State) : State :=
  let all := (List.range 32).flatMap fun k => (s.gp k).deferred.map fun d => (k, d)
  let all := sortBy (fun (a b : Nat × Nat × Nat × Nat) => decide (a.2.1 ≤ b.2.1)) all
  all.foldl (fun (s : State) x =>
    if (s.gp x.1).deferred.head? = some x.2 ∧ s.gooseRoom x.1 then
      ((s.gooseCount x.1).setGp x.1 fun g => { g with deferred := g.deferred.drop 1 }).gooseFirst x.1 x.2.1 x.2.2.1 x.2.2.2
    else s) s

/-- EVT_WINDOW_START (R521, R525, R535): the first fc of a window of 10 ms. -/
def execEvtWindowStart (s : State) : Out :=
  if s.on secEvt && decide (s.evt.windowIdx < s.runNs / windowNs) then .next (s.windowStart.gooseDeferred) else .next s

/-! ### GOOSE subscriptions (R503–R505) -/

/-- A subscription beside its registers. -/
def State.gs (s : State) (k : Nat) : GsSt := s.eth.gs.getD k ⟨0, 0, 0, 0, false⟩

/-- Source of a subscription's events (R515). -/
def gsSrc (k : Nat) : Nat := srcId 0x80 (0x80 + k)

/-- A frame of an enabled subscription (R503–R505). -/
def State.gooseTake (s : State) (g : GooseFrame) : State :=
  let k := g.sub
  let x := s.gs k
  if s.rd (Reg.ETH_GS_CONFREV k) ≠ g.confRev then
    ((s.raise (Reg.ETH_GS_STAT_CONFREV k)).emitOpen (gsSrc k) 0x8003 1).irq .eth 3
  else if g.simulation && !s.flag (Reg.ETH_GS_CFG_SIM k) then s
  else if x.heard ∧ x.st = g.stNum ∧ x.sq = g.sqNum then s
  else
    let s := (s.wr (Reg.ETH_GS_VAL k) g.members).setF (Reg.ETH_GS_STAT_ST k) g.stNum
    let s := s.setF (Reg.ETH_GS_STAT_STALE k) 0
    let s := s.setEth fun e => { e with gs := upd e.gs k fun _ => ⟨s.tm.runt, g.ttl, g.stNum, g.sqNum, true⟩ }
    if x.st ≠ g.stNum ∧ s.flag (Reg.ETH_GS_CFG_EVT k) then s.emit (gsSrc k) 0x8005 2 (g.members % 2 ^ 32) else s

/-- GOOSE_FRAME_RX (R493 row 3, R503); with GPASS the frame also goes to host software. -/
def execGooseFrameRx (port : Nat) (g : GooseFrame) (raw : Nat) (bytes : List Byte) (tag : Option (Nat × Nat))
    (d : Descriptor) (s : State) : Out := s.only (decide (port < 4)) <|
  if decide (g.sub < 128) && s.flag (Reg.ETH_GS_CFG_EN g.sub) then
    .next (s.frameRx port tag fun s =>
      let s := s.gooseTake g
      if s.flag (Reg.ETH_P_CFG_GPASS port) then s.hostDeliver port (s.lanB port) bytes (s.ingress port raw) d else s)
  else .next s

/-- A frame that a subscription will accept still waits in this fc (R66, R504). -/
def State.gooseComes (s : State) (k : Nat) : Bool :=
  s.comes fun i => match i with
    | .gooseFrameRx p g _ _ _ _ =>
      g.sub == k && s.lanPort p && s.rd (Reg.ETH_GS_CONFREV k) == g.confRev && (!g.simulation || s.flag (Reg.ETH_GS_CFG_SIM k)) &&
        !((s.gs k).heard && (s.gs k).st == g.stNum && (s.gs k).sq == g.sqNum)
    | _ => false

/-- GOOSE_TIMEOUT (R504). -/
def execGooseTimeout (k : Nat) (s : State) : Out := s.only (decide (k < 128)) <|
  let x := s.gs k
  if x.heard && s.ethOn && s.flag (Reg.ETH_GS_CFG_EN k) && !s.flag (Reg.ETH_GS_STAT_STALE k) && s.expired x.at_ (x.ttl * 1000000) &&
      !s.gooseComes k then
    .next (((s.setF (Reg.ETH_GS_STAT_STALE k) 1).emitOpen (gsSrc k) 0x8002 1).irq .eth 2)
  else .next s

/-! ### Sampled values (R506–R509) -/

/-- Samples per second, and ASDUs per frame. -/
def svRate (fast : Bool) : Nat := if fast then 14400 else 4800
def svAsdus (fast : Bool) : Nat := if fast then 6 else 2

/-- Time word (2^−16 ns) of the sample with an index since the PTP epoch. -/
def svTime (rate idx : Nat) : Nat := idx * sec16 / rate

/-- The channels of a published stream (R506). -/
def State.svChs (s : State) (k : Nat) : List Nat :=
  (List.range 8).map fun v => (leBytes 8 (s.rd64 (Reg.ETH_SVP_SRC_0 k))).getD v 0 |>.toNat

/-- The quality of a published value (R507), in the bits of IEC 61850-9-2. -/
def svQuality (x : Sample) : Nat :=
  if x.stale then 1 else (if x.ovr || x.uns then 3 else 0) + (if x.ovr then 4 else 0) + (if x.uns then 0x100 else 0)

/-- A published value in units of 1 mA or 10 mV; the rounding is open, and one outside INT32 is free. -/
def State.svValue (s : State) (ch v j : Nat) (x : Sample) : Int :=
  let r := openR ((x.value : Rat) * 10 / 2 ^ 23 * s.ratioOf ch * (if v < 4 then 1000 else 100))
  if -(2 ^ 31 : Int) ≤ r ∧ r < 2 ^ 31 then r else toSigned 32 (Config.freeValue (s.freeCtr + j))

/-- smpSynch (R506). -/
def State.svSynch (s : State) : Nat :=
  match s.getF Reg.TBU_STAT_STATE with
  | 2 => 2
  | 3 => 1
  | _ => 0

/-- The published streams go on with the first frame whose samples all lie ahead, and subscribed ones with the next frame
received (at the unit's start, a step and a re-epoch). -/
def State.svResync (s : State) : State :=
  s.setEth fun e => { e with
    svp := (List.range 8).map fun k =>
      let fast := s.flag (Reg.ETH_SVP_CFG_RATE k)
      (s.tw * svRate fast / sec16 / svAsdus fast + 1) * svAsdus fast
    svs := List.replicate 8 none }

/-- SV_PUBLISH (R506): the samples of stream k's next frame are there. -/
def execSvPublish (k : Nat) (s : State) : Out :=
  let fast := s.flag (Reg.ETH_SVP_CFG_RATE k)
  let rate := svRate fast
  let n := svAsdus fast
  let i0 := s.eth.svp.getD k 0
  let chs := s.svChs k
  let last := svTime rate (i0 + n - 1)
  if decide (k < 8) && s.flag (Reg.ETH_SVP_CFG_EN k) && s.ethOn && decide (last ≤ s.tw) &&
      chs.all fun c => fourAfter (s.fch c).bOut (s.instOf last) then
    let vals := (List.range n).flatMap fun j => chs.zipIdx.map fun c =>
      let x := gridSample (s.fch c.1).bOut (s.instOf (svTime rate (i0 + j))) 0
      (s.svValue c.1 c.2 (8 * j + c.2) x, svQuality x)
    let f := TxFrame.sv k ((List.range n).map fun j => (i0 + j) % rate) s.svSynch vals
    let ps := if s.standby then [] else (s.portsOf (s.getF (Reg.ETH_SVP_CFG_PORTS k))).filter s.lanPort
    let s := s.send ps 3 0 f none
    .next ({ s with freeCtr := s.freeCtr + 8 * n }.setEth fun e => { e with svp := e.svp.set k (i0 + n) })
  else .next s

/-- The eight samples of an index of a subscribed stream: the values received, or value 0 with STALE (R508). -/
def State.svPut (s : State) (k idx : Nat) (vals : Option (List SvValue)) : State :=
  let inst := s.instOf (svTime (svRate (s.flag (Reg.ETH_SVS_CFG_RATE k))) idx)
  (List.range 8).foldl (fun (s : State) v =>
    let x : Sample := match vals with
      | none => staleSample 0
      | some vs =>
        let y := vs.getD v ⟨0, true, false, false⟩
        if y.invalid || (y.test && !s.flag (Reg.ETH_SVS_CFG_TEST k)) then staleSample 0
        else ⟨satVal (Config.svIn v y.value), 0, false, y.overflow, false, false⟩
    s.streamPut (0x20000 + 8 * k + v) inst x) s

/-- Samples late or missing. -/
def State.svLoss (s : State) (k n : Nat) : State :=
  if n = 0 then s else (s.incF (Reg.ETH_SVS_STAT_LATE k) n).irq .eth 4

/-- Index of a sample by its smpCnt: the one nearest to the present time word. -/
def State.svIndex (s : State) (rate smpCnt : Nat) : Nat :=
  let now := s.tw * rate / sec16
  let near := now / rate * rate + smpCnt
  let far := fun (a : Nat) => (a - now) + (now - a)
  [near - rate, near + rate].foldl (fun (a b : Nat) => if far b < far a then b else a) near

/-- The newest samples a gap puts into a stream: it keeps no more. -/
def svGapMax : Nat := 4096

/-- One sample of a subscribed stream (R508). -/
def State.svSample (s : State) (k synch smpCnt : Nat) (vals : List SvValue) : State :=
  let rate := svRate (s.flag (Reg.ETH_SVS_CFG_RATE k))
  let idx := s.svIndex rate smpCnt
  let s := s.setF (Reg.ETH_SVS_STAT_SMPCNT k) smpCnt
  let e := (s.eth.svs.getD k none).getD idx
  if idx < e then s
  else
    let gap := idx - e
    let n := min gap svGapMax
    let s := (List.range n).foldl (fun (s : State) j => s.svPut k (idx - n + j) none) s
    let late := decide (svTime rate idx + s.rd (Reg.ETH_SVS_DLY k) * 2 ^ 16 < s.tw)
    let s := s.svPut k idx (if late || synch != 2 then none else some vals)
    (s.svLoss k (gap + b2n late)).setEth fun e => { e with svs := e.svs.set k (some (idx + 1)) }

/-- SV_FRAME_RX (R493 row 4, R508). -/
def execSvFrameRx (port : Nat) (f : SvFrame) (tag : Option (Nat × Nat)) (s : State) : Out := s.only (decide (port < 4)) <|
  if decide (f.stream < 8) && s.flag (Reg.ETH_SVS_CFG_EN f.stream) then
    .next (s.frameRx port tag fun s => f.samples.foldl (fun (s : State) x => s.svSample f.stream f.smpSynch x.1 x.2) s)
  else .next s

/-- SV_SAMPLE_DEADLINE (R508): the next sample of the sequence has not come by its instant plus DLY. -/
def execSvSampleDeadline (k : Nat) (s : State) : Out := s.only (decide (k < 8)) <|
  let rate := svRate (s.flag (Reg.ETH_SVS_CFG_RATE k))
  match s.eth.svs.getD k none with
  | none => .next s
  | some idx =>
    if s.flag (Reg.ETH_SVS_CFG_EN k) && s.ethOn && decide (svTime rate idx + s.rd (Reg.ETH_SVS_DLY k) * 2 ^ 16 < s.tw) then
      .next (((s.svPut k idx none).svLoss k 1).setEth fun e => { e with svs := e.svs.set k (some (idx + 1)) })
    else .next s

/-! ### Links (R492) -/

/-- Source of a port's events: 0–3, W 4. -/
def portSrc (p : Nat) : Nat := srcId 0x80 p

/-- The link of a port as its register shows it, and a change of it with its interrupt. -/
def State.linkBit (s : State) (p : Nat) : Bool := if p = 4 then s.flag Reg.ETH_W_STAT_LINK else s.flag (Reg.ETH_P_STAT_LINK p)
def State.setLink (s : State) (p : Nat) (up : Bool) : State :=
  if p = 4 then (s.setB Reg.ETH_W_STAT_LINK up).irq .ethW 0 else (s.setB (Reg.ETH_P_STAT_LINK p) up).irq .eth 0

/-- LINK_UP (R491, R492): the link of a port that is READY and neither off nor taken down comes up. -/
def execLinkUp (p : Nat) (s : State) : Out :=
  let may := decide (p = 4) || (decide (p < 4) && s.getF (Reg.ETH_P_CFG_ROLE p) != 0 && !s.flag (Reg.ETH_P_STAT_SHED p))
  if may && s.on (secEth p) && !s.linkBit p then .next ((s.setLink p true).emitOpen (portSrc p) 0x8004 2) else .next s

end Sys2Proof.Machine
end

