-- ==== Sys2Proof/Machine/Ring.lean ====
section
/-!
DEFINITION. The Yulatar ring (14): the master's cycle, its stations, the broken ring, the AK960 as station, and the view of
ROLE 3.
-/
namespace Sys2Proof.Machine

/-! ### The process image and its map (R474–R478) -/

/-- Change the ring controller's state, one station's. -/
def State.setYul (s : State) (f : YulSt → YulSt) : State := { s with yul := f s.yul }
def State.stn (s : State) (i : Nat) : StnSt := s.yul.stn.getD i ⟨0, 0, none, none⟩
def State.setStn (s : State) (i : Nat) (f : StnSt → StnSt) : State := s.setYul fun y => { y with stn := upd y.stn i f }

/-- States of the master (R455) and of a station (YUL_STs_STAT). -/
def yScan : Nat := 1
def yRun : Nat := 2
def yLine : Nat := 3
def yStopped : Nat := 4
def stAbsent : Nat := 0
def stOnline : Nat := 1
def stOffline : Nat := 2
def stRejoin : Nat := 3
def stHeld : Nat := 4

/-- The source of a station's events. -/
def stnSrc (i : Nat) : Nat := srcId 0x70 i

/-- Map entries of a direction. -/
def State.mapEntries (s : State) (out : Bool) : List Nat :=
  (List.range 4096).filter fun e => s.flag (Reg.YUL_MAP_0_EN e) && s.flag (Reg.YUL_MAP_0_DIR e) == out

/-- Map entries of a station's region. -/
def State.stnEntries (s : State) (out : Bool) (st : Nat) : List Nat :=
  (s.mapEntries out).filter fun e => s.getF (Reg.YUL_MAP_0_STN e) == st

/-- A region with the slots of entries packed into it (R475). -/
def State.pack (s : State) (es : List Nat) (len : Nat) : List Byte :=
  leBytes len (es.foldl (fun (v : Nat) e =>
    let p := Conf.mapSpan s.rd e
    maskPut v ((2 ^ p.2 - 1) * 2 ^ p.1) (s.rd (Reg.YUL_PI e) % 2 ^ p.2 * 2 ^ p.1)) 0)

/-- The value of an entry in a region. -/
def State.unpack (s : State) (e : Nat) (region : List Byte) : Nat :=
  let p := Conf.mapSpan s.rd e
  leNat region / 2 ^ p.1 % 2 ^ p.2

/-- The plain entries of a region take their values. -/
def State.takeRegion (s : State) (es : List Nat) (region : List Byte) : State :=
  es.foldl (fun (s : State) e =>
    if s.getF (Reg.YUL_MAP_0_TYPE e) = 5 then s else s.wr (Reg.YUL_PI e) (s.unpack e region)) s

/-- A RING action on an entry (R475). -/
def State.ringWrite (s : State) (e mask v : Nat) : State := s.wr (Reg.YUL_PI e) (maskPut (s.rd (Reg.YUL_PI e)) mask v)

/-- D and M of a STREAM entry (R477). -/
def State.streamD (s : State) (e : Nat) : Nat := 2 ^ s.getF (Reg.YUL_MAP_1_DSEL e)
def State.streamM (s : State) (e : Nat) : Nat := 8 * 2 ^ s.getF Reg.BLK_BASE_NSEL / s.streamD e

/-- The reported delays of the STREAM entries stand in their slots (R478), in 0.1 ns. -/
def State.streamSlots (s : State) : State :=
  (s.mapEntries false).foldl (fun (s : State) e =>
    if s.getF (Reg.YUL_MAP_0_TYPE e) = 5 then
      s.wr (Reg.YUL_PI e) (2 * 312500 * 2 ^ s.getF Reg.BLK_BASE_NSEL + s.rd (Reg.YUL_MAP_1 e) % 2 ^ 16 * 1000 + 156250 * s.streamD e)
    else s) s

/-- The instants of a STREAM entry's samples in the answer of frame N (R477), on the oscillator's scale. -/
def State.streamInsts (s : State) (e n : Nat) : List Nat :=
  let d := s.streamD e
  let start := s.instOf ((n - 2) * s.base16 - s.rd (Reg.YUL_MAP_1 e) % 2 ^ 16 * 100 * 2 ^ 16)
  let k0 := (start - s.flt.e0 + d * stagePer - 1) / (d * stagePer)
  (List.range (s.streamM e)).map fun i => s.stageInst ((k0 + i) * d)

/-- The samples of the STREAM entries of a station in frame N; none are given in a lost cycle (R478). -/
def State.takeStreams (s : State) (st n : Nat) (region : Option (List Byte)) (stale : Bool) : State :=
  (s.stnEntries false st).foldl (fun (s : State) e =>
    if s.getF (Reg.YUL_MAP_0_TYPE e) = 5 then
      let o := s.getF (Reg.YUL_MAP_0_OFS e)
      (s.streamInsts e n).zipIdx.foldl (fun (s : State) x =>
        let smp : Sample := match region with
          | some r => let w := sampleOf (imgN r (o + 4 * x.2) 4); { w with stale := w.stale || stale }
          | none => staleSample 0
        s.streamPut (0x10000 + e) x.1 smp) s
    else s) s

/-! ### Station states (R479–R483) -/

/-- The state of a station, and a change of it. -/
def State.stnState (s : State) (i : Nat) : Nat := s.getF (Reg.YUL_ST_STAT_STATE i)
def State.setStnState (s : State) (i v : Nat) : State := s.setF (Reg.YUL_ST_STAT_STATE i) v

/-- The enabled stations. -/
def State.stations (s : State) : List Nat := (List.range 64).filter fun i => s.flag (Reg.YUL_ST_CFG_EN i)

/-- The counts of YUL_STAT. -/
def State.yulCounts (s : State) : State :=
  let n := fun (vs : List Nat) => s.stations.countP fun i => decide (s.stnState i ∈ vs)
  ((s.setF Reg.YUL_STAT_NONLINE (n [stOnline])).setF Reg.YUL_STAT_NOFF (n [stOffline, stRejoin])).setF Reg.YUL_STAT_NHELD (n [stHeld])

/-- A station becomes OFFLINE. -/
def State.stnOffline (s : State) (i : Nat) : State :=
  if s.stnState i = stOffline then s else
  let s := (s.setStnState i stOffline).incF (Reg.YUL_ST_STAT_DROPS i)
  (s.emitOpen (stnSrc i) 0x7001 1).irq .yul 0

/-- A station becomes ONLINE. -/
def State.stnOnline (s : State) (i : Nat) : State := ((s.setStnState i stOnline).emitOpen (stnSrc i) 0x7008 2).irq .yul 1

/-- A station becomes WITHHELD, or stays so: RING_STAMP once per differing value. -/
def State.stnHold (s : State) (i stamp : Nat) : State :=
  let s := s.setStnState i stHeld
  if (s.stn i).stampSeen = some stamp then s
  else ((s.setStn i fun x => { x with stampSeen := some stamp }).emit (stnSrc i) 0x7003 1 stamp).irq .yul 2

/-- The override of R483 ends when a different stamp is reported. -/
def State.stnOvr (s : State) (i stamp : Nat) : State :=
  match (s.stn i).ovr with
  | some v => if v = stamp then s
    else ((s.setStn i fun x => { x with ovr := none }).setF (Reg.YUL_ST_STAT_OVR i) 0).setF (Reg.YUL_ST_CTL_OVR i) 0
  | none => s

/-- A valid answer of a station in frame N (R464, R471, R479, R481, R483). -/
def State.stnAnswer (s : State) (a : RingAns) (n : Nat) : State :=
  let i := a.stn
  let s := ((s.setB (Reg.YUL_ST_STAT_SAFE i) a.safe).setB (Reg.YUL_ST_STAT_MISSED i) a.missed).setB (Reg.YUL_ST_STAT_TURN i) a.turn
  let s := (s.wr (Reg.YUL_ST_RXSTAMP i) a.stamp).incF (Reg.YUL_ST_STAT_GOOD i)
  let s := if a.applyFail then
      ((s.raise (Reg.YUL_ST_STAT_APPLY_FAIL i)).emit (stnSrc i) 0x7006 1 (n % 2 ^ 32)).irq .yul 5
    else s
  let s := s.stnOvr i (a.stamp % 2 ^ 32)
  let st := s.stnState i
  let s := s.setStn i fun x => { x with loss := 0, good := if st = stRejoin then x.good + 1 else 1 }
  let ok := s.rd (Reg.YUL_ST_RXSTAMP i) == s.rd (Reg.YUL_ST_STAMP i) || (s.stn i).ovr.isSome
  let joined := decide ((s.stn i).good ≥ max 1 (s.getF Reg.YUL_CTL_REJOIN))
  let s :=
    if st = stOnline then (if ok then s else s.stnHold i (a.stamp % 2 ^ 32))
    else if st = stHeld then (if ok then s.stnOnline i else s.stnHold i (a.stamp % 2 ^ 32))
    else if joined then (if ok then s.stnOnline i else s.stnHold i (a.stamp % 2 ^ 32))
    else s.setStnState i stRejoin
  let s := s.takeRegion (s.stnEntries false i) a.input
  s.takeStreams i n (some a.input) (s.stnState i == stRejoin)

/-- A frame passed without a valid answer of a station (R479). -/
def State.stnMissed (s : State) (i n : Nat) : State :=
  let s := (s.setStn i fun x => { x with loss := x.loss + 1, good := 0 }).setF (Reg.YUL_ST_STAT_GOOD i) 0
  let s := if (s.stn i).loss ≥ max 1 (s.getF Reg.YUL_CTL_LOSS) then s.stnOffline i else s
  s.takeStreams i n none true

/-- YUL_STs_CTL.OVR (R483). -/
def State.stnOverride (s : State) (ifc : Iface) (i v : Nat) : State :=
  let s := s.fieldWrite ifc (Reg.YUL_ST_CTL i) v
  if !s.may ifc .engineer then s
  else if v.testBit 0 then
    if s.stnState i = stHeld ∧ (s.stn i).ovr.isNone then
      ((s.setStn i fun x => { x with ovr := some (s.rd (Reg.YUL_ST_RXSTAMP i)) }).setF (Reg.YUL_ST_STAT_OVR i) 1).emitOpen (stnSrc i) 0x7004 1
    else s
  else (s.setStn i fun x => { x with ovr := none }).setF (Reg.YUL_ST_STAT_OVR i) 0

/-- YUL_STATION_OVERRIDE (R483). -/
def execYulStationOverride (ifc : Iface) (i : Nat) (v : Word) (s : State) : Out := s.hostRow ifc <|
  .next (if i < 64 then s.stnOverride ifc i v.toNat else s)

/-! ### States of the ring (R455, R456) -/

/-- The state of the ring. -/
def State.ring (s : State) : Nat := s.getF Reg.YUL_STAT_STATE

/-- The first frame whose departure lies a number of fc ahead. -/
def State.frameAhead (s : State) (fcs : Nat) : Nat :=
  let n0 := s.baseIdx + 1
  ((List.range 4).map (· + n0)).find? (fun n => decide (s.tw + fcs * s.fcPer / 2 ^ 16 ≤ s.departs n)) |>.getD (n0 + 4)

/-- The master enters SCAN. -/
def State.ringScan (s : State) : State :=
  let s := s.setF Reg.YUL_STAT_STATE yScan
  s.setYul fun y => { y with next := s.frameAhead 0, sent := none, scanCnt := none, toLine := none, tags := [], committed := [], leaving := none }

/-- The unit is READY. -/
def State.yulReady (s : State) : State :=
  let s := s.streamSlots
  let s := s.setYul fun y => { y with
    sent := none, scanCnt := none, toLine := none, tags := [], committed := [], applyAt := none, ackedIn := none, cyc := none,
    kept := [], safe := false, missed := false, applyFail := false, validAt := s.tm.runt, seen := [], checked := s.baseIdx,
    leaving := none }
  if s.ringMaster && s.govFull then s.ringScan else s.setF Reg.YUL_STAT_STATE (if s.ringMaster then yStopped else 0)

/-- Set-mode courses that no frame will carry are discarded with STATION. -/
def State.ringDrop (s : State) : State := s.discardWhere (fun _ c => c.rset) stStation

/-- The master stops: every station is OFFLINE (R456). -/
def State.ringStop (s : State) : State :=
  if s.ringMaster then
    let s := s.setF Reg.YUL_STAT_STATE yStopped
    let s := s.stations.foldl State.stnOffline s
    ((s.setYul fun y => { y with
      next := y.sent.getD y.next, sent := none, tags := [], toLine := none, leaving := none }).ringDrop).yulCounts
  else s

/-- The unit stops: the ring is OFF. -/
def State.yulOff (s : State) : State := s.ringStop.setF Reg.YUL_STAT_STATE 0

/-- YUL_CMD.RESTART (R455). -/
def State.yulCmd (s : State) (i : Iface) (v : Nat) : State :=
  if v.testBit 0 then
    s.command i .engineer fun s => if s.ringMaster && s.govFull then (s.ringDrop).ringScan else s
  else s

/-- YUL_RESTART (R455). -/
def execYulRestart (ifc : Iface) (v : Word) (s : State) : Out := s.hostRow ifc <| .next (s.yulCmd ifc (v.toNat ||| 1))

/-! ### Departure (R457–R461, R465, R471–R473, R482, R484) -/

/-- The set item of an action on an entry (R459). -/
def State.setItem (s : State) (tag : Nat) (a : Action) : SetItem :=
  let e := a.tgt
  let o := s.getF (Reg.YUL_MAP_0_OFS e)
  match s.getF (Reg.YUL_MAP_0_TYPE e) with
  | 0 => let b := s.getF (Reg.YUL_MAP_0_BIT e); ⟨o, 1, tag, a.w1 % 2 * 2 ^ b, a.w2 % 2 * 2 ^ b⟩
  | 1 => ⟨o, 1, tag, a.w1 % 2 ^ 8, a.w2 % 2 ^ 8⟩
  | 2 => ⟨o, 2, tag, a.w1 % 2 ^ 16, a.w2 % 2 ^ 16⟩
  | _ => ⟨o, 4, tag, a.w1 % 2 ^ 32, a.w2 % 2 ^ 32⟩

/-- What a set-mode course did in the frame that carried it: committed, or discarded with STATION (R177, R473). -/
def State.ringDecide (s : State) (t : RingTag) : State :=
  let c := s.slot t.slot
  if c.st ≠ .pending then s
  else if t.stns.all fun i => s.stnState i == stOnline && s.yul.acks.any fun a => a.1 == i && a.2.testBit t.tag then
    (s.setSlot t.slot fun c => { c with st := .committed, status := 2 }).setYul fun y => { y with committed := y.committed ++ [t] }
  else s.discard t.slot stStation 0

/-- The courses frame N carries, with their tags in the order of acceptance (R471). -/
def State.ringTags (s : State) (n : Nat) : List RingTag :=
  let cs := (List.range slotCount).filter fun k => (s.slot k).st == .pending && (s.slot k).rset && (s.slot k).ringFrame == some n
  let cs := sortBy (fun (a b : Nat) => decide ((s.slot a).seq ≤ (s.slot b).seq)) cs
  (cs.take 8).zipIdx.map fun p => ⟨p.1, p.2, s.ringStns (s.slot p.1).acts⟩

/-- The block of a station in frame N; its OUT region is filled as it leaves. -/
def State.ringReq (s : State) (tags : List RingTag) (i : Nat) : RingReq :=
  let items := tags.flatMap fun t =>
    (((s.slot t.slot).acts.filter fun a => a.ty == 4 && s.getF (Reg.YUL_MAP_0_STN a.tgt) == i).map (s.setItem t.tag))
  ⟨i, s.stnState i != stOnline, List.replicate (s.getF (Reg.YUL_ST_CFG_OUTLEN i)) 0, items.take 16⟩

/-- A header of frame N; each copy bears the address of the port it leaves on (R457). -/
def State.ringHead (s : State) (n : Nat) (scan line : Bool) (commit : Nat) : RingFrame :=
  ⟨0, s.getF Reg.YUL_CTL_ETYPE, b2n scan, line, false, false, commit, n % 2 ^ 32, openDivN (s.rd Reg.YUL_LEAD * s.fcPer) (2 ^ 24), 0,
    [], [], 0, 0, []⟩

/-- The bytes of a block (R459): the request part, then the answer part. -/
def State.blockBytes (s : State) (r : RingReq) : Nat :=
  4 + r.out.length + 12 * r.items.length + 8 + s.getF (Reg.YUL_ST_CFG_INLEN r.stn)

/-- The instants at which the request parts of some blocks begin to leave, the first at `t`: 8 ns a byte. -/
def State.blockDue (s : State) (t : Nat) : List RingReq → List Nat
  | [] => []
  | r :: rest => t :: s.blockDue (t + s.blockBytes r * 8 * 2 ^ 32) rest

/-- The blocks of the leaving frame that leave by now take their OUT regions from the process image (R465); with the last one the
frame's copies are put out. -/
def State.ringTick (s : State) : State :=
  match s.yul.leaving with
  | none => s
  | some (f, due) =>
    let k := f.reqs.length - due.length
    let n := due.countP fun t => decide (t ≤ s.tm.nom)
    let reqs := f.reqs.zipIdx.map fun x =>
      if k ≤ x.2 ∧ x.2 < k + n then { x.1 with out := s.pack (s.stnEntries true x.1.stn) x.1.out.length } else x.1
    let f := { f with reqs := reqs }
    if n < due.length then s.setYul fun y => { y with leaving := some (f, due.drop n) }
    else s.yul.ports.foldl (fun (s : State) p => s.out (.frame p none (.ring { f with src := s.portMac p })))
      (s.setYul fun y => { y with leaving := none })

/-- The records of a SCAN frame (R460). -/
def State.scanRecs (s : State) : List ScanRec :=
  (List.range 64).map fun i =>
    ⟨i, false, s.flag (Reg.YUL_ST_CFG_EN i), s.getF (Reg.YUL_ST_CFG_OUTLEN i), s.getF (Reg.YUL_ST_CFG_INLEN i), s.rd (Reg.YUL_ST_LINK i)⟩

/-- The ring enters LINE or returns to RUN with this frame (R455, R484). -/
def State.ringTurn (s : State) : State :=
  let st := s.ring
  let broken := st == yRun && (s.yul.toLine == some true || !s.linkUp 3)
  let closed := st == yLine && s.yul.toLine == some false
  let s := if broken then
      (((s.setF Reg.YUL_STAT_STATE yLine).emit (stnSrc 0) 0x7005 1 (Config.evValue s.yul.turners)).irq .yul 3)
    else if closed then (s.setF Reg.YUL_STAT_STATE yRun).emitOpen (stnSrc 0) 0x7009 2
    else s
  s.setYul fun y => { y with toLine := none, turners := [] }

/-- Frame N leaves; set-mode courses of an earlier frame that nothing acknowledged are discarded first. -/
def State.ringDepart (s : State) (n : Nat) : State :=
  let s := s.yul.tags.foldl State.ringDecide (s.setYul fun y => { y with committed := [] })
  let s := s.discardWhere (fun _ c => c.rset && match c.ringFrame with
    | some k => decide (k < n)
    | none => false) stStation
  let commit := s.yul.committed.foldl (fun (v : Nat) t => putBit v t.tag true) 0
  let s := s.ringTurn
  let scan := s.ring == yScan
  let line := s.ring == yLine
  let tags := if scan then [] else s.ringTags n
  let f := s.ringHead n scan line commit
  let f := if scan then
      { f with
        period := 12500 * 2 ^ s.getF Reg.BLK_BASE_NSEL,
        origin := s.rd Reg.FLT_ORIGIN_0 + s.rd Reg.FLT_ORIGIN_1 * 2 ^ 32 + s.rd Reg.FLT_ORIGIN_2 * 2 ^ 64,
        recs := s.scanRecs }
    else { f with reqs := (s.stations.filter fun i => s.stnState i != stAbsent).map (s.ringReq tags) }
  let ports := if line then [2, 3] else [2]
  let due := s.blockDue (s.tm.nom + 38 * 8 * 2 ^ 32) f.reqs
  let s := s.setYul fun y => { y with
    next := n + 1, sent := some n, sentAt := s.tm.runt, ports := ports, back := [], answered := [], acks := [], tags := tags,
    leaving := some (f, due) }
  (s.wr Reg.YUL_CYCLE n).ringTick

/-- RING_FRAME_DEPART (R461). -/
def execRingFrameDepart (s : State) : Out :=
  let n := s.yul.next
  if s.ringMaster && decide (1 ≤ s.ring ∧ s.ring ≤ 3) && decide (s.departs n ≤ s.tw) then .next (s.ringDepart n) else .next s

/-! ### Return (R455, R460, R464, R484, R485) -/

/-- The ring runs after two SCAN frames with one count: stations beyond the last found are ABSENT, RING_EXTRA (R455, R456). -/
def State.ringFound (s : State) (recs : List ScanRec) (count : Nat) : State :=
  let s := s.setF Reg.YUL_STAT_STATE yRun
  let s := s.stations.foldl (fun (s : State) i =>
    if i ≥ count then
      (s.setStnState i stAbsent).emitOpen (stnSrc i) 0x7002 1
    else if s.stnState i = stAbsent then s.setStnState i stOffline else s) s
  let s := if recs.any fun r => r.claimed && !r.enabled then s.emitOpen (stnSrc 0) 0x7007 1 else s
  (s.setYul fun y => { y with found := count, turners := [], toLine := none }).yulCounts

/-- A SCAN frame returns. -/
def State.ringScanBack (s : State) (port : Nat) (f : RingFrame) : State :=
  let count := f.recs.countP fun r => r.claimed
  let same := s.yul.scanCnt == some count && port == 3
  let s := s.setYul fun y => { y with back := y.back ++ [2], scanCnt := if port = 3 then some count else none }
  if same then s.ringFound f.recs count else s

/-- The round trip of a returned copy (R485). -/
def State.ringTrip (s : State) (f : RingFrame) : State :=
  let fcs := openDivN ((s.tm.runt - s.yul.sentAt) * 2) (5 * 2 ^ 32)
  let s := (s.setF Reg.YUL_RT_LAST fcs).tally Reg.YUL_RT_MAX (max (min fcs 65535) (s.getF Reg.YUL_RT_MAX))
  let bytes := 34 + f.reqs.foldl (fun (a : Nat) r =>
    a + 12 + r.out.length + 12 * r.items.length + s.getF (Reg.YUL_ST_CFG_INLEN r.stn)) 0
  let exp := Config.ringTrip (s.rd Reg.YUL_CABLE) f.reqs.length bytes
  if s.ring = yRun ∧ (fcs > exp + 40 ∨ exp > fcs + 40) then s.emit (stnSrc 0) 0x700A 2 fcs else s

/-- A copy of CYCLIC frame N returns in time. -/
def State.ringBack (s : State) (port n : Nat) (f : RingFrame) : State :=
  let left := if f.turned then port else 5 - port
  let s := s.ringTrip f
  let st := s.ring
  let toLine : Option Bool := if st = yRun ∧ port = 2 then some true else if st = yLine ∧ !f.turned then some false else s.yul.toLine
  let ts := (f.answers.filter fun a => a.turn).map fun a => a.stn
  let s := s.setYul fun y => { y with back := y.back ++ [left], toLine := toLine, turners := (y.turners ++ ts).eraseDups }
  let s := f.answers.foldl (fun (s : State) a =>
    if a.seen && decide (a.stn < 64) && s.flag (Reg.YUL_ST_CFG_EN a.stn) && s.stnState a.stn != stAbsent &&
        !s.yul.answered.contains a.stn then
      let s := s.setYul fun y => { y with answered := y.answered ++ [a.stn], acks := y.acks ++ [(a.stn, a.ack)] }
      s.stnAnswer a n
    else s) s
  s.yulCounts

/-- RING_FRAME_RETURN (R464): a copy passes its FCS check.  The fc of B_N is still in time (R66, R480). -/
def execRingFrameReturn (port : Nat) (f : RingFrame) (s : State) : Out := s.only (decide (port < 4)) <|
  match s.yul.sent with
  | some n =>
    if s.ringMaster && f.etype == s.getF Reg.YUL_CTL_ETYPE && decide (f.ty ≤ 1) && f.cycle == n % 2 ^ 32 && decide (port = 2 ∨ port = 3) && decide (s.tm.prev < n * s.base16 * 2 ^ 16) then
      if f.scan then .next (s.ringScanBack port f) else .next (s.ringBack port n f)
    else .next s
  | none => .next s

/-- A copy of the frame last sent that is still in time waits in this fc (R66, R480). -/
def State.ringComes (s : State) (q : RingFrame → Bool) : Bool :=
  match s.yul.sent with
  | some n => s.comes fun i => match i with
    | .ringFrameReturn p f =>
      decide (p = 2 ∨ p = 3) && f.cycle == n % 2 ^ 32 && decide (s.tm.prev < n * s.base16 * 2 ^ 16) && q f
    | _ => false
  | none => false

/-- A station's valid answer in the last frame is registered, or still in this fc. -/
def State.ringAnswered (s : State) (i : Nat) : Bool :=
  s.yul.answered.contains i || s.ringComes fun f => !f.scan && f.answers.any fun a => a.stn == i && a.seen

/-- Stations of a committed course without a valid answer in the frame that carried the marker (R178, R473). -/
def State.ringMissed (s : State) (slot : Nat) : Bool :=
  s.yul.committed.any fun t => t.slot == slot && t.stns.any fun i => !s.ringAnswered i

/-- B_N: missing copies and answers are counted (R464, R479, R480). -/
def State.ringDeadline (s : State) (n : Nat) : State :=
  let lost := (s.yul.ports.filter fun p => !s.yul.back.contains p).length
  let s := if lost > 0 then (s.count Reg.YUL_CNT_LOST lost).irq .yul 4 else s
  let s := s.setYul fun y => { y with sent := none, scanCnt := if lost > 0 then none else y.scanCnt }
  if s.ring = yRun ∨ s.ring = yLine then
    let s := (s.stations.filter fun i => s.stnState i != stAbsent && !s.yul.answered.contains i).foldl
      (fun (s : State) i => s.stnMissed i n) s
    let s := s.yul.committed.foldl (fun (s : State) t =>
      if s.ringMissed t.slot then s.setSlot t.slot fun c => if c.st = .committed then { c with miss := true } else c else s) s
    s.yulCounts
  else s.stations.foldl (fun (s : State) i => s.takeStreams i n none true) s

/-- RING_CYCLE_DEADLINE (R480); while the ring is STOPPED a cycle passes without a frame, and its streams' samples are lost. -/
def execRingCycleDeadline (s : State) : Out :=
  match s.yul.sent with
  | some n => if s.ringMaster && decide (n * s.base16 ≤ s.tw) && !s.ringComes (fun _ => true) then .next (s.ringDeadline n) else .next s
  | none =>
    let n := s.yul.next
    if s.ringMaster && s.ring == yStopped && decide (n * s.base16 ≤ s.tw) then
      .next ((s.stations.foldl (fun (s : State) i => s.takeStreams i n none true) s).setYul fun y => { y with next := n + 1 })
    else .next s

/-! ### The AK960 as station (R462, R466–R471, R486–R489) -/

/-- ROLE 2. -/
def State.isStation (s : State) : Bool := s.on secYul && s.getF Reg.YUL_CTL_ROLE == 2

/-- The action of an output entry with ACT 2 or 3 (R487). -/
def State.entryAct (s : State) (e : Nat) : Option Action :=
  let tgt := s.getF (Reg.YUL_MAP_1_ARG e)
  let v := s.rd (Reg.YUL_PI e)
  match s.getF (Reg.YUL_MAP_1_DSEL e) with
  | 2 =>
    let ch := (8 * s.getF (Reg.YUL_MAP_0_OFS e) + s.getF (Reg.YUL_MAP_0_BIT e)) % 16
    match s.getF (Reg.YUL_MAP_0_TYPE e) with
    | 0 => some ⟨2 * 2 ^ 28 + tgt, 2 ^ ch, v % 2 * 2 ^ ch⟩
    | 1 => some ⟨2 * 2 ^ 28 + tgt, 0xFF, v % 2 ^ 8⟩
    | _ => some ⟨2 * 2 ^ 28 + tgt, 0xFFFF, v % 2 ^ 16⟩
  | 3 => some ⟨3 * 2 ^ 28 + tgt, 0xFFFF, v % 2 ^ 16⟩
  | _ => none

/-- An immediate course of the station's outputs; refused, it counts as discarded (R487). -/
def State.stationCourse (s : State) (es : List Nat) : State :=
  let acts := es.filterMap s.entryAct
  if acts.isEmpty then s else
  let q := s.submit (reqOf 9 .immediate 0 acts .station)
  match q.2.2 with
  | some _ => q.1
  | none => q.1.setYul fun y => { y with applyFail := true }

/-- Set items of a tag that are written into the process image, and the entries they touch. -/
def State.applyItems (s : State) (items : List SetItem) : State × List Nat :=
  let es := s.mapEntries true
  let region := leNat (s.pack es s.yul.staOut)
  let new := items.foldl (fun (v : Nat) i => maskPut v (i.mask * 2 ^ (8 * i.ofs)) (i.value * 2 ^ (8 * i.ofs))) region
  let mask := items.foldl (fun (v : Nat) i => v ||| i.mask * 2 ^ (8 * i.ofs)) 0
  let hit := es.filter fun e =>
    let p := Conf.mapSpan s.rd e
    decide (mask / 2 ^ p.1 % 2 ^ p.2 ≠ 0)
  (s.takeRegion hit (leBytes s.yul.staOut new), hit)

/-- Every item of a tag addresses bytes of OUT and its targets can take the value (R469). -/
def State.itemsOk (s : State) (items : List SetItem) : Bool :=
  let p := s.applyItems items
  (items.all fun i => decide (i.ofs + i.width ≤ s.yul.staOut)) && (p.2.filterMap p.1.entryAct).all fun a => s.actErr 9 a == 0

/-- The answer part this station writes (R467, R469, R486). -/
def State.stationAns (s : State) (ack : Nat) (turn : Bool) : RingAns :=
  ⟨s.getF Reg.YUL_STA_STAT_INDEX, true, s.yul.safe, turn, s.yul.applyFail, s.yul.missed, ack, s.shortStamp,
    (s.yul.snap ++ List.replicate s.yul.staIn 0).take s.yul.staIn⟩

/-- The safe state of a station (R470, R488). -/
def State.stationSafe (s : State) : State :=
  let es := s.mapEntries true
  let grps := (List.range 2).filter fun g => es.any fun e => s.getF (Reg.YUL_MAP_1_DSEL e) == 2 && s.getF (Reg.YUL_MAP_1_ARG e) == g
  let chs := (List.range 8).filter fun n => es.any fun e => s.getF (Reg.YUL_MAP_1_DSEL e) == 3 && s.getF (Reg.YUL_MAP_1_ARG e) == n
  let s := grps.foldl (fun (s : State) g => s.latching fun s => s.dioExpire g (grpChans g)) s
  let s := if chs.isEmpty then s else (chs.foldl State.aoRingSafe s).aoRingExpiry
  (s.setYul fun y => { y with safe := true }).setF Reg.YUL_STA_STAT_SAFE 1

/-- The port a station forwards a frame on: the other one, or back where its link is down (R466). -/
def State.stationPort (s : State) (port : Nat) : Nat := if s.linkUp (5 - port) then 5 - port else port

/-- A station passes a frame on with what it adds to CORR (R462, R466). -/
def State.stationPass (s : State) (port link : Nat) (f : RingFrame) : State :=
  let up := s.stationPort port
  s.out (.frame up none (.ring { f with corr := f.corr + link + Config.ringFwd, turned := f.turned || up == port }))

/-- A SCAN frame at a station (R460). -/
def State.stationScan (s : State) (port : Nat) (f : RingFrame) : State :=
  let s := s.setYul fun y => { y with cyc := some f.cycle }
  match f.recs.findIdx? fun r => !r.claimed with
  | none => s.stationPass port s.yul.staLink f
  | some k =>
    match f.recs[k]? with
    | none => s
    | some r =>
      let s := s.setYul fun y => { y with staOut := r.outLen, staIn := r.inLen, staLink := r.link, validAt := s.tm.runt }
      let s := s.setF Reg.YUL_STA_STAT_INDEX r.index
      s.stationPass port r.link { f with recs := f.recs.set k { r with claimed := true } }

/-- A CYCLIC frame at a station, its first copy; `rx` is the time word (2^−16 ns) of its first bit. -/
def State.stationCyclic (s : State) (port rx : Nat) (f : RingFrame) : State :=
  let turn := s.stationPort port == port
  let me := s.getF Reg.YUL_STA_STAT_INDEX
  let apply := rx + f.applyDelta * 256 - (f.corr + s.yul.staLink) * 256
  let own := s.baseIdx + toSigned 32 (f.cycle + 2 ^ 32 - s.baseIdx % 2 ^ 32)
  let diff := (apply : Int) - own * (s.base16 : Int)
  let prevKept := s.yul.kept.filter fun k => (k.cycle + 1) % 2 ^ 32 == f.cycle
  let commits := prevKept.filter fun k => f.commit.testBit k.tag
  let s := s.setYul fun y => { y with
    cyc := some f.cycle, validAt := s.tm.runt, kept := commits,
    applyAt := some (apply, f.cycle, commits.length), ackedIn := none }
  let s := s.setB Reg.YUL_STA_STAT_SYNC_DIFF (decide (diff.natAbs > 1000 * 2 ^ 16))
  match f.reqs.find? fun r => r.stn == me with
  | none => s.stationPass port s.yul.staLink f
  | some r =>
    let tags := ((r.items.map fun i => i.tag).eraseDups).filter fun t => s.itemsOk (r.items.filter fun i => i.tag == t)
    let ack := tags.foldl (fun (v : Nat) t => putBit v t true) 0
    let new : List KeptTag := tags.map fun t => ⟨f.cycle, t, r.items.filter fun i => i.tag == t⟩
    let s := s.stationPass port s.yul.staLink { f with answers := f.answers ++ [s.stationAns ack turn] }
    let s := s.setYul fun y => { y with
      kept := y.kept ++ new, ackedIn := if ack = 0 then none else some f.cycle, applyFail := false }
    if r.hold || f.holdAll then s
    else
      let s := (s.setYul fun y => { y with safe := false, missed := false }).setF Reg.YUL_STA_STAT_SAFE 0
      let es := s.mapEntries true
      (s.takeRegion es r.out).stationCourse es

/-- STATION_FRAME_RX (R466–R469, R486, R487): a frame passes its FCS check at a station; a further copy of the same CYCLE is
forwarded only, and a frame of another TYPE unread. -/
def execStationFrameRx (port rx : Nat) (f : RingFrame) (s : State) : Out := s.only (decide (port < 4)) <|
  if s.isStation && decide (port = 2 ∨ port = 3) then
    if 1 < f.ty then .next (s.out (.frame (s.stationPort port) none (.ring f)))
    else if s.yul.cyc = some f.cycle then .next (s.stationPass port s.yul.staLink f)
    else if f.scan then .next (s.stationScan port f)
    else .next (s.stationCyclic port rx f)
  else .next s

/-- Committed items become an immediate course 2 fc before the apply instant (R469, R487). -/
def State.stationCommit (s : State) (t cyc : Nat) : State :=
  let done := s.yul.kept.filter fun k => k.cycle != cyc
  let s := s.setYul fun y => { y with applyAt := some (t, cyc, 0), kept := y.kept.filter fun k => k.cycle == cyc }
  let p := s.applyItems (done.flatMap fun k => k.items)
  p.1.stationCourse p.2

/-- The apply instant: inputs are latched, or the frame due was missed (R470, R486). -/
def State.stationLatch (s : State) (t cyc : Nat) : State :=
  let s := s.setYul fun y => { y with applyAt := none }
  if s.yul.cyc = some cyc then
    let s := s.setYul fun y => { y with snap := s.pack (s.mapEntries false) y.staIn }
    if s.yul.ackedIn = some cyc then s.setYul fun y => { y with applyAt := some (t + s.base16, (cyc + 1) % 2 ^ 32, 0) } else s
  else (s.setYul fun y => { y with missed := true, ackedIn := none, kept := [] }).stationSafe

/-- A valid frame for the station still waits in this fc (R66, R69, R470); log 231 says which frames count. -/
def State.stationComes (s : State) (q : RingFrame → Bool) : Bool :=
  s.comes fun i => match i with
    | .stationFrameRx p _ f => decide (p = 2 ∨ p = 3) && decide (f.ty ≤ 1) && s.yul.cyc != some f.cycle && q f
    | _ => false

/-- STATION_APPLY_INSTANT (R469, R470, R486, R487). -/
def execStationApplyInstant (s : State) : Out :=
  match s.isStation, s.yul.applyAt with
  | true, some (t, cyc, n) =>
    if s.yul.cyc != some cyc && s.stationComes (fun f => !f.scan && f.cycle == cyc) then .next s else
    let s := if decide (n ≠ 0) && decide (t ≤ s.tw + 2 * s.fcPer / 2 ^ 16) then s.stationCommit t cyc else s
    .next (if t ≤ s.tw then s.stationLatch t cyc else s)
  | _, _ => .next s

/-- STATION_WATCHDOG_EXPIRY (R488). -/
def execStationWatchdogExpiry (s : State) : Out :=
  if s.isStation && !s.yul.safe && s.expired s.yul.validAt (s.rd Reg.YUL_STA_WDT * 1000) &&
      !s.stationComes (fun _ => true) then .next s.stationSafe else .next s

/-! ### ROLE 3 (R454, R619) -/

/-- The ring controller is in ROLE 3: from its image, or as a paired module without LEAD (R618). -/
def State.role3 (s : State) : Bool :=
  s.on secYul && (s.getF Reg.YUL_CTL_ROLE == 3 || (s.getF Reg.YUL_CTL_ROLE == 1 && s.standby))

/-- The view of a station that R619 keeps. -/
def State.viewStation (s : State) (f : RingFrame) (i : Nat) : State :=
  match f.answers.find? fun a => a.stn == i && a.seen with
  | some a =>
    let s := ((s.setB (Reg.YUL_ST_STAT_SAFE i) a.safe).setB (Reg.YUL_ST_STAT_MISSED i) a.missed).setB (Reg.YUL_ST_STAT_TURN i) a.turn
    let s := if a.applyFail then s.raise (Reg.YUL_ST_STAT_APPLY_FAIL i) else s
    (s.wr (Reg.YUL_ST_RXSTAMP i) a.stamp).setStnState i stOnline |>.takeRegion (s.stnEntries false i) a.input
  | none => s.setStnState i stOffline

/-- SHADOW_RING_FRAME_RX (R619): a CYCLIC frame of another master is forwarded and its view kept. -/
def execShadowRingFrameRx (port : Nat) (f : RingFrame) (s : State) : Out := s.only (decide (port < 4)) <|
  if s.role3 && decide (port = 2 ∨ port = 3) then
    let link := s.rd (Reg.YUL_ST_LINK 0)
    let up := 5 - port
    let s := s.out (.frame up none (.ring { f with corr := if f.ty ≠ 0 then f.corr else f.corr + link + Config.ringFwd }))
    if f.ty ≠ 0 then .next s
    else
      let s := s.setYul fun y => { y with seen := (f.cycle :: y.seen).take 8 }
      let s := { s with wyt := { s.wyt with ringHeard := true } }
      let s := f.reqs.foldl (fun (s : State) r => s.takeRegion (s.stnEntries true r.stn) r.out) s
      let s := s.stations.foldl (fun (s : State) i => s.viewStation f i) s
      .next s.yulCounts
  else .next s

end Sys2Proof.Machine
end

