-- ==== Sys2Proof/Machine/NetTime.lean ====
section
/-!
DEFINITION. The local clock (03): increment, step and re-epoch, sources and states, holdover, the PTP engine with its BMCA, path
shifts, transmit time-stamp queues, PPS; and the loss of a port's link.
-/
namespace Sys2Proof.Machine

/-! ### States and source (R84, R86) -/

/-- States of the clock (R86). -/
def clkFree : Nat := 0
def clkAcquire : Nat := 1
def clkLocked : Nat := 2
def clkHold : Nat := 3
def State.clk (s : State) : Nat := s.getF Reg.TBU_STAT_STATE

/-- Discipline source (R84): 3 acts as FREE. -/
def State.src (s : State) : Nat := if s.getF Reg.TBU_CTL_SRC = 3 then 0 else s.getF Reg.TBU_CTL_SRC

/-! ### The increment applied and its limit (R72, R74, R100) -/

/-- TBU_INC holds the increment applied (R72). -/
def State.incShow (s : State) : State := (s.wr Reg.TBU_INC_0 s.incOf).wr Reg.TBU_INC_1 (s.incOf / 2 ^ 32)

/-- The limit of R74 or R100 has changed: under SRC 1 and 2 TBU_INC follows what is applied; under SRC 0 it reads what was written or
the last filtered rate (R74). -/
def State.limitMoved (s : State) : State := if s.src = 0 then s else s.incShow

/-- The slew limit of R100 comes into force or ends. -/
def State.setSlew (s : State) (on : Bool) : State := (s.setTbu fun t => { t with slewAsym := on }).limitMoved

/-- ASYM_UNCERTAIN with its slew limit (R100, R101). -/
def State.setAsym (s : State) (on : Bool) : State := (s.setB Reg.TBU_STAT_ASYM_UNCERTAIN on).setSlew on

/-! ### Ports of the PTP engine (R88, R90–R92, R99, R102) -/

/-- A port that carries PTP (R88). -/
def State.ptpPort (s : State) (p : Nat) : Bool :=
  s.on secTbu && s.lanPort p && (!s.flag Reg.TBU_PTP_CTL_UDP || p == s.getF Reg.TBU_PTP_CTL_PREF)

/-- The port follows a master. -/
def PtpPort.slaved (p : PtpPort) : Bool := p.st == .slave || p.st == .uncalibrated

/-- The port is valid: it follows a master and has an offset. -/
def State.ptpValid (s : State) (p : Nat) : Bool := s.ptpPort p && (s.pp p).slaved && (s.pp p).ofsValid

/-- The port the clock follows (R100, R102); ASYM_UNCERTAIN when the clock comes to follow a SUSPECT port for want of another. -/
def State.follow (s : State) : State :=
  let vs := (List.range 4).filter s.ptpValid
  let ok := vs.filter fun p => !s.flag (Reg.TBU_P_STAT_SUSPECT p)
  let pref := s.getF Reg.TBU_PTP_CTL_PREF
  let lone := ok.isEmpty && !vs.isEmpty
  let t := match ok, vs with
    | p :: _, _ => s.setF Reg.TBU_STAT_FOLLOW (if ok.contains pref then pref else p)
    | [], p :: _ => if vs.contains (s.getF Reg.TBU_STAT_FOLLOW) then s else s.setF Reg.TBU_STAT_FOLLOW p
    | [], [] => s
  let t := t.setTbu fun x => { x with lone := lone }
  if lone && !s.tbu.lone && s.src == 1 then t.setAsym true else t

/-- The port state changes, with TBU_Pp_STAT.SLAVE. -/
def State.setPtpSt (s : State) (p : Nat) (st : PtpState) : State :=
  (s.setPp p fun x => { x with st := st }).setB (Reg.TBU_P_STAT_SLAVE p) (st == .slave)

/-- clockIdentity: the EUI-64 of P0's address (R92). -/
def State.clockId (s : State) : Nat :=
  let m := s.portMac 0
  m / 2 ^ 24 * 2 ^ 40 + 0xFFFE * 2 ^ 24 + m % 2 ^ 24

/-- The module's own dataset (R90, R91). -/
def State.ownDataset (s : State) : PtpDataset :=
  let cls := match s.clk with
    | 2 => s.getF Reg.TBU_BMCA_1_CLASS_LOCK
    | 3 => s.getF Reg.TBU_BMCA_1_CLASS_HOLD
    | _ => s.getF Reg.TBU_BMCA_1_CLASS_FREE
  let var := match s.clk with
    | 2 => s.getF Reg.TBU_BMCA_2_VAR_LOCK
    | 3 => s.getF Reg.TBU_BMCA_2_VAR_HOLD
    | _ => 0xFFFF
  ⟨s.getF Reg.TBU_BMCA_0_PRIO1, cls, s.getF Reg.TBU_BMCA_0_ACCURACY, var, s.getF Reg.TBU_BMCA_0_PRIO2, s.clockId, 0⟩

/-- Numbers in lexicographic order. -/
def lexLt : List Nat → List Nat → Bool
  | a :: s, b :: t => decide (a < b) || (a == b && lexLt s t)
  | _, _ => false

/-- An Announce in the BMCA: its dataset, the port identity it came from, the port it came in on. -/
structure PtpCand where
  ds : PtpDataset
  sender : Nat
  port : Nat
  deriving DecidableEq, Repr

/-- Dataset a is better than b: by quality, or, for one grandmaster, by fewer steps, then by the lower sender, then by the lower
receiving port (R90: the default BMCA). -/
def PtpCand.better (a b : PtpCand) : Bool :=
  if a.ds.gm = b.ds.gm then lexLt [a.ds.steps, a.sender, a.port] [b.ds.steps, b.sender, b.port]
  else lexLt [a.ds.prio1, a.ds.cls, a.ds.acc, a.ds.var, a.ds.prio2, a.ds.gm] [b.ds.prio1, b.ds.cls, b.ds.acc, b.ds.var, b.ds.prio2, b.ds.gm]

/-- The best Announce of a port. -/
def State.candOf (s : State) (p : Nat) : Option PtpCand := (s.pp p).best.map fun d => ⟨d, (s.pp p).sender, p + 1⟩

/-- The module's own dataset in the BMCA: no steps, its own identity, no receiving port. -/
def State.ownCand (s : State) : PtpCand := ⟨s.ownDataset, s.clockId * 2 ^ 16, 0⟩

/-- The best Announce received on any port. -/
def State.bestCand (s : State) : Option PtpCand :=
  ((List.range 4).filterMap fun p => if s.ptpPort p then s.candOf p else none).foldl (fun (a : Option PtpCand) b =>
    match a with
    | some x => if b.better x then some b else some x
    | none => some b) none

/-- A port begins to follow a master, or another one. -/
def State.startSlave (s : State) (p : Nat) : State :=
  if (s.pp p).slaved then s
  else
    let s := s.setPtpSt p .uncalibrated
    s.setPp p fun x => { x with lastSync := none, syncRx := none, ofsValid := false }

/-- The state decision of a port (R90): one that hears the grandmaster of the best master follows it too (R99). -/
def State.bmcaPort (s : State) (p : Nat) : State :=
  let own := s.ownCand
  let slaveOnly := s.flag Reg.TBU_PTP_CTL_SLAVE_ONLY
  let leave := fun (s : State) (st : PtpState) => (s.setPtpSt p st).setPp p fun x => { x with ofsValid := false }
  match s.candOf p, s.bestCand with
  | some e, some b =>
    if slaveOnly then (if (s.pp p).st = .master then leave s .listening else s).startSlave p
    else if own.ds.cls < 128 then (if own.better e then leave s .master else leave s .passive)
    else if own.better b then leave s .master
    else if e.ds.gm = b.ds.gm then s.startSlave p
    else leave s .master
  | none, _ => if (s.pp p).st = .listening then s else if slaveOnly then leave s .listening else leave s .master
  | some _, none => s

/-- The state decisions of every port, and the port followed. -/
def State.bmca (s : State) : State :=
  ((List.range 4).foldl (fun (s : State) p => if s.ptpPort p then s.bmcaPort p else s) s).follow

/-! ### Increment and states (R71–R74, R84–R86) -/

/-- The state of the clock changes; the own dataset follows it, so the state decisions are made again (R90, R91). -/
def State.setClk (s : State) (v : Nat) : State := (s.setF Reg.TBU_STAT_STATE v).bmca

/-- The servo demands an increment (R72, R74). -/
def State.setInc (s : State) (d : Nat) : State := { s with tm := { s.tm with inc := d } }.incShow

/-- A write of TBU_INC_0 (R85): both registers apply together; ignored, with a write of TBU_INC_1, under SRC 1 and 2. -/
def State.incWrite (s : State) (i : Iface) (off v : Nat) : State :=
  if s.src ≠ 0 then s
  else
    let s := s.fieldWrite i off v
    if off = Reg.TBU_INC_0 ∧ s.may i .operate then
      { s with tm := { s.tm with inc := s.rd Reg.TBU_INC_0 + s.getF Reg.TBU_INC_1_INT * 2 ^ 32 } }
    else s

/-- TBU_INC_WRITE (R85). -/
def execTbuIncWrite (ifc : Iface) (v : Word) (s : State) : Out := s.hostRow ifc <| .next (s.incWrite ifc Reg.TBU_INC_0 v.toNat)

/-- SLEWING (R74): a larger correction is asked for than the limit allows. -/
def State.slewing (s : State) : Bool := s.tm.inc != s.incOf

/-! ### Holdover (R86, R93, R94) -/

/-- TBU_HO_DUR and TBU_HO_ERR in HOLDOVER (R94); the rounding is open. -/
def State.hoDur (s : State) : Nat := (s.tm.runt - s.tbu.hoEntry) / (1000000 * 2 ^ 32)
def State.hoErr (s : State) : Nat :=
  let t : Rat := ((s.tm.runt - s.tbu.hoEntry : Nat) : Rat) / (sec32 : Nat)
  let e := openR ((s.tbu.e0 : Rat) / 2 ^ 16 + (s.rd Reg.TBU_HO_DRIFT : Nat) * t + (s.rd Reg.TBU_HO_DRIFT_AGE : Nat) / 256 * t * t / 2)
  if e < 2 ^ 32 then e.toNat else Config.overflow e

/-- The clock enters HOLDOVER. -/
def State.holdover (s : State) : State :=
  let s := s.setTbu fun t => { t with hoEntry := s.tm.runt, e0 := t.ofs.natAbs, meas := [] }
  ((s.setInc s.tbu.rate).setClk clkHold).irq .tbu 1

/-- HOLDOVER is left: its registers keep their last values. -/
def State.leaveHold (s : State) : State :=
  if s.clk = clkHold then (s.wr Reg.TBU_HO_DUR s.hoDur).wr Reg.TBU_HO_ERR s.hoErr else s

/-- A message needs a feature that R88 does not have: unicast negotiation, IPv6, UDP where the port does not run over UDP/IPv4. -/
def State.ptpUnsupported (s : State) (m : PtpMsg) : Bool :=
  m.unicast || m.hdr.via == .udp6 || (m.hdr.via == .udp4 && !s.flag Reg.TBU_PTP_CTL_UDP)

/-- A message of the port's own transport and domain. -/
def State.ptpTaken (s : State) (m : PtpMsg) : Bool :=
  !s.ptpUnsupported m && (m.hdr.via == .udp4) == s.flag Reg.TBU_PTP_CTL_UDP && m.hdr.domain == s.getF Reg.TBU_PTP_CTL_DOMAIN

/-- The port identity of a message's sender. -/
def ptpFrom (m : PtpMsg) : Nat := m.hdr.clock * 2 ^ 16 + m.hdr.port

/-- A Sync from a port's current master, which the port accepts. -/
def State.syncFrom (s : State) (p : Nat) (m : PtpMsg) : Bool :=
  s.ptpPort p && s.ptpTaken m && m.kind == .sync && (s.pp p).slaved && ptpFrom m == (s.pp p).sender

/-- Offset of a stamp from the nearest whole second, 2^−16 ns. -/
def secOffset (t : Nat) : Int := if t % sec16 < sec16 / 2 then (t % sec16 : Nat) else ((t % sec16 : Nat) : Int) - sec16

/-- A PPS_IN stamp that is not accepted as a measurement: more than 1 ms off in LOCKED or HOLDOVER (R87). -/
def State.ppsFar (s : State) (t : Nat) : Bool := decide ((secOffset t).natAbs > 1000000 * 2 ^ 16) && decide (s.clk ≥ clkLocked)

/-- Length of the interval that HOLDOVER's timeout counts, in 2^−32 ns: Sync intervals of the master, or seconds (R87). -/
def State.syncPer (s : State) : Nat :=
  if s.src = 1 then
    let l := (s.pp (s.getF Reg.TBU_STAT_FOLLOW)).syncLog
    if 0 ≤ l then sec32 * 2 ^ l.toNat else sec32 / 2 ^ (-l).toNat
  else sec32

/-- A Sync from the current master that will be accepted, or a PPS_IN edge, still waits in this fc (R66, R69). -/
def State.syncComes (s : State) : Bool :=
  let p := s.getF Reg.TBU_STAT_FOLLOW
  s.comes fun c => match c with
    | .ptpMessageRx q m => s.src == 1 && q == p && s.syncFrom p m
    | .ppsInEdge => s.src == 2 && !s.ppsFar (s.tw - s.rd Reg.TBU_PPS_IN_CMP * 256)
    | _ => false

/-- The holdover entry timeout expires in this fc and nothing it awaits comes (R66, R87). -/
def State.holdoverDue (s : State) : Bool :=
  s.on secTbu && s.clk == clkLocked && s.src != 0 && decide (s.tbu.hoStart + s.getF Reg.TBU_HO_T_N * s.syncPer ≤ s.tm.runt) &&
    !s.syncComes

/-- HOLDOVER_ENTRY_TIMEOUT (R86, R87). -/
def execHoldoverEntryTimeout (s : State) : Out := .next (if s.holdoverDue then s.holdover else s)

/-- A host write that changes the holdover entry timeout: an expiry of this fc comes first (R68). -/
def State.holdoverFirst (s : State) : State := if s.holdoverDue then s.holdover else s

/-! ### Step and re-epoch (R77–R83, R418) -/

/-- The time word takes a new value: tasks, streams, ring and heartbeats go on from it, and PPS_OUT gives no pulse for the
boundaries jumped over, only for one that the new value equals (R81, R418).  What the module keeps as a time word of the past to
compare with is moved with it (R34): the tuple (DEDUCED, log 222), the last TRC edge, point-on-wave measurements. -/
def State.timeJump (s : State) (t : Nat) : State :=
  let shift : Int := openDiv ((t : Int) - s.tm.time) (2 ^ 16)
  let seg : TimeSeg := ⟨s.tm.nom, t, s.incOf * s.tm.div, incNominal * s.tm.div, s.epoch⟩
  let s := { s with
    tm := { s.tm with time := t, prev := t - 1, reach := t, segs := seg :: s.tm.segs },
    ang := { s.ang with tup := { s.ang.tup with tw := ((s.ang.tup.tw : Int) + shift).toNat } },
    acq := { s.acq with trcAt := s.acq.trcAt.map fun (x : Nat) => ((x : Int) + shift).toNat },
    prt := { s.prt with fdr := s.prt.fdr.map (FdrSt.shifted shift) } }
  let s := (s.taskResync).svResync
  let s := if s.ringMaster && decide (1 ≤ s.ring ∧ s.ring ≤ 3) then s.setYul fun y => { y with next := s.frameAhead 0 } else s
  let s := s.setYul fun y => { y with checked := s.baseIdx }
  { s with wyt := { s.wyt with hbIdx := s.tw / (31250 * 2 ^ 16) } }

/-- A pending time-scheduled course whose target a forward step has reached (R80). -/
def State.stepCourse (s : State) (n : Nat) : State :=
  let c := s.slot n
  match c.st, c.sched with
  | .pending, .time t =>
    if t ≤ s.tw then
      if c.policy = 1 then
        let f := if c.rset then some (s.firstFrame c.acts) else none
        s.setSlot n fun c => { c with sched := .immediate, ringFrame := f, lateFlag := true, accFc := s.tm.fc }
      else s.discard n stLate 0
    else s
  | _, _ => s

/-- The signed difference of two time words of 2^−32 ns, in ns; the rounding is open. -/
def nsDiff (new old : Nat) : Nat := ofSigned 64 (openDiv ((new : Int) - old) (2 ^ 32))

/-- The single step (R77, R80). -/
def State.step1 (s : State) (t : Nat) : State :=
  let old := s.tm.time
  let shift : Int := openDiv ((t : Int) - old) (2 ^ 16)
  let s := (s.timeJump t).setF Reg.TBU_STAT_STEPPED 1
  let s := s.setF Reg.TBU_STAT_RTC_INVALID 0
  let s := s.setTbu fun u => { u with ofs := u.ofs + shift, ports := u.ports.map fun p => { p with ofs := p.ofs + shift, lastSync := none } }
  let s := (s.emit (srcId 0x02 0) 0x0201 1 (nsDiff t old)).irq .tbu 2
  (List.range slotCount).foldl State.stepCourse s

/-- TBU_SET_0–2 as a time word of 2^−32 ns. -/
def State.setTw (s : State) : Nat := twUnpack (s.rd96 Reg.TBU_SET_0) * 2 ^ 16

/-- A command is refused (R681, R685). -/
def State.tbuRej (s : State) : State := s.raise Reg.TBU_STAT_CMD_REJ

/-- TBU_CMD.STEP (R77, R78, R681). -/
def State.tbuStep (s : State) : State :=
  let bad := twBad (s.rd96 Reg.TBU_SET_0)
  let s := if bad then s.tbuRej else s
  if s.flag Reg.TBU_STAT_STEPPED then s.raise Reg.TBU_STAT_STEP_REJ
  else if bad ∨ s.src ≠ 0 then s
  else s.step1 s.setTw

/-- TBU_CMD.REEPOCH (R82). -/
def State.tbuReepoch (s : State) : State :=
  if twBad (s.rd96 Reg.TBU_SET_0) then s.tbuRej else
  let old := s.tm.time
  let t := s.setTw
  let s := (s.wrapF Reg.TBU_EPOCH_EPOCH).timeJump t
  let s := s.discardWhere (fun _ c => match c.sched with
    | .time _ => true
    | _ => false) stEpoch
  (s.emit (srcId 0x02 0) 0x0202 0 (nsDiff t old)).irq .tbu 6

/-- SUSPECT and ASYM_UNCERTAIN end (R101). -/
def State.asymAck (s : State) : State :=
  let s := (List.range 4).foldl (fun (s : State) p => s.setF (Reg.TBU_P_STAT_SUSPECT p) 0) s
  s.setAsym false

/-! ### Measurements (R86, R87, R98–R101) -/

/-- One offset measurement more for the conditions of R86: corrected for the rate applied since the start (R86). -/
def State.measPut (s : State) (ofs : Int) : State :=
  let c := ofs - openDiv ((s.tm.runt : Int) - s.tm.nom) (2 ^ 16)
  s.setTbu fun t => { t with meas := (c :: t.meas).take 8 }

/-- Eight consecutive measurements lie within 1 µs of their mean. -/
def State.measOk (s : State) : Bool :=
  let l := s.tbu.meas
  decide (l.length = 8) && l.all fun x => decide ((8 * x - l.foldl (· + ·) 0).natAbs ≤ 8 * 1000 * 2 ^ 16)

/-- The servo takes a filtered offset (R86, R93). -/
def State.servo (s : State) (ofs : Int) : State :=
  let b := s.getF Reg.TBU_CTL_SBW
  let s := s.setTbu fun t => { t with ofs := ofs, rate := Config.servoRate b t.rate ofs }
  s.setInc (Config.servoInc b s.tbu.rate ofs)

/-- The clock enters LOCKED; the first time, it steps (R77, R86); `target` is the new time word of the step.  DESIGN CHOICE (log
223): a re-epoch before the first lock leaves the single step of R77 to come. -/
def State.lock (s : State) (target : Nat) : State :=
  let s := s.leaveHold
  let s := if s.flag Reg.TBU_STAT_STEPPED then s else s.step1 target
  let s := (s.setClk clkLocked).setTbu fun t => { t with hoStart := s.tm.runt, meas := [] }
  let s := (List.range 4).foldl (fun (s : State) p => if s.ptpValid p then s.setPtpSt p .slave else s) s
  s.irq .tbu 0

/-- An offset measurement of the source in 2^−16 ns, measured and filtered (R86).  DESIGN CHOICE (log 223): the measurement that
takes FREERUN to ACQUIRE counts as the first of the eight. -/
def State.measure (s : State) (raw filtered : Int) (target : Nat) : State :=
  if s.src = 0 then s else
  match s.clk with
  | 0 => ((s.setClk clkAcquire).measPut raw).setTbu fun t => { t with ofs := filtered }
  | 2 => s.servo filtered
  | st =>
    let s := s.measPut raw
    let s := if st = clkAcquire then s.servo filtered else s.setTbu fun t => { t with ofs := filtered }
    if s.measOk then s.lock target else s

/-- STABLE_T in ns. -/
def State.stableNs (s : State) : Nat := s.getF Reg.TBU_PTP_ASYM_STABLE_T * 1000000000

/-- The other port of two independent paths (R99): both follow one grandmaster with a valid offset. -/
def State.pathOf (s : State) (p : Nat) : Option Nat :=
  if !s.ptpValid p then none else
  (List.range 4).find? fun q =>
    q != p && s.ptpValid q && ((s.pp q).best.map fun b => b.gm) == ((s.pp p).best.map fun b => b.gm)

/-- A shift on a single path: of the port that the clock follows under PTP (R100). -/
def State.onePath (s : State) (p : Nat) : State :=
  if s.src = 1 ∧ s.getF Reg.TBU_STAT_FOLLOW = p ∧ (s.pp p).slaved then s.setAsym true else s

/-- PATH_SHIFT on a port (R98, R100). -/
def State.pathShift (s : State) (p : Nat) : State :=
  let s := (((s.setF (Reg.TBU_P_STAT_PATH_SHIFT p) 1).irq .tbu 3).emitOpen (portSrc p) 0x0203 1)
  let s := s.setPp p fun x => { x with shiftAt := some s.tm.runt, mpdBadAt := s.tm.runt, single := false }
  match s.pathOf p with
  | none => s.onePath p
  | some q =>
    let both := match (s.pp q).shiftAt with
      | some t => !s.expired t s.stableNs
      | none => false
    if both then
      let s := (s.setPp p fun x => { x with single := true }).setPp q fun x => { x with single := true }
      s.onePath (s.getF Reg.TBU_STAT_FOLLOW)
    else s

/-- Registers of a port's filtered values, Q24.8. -/
def State.ptpRegs (s : State) (p : Nat) : State :=
  let q := fun (v : Int) (lo hi : Int) => let r := openDiv v 256; if lo ≤ r ∧ r < hi then ofSigned 32 r else Config.overflow r
  let x := s.pp p
  let s := if x.mpdValid then s.wr (Reg.TBU_P_MPD p) (q x.mpd 0 (2 ^ 32)) else s
  if x.ofsValid then s.wr (Reg.TBU_P_OFS p) (q x.ofs (-(2 ^ 31)) (2 ^ 31)) else s

/-- A mean path delay measurement (R98). -/
def State.mpdPut (s : State) (p : Nat) (m : Int) : State :=
  let x := s.pp p
  if !x.mpdValid ∨ x.fresh then
    (s.setPp p fun x => { x with mpd := m, mpdValid := true, fresh := false, devs := [], mpdBadAt := s.tm.runt }).ptpRegs p
  else
    let d := m - x.mpd
    let bad := decide (d.natAbs > s.getF Reg.TBU_PTP_THR_PD * 2 ^ 16)
    let sameSign := match x.devs with
      | y :: _ => decide ((0 < y - x.mpd) ↔ (0 < d))
      | [] => true
    let devs := if bad then (if sameSign then m :: x.devs else [m]) else []
    if devs.length ≥ 4 then
      let mean := openDiv (devs.foldl (· + ·) 0) 4
      ((s.setPp p fun x => { x with mpd := mean, devs := [] }).pathShift p).ptpRegs p
    else
      (s.setPp p fun x => { x with
        mpd := if bad then x.mpd else Config.mpdFilter x.mpd m, devs := devs,
        mpdBadAt := if bad then s.tm.runt else x.mpdBadAt }).ptpRegs p

/-- The divergence of two independent paths is checked (R100, R101). -/
def State.diverge (s : State) (p : Nat) : State :=
  match s.pathOf p with
  | none => s
  | some q =>
    let bad := decide (((s.pp p).ofs - (s.pp q).ofs).natAbs > s.getF Reg.TBU_PTP_THR_DIV * 2 ^ 16)
    if !bad then s
    else [p, q].foldl (fun (s : State) k =>
      let x := s.pp k
      let open_ := match x.shiftAt with
        | some t => !s.expired t s.stableNs
        | none => false
      let s := s.setPp k fun x => { x with divBadAt := s.tm.runt }
      if open_ && !x.single && !s.flag (Reg.TBU_P_STAT_SUSPECT k) then (s.setF (Reg.TBU_P_STAT_SUSPECT k) 1).irq .tbu 4 else s) s

/-- A complete Sync: t2 − t1 − correction (R86, R96). -/
def State.syncDone (s : State) (p : Nat) (x : Int) : State :=
  let s := s.setPp p fun y => { y with lastSync := some x }
  let y := s.pp p
  if !y.mpdValid then s
  else
    let raw := x - y.mpd - s.comp16 (Reg.TBU_P_ASYM p)
    let f := if y.ofsValid then Config.ofsFilter y.ofs raw else raw
    let s := if y.ofsValid then s else (List.range 4).foldl (fun (s : State) q => s.setPp q fun z => { z with divBadAt := s.tm.runt }) s
    let s := (s.setPp p fun y => { y with ofs := f, ofsValid := true }).ptpRegs p
    let s := if y.st = .uncalibrated ∧ s.clk ≥ clkLocked then s.setPtpSt p .slave else s
    let s := (s.diverge p).follow
    if s.getF Reg.TBU_STAT_FOLLOW = p ∧ s.src = 1 then
      s.measure raw f ((s.tm.time : Int) + Config.lockStep (raw :: s.tbu.meas)).toNat
    else s

/-- PATH_STABLE_TIMEOUT (R100, R101). -/
def execPathStableTimeout (p : Nat) (s : State) : Out := s.only (decide (p < 4)) <|
  let x := s.pp p
  let t := s.stableNs
  let s := match x.shiftAt with
    | some a =>
      if s.expired a t && !s.flag (Reg.TBU_P_STAT_SUSPECT p) then
        (s.setF (Reg.TBU_P_STAT_PATH_SHIFT p) 0).setPp p fun x => { x with shiftAt := none, single := false }
      else s
    | none => s
  let s := if s.flag (Reg.TBU_P_STAT_SUSPECT p) && (s.pathOf p).isSome && s.expired x.divBadAt t then
      s.setF (Reg.TBU_P_STAT_SUSPECT p) 0
    else s
  let s := if s.getF Reg.TBU_STAT_FOLLOW = p ∧ s.flag Reg.TBU_STAT_ASYM_UNCERTAIN ∧ s.expired x.mpdBadAt t then s.setAsym false else s
  .next s.follow

/-! ### Messages (R88, R90) -/

/-- The header of a PTP message the module sends on a port (R88, R92): its domain, its port identity, the port identity of the
request it answers, its transport, under C37.238 the profile TLV of an Announce. -/
def State.ptpHdr (s : State) (p : Nat) (k : PtpKind) (rq : Nat) : PtpHdr :=
  ⟨s.getF Reg.TBU_PTP_CTL_DOMAIN, s.clockId, p + 1, rq / 2 ^ 16, rq % 2 ^ 16, if s.flag Reg.TBU_PTP_CTL_UDP then .udp4 else .l2,
    k == .announce && s.getF Reg.TBU_BMCA_0_PROF == 2⟩

/-- The module sends a PTP message on a port, with priority 2 (R497); an Announce carries the dataset of the grandmaster it follows with one step more, or its
own (R90, R91). -/
def State.ptpOut (s : State) (p : Nat) (k : PtpKind) (rq seq origin : Nat) (corr : Int) : State :=
  let d := match s.bestCand with
    | some b => if (List.range 4).any fun q => (s.pp q).slaved then { b.ds with steps := b.ds.steps + 1 } else s.ownDataset
    | none => s.ownDataset
  s.send [p] 2 0 (.ptp k (s.ptpHdr p k rq) seq origin corr d) none

/-- Messages a transparent clock passes on to the other ports with P2P_TC (R88): one-step, so the event message itself carries the
correction for path delay, asymmetry and residence time, and a Follow_Up passes as it is. -/
def State.ptpForward (s : State) (p : Nat) (m : PtpMsg) : State :=
  if !s.flag (Reg.TBU_P_CTL_P2P_TC p) ∨ s.flag Reg.TBU_PTP_CTL_UDP then s
  else
    let res := Config.residence s.freeCtr
    let corr := match m.kind with
      | .sync => m.correction + (s.pp p).mpd + s.comp16 (Reg.TBU_P_ASYM p) + res
      | _ => m.correction
    let pass := match m.kind with
      | .sync | .followUp | .announce | .management | .other => true
      | _ => false
    if !pass then s
    else
      let qs := (List.range 4).filter fun q => q != p && s.ptpPort q && s.flag (Reg.TBU_P_CTL_P2P_TC q)
      (qs.foldl (fun (s : State) q => s.send [q] 2 0 (.ptp m.kind m.hdr m.seqId m.origin corr m.dataset) none) s).bump

/-- An Announce (R90). -/
def State.announceRx (s : State) (p : Nat) (m : PtpMsg) : State :=
  let x := s.pp p
  let c : PtpCand := ⟨m.dataset, ptpFrom m, p + 1⟩
  let take := ptpFrom m == x.sender || match s.candOf p with
    | some b => c.better b
    | none => true
  if !take then s
  else
    let s := s.setPp p fun x => { x with best := some m.dataset, sender := ptpFrom m, bestAt := s.tm.runt }
    let s := if ptpFrom m = x.sender ∨ x.slaved = false then s
      else s.setPp p fun x => { x with st := .listening, ofsValid := false }
    s.bmca

/-- A Sync or its Follow_Up from the port's master. -/
def State.syncRx (s : State) (p : Nat) (m : PtpMsg) : State :=
  let x := s.pp p
  if !x.slaved ∨ ptpFrom m ≠ x.sender then s
  else
    let t2 := s.ingress p m.raw
    let s := s.setPp p fun x => { x with syncLog := m.log }
    let s := if s.src = 1 ∧ s.getF Reg.TBU_STAT_FOLLOW = p then s.setTbu fun t => { t with hoStart := s.tm.runt } else s
    if m.twoStep then s.setPp p fun x => { x with syncRx := some (m.seqId, t2, m.correction) }
    else s.syncDone p ((t2 : Int) - m.origin - m.correction)
def State.followUpRx (s : State) (p : Nat) (m : PtpMsg) : State :=
  let x := s.pp p
  match x.syncRx with
  | some (seq, t2, c) =>
    if x.slaved ∧ ptpFrom m = x.sender ∧ m.seqId = seq then
      (s.setPp p fun x => { x with syncRx := none }).syncDone p ((t2 : Int) - m.origin - c - m.correction)
    else s
  | none => s

/-- A message answers a request of this port (R92). -/
def State.ptpMine (s : State) (p : Nat) (m : PtpMsg) : Bool := m.hdr.reqClock == s.clockId && m.hdr.reqPort == p + 1

/-- The answers to delay requests, and a request to answer. -/
def State.delayRx (s : State) (p : Nat) (m : PtpMsg) : State :=
  let x := s.pp p
  let p2p := s.flag (Reg.TBU_P_CTL_PDELAY p)
  match m.kind with
  | .delayReq => if !p2p ∧ x.st = .master then s.ptpOut p .delayResp (ptpFrom m) m.seqId (s.ingress p m.raw) m.correction else s
  | .pdelayReq =>
    if !p2p then s
    else
      let t2 := s.ingress p m.raw
      let turn := Config.residence s.freeCtr
      if s.flag (Reg.TBU_P_CTL_ONE_STEP p) then (s.ptpOut p .pdelayResp (ptpFrom m) m.seqId 0 (m.correction + turn)).bump
      else ((s.ptpOut p .pdelayResp (ptpFrom m) m.seqId t2 0).ptpOut p .pdelayRespFollowUp (ptpFrom m) m.seqId ((t2 : Int) + turn).toNat m.correction).bump
  | .delayResp =>
    match x.reqTx, x.lastSync with
    | some (seq, t3), some d =>
      if s.ptpMine p m ∧ !p2p ∧ m.seqId = seq ∧ ptpFrom m = x.sender then
        (s.setPp p fun x => { x with reqTx := none }).mpdPut p (openDiv (d + m.origin - t3 - m.correction) 2)
      else s
    | _, _ => s
  | .pdelayResp =>
    match x.reqTx with
    | some (seq, t1) =>
      if s.ptpMine p m ∧ p2p ∧ m.seqId = seq then
        let t4 := s.ingress p m.raw
        if m.twoStep then s.setPp p fun x => { x with pdResp := some (seq, m.origin, t4, m.correction) }
        else (s.setPp p fun x => { x with reqTx := none }).mpdPut p (openDiv ((t4 : Int) - t1 - m.correction) 2)
      else s
    | none => s
  | .pdelayRespFollowUp =>
    match x.reqTx, x.pdResp with
    | some (_, t1), some (seq, t2, t4, c) =>
      if s.ptpMine p m ∧ p2p ∧ m.seqId = seq then
        (s.setPp p fun x => { x with reqTx := none, pdResp := none }).mpdPut p
          (openDiv ((t4 : Int) - t1 - ((m.origin : Int) - t2) - c - m.correction) 2)
      else s
    | _, _ => s
  | _ => s

/-- PTP_MESSAGE_RX (R88, R493 row 2); management messages go to host software with their frame. -/
def execPtpMessageRx (p : Nat) (m : PtpMsg) (s : State) : Out := s.only (decide (p < 4)) <|
  if !s.ptpPort p then .next s
  else if s.ptpUnsupported m then .next (s.incF (Reg.TBU_P_STAT_UNSUP p))
  else
    let take := s.ptpTaken m
    let s := s.ptpForward p m
    if !take then .next s
    else .next (match m.kind with
      | .announce => s.announceRx p m
      | .sync => s.syncRx p m
      | .followUp => s.followUpRx p m
      | _ => s.delayRx p m)

/-- An Announce still waits in this fc that restarts a port's receipt timeout (R66): of its best master or, in LISTENING, of any. -/
def State.announceComes (s : State) (p : Nat) : Bool :=
  s.comes fun c => match c with
    | .ptpMessageRx q m => q == p && s.ptpTaken m && m.kind == .announce && ((s.pp p).best.isNone || ptpFrom m == (s.pp p).sender)
    | _ => false

/-- ANNOUNCE_RECEIPT_TIMEOUT (R90): announceReceiptTimeout intervals without an Announce, of the port's best master or, in
LISTENING, of any. -/
def execAnnounceReceiptTimeout (p : Nat) (s : State) : Out := s.only (decide (p < 4)) <|
  let x := s.pp p
  let l := s.getI Reg.TBU_PTP_INTV_ANNOUNCE
  let per : Nat := if 0 ≤ l then sec32 * 2 ^ l.toNat else sec32 / 2 ^ (-l).toNat
  if s.ptpPort p && !s.announceComes p && (x.best.isSome || x.st == .listening) && decide (x.bestAt + s.getF Reg.TBU_PTP_INTV_ANN_TMO * per ≤ s.tm.runt) then
    let s := s.setPp p fun x => { x with best := none, sender := 0, syncRx := none, lastSync := none, bestAt := s.tm.runt }
    let s := if x.st = .listening then s.setPtpSt p .passive else s
    .next s.bmca
  else .next s

/-- The interval at which a message kind leaves, in 2^−32 ns; none where the spec gives none. -/
def State.ptpPer (s : State) (k : PtpKind) : Nat :=
  let at_ := fun (l : Int) => if 0 ≤ l then sec32 * 2 ^ l.toNat else sec32 / 2 ^ (-l).toNat
  match k with
  | .sync => at_ (s.getI Reg.TBU_PTP_INTV_SYNC)
  | .announce => at_ (s.getI Reg.TBU_PTP_INTV_ANNOUNCE)
  | .pdelayReq => at_ (s.getI Reg.TBU_PTP_INTV_PDELAY)
  | _ => 0

/-- PTP_MESSAGE_TX (R88, R103): a message of the port's own schedule leaves, once the port is free for it (R497). -/
def execPtpMessageTx (p : Nat) (k : PtpKind) (s : State) : Out := s.only (decide (p < 4)) <|
  let x := s.pp p
  let p2p := s.flag (Reg.TBU_P_CTL_PDELAY p)
  let may := match k with
    | .sync | .announce => x.st == .master
    | .delayReq => !p2p && x.slaved
    | .pdelayReq => p2p
    | _ => false
  let last := x.sent.find? fun y => y.1 == k
  let due := match last with
    | some y => decide (y.2.1 + s.ptpPer k ≤ s.tm.runt)
    | none => true
  if !(s.ptpPort p && may && due && s.txFree p 2) then .next s
  else
    let seq := match last with
      | some y => (y.2.2 + 1) % 65536
      | none => 0
    let s := s.setPp p fun x => { x with sent := (x.sent.filter fun y => y.1 != k) ++ [(k, s.tm.runt, seq)] }
    let t := s.egress p
    match k with
    | .sync =>
      if s.flag (Reg.TBU_P_CTL_ONE_STEP p) then .next (s.ptpOut p .sync 0 seq t 0)
      else .next ((s.ptpOut p .sync 0 seq 0 0).ptpOut p .followUp 0 seq t 0)
    | .announce => .next (s.ptpOut p .announce 0 seq 0 0)
    | k => .next ((s.ptpOut p k 0 seq 0 0).setPp p fun x => { x with reqTx := some (seq, t), pdResp := none })

/-! ### Commands (R82, R84, R89, R101, R685) -/

/-- A write of TBU_CMD (R77, R82, R101, R685). -/
def State.tbuCmd (s : State) (i : Iface) (v : Nat) : State :=
  let s := if v.testBit 2 then s.command i .operate State.asymAck else s
  if v.testBit 0 && v.testBit 1 then
    if s.may i .engineer then s.tbuRej
    else if s.may i .operate then s.tbuRej.deny i
    else s.deny i
  else if v.testBit 1 then s.command i .engineer State.tbuReepoch
  else if v.testBit 0 then s.command i .operate State.tbuStep
  else s

/-- TBU_STEP (R77, R78). -/
def execTbuStep (ifc : Iface) (v : Word) (s : State) : Out := s.hostRow ifc <| .next (s.tbuCmd ifc (v.toNat ||| 1))

/-- TBU_REEPOCH (R82). -/
def execTbuReepoch (ifc : Iface) (v : Word) (s : State) : Out := s.hostRow ifc <| .next (s.tbuCmd ifc (v.toNat ||| 2))

/-- TBU_ASYM_ACK (R101). -/
def execTbuAsymAck (ifc : Iface) (v : Word) (s : State) : Out := s.hostRow ifc <| .next (s.tbuCmd ifc (v.toNat ||| 4))

/-- A write of TBU_CTL (R84, R86). -/
def State.tbuCtl (s : State) (i : Iface) (v : Nat) : State :=
  let s := s.holdoverFirst
  let was := s.src
  let s := s.fieldWrite i Reg.TBU_CTL v
  if s.src = was then s
  else
    let s := s.leaveHold.setTbu fun t => { t with meas := [], hoStart := s.tm.runt }
    if s.src = 0 then (s.setInc s.tbu.rate).setClk clkFree else s

/-- TBU_SRC_WRITE (R84). -/
def execTbuSrcWrite (ifc : Iface) (v : Word) (s : State) : Out := s.hostRow ifc <| .next (s.tbuCtl ifc v.toNat)

/-- A write of TBU_BMCA_0 (R89): a changed PROF loads its defaults.  DESIGN CHOICE (log 223): a PROF of 3–255, which the map does not
name, is stored and loads nothing. -/
def State.bmcaLoad (s : State) (i : Iface) (v : Nat) : State :=
  let was := s.getF Reg.TBU_BMCA_0_PROF
  let s := s.fieldWrite i Reg.TBU_BMCA_0 v
  let prof := s.getF Reg.TBU_BMCA_0_PROF
  if prof = was then s
  else if prof = 0 then
    let s := s.setF Reg.TBU_PTP_CTL_DOMAIN (bits (s.imageWord Reg.TBU_PTP_CTL) 7 0)
    let s := (s.wr Reg.TBU_BMCA_0 (s.imageWord Reg.TBU_BMCA_0)).setF Reg.TBU_BMCA_0_PROF 0
    let s := s.wr Reg.TBU_PTP_INTV (s.imageWord Reg.TBU_PTP_INTV)
    (List.range 4).foldl (fun (s : State) p => s.setF (Reg.TBU_P_CTL_PDELAY p) (bits (s.imageWord (Reg.TBU_P_CTL p)) 0 0)) s
  else if prof ≤ 2 then
    let s := s.setF Reg.TBU_PTP_CTL_DOMAIN (if prof = 1 then 0 else 254)
    let s := (s.setF Reg.TBU_BMCA_0_PRIO1 128).setF Reg.TBU_BMCA_0_PRIO2 128
    let s := ((s.setF Reg.TBU_PTP_INTV_SYNC 0).setF Reg.TBU_PTP_INTV_ANNOUNCE 0).setF Reg.TBU_PTP_INTV_PDELAY 0
    let s := s.setF Reg.TBU_PTP_INTV_ANN_TMO 3
    (List.range 4).foldl (fun (s : State) p => s.setF (Reg.TBU_P_CTL_PDELAY p) 1) s
  else s

/-- A write of TBU_BMCA_0; the own dataset may change, so the state decisions are made again (R90). -/
def State.bmcaWrite (s : State) (i : Iface) (v : Nat) : State := (s.bmcaLoad i v).bmca

/-- A write of TBU_PTP_CTL or TBU_BMCA_1, 2: the state decisions are made again (R90). -/
def State.ptpWrite (s : State) (i : Iface) (off v : Nat) : State := (s.fieldWrite i off v).bmca

/-- A write of a port's compensation (R96, R97): from the next message on; an exchange under way is dropped and the delay filter
restarts at the next measurement, so that no PATH_SHIFT comes of it. -/
def State.latWrite (s : State) (i : Iface) (p off v : Nat) : State :=
  let was := s.rd off
  let s := s.fieldWrite i off v
  if s.rd off = was ∨ p ≥ 4 then s
  else s.setPp p fun x => { x with fresh := true, devs := [], reqTx := none, pdResp := none, lastSync := none }

/-- TBU_PROF_WRITE (R89). -/
def execTbuProfWrite (ifc : Iface) (v : Word) (s : State) : Out := s.hostRow ifc <| .next (s.bmcaWrite ifc v.toNat)

/-- A read of TBU_Pp_TXQ_ID (R104): the oldest entry leaves the queue and is latched. -/
def State.txqRead (s : State) (i : Iface) (p : Nat) : State × Nat :=
  match (s.pp p).txq with
  | [] => (s, 0xFFFFFFFF)
  | e :: t =>
    let s := s.setPp p fun x => { x with txq := t }
    (s.setSnap i (Reg.TBU_P_TXQ_ID p) (e.id :: (wordsOf (leBytes 12 (twPack e.tw)) ++ [e.epoch])), e.id)

/-- TXQ_ID_READ (R104). -/
def execTxqIdRead (ifc : Iface) (p : Nat) (s : State) : Out := s.readRow ifc (Reg.TBU_P_TXQ_ID p) <|
  if p < 4 then
    let r := s.txqRead ifc p
    .next (r.1.answer ifc (Reg.TBU_P_TXQ_ID p) r.2)
  else .next s

/-! ### PPS (R81, R107–R109) -/

/-- PPS_OUT changes. -/
def State.ppsSet (s : State) (up : Bool) : State :=
  (s.setTbu fun t => { t with ppsHigh := up, ppsRise := if up then s.tm.runt else t.ppsRise }).out (.ppsOut up)

/-- PPS_OUT_PULSE (R81, R107): the time word has reached a boundary in this fc. -/
def execPpsOutPulse (s : State) : Out :=
  let cmp := s.rd Reg.TBU_PPS_OUT_CMP * 2 ^ 24
  let active := decide (s.clk ≥ clkLocked) || s.flag Reg.TBU_PPS_CTL_FREE
  let again := s.tbu.ppsHigh && s.tbu.ppsRise == s.tm.runt
  if s.on secTbu && active && !again && decide (s.tm.reach + cmp ≤ (s.tm.time + cmp) / sec32 * sec32) then .next (s.ppsSet true)
  else .next s

/-- PPS_OUT_WIDTH_END (R107). -/
def execPpsOutWidthEnd (s : State) : Out :=
  if s.tbu.ppsHigh && s.expired s.tbu.ppsRise (s.getF Reg.TBU_PPS_CTL_WIDTH * 1000000) then .next (s.ppsSet false) else .next s

/-- The timebase unit stops: PPS_OUT stays low (R109). -/
def State.tbuOff (s : State) : State := if s.tbu.ppsHigh then s.ppsSet false else s

/-- PPS_IN_EDGE (R84, R87, R108, R109). -/
def execPpsInEdge (s : State) : Out :=
  if !s.on secTbu then .next s
  else
    let t := s.tw - s.rd Reg.TBU_PPS_IN_CMP * 256
    let far := s.ppsFar t
    let s := (s.wrTw Reg.TBU_PPS_IN_TS_0 t).raise Reg.TBU_STAT_PPS_SEEN
    let ofs := secOffset t
    if s.src ≠ 2 ∨ far then .next s
    else
      let s := s.setTbu fun t => { t with hoStart := s.tm.runt }
      let f := if s.clk = clkFree then ofs else Config.ofsFilter s.tbu.ofs ofs
      .next (s.measure ofs f (s.rd96 Reg.TBU_SET_0 / 2 ^ 48 * sec32))

/-! ### Loss of a link (R86, R492) -/

/-- A port carries no more traffic: the clock leaves it, and a LOCKED clock whose source it was enters HOLDOVER (R86, R102). -/
def State.portGone (s : State) (p : Nat) : State :=
  if p ≥ 4 then s
  else
    let followed := s.getF Reg.TBU_STAT_FOLLOW == p && s.src == 1 && s.clk == clkLocked
    let s := s.setPtpSt p .listening
    let s := s.setPp p fun x => { x with
      best := none, sender := 0, syncRx := none, lastSync := none, reqTx := none, pdResp := none, ofsValid := false,
      mpdValid := false, devs := [], bestAt := s.tm.runt }
    let s := s.bmca
    if followed then s.holdover else s

/-- The link of a port goes down. -/
def State.linkLost (s : State) (p : Nat) : State :=
  if s.linkBit p then ((s.setLink p false).emitOpen (portSrc p) 0x8001 1).portGone p else s

/-- LINK_DOWN (R492). -/
def execLinkDown (p : Nat) (s : State) : Out := s.only (decide (p < 5)) <| .next (if p ≤ 4 then s.linkLost p else s)

end Sys2Proof.Machine
end

