-- ==== Sys2Proof/Machine/Wythe.lean ====
section
/-!
DEFINITION. The double-wythe pair (20): heartbeats, pair states and roles, takeover, comparison of trips and totalisers; and the
end of a commit's MRAM write, whose record the pair compares (R396, R629).
-/
namespace Sys2Proof.Machine

/-- Change the state of the pair unit. -/
def State.setWyt (s : State) (f : WytSt → WytSt) : State := { s with wyt := f s.wyt }

/-- Pair states (R616). -/
def wyOff : Nat := 0
def wySeek : Nat := 1
def wyPaired : Nat := 2
def wyAlone : Nat := 3
def wyRefused : Nat := 4
def wyTransit : Nat := 5

/-- Causes of REFUSED. -/
def wyCauseStamp : Nat := 1
def wyCauseSide : Nat := 2
def wyCauseRefire : Nat := 3

/-- The source of the pair's events (R631). -/
def wytSrc : Nat := 0xC000

/-- The pair state. -/
def State.wy (s : State) : Nat := s.getF Reg.WYT_STAT_STATE

/-- Interval of heartbeats, in 2^−32 ns. -/
def hbPer : Nat := 31250 * 2 ^ 32

/-! ### Roles (R617, R618) -/

/-- The role changes: the ring controller becomes master or ROLE 3 (R618). -/
def State.setRole (s : State) (r : Nat) : State :=
  if s.role = r then s else
  let was := s.ringMaster
  let s := if was then s.ringDrop else s
  let s := (s.setF Reg.WYT_STAT_ROLE r).irq .wyt 0
  if s.ringMaster ≠ was ∧ s.on secYul then s.yulReady else s

/-- The pair state changes; counts towards the next change begin afresh (R616). -/
def State.setPair (s : State) (st : Nat) : State :=
  let s := if s.wy = st then s else (s.setF Reg.WYT_STAT_STATE st).irq .wyt 0
  s.setWyt fun w => { w with same := 0, differ := 0, sameSide := 0 }

/-- Entry to PAIRED (R617, R630). -/
def State.pairUp (s : State) : State :=
  let p := s.getF Reg.WYT_STAT_P_ROLE
  let r := if s.role = 1 ∧ p ≠ 1 then 1 else if s.role ≠ 1 ∧ p = 1 then 2 else if s.flag Reg.WYT_STAT_SIDE then 2 else 1
  let s := ((s.setPair wyPaired).setF Reg.WYT_STAT_CAUSE 0).setRole r
  let s := s.setWyt fun w => { w with base := none, own := [], theirs := [], trips := [], refire := none, calmAt := none }
  s.emit wytSrc 0xC001 2 r

/-- Entry to REFUSED (R616, R617). -/
def State.pairRefuse (s : State) (cause : Nat) : State :=
  let seek := s.wy == wySeek
  let s := (s.setPair wyRefused).setF Reg.WYT_STAT_CAUSE cause
  let s := if seek then s.setRole (if s.flag Reg.WYT_STAT_SIDE then 2 else 1) else s
  s.emit wytSrc 0xC004 1 (s.rd Reg.WYT_PSTAMP + cause * 2 ^ 32)

/-- Entry to ALONE from SEEK (R617). -/
def State.pairAlone (s : State) : State := (s.setPair wyAlone).setRole (if s.wyt.ringHeard then 2 else 1)

/-- The unit is READY (R616). -/
def State.wytReady (s : State) : State :=
  let s := s.setWyt fun w => { w with
    hbAt := none, readyAt := s.tm.runt, lost := false, ringHeard := false, tripf := 0, trips := [], own := [], theirs := [],
    refire := none, pRefiring := false, calmAt := none, hbIdx := s.tm.time / hbPer, hbSeen := false }
  let s := s.setF Reg.WYT_STAT_HBGOOD 0
  if s.flag Reg.WYT_CFG_EN then (s.setPair wySeek).setRole 0 else s

/-- EN 0, or the unit stops or is shed (R616). -/
def State.wytOff (s : State) : State :=
  let was := s.ringMaster
  let s := if s.wy = wyOff then s else s.setPair wyOff
  if was && !s.ringMaster then s.ringDrop else s

/-! ### Takeover (R619–R621) -/

/-- Takeover: the ring goes on with the view of R619, every enabled dataset is sent once as a change (R621). -/
def State.takeover (s : State) : State :=
  let s := (s.setF Reg.WYT_STAT_ROLE 1).irq .wyt 0
  let n := s.frameAhead 64
  let s := if s.ringMaster && s.govFull then
      let line := !s.linkUp 2 || !s.linkUp 3
      let s := s.setF Reg.YUL_STAT_STATE (if line then yLine else yRun)
      s.setYul fun y => { y with
        next := n, sent := none, scanCnt := none, toLine := none, tags := [], committed := [], back := [], answered := [], acks := [],
        turners := [], leaving := none }
    else s
  let s := (List.range 32).foldl (fun (s : State) k => s.gooseChange k (s.rd (Reg.ETH_GP_VAL k))) s
  ((s.emit wytSrc 0xC003 1 (n % 2 ^ 32)).wrTw Reg.WYT_TKO_TW_0 s.tw).irq .wyt 1

/-- Whether heartbeat loss has expired, or no heartbeat has come since READY (R620). -/
def State.silent (s : State) : Bool :=
  match s.wyt.hbAt with
  | none => true
  | some t => decide (t + s.getF Reg.WYT_CFG_LOSS * hbPer ≤ s.tm.runt)

/-- A heartbeat still waits in this fc (R66, R614). -/
def State.hbComes (s : State) (q : Heartbeat → Bool) : Bool :=
  s.on (secEth 4) && s.comes fun i => match i with
    | .heartbeatRx h => q h
    | _ => false

/-- A SHADOW takes over once both paths are silent (R620). -/
def State.tryTakeover (s : State) : State :=
  if s.role == 2 && (s.wy == wyPaired || s.wy == wyAlone) && s.getF Reg.WYT_STAT_RINGABS == 3 && s.silent &&
      !s.hbComes (fun _ => true) then s.takeover else s

/-- SHADOW_BASE_INSTANT (R619): base instant B_k passes in ROLE 3. -/
def execShadowBaseInstant (s : State) : Out :=
  let k := s.yul.checked + 1
  if !(s.on secWyt && s.standby && decide (k ≤ s.baseIdx)) then .next s
  else
    let ringed := s.on secYul && s.getF Reg.YUL_CTL_ROLE == 1
    let seen := s.yul.seen.contains (k % 2 ^ 32)
    let abs := s.getF Reg.WYT_STAT_RINGABS
    let s := s.setF Reg.WYT_STAT_RINGABS
      (if ringed then (if seen then 0 else min 3 (abs + 1)) else if s.silent then min 3 (abs + 1) else 0)
    .next (s.setYul fun y => { y with checked := k }).tryTakeover

/-! ### Heartbeats (R613, R614, R616) -/

/-- The heartbeat that leaves now (R613). -/
def State.heartbeat (s : State) : Heartbeat :=
  { tw := s.tw, stamp := s.shortStamp, state := s.wy, role := s.role, side := s.getF Reg.WYT_STAT_SIDE,
    profile := s.getF Reg.PWR_STAT_PROFILE, refiring := s.flag Reg.KLN_STAT_REFIRING,
    ringMaster := s.ringMaster && (s.ring == yRun || s.ring == yLine), epoch := s.epoch, tripf := s.wyt.tripf,
    cycle := s.rd Reg.YUL_CYCLE }

/-- HEARTBEAT_TX (R614); an interval without a registration counts in MISSED while PAIRED. -/
def execHeartbeatTx (s : State) : Out :=
  if s.on secWyt && decide (s.wyt.hbIdx < s.tm.time / hbPer) then
    let s := if s.wyt.hbSeen then s
      else (if s.wy = wyPaired then s.count Reg.WYT_HB_CNT_MISSED else s).setF Reg.WYT_STAT_HBGOOD 0
    let s := s.wSend (.heartbeat s.heartbeat)
    .next (s.setWyt fun w => { w with hbIdx := s.tm.time / hbPer, hbSeen := false, tripf := 0 })
  else .next s

/-- The counts of consecutive heartbeats (R616). -/
def State.hbCount (s : State) (h : Heartbeat) : State :=
  let eq := h.stamp == s.shortStamp
  let side := h.side == s.getF Reg.WYT_STAT_SIDE
  s.setWyt fun w => { w with
    same := if eq && (!side || s.wy == wyRefused) then w.same + 1 else 0,
    differ := if eq then 0 else w.differ + 1,
    sameSide := if side then w.sameSide + 1 else 0 }

/-- Neither module is refiring (R616). -/
def State.calm (s : State) : Bool := !s.wyt.pRefiring && !s.flag Reg.KLN_STAT_REFIRING && s.wyt.refire.all (·.done)

/-- The transitions a heartbeat brings (R616). -/
def State.hbMove (s : State) (h : Heartbeat) : State :=
  let n := max 1 (s.getF Reg.WYT_CFG_FORM)
  let w := s.wyt
  match s.wy with
  | 1 => if w.same ≥ n then s.pairUp else if w.differ ≥ n then s.pairRefuse wyCauseStamp
    else if w.sameSide ≥ n then s.pairRefuse wyCauseSide else s
  | 2 => if w.differ ≥ n then s.pairRefuse wyCauseStamp else s
  | 3 => if w.same ≥ n then s.pairUp else if w.differ ≥ n then s.pairRefuse wyCauseStamp else s
  | 4 => if w.same ≥ n then s.pairUp else s
  | 5 => if s.calm && h.stamp == s.shortStamp then s.pairUp else s
  | _ => s

/-- HEARTBEAT_RX (R614, R616, R627). -/
def execHeartbeatRx (h : Heartbeat) (s : State) : Out :=
  if !(s.on secWyt && s.on (secEth 4)) then .next s
  else
    let s := (s.incF Reg.WYT_STAT_HBGOOD).wr Reg.WYT_PSTAMP h.stamp
    let s := (s.setF Reg.WYT_STAT_P_ROLE h.role).setF Reg.WYT_STAT_P_PROF h.profile
    let s := s.setWyt fun w => { w with
      hbAt := some s.tm.runt, hbSeen := true, lost := false, pRefiring := h.refiring, pStamp := h.stamp,
      trips := w.trips.filter fun t => !h.tripf.testBit t.1 }
    let s := s.setWyt fun w => { w with refire := w.refire.map fun r =>
      if r.mine ∧ r.done ∧ r.partner.isNone ∧ r.at_ < h.tw then
        { r with partner := some (h.refiring || h.stamp == s.shortStamp) } else r }
    let s := s.setWyt fun w => { w with calmAt := if s.calm then some (w.calmAt.getD s.tm.runt) else none }
    .next ((s.hbCount h).hbMove h)

/-- HEARTBEAT_LOSS (R614, R616, R620). -/
def execHeartbeatLoss (s : State) : Out :=
  if s.on secWyt && s.wyt.hbAt.isSome && !s.wyt.lost && s.silent && !s.hbComes (fun _ => true) then
    let s := (s.count Reg.WYT_HB_CNT_LOSSES).setF Reg.WYT_STAT_HBGOOD 0
    let s := s.setWyt fun w => { w with lost := true, same := 0, differ := 0, sameSide := 0 }
    let s := if s.wy = wyPaired then
        let s := s.setPair wyAlone
        s.emit wytSrc 0xC002 1 (b2n s.degraded)
      else s
    .next s.tryTakeover
  else .next s

/-- PAIR_WAIT_TIMEOUT (R616). -/
def execPairWaitTimeout (s : State) : Out :=
  if s.wy == wySeek && s.wyt.hbAt.isNone && s.expired s.wyt.readyAt (s.getF Reg.WYT_CFG_WAIT * 1000000) &&
      !s.hbComes (fun _ => true) then .next s.pairAlone
  else .next s

/-- TRANSIT_TIMEOUT (R616). -/
def execTransitTimeout (s : State) : Out :=
  match s.wyt.calmAt with
  | some t =>
    if s.wy == wyTransit && s.calm && s.expired t 100000000 && s.wyt.pStamp != s.shortStamp &&
        !s.hbComes (fun h => h.stamp == s.shortStamp) then .next (s.pairRefuse wyCauseRefire)
    else .next s
  | none => .next s

/-- W_UNKNOWN_FRAME_RX (R612). -/
def execWUnknownFrameRx (s : State) : Out :=
  if s.on (secEth 4) && s.flag Reg.ETH_W_STAT_LINK then .next (s.count Reg.ETH_W_CNT_UNKNOWN) else .next s

/-! ### Trips (R613, R627) -/

/-- A standing course has set: bit f, or 12 + s, of TRIPF. -/
def State.wytTrip (s : State) (b : Nat) : State :=
  if !s.on secWyt then s
  else s.setWyt fun w => { w with
    tripf := putBit w.tripf b true,
    trips := if s.wy = wyPaired then w.trips ++ [(b, s.tm.runt)] else w.trips }

/-- TRIP_DISAGREE_WINDOW (R627). -/
def execTripDisagreeWindow (s : State) : Out :=
  let ns := s.getF Reg.WYT_TRIP_WIN * 1000000
  let late := fun (t : Nat × Nat) => s.expired t.2 ns && !s.hbComes fun h => h.tripf.testBit t.1
  let due := s.wyt.trips.filter late
  let s := s.setWyt fun w => { w with trips := w.trips.filter fun t => !late t }
  if s.wy = wyPaired then
    .next (due.foldl (fun (s : State) t =>
      ((s.incF Reg.WYT_TRIP_DISAGREE).emit wytSrc 0xC005 1 (if t.1 < 12 then t.1 else 0x10 + (t.1 - 12))).irq .wyt 2) s)
  else .next s

/-! ### Totaliser comparison (R629, R630) -/

/-- The LEAD compares a paired record with base and tolerance (R630). -/
def State.pairRecord (s : State) (lead shadow : List Nat) : State :=
  let d := lead.zipIdx.map fun x => (x.1 : Int) - shadow.getD x.2 0
  match s.wyt.base with
  | none => s.setWyt fun w => { w with base := some (d, lead) }
  | some (base, l0) =>
    let ppm : Int := s.getF Reg.WYT_TOT_TOL_PPM
    let abs : Int := s.getF Reg.WYT_TOT_TOL_ABS
    (List.range 160).foldl (fun (s : State) n =>
      let dev : Int := ((d.getD n 0 - base.getD n 0).natAbs : Nat)
      let lim := max (abs * 1000000) (ppm * ((lead.getD n 0 : Int) - l0.getD n 0))
      let f := Reg.WYT_TOT_MAP_MAP (n / 32)
      if dev * 1000000 > lim ∧ !(s.getF f).testBit (n % 32) then
        (((s.setBit f (n % 32) true).incF Reg.WYT_TOT_STAT_FLAGGED).emit wytSrc 0xC006 1 n).irq .wyt 3
      else s) s

/-- W_COMPARE_RX (R629, R630). -/
def execWCompareRx (tw : Nat) (values : List Nat) (s : State) : Out :=
  if s.wy = wyPaired ∧ s.role = 1 then
    match s.wyt.own.find? fun r => r.tw == tw with
    | some r => .next ((s.setWyt fun w => { w with own := w.own.filter fun x => x.tw != tw }).pairRecord r.values values)
    | none => .next (s.setWyt fun w => { w with theirs := w.theirs ++ [⟨tw, values, s.tm.runt⟩] })
  else .next s

/-- COMPARE_UNPAIRED (R629). -/
def execCompareUnpaired (s : State) : Out :=
  let comes := fun (r : PairRec) => s.comes fun i => match i with
    | .wCompareRx tw _ => tw == r.tw
    | _ => false
  let old := fun (r : PairRec) => s.expired r.at_ (2 * s.meterPeriod) && !comes r
  let n := s.wyt.own.countP old + s.wyt.theirs.countP old
  let s := s.setWyt fun w => { w with own := w.own.filter fun r => !old r, theirs := w.theirs.filter fun r => !old r }
  .next (if n = 0 then s else s.count Reg.WYT_TOT_STAT_UNPAIRED n)

/-- WYT_CMD (R630). -/
def State.wytCmd (s : State) (i : Iface) (v : Nat) : State :=
  if v.testBit 0 then
    s.command i .engineer fun s =>
      let s := (List.range 5).foldl (fun (s : State) m => s.wr (Reg.WYT_TOT_MAP m) 0) s
      (s.setF Reg.WYT_TOT_STAT_FLAGGED 0).setWyt fun w => { w with base := none }
  else s

/-- WYT_REBASE (R630). -/
def execWytRebase (ifc : Iface) (v : Word) (s : State) : Out := s.hostRow ifc <| .next (s.wytCmd ifc (v.toNat ||| 1))

/-- A commit has completed: in PAIRED its record goes to the partner, and the LEAD pairs it (R629). -/
def State.compareOwn (s : State) (r : TotRec) : State :=
  if s.wy = wyPaired then
    let s := s.wSend (.compare r.body)
    if s.role ≠ 1 then s
    else match s.wyt.theirs.find? fun x => x.tw == r.tw with
      | some x => (s.setWyt fun w => { w with theirs := w.theirs.filter fun y => y.tw != r.tw }).pairRecord r.values x.values
      | none => s.setWyt fun w => { w with own := w.own ++ [⟨r.tw, r.values, s.tm.runt⟩] }
  else s

/-- COMMIT_WRITE_DONE (R396, R629). -/
def execCommitWriteDone (s : State) : Out :=
  match s.mtr.writing with
  | some r => .next ((s.totDone r).compareOwn r)
  | none => .next s

end Sys2Proof.Machine
end

