-- ==== Sys2Proof/Machine/Writes.lean ====
section
/-!
DEFINITION. A host write to a register of a unit other than HST, PWR, KLN and CRS: registers whose writes do more than take
their fields, each handed to the operation of its unit; every other register takes the write field by field (R644).  A REG
action of a course writes through the same operation (R156, R157).
-/
namespace Sys2Proof.Machine

/-- The index of an offset in an array of registers. -/
def arrIdx (base stride count off : Nat) : Option Nat :=
  if base ≤ off ∧ (off - base) % stride = 0 ∧ (off - base) / stride < count then some ((off - base) / stride) else none

/-- Write through an operation of one register of an array, or else otherwise. -/
def arrWrite (base stride count off : Nat) (f : Nat → State) (other : State) : State :=
  match arrIdx base stride count off with
  | some k => f k
  | none => other

/-- A write to a register of TBU or ANG. -/
def State.timeWrite (s : State) (i : Iface) (off v : Nat) : State :=
  if off = Reg.TBU_CTL then s.tbuCtl i v
  else if off = Reg.TBU_CMD then s.tbuCmd i v
  else if off = Reg.TBU_INC_0 ∨ off = Reg.TBU_INC_1 then s.incWrite i off v
  else if off = Reg.TBU_BMCA_0 then s.bmcaWrite i v
  else if off = Reg.TBU_HO_T then s.holdoverFirst.fieldWrite i off v
  else if off = Reg.TBU_PTP_CTL ∨ off = Reg.TBU_BMCA_1 ∨ off = Reg.TBU_BMCA_2 then s.ptpWrite i off v
  else if off = Reg.TBU_SLEW_MAX ∨ off = Reg.TBU_PTP_ASYM then (s.fieldWrite i off v).limitMoved
  else if off = Reg.ANG_CTL then s.angCtl i v
  else if off = Reg.ANG_REF_PRI then s.angRef i false v
  else if off = Reg.ANG_REF_ALT then s.angRef i true v
  else if off = Reg.ANG_ALT_OFS then s.angOfs i v
  else
    arrWrite (Reg.TBU_P_LAT_TX 0) 0x40 4 off (fun p => s.latWrite i p off v) <|
    arrWrite (Reg.TBU_P_LAT_RX 0) 0x40 4 off (fun p => s.latWrite i p off v) <|
    arrWrite (Reg.TBU_P_ASYM 0) 0x40 4 off (fun p => s.latWrite i p off v) <| s.fieldWrite i off v

/-- A write to a register of AFE, HKC, FLT or ACQ. -/
def State.analogWrite (s : State) (i : Iface) (off v : Nat) : State :=
  if off = Reg.HKC_SEL then s.hkcSel i v
  else if off = Reg.HKC_CMD then s.hkcCmd i v
  else if off = Reg.FLT_CMD then s.fltSync i v
  else if off = Reg.ACQ_CMD then s.acqCmd i v
  else
    arrWrite (Reg.AFE_PROOF_CTL 0) 0x1000 8 off (fun g => s.proofCtl i g v) <|
    arrWrite (Reg.FLT_PROF_CTL 0) 0x20 16 off (fun p => s.fltCtl i p v) <|
    arrWrite (Reg.ACQ_C_REL 0) 0x40 8 off (fun j => s.acqRel i j v) <|
    arrWrite (Reg.ACQ_C_RDPTR 0) 0x40 8 off (fun j => s.acqRdptr i j v) <|
    if off / 0x10000 = 0x10 then s.afeWrite i off v else s.fieldWrite i off v

/-- A write to a register of PRT, DIO or AO. -/
def State.outputWrite (s : State) (i : Iface) (off v : Nat) : State :=
  if off = Reg.AO_CMD then s.aoCmd i v
  else
    arrWrite (Reg.PRT_F_BF_INIT 0) 0x1000 12 off (fun f => s.bfInit i f v) <|
    arrWrite (Reg.PRT_F_POW_TGT_1 0) 0x1000 12 off (fun f => s.powArm i f v) <|
    arrWrite (Reg.DIO_G_CMD 0) 0x20 2 off (fun g => s.dioCmd i g v) <|
    arrWrite (Reg.AO_CH_TCTL 0) 0x40 8 off (fun n => s.aoTctl i n v) <|
    arrWrite (Reg.AO_CH_TMEAS_1 0) 0x40 8 off (fun n => s.aoMeasure i n 1 v) <|
    arrWrite (Reg.AO_CH_TMEAS_2 0) 0x40 8 off (fun n => s.aoMeasure i n 2 v) <| s.fieldWrite i off v

/-- A write to a register of MTR, BLK, YUL, EVT, WYT or ETH. -/
def State.serviceWrite (s : State) (i : Iface) (off v : Nat) : State :=
  if off = Reg.MTR_CMD then s.mtrCmd i v
  else if off = Reg.MTR_AUD_ACK then s.audAck i v
  else if off = Reg.BLK_CMD then s.blkCmd i v
  else if off = Reg.YUL_CMD then s.yulCmd i v
  else if off = Reg.EVT_SOE_CMD then s.soeCmd i v
  else if off = Reg.WYT_CMD then s.wytCmd i v
  else
    arrWrite (Reg.BLK_C_CMD 0) 0x1000 4 off (fun c => s.coreCmd i c v) <|
    arrWrite (Reg.YUL_ST_CTL 0) 0x20 64 off (fun k => s.stnOverride i k v) <| s.fieldWrite i off v

/-- A host write to a register of a unit other than HST, PWR, KLN and CRS, and not to a UNIT_CTL. -/
def State.unitWrite (s : State) (i : Iface) (off v : Nat) : State :=
  match off / 0x100000 with
  | 0x0 => s.timeWrite i off v
  | 0x1 | 0x2 | 0x4 => s.analogWrite i off v
  | 0x3 | 0xA | 0xB => s.outputWrite i off v
  | _ => s.serviceWrite i off v

/-! ### The REG action (R156) -/

/-- The word a REG action writes: masked bits take the action's, other bits of RW and SEAL fields keep theirs, and bits that
act when written with 1 stay 0. -/
def State.regWord (s : State) (off mask v : Nat) : Nat :=
  match regAt off with
  | none => 0
  | some h =>
    let keep := h.row.fields.foldl (fun (m : Nat) f =>
      if f.acc == .w1c || f.acc == .wo then m else m ||| (2 ^ (f.hi + 1) - 2 ^ f.lo)) 0
    maskPut (s.rd off &&& keep) mask v

/-- A REG action takes effect: the course engine writes, at no interface's level; no host write of the same fc undoes it (R636). -/
def State.regAction (s : State) (off mask v : Nat) : State :=
  let acc := s.hst.acc
  let wr := s.hst.wrNow
  let s := { s with hst := { s.hst with wrNow := [] } }
  let t := (s.setAcc .pcie fun a => { a with level := .engineer }).unitWrite .pcie off (s.regWord off mask v)
  ({ t with hst := { t.hst with acc := acc, wrNow := wr } }).wroteNow off mask true

end Sys2Proof.Machine
end

