-- ==== Sys2Proof/Machine/Courses.lean ====
section
/-!
DEFINITION. Courses take effect (05): CRS_CTL, the set fc with its check and its actions, courses that set together, standing
trip courses, deadlines, release of slots, and the mirror of a pair.
-/
namespace Sys2Proof.Machine

/-! ### What courses of one fc wrote (R160, R170, R171) -/

/-- Bits of a trip action's channels in their trip states. -/
def State.tripBits (s : State) (mask : Nat) : Nat :=
  (bitList 16 mask).foldl (fun v n => v + s.getF (Reg.PRT_TRIPO_TSTATE n) * 2 ^ n) 0

/-- The bits or the value an action writes; actions that write none give none. -/
def State.writeOf (s : State) (slot seq : Nat) (a : Action) : Option FcWrite :=
  let full := 2 ^ 32 - 1
  match a.ty with
  | 1 => some ⟨slot, seq, 1, a.tgt, a.w1, a.w2, false⟩
  | 2 =>
    let m := a.w1 % 2 ^ 16 * 2 ^ (16 * a.tgt)
    some ⟨slot, seq, 2, 0, m, if a.trip then s.tripBits a.w1 else a.w2 % 2 ^ 16 * 2 ^ (16 * a.tgt), a.trip⟩
  | 3 => some ⟨slot, seq, 3, a.tgt, full, a.w2 % 2 ^ 16, false⟩
  | 4 => some ⟨slot, seq, 4, a.tgt, a.w1, a.w2, false⟩
  | 5 => some ⟨slot, seq, 5, a.tgt, full, a.w2, false⟩
  | 9 => some ⟨slot, seq, 9, a.tgt, a.w1 &&& s.gpMask a.tgt, a.w2, false⟩
  | 10 => some ⟨slot, seq, 10, a.w1, full, a.w2, false⟩
  | _ => none

/-- The writes of this fc to one target, in the order in which they decide: by sequence number, trips last. -/
def State.writesTo (s : State) (kind target : Nat) : List FcWrite :=
  let ws := if s.crs.writesFc = s.tm.fc then s.crs.writes.filter fun w => w.kind == kind && w.target == target else []
  let ws := sortBy (fun (a b : FcWrite) => decide (a.seq ≤ b.seq)) ws
  ws.filter (fun w => !w.trip) ++ ws.filter fun w => w.trip

/-- What the writes of this fc leave at one target, from a value on. -/
def State.finalOf (s : State) (kind target old : Nat) : Nat :=
  (s.writesTo kind target).foldl (fun v w => maskPut v w.mask w.value) old

/-- Note a write of this fc. -/
def State.noteWrite (s : State) (w : FcWrite) : State :=
  let ws := if s.crs.writesFc = s.tm.fc then s.crs.writes else []
  { s with crs := { s.crs with writes := ws ++ [w], writesFc := s.tm.fc } }

/-- A course's bits no longer all stand as it left them: they differ from what its own writes alone would have left. -/
def State.overwritten (s : State) (w : FcWrite) : Bool :=
  let own := ((s.writesTo w.kind w.target).filter fun x => x.slot == w.slot).foldl (fun v x => maskPut v x.mask x.value) 0
  (s.finalOf w.kind w.target 0 &&& w.mask) != (own &&& w.mask)

/-- OVR of every course of this fc (R170). -/
def State.ovrMark (s : State) : State :=
  (s.crs.writes.map (·.slot)).eraseDups.foldl (fun (s : State) n =>
    s.setSlot n fun c => { c with ovr := s.crs.writes.any fun w => w.slot == n && s.overwritten w }) s

/-! ### Actions take effect (R156, R157, R160) -/

/-- What else follows a patched register: I of an input's filter stays within the new L (R541), and a sealed coefficient of a
channel takes effect at the next sample boundary (R226). -/
def State.patched (s : State) (off old : Nat) : State :=
  let s := if sealedAfe off && s.rd off != old && decide (0x100000 ≤ off ∧ off < 0x108000) then s.sealKeep (off / 0x1000 % 16) off old else s
  match (List.range 32).find? fun n => (Reg.DIO_CH_FLT_L n).off == off with
  | some n => s.setF (Reg.DIO_CH_STAT_INTEG n) (min (s.getF (Reg.DIO_CH_STAT_INTEG n)) (s.getF (Reg.DIO_CH_FLT_L n)))
  | none => s

/-- A value patch: the body takes it, and the register bits a register-write record gives follow (R115, R117, R140). -/
def State.patchValue (s : State) (id vidx v : Nat) : State :=
  match s.sec id, ((s.sec id).bind fun x => (bodyDescs x.body).find? fun d => d.vidx == vidx) with
  | some x, some d =>
    let recs := ((bodyRecs x.body).getD []).filter fun r => decide (r.ty = 1 ∧ r.at_ + 4 ≤ d.ofs ∧ d.ofs < r.at_ + 8)
    let s := { s with kln := { s.kln with secs := s.kln.secs.map fun y => if y.id = id then { y with body := d.put y.body v } else y } }
    recs.foldl (fun (s : State) r =>
      let off := secBase id + imgN r.data 0 4
      let sh := 8 * (d.ofs - r.at_ - 4)
      let set := (regAt off).elim 0 fun h => h.row.settable
      let m := (2 ^ (8 * d.width) - 1) * 2 ^ sh &&& set
      let s := (s.wr off (maskPut (s.rd off) m (v % 2 ^ (8 * d.width) * 2 ^ sh))).patched off (s.rd off)
      let w := maskPut (s.imageWord off) m (v % 2 ^ (8 * d.width) * 2 ^ sh)
      { s with kln := { s.kln with image := Sparse.put s.kln.image off (some (BitVec.ofNat 32 w)) } }) s
  | _, _ => s

/-- A PATCH action: the audit record of a sealed value first (R406), then the value. -/
def State.patchApply (s : State) (m v : Nat) : State :=
  let id := m / 65536
  let vidx := m % 4096
  match s.sec id, s.patchDesc id vidx with
  | some x, some d =>
    let lvl := ((s.kln.journal.find? fun e => e.secId == id && e.vidx == vidx).map (·.level)).getD 2
    let s := if d.cls = 2 then s.auditSys 2 (s.auditAccess lvl 2) d.width m (d.value x.body) v else s
    s.patchValue id vidx v
  | _, _ => s

/-- One action of a course that sets takes effect. -/
def State.actApply (s : State) (c : Slot) (a : Action) : State :=
  match a.ty with
  | 1 => s.regAction a.tgt a.w1 (s.finalOf 1 a.tgt a.w2)
  | 2 =>
    if a.trip then (bitList 16 a.w1).foldl State.tripOne s
    else s.dioWrite a.tgt a.w1 (s.finalOf 2 0 0 / 2 ^ (16 * a.tgt))
  | 3 => s.aoWrite a.tgt (s.finalOf 3 a.tgt a.w2)
  | 4 => s.ringWrite a.tgt a.w1 (s.finalOf 4 a.tgt a.w2)
  | 5 => s.setF (Reg.PRT_F_SG_SG a.tgt) (s.finalOf 5 a.tgt a.w2 - 1)
  | 6 =>
    match c.tag with
    | .commit cause preset =>
      let s := match preset with
        | some (n, v) => s.totPut n (v * 2 ^ 32)
        | none => s
      s.totSnapshot cause (cause == causeFinal)
    | _ => s.totSnapshot causeTotRefire false
  | 7 => s.emit (a.tgt % 65536) (a.w2 % 65536) (bits a.w2 17 16) a.w1
  | 8 => s.acqForce (2 ^ a.tgt)
  | 9 =>
    let old := s.rd (Reg.ETH_GP_VAL a.tgt)
    let m := a.w1 &&& s.gpMask a.tgt
    s.gooseWrite a.tgt old (maskPut old m (s.finalOf 9 a.tgt old))
  | 10 => s.patchApply a.w1 (s.finalOf 10 a.w1 a.w2)
  | 11 => s.vpApply a.tgt c.entries
  | 12 => (s.exchSet a.tgt).restamp
  | _ => s

/-- The actions of a course, in index order, after its writes are noted. -/
def State.actsApply (s : State) (n : Nat) (c : Slot) : State :=
  let s := c.acts.foldl (fun (s : State) a => match s.writeOf n c.seq a with
    | some w => s.noteWrite w
    | none => s) s
  (c.acts.foldl (fun (s : State) a => s.actApply c a) s).ovrMark

/-- The MTR sections of a refire stop once their totalisers are committed (R134). -/
def State.mtrStops (s : State) : State :=
  (s.kln.refiring.filter fun id => decide (id / 256 = 0x50) && s.on id).foldl (fun (s : State) id => s.partHalt id true false) s

/-- What the set of a course means to the unit that prepared it (R134, R143, R387, R393, R436). -/
def State.setHook (s : State) (c : Slot) : State :=
  match c.tag with
  | .out k => s.coreDeliver k
  | .refire _ => s.mtrStops
  | .commit cause _ =>
    let s := s.setMtr fun m => { m with doneFc := s.tm.fc }
    let s := if cause = causeTotRefire then s.mtrStops else s
    { s with blk := { s.blk with core := s.blk.core.map fun k => { k with retain := true } } }
  | .patch keys =>
    let s := { s with kln := { s.kln with journal := s.kln.journal.map fun e =>
      if e.pending ∧ (e.secId, e.vidx) ∈ keys then { e with pending := false } else e } }
    if c.port = 8 then (s.raise Reg.KLN_PATCH_STAT_DONE).irq .kln 3 else s
  | _ => s

/-! ### The mirror (R179–R181, R623) -/

/-- Two statuses of a set fc tell the same outcome; SET and SET_LATE do. -/
def sameOutcome (a b : Nat) : Bool := a == b || ((a == 3 || a == 4) && (b == 3 || b == 4))

/-- The outcomes of a mirrored course differ (R181). -/
def State.diverges (s : State) : State := ((s.incF Reg.CRS_MIR_STAT_DIVERGE).emitOpen crsSrc 0x0602 1).irq .crs 4

/-- The outcome of this module's set fc goes to the partner, and the LEAD compares one that has come before. -/
def State.tellOutcome (s : State) (n : Nat) : State :=
  let c := s.slot n
  match c.mirror with
  | .copy => s.wSend (.outcome c.mirSeq c.status)
  | .accepted =>
    let s := s.wSend (.outcome c.seq c.status)
    match c.outcome with
    | some o => if sameOutcome o c.status then s else s.diverges
    | none => { s with crs := { s.crs with told := s.crs.told ++ [(c.seq, c.status)] } }
  | _ => s

/-! ### The set fc (R159–R163, R177, R178) -/

/-- A course sets. -/
def State.courseSets (s : State) (n : Nat) : State :=
  let c := s.slot n
  let late := c.lateFlag
  let miss := decide (c.st = .committed) && s.ringMissed n
  let s := s.setSlot n fun c => { c with st := .set, miss := miss, act := 0 }
  let s := (s.actsApply n c).crsRecord n (if late then 4 else 3)
  let s := s.setHook c
  let s := if c.port = 0 then s.irq .crs 0 else s
  let s := if late then s.irq .crs 3 else s
  s.tellOutcome n

/-- COURSE_SET (R159): the set-fc check, then all of the actions or none; a COMMITTED course is never discarded (R178). -/
def execCourseSet (n : Nat) (s : State) : Out :=
  let c := s.slot n
  if !(decide (n < slotCount) && s.courseDue c) then .next s
  else if c.st = .committed then .next (s.courseSets n)
  else match s.actsErr c.port c.acts with
    | some (st, i) => .next ((s.discard n st i).tellOutcome n)
    | none => .next (s.courseSets n)

/-- COURSE_SLOT_RELEASE (R151). -/
def execCourseSlotRelease (n : Nat) (s : State) : Out :=
  let c := s.slot n
  if decide (n < slotCount) && decide (c.setFc < s.tm.fc) && (c.st == .discarded || (c.st == .set && c.srcId == 0)) then
    .next (s.setSlot n fun c => { c with st := .free })
  else .next s

/-- COURSE_DEADLINE (R168); a set in the same fc comes first (R66). -/
def execCourseDeadline (n : Nat) (s : State) : Out :=
  let c := s.slot n
  match c.deadline with
  | some t =>
    if decide (n < slotCount) && c.st == .pending && decide (t ≤ s.tm.runt) && !s.courseDue c then .next (s.discard n stDeadline 0)
    else .next s
  | none => .next s

/-! ### Standing trip courses (R172–R174, R318, R327, R627) -/

/-- TRIP_NO_FIELD: a course set trips on channels whose field supply is MISSING (R327). -/
def State.tripNoField (s : State) (n : Nat) (c : Slot) : State :=
  let m := c.acts.foldl (fun (m : Nat) a => if a.ty == 2 && a.trip then m ||| a.w1 % 2 ^ 16 else m) 0
  let m := (bitList 16 m).foldl (fun v k => if s.supply 0 = supMissing then v + 2 ^ k else v) 0
  if m = 0 then s else s.emit (dioGrpSrc 0) 0x3003 0 (n + m * 2 ^ 16)

/-- The lowest failing action that the check of the fc before the set found (R173). -/
def State.decisionErr (s : State) (n : Nat) (d : Decision) : Option Nat :=
  match d.check with
  | some r => r
  | none => (s.actsErr (s.slot n).port (s.slot n).acts).map (·.2)

/-- A standing course sets, or fails its check and stays armed. -/
def State.standingSets (s : State) (n : Nat) (d : Decision) : State :=
  let c := s.slot n
  let s := if c.port = 5 then s else s.sentinelSet (c.srcId % 256 - 0x40) d.mask
  match s.decisionErr n d with
  | some i => (s.emit c.srcId 0x0601 0 (n + i * 2 ^ 8)).irq .crs 5
  | none =>
    let s := s.setSlot n fun c => { c with st := .set, seq := d.seq.getD s.crs.nextSeq, act := 0 }
    let s := (s.actsApply n (s.slot n)).crsRecord n 3
    let s := s.tripNoField n c
    if c.port = 5 then s.wytTrip (c.srcId % 256)
    else s.wytTrip (12 + (c.srcId % 256 - 0x40))

/-- STANDING_COURSE_SET (R173): the decision's set fc; the course of a blocked feeder does not set (R135). -/
def execStandingCourseSet (n : Nat) (s : State) : Out :=
  let c := s.slot n
  let armed := c.st == .standing || (c.st == .set && c.srcId != 0 && decide (c.setFc < s.tm.fc))
  match s.crs.decisions.find? fun d => d.src == c.srcId && decide (d.due ≤ s.tm.fc) with
  | some d =>
    if !(decide (n < slotCount) && armed) then .next s
    else
      let s := { s with crs := { s.crs with decisions := s.crs.decisions.filter fun x => x != d } }
      if c.port = 5 && s.flag (Reg.PRT_F_STAT_REFIRE (c.srcId % 256)) then .next s else .next (s.standingSets n d)
  | none => .next s

/-- STANDING_COURSE_REARM (R173): in the fc after it sets. -/
def execStandingCourseRearm (n : Nat) (s : State) : Out :=
  let c := s.slot n
  if decide (n < slotCount) && c.st == .set && c.srcId != 0 && decide (c.setFc < s.tm.fc) then
    .next (s.setSlot n fun c => { c with st := .standing })
  else .next s

/-- The end of a fc (R173): the set-fc check of the standing courses that set in the next fc. -/
def State.checkNext (s : State) : State :=
  let one := fun (d : Decision) =>
    if d.due = s.tm.fc + 1 then
      { d with check := (s.standingOf d.src).map fun n => (s.actsErr (s.slot n).port (s.slot n).acts).map (·.2) }
    else d
  { s with crs := { s.crs with decisions := s.crs.decisions.map one } }

/-- One decision draws its sequence number when its fc has come (R173). -/
def drawOne (fc : Nat) (acc : Nat × List Decision) (d : Decision) : Nat × List Decision :=
  if d.drawAt ≤ fc ∧ d.seq.isNone then ((acc.1 + 1) % 2 ^ 32, acc.2 ++ [{ d with seq := some acc.1 }]) else (acc.1, acc.2 ++ [d])

/-- The start of a fc (R173): sequence numbers of the decisions of the fc before. -/
def State.drawSeqs (s : State) : State :=
  let r := s.crs.decisions.foldl (drawOne s.tm.fc) (s.crs.nextSeq, [])
  { s with crs := { s.crs with nextSeq := r.1, decisions := r.2 } }

/-! ### CRS_CTL (R164, R169, R175, R184) -/

/-- The staged course; a malformed schedule or time word is refused with FORMAT, as policy 3 is (R166, R681). -/
def State.staged (s : State) : CReq :=
  let t := s.rd96 Reg.CRS_STG_TGT_0
  let mode := s.getF Reg.CRS_STG_HDR_SCHED
  let sched : Sched := match mode with
    | 1 => .time (twUnpack t)
    | 2 => .angle (t % 2 ^ 64)
    | _ => .immediate
  { port := 0, sched := sched
    policy := if mode = 3 ∨ (mode = 1 ∧ twBad t) then 3 else s.getF Reg.CRS_STG_HDR_LATE
    acts := (List.range (s.getF Reg.CRS_STG_HDR_COUNT)).map fun i =>
      ⟨s.rd (Reg.CRS_STG_ACT_0 i), s.rd (Reg.CRS_STG_ACT_1 i), s.rd (Reg.CRS_STG_ACT_2 i)⟩
    evt := s.flag Reg.CRS_STG_HDR_EVT, rset := s.flag Reg.CRS_STG_HDR_RSET, nomir := s.flag Reg.CRS_STG_HDR_NOMIR
    dl := s.rd Reg.CRS_STG_DL, tag := .none, entries := [], mirSeq := none }

/-- CRS_RES of an ARM. -/
def State.crsRes (s : State) (status gen course : Nat) : State :=
  (((s.setF Reg.CRS_RES_DONE 1).setF Reg.CRS_RES_STATUS status).setF Reg.CRS_RES_GEN gen).setF Reg.CRS_RES_COURSE course

/-- CRS_CTL.ARM (R164): CRS_RES.DONE is cleared, and the ARM waits for the end of the fc. -/
def State.crsArm (s : State) (i : Iface) : State :=
  let r : ArmReq := ⟨i, s.may i .operate, s.tm.fc⟩
  let s := (if r.ok then s.used i .operate else s).setF Reg.CRS_RES_DONE 0
  if r ∈ s.crs.arms then s else { s with crs := { s.crs with arms := s.crs.arms ++ [r] } }

/-- An ARM is accepted with the staging area as it stands: below operate level it is refused with ACCESS (R184); on the SHADOW
a mirrored port submits nothing. -/
def State.armAccept (s : State) (r : ArmReq) : State :=
  if !r.ok then s.crsRes stAccess 0 0xFF
  else if s.copiesOnly 0 then (s.crsRes (s.freeBits 8) 0 0xFF).bump
  else
    let q := s.submit s.staged
    match q.2.2 with
    | some n => q.1.crsRes q.2.1 (q.1.slot n).gen n
    | none => q.1.crsRes q.2.1 0 0xFF

/-- The end of a fc (R164): the ARMs registered in it are accepted; one from SPI waits for the next fc when PCI Express has
armed in this one. -/
def State.armsAccept (s : State) : State :=
  if s.pwr.unpowered then s else
  let now := fun (r : ArmReq) => r.ifc == .pcie || decide (r.fc < s.tm.fc) || !s.crs.arms.any fun x => x.ifc == .pcie
  let rest := s.crs.arms.filter fun r => !now r
  (s.crs.arms.filter now).foldl State.armAccept { s with crs := { s.crs with arms := rest } }

/-- The end of a fc: ARMs are accepted, bank requests and a full tagged queue are handled, current loops are judged, the standing courses of the next fc are checked,
the ports begin their frames. -/
def State.fcEnd (s : State) : State := if s.pwr.unpowered then s else s.armsAccept.fltEnd.hkcEnd.aoEnd.checkNext.gateTick.txTick

/-- The start of a fc: sequence numbers are drawn, and what left its unit some fc ago arrives (R27): comparator outputs, element
outputs, output latches; captures re-arm (R358), and the blocks of a ring frame leave (R465). -/
def State.fcBegin (s : State) : State :=
  if s.pwr.unpowered then s else (s.drawSeqs.compRise.jobsRun fun j => decide (j.due ≤ s.tm.fc)).latchTick.rearmTick.ringTick

/-- CRS_CTL.ABORT (R169); in the fc in which the course sets, the abort is ignored, and in that of its deadline the deadline comes
first (R68). -/
def State.crsAbort (s : State) (i : Iface) (n : Nat) : State :=
  s.command i .operate fun s =>
    let c := s.slot n
    let dead := c.deadline.any fun t => decide (t ≤ s.tm.runt)
    if n < slotCount ∧ c.port = 0 ∧ c.st = .pending ∧ !s.courseDue c then s.discard n (if dead then stDeadline else stAborted) 0 else s

/-- A write of CRS_CTL. -/
def State.crsCtl (s : State) (i : Iface) (v : Nat) : State :=
  let s := if v.testBit 1 then s.crsAbort i (bits v 15 8) else s
  if v.testBit 0 then s.crsArm i else s

/-- CRS_ARM (R164). -/
def execCrsArm (ifc : Iface) (v : Word) (s : State) : Out := s.hostRow ifc <| .next (s.crsCtl ifc (v.toNat ||| 1))

/-- CRS_ABORT (R169). -/
def execCrsAbort (ifc : Iface) (v : Word) (s : State) : Out := s.hostRow ifc <| .next (s.crsCtl ifc (v.toNat ||| 2))

/-! ### Copies on the SHADOW, answers on the LEAD (R180, R181, R612, R623) -/

/-- The W link carries frames here. -/
def State.wUp (s : State) : Bool := s.on (secEth 4) && s.flag Reg.ETH_W_STAT_LINK && s.on secWyt

/-- What a copy is for, from its actions. -/
def copyTag (acts : List Action) (entries : List (Nat × Nat)) : CourseTag :=
  if acts.any fun a => a.ty == 10 then .patch (entries.map fun e => (e.1 / 65536, e.1 % 4096))
  else match acts.find? fun a => a.ty == 11 || a.ty == 12 with
    | some a => if a.ty = 11 then .vpatch (a.tgt % 4) (a.w1 % 256) else .exch (a.tgt % 4)
    | none => .none

/-- The course a COPY asks for: port WYT, late policy 0. -/
def copyReq (c : CourseCopy) : CReq :=
  let h := c.hdr.toNat
  let t := c.tgt0.toNat + c.tgt1.toNat * 2 ^ 32 + c.tgt2.toNat * 2 ^ 64
  let sched : Sched := match bits h 1 0 with
    | 1 => .time (twUnpack t)
    | 2 => .angle (t % 2 ^ 64)
    | _ => .immediate
  let acts := c.acts.map fun a => (⟨a.1.toNat, a.2.1.toNat, a.2.2.toNat⟩ : Action)
  { port := 10, sched := sched, policy := if bits h 1 0 = 3 ∨ (bits h 1 0 = 1 ∧ twBad t) then 3 else 0, acts := acts,
    evt := h.testBit 18, rset := h.testBit 16, nomir := false, dl := c.dl.toNat, tag := copyTag acts c.entries,
    entries := c.entries, mirSeq := some c.seq }

/-- Pending journal entries of a patch (R142, R143): each replaces one of its section, digest and index. -/
def State.journalPut (s : State) (level : Nat) (es : List (Nat × Nat)) : State :=
  es.foldl (fun (s : State) e =>
    let id := e.1 / 65536
    let vidx := e.1 % 4096
    let dg := ((s.sec id).map fun x => x.digest / 2 ^ 192).getD 0
    let cls := ((s.patchDesc id vidx).map (·.cls)).getD 0
    let j := s.kln.journal.filter fun x => !(x.secId == id && x.vidx == vidx && x.digest == dg)
    { s with kln := { s.kln with journal := j ++ [⟨id, vidx, e.2, dg, s.tw, level, cls, true⟩] } }) s

/-- The journal has room for the entries a patch adds (R145). -/
def State.journalRoom (s : State) (es : List (Nat × Nat)) : Bool :=
  let known := fun (e : Nat × Nat) => s.kln.journal.any fun x =>
    x.secId == e.1 / 65536 && x.vidx == e.1 % 4096 && some x.digest == (s.sec x.secId).map fun y => y.digest / 2 ^ 192
  decide (s.kln.journal.length + (es.filter fun e => !known e).length ≤ 1024)

/-- The staged entries of a VPATCH copy against this module's patch table; those of a PATCH copy are judged as actions. -/
def State.copyErr (s : State) (r : CReq) : Bool :=
  match r.tag with
  | .vpatch k _ =>
    match (s.core k).active with
    | some p => r.entries.any fun e => entryErr p.image .engineer e != 0
    | none => true
  | .patch _ => !s.journalRoom r.entries
  | _ => false

/-- W_COPY_RX (R180, R612, R623). -/
def execWCopyRx (c : CourseCopy) (s : State) : Out :=
  if !(s.wUp && s.paired && s.role == 2) then .next s
  else
    let r := copyReq c
    if !r.bad && s.copyErr r then .next (s.wSend (.answer c.seq stCheck))
    else
      let s := match r.tag with
        | .patch _ => if r.bad then s else s.journalPut 2 r.entries
        | _ => s
      let q := s.submit r
      let s := if q.2.1 = 1 then
          match r.tag with
          | .vpatch k g => (q.1.setCore k fun x => { x with vpGen := g, vpBuf := r.entries }).setF (Reg.BLK_C_STAT_VP_PEND k) 1
          | _ => q.1
        else q.1
      let s := if q.2.1 = 1 ∨ q.2.2.isSome then s else s.discardHook { slotZero with tag := r.tag, status := q.2.1 }
      .next (s.wSend (.answer c.seq q.2.1))

/-- The slot of a mirrored course by its sequence number. -/
def State.slotOfSeq (s : State) (p : Slot → Bool) : Option Nat := s.crs.slots.findIdx? p

/-- The LEAD gives a mirrored course up (R180). -/
def State.mirrorLost (s : State) (n : Nat) : State := (s.discard n stPair 0).wSend (.cancel (s.slot n).seq)

/-- W_ANSWER_RX (R180). -/
def execWAnswerRx (seq status : Nat) (s : State) : Out :=
  match s.slotOfSeq fun c => c.st == .pending && c.mirror == .waiting && c.seq == seq with
  | some n =>
    if !s.wUp then .next s
    else if status = 1 then .next (s.setSlot n fun c => { c with mirror := .accepted })
    else .next (s.mirrorLost n)
  | none => .next s

/-- MIRROR_ANSWER_TIMEOUT (R180); an answer of the same fc wins (R66). -/
def execMirrorAnswerTimeout (n : Nat) (s : State) : Out :=
  let c := s.slot n
  let answered := s.comes fun i => match i with
    | .wAnswerRx q _ => q == c.seq
    | _ => false
  if decide (n < slotCount) && c.st == .pending && c.mirror == .waiting && s.instant c && !answered then .next (s.mirrorLost n) else .next s

/-- W_CANCEL_RX (R623). -/
def execWCancelRx (seq : Nat) (s : State) : Out :=
  match s.slotOfSeq fun c => c.st == .pending && c.mirror == .copy && c.mirSeq == seq with
  | some n => .next (if s.wUp then s.discard n stPair 0 else s)
  | none => .next s

/-- W_OUTCOME_RX (R181): the LEAD compares it with its own, which may still be to come or may lie in a slot that another course
holds by now. -/
def execWOutcomeRx (seq status : Nat) (s : State) : Out :=
  if !s.wUp then .next s
  else match s.slotOfSeq fun c => (c.st == .pending || c.st == .committed) && c.mirror == .accepted && c.seq == seq with
    | some n => .next (s.setSlot n fun c => { c with outcome := some status })
    | none =>
      match s.crs.told.find? fun t => t.1 == seq with
      | some t =>
        let s := { s with crs := { s.crs with told := s.crs.told.filter fun x => x.1 != seq } }
        .next (if sameOutcome status t.2 then s else s.diverges)
      | none => .next s

end Sys2Proof.Machine
end

