-- ==== Sys2Proof/Machine/Field.lean ====
section
/-!
DEFINITION. The tick of a field digital input with what a rise of its filtered state starts in other units (17), and the end of a
point-on-wave measurement that nothing reaches (10).
-/
namespace Sys2Proof.Machine

/-- What a rise of Y of input n starts outside the DIO unit: qualified comparators (R316), contact instants (R333), 50BF (R331). -/
def State.inputRise (s : State) (n : Nat) : State := ((s.sentinelQual n).powInput n).bfExt n

/-- DIO_INPUT_TICK (R540–R546): the odd channel of a quadrature pair is sampled with its even one (R545). -/
def execDioInputTick (n : Nat) (s : State) : Out :=
  let quad := s.getF (Reg.DIO_CH_CFG_FUNC n) == 2
  if !(decide (n < 32) && s.tickDue n) || (quad && n % 2 == 1) then .next s
  else
    let t := s.dioTick n
    let up := fun (k : Nat) => !s.dioBit Reg.DIO_IN k && t.dioBit Reg.DIO_IN k
    let t := if up n then t.inputRise n else t
    .next (if quad && up (n + 1) then t.inputRise (n + 1) else t)

/-- DIO_FREQ_TIMEOUT (R546): no rising edge for 20 s of run time; one of the same fc wins (R66). -/
def execDioFreqTimeout (n : Nat) (s : State) : Out := s.only (decide (n < 32)) <|
  let rises := s.comes fun c => match c with
    | .dioInputTick m => match execDioInputTick m s with
      | .next t => (t.dch n).yRise != (s.dch n).yRise
      | _ => false
    | _ => false
  if s.getF (Reg.DIO_CH_CFG_FUNC n) = 3 ∧ s.dioOn (n / 16) ∧ s.expired (s.dch n).yRise 20000000000 ∧ !rises then
    .next ((s.wr (Reg.DIO_CH_FREQ n) 0).setF (Reg.DIO_CH_STAT_FLOW n) 1)
  else .next s

/-- A result or an input of this fc still waits that brings a measurement's contact instant (R66, R334). -/
def State.powComes (s : State) (f : Nat) (opn : Bool) : Bool :=
  let run := fun (s : State) => if opn then (s.fdr f).powOpen.isSome else (s.fdr f).powClose.isSome
  s.comes fun c => match c with
    | .converterResult n a b d h age => match execConverterResult n a b d h age s with
      | .next t => !run t
      | _ => false
    | .dioInputTick n => match execDioInputTick n s with
      | .next t => !run t
      | _ => false
    | _ => false

/-- POW_TIMEOUT (R334, R335, R337): no contact instant within MAXT ms; the times and the position of this result are not
stated (log 17). -/
def execPowTimeout (f : Nat) (open_ : Bool) (s : State) : Out := s.only (decide (f < 12)) <|
  match (if open_ then (s.fdr f).powOpen else (s.fdr f).powClose) with
  | none => .next s
  | some r =>
    if s.expired r.runt (s.getF (Reg.PRT_F_POW_LIM_MAXT f) * 1000000) && !s.powComes f open_ then
      let s := s.powLast f open_ powTimeoutCode 0
      let s := (s.wr (Reg.PRT_F_POW_LAST_1 f) (s.freeBits 32)).bump
      let s := (s.wr (Reg.PRT_F_POW_LAST_2 f) (s.freeBits 32)).bump
      let s := (s.wr (Reg.PRT_F_POW_LAST_3 f) (s.freeBits 32)).bump
      let s := s.wr (Reg.PRT_F_POW_LAST_4 f) 0
      let s := s.setFdr f fun d => if open_ then { d with powOpen := none } else { d with powClose := none }
      .next (s.emitOpen (fdrSrc f) 0x3007 1)
    else .next s

end Sys2Proof.Machine
end

