-- ==== Sys2Proof/Machine/Units.lean ====
section
/-!
DEFINITION. Units and the parts that start in their own slot (19, R686): which block they belong to, their slots, what a unit
does when it stops and when it becomes READY (R587–R591, and the rules of each unit's chapter that name its READY and stop).
-/
namespace Sys2Proof.Machine

/-! ### Sections, parts, blocks (R113, R582, R686) -/

/-- The block whose UNIT_CTL governs a part (R641, R686). -/
def blkOf (id : Nat) : Blk :=
  match id / 256 with
  | 0x00 => .hst | 0x01 => .pwr | 0x02 => .tbu | 0x03 => .ang | 0x05 => .kln | 0x06 => .crs | 0x10 => .afe (id % 8)
  | 0x18 => .hkc | 0x20 => .flt | 0x30 => .prt | 0x40 => .acq | 0x50 => .mtr | 0x60 => .blk | 0x70 => .yul
  | 0x80 => if id % 256 = 4 then .ethW else .eth
  | 0x90 => .evt | 0xA0 => .dio | 0xB0 => .ao | _ => .wyt

/-- HST, PWR and KLN always run (R609, R641, R684). -/
def alwaysOn (b : Blk) : Bool := b == .hst || b == .pwr || b == .kln

/-- The parts of a block. -/
def State.partsOf (s : State) (b : Blk) : List Part := s.pwr.parts.filter fun p => blkOf p.id == b

/-- UNIT_CTL.ENABLE of a part's block. -/
def State.enabled (s : State) (id : Nat) : Bool := s.flag (Reg.UNIT_CTL_ENABLE (blkOf id))

/-- AFE groups of a feeder's local channels (R582). -/
def State.fdrGroups (s : State) (f : Nat) : List Nat :=
  (((List.range 8).filterMap fun q => s.inputKey f q).filterMap fun k => if k < 64 then some (k / 8) else none).eraseDups

/-- The slot of a part (R582). -/
def State.slotOf (s : State) (id : Nat) : Nat :=
  let i := id % 256
  match id / 256 with
  | 0x00 | 0x01 => 0
  | 0x05 => 1
  | 0x02 | 0x06 | 0x90 => 2
  | 0x30 => if i < 12 then 5 + (s.fdrGroups i).foldl max 0 else 3
  | 0x20 | 0x03 => 4
  | 0x10 => 5 + i
  | 0x40 => 13
  | 0x50 => 14
  | 0x18 => 15
  | 0x60 => 16 + i
  | 0x80 => 20
  | 0x70 => 21
  | 0xC0 => 22
  | 0xA0 => if i = 0 then 3 else 23
  | _ => 24

/-- A feeder section (R585). -/
def isFeeder (id : Nat) : Bool := decide (0x3000 ≤ id ∧ id < 0x300C)

/-- Every AFE group holding a feeder's local channels is READY (R585). -/
def State.groupsOn (s : State) (f : Nat) : Bool := (s.fdrGroups f).all fun g => s.on (secAfe g)

/-! ### Standing courses (R151, R152, R172) -/

/-- Source identifier of a PRT section (R515). -/
def prtSrc (id : Nat) : Nat := if isFeeder id then fdrSrc (id % 256) else tileSrc (id % 256 - 0x40)

/-- The actions of the standing course a PRT section defines: those of a user section's body; in F only the class-0 TRIP event
(R684). -/
def Section.standing (x : Section) : List Action :=
  if x.src = 1 then [⟨7 * 2 ^ 28 + prtSrc x.id, 0, 0x3001⟩] else (Config.standingActs x.body).map fun a => ⟨a.1, a.2.1, a.2.2⟩

/-- Quotas of the standing ports follow the courses they hold (R154). -/
def State.standQuota (s : State) : State :=
  let n := fun port => s.crs.slots.countP fun c => c.srcId != 0 && c.st != .free && c.port == port
  let s := (s.setF (Reg.CRS_PORT_QUOTA 5) (n 5)).setF (Reg.CRS_PORT_QUOTA 6) (n 6)
  (s.setF Reg.CRS_CNT_STANDING (n 5 + n 6)).setF Reg.CRS_CNT_PEAK (max (s.getF Reg.CRS_CNT_PEAK) s.inFlight)

/-- A fired PRT section has a standing course: that of a configured feeder, or of a sentinel tile that a section takes into use
(R172; log 127). -/
def State.stands (s : State) (x : Section) : Bool :=
  decide (x.id / 256 = 0x30 ∧ x.src ≤ 1) && (!isFeeder x.id || (let f := Reg.PRT_F_CFG_EN (x.id % 256)
    bits (s.imageWord f.off) f.hi f.lo != 0))

/-- Allocate the standing course of a PRT section in the highest FREE slot (R152). -/
def State.standAlloc (s : State) (x : Section) : State :=
  if !s.stands x ∨ (s.standingOf (prtSrc x.id)).isSome then s
  else match (List.range slotCount).reverse.find? fun n => (s.slot n).st == .free with
    | none => s
    | some n =>
      let port := if isFeeder x.id then 5 else 6
      (s.setSlot n fun c => { slotZero with
        st := .standing, gen := (c.gen + 1) % 256, port := port, sched := .standing, acts := x.standing, srcId := prtSrc x.id,
        status := 1 }).standQuota

/-- Release the standing course of a section that is refired or stopped (R151); the slot keeps the record (R150, R183). -/
def State.standFree (s : State) (id : Nat) : State :=
  if id / 256 ≠ 0x30 then s
  else
    let s := { s with crs := { s.crs with decisions := s.crs.decisions.filter fun d => d.src != prtSrc id } }
    match s.standingOf (prtSrc id) with
    | some n => (s.setSlot n fun c => { c with st := .free, srcId := 0 }).standQuota
    | none => s

/-! ### A part stops (R590) -/

/-- A feeder's elements, timers and phasors are as after a start. -/
def State.fdrReset (s : State) (f : Nat) : State :=
  let s := (s.jobsDrop f).setFdr f fun _ => fdrZero
  (List.range 24).foldl (fun (s : State) e => s.elemRegs f e 0 (elemZero e)) s

/-- What a unit does in the fc in which it leaves ON; `shed` says that the governor stops it. -/
def State.partDown (s : State) (id : Nat) (shed : Bool) : State :=
  let i := id % 256
  match id / 256 with
  | 0x02 => s.tbuOff
  | 0x03 => s.angStop.discardWhere (fun _ c => match c.sched with
      | .angle _ => true
      | _ => false) stAngleLost
  | 0x06 => s.discardWhere (fun _ _ => true) stTarget
  | 0x10 => s.afeStop i
  | 0x20 => s.fadeDrop i
  | 0x18 => s.hkcStop
  | 0x30 => if i < 12 then s.jobsDrop i else
      (List.range 8).foldl (fun (s : State) k => s.setComp (i - 0x40) k fun x => { x with cnt := 0, rise := none }) s
  | 0x40 => s.acqStopAll shed
  | 0x60 => if shed then s.coreShed i else s.coreOff i
  | 0x70 => if shed then s.ringStop else s.yulOff
  | 0x80 =>
    let s := s.linkLost i
    if shed ∧ i < 4 then s.setF (Reg.ETH_P_STAT_SHED i) 1 else s
  | 0xA0 => s.dioDown i
  | 0xB0 => s.aoDown
  | 0xC0 => s.wytOff
  | _ => s

/-- A part leaves ON or STARTING: its own pending work is discarded, and courses that target it find it unavailable; the refire
of an AFE section resets the filters of its channels (R268). -/
def State.partStop (s : State) (id : Nat) (refire shed : Bool) : State :=
  let s := if s.on id then s.partDown id shed else s
  let s := if refire && id / 256 == 0x10 && s.fltOn then (grpChs (id % 256)).foldl (fun (s : State) n => s.syncCh n) s else s
  s.partHalt id refire shed

/-! ### A part becomes READY (R587) -/

/-- What a unit does in the fc in which it becomes READY; `cal` holds what its converters measured (R202, R239). -/
def State.partUp (s : State) (id : Nat) (refire : Bool) (cal : List (Int × Nat)) : State :=
  let i := id % 256
  match id / 256 with
  | 0x03 => s.angStart
  | 0x10 => s.afeReady i refire cal
  | 0x18 =>
    let q := s.measured cal.head?
    q.2.hkcCalEnd q.1.1 q.1.2
  | 0x20 => 
    let runs := (refire && s.flt.started) || (List.range 16).any fun p => p != i && s.on (secProf p)
    (if runs then s else s.fltStart).profRestart i
  | 0x30 =>
    let s := match s.sec id with
      | some x => s.standAlloc x
      | none => s
    if i < 12 then
      let s := (s.fdrReset i).setF (Reg.PRT_F_STAT_NOGRID i) 0
      let s := if s.flag (Reg.PRT_F_STAT_REFIRE i) then s.holdElems i causeRefire else s
      if s.getF Reg.ANG_STAT_STATE = 3 then s.nogridOne i else s
    else (List.range 8).foldl (fun (s : State) k => s.setComp (i - 0x40) k fun _ => ⟨0, 0, none⟩) s
  | 0x40 => s.tuSync
  | 0x50 =>
    if i = 0x10 then
      let s := s.meterStart
      if refire then s.totResume 0 96 else s
    else
      let s := s.setRun i fun _ => runZero
      if refire then s.totResume (96 + 4 * i) 4 else s
  | 0x60 => if s.getF (Reg.BLK_C_STAT_STATE i) = tkShed then s.coreUnshed i else (s.coreFire i).restamp
  | 0x70 => s.yulReady
  | 0x80 =>
    let s := if i < 4 then s.setF (Reg.ETH_P_STAT_SHED i) 0 else s
    s.svResync
  | 0xA0 => s.latching fun s => s.dioReady i
  | 0xB0 => s.aoReady
  | 0xC0 => s.wytReady
  | _ => s

/-! ### UNIT_CTL.ENABLE (R587–R589) -/

/-- ENABLE of a block takes a value: each fitted part follows R587. -/
def State.enableTo (s : State) (b : Blk) (v : Nat) : State :=
  if s.getF (Reg.UNIT_CTL_ENABLE b) = v % 2 then s
  else
    let s := s.setF (Reg.UNIT_CTL_ENABLE b) v
    (s.partsOf b).foldl (fun (s : State) p =>
      if v % 2 = 1 then
        if p.conf ∧ p.st = .off then s.setPart p.id fun p => { p with st := .waiting, since := s.tm.runt } else s
      else match p.st with
        | .waiting => (s.setPart p.id fun p => { p with st := .off, refire := false }).standFree p.id
        | .starting | .on => (s.partStop p.id false false).standFree p.id
        | _ => s) s

end Sys2Proof.Machine
end

