-- ==== Sys2Proof/Machine/Kiln.lean ====
section
/-!
DEFINITION. The kiln unit (04): image slots, STORE, firing at boot, REFIRE with its blocks, value patches and the journal, and
the refire of a pair (R625).
-/
namespace Sys2Proof.Machine

/-! ### Image slots (R126–R129) -/

/-- Size of a slot and largest kiln image (R112). -/
def slotMax : Nat := 8388608

/-- The bytes of slot U0 or U1. -/
def State.slotMem (s : State) (u : Nat) : List Host.Cell := if u = 0 then s.kln.u0 else s.kln.u1
def State.setSlotMem (s : State) (u : Nat) (m : List Host.Cell) : State :=
  { s with kln := if u = 0 then { s.kln with u0 := m } else { s.kln with u1 := m } }

/-- The image a slot holds, as far as its TOTAL_LEN reaches. -/
def State.slotImage (s : State) (u : Nat) : List Byte :=
  let m := s.slotMem u
  let n := imgLen (Mem.rdN m 0 16)
  Mem.rdN m 0 (if n ≤ slotMax then max 0x100 n else 0x100)

/-- The stamp of a slot, zero when it fails step 1 (R149). -/
def State.slotStamp (s : State) (u : Nat) : Nat :=
  let b := s.slotImage u
  if Sys2Proof.Machine.step1 1 slotMax b = 0 then imgStamp b else 0

/-! ### What an image fires (R116, R121, R123, R684) -/

/-- The SEC_IDs of the sections F holds: those of the groups and channels that the variant has (R684). -/
def fIds (v : Variant) : List Nat :=
  [0x0000, 0x0100, 0x0200, 0x0300, 0x0500, 0x0600] ++ ((List.range 8).filter v.hasAfe).map (0x1000 + ·) ++ [0x1800, 0x2000] ++
  (List.range 12).map (0x3000 + ·) ++ [0x4000, 0x5010, 0x8000, 0x8001, 0x9000] ++ ((List.range 2).filter v.hasDioGrp).map (0xA000 + ·) ++
  ((List.range 8).filter v.hasAo).map (0xB000 + ·)

/-- A section taken from F, with the step-6 error of the user section it replaces. -/
def fSec (id err : Nat) : Section := ⟨id, 1, 0, err, (Config.fDigest id).toNat, 0, 0, []⟩

/-- Sections in rising SEC_ID order. -/
def sortSecs (l : List Section) : List Section := sortBy (fun (a b : Section) => decide (a.id ≤ b.id)) l

/-- The sections an image fires: its own, and those of F for rejected and absent ones. -/
def firedOf (v : Variant) (div : Nat) (b : List Byte) : List Section :=
  let es := imgSecs b
  let c := confOf (es.flatMap fun e => bodyWrites e.id (e.body b))
  let user := es.map fun e =>
    let body := e.body b
    let err := step6 v div c e body
    if err = 0 then (⟨e.id, 0, 0, 0, e.digest, e.flags, e.fmt, body⟩ : Section)
    else if e.id ∈ fIds v then fSec e.id err
    else ⟨e.id, 2, 3, err, 0, 0, 0, []⟩
  sortSecs (user ++ ((fIds v).filter fun id => !es.any fun e => e.id == id).map fun id => fSec id 0)

/-- The register writes of fired user sections, in rising SEC_ID order. -/
def secWrites (xs : List Section) : List (Nat × Nat) := xs.flatMap fun x => bodyWrites x.id x.body

/-- Steps 1–7 of an image: the first image-level error or 0, and the sections it fires. -/
def State.judge (s : State) (b : List Byte) : Nat × List Section :=
  let e := steps15 1 slotMax s.kln.otpProg s.kln.otpRev b
  if e ≠ 0 then (e, [])
  else
    let xs := firedOf s.variant s.tm.div b
    let e := step7 (confOf (secWrites (xs.filter fun x => x.src == 0))) (xs.flatMap Section.tiles)
    (e, if e = 0 then xs else [])

/-- BOOT_DIFF: the next power-on firing would not reproduce the running configuration (R128, R129).  Where a slot passes step 1
but neither slot verifies, the running configuration is compared with F, as R129 does for slots that fail step 1 (log 224). -/
def State.bootDiff (s : State) : State :=
  let run := s.rd64 Reg.KLN_STAMP_0
  let d :=
    if (s.judge (s.slotImage 0)).1 = 0 then s.slotStamp 0 != run
    else if (s.judge (s.slotImage 1)).1 = 0 then s.slotStamp 1 != run
    else s.getF Reg.KLN_STAT_FIRED != 2
  s.setB Reg.KLN_STAT_BOOT_DIFF d

/-! ### Reports and refusals (R138, R147, R148) -/

/-- The last error, with its interrupt. -/
def State.klnErr (s : State) (code sec : Nat) : State :=
  ((s.setF Reg.KLN_ERR_CODE code).setF Reg.KLN_ERR_SEC_ID sec).irq .kln 2

/-- A refused operation. -/
def State.klnRefuse (s : State) (op code : Nat) : State :=
  ((s.setF Reg.KLN_STAT_LAST_OP op).setF Reg.KLN_STAT_LAST_ERR code).klnErr code 0xFFFF

/-- An operation that needs engineer level and no other operation in progress (R138, R147); below operate level the write of
KLN_CMD is denied besides (R644). -/
def State.klnOp (s : State) (i : Iface) (op : Nat) (act : State → State) : State :=
  if !s.may i .operate then (s.deny i).klnRefuse op 0x31
  else if !s.may i .engineer then s.klnRefuse op 0x31
  else
    let s := s.used i .engineer
    if s.flag Reg.KLN_STAT_BUSY then s.klnRefuse op 0x30 else act (s.setF Reg.KLN_STAT_LAST_OP op)

/-- An operation begins or ends. -/
def State.klnBusy (s : State) (op : Option KlnOp) : State :=
  let s := s.setB Reg.KLN_STAT_BUSY op.isSome
  let s := s.setB Reg.KLN_STAT_REFIRING (match op with
    | some (.refire _ _ _) => true
    | _ => false)
  { s with kln := { s.kln with op := op } }

/-! ### STORE, INVALIDATE, REVOKE, JCLEAR (R126, R127, R129, R145, R147) -/

/-- STORE: verification, then the old header is invalidated first. -/
def State.klnStore (s : State) (u : Nat) : State :=
  let a := s.rd Reg.KLN_SRC_ADDR
  let n := s.rd Reg.KLN_SRC_LEN
  if u > 1 then s.klnRefuse 1 0x38
  else if n % 16 ≠ 0 ∨ n > slotMax ∨ a + n > s.dramSize then s.klnRefuse 1 0x37
  else
    let b := s.dramRd a n
    let e := (s.judge b).1
    if e ≠ 0 then s.klnRefuse 1 e
    else
      let s := s.setSlotMem u (Mem.wrN (s.slotMem u) 0 (List.replicate 4 0))
      let s := { s with kln := { s.kln with staged := b.take (imgLen b) } }
      (s.klnBusy (some (.store u))).bootDiff

/-- KLN_STORE_DONE (R126, R127): the header has been written last. -/
def execKlnStoreDone (s : State) : Out :=
  match s.kln.op with
  | some (.store u) =>
    let s := s.setSlotMem u (Mem.wrN (s.slotMem u) 0 s.kln.staged)
    let s := { s with kln := { s.kln with staged := [] } }
    .next (((s.klnBusy none).bootDiff).irq .kln 0)
  | _ => .next s

/-- INVALIDATE (R129). -/
def State.klnInvalidate (s : State) (u : Nat) : State :=
  if u > 1 then s.klnRefuse 6 0x38 else (s.setSlotMem u (Mem.wrN (s.slotMem u) 0 (List.replicate 4 0))).bootDiff

/-- REVOKE (R147); F's key lies in slot 0 (log 6). -/
def State.klnRevoke (s : State) (k : Nat) : State :=
  if !s.sealOpen then s.klnRefuse 5 0x32
  else if s.getF Reg.KLN_STAT_FIRED < 3 ∧ k = s.kln.firedKey then s.klnRefuse 5 0x36
  else
    let r := putBit s.kln.otpRev k true
    ({ s with kln := { s.kln with otpRev := r } }.setF Reg.KLN_OTP_STAT_REVOKED r).bootDiff

/-- JCLEAR (R145, R147). -/
def State.klnJclear (s : State) : State :=
  if (s.kln.journal.any fun e => e.cls == 2) && !s.sealOpen then s.klnRefuse 4 0x32
  else { s with kln := { s.kln with journal := [] } }

/-! ### Registers a section gives (R115, R116, R134) -/

/-- The section that owns a register, where one part of a unit does (R113). -/
def secOf (off : Nat) : Option Nat :=
  match off / 0x10000 with
  | 0x10 => some (0x1000 + off / 0x1000 % 16)
  | 0x20 => if 0x200100 ≤ off ∧ off < 0x200300 then some (0x2000 + (off - 0x200100) / 0x20) else none
  | 0x21 => some (0x2000 + (off - 0x210000) / 0x1000)
  | 0x30 =>
    if off < 0x301000 then none
    else if off < 0x30D000 then some (0x3000 + (off - 0x301000) / 0x1000)
    else some (0x3040 + (off - 0x30D000) / 0x100)
  | 0x50 => if 0x502000 ≤ off ∧ off < 0x503000 then some (0x5000 + (off - 0x502000) / 0x100) else some 0x5010
  | 0x60 => if off < 0x601000 then none else some (0x6000 + (off - 0x601000) / 0x1000)
  | 0x80 => if 0x801000 ≤ off ∧ off < 0x801400 then some (0x8000 + (off - 0x801000) / 0x100) else none
  | 0x84 => some 0x8004
  | 0xA0 =>
    if 0xA01000 ≤ off then some (0xA000 + (off - 0xA01000) / 0x200)
    else if 0xA00100 ≤ off then some (0xA000 + (off - 0xA00100) / 0x20)
    else none
  | 0xB0 => if 0xB01000 ≤ off then some (0xB000 + (off - 0xB01000) / 0x40) else none
  | _ => some (off / 0x10000 * 0x100)

/-- A section configures a register: its own, or one that the unit's sections share. -/
def secFor (id off : Nat) : Bool :=
  match secOf off with
  | some x => x == id
  | none => off / 0x100000 == id / 0x1000

/-- A register whose present word outlives a refire where the image does not write it: those of the common header and the
increment that the clock runs on (log 225). -/
def outlives (off : Nat) : Bool :=
  (hdrBases.any fun b => decide (b ≤ off ∧ off < b + 0x20)) || off == Reg.TBU_INC_0 || off == Reg.TBU_INC_1

/-- A register takes the image's word in all its settable fields: what the image writes, else F's value (R116, R684). UNIT_CTL
follows R684 and BLK_Cc_BOOT is kept in MRAM. -/
def State.applyOff (s : State) (off : Nat) : State :=
  match regAt off with
  | none => s
  | some h =>
    if hdrBases.any (fun b => b + 8 == off) || (List.range 4).any (fun c => Reg.BLK_C_BOOT c == off) ||
      (outlives off && (Sparse.find s.kln.image off).isNone) then s
    else s.wr off (maskPut (s.rd off) (settableAt off h.row) (s.imageWord off))

/-- A refire of a section gives a register its word: one of the section's own; one that several sections share where the image
gives it another word than before (log 225); the setting group of a feeder that was configured stays (R307). -/
def State.refires (s : State) (id off : Nat) : Bool :=
  secFor id off && ((secOf off).isSome || Sparse.find s.kln.image off != Sparse.find s.kln.imageOld off) &&
    !(isSg off && (((Sparse.find s.kln.imageOld (off - 8)).getD 0).toNat.testBit 31))

/-- The patches of the journal for a section, in journal order (R144). -/
def State.applyJournal (s : State) (id : Nat) : State :=
  match s.sec id with
  | none => s
  | some x =>
    (s.kln.journal.filter fun e => !e.pending && e.secId == id && e.digest == x.digest / 2 ^ 192).foldl
      (fun (s : State) e => s.patchValue id e.vidx e.value) s

/-- The access digests a fired HST section gives, and those kept (R682). -/
def State.applyDigests (s : State) : State :=
  match s.sec secHst with
  | some x =>
    if x.src ≠ 0 then { s with kln := { s.kln with digestOp := none, digestEng := none } }
    else
      let o := Config.accDigest x.body 1
      let e := Config.accDigest x.body 2
      { s with kln := { s.kln with
        digestOp := o, digestEng := e, keptOp := o.or s.kln.keptOp, keptEng := e.or s.kln.keptEng } }
  | none => s

/-- A section's values take effect. -/
def State.applySec (s : State) (id : Nat) : State :=
  let offs := ((s.regs.map (·.1) ++ s.kln.image.map (·.1) ++ s.kln.imageOld.map (·.1)).eraseDups).filter fun (o : Nat) => s.refires id o
  let s := (offs.foldl State.applyOff s).applyJournal id
  (if id = secHst then s.applyDigests else s).standQuota

/-- ENABLE of a block under the fired sections (R684). -/
def confEnable (xs : List Section) (b : Blk) : Nat :=
  let own := xs.filter fun (x : Section) => blkOf x.id == b && decide (x.src ≤ 1)
  match (secWrites own).reverse.find? fun (w : Nat × Nat) => w.1 == Reg.UNIT_CTL b with
  | some w => w.2 % 2
  | _ => if own.isEmpty then 0 else 1

/-- Sections that a part takes. -/
def partSecs (id : Nat) : List Nat := if id = secAo then (List.range 8).map (secAo + ·) else [id]

/-- A part is configured by the fired sections. -/
def State.configured (s : State) (id : Nat) : Bool :=
  s.kln.secs.any fun x => decide (x.id ∈ partSecs id ∧ x.src ≤ 1)

/-- The words an image gives; an unchanged section keeps the patched ones. -/
def newImage (old : List (Nat × Word)) (xs : List Section) (changed : List Nat) : List (Nat × Word) :=
  xs.foldl (fun (m : List (Nat × Word)) x =>
    (bodyWrites x.id x.body).foldl (fun (m : List (Nat × Word)) w =>
      let v := BitVec.ofNat 32 (secWord w.1 w.2)
      Sparse.put m w.1 (some (if x.id ∈ changed then v else (Sparse.find old w.1).getD v))) m) []

/-- The stamp of the image in a slot; F's from its digest (R118). -/
def State.stampOfSlot (s : State) (u : Nat) : Nat :=
  if u = 2 then Config.fImageDigest.toNat / 2 ^ 192 else imgStamp (s.slotImage u)

/-- The fired configuration's registers (R118, R120, R124, R128). -/
def State.fired (s : State) (u : Nat) : State :=
  let s := s.wr64 Reg.KLN_STAMP_0 (s.stampOfSlot u)
  let s := ((s.setF Reg.KLN_STAT_FIRED u).setF Reg.KLN_STAT_NO_IMAGE 0).setB Reg.KLN_STAT_F_SECTIONS
    (s.kln.secs.any fun x => x.err != 0 && x.src == 1)
  let key := if u = 2 then 0 else imgKey (s.slotImage u)
  let s := { s with kln := { s.kln with fired := u, firedDigest := s.stampOfSlot u, firedKey := key } }
  let s := match s.kln.secs.find? fun x => x.err != 0 with
    | some x => s.klnErr x.err x.id
    | none => s
  (s.restamp).bootDiff

/-! ### Firing at power-on (R123–R125) -/

/-- Every section and every part as the fired sections say, after a power-on reset. -/
def State.bootSections (s : State) (xs : List Section) : State :=
  let im := newImage [] xs (xs.map fun (x : Section) => x.id)
  let s := { s with kln := { s.kln with secs := xs, refiring := [], blocks := [], image := im, imageOld := [] } }
  let s := (im.map fun (w : Nat × Word) => w.1).foldl State.applyOff s
  let s := xs.foldl (fun (s : State) x => s.applyJournal x.id) s
  let s := s.applyDigests
  let s := (Blk.all.filter fun b => !alwaysOn b).foldl (fun (s : State) b => s.setF (Reg.UNIT_CTL_ENABLE b) (confEnable xs b)) s
  let s := s.pwr.parts.foldl (fun (s : State) p =>
    s.setPart p.id fun p =>
      let c := s.configured p.id
      if alwaysOn (blkOf p.id) then { p with conf := true }
      else { p with conf := c, st := if c ∧ s.enabled p.id then .waiting else .off, since := s.tm.runt }) s
  xs.foldl State.standAlloc s

/-- The error of F, which lies in boot ROM: KEY when its key slot is revoked (log 6), else one that the spec leaves open, or 0. -/
def State.fErr (s : State) : Nat :=
  if !s.kln.otpProg.testBit 0 ∨ s.kln.otpRev.testBit 0 then 3 else if Config.fVerifies then 0 else s.freeBits 8 ||| 1

/-- The firing of R123: U0, else U1, else F; NO_IMAGE when F fails (R125). -/
def State.bootFire (s : State) : State :=
  let j0 := s.judge (s.slotImage 0)
  let j1 := s.judge (s.slotImage 1)
  let s := s.setF Reg.KLN_BOOT_U0_ERR j0.1
  let s := s.setF Reg.KLN_BOOT_U1_ERR (if j0.1 = 0 then 0 else j1.1)
  let s := s.vbatFlush
  if j0.1 ≠ 0 ∧ j1.1 ≠ 0 ∧ s.fErr ≠ 0 then
    let s := s.bootSections []
    ((s.setF Reg.KLN_BOOT_SLOT 3).setF Reg.KLN_STAT_FIRED 3).setF Reg.KLN_STAT_NO_IMAGE 1 |>.klnErr 0x44 0xFFFF |>.totRestore |>.bootDiff
  else
    let u := if j0.1 = 0 then 0 else if j1.1 = 0 then 1 else 2
    let xs := if j0.1 = 0 then j0.2 else if j1.1 = 0 then j1.2 else (fIds s.variant).map fun id => fSec id 0
    let s := s.bootSections xs
    let s := if j0.1 = 0 then s else s.klnErr j0.1 0xFFFF
    ((s.setF Reg.KLN_BOOT_SLOT u).totRestore).fired u

/-! ### The end of a part's refire, and of a refire (R134–R136, R139) -/

/-- The refire is complete. -/
def State.refireEnd (s : State) : State :=
  match s.kln.op with
  | some (.refire u _ _) => if s.kln.refiring = [] then ((s.klnBusy none).fired u).irq .kln 1 else s
  | _ => s

/-- Blocks that no section holds any longer end (R135, R136). -/
def State.unblock (s : State) : State :=
  let fin := s.kln.blocks.filter fun b => b.secs.isEmpty
  let s := { s with kln := { s.kln with blocks := s.kln.blocks.filter fun b => !b.secs.isEmpty } }
  fin.foldl (fun (s : State) b =>
    ((s.setF (Reg.PRT_F_STAT_REFIRE b.feeder) 0).unholdElems b.feeder).emit (fdrSrc b.feeder) 0x0502 2 ((s.tm.runt - b.since) / 2 ^ 32)) s

/-- The sections of a part are refired. -/
def State.refireDone (s : State) (id : Nat) : State :=
  let ids := partSecs id
  let s := s.setPart id fun p => { p with refire := false }
  let rest := s.kln.refiring.filter fun x => !decide (x ∈ ids)
  let secs := s.kln.secs.map fun (x : Section) => if x.id ∈ ids ∧ x.st = 2 then { x with st := 0 } else x
  let blocks := s.kln.blocks.map fun (b : FeederBlock) => { b with secs := b.secs.filter fun x => !decide (x ∈ ids) }
  let s := { s with kln := { s.kln with refiring := rest, secs := secs, blocks := blocks } }
  (s.unblock).refireEnd

/-- A stopped part is reconfigured: it waits for the sequencer, or stays off. -/
def State.partApply (s : State) (id : Nat) : State :=
  let s := (partSecs id).foldl State.applySec s
  if alwaysOn (blkOf id) then s.refireDone id
  else
    let c := s.configured id
    let s := s.setPart id fun p => { p with conf := c }
    if s.partSt id = .shed then s.refireDone id
    else if c ∧ s.enabled id then s.setPart id fun p => { p with st := .waiting, since := s.tm.runt, refire := true }
    else (s.setPart id fun p => { p with st := .off }).refireDone id

/-- A changed part stops for reconfiguration. -/
def State.partRefire (s : State) (id : Nat) : State :=
  if alwaysOn (blkOf id) then s.partApply id
  else match s.partSt id with
    | .on | .starting => s.partStop id true false
    | .stopping => s.setPart id fun p => { p with refire := true }
    | _ => s.partApply id

/-! ### REFIRE (R130–R134, R144) -/

/-- SEC_IDs whose section changes: another digest, another source, or no counterpart (R131). -/
def changedIds (old new : List Section) : List Nat :=
  let get := fun (l : List Section) id => (l.find? fun x => x.id == id).map fun x => (x.src, x.digest)
  ((old ++ new).map (·.id)).eraseDups.filter fun id => get old id != get new id

/-- The sealed values and tables of a section that a refire changes: KIND, WIDTH, TARGET, BEFORE, AFTER (R408). -/
def sealedChanges (old new : Option Section) : List (Nat × Nat × Nat × Nat × Nat) :=
  let body := fun (x : Option Section) => (x.map fun (y : Section) => y.body).getD []
  let id := ((new.or old).map fun (y : Section) => y.id).getD 0
  let descs := fun (x : Option Section) => (bodyDescs (body x)).filter fun (d : Desc) => d.cls == 2
  let val := fun (x : Option Section) (v : Nat) => ((descs x).find? fun (d : Desc) => d.vidx == v).map fun (d : Desc) => d.value (body x)
  let wid := fun (v : Nat) => (((descs new ++ descs old).find? fun (d : Desc) => d.vidx == v).map fun (d : Desc) => d.width).getD 4
  let vals := (((descs old ++ descs new).map fun (d : Desc) => d.vidx).eraseDups.filter fun v => val old v != val new v).map fun v =>
    (3, wid v, id * 65536 + v, (val old v).getD 0, (val new v).getD 0)
  let tabs := fun (x : Option Section) => if ((x.map fun (y : Section) => y.flags).getD 0).testBit 1 then
      ((bodyRecs (body x)).getD []).filter fun (r : Rec) => r.ty == 2
    else []
  let dig := fun (x : Option Section) (t : Nat) =>
    ((tabs x).find? fun (r : Rec) => imgN r.data 0 4 == t).map fun (r : Rec) => digest8 (sha256 (r.data.drop 4))
  let tbl := (((tabs old ++ tabs new).map fun (r : Rec) => imgN r.data 0 4).eraseDups.filter fun t => dig old t != dig new t).map fun t =>
    (4, 8, id * 65536 + t % 65536, (dig old t).getD 0, (dig new t).getD 0)
  vals ++ tbl

/-- A section of a list. -/
def secIn (l : List Section) (id : Nat) : Option Section := l.find? fun x => x.id == id

/-- The records a refire writes. -/
def State.refireAudit (s : State) (new : List Section) : List (Nat × Nat × Nat × Nat × Nat) :=
  (changedIds s.kln.secs new).flatMap fun id => sealedChanges (secIn s.kln.secs id) (secIn new id)

/-- The sections a slot fires, or the code that refuses its refire (R130, R132, R133).  Where several hold, the code is the first
of ROUTE_MOVED, SEAL_CLOSED and AUDIT_FULL, the order of R132 and R133 (log 224). -/
def State.refireJudge (s : State) (u : Nat) : Nat × List Section :=
  let j := if u = 2 then (s.fErr, (fIds s.variant).map fun id => fSec id 0) else s.judge (s.slotImage u)
  if j.1 ≠ 0 then (j.1, [])
  else
    let old := s.kln.secs
    let ch := changedIds old j.2
    let lanes := fun (l : List Section) (id : Nat) => Config.lanesOf (((secIn l secKln).map fun (y : Section) => y.body).getD []) id % 2 ^ 128
    let seald := fun (l : List Section) (id : Nat) => (((secIn l id).map fun (y : Section) => y.flags).getD 0).testBit 1
    if (old.filter fun x => !decide (x.id ∈ ch)).any fun x => lanes old x.id != lanes j.2 x.id then (0x33, [])
    else if (ch.any fun id => seald old id || seald j.2 id) && !s.sealOpen then (0x32, [])
    else if !s.auditRoom (s.refireAudit j.2).length then (0x34, [])
    else (0, j.2)

/-- The sections an action of a course targets (R134). -/
def State.actSecs (s : State) (a : Action) : List Nat :=
  match a.ty with
  | 1 => match secOf a.tgt with
    | some x => [x]
    | none => (s.kln.secs.filter fun x => secFor x.id a.tgt).map (·.id)
  | 2 => [secDio a.tgt]
  | 3 => [secAo + a.tgt]
  | 4 => [secYul]
  | 5 => [secFeeder a.tgt]
  | 6 => if a.tgt < 0x10 then [secRun a.tgt] else if a.tgt = 0x10 then [secMtr] else secMtr :: (List.range 16).map secRun
  | 8 => [secAcq]
  | 9 => (s.portsOf (s.getF (Reg.ETH_GP_CFG_PORTS a.tgt))).map secEth
  | 10 => [a.w1 / 65536]
  | 11 | 12 => [secCore a.tgt]
  | _ => []

/-- The MTR sections among the changed ones whose totalisers a course of the KLN port commits before they stop (R134, R402). -/
def State.commitSecs (s : State) (ch : List Nat) : List Nat :=
  if s.on secMtr then ch.filter fun id => id / 256 = 0x50 ∧ s.on id else []

/-- The commit course of a refire; the MTR unit prepares one in its place where it is refused (R393). -/
def State.refireCommit (s : State) (ch : List Nat) : State :=
  match s.commitSecs ch with
  | [] => s
  | xs =>
    let q := s.submit { reqOf 8 .immediate 0 (xs.map fun id => ⟨6 * 2 ^ 28 + id % 256, 0, 0⟩) (.refire 0) with nomir := true }
    match q.2.2 with
    | some _ => q.1
    | none => q.1.wish causeTotRefire none

/-- The feeders a changed section blocks (R134). -/
def State.blockedBy (s : State) (id : Nat) : List Nat :=
  (List.range 12).filter fun f => s.on (secFeeder f) && match id / 256 with
    | 0x30 => id == secFeeder f
    | 0x10 => decide (id % 256 ∈ s.fdrGroups f)
    | 0x20 => (List.range 8).any fun q => match s.inputKey f q with
      | some n => decide (n < 64) && s.chProf n == id % 256
      | none => false
    | 0x03 => true
    | _ => false

/-- The blocks of R135 begin. -/
def State.blockFeeders (s : State) (ch : List Nat) : State :=
  (List.range 12).foldl (fun (s : State) f =>
    match ch.filter fun id => s.on id && decide (f ∈ s.blockedBy id) with
    | [] => s
    | id :: t =>
      let s := { s with kln := { s.kln with blocks := s.kln.blocks ++ [FeederBlock.mk f s.tm.runt (id :: t)] } }
      (((s.setF (Reg.PRT_F_STAT_REFIRE f) 1).holdElems f causeRefire).emit (fdrSrc f) 0x0501 1 id).irq .kln 4) s

/-- The journal entries that match a section of the new configuration, of U0 or of U1 stay (R144). -/
def State.journalPurge (s : State) : State :=
  let slot := fun (u : Nat) =>
    if Sys2Proof.Machine.step1 1 slotMax (s.slotImage u) = 0 then (imgSecs (s.slotImage u)).map fun (e : SecEnt) => (e.id, e.digest / 2 ^ 192)
    else []
  let have_ := (s.kln.secs.map fun (x : Section) => (x.id, x.digest / 2 ^ 192)) ++ slot 0 ++ slot 1
  { s with kln := { s.kln with journal := s.kln.journal.filter fun (e : JEntry) => decide ((e.secId, e.digest) ∈ have_) } }

/-- An accepted refire begins (R133, R134, R406); the MTR sections stop in the fc in which their commit course sets. -/
def State.refireGo (s : State) (level ifc : Nat) (new : List Section) : State :=
  let old := s.kln.secs
  let ch := changedIds old new
  let s := (s.refireAudit new).foldl (fun (s : State) r =>
    s.auditSys r.1 (s.auditAccess level ifc) r.2.1 r.2.2.1 r.2.2.2.1 r.2.2.2.2) s
  let s := s.discardWhere (fun s c => c.acts.any fun a => (s.actSecs a).any fun id => decide (id ∈ ch)) stTarget
  let late := s.commitSecs ch
  let s := (s.refireCommit ch).blockFeeders ch
  let secs := new.map fun x =>
    if x.id ∈ ch then (if x.st = 3 then x else { x with st := 2 }) else (secIn old x.id).getD x
  let s := { s with kln := { s.kln with
    secs := secs, imageOld := s.kln.image, image := newImage s.kln.image new ch,
    refiring := ch.filter fun id => (s.part (partOf id)).isSome } }
  let s := s.journalPurge
  let s := ch.foldl State.standFree s
  let s := (secs.filter fun x => decide (x.id ∈ ch ∧ x.src ≤ 1)).foldl State.standAlloc s
  let bs := ((ch.map blkOf).eraseDups).filter fun b => !alwaysOn b
  let s := bs.foldl (fun (s : State) b => s.enableTo b (confEnable secs b)) s
  let s := late.foldl (fun (s : State) id => s.setPart id fun p => { p with refire := true }) s
  let s := (((ch.map partOf).eraseDups).filter fun id => !decide (id ∈ late)).foldl State.partRefire s
  s.refireEnd

/-- REFIRE: verification begins, or the command is refused. -/
def State.klnRefire (s : State) (i : Iface) (u : Nat) : State :=
  if u = 3 ∨ (u < 2 ∧ Sys2Proof.Machine.step1 1 slotMax (s.slotImage u) ≠ 0) then s.klnRefuse 2 0x35
  else s.klnBusy (some (.refire u (ifcNum i) (s.level i).num))

/-- This module's own refire waits for T_r (R625). -/
def State.refireWaits (s : State) : Bool :=
  match s.wyt.refire with
  | some r => r.mine && !r.done && s.wy == wyTransit
  | none => false

/-- REFIRE_ACCEPTED (R130–R134): verification is done; in a pair the refire starts 2 ms later on both modules (R625). -/
def execRefireAccepted (s : State) : Out :=
  match s.kln.op with
  | some (.refire u ifc level) =>
    if s.kln.refiring ≠ [] ∨ s.refireWaits then .next s
    else
      let j := s.refireJudge u
      if j.1 ≠ 0 then .next ((s.bump.klnBusy none).klnRefuse 2 j.1)
      else if s.paired then
        let stamp := s.stampOfSlot u
        let tr := s.tw + 2000000 * 2 ^ 16
        let s := (s.wSend (.refire u stamp tr)).setPair wyTransit
        .next (s.setWyt fun w => { w with refire := some ⟨u, stamp, tr, true, false, none⟩ })
      else .next (s.refireGo level ifc j.2)
  | _ => .next s

/-! ### PATCH (R140–R145, R681) -/

/-- An entry's error (R140, R147). -/
def State.patchErr (s : State) (i : Iface) (e : Nat × Nat) : Nat :=
  match s.patchDesc (e.1 / 65536) (e.1 % 4096) with
  | none => 0x40
  | some d =>
    if !d.admits e.2 then 0x41
    else if d.cls ≥ 1 ∧ !s.may i .engineer then 0x31
    else if d.cls = 2 ∧ !s.sealOpen then 0x32
    else 0

/-- KLN_PATCH_STAT of a command. -/
def State.patchRes (s : State) (err course entry : Nat) : State :=
  let s := ((s.setF Reg.KLN_PATCH_STAT_ERR err).setF Reg.KLN_PATCH_STAT_COURSE course).setF Reg.KLN_PATCH_STAT_ENTRY entry
  if err = 0 then s else (s.setF Reg.KLN_STAT_LAST_ERR err).irq .kln 2

/-- The staged entries: SEC_ID and VIDX, value. -/
def State.patchEntries (s : State) (n : Nat) : List (Nat × Nat) :=
  (List.range n).map fun k => (s.rd (Reg.KLN_PATCH_IDX k), s.rd (Reg.KLN_PATCH_VAL k))

/-- The staged schedule. -/
def State.patchSched (s : State) : Sched :=
  let t := s.rd96 Reg.KLN_PATCH_TGT_0
  match s.getF Reg.KLN_PATCH_CTL_SCHED with
  | 1 => .time (twUnpack t)
  | 2 => .angle (t % 2 ^ 64)
  | _ => .immediate

/-- PATCH.  Below operate level it is refused with ACCESS (R147) and the write is denied (R644).  A refusal of the whole command
names entry 0, and its causes are tried in the order COUNT, entries, AUDIT_FULL, PATCH_SCHED, JOURNAL_FULL (log 224). -/
def State.klnPatch (s : State) (i : Iface) : State :=
  if !s.may i .operate then ((s.deny i).setF Reg.KLN_STAT_LAST_OP 3).patchRes 0x31 0xFF 0
  else
    let s := (s.used i .operate).setF Reg.KLN_STAT_LAST_OP 3
    let n := s.getF Reg.KLN_PATCH_CTL_COUNT
    let sched := s.getF Reg.KLN_PATCH_CTL_SCHED
    let es := s.patchEntries n
    let sealed := es.countP fun e => ((s.patchDesc (e.1 / 65536) (e.1 % 4096)).map (·.cls)).getD 0 == 2
    if n = 0 ∨ n > 32 then s.patchRes 0x42 0xFF 0
    else match es.findIdx? fun e => s.patchErr i e != 0 with
      | some k => s.patchRes (s.patchErr i (es.getD k (0, 0))) 0xFF k
      | none =>
        if sealed ≠ 0 ∧ !s.auditRoom sealed then s.patchRes 0x34 0xFF 0
        else if sched = 1 ∧ twBad (s.rd96 Reg.KLN_PATCH_TGT_0) then s.patchRes 0x45 0xFF 0
        else if !s.journalRoom es then s.patchRes 0x43 0xFF 0
        else if s.copiesOnly 8 then (s.patchRes (s.freeBits 8) 0xFF 0).bump
        else
          let keys := es.map fun e => (e.1 / 65536, e.1 % 4096)
          let s := s.journalPut (s.level i).num es
          let acts := es.map fun e => (⟨10 * 2 ^ 28, e.1 / 65536 * 65536 + e.1 % 4096, e.2⟩ : Action)
          let r := reqOf 8 s.patchSched (if sched = 3 then 3 else s.getF Reg.KLN_PATCH_CTL_LATE) acts (.patch keys)
          let q := s.submit { r with entries := es }
          match q.2.2 with
          | some c => q.1.patchRes 0 c 0
          | none =>
            let s := q.1.discardHook { slotZero with tag := .patch keys, status := q.2.1 }
            (s.patchRes (s.freeBits 8) 0xFF 0).bump

/-! ### KLN_CMD -/

/-- A write of KLN_CMD. -/
def State.klnCmd (s : State) (i : Iface) (v : Nat) : State :=
  let u := bits v 5 4
  match bits v 3 0 with
  | 1 => s.klnOp i 1 fun s => s.klnStore u
  | 2 => s.klnOp i 2 fun s => s.klnRefire i u
  | 3 => s.klnPatch i
  | 4 => s.klnOp i 4 State.klnJclear
  | 5 => s.klnOp i 5 fun s => s.klnRevoke (bits v 9 8)
  | 6 => s.klnOp i 6 fun s => s.klnInvalidate u
  | _ => if v % 1024 ≠ 0 ∧ !s.may i .operate then s.deny i else s

/-- A command word with another OP. -/
def withOp (v : Word) (op : Nat) : Nat := v.toNat / 16 * 16 + op

/-- KLN_STORE (R126). -/
def execKlnStore (ifc : Iface) (v : Word) (s : State) : Out := s.hostRow ifc <| .next (s.klnCmd ifc (withOp v 1))

/-- KLN_REFIRE (R130). -/
def execKlnRefire (ifc : Iface) (v : Word) (s : State) : Out := s.hostRow ifc <| .next (s.klnCmd ifc (withOp v 2))

/-- KLN_PATCH (R140). -/
def execKlnPatch (ifc : Iface) (v : Word) (s : State) : Out := s.hostRow ifc <| .next (s.klnCmd ifc (withOp v 3))

/-- KLN_JCLEAR (R145). -/
def execKlnJclear (ifc : Iface) (v : Word) (s : State) : Out := s.hostRow ifc <| .next (s.klnCmd ifc (withOp v 4))

/-- KLN_REVOKE (R147). -/
def execKlnRevoke (ifc : Iface) (v : Word) (s : State) : Out := s.hostRow ifc <| .next (s.klnCmd ifc (withOp v 5))

/-- KLN_INVALIDATE (R129). -/
def execKlnInvalidate (ifc : Iface) (v : Word) (s : State) : Out := s.hostRow ifc <| .next (s.klnCmd ifc (withOp v 6))

/-! ### The refire of a pair (R625) -/

/-- W_REFIRE_RX: the pair is in TRANSIT, and this module prepares to refire at T_r. -/
def execWRefireRx (slot stamp tr : Nat) (s : State) : Out :=
  if s.wUp && s.paired then
    .next ((s.setPair wyTransit).setWyt fun w => { w with refire := some ⟨slot, stamp, tr, false, false, none⟩ })
  else .next s

/-- The refire agreed between the modules starts here, where this module's own checks pass. -/
def State.pairRefire (s : State) (r : PairRefire) : State :=
  let own := match s.kln.op with
    | some (.refire _ ifc level) => some (ifc, level)
    | _ => none
  let j := s.refireJudge r.slot
  let s := s.setWyt fun w => { w with refire := some { r with done := true } }
  if r.mine then
    match own with
    | some (ifc, level) => if j.1 = 0 then s.refireGo level ifc j.2 else (s.bump.klnBusy none).klnRefuse 2 j.1
    | none => s
  else if r.slot ≤ 2 ∧ !s.flag Reg.KLN_STAT_BUSY ∧ s.stampOfSlot r.slot = r.stamp ∧ j.1 = 0 then
    (s.klnBusy (some (.refire r.slot 2 2))).refireGo 2 2 j.2
  else s

/-- PAIR_REFIRE_START: T_r has come, or the first heartbeat after it shows that the partner has not refired. -/
def execPairRefireStart (s : State) : Out :=
  match s.wyt.refire with
  | none => .next s
  | some r =>
    if !r.done ∧ r.at_ ≤ s.tw then .next (s.pairRefire r)
    else if r.mine ∧ r.done ∧ r.partner = some false then
      .next ((s.setWyt fun w => { w with refire := some { r with partner := some true } }).emit wytSrc 0xC007 1 r.stamp)
    else .next s

end Sys2Proof.Machine
end

