-- ==== Sys2Proof/Machine/Power.lean ====
section
/-!
DEFINITION. The power unit (19): the staggered start, units starting and stopping, the governor, the end sequence, resets,
standby and the always-on domain.
-/
namespace Sys2Proof.Machine

/-- Source identifier of the power unit (R608). -/
def pwrSrc : Nat := 0x0100

/-- The module is powered and no end sequence runs. -/
def State.powered (s : State) : Bool := !s.pwr.unpowered && s.pwr.endSeq.isNone

/-- Change the power unit's entry. -/
def State.setPwr (s : State) (f : PwrSt → PwrSt) : State := { s with pwr := f s.pwr }

/-! ### The staggered start (R582–R586, R591) -/

/-- Offset of a slot from VIN good in ms (R582). -/
def slotMs (u : Nat) : Nat :=
  if u < 5 then [0, 1, 10, 11, 12].getD u 0
  else if u < 13 then 13 + 2 * (u - 5)
  else if u < 16 then [30, 32, 34].getD (u - 13) 0
  else if u < 20 then 36 + 8 * (u - 16)
  else [70, 72, 74, 76, 78].getD (u - 20) 78

/-- The slot's offset with the extra verification time (R584), 2^−32 ns of run time. -/
def State.slotAt (s : State) (u : Nat) : Nat := slotMs u * ms32 + if u < 2 then 0 else s.pwr.slotShift

/-- Parts of a slot. -/
def State.inSlot (s : State) (u : Nat) : List Part := s.pwr.parts.filter fun p => s.slotOf p.id == u

/-- A slot is settled: every part it started is READY or has failed to start, and no feeder waits for a group that is
starting (R582, R585). -/
def State.settled (s : State) (u : Nat) : Bool :=
  let held := fun (f : Nat) => (s.fdrGroups f).any fun g => s.partSt (secAfe g) == .starting
  (s.inSlot u).all fun p => p.failed || !(p.st == .starting || (p.st == .waiting && isFeeder p.id && held (p.id % 256)))

/-- Run time in units of 0.1 ms. -/
def State.runTenths (s : State) : Nat := s.tm.runt / (ms32 / 10)

/-- The staggered start ends with slot 24 (R608, R609). -/
def State.stagCheck (s : State) : State :=
  if s.pwr.nextSlot = 25 ∧ s.settled 24 ∧ !s.flag Reg.PWR_STAT_STAG_DONE then
    let s := (s.setF Reg.PWR_STAT_STAG_DONE 1).wr Reg.PWR_BOOT_T (s.pwr.lastReady / 2 ^ 32 / 1000)
    let s := s.setPwr fun p => { p with lastStart := s.tm.runt }
    (s.irq .pwr 2).emit pwrSrc 0x0106 2 (s.pwr.lastReady / 2 ^ 32)
  else s

/-- A part fails to start (R585). -/
def State.partFail (s : State) (id : Nat) : State :=
  let s := s.setPart id fun p => { p with failed := true }
  ((s.setF (Reg.PWR_SLOT_FAIL (s.slotOf id)) 1).emit pwrSrc 0x0105 1 id).irq .pwr 3

/-- UNIT_CTL writes held for a block take effect once none of its parts is being refired (R139). -/
def State.heldApply (s : State) (b : Blk) : State :=
  if (s.partsOf b).any fun p => p.refire then s
  else match (s.partsOf b).findSome? fun p => p.heldEnable with
    | none => s
    | some v =>
      let s := (s.partsOf b).foldl (fun (s : State) p => s.setPart p.id fun p => { p with heldEnable := none }) s
      s.enableTo b v

/-- One part becomes READY (R587). -/
def State.readyOne (s : State) (id : Nat) (cal : List (Int × Nat)) : State :=
  let refire := ((s.part id).map fun p => p.refire).getD false
  let s := s.setPart id fun p => { p with st := .on, since := s.tm.runt, failed := false, shedAfter := false }
  let s := s.partUp id refire cal
  let s := if refire then s.refireDone id else s
  let s := if s.flag Reg.PWR_STAT_STAG_DONE then s
    else (s.setF (Reg.PWR_SLOT_READY (s.slotOf id)) s.runTenths).setPwr fun p => { p with lastReady := s.tm.runt }
  s.heldApply (blkOf id)

/-- Feeders of a kind whose AFE groups are all READY become READY in the same fc (R582, R585). -/
def State.readyFeeders (s : State) (ok : State → Nat → Bool) : State :=
  (List.range 12).foldl (fun (s : State) f =>
    let id := secFeeder f
    let st := s.partSt id
    if (st = .waiting ∨ st = .starting) ∧ s.slotOf id < s.pwr.nextSlot ∧ s.groupsOn f ∧ ok s f then s.readyOne id [] else s) s

/-- The kiln unit, started at a run time, has verified and fired (R123, R584): verification beyond 8 ms is extra. -/
def State.kilnReady (s : State) (start : Nat) : State :=
  let s := s.bootFire
  let late := s.tm.runt - start - 8 * ms32
  let slow := s.getF Reg.KLN_STAT_FIRED != 0 || decide (imgLen (s.slotImage 0) > 0x400000)
  s.setPwr fun p => { p with slotShift := if slow then late else 0 }

/-- UNIT_READY (R582, R587). -/
def execUnitReady (id : Nat) (cal : List (Int × Nat)) (s : State) : Out :=
  if s.partSt id ≠ .starting ∨ (isFeeder id ∧ !s.groupsOn (id % 256)) then .next s
  else
    let start := ((s.part id).map fun p => p.since).getD 0
    let s := s.readyOne id cal
    let s := if id = secKln then s.kilnReady start else s
    .next (s.readyFeeders fun s f => decide (id / 256 = 0x10 ∧ id % 256 ∈ s.fdrGroups f)).stagCheck

/-- The sequencer starts a part. -/
def State.partStart (s : State) (id : Nat) : State :=
  s.setPart id fun p => { p with st := .starting, since := s.tm.runt, failed := false }

/-- STAGGER_SLOT_START (R582, R585): parts that wait start; a feeder whose groups cannot become READY fails with them. -/
def execStaggerSlotStart (u : Nat) (s : State) : Out :=
  let before := u == 0 || s.settled (u - 1)
  if !(s.powered && decide (u = s.pwr.nextSlot ∧ u < 25 ∧ s.slotAt u ≤ s.tm.runt) && before) then .next s
  else
    let ps := (s.inSlot u).filter fun p => p.st == .waiting
    let s := (s.setF Reg.PWR_STAT_SLOT u).setPwr fun p => { p with nextSlot := u + 1 }
    let s := (s.setB (Reg.PWR_SLOT_EMPTY u) ps.isEmpty).setF (Reg.PWR_SLOT_START u) s.runTenths
    let s := (ps.filter fun p => !isFeeder p.id).foldl (fun (s : State) p => s.partStart p.id) s
    let dead := fun (s : State) f => (s.fdrGroups f).any fun g =>
      s.partSt (secAfe g) == .off || ((s.part (secAfe g)).map fun p => p.failed).getD true
    let s := (ps.filter fun p => isFeeder p.id).foldl (fun (s : State) p =>
      if dead s (p.id % 256) then s.partFail p.id else s) s
    .next (s.readyFeeders fun s f => s.slotOf (secFeeder f) == u).stagCheck

/-- Start-to-READY time of a part in ns (R582); that of the kiln unit follows the images it verifies. -/
def State.startNs (s : State) (id : Nat) : Nat :=
  let mib := fun (u : Nat) => (imgLen (s.slotImage u) + 0xFFFFF) / 0x100000 + 4
  match id / 256 with
  | 0x05 => (mib 0 + mib 1) * 1000000
  | 0x10 => 600000
  | 0x60 => 8000000
  | _ => 1000000

/-- UNIT_START_FAIL (R585). -/
def execUnitStartFail (id : Nat) (s : State) : Out :=
  match s.part id with
  | none => .next s
  | some p =>
    let comes := s.comes fun i => match i with
      | .unitReady j _ => j == id
      | _ => false
    if p.st = .starting ∧ !p.failed ∧ s.expired p.since (4 * s.startNs id) ∧ comes = false then
      let s := s.partFail id
      let hit := fun (s : State) f => decide (s.partSt (secFeeder f) = .waiting) && decide (s.slotOf (secFeeder f) < s.pwr.nextSlot) &&
        !((s.part (secFeeder f)).map fun p => p.failed).getD true && decide (id / 256 = 0x10 ∧ id % 256 ∈ s.fdrGroups f)
      let s := (List.range 12).foldl (fun (s : State) f => if hit s f then s.partFail (secFeeder f) else s) s
      .next s.stagCheck
    else .next s

/-! ### Profiles (R596, R597) -/

/-- The profile in force. -/
def State.profile (s : State) : Nat := s.getF Reg.PWR_STAT_PROFILE

/-- A profile keeps a part running (R597). -/
def State.allows (s : State) (prof id : Nat) : Bool :=
  let i := id % 256
  let lean := prof == 0
  let guard_ := prof < 2
  match id / 256 with
  | 0x70 => lean
  | 0x80 => if i = 4 then guard_ else lean || (guard_ && s.flag (Reg.ETH_P_CFG_ESS i))
  | 0x40 | 0x18 | 0x60 | 0xC0 | 0xB0 => guard_
  | _ => true

/-- Parts that the sequencer may start now (R585, R591). -/
def State.startable (s : State) : List Part :=
  s.pwr.parts.filter fun p => p.st == .waiting && s.allows s.profile p.id && (!isFeeder p.id || s.groupsOn (p.id % 256))

/-- UNIT_START_AFTER_GAP (R591): the waiting units of the lowest slot start together, one slot per GAP ms. -/
def execUnitStartAfterGap (u : Nat) (s : State) : Out :=
  let ps := s.startable
  let first := (ps.map fun p => s.slotOf p.id).foldl min 25
  if s.powered && s.flag Reg.PWR_STAT_STAG_DONE && decide (u = first ∧ u < 25) &&
      s.expired s.pwr.lastStart (s.getF Reg.PWR_STAG_GAP * 1000000) then
    let now := ps.filter fun p => s.slotOf p.id == u
    let s := s.setPwr fun p => { p with lastStart := s.tm.runt }
    let s := now.foldl (fun (s : State) p => s.partStart p.id) s
    .next (s.readyFeeders fun s f => s.partSt (secFeeder f) == .starting)
  else .next s

/-! ### UNIT_CTL (R588, R589, R139) and stops (R590) -/

/-- A host write of a UNIT_CTL register: ignored for HST, PWR and KLN, held while the unit is being refired. -/
def State.unitCtl (s : State) (i : Iface) (off v : Nat) : State :=
  match Blk.all.find? fun b => b.base + 8 == off with
  | none => s
  | some b =>
    if alwaysOn b then s
    else if !s.may i .engineer then (if v % 2 = s.getF (Reg.UNIT_CTL_ENABLE b) then s else s.deny i)
    else
      let s := s.used i .engineer
      if (s.partsOf b).any fun p => p.refire then
        (s.partsOf b).foldl (fun (s : State) p => if p.refire then s.setPart p.id fun p => { p with heldEnable := some (v % 2) } else s) s
      else s.enableTo b v

/-- UNIT_ENABLE_WRITE (R587–R589). -/
def execUnitEnableWrite (ifc : Iface) (off : Nat) (v : Word) (s : State) : Out := s.hostRow ifc <| .next (s.unitCtl ifc off v.toNat)

/-- UNIT_STOP_COMPLETE (R587, R134). -/
def execUnitStopComplete (id : Nat) (s : State) : Out :=
  match s.part id with
  | none => .next s
  | some p =>
    if p.st ≠ .stopping then .next s
    else
      let shed := p.shedAfter && !s.allows s.profile id
      let rest : PartState := if shed then .shed else if p.conf && s.enabled id then .waiting else .off
      let s := s.setPart id fun p => { p with st := rest, since := s.tm.runt, shedAfter := false }
      .next ((if p.refire then s.partApply id else s).heldApply (blkOf id))

/-! ### The governor (R595–R601) -/

/-- Usable energy E in mJ at a HOLD voltage in mV (R595). -/
def State.holdE (s : State) (mv : Nat) : Nat :=
  let v := s.rd Reg.PWR_HOLD_VMIN
  (openDiv ((s.rd Reg.PWR_HOLD_CAP : Int) * ((mv * mv : Nat) - (v * v : Nat))) 2000000000).toNat

/-- A measurement of HOLD. -/
def State.holdIn (s : State) (mv : Nat) : State := (s.wr Reg.PWR_HOLD_V mv).wr Reg.PWR_HOLD_E (s.holdE mv)

/-- FCLK of a profile as a divider of 400 MHz (R596). -/
def profDiv (p : Nat) : Nat := if p = 0 then 1 else if p = 1 then 2 else 4

/-- The filter profiles that a governor profile keeps (R260, R597). -/
def State.profLevels (s : State) (prof : Nat) : State :=
  (List.range 16).foldl (fun (s : State) p => s.profStop p (s.levelStops prof p)) s

/-- A part that a profile drops is shed (R587, R598). -/
def State.shedOne (s : State) (id : Nat) : State :=
  match s.partSt id with
  | .on | .starting => s.partStop id false true
  | .stopping => s.setPart id fun p => { p with shedAfter := true }
  | .waiting =>
    let refire := ((s.part id).map fun p => p.refire).getD false
    let s := s.setPart id fun p => { p with st := .shed }
    if refire then s.refireDone id else s
  | _ => s

/-- A shed part that a profile allows again waits for the sequencer, or is off (R587, R600). -/
def State.unshedOne (s : State) (id : Nat) : State :=
  match s.partSt id with
  | .shed => s.setPart id fun p => { p with st := if p.conf && s.enabled id then .waiting else .off, since := s.tm.runt }
  | .stopping => s.setPart id fun p => { p with shedAfter := false }
  | _ => s

/-- FCLK changes: the time increment per fc and ANG_PINC scale (R25, R42, R72). -/
def State.setClock (s : State) (d : Nat) : State :=
  let old := s.tm.div
  let pinc := s.rd Reg.ANG_PINC
  let s := { s with tm := { s.tm with div := d } }
  (s.wr Reg.ANG_PINC (openDivN (pinc * d) (max 1 old))).setPwr fun p => { p with clockPending := none }

/-- A profile comes into force (R597, R598): units are shed in the reverse of their start order, or return; FCLK follows. -/
def State.toProfile (s : State) (prof : Nat) : State :=
  let old := s.profile
  if prof = old then s
  else
    let e := s.rd Reg.PWR_HOLD_E
    let s := ((s.setF Reg.PWR_STAT_PROFILE prof).emit pwrSrc 0x0103 1 (prof + e * 2 ^ 32)).irq .pwr 1
    let s := s.setPwr fun p => { p with lowest := max p.lowest prof }
    let order := (List.range 25).reverse.flatMap fun u => (s.inSlot u).map fun p => p.id
    let s := order.foldl (fun (s : State) id => if s.allows prof id then s.unshedOne id else s.shedOne id) s
    let s := s.profLevels prof
    let s := if prof = 0 then s else (List.range 8).foldl (fun (s : State) g => s.rptAbandon g) s
    if prof = 0 then s.setClock 1 else s.setPwr fun p => { p with clockPending := some (profDiv prof) }

/-- GOVERNOR_CLOCK_CHANGE (R598): the fc after the last shed unit has stopped. -/
def execGovernorClockChange (s : State) : Out :=
  match s.pwr.clockPending with
  | some d =>
    let wait := fun (p : Part) => (p.st == .stopping && p.shedAfter) || (p.st == .shed && p.since == s.tm.runt && s.tm.runt != 0)
    if s.pwr.parts.any wait then .next s else .next (s.setClock d)
  | none => .next s

/-- The end sequence starts (R602): END_SEQ, the final commit, the SoE flush. -/
def State.endSequence (s : State) (c : EndCause) : State :=
  let s := (s.emit pwrSrc 0x0104 1 (s.rd Reg.PWR_HOLD_E)).incF Reg.PWR_CNT_ENDS
  let s := s.setPwr fun p => { p with endSeq := some c, heldReset := none, clockPending := none }
  let s := if c = .ride then
      let s := s.wr Reg.PWR_RT_LAST_0 ((s.tm.runt - s.pwr.rideStart) / ms32)
      (s.setF Reg.PWR_RT_LAST_1_END 1).setF Reg.PWR_RT_LAST_1_LOWEST s.pwr.lowest
    else s
  let s := if s.on secMtr then
      let q := s.submit (reqOf 7 .immediate 0 [totAll] (.commit causeFinal none))
      if q.2.2.isSome then q.1 else q.1.wish causeFinal none
    else s
  s.soeFlush

/-- The governor selects the profile for E (R596). -/
def State.govern (s : State) : State :=
  let e := s.rd Reg.PWR_HOLD_E
  if e ≤ s.rd Reg.PWR_GOV_THR_S then s.endSequence .ride
  else
    let p := if e > s.rd Reg.PWR_GOV_THR_F then 0 else if e > s.rd Reg.PWR_GOV_THR_L then 1 else 2
    s.toProfile (max p s.profile)

/-- VIN_LOST (R580, R596, R601). -/
def execVinLost (hold : Nat) (s : State) : Out :=
  if !s.flag Reg.PWR_STAT_VIN_OK then .next s
  else
    let s := (s.setF Reg.PWR_STAT_VIN_OK 0).setPwr fun p => { p with lostAt := s.tm.runt }
    if !s.powered then .next s
    else if s.flag Reg.PWR_STAT_RIDE then .next (s.holdIn hold).govern
    else
      let s := s.holdIn hold
      let s := ((s.setF Reg.PWR_STAT_RIDE 1).setF Reg.PWR_GOV_CTL_FORCE 0).setF Reg.PWR_STAT_FORCED 0
      let s := s.setPwr fun p => { p with rideStart := s.tm.runt, lowest := s.profile, sampleAt := s.tm.runt }
      let s := ((s.incF Reg.PWR_CNT_RIDES).emit pwrSrc 0x0101 1 (s.rd Reg.PWR_HOLD_E)).irq .pwr 0
      .next s.govern

/-- GOVERNOR_SAMPLE (R595, R596): every 100 µs while VIN is lost. -/
def execGovernorSample (hold : Nat) (s : State) : Out :=
  if s.powered && s.flag Reg.PWR_STAT_RIDE && !s.flag Reg.PWR_STAT_VIN_OK && s.expired s.pwr.sampleAt 100000 then
    .next ((s.setPwr fun p => { p with sampleAt := s.tm.runt }).holdIn hold).govern
  else .next s

/-- HOLD_SAMPLE (R595): HOLD and VIN while VIN is good; CHARGED within 2 % of PWR_HOLD_VSET. -/
def execHoldSample (hold vin : Nat) (s : State) : Out :=
  if !s.pwr.unpowered && s.flag Reg.PWR_STAT_VIN_OK then
    let t := s.rd Reg.PWR_HOLD_VSET
    let s := (s.holdIn hold).wr Reg.PWR_VIN_V vin
    .next (s.setB Reg.PWR_STAT_CHARGED (decide (50 * ((hold : Int) - t).natAbs ≤ t)))
  else .next s

/-! ### Resets (R592–R594, R637) -/

/-- An interface's level changes, with its event (R647, R648). -/
def State.setLevel (s : State) (i : Iface) (l : Level) : State :=
  let old := s.level i
  if old = l then s
  else (s.setAcc i fun a => { a with level := l, used := s.tm.runt }).emit (srcId 0 0) 0x0002 2 (ifcNum i + l.num * 16 + old.num * 256)

/-- Registers of the filter unit that show E0, fades, queues and histories, which go on through a warm reset (R273, log 226). -/
def warmLive (off : Nat) : Bool :=
  decide (Reg.FLT_ORIGIN_0 ≤ off ∧ off < Reg.FLT_ORIGIN_0 + 12) || decide (Reg.FLT_CH_STAT 0 ≤ off ∧ off < Reg.FLT_CH_STAT 64) ||
    (List.range 16).any fun p => off == Reg.FLT_PROF_STAT p

/-- The second value of the Reset column of a register (R592). -/
def State.warmReg (s : State) (off : Nat) : State :=
  if warmLive off then s
  else if off = Reg.ANG_TUP_5 then s.wr off s.nomFreq else
  match regAt off with
  | none => s
  | some h =>
    s.wr off (h.row.fields.foldl (fun (w : Nat) f =>
      let m := 2 ^ (f.hi + 1) - 2 ^ f.lo
      match f.warm with
      | .kept => w
      | .value v => maskPut w m (v * 2 ^ f.lo)
      | .image => maskPut w m (s.imageWord off)) (s.rd off))

/-- An operation in progress holds a warm reset (R594), for 250 ms at most. -/
def State.warmHeld (s : State) : Bool :=
  (s.flag Reg.KLN_STAT_BUSY || s.blk.op.isSome || s.blk.core.any fun c => c.loading.isSome) &&
    !(s.pwr.heldReset.isSome && s.expired s.pwr.heldSince 250000000)

/-- A ride-through holds a reset until VIN is good again (R593, log 207). -/
def State.rideHeld (s : State) : Bool := s.flag Reg.PWR_STAT_RIDE && !s.flag Reg.PWR_STAT_VIN_OK

/-- A warm reset begins (R592, R645, R649). -/
def State.warmBegin (s : State) (src : Nat) : State :=
  let s := s.emit pwrSrc 0x0108 2 src
  let s := (s.acqStopAll false).hkcWarm.afeWarm
  let s := (s.setLevel .pcie .read).setLevel .spi .read
  let offs := (Reg.HST_STAT :: Reg.ANG_TUP_5 :: (s.regs.map (·.1) ++ s.kln.image.map (·.1))).eraseDups
  let warm := s.getF Reg.HST_STAT_WARM
  let s := (offs.foldl State.warmReg s).setF Reg.HST_STAT_WARM warm
  let hst := { s.hst with acc := List.replicate 2 ⟨.read, none, 0, 0⟩, pw := List.replicate 8 0, snaps := [], spiStat := 0 }
  { s with hst := hst, pwr := { s.pwr with warmBusy := true, heldReset := none } }

/-- A warm reset is requested: 0 by RESET_N, 1 by PWR_CMD (R593, R594). -/
def State.warmRequest (s : State) (src : Nat) : State :=
  if s.rideHeld ∨ s.warmHeld then
    match s.pwr.heldReset with
    | some _ => s
    | none => s.setPwr fun p => { p with heldReset := some (false, src), heldSince := s.tm.runt }
  else if s.pwr.warmBusy then s
  else s.warmBegin src

/-- A cold reset is requested (R592, R593). -/
def State.coldRequest (s : State) (src : Nat) : State :=
  if s.rideHeld then s.setPwr fun p => { p with heldReset := some (true, src) } else s.endSequence .cold

/-- RESET_N_PULSE (R592, R607): ignored in standby. -/
def execResetNPulse (lowUs : Nat) (s : State) : Out :=
  if !s.powered ∨ lowUs = 0 then .next s
  else if lowUs ≥ 100000 then .next (s.coldRequest 0)
  else .next (s.warmRequest 0)

/-- WARM_RESET_BEGIN (R593, R594). -/
def execWarmResetBegin (s : State) : Out :=
  match s.pwr.heldReset with
  | some (false, src) => if s.powered ∧ !s.rideHeld ∧ !s.warmHeld ∧ !s.pwr.warmBusy then .next (s.warmBegin src) else .next s
  | _ => .next s

/-- WARM_RESET_DONE (R592, R637). -/
def execWarmResetDone (s : State) : Out :=
  if s.pwr.warmBusy then .next (((s.setPwr fun p => { p with warmBusy := false }).raise Reg.HST_STAT_WARM).irq .hst 4) else .next s

/-- RIDE_THROUGH_END (R600). -/
def execRideThroughEnd (s : State) : Out :=
  if s.powered && s.flag Reg.PWR_STAT_RIDE && s.flag Reg.PWR_STAT_VIN_OK && s.expired s.pwr.vinGoodAt 20000000 then
    let s := s.toProfile 0
    let d := s.tm.runt - s.pwr.rideStart
    let s := (s.setF Reg.PWR_STAT_RIDE 0).wr Reg.PWR_RT_LAST_0 (d / ms32)
    let s := (s.setF Reg.PWR_RT_LAST_1_END 0).setF Reg.PWR_RT_LAST_1_LOWEST s.pwr.lowest
    .next ((s.emit pwrSrc 0x0102 2 (d / 2 ^ 32)).irq .pwr 0)
  else .next s

/-- A write of PWR_GOV_CTL (R601). -/
def State.govCtl (s : State) (i : Iface) (v : Nat) : State :=
  let f := v % 4
  let old := s.getF Reg.PWR_GOV_CTL_FORCE
  if !s.flag Reg.PWR_STAT_VIN_OK ∨ s.flag Reg.PWR_STAT_RIDE ∨ f = 3 then s
  else if !s.may i .engineer then (if f = old then s else s.deny i)
  else
    let s := (s.used i .engineer).setF Reg.PWR_GOV_CTL_FORCE f
    (s.setB Reg.PWR_STAT_FORCED (f != 0)).toProfile f

/-- GOVERNOR_FORCE_WRITE (R601). -/
def execGovernorForceWrite (ifc : Iface) (v : Word) (s : State) : Out := s.hostRow ifc <| .next (s.govCtl ifc v.toNat)

/-! ### Power-on (R75, R76, R581, R592, R602, R603, R607) -/

/-- Registers kept in MRAM, OTP or the always-on domain, and pins. -/
def keptRegs : List Nat :=
  [Reg.TBU_EPOCH, Reg.EVT_STAT, Reg.EVT_SOE_STAT, Reg.EVT_SOE0_STAT, Reg.PWR_CNT, Reg.PWR_RT_LAST_0, Reg.PWR_RT_LAST_1,
   Reg.MTR_SEAL_STAT, Reg.MTR_AUD_STAT, Reg.MTR_AUD_FIRST, Reg.MTR_AUD_LAST, Reg.KLN_OTP_STAT, Reg.WYT_STAT] ++
  (List.range 4).map Reg.BLK_C_BOOT ++ (List.range 8).map Reg.BLK_PS_0 ++ (List.range 8).map Reg.BLK_PS_1

/-- The bits of a kept register that a power-on keeps; the others take their reset values. -/
def keptBits (off : Nat) : Nat :=
  if off = Reg.WYT_STAT then 2 ^ Reg.WYT_STAT_SIDE.lo
  else if off = Reg.EVT_STAT then 2 ^ (Reg.EVT_STAT_NEXT_SEQ.hi + 1) - 2 ^ Reg.EVT_STAT_NEXT_SEQ.lo ||| 2 ^ Reg.EVT_STAT_SOE_RES_FULL.lo
  else 2 ^ 32 - 1

/-- The time word at power-on: RTC seconds and 32.768 kHz sub-second count, or zero where the RTC is invalid (R75, R76).  The RTC has
counted on from what it last held (R605) by an amount of its own crystal that no rule fixes (free, log 8); `lost` says that VIN was
absent, so that the RTC may have stopped. -/
def State.rtcLoad (s : State) (lost : Bool) : State :=
  let ok := s.pwr.rtcValid && (!lost || Config.freeValue s.freeCtr % 2 == 1)
  let n := s.pwr.rtcSec * 32768 + s.pwr.rtcSub + Config.freeValue (s.freeCtr + 1)
  let sec := n / 32768 % 2 ^ 48
  let sub := n % 32768
  let t := if ok then (sec * 1000000000 + openDivN (sub * 1000000000) 32768) * 2 ^ 32 else 0
  let pwr := { s.pwr with rtcValid := ok, rtcSec := if ok then sec else s.pwr.rtcSec, rtcSub := if ok then sub else s.pwr.rtcSub }
  let s := { s with freeCtr := s.freeCtr + 2, tm := { s.tm with time := t, prev := t, reach := t }, pwr := pwr }
  s.setB Reg.TBU_STAT_RTC_INVALID !ok

/-- A power-on reset: everything that is not kept is as `State.reset` has it. -/
def State.powerOn (s : State) (cause : Nat) (lost : Bool) : State :=
  let z := State.reset
  let core := s.blk.core.map fun c => { CoreSt.reset with bankA := c.bankA, bankB := c.bankB }
  let kln := { KlnSt.reset with
    u0 := s.kln.u0, u1 := s.kln.u1, otpProg := s.kln.otpProg, otpRev := s.kln.otpRev, journal := s.kln.journal,
    keptOp := s.kln.keptOp, keptEng := s.kln.keptEng }
  let t := { z with
    variant := s.variant, evt := { z.evt with soe0 := s.evt.soe0, soeGen := s.evt.soeGen }, kln := kln, aud := s.aud,
    mtr := { z.mtr with bankA := s.mtr.bankA, bankB := s.mtr.bankB, nextSeq := s.mtr.nextSeq },
    blk := { z.blk with core := core, store := s.blk.store },
    dio := { z.dio with ch := z.dio.ch.mapIdx fun n c => { c with zone := (s.dch n).zone } },
    pwr := { z.pwr with rtcSec := s.pwr.rtcSec, rtcSub := s.pwr.rtcSub, rtcValid := s.pwr.rtcValid },
    hst := { z.hst with snaps := [] }, tx := s.tx, freeCtr := s.freeCtr, pending := s.pending }
  let t := keptRegs.foldl (fun (t : State) off => t.wr off (maskPut (t.rd off) (keptBits off) (s.rd off))) t
  (t.setF Reg.PWR_BOOT_CAUSE cause).rtcLoad lost

/-- VIN_GOOD (R580, R581, R600, R603, R607). -/
def execVinGood (s : State) : Out :=
  if s.flag Reg.PWR_STAT_VIN_OK then .next s
  else
    let s := (s.setF Reg.PWR_STAT_VIN_OK 1).setPwr fun p => { p with vinGoodAt := s.tm.runt }
    if s.pwr.unpowered then .next (s.powerOn (if s.pwr.endSeq = some .ride then 1 else 0) true)
    else
      match s.pwr.heldReset with
      | some (true, _) => .next (if s.powered then s.endSequence .cold else s)
      | _ => .next (s.setPwr fun p => { p with heldSince := s.tm.runt })

/-- WAKE (R607). -/
def execWake (s : State) : Out :=
  if s.pwr.unpowered && s.pwr.standby && s.flag Reg.PWR_STAT_VIN_OK then .next (s.powerOn 3 false) else .next s

/-- END_SEQUENCE_COMPLETE (R602, R603, R592, R607): the RETAIN copies are made with the final commit, every unit stops in the
reverse of the start order. -/
def execEndSequenceComplete (s : State) : Out :=
  match s.pwr.endSeq with
  | none => .next s
  | some c =>
    if s.pwr.unpowered then .next s
    else
      let s := if s.mtr.final then (List.range 4).foldl State.retainCopy s else s
      let s := s.totTorn
      let order := (List.range 25).reverse.flatMap fun u => (s.inSlot u).map fun p => p.id
      let s := order.foldl (fun (s : State) id => if s.on id then s.partStop id false false else s) s
      let parts := s.pwr.parts.map fun p => { Part.reset p.id with st := .off }
      let s := s.setPwr fun p => { p with parts := parts, unpowered := true, standby := decide (c = .standby), warmBusy := false }
      let up := s.flag Reg.PWR_STAT_VIN_OK
      match c with
      | .ride => .next (if up then s.powerOn 1 false else s)
      | .cold => .next (if up then s.powerOn 2 false else s)
      | .standby => .next s

/-! ### PWR_CMD (R592, R607) -/

/-- A write of PWR_CMD. -/
def State.pwrCmd (s : State) (i : Iface) (v : Nat) : State :=
  if v % 8 = 0 then s
  else s.command i .engineer fun s =>
    if !s.powered then s
    else if v.testBit 2 then s.endSequence .standby
    else if v.testBit 1 then s.coldRequest 1
    else s.warmRequest 1

/-- PWR_WARM (R592). -/
def execPwrWarm (ifc : Iface) (v : Word) (s : State) : Out := s.hostRow ifc <| .next (s.pwrCmd ifc (v.toNat ||| 1))

/-- PWR_COLD (R592). -/
def execPwrCold (ifc : Iface) (v : Word) (s : State) : Out := s.hostRow ifc <| .next (s.pwrCmd ifc (v.toNat ||| 2))

/-- PWR_STANDBY (R607). -/
def execPwrStandby (ifc : Iface) (v : Word) (s : State) : Out := s.hostRow ifc <| .next (s.pwrCmd ifc (v.toNat ||| 4))

/-! ### The always-on domain (R605, R606) -/

/-- RTC_SYNC (R605): the time word passes a whole second. -/
def execRtcSync (s : State) : Out :=
  if !s.pwr.unpowered && (s.clk == clkLocked || s.clk == clkHold) && decide (s.tm.prev / sec32 < s.tm.time / sec32) then
    .next (s.setPwr fun p => { p with rtcSec := s.tm.time / sec32, rtcSub := 0, rtcValid := true })
  else .next s

/-- VBAT_MEASURE (R606); whether LOW is set within ±0.05 V of its threshold is free (log 8). -/
def execVbatMeasure (mv : Nat) (s : State) : Out :=
  let due := match s.pwr.vbatAt with
    | none => s.on secEvt
    | some t => s.expired t 1000000000
  if !(s.powered && s.flag Reg.PWR_STAT_VIN_OK && due) then .next s
  else
    let was := s.flag Reg.PWR_VBAT_LOW
    let low := if mv < 2550 then true else if mv > 2650 then false else s.freeBits 1 == 1
    let s := (s.bump.setF Reg.PWR_VBAT_MV mv).setB Reg.PWR_VBAT_LOW low
    let s := s.setPwr fun p => { p with vbatAt := some s.tm.runt }
    .next (if low && !was then (s.emit pwrSrc 0x0107 1 mv).irq .pwr 4 else s)

end Sys2Proof.Machine
end

