-- ==== Sys2Proof/Machine/HostRead.lean ====
section
/-!
DEFINITION. Host reads (21): registers whose value follows from other state, the snapshot groups and the copies of them that
each interface keeps (R35, R649–R651), and reads of offsets that no map names (R643).
-/
namespace Sys2Proof.Machine

/-- A word with a field replaced. -/
def withF (w : Nat) (f : Fld) (v : Nat) : Nat :=
  maskPut w ((2 ^ (f.hi - f.lo + 1) - 1) * 2 ^ f.lo) (v % 2 ^ (f.hi - f.lo + 1) * 2 ^ f.lo)

/-- A number with bit i as a predicate of i says, for i below n. -/
def bitsOf (n : Nat) (p : Nat → Bool) : Nat := (List.range n).foldl (fun m i => putBit m i (p i)) 0

/-- Word k of a 96-bit value (R35). -/
def word32 (v k : Nat) : Nat := v / 2 ^ (32 * k) % 2 ^ 32

/-! ### Units (R586, R587, R642, R686) -/

/-- Of two parts, the one that comes last in the start order (R582, R686). -/
def State.laterPart (s : State) (a b : Part) : Part :=
  if s.slotOf a.id < s.slotOf b.id ∨ (s.slotOf a.id = s.slotOf b.id ∧ a.id ≤ b.id) then b else a

/-- The number of a state in UNIT_STAT (R641). -/
def PartState.num : PartState → Nat
  | .off => 0 | .waiting => 1 | .starting => 2 | .on => 3 | .stopping => 4 | .shed => 5

/-- UNIT_STAT of a block (R587, R686): over its parts that the fired image configures. -/
def State.unitStat (s : State) (b : Blk) : Nat :=
  match (s.partsOf b).filter fun p => p.conf with
  | [] => 0
  | p :: ps =>
    let all := p :: ps
    let st := (ps.foldl s.laterPart p).st
    let pend := s.flag (Reg.UNIT_CTL_ENABLE b) && all.any fun p => p.st != .on && p.st != .off
    st.num * 8 + b2n pend * 4 + b2n (all.any fun p => p.st == .stopping) * 2 + b2n (all.all fun p => p.st == .on)

/-- The unit stamp (R642). -/
def State.unitStamp (s : State) (b : Blk) : Nat :=
  match s.kln.secs.filter fun x => blkOf x.id == b && x.src != 2 with
  | [] => 0
  | [x] => x.digest / 2 ^ 192
  | xs => sha256 (xs.flatMap fun x => beBytes 32 x.digest) / 2 ^ 192

/-- A word of the common unit header that other state decides. -/
def State.readHeader (s : State) (b : Blk) (o : Nat) : Option Nat :=
  match o with
  | 0x0C => some (s.unitStat b)
  | 0x18 => some (s.unitStamp b % 2 ^ 32)
  | 0x1C => some (s.unitStamp b / 2 ^ 32)
  | _ => none

/-! ### The kiln reports (R145, R146, R149) -/

/-- Every tile in use: owner, tile number, declared load. -/
def State.tilesUsed (s : State) : List (Nat × Nat × Nat) := s.kln.secs.flatMap fun x => x.tiles.map fun t => (x.id, t.1, t.2.1)

/-- A register of tile t: declared load or comparators in use, and owner. -/
def State.tileOwn (s : State) (t : Nat) (load : Nat → Nat) : Nat :=
  match s.tilesUsed.find? fun u => u.2.1 == t with
  | some u => load u.2.2 % 256 * 2 ^ 16 + u.1
  | none => 0xFFFF

/-- Mortar lanes in use, with the reserved ones. -/
def State.lanesInUse (s : State) : Nat :=
  popCount 128 (s.kln.secs.foldl (fun m x => x.tiles.foldl (fun m t => m ||| t.2.2) m) (Config.reservedLanes % 2 ^ 128))

/-- KLN_SEC_i_0: a fired section's source, state and step-6 error; a section whose part waits, starts or has failed to start shows
STATE 0 (log 224). -/
def State.secReport (s : State) (i : Nat) : Nat :=
  match s.kln.secs[i]? with
  | none => 3 * 2 ^ 26
  | some x =>
    let stopped : Bool := match s.part (partOf x.id) with
      | some p => p.st == .off || p.st == .stopping || p.st == .shed
      | none => false
    x.src * 2 ^ 26 + (if x.st = 0 ∧ stopped then 1 else x.st) * 2 ^ 24 + x.err * 2 ^ 16 + x.id

/-- KLN_JRNL (R145). -/
def State.journalReport (s : State) : Nat :=
  let inert := s.kln.journal.countP fun e => !s.kln.secs.any fun x => x.id == e.secId && x.digest / 2 ^ 192 == e.digest
  let n := s.kln.journal.length
  b2n (decide (n ≥ 1024)) * 2 ^ 31 + inert * 2 ^ 16 + n

/-- A register of the kiln unit that other state decides. -/
def State.readKln (s : State) (off : Nat) : Option Nat :=
  if off = Reg.KLN_U0_STAMP_0 then some (s.slotStamp 0 % 2 ^ 32)
  else if off = Reg.KLN_U0_STAMP_1 then some (s.slotStamp 0 / 2 ^ 32)
  else if off = Reg.KLN_U1_STAMP_0 then some (s.slotStamp 1 % 2 ^ 32)
  else if off = Reg.KLN_U1_STAMP_1 then some (s.slotStamp 1 / 2 ^ 32)
  else if off = Reg.KLN_JRNL then some s.journalReport
  else if off = Reg.KLN_TILE_USE_0 then some (bitsOf 32 fun t => s.tilesUsed.any fun u => u.2.1 == t)
  else if off = Reg.KLN_TILE_USE_1 then some (bitsOf 32 fun t => s.tilesUsed.any fun u => u.2.1 == t + 32)
  else if off = Reg.KLN_SENT_USE then some (bitsOf 16 fun t => s.tilesUsed.any fun u => u.2.1 == t + 0x100)
  else if off = Reg.KLN_LANES then
    some (s.lanesInUse * 2 ^ 16 + popCount 128 Config.reservedLanes * 2 ^ 8 + (128 - s.lanesInUse))
  else if Reg.KLN_SEC_0 0 ≤ off ∧ off < Reg.KLN_SEC_0 128 then
    let i := (off - Reg.KLN_SEC_0 0) / 8
    some (if off % 8 = 0 then s.secReport i else ((s.kln.secs[i]?).map fun x => x.digest / 2 ^ 224).getD 0)
  else if Reg.KLN_TILE_OWN 0 ≤ off ∧ off < Reg.KLN_TILE_OWN 64 then some (s.tileOwn ((off - Reg.KLN_TILE_OWN 0) / 4) id)
  else if Reg.KLN_SENT_OWN 0 ≤ off ∧ off < Reg.KLN_SENT_OWN 16 then
    let t := (off - Reg.KLN_SENT_OWN 0) / 4
    some (s.tileOwn (t + 0x100) fun _ => (List.range 8).countP fun k => s.flag (Reg.PRT_S_C_CFG_EN t k))
  else none

/-! ### Time, angle, courses (R39, R74, R94, R184) -/

/-- A register of TBU that other state decides. -/
def State.readTbu (s : State) (off : Nat) : Option Nat :=
  if Reg.TBU_TIME_0 ≤ off ∧ off ≤ Reg.TBU_TIME_2 then some (word32 (twPack s.tw) ((off - Reg.TBU_TIME_0) / 4))
  else if off = Reg.TBU_STAT then some (withF (s.rd off) Reg.TBU_STAT_SLEWING (b2n s.slewing))
  else if off = Reg.TBU_HO_DUR ∧ s.clk = clkHold then some s.hoDur
  else if off = Reg.TBU_HO_ERR ∧ s.clk = clkHold then some s.hoErr
  else none

/-- A register of ANG that other state decides. -/
def State.readAng (s : State) (off : Nat) : Option Nat :=
  if off = Reg.ANG_POS_0 then some s.angle
  else if off = Reg.ANG_POS_1 then some s.ang.cycle
  else if Reg.ANG_POS_2 ≤ off ∧ off ≤ Reg.ANG_POS_4 then some (word32 (twPack s.tw) ((off - Reg.ANG_POS_2) / 4))
  else if off = Reg.ANG_POS_5 then some s.epoch
  else if off = Reg.ANG_RUNT_0 then some s.runNs
  else if off = Reg.ANG_RUNT_1 then some (s.runNs / 2 ^ 32)
  else match arrIdx (Reg.ANG_GRID_DLY 0) 0x10 16 off with
    | some g => some (Conf.gridDelay (fun o => s.rd o) g)
    | none => none

/-- Word k of a course's report (R184). -/
def Slot.word (c : Slot) (k : Nat) : Nat :=
  match k with
  | 0 => c.status * 2 ^ 24 + c.gen % 256 * 2 ^ 16 + c.port * 2 ^ 12 + b2n c.ovr * 2 ^ 11 + b2n c.miss * 2 ^ 10 + b2n c.next * 2 ^ 9 + c.act
  | 4 => c.recAngle
  | 5 => c.recCycle
  | 6 => c.recTrk * 2 ^ 8 + c.recEpoch
  | 7 => c.seq
  | _ => word32 (twPack c.recTw) (k - 1)

/-- A register of the course engine that other state decides. -/
def State.readCrs (s : State) (off : Nat) : Option Nat :=
  if off = Reg.CRS_CNT then some (withF (s.rd off) Reg.CRS_CNT_IN_FLIGHT s.inFlight)
  else if Reg.CRS_CST_0 0 ≤ off ∧ off < Reg.CRS_CST_0 192 then
    some ((s.slot ((off - Reg.CRS_CST_0 0) / 0x20)).word ((off - Reg.CRS_CST_0 0) % 0x20 / 4))
  else match arrIdx (Reg.CRS_PORT 0) 4 11 off with
    | some k => some (withF (s.rd off) (Reg.CRS_PORT_IN_USE k) (s.inUse k))
    | none => none

/-! ### Analogue, protection, outputs -/

/-- A register of an AFE group, HKC, FLT or ACQ that other state decides (R215, R229, R247, R262, R338, R368). -/
def State.readAnalog (s : State) (off : Nat) : Option Nat :=
  let g := off / 0x1000 % 8
  let conf : Conf := fun o => s.rd o
  if off / 0x10000 = 0x10 then
    if off % 0x1000 = Reg.AFE_RPT_STAT 0 % 0x1000 then some (withF (s.rd off) (Reg.AFE_RPT_STAT_AGE g) (b2n (s.rptOld g)))
    else match arrIdx (Reg.AFE_CV_AGE g 0) 0x10 nCv off with
      | some v => some (s.cvAge g v)
      | none => none
  else if off = Reg.HKC_CAL_AGE then some s.hkcAge
  else if off = Reg.FLT_STAT then
    some (withF (s.rd off) Reg.FLT_STAT_RUN (bitsOf 16 fun p => s.on (secProf p) && !(s.fprof p).stopped))
  else if off / 0x10000 = 0x21 then some (if (s.rd off).testBit 23 then s.rd off ||| 0xFF000000 else s.rd off)
  else if Reg.FLT_GD 0 ≤ off ∧ off < Reg.FLT_GD 64 then some (conf.groupDelay ((off - Reg.FLT_GD 0) / 4))
  else if off = Reg.FLT_LOAD_FULL then some (openDivN (conf.macs 2) 1000)
  else if off = Reg.FLT_LOAD_LEAN then some (openDivN (conf.macs 1) 1000)
  else if off = Reg.FLT_LOAD_GUARD then some (openDivN (conf.macs 0) 1000)
  else if off = Reg.FLT_CAP then some (6000000 / s.tm.div)
  else if off = Reg.ACQ_BUS_CTL then
    some (withF (s.rd off) Reg.ACQ_BUS_CTL_LINE (s.freeBits 8 ||| s.getF Reg.ACQ_BUS_STAT_DRV))
  else match arrIdx (Reg.ACQ_C_CAP 0) 0x40 8 off with
    | some j => some (s.capacity j)
    | none => match arrIdx (Reg.ACQ_RD_CAP 0) 0x20 4 off with
      | some k => some (s.rdCapacity k)
      | none => none

/-- A register of PRT that other state decides (R312, R686). -/
def State.readPrt (s : State) (off : Nat) : Option Nat :=
  if off = Reg.PRT_RUN then
    let ts := s.pwr.parts.filter fun p => decide (0x3040 ≤ p.id ∧ p.id < 0x3050) && p.conf
    some (bitsOf 12 (fun f => s.on (secFeeder f)) + b2n (!ts.isEmpty && ts.all fun p => p.st == .on) * 2 ^ 16)
  else match arrIdx (Reg.PRT_F_E_ACC 0 23) 0x1000 12 off with
    | some f => some (s.bfShare f)
    | none => none

/-- A register of DIO or AO that other state decides (R545, R548, R562). -/
def State.readOutputs (s : State) (off : Nat) : Option Nat :=
  if off = Reg.DIO_DRV then some s.drivers
  else match arrIdx (Reg.DIO_CH_STAT 0) 0x20 32 off with
    | some n => some (withF (withF (s.rd off) (Reg.DIO_CH_STAT_Y n) (b2n (s.dioBit Reg.DIO_IN n))) (Reg.DIO_CH_STAT_RAW n)
        (b2n (s.dioBit Reg.DIO_RAW n)))
    | none => match arrIdx (Reg.DIO_CH_CNT 0) 0x20 32 off with
      | some n => if n % 2 = 1 ∧ s.getF (Reg.DIO_CH_CFG_FUNC (n - 1)) = 2 then some 0 else none
      | none => (arrIdx (Reg.AO_CH_OUT 0) 0x40 8 off).map s.aoRaw

/-! ### Metering, events, ports, power, host -/

/-- Word k of a totaliser's group (R376): committed value, integer part of the working accumulator. -/
def State.totWord (s : State) (n k : Nat) : Nat :=
  let c := s.mtr.comm.getD n 0
  let w := s.mtr.work.getD n 0 / 2 ^ 32
  match k with
  | 0 => c % 2 ^ 32
  | 1 => c / 2 ^ 32 % 2 ^ 32
  | 2 => w % 2 ^ 32
  | _ => w / 2 ^ 32 % 2 ^ 32

/-- A register of MTR, EVT or ETH that other state decides (R376, R404, R528, R529, R534, R611). -/
def State.readService (s : State) (off : Nat) : Option Nat :=
  if off = Reg.MTR_SEAL_STAT then some (withF (s.rd off) Reg.MTR_SEAL_STAT_PENDING (min 3 s.aud.held.length))
  else if Reg.MTR_TOT_0 0 ≤ off ∧ off < Reg.MTR_TOT_0 160 then
    some (s.totWord ((off - Reg.MTR_TOT_0 0) / 0x10) ((off - Reg.MTR_TOT_0 0) % 0x10 / 4))
  else if off = Reg.EVT_TRC_BASE then some s.traceBase
  else if off = Reg.EVT_HQ_STAT then some ((s.evt.hq.countP fun e => e.cls == 0) * 2 ^ 16 + s.evt.hq.length)
  else if off = Reg.EVT_SOE0_STAT then some (withF (s.rd off) Reg.EVT_SOE0_STAT_USED s.evt.soe0.length)
  else if off = Reg.ETH_W_MAC_0 then some (s.rd off ^^^ s.getF Reg.WYT_STAT_SIDE)
  else match arrIdx (Reg.ETH_P_MAC_0 0) (Reg.ETH_P_MAC_0 1 - Reg.ETH_P_MAC_0 0) 4 off with
    | some p => some (s.portMac p % 2 ^ 32)
    | none => match arrIdx (Reg.MTR_M_STAT 0) 0x100 16 off with
      | some r => if s.runRunning r then none else some (withF (s.rd off) (Reg.MTR_M_STAT_STATE r) 0)
      | none => none

/-- A register of PWR that other state decides (R596, R598). -/
def State.readPwr (s : State) (off : Nat) : Option Nat :=
  let shed := s.pwr.parts.filter fun p => p.st == .shed
  if off = Reg.PWR_SHED_0 then some (bitsOf 25 fun u => shed.any fun p => s.slotOf p.id == u)
  else if off = Reg.PWR_SHED_1 then some (bitsOf 4 fun p => s.partSt (secEth p) == .shed)
  else none

/-- Seconds left of an interface's lockout (R646); the rounding is open. -/
def State.lockLeft (s : State) (i : Iface) : Nat :=
  match (s.accOf i).lockFrom with
  | some t => openDivN (t + 60 * sec32 - s.tm.runt) sec32
  | none => 0

/-- A register of HST that other state decides (R639, R646, R654, R656, R658). -/
def State.readHst (s : State) (i : Iface) (off : Nat) : Option Nat :=
  if off = Reg.HST_ACC_STAT then
    some (s.lockLeft i * 2 ^ 16 + min 255 (s.accOf i).fails * 2 ^ 8 + (s.level .spi).num * 16 + (s.level .pcie).num)
  else if off = Reg.HST_UNIT_PRES then some s.variant.pres
  else if off = Reg.HST_SPI_STAT then some (s.hst.spiStat % 16)
  else if off = Reg.HST_IRQ_SUM then some (bitsOf 31 s.asserted)
  else if 0x1000 ≤ off ∧ off < 0x1200 then some (s.hst.msix.getD ((off - 0x1000) / 4) 0)
  else if off = 0x1800 then some s.hst.vpend
  else match arrIdx (Reg.HST_DMA_STAT 0) 0x40 4 off with
    | some c => some (withF (s.rd off) (Reg.HST_DMA_STAT_BUSY c) (b2n (s.dmaRuns c)))
    | none => none

/-- A register that other state decides. -/
def State.derived (s : State) (i : Iface) (off : Nat) : Option Nat :=
  match off / 0x10000 with
  | 0x00 => s.readHst i off
  | 0x01 => s.readPwr off
  | 0x02 => s.readTbu off
  | 0x03 => s.readAng off
  | 0x05 => s.readKln off
  | 0x06 => s.readCrs off
  | 0x10 | 0x18 | 0x20 | 0x21 | 0x40 => s.readAnalog off
  | 0x30 => s.readPrt off
  | 0x50 | 0x80 | 0x84 | 0x90 => s.readService off
  | 0xA0 | 0xB0 => s.readOutputs off
  | 0xC0 => if off = Reg.WYT_STAT then some (withF (s.rd off) Reg.WYT_STAT_DEGRADED (b2n s.degraded)) else none
  | _ => none

/-- The live value of a register as an interface reads it (R634, R641). -/
def State.readReg (s : State) (i : Iface) (off : Nat) : Nat :=
  if s.absent off then 0 else
  let h := match Blk.all.find? fun b => b.base ≤ off && decide (off < b.base + 0x20) with
    | some b => s.readHeader b (off - b.base)
    | none => s.derived i off
  h.getD (s.rd off) % 2 ^ 32

/-! ### Snapshot groups (R35, R649) -/

/-- Groups of consecutive registers: first register, how many groups and their distance, words. -/
def snapRows : List (Nat × Nat × Nat × Nat) :=
  [(Reg.ANG_POS_0, 1, 4, 6), (0x30070, 1, 4, 6), (Reg.ANG_RUNT_0, 1, 4, 2), (Reg.TBU_TIME_0, 1, 4, 4), (0x200ac, 1, 4, 3),
   (Reg.TBU_P_TXQ_ID 0, 4, 0x40, 5), (Reg.KLN_STAMP_0, 4, 8, 2), (Reg.CRS_CST_0 0, 192, 0x20, 8), (Reg.HKC_Q_0, 1, 4, 5),
   (0x200040, 1, 4, 3), (0x301d20, 12, 0x1000, 2), (0x301d28, 12, 0x1000, 2), (0x301d30, 12, 0x1000, 5),
   (0x30d008, 16, 0x100, 4), (0x500030, 1, 4, 3), (Reg.MTR_AUD_RD 0, 1, 4, 16), (Reg.MTR_TOT_0 0, 320, 8, 2),
   (Reg.BLK_PS_0 0, 8, 8, 2), (Reg.BLK_C_STAMP_A_0 0, 4, 0x1000, 2), (Reg.BLK_C_STAMP_S_0 0, 4, 0x1000, 2),
   (Reg.EVT_HQ 0, 1, 4, 8), (Reg.EVT_SOE_RD 0, 1, 4, 8), (0xc00060, 1, 4, 3)]

/-- Registers of a feeder's update group: UPD_0–5 and every phasor (R312). -/
def updGroup (f : Nat) : List Nat :=
  (List.range 6).map (fun k => Reg.PRT_F_UPD_0 f + 4 * k) ++
    (List.range 14).flatMap fun q => (List.range 3).map fun k => Reg.PRT_F_PH_0 f q + 4 * k

/-- The registers of the snapshot group a register belongs to, the lowest word first. -/
def groupOf (off : Nat) : Option (List Nat) :=
  if (hdrBases.any fun b => off == b + 0x18 || off == b + 0x1C) then some [off / 8 * 8, off / 8 * 8 + 4]
  else
    let f := off / 0x1000 - 0x301
    if 0x301000 ≤ off ∧ off < 0x30d000 ∧ off ∈ updGroup f then some (updGroup f)
    else snapRows.findSome? fun r =>
      if r.1 ≤ off ∧ (off - r.1) / r.2.2.1 < r.2.1 ∧ (off - r.1) % r.2.2.1 < 4 * r.2.2.2 then
        some ((List.range r.2.2.2).map fun k => r.1 + (off - r.1) / r.2.2.1 * r.2.2.1 + 4 * k)
      else if r.2.1 = 1 ∧ r.1 ≤ off ∧ off < r.1 + 4 * r.2.2.2 then some ((List.range r.2.2.2).map fun k => r.1 + 4 * k)
      else none

/-- Live words of a group; those of a queue group are the queue's head (R651). -/
def State.liveGroup (s : State) (i : Iface) (g : List Nat) : List Nat :=
  let base := g.headD 0
  if base = Reg.EVT_HQ 0 then ((s.evt.hq.head?.map fun e => wordsOf e.bytes)).getD emptyWords
  else if base = Reg.HKC_Q_0 then ((s.hkc.q.head?.map fun e => e.words)).getD (g.map s.rd)
  else if base = Reg.MTR_AUD_RD 0 then
    ((s.aud.recs.find? fun r => r.seq == s.rd Reg.MTR_AUD_SEL).map fun r => wordsOf r.bytes).getD (List.replicate 16 0xFFFFFFFF)
  else match arrIdx (Reg.TBU_P_TXQ_ID 0) 0x40 4 base with
    | some p => (((s.pp p).txq.head?.map fun e => e.id :: (wordsOf (leBytes 12 (twPack e.tw)) ++ [e.epoch]))).getD (g.map s.rd)
    | none => g.map (s.readReg i)

/-- A read of the lowest word of a group: the group is taken into the interface's copy; a queue's entry leaves it. -/
def State.readLow (s : State) (i : Iface) (g : List Nat) : State × Nat :=
  let base := g.headD 0
  let low := fun (t : State) => (t, ((t.snapOf i base).getD []).headD 0)
  if base = Reg.EVT_HQ 0 then low (s.hqRead i)
  else if base = Reg.HKC_Q_0 then low (s.hkcRead i)
  else if base = Reg.MTR_AUD_RD 0 then low (s.audRead i)
  else match arrIdx (Reg.TBU_P_TXQ_ID 0) 0x40 4 base with
    | some p => s.txqRead i p
    | none => low (s.setSnap i base (s.liveGroup i g))

/-- A torn read: HST_STAT.TORN, the interrupt, TORN of the SPI status (R651, R663). -/
def State.torn (s : State) (i : Iface) : State := ((s.raise Reg.HST_STAT_TORN).irq .hst 1).spiFlag i 3

/-- The blocks of BAR0 (R643). -/
def inMap (off : Nat) : Bool :=
  let b := off / 0x10000
  b ∈ [0x00, 0x01, 0x02, 0x03, 0x05, 0x06, 0x18, 0x20, 0x21, 0x30, 0x40, 0x50, 0x60, 0x70, 0x71, 0x80, 0x81, 0x82, 0x83, 0x84, 0x90, 0xA0,
    0xB0, 0xC0] || decide (0x100000 ≤ off ∧ off < 0x108000)

/-- An access outside the blocks of R643. -/
def State.badAddr (s : State) (i : Iface) : State := ((s.raise Reg.HST_STAT_BAD_ADDR).irq .hst 2).spiFlag i 1

/-- A read of one register over an interface; `tears` says that a torn read is reported (a DMA transfer is no interface). -/
def State.readOne (s : State) (i : Iface) (tears : Bool) (off : Nat) : State × Nat :=
  if !inMap off then (s.badAddr i, 0)
  else match groupOf off with
    | none => (s.bump, s.readReg i off)
    | some g =>
      if g.headD 0 = off then s.readLow i g
      else
        let k := (off - g.headD 0) / 4
        let k := (g.findIdx? fun o => o == off).getD k
        match s.snapOf i (g.headD 0) with
        | some ws => (s, ws.getD k (s.rd off))
        | none => (if tears then s.torn i else s, (s.liveGroup i g).getD k 0)

/-- A read of n registers in ascending order, all of one fc (R634, R640, R650). -/
def State.readSpan (s : State) (i : Iface) (tears : Bool) : Nat → Nat → State × List Nat
  | _, 0 => (s, [])
  | off, n + 1 =>
    let p := s.readOne i tears off
    let q := State.readSpan p.1 i tears (off + 4) n
    (q.1, p.2 :: q.2)

/-- SNAPSHOT_READ (R649–R651): a read request of n registers, at most 32, from a multiple of 4; any other ends with Unsupported
Request (R634). -/
def execSnapshotRead (ifc : Iface) (off n : Nat) (s : State) : Out :=
  if off % 4 ≠ 0 ∨ n = 0 ∨ n > 32 ∨ off + 4 * n > 0x4000000 then .next s
  else
    let say := fun (s : State) (ws : List Nat) => (ws.zipIdx).foldl (fun (s : State) (x : Nat × Nat) => s.answer ifc (off + 4 * x.2) x.1) s
    if s.pwr.warmBusy then .next (say s (List.replicate n 0xFFFFFFFF))
    else s.hostRow ifc <|
      let p := s.readSpan ifc true off n
      .next (say p.1 p.2)

end Sys2Proof.Machine
end

