-- ==== Sys2Proof/Machine/Host.lean ====
section
/-!
DEFINITION. The host interface (21): writes over PCI Express and SPI (R634–R640, R643), access levels (R644–R648, R682), the
DRAM window (R652, R653), MSI-X (R654–R656), the DMA channels (R658–R663), PCI Express hot reset (R637).
-/
namespace Sys2Proof.Machine

/-! ### Access levels (R645–R648, R682) -/

/-- Source identifier of HST (R648). -/
def hstSrc : Nat := 0x0000

/-- The 32 bytes of the passphrase. -/
def State.passphrase (s : State) : List Byte := s.hst.pw.flatMap (leBytes 4)

/-- The passphrase reaches a level: by the digest the fired HST section gives, by the one kept, by zero bytes where none has
ever been kept; a digest of all zeros is unreachable (R645, R646, R682). -/
def State.reaches (s : State) (l : Level) : Bool :=
  let d := if l = .engineer then s.kln.digestEng.or s.kln.keptEng else s.kln.digestOp.or s.kln.keptOp
  match d with
  | some x => x != 0 && sha256 s.passphrase == x
  | none => s.passphrase.all (· == 0)

/-- The passphrase registers are cleared (R645). -/
def State.clearPw (s : State) : State := { s with hst := { s.hst with pw := List.replicate 8 0 } }

/-- A failed comparison (R646). -/
def State.accFail (s : State) (i : Iface) : State :=
  let n := (s.accOf i).fails + 1
  if n < 5 then s.setAcc i fun a => { a with fails := n }
  else ((s.setAcc i fun a => { a with fails := n, lockFrom := some s.tm.runt }).emit hstSrc 0x0001 1 (ifcNum i + n * 256)).irq .hst 3

/-- A request for a level (R645, R646). -/
def State.accRequest (s : State) (i : Iface) (l : Level) : State :=
  if (s.accOf i).lockFrom.isSome then s.clearPw
  else if s.reaches l then ((s.setAcc i fun a => { a with fails := 0 }).setLevel i l).clearPw
  else (s.accFail i).clearPw

/-- A write of HST_ACC_CMD. -/
def State.accCmd (s : State) (i : Iface) (v : Nat) : State :=
  let s := match v % 4 with
    | 1 => s.accRequest i .operate
    | 2 => s.accRequest i .engineer
    | _ => s
  if v.testBit 2 then s.setLevel i .read else s

/-- ACCESS_LEVEL_REQUEST (R645): a write of HST_ACC_CMD. -/
def execAccessLevelRequest (ifc : Iface) (v : Word) (s : State) : Out := s.hostRow ifc <| .next (s.accCmd ifc v.toNat)

/-- ACCESS_DROP (R647): a write of HST_ACC_CMD with DROP. -/
def execAccessDrop (ifc : Iface) (v : Word) (s : State) : Out := s.hostRow ifc <| .next (s.accCmd ifc (v.toNat ||| 4))

/-- LOCKOUT_END (R646). -/
def execLockoutEnd (ifc : Iface) (s : State) : Out :=
  match (s.accOf ifc).lockFrom with
  | some t => if s.expired t 60000000000 then .next (s.setAcc ifc fun a => { a with fails := 0, lockFrom := none }) else .next s
  | none => .next s

/-! ### Interrupts (R655, R656) -/

/-- INT_N is driven low (R657). -/
def State.intNLow (s : State) : Bool := (bitsOf 31 s.asserted &&& s.rd Reg.HST_INTN_MASK) != 0

/-- A write of HST_VEOI (R655). -/
def State.veoi (s : State) (i : Iface) (v : Nat) : State :=
  s.command i .operate fun s =>
    if (List.range 31).any fun k => s.getF (Reg.HST_VMAP_VEC k) == v % 32 && s.asserted k then s.pendVec (v % 32) else s

/-- VEOI_WRITE (R655). -/
def execVeoiWrite (ifc : Iface) (v : Word) (s : State) : Out := s.hostRow ifc <| .next (s.veoi ifc v.toNat)

/-- Word k of a vector's entry in the MSI-X table: address low and high, data, control. -/
def State.msixWord (s : State) (v k : Nat) : Nat := s.hst.msix.getD (4 * v + k) 0

/-- A write to the MSI-X table (R633): bits 1:0 of the address and bits 31:1 of the control word are reserved. -/
def State.msixWrite (s : State) (k v : Nat) : State :=
  let w := match k % 4 with
    | 0 => v / 4 * 4
    | 3 => v % 2
    | _ => v
  { s with hst := { s.hst with msix := s.hst.msix.set k w } }

/-- A pending vector may send its message: unmasked, its interval over (R656). -/
def State.mayMsg (s : State) (v : Nat) : Bool :=
  s.on secHst && decide (v < 32) && s.hst.vpend.testBit v && s.msixWord v 3 % 2 == 0 &&
    match s.hst.vlast.getD v none with
    | some t => s.expired t (s.getF (Reg.HST_VMOD_US v) * 1000)
    | none => true

/-- MSIX_MESSAGE_SEND (R656). -/
def execMsixMessageSend (vec : Nat) (s : State) : Out := s.only (decide (vec < 32)) <|
  if s.mayMsg vec then
    let hst := { s.hst with vpend := putBit s.hst.vpend vec false, vlast := s.hst.vlast.set vec (some s.tm.runt) }
    .next ({ s with hst := hst }.out (.msix vec (s.msixWord vec 0 + s.msixWord vec 1 * 2 ^ 32) (s.msixWord vec 2)))
  else .next s

/-! ### Register writes (R634, R636, R643, R644) -/

/-- A write of HST_DMAc_CTL: STOP ends the descriptor in progress with ABORT and clears EN (R660, R663); the descriptor's CTL
word stands in host memory. -/
def State.dmaCtl (s : State) (i : Iface) (c v : Nat) : State :=
  if v.testBit 1 then
    s.command i .operate fun s =>
      let s := if s.dmaRuns c then (s.dmaFinish c (s.freeBits 32) dmaAbort 0 none s.tw).bump else s
      s.setF (Reg.HST_DMA_CTL_EN c) 0
  else s.fieldWrite i (Reg.HST_DMA_CTL c) v

/-- A write to a register of HST; a window beyond the DRAM of the variant is ignored (R652). -/
def State.hstWrite (s : State) (i : Iface) (off v : Nat) : State :=
  if off = Reg.HST_ACC_CMD then s.accCmd i v
  else if off = Reg.HST_VEOI then s.veoi i v
  else if Reg.HST_ACC_PW 0 ≤ off ∧ off ≤ Reg.HST_ACC_PW 7 then
    { s with hst := { s.hst with pw := s.hst.pw.set ((off - Reg.HST_ACC_PW 0) / 4) v } }
  else if 0x1000 ≤ off ∧ off < 0x1200 then s.msixWrite ((off - 0x1000) / 4) v
  else if off = Reg.HST_WIN ∧ v % 8 * 2 ^ 28 ≥ s.dramSize then s.command i .operate fun s => s
  else match arrIdx (Reg.HST_DMA_CTL 0) 0x40 4 off with
    | some c => s.dmaCtl i c v
    | none => s.fieldWrite i off v

/-- A write to a register of PWR, KLN or CRS. -/
def State.coreWrite (s : State) (i : Iface) (off v : Nat) : State :=
  if off = Reg.PWR_CMD then s.pwrCmd i v
  else if off = Reg.PWR_GOV_CTL then s.govCtl i v
  else if off = Reg.KLN_CMD then s.klnCmd i v
  else if off = Reg.CRS_CTL then s.crsCtl i v
  else s.fieldWrite i off v

/-- A write of a whole register at a BAR0 offset. -/
def State.hostWrite (s : State) (i : Iface) (off v : Nat) : State :=
  if !inMap off then s.badAddr i
  else if s.absent off then s
  else if hdrBases.any fun b => off == b + 8 then s.unitCtl i off v
  else match off / 0x10000 with
    | 0x00 => s.hstWrite i off v
    | 0x01 | 0x05 | 0x06 => s.coreWrite i off v
    | 0x60 => (s.unitWrite i off v).blkBootDiff
    | _ => s.unitWrite i off v

/-- REGISTER_WRITE (R634, R643, R644): a PCI Express write with a byte enable clear leaves the register and sets PARTIAL; a
request that does not start at a multiple of 4 ends with Unsupported Request. -/
def execRegisterWrite (ifc : Iface) (off : Nat) (v : Word) (be : BitVec 4) (s : State) : Out :=
  if off % 4 ≠ 0 ∨ off ≥ 0x4000000 then .next s
  else s.hostRow ifc <|
    if ifc = .pcie ∧ be ≠ 15 then .next (s.raise Reg.HST_STAT_PARTIAL) else .next (s.hostWrite ifc off v.toNat)

/-- SEAL_FIELD_WRITE (R9, R405, R406): a write to a register with a SEAL field; any other register has its own command. -/
def execSealFieldWrite (ifc : Iface) (off : Nat) (v : Word) (s : State) : Out :=
  match (regAt off).bind fun h => h.row.sealField with
  | some _ => s.hostRow ifc <| .next (s.hostWrite ifc off v.toNat)
  | none => .next s

/-! ### SPI (R638–R640) -/

/-- Writes of registers in ascending order. -/
def State.writeSpan (s : State) (i : Iface) : Nat → List Word → State
  | _, [] => s
  | off, w :: ws => State.writeSpan (s.hostWrite i off w.toNat) i (off + 4) ws

/-- SPI_TRANSACTION (R638, R639): header, the words of MOSI that arrived whole, and whether SPI_CS_N rose with every register
done (a read cut short has fetched as many registers as words are given). -/
def execSpiTransaction (hdr : Word) (data : List Word) (complete : Bool) (s : State) : Out :=
  let h := hdr.toNat
  let n := bits h 30 26 + 1
  let a := bits h 25 0
  let st := s.hst.spiStat % 16
  if s.pwr.warmBusy then .next (if bit h 31 then s.out (.spiOut (List.replicate (n + 2) 0xFFFFFFFF)) else s)
  else s.hostRow .spi <|
    if a % 4 ≠ 0 then .next ((s.out (.spiOut [st])).spiFlag .spi 1)
    else if bit h 31 then
      let p := s.readSpan .spi true a (if complete then n else min n data.length)
      .next (p.1.out (.spiOut (st :: 0 :: p.2)))
    else
      let t := (s.out (.spiOut [st])).writeSpan .spi a (data.take n)
      .next (if complete ∧ n ≤ data.length then t else t.spiFlag .spi 2)

/-! ### The timeout of an access level (R647) -/

/-- A register write of this fc still waits that needs the interface's level and is accepted (R66); one that changes the timeout itself
comes too late (R68). -/
def State.usesComes (s : State) (i : Iface) : Bool :=
  let uses := fun (o : Out) => match o with
    | .next t => t.level i == s.level i && (t.accOf i).used == s.tm.runt
    | _ => false
  (s.accOf i).used != s.tm.runt && s.comes fun c => match c with
    | .registerWrite j off v be => j == i && off != Reg.HST_ACC_TMO && uses (execRegisterWrite j off v be s)
    | .sealFieldWrite j off v => j == i && uses (execSealFieldWrite j off v s)
    | .spiTransaction hdr data done => i == .spi && bits hdr.toNat 25 0 != Reg.HST_ACC_TMO && uses (execSpiTransaction hdr data done s)
    | _ => false

/-- ACCESS_TIMEOUT (R647). -/
def execAccessTimeout (ifc : Iface) (s : State) : Out :=
  if s.level ifc ≠ .read ∧ s.expired (s.accOf ifc).used (s.getF Reg.HST_ACC_TMO_S * 1000000000) ∧ !s.usesComes ifc then
    .next (s.setLevel ifc .read)
  else .next s

/-! ### DRAM window (R652, R653) -/

/-- Writes of a BAR2 request: bytes in the host area are taken, others dropped. -/
def State.winWrite (s : State) : Nat → List Byte → State
  | _, [] => s
  | a, b :: bs => State.winWrite (if s.inHostArea a then s.dramWr a [b] else s.raise Reg.HST_STAT_WIN_DENIED) (a + 1) bs

/-- BAR2_WRITE (R652, R653). -/
def execBar2Write (off : Nat) (bytes : List Byte) (s : State) : Out :=
  if off + bytes.length > 0x10000000 then .next s
  else s.hostRow .pcie <| .next (s.winWrite (s.getF Reg.HST_WIN_BASE * 2 ^ 28 + off) bytes)

/-! ### DMA (R658–R663) -/

/-- DMA_TAIL_WRITE (R658). -/
def execDmaTailWrite (ifc : Iface) (c : Nat) (v : Word) (s : State) : Out :=
  if c < 4 then s.hostRow ifc <| .next (s.hostWrite ifc (Reg.HST_DMA_TAIL c) v.toNat) else .next s

/-- DMA_STOP (R663): a write of HST_DMAc_CTL with STOP. -/
def execDmaStop (ifc : Iface) (c : Nat) (v : Word) (s : State) : Out :=
  if c < 4 then s.hostRow ifc <| .next (s.dmaCtl ifc c (v.toNat ||| 2)) else .next s

/-- DRAM as a transfer reads it: supervisor memory reads as zero (R653). -/
def State.dramSee (s : State) (a n : Nat) : List Byte :=
  (List.range n).map fun k => if a + k < s.superMem then Mem.rd s.dram (a + k) else 0

/-- Code of a transfer that moved `got` of `n` possible bytes of `len`. -/
def dmaCode (d : Descriptor) (got n len past : Nat) : Nat :=
  if d.hostErr ∧ (got < n ∨ n = len) then dmaHostErr else if n < len then past else dmaOk

/-- Bytes that reach or leave host memory before it reports an error; without one, all n. -/
def descReach (d : Descriptor) (n : Nat) : Nat := if d.hostErr then min n d.data.length else n

/-- The n bytes host memory gives. -/
def descBytes (d : Descriptor) (n : Nat) : List Byte := (d.data ++ List.replicate n 0).take n

/-- A transfer from the module to the host: state, code, bytes done (R659–R661). -/
def State.dmaOut (s : State) (d : Descriptor) : State × Nat × Nat :=
  let m := d.modul.toNat
  let len := descLen d
  if descSpace d then
    let n := min len (0x4000000 - m)
    let got := descReach d n
    let hid := s.hst.snaps.filter fun c => c.ifc != .pcie
    let p := State.readSpan { s with hst := { s.hst with snaps := hid } } .pcie false m (got / 4)
    let t := { p.1 with hst := { p.1.hst with snaps := s.hst.snaps } }
    (t.out (.hostWrite d.host (p.2.flatMap (leBytes 4))), dmaCode d got n len dmaRange, got / 4 * 4)
  else
    let n := min len (s.dramSize - m)
    let got := descReach d n
    (s.out (.hostWrite d.host (s.dramSee m got)), dmaCode d got n len dmaRange, got)

/-- A transfer from the host to the module (R659–R661). -/
def State.dmaIn (s : State) (d : Descriptor) : State × Nat × Nat :=
  let m := d.modul.toNat
  let len := descLen d
  if descSpace d then
    let n := min len (0x4000000 - m)
    let got := descReach d n
    let ws := (wordsOf (descBytes d (got / 4 * 4))).map fun w => BitVec.ofNat 32 w
    (s.writeSpan .pcie m ws, dmaCode d got n len dmaRange, got / 4 * 4)
  else
    let n := if s.inHostArea m then min len (s.superMem - m) else 0
    let got := descReach d n
    (s.dramWr m (descBytes d got), dmaCode d got n len (if s.dramSize ≤ m then dmaRange else dmaAccess), got)

/-- Channels 0 and 1 carry out the descriptor at HEAD. -/
def State.dmaMove (s : State) (c : Nat) (d : Descriptor) : State :=
  let ctl := d.ctl.toNat
  let len := descLen d
  if !s.dmaRuns c then s
  else if !descOwn d then s.dmaFail c dmaOwn
  else if len % 4 ≠ 0 ∨ len = 0 then s.dmaFinish c ctl dmaSize 0 none s.tw
  else if d.host % 4 ≠ 0 ∨ d.modul.toNat % 4 ≠ 0 then s.dmaFinish c ctl dmaAlign 0 none s.tw
  else
    let r := if descDir d then s.dmaIn d else s.dmaOut d
    r.1.dmaFinish c ctl r.2.1 r.2.2 none s.tw

/-- DMA_DESCRIPTOR_COMPLETE (R658–R661): the channel carries out the descriptor that stands at HEAD in host memory. Channel 2
takes a descriptor only for a frame (R510); without OWN it stops. -/
def execDmaDescriptorComplete (c : Nat) (d : Descriptor) (s : State) : Out := s.only (decide (c < 4)) <|
  if !s.hostUp then .next s
  else match c with
    | 0 | 1 => .next (s.dmaMove c d)
    | 2 => .next (if s.dmaRuns 2 && !descOwn d then s.dmaFail 2 dmaOwn else s)
    | 3 => .next (s.hostTransmit d)
    | _ => .next s

/-! ### PCI Express hot reset (R637) -/

/-- Offsets of the registers of the DMA channels. -/
def dmaRegs : List Nat := (List.range 4).flatMap fun c => (List.range 9).map fun k => Reg.HST_DMA_CTL c + 4 * k

/-- The MSI-X table after a reset: every vector masked. -/
def msixReset : List Nat := (List.range 128).map fun k => if k % 4 = 3 then 1 else 0

/-- PCIE_HOT_RESET (R637, R651). -/
def execPcieHotReset (s : State) : Out :=
  if s.pwr.unpowered then .next s
  else
    let s := dmaRegs.foldl (fun (s : State) o => s.wr o (resetWord o).toNat) s
    let s := s.setLevel .pcie .read
    .next { s with hst := { s.hst with msix := msixReset, snaps := s.hst.snaps.filter fun c => c.ifc != .pcie } }

end Sys2Proof.Machine
end

