-- ==== Sys2Proof/Machine/Dispatch.lean ====
section
/-!
DEFINITION. The meaning of every command: one arm per constructor of Instr, each one direct call of its meaning.
-/
namespace Sys2Proof.Machine

def exec (i : Instr) (s : State) : Host.Outcome State Fault Refusal :=
  match i with
  | .registerWrite ifc off v be => Sys2Proof.Machine.execRegisterWrite ifc off v be s
  | .snapshotRead ifc off n => Sys2Proof.Machine.execSnapshotRead ifc off n s
  | .sealFieldWrite ifc off v => Sys2Proof.Machine.execSealFieldWrite ifc off v s
  | .trackerUpdate pri alt => Sys2Proof.Machine.execTrackerUpdate pri alt s
  | .angHoldForceWrite ifc v => Sys2Proof.Machine.execAngHoldForceWrite ifc v s
  | .angReferenceWrite ifc alt v => Sys2Proof.Machine.execAngReferenceWrite ifc alt v s
  | .angAltOfsWrite ifc v => Sys2Proof.Machine.execAngAltOfsWrite ifc v s
  | .gridSample g => Sys2Proof.Machine.execGridSample g s
  | .tbuIncWrite ifc v => Sys2Proof.Machine.execTbuIncWrite ifc v s
  | .tbuStep ifc v => Sys2Proof.Machine.execTbuStep ifc v s
  | .tbuReepoch ifc v => Sys2Proof.Machine.execTbuReepoch ifc v s
  | .tbuAsymAck ifc v => Sys2Proof.Machine.execTbuAsymAck ifc v s
  | .tbuSrcWrite ifc v => Sys2Proof.Machine.execTbuSrcWrite ifc v s
  | .tbuProfWrite ifc v => Sys2Proof.Machine.execTbuProfWrite ifc v s
  | .ptpMessageRx port msg => Sys2Proof.Machine.execPtpMessageRx port msg s
  | .pathStableTimeout port => Sys2Proof.Machine.execPathStableTimeout port s
  | .holdoverEntryTimeout => Sys2Proof.Machine.execHoldoverEntryTimeout s
  | .announceReceiptTimeout port => Sys2Proof.Machine.execAnnounceReceiptTimeout port s
  | .ptpMessageTx port kind => Sys2Proof.Machine.execPtpMessageTx port kind s
  | .ppsInEdge => Sys2Proof.Machine.execPpsInEdge s
  | .ppsOutPulse => Sys2Proof.Machine.execPpsOutPulse s
  | .ppsOutWidthEnd => Sys2Proof.Machine.execPpsOutWidthEnd s
  | .txqIdRead ifc port => Sys2Proof.Machine.execTxqIdRead ifc port s
  | .klnStore ifc v => Sys2Proof.Machine.execKlnStore ifc v s
  | .klnStoreDone => Sys2Proof.Machine.execKlnStoreDone s
  | .klnRefire ifc v => Sys2Proof.Machine.execKlnRefire ifc v s
  | .refireAccepted => Sys2Proof.Machine.execRefireAccepted s
  | .klnPatch ifc v => Sys2Proof.Machine.execKlnPatch ifc v s
  | .klnJclear ifc v => Sys2Proof.Machine.execKlnJclear ifc v s
  | .klnRevoke ifc v => Sys2Proof.Machine.execKlnRevoke ifc v s
  | .klnInvalidate ifc v => Sys2Proof.Machine.execKlnInvalidate ifc v s
  | .crsArm ifc v => Sys2Proof.Machine.execCrsArm ifc v s
  | .crsAbort ifc v => Sys2Proof.Machine.execCrsAbort ifc v s
  | .courseSet n => Sys2Proof.Machine.execCourseSet n s
  | .standingCourseSet n => Sys2Proof.Machine.execStandingCourseSet n s
  | .courseSlotRelease n => Sys2Proof.Machine.execCourseSlotRelease n s
  | .standingCourseRearm n => Sys2Proof.Machine.execStandingCourseRearm n s
  | .courseDeadline n => Sys2Proof.Machine.execCourseDeadline n s
  | .wCopyRx c => Sys2Proof.Machine.execWCopyRx c s
  | .wAnswerRx seq status => Sys2Proof.Machine.execWAnswerRx seq status s
  | .mirrorAnswerTimeout n => Sys2Proof.Machine.execMirrorAnswerTimeout n s
  | .wCancelRx seq => Sys2Proof.Machine.execWCancelRx seq s
  | .wOutcomeRx seq status => Sys2Proof.Machine.execWOutcomeRx seq status s
  | .converterResult n rA rB rS half age => Sys2Proof.Machine.execConverterResult n rA rB rS half age s
  | .matchWindowClose n => Sys2Proof.Machine.execMatchWindowClose n s
  | .repointStepStart g => Sys2Proof.Machine.execRepointStepStart g s
  | .repointMismatch g => Sys2Proof.Machine.execRepointMismatch g s
  | .repointAbandon g => Sys2Proof.Machine.execRepointAbandon g s
  | .substitutionCourse g => Sys2Proof.Machine.execSubstitutionCourse g s
  | .repointFadeEnd g => Sys2Proof.Machine.execRepointFadeEnd g s
  | .converterCalibDone g v ofs gain resid => Sys2Proof.Machine.execConverterCalibDone g v ofs gain resid s
  | .ageLimit g => Sys2Proof.Machine.execAgeLimit g s
  | .afeOosWrite ifc n v => Sys2Proof.Machine.execAfeOosWrite ifc n v s
  | .channelOutOfService n => Sys2Proof.Machine.execChannelOutOfService n s
  | .channelReturnToService n => Sys2Proof.Machine.execChannelReturnToService n s
  | .proofStart ifc g v => Sys2Proof.Machine.execProofStart ifc g v s
  | .proofDacGrant g => Sys2Proof.Machine.execProofDacGrant g s
  | .proofTestDone g val => Sys2Proof.Machine.execProofTestDone g val s
  | .hkcSelWrite ifc v => Sys2Proof.Machine.execHkcSelWrite ifc v s
  | .hkcConversionStart => Sys2Proof.Machine.execHkcConversionStart s
  | .hkcEntryWrite codes => Sys2Proof.Machine.execHkcEntryWrite codes s
  | .hkcCalCommand ifc v => Sys2Proof.Machine.execHkcCalCommand ifc v s
  | .hkcCalInterval => Sys2Proof.Machine.execHkcCalInterval s
  | .hkcCalStart => Sys2Proof.Machine.execHkcCalStart s
  | .hkcCalDone ofs gain => Sys2Proof.Machine.execHkcCalDone ofs gain s
  | .hkcFlush ifc v => Sys2Proof.Machine.execHkcFlush ifc v s
  | .hkcQueueRead ifc => Sys2Proof.Machine.execHkcQueueRead ifc s
  | .stageAOutput => Sys2Proof.Machine.execStageAOutput s
  | .stageBOutput p => Sys2Proof.Machine.execStageBOutput p s
  | .fltBankRequest ifc p v => Sys2Proof.Machine.execFltBankRequest ifc p v s
  | .fltSync ifc v => Sys2Proof.Machine.execFltSync ifc v s
  | .phasorUpdate f => Sys2Proof.Machine.execPhasorUpdate f s
  | .bfInitWrite ifc f v => Sys2Proof.Machine.execBfInitWrite ifc f v s
  | .bfT1Expiry f => Sys2Proof.Machine.execBfT1Expiry f s
  | .bfT2Expiry f => Sys2Proof.Machine.execBfT2Expiry f s
  | .tripHoldEnd n => Sys2Proof.Machine.execTripHoldEnd n s
  | .powTimeout f open_ => Sys2Proof.Machine.execPowTimeout f open_ s
  | .powTargetArm ifc f v => Sys2Proof.Machine.execPowTargetArm ifc f v s
  | .acqItemEvaluate starved => Sys2Proof.Machine.execAcqItemEvaluate starved s
  | .triggerTimeout n => Sys2Proof.Machine.execTriggerTimeout n s
  | .captureRecordEnd j => Sys2Proof.Machine.execCaptureRecordEnd j s
  | .acqArm ifc v => Sys2Proof.Machine.execAcqArm ifc v s
  | .acqStop ifc v => Sys2Proof.Machine.execAcqStop ifc v s
  | .acqForce ifc v => Sys2Proof.Machine.execAcqForce ifc v s
  | .acqRelease ifc j v => Sys2Proof.Machine.execAcqRelease ifc j v s
  | .acqRdptrWrite ifc j v => Sys2Proof.Machine.execAcqRdptrWrite ifc j v s
  | .triggerBusAssert l => Sys2Proof.Machine.execTriggerBusAssert l s
  | .triggerBusRelease l => Sys2Proof.Machine.execTriggerBusRelease l s
  | .triggerBusEdge l => Sys2Proof.Machine.execTriggerBusEdge l s
  | .trcTimeout => Sys2Proof.Machine.execTrcTimeout s
  | .meterWindowClose f => Sys2Proof.Machine.execMeterWindowClose f s
  | .meterGap f => Sys2Proof.Machine.execMeterGap f s
  | .commitCoursePrepare => Sys2Proof.Machine.execCommitCoursePrepare s
  | .mtrCommit ifc v => Sys2Proof.Machine.execMtrCommit ifc v s
  | .commitWriteDone => Sys2Proof.Machine.execCommitWriteDone s
  | .sealOpen => Sys2Proof.Machine.execSealOpen s
  | .sealClose => Sys2Proof.Machine.execSealClose s
  | .tamper => Sys2Proof.Machine.execTamper s
  | .auditRecordRead ifc => Sys2Proof.Machine.execAuditRecordRead ifc s
  | .auditAck ifc v => Sys2Proof.Machine.execAuditAck ifc v s
  | .mtrPreset ifc v => Sys2Proof.Machine.execMtrPreset ifc v s
  | .mtrAccept ifc v => Sys2Proof.Machine.execMtrAccept ifc v s
  | .taskSync c scans => Sys2Proof.Machine.execTaskSync c scans s
  | .taskExecutionComplete c data outs => Sys2Proof.Machine.execTaskExecutionComplete c data outs s
  | .taskOverrun c => Sys2Proof.Machine.execTaskOverrun c s
  | .taskFault c => Sys2Proof.Machine.execTaskFault c s
  | .blkStore ifc v => Sys2Proof.Machine.execBlkStore ifc v s
  | .blkStoreDone => Sys2Proof.Machine.execBlkStoreDone s
  | .blkInvalidate ifc v => Sys2Proof.Machine.execBlkInvalidate ifc v s
  | .blkStart ifc c v => Sys2Proof.Machine.execBlkStart ifc c v s
  | .blkStop ifc c v => Sys2Proof.Machine.execBlkStop ifc c v s
  | .blkLoad ifc c v => Sys2Proof.Machine.execBlkLoad ifc c v s
  | .blkLoadDone c => Sys2Proof.Machine.execBlkLoadDone c s
  | .blkExch ifc c v => Sys2Proof.Machine.execBlkExch ifc c v s
  | .blkVpatch ifc c v => Sys2Proof.Machine.execBlkVpatch ifc c v s
  | .exchCopyDone c => Sys2Proof.Machine.execExchCopyDone c s
  | .ringFrameDepart => Sys2Proof.Machine.execRingFrameDepart s
  | .ringFrameReturn port f => Sys2Proof.Machine.execRingFrameReturn port f s
  | .ringCycleDeadline => Sys2Proof.Machine.execRingCycleDeadline s
  | .yulRestart ifc v => Sys2Proof.Machine.execYulRestart ifc v s
  | .yulStationOverride ifc stn v => Sys2Proof.Machine.execYulStationOverride ifc stn v s
  | .stationFrameRx port rx f => Sys2Proof.Machine.execStationFrameRx port rx f s
  | .stationApplyInstant => Sys2Proof.Machine.execStationApplyInstant s
  | .stationWatchdogExpiry => Sys2Proof.Machine.execStationWatchdogExpiry s
  | .shadowRingFrameRx port f => Sys2Proof.Machine.execShadowRingFrameRx port f s
  | .shadowBaseInstant => Sys2Proof.Machine.execShadowBaseInstant s
  | .gooseFrameRx port g raw bytes tag d => Sys2Proof.Machine.execGooseFrameRx port g raw bytes tag d s
  | .svFrameRx port f tag => Sys2Proof.Machine.execSvFrameRx port f tag s
  | .hostFrameRx port dst always raw bytes tag d => Sys2Proof.Machine.execHostFrameRx port dst always raw bytes tag d s
  | .hsrFrameForward port src bytes => Sys2Proof.Machine.execHsrFrameForward port src bytes s
  | .unmatchedFrameRx port tag => Sys2Proof.Machine.execUnmatchedFrameRx port tag s
  | .gooseTimeout k => Sys2Proof.Machine.execGooseTimeout k s
  | .gooseRetransmit k => Sys2Proof.Machine.execGooseRetransmit k s
  | .svPublish k => Sys2Proof.Machine.execSvPublish k s
  | .svSampleDeadline k => Sys2Proof.Machine.execSvSampleDeadline k s
  | .prpSupervisionTx => Sys2Proof.Machine.execPrpSupervisionTx s
  | .prpEntryForget => Sys2Proof.Machine.execPrpEntryForget s
  | .linkDown p => Sys2Proof.Machine.execLinkDown p s
  | .linkUp p => Sys2Proof.Machine.execLinkUp p s
  | .hostFrameTransmit d => Sys2Proof.Machine.execHostFrameTransmit d s
  | .eventIntake => Sys2Proof.Machine.execEventIntake s
  | .evtWindowStart => Sys2Proof.Machine.execEvtWindowStart s
  | .hostQueueRead ifc => Sys2Proof.Machine.execHostQueueRead ifc s
  | .soeRead ifc v => Sys2Proof.Machine.execSoeRead ifc v s
  | .soeDump ifc v => Sys2Proof.Machine.execSoeDump ifc v s
  | .soeDumpDone => Sys2Proof.Machine.execSoeDumpDone s
  | .soeArch0 ifc v => Sys2Proof.Machine.execSoeArch0 ifc v s
  | .dioPinTransition n zone => Sys2Proof.Machine.execDioPinTransition n zone s
  | .dioInputTick n => Sys2Proof.Machine.execDioInputTick n s
  | .dioFreqGateEnd n => Sys2Proof.Machine.execDioFreqGateEnd n s
  | .dioFreqTimeout n => Sys2Proof.Machine.execDioFreqTimeout n s
  | .fieldSupplyLow g mv => Sys2Proof.Machine.execFieldSupplyLow g mv s
  | .fieldSupplyRecover g => Sys2Proof.Machine.execFieldSupplyRecover g s
  | .fieldSupplyMissing g => Sys2Proof.Machine.execFieldSupplyMissing g s
  | .fieldSupplyRestoring g => Sys2Proof.Machine.execFieldSupplyRestoring g s
  | .restoreSlot g => Sys2Proof.Machine.execRestoreSlot g s
  | .fieldSupplyHigh g high => Sys2Proof.Machine.execFieldSupplyHigh g high s
  | .dioOverload n => Sys2Proof.Machine.execDioOverload n s
  | .dioOverloadRetry n persists => Sys2Proof.Machine.execDioOverloadRetry n persists s
  | .dioOpen n => Sys2Proof.Machine.execDioOpen n s
  | .dioOpenClear n => Sys2Proof.Machine.execDioOpenClear n s
  | .dioOvertemp n => Sys2Proof.Machine.execDioOvertemp n s
  | .dioOvertempClear n => Sys2Proof.Machine.execDioOvertempClear n s
  | .dioExtDrive n => Sys2Proof.Machine.execDioExtDrive n s
  | .dioExtDriveClear n => Sys2Proof.Machine.execDioExtDriveClear n s
  | .dioWatchdogExpiry g => Sys2Proof.Machine.execDioWatchdogExpiry g s
  | .dioKick ifc g v => Sys2Proof.Machine.execDioKick ifc g v s
  | .dioRearm ifc g v => Sys2Proof.Machine.execDioRearm ifc g v s
  | .aoReadback n ua mv deg => Sys2Proof.Machine.execAoReadback n ua mv deg s
  | .aoComplianceSet n => Sys2Proof.Machine.execAoComplianceSet n s
  | .aoComplianceAlarm n => Sys2Proof.Machine.execAoComplianceAlarm n s
  | .aoComplianceClear n => Sys2Proof.Machine.execAoComplianceClear n s
  | .aoThermalCut n deg => Sys2Proof.Machine.execAoThermalCut n deg s
  | .aoThermalFold n deg => Sys2Proof.Machine.execAoThermalFold n deg s
  | .aoThermalNormal n deg => Sys2Proof.Machine.execAoThermalNormal n deg s
  | .aoVaoLow low => Sys2Proof.Machine.execAoVaoLow low s
  | .aoWatchdogExpiry => Sys2Proof.Machine.execAoWatchdogExpiry s
  | .aoKick ifc v => Sys2Proof.Machine.execAoKick ifc v s
  | .aoRearm ifc v => Sys2Proof.Machine.execAoRearm ifc v s
  | .aoTrimControl ifc n v => Sys2Proof.Machine.execAoTrimControl ifc n v s
  | .aoTrimMeasure ifc n point v => Sys2Proof.Machine.execAoTrimMeasure ifc n point v s
  | .aoTrimApply ifc n v => Sys2Proof.Machine.execAoTrimApply ifc n v s
  | .vinGood => Sys2Proof.Machine.execVinGood s
  | .vinLost hold => Sys2Proof.Machine.execVinLost hold s
  | .staggerSlotStart u => Sys2Proof.Machine.execStaggerSlotStart u s
  | .unitReady id cal => Sys2Proof.Machine.execUnitReady id cal s
  | .unitStartFail id => Sys2Proof.Machine.execUnitStartFail id s
  | .unitEnableWrite ifc off v => Sys2Proof.Machine.execUnitEnableWrite ifc off v s
  | .unitStopComplete id => Sys2Proof.Machine.execUnitStopComplete id s
  | .unitStartAfterGap u => Sys2Proof.Machine.execUnitStartAfterGap u s
  | .resetNPulse lowUs => Sys2Proof.Machine.execResetNPulse lowUs s
  | .pwrWarm ifc v => Sys2Proof.Machine.execPwrWarm ifc v s
  | .pwrCold ifc v => Sys2Proof.Machine.execPwrCold ifc v s
  | .pwrStandby ifc v => Sys2Proof.Machine.execPwrStandby ifc v s
  | .warmResetBegin => Sys2Proof.Machine.execWarmResetBegin s
  | .warmResetDone => Sys2Proof.Machine.execWarmResetDone s
  | .governorSample hold => Sys2Proof.Machine.execGovernorSample hold s
  | .endSequenceComplete => Sys2Proof.Machine.execEndSequenceComplete s
  | .governorClockChange => Sys2Proof.Machine.execGovernorClockChange s
  | .rideThroughEnd => Sys2Proof.Machine.execRideThroughEnd s
  | .governorForceWrite ifc v => Sys2Proof.Machine.execGovernorForceWrite ifc v s
  | .wake => Sys2Proof.Machine.execWake s
  | .rtcSync => Sys2Proof.Machine.execRtcSync s
  | .vbatMeasure mv => Sys2Proof.Machine.execVbatMeasure mv s
  | .heartbeatTx => Sys2Proof.Machine.execHeartbeatTx s
  | .heartbeatRx h => Sys2Proof.Machine.execHeartbeatRx h s
  | .heartbeatLoss => Sys2Proof.Machine.execHeartbeatLoss s
  | .pairWaitTimeout => Sys2Proof.Machine.execPairWaitTimeout s
  | .transitTimeout => Sys2Proof.Machine.execTransitTimeout s
  | .wRefireRx slot stamp tr => Sys2Proof.Machine.execWRefireRx slot stamp tr s
  | .pairRefireStart => Sys2Proof.Machine.execPairRefireStart s
  | .wCompareRx tw values => Sys2Proof.Machine.execWCompareRx tw values s
  | .compareUnpaired => Sys2Proof.Machine.execCompareUnpaired s
  | .tripDisagreeWindow => Sys2Proof.Machine.execTripDisagreeWindow s
  | .wytRebase ifc v => Sys2Proof.Machine.execWytRebase ifc v s
  | .wUnknownFrameRx => Sys2Proof.Machine.execWUnknownFrameRx s
  | .spiTransaction hdr data complete => Sys2Proof.Machine.execSpiTransaction hdr data complete s
  | .bar2Write off bytes => Sys2Proof.Machine.execBar2Write off bytes s
  | .accessLevelRequest ifc v => Sys2Proof.Machine.execAccessLevelRequest ifc v s
  | .accessDrop ifc v => Sys2Proof.Machine.execAccessDrop ifc v s
  | .accessTimeout ifc => Sys2Proof.Machine.execAccessTimeout ifc s
  | .lockoutEnd ifc => Sys2Proof.Machine.execLockoutEnd ifc s
  | .veoiWrite ifc v => Sys2Proof.Machine.execVeoiWrite ifc v s
  | .msixMessageSend vec => Sys2Proof.Machine.execMsixMessageSend vec s
  | .dmaTailWrite ifc c v => Sys2Proof.Machine.execDmaTailWrite ifc c v s
  | .dmaDescriptorComplete c d => Sys2Proof.Machine.execDmaDescriptorComplete c d s
  | .dmaStop ifc c v => Sys2Proof.Machine.execDmaStop ifc c v s
  | .pcieHotReset => Sys2Proof.Machine.execPcieHotReset s
  | .trcEdgeRx => Sys2Proof.Machine.execTrcEdgeRx s
  | .holdSample hold vin => Sys2Proof.Machine.execHoldSample hold vin s

end Sys2Proof.Machine
end

