-- ==== Sys2Proof/Machine/Step.lean ====
section
/-!
DEFINITION. One step of the block: the command at the front of the queue takes effect; on an empty queue the fc ends:
the course engine ends it (R164, R173), and one fc of the module's own clock passes (R34, log 2 and 3).
-/
namespace Sys2Proof.Machine

/-- One step: the front command with the queue's rest, or one fc of time. -/
def step (s : State) : Host.Outcome State Fault Refusal :=
  match s.pending with
  | [] => .next s.fcEnd.tick.fcBegin
  | c :: rest => exec c { s with pending := rest }

/-- s with the command a table word spells in front of its queue: no word spells one. -/
def State.withFetchWord (s : State) (nbits w : Nat) : State :=
  match Sys2Proof.decodeTableWord nbits w with
  | some c => { s with pending := c :: s.pending }
  | none => s

end Sys2Proof.Machine
end

