-- ==== Sys2Proof/Safety.lean ====
section
/-!
DEFINITION. What claims about the module use: the step relation, the invariant of plain memories, the run of several commands.
-/
namespace Sys2Proof.Machine

/-- One step leads from s to t. -/
def Steps (s t : State) : Prop := step s = .next t

/-- DRAM and both image slots are in canonical form: addresses strictly rising, no byte listed at its default. -/
def State.memOk (s : State) : Bool := Mem.wf s.dram && Mem.wf s.kln.u0 && Mem.wf s.kln.u1

/-- The register file is in canonical form: offsets strictly rising, no register listed at its reset word. -/
def State.regsOk (s : State) : Bool := Sparse.rising s.regs && s.regs.all fun c => c.2 != resetWord c.1

/-- Every list of a fixed number of like things has that number of entries. -/
def State.shaped (s : State) : Bool :=
  decide (s.tbu.ports.length = 4 ∧ s.ang.cross.length = 16 ∧ s.evt.maxCls.length = 4 ∧ s.crs.slots.length = 192) &&
  decide (s.blk.core.length = 4 ∧ s.blk.store.length = 8 ∧ s.yul.stn.length = 64 ∧ s.grids.length = 16) &&
  decide (s.eth.gp.length = 32 ∧ s.eth.gs.length = 128 ∧ s.eth.svp.length = 8 ∧ s.eth.svs.length = 8 ∧ s.eth.ptx.length = 4) &&
  s.prt.fdr.all (fun x => x.elems.length == 24) && decide (s.prt.fdr.length = 12 ∧ s.prt.comp.length = 128 ∧ s.dio.ch.length = 32 ∧ s.dio.grp.length = 2) &&
  decide (s.ao.ch.length = 8 ∧ s.afe.length = 8 ∧ s.flt.ch.length = 64 ∧ s.flt.prof.length = 16) &&
  decide (s.acq.tu.length = 16 ∧ s.acq.cap.length = 8 ∧ s.acq.rd.length = 5) &&
  decide (s.mtr.work.length = 160 ∧ s.mtr.comm.length = 160 ∧ s.mtr.fdr.length = 12 ∧ s.mtr.run.length = 16) &&
  decide (s.pwr.parts.map (·.id) = partIds) &&
  decide (s.hst.acc.length = 2 ∧ s.hst.pw.length = 8 ∧ s.hst.msix.length = 128 ∧ s.hst.vlast.length = 32)

/-- The module is powered and its host interface takes commands in. -/
def State.ready (s : State) : Bool := s.hostUp && !s.pwr.unpowered

/-! ### What a claim says of two states -/

/-- Every register but those listed reads as before. -/
def State.regsKept (s : State) (ex : List Nat) (t : State) : Prop := ∀ o, o ∉ ex → t.rd o = s.rd o

/-- Every byte of DRAM and of both image slots reads as before. -/
def State.memKept (s t : State) : Prop :=
  ∀ a, Mem.rd t.dram a = Mem.rd s.dram a ∧ Mem.rd t.kln.u0 a = Mem.rd s.kln.u0 a ∧ Mem.rd t.kln.u1 a = Mem.rd s.kln.u1 a

/-- The host interface of s with what t has marked: bits that hardware set in this fc (R8), vectors that became pending (R655). -/
def State.marks (s t : State) : HstSt := { s.hst with setNow := t.hst.setNow, vpend := t.hst.vpend }

/-- No register of this fc has been written by a course or over SPI yet, which a host write would leave alone (R636). -/
def State.unwritten (s : State) : Bool := s.hst.wrNow.isEmpty

/-- The events raised between two states: source, code, class, value. -/
def State.news (s t : State) : List (Nat × Nat × Nat × Nat) :=
  (t.evt.raised.drop s.evt.raised.length).map fun r => (r.ev.src, r.ev.code, r.ev.cls, r.ev.value)

/-- The event buffer takes n more entries of classes 1–3 (R519). -/
def State.room (s : State) (n : Nat) : Bool := decide (s.waiting + n ≤ 4096)

/-- What the module put out between two states. -/
def State.sent (s t : State) : List TxItem := t.tx.drop s.tx.length

end Sys2Proof.Machine
end

