-- ==== Sys2Proof/Certificates/Slice0/Obligations.lean ====
section
/-!
DEFINITION. The statements for the provers, by chapter of the spec.  `State.regsKept`, `State.memKept`, `State.news`,
`State.sent` and `t = { s with … }` say what a command leaves alone.
-/
open Sys2Proof Sys2Proof.Machine

/-- R45–R48, R51–R53, R55.  The filter of a reference and the loop are opaque functions (log 12); `State.refNext` is the estimate of a reference after the update; the angle word is the upper 32 bits of the accumulator. -/
def Obligations.TrackerUpdatesPublishAndMove : Prop :=
  ∀ (s : State), s.ang.acc < 2 ^ 48 → s.trk ≠ trkStopped → s.flag Reg.ANG_STAT_SCHED_OK = decide (s.trk ≠ trkSearch) →
    (s.flag Reg.ANG_STAT_PULLING = true → s.trk = trkLocked) →
    (s.ang.acc / 2 ^ 44 ≠ s.ang.prev / 2 ^ 44 →
      (∃ t, exec (.trackerUpdate () ()) s = .next t ∧ t.rd Reg.ANG_TUP_0 = t.angle ∧ t.rd Reg.ANG_TUP_1 = s.ang.cycle % 2 ^ 32 ∧
        t.rd Reg.ANG_TUP_5 = t.rd Reg.ANG_FREQ ∧ t.trk ≠ trkStopped ∧
        t.flag Reg.ANG_STAT_SCHED_OK = decide (t.trk ≠ trkSearch) ∧ (t.flag Reg.ANG_STAT_PULLING = true → t.trk = trkLocked) ∧
        (s.flag Reg.ANG_STAT_STEPPED = true → t.ang.acc = s.ang.acc) ∧ t.ang.cycle = s.ang.cycle ∧
        (t.trk ≠ trkLocked → t.rd Reg.ANG_FREQ = s.nomFreq ∧ t.rd Reg.ANG_ROCOF = 0) ∧
        s.regsKept ([Reg.ANG_STAT, Reg.ANG_FREQ, Reg.ANG_ROCOF, Reg.ANG_PINC, Reg.UNIT_IRQ .ang] ++
          ((List.range 6).map fun k => Reg.ANG_TUP_0 + 4 * k) ++ (List.range 12).flatMap fun f =>
            [Reg.PRT_F_POW_ADV_CLOSE_0 f, Reg.PRT_F_POW_ADV_CLOSE_0 f + 4, Reg.PRT_F_POW_ADV_OPEN_0 f, Reg.PRT_F_POW_ADV_OPEN_0 f + 4]) t ∧
        t = { s with regs := t.regs, ang := t.ang, hst := t.hst }) ∧
      (s.trk = trkSearch → s.flag Reg.ANG_STAT_STEPPED = false → s.flag Reg.ANG_CTL_HOLD_FORCE = false →
        ∀ r, r = s.refNext false →
        ∃ t, exec (.trackerUpdate () ()) s = .next t ∧ (r.locks = true → t.trk = trkLocked ∧ t.ang.acc = r.phase * 2 ^ 16 ∧
          t.flag Reg.ANG_STAT_STEPPED = true ∧ t.flag Reg.ANG_STAT_ON_ALT = false ∧ t.flag ⟨Reg.UNIT_IRQ .ang, 0, 0⟩ = true ∧
          t.flag ⟨Reg.UNIT_IRQ .ang, 1, 1⟩ = true)) ∧
      (s.trk = trkLocked → s.flag Reg.ANG_STAT_ON_ALT = false → s.flag Reg.ANG_CTL_AUTO_ALT = false → s.refOk Reg.ANG_REF_PRI = false →
        ∃ t, exec (.trackerUpdate () ()) s = .next t ∧ t.trk = trkHold ∧ t.flag Reg.ANG_STAT_REF_LOST = true ∧
          t.flag Reg.ANG_STAT_PULLING = false ∧ t.flag ⟨Reg.UNIT_IRQ .ang, 2, 2⟩ = true)) ∧
    (∀ i : Iface, s.hostUp = true → s.unwritten = true → s.may i .operate = true →
      (∀ v : Word, v.toNat.testBit 8 = true → s.flag Reg.ANG_CTL_HOLD_FORCE = false →
        ∃ t, exec (.angHoldForceWrite i v) s = .next t ∧ t.flag Reg.ANG_CTL_HOLD_FORCE = true ∧
          t.trk = (if s.trk = trkLocked then trkHold else s.trk) ∧ t.ang.acc = s.ang.acc ∧ t.ang.pri.good = 0 ∧ t.ang.alt.good = 0 ∧
          (s.trk = trkLocked → t.rd Reg.ANG_FREQ = t.nomFreq) ∧ t = { s with regs := t.regs, ang := t.ang, hst := t.hst }) ∧
      (∀ (alt : Bool) (v : Word), ∀ off, off = (if alt then Reg.ANG_REF_ALT else Reg.ANG_REF_PRI) →
        ∃ t, exec (.angReferenceWrite i alt v) s = .next t ∧
          t.rd off = v.toNat % 64 + bits v.toNat 13 8 * 2 ^ 8 + bits v.toNat 21 16 * 2 ^ 16 +
            (if bits v.toNat 25 24 = 3 then bits (s.rd off) 25 24 else bits v.toNat 25 24) * 2 ^ 24 ∧
          (t.rd off ≠ s.rd off → s.trk = trkLocked → s.flag Reg.ANG_STAT_ON_ALT = alt →
            t.ang.pullDue = true ∧ t.flag ⟨Reg.UNIT_IRQ .ang, 3, 3⟩ = true) ∧
          t.ang.acc = s.ang.acc ∧ t.trk = s.trk ∧ s.regsKept [off, Reg.ANG_STAT, Reg.UNIT_IRQ .ang] t ∧
          t = { s with regs := t.regs, ang := t.ang, hst := t.hst }) ∧
      (∀ v : Word, ∃ t, exec (.angAltOfsWrite i v) s = .next t ∧ t.rd Reg.ANG_ALT_OFS = v.toNat ∧
        (t.rd Reg.ANG_ALT_OFS ≠ s.rd Reg.ANG_ALT_OFS → s.flag Reg.ANG_STAT_ON_ALT = true → t.ang.pullDue = true) ∧
        t.ang.acc = s.ang.acc ∧ s.regsKept [Reg.ANG_ALT_OFS] t ∧ t = { s with regs := t.regs, ang := t.ang, hst := t.hst })) ∧
    (∀ p : Nat, 0 < s.ang.tup.freq → ∀ d, d = toSigned 64 (ofSigned 64 ((p : Int) - s.ang.tup.pos)) →
      (d < 0 → s.twOfPos p ≤ s.ang.tup.tw) ∧
      (0 ≤ d → s.ang.tup.tw ≤ s.twOfPos p ∧
        (2 * ((s.twOfPos p : Int) - s.ang.tup.tw) * (256 * s.ang.tup.freq : Nat) - 2 * d * (1000000000 * 65536)).natAbs ≤
          256 * s.ang.tup.freq))

/-- R58–R60.  Capture takes the sample in; no register and no byte of memory changes. -/
def Obligations.GridSamplesStandForTheirCrossing : Prop :=
  ∀ (s : State), s.shaped = true → ∀ g, g < 16 → ∀ c, (s.ang.cross.getD g []).head? = some c → s.crossReady g c = true →
    ∃ t, exec (.gridSample g) s = .next t ∧ t.ang.cross.getD g [] = (s.ang.cross.getD g []).tail ∧
      (∃ x, (t.grids.getD g []).head? = some x ∧ x.k = c.k ∧ x.cycle = c.cycle ∧ x.tw = c.tw ∧ x.angle = c.k * 2 ^ 32 / s.gridN g ∧
        x.epoch = c.epoch ∧ x.trk = c.trk ∧ x.vals.map Prod.fst = s.gridChs g ++ s.gridStreams g ∧
        (∀ n, n ∈ s.gridChs g → s.dark n = false → (x.vals.find? fun v => v.1 == n).map (·.2.stale) = some
          ((((s.fch n).bOut.filter fun y => decide (y.1 ≤ c.inst)).take 4).any (·.2.stale) ||
            (((s.fch n).bOut.filter fun y => decide (c.inst < y.1)).reverse.take 4).any (·.2.stale)))) ∧
      (∀ j, j < 16 → j ≠ g → t.grids.getD j [] = s.grids.getD j []) ∧
      t = { s with ang := t.ang, grids := t.grids, acq := t.acq }

/-- R33, R36, R39, R41, R54; what left its unit some fc ago arrives (R27). That an empty queue ends the fc is the model's choice (log 3). -/
def Obligations.IdleStepIsOneFc : Prop :=
  ∀ (s : State), s.pending = [] →
    (s.pwr.unpowered = true → ∃ t, step s = .next t ∧ t = s) ∧
    (s.pwr.unpowered = false → ∃ t, step s = .next t ∧ t.tm.time = s.tm.time + s.incOf * s.tm.div ∧
      t.tm.runt = s.tm.runt + s.incOf * s.tm.div ∧ t.tm.fc = s.tm.fc + 1 ∧ t.tm.div = s.tm.div ∧ t.pending = [] ∧
      (s.trk = trkStopped → t.ang = s.ang) ∧
      (s.trk ≠ trkStopped → t.ang.acc = (s.ang.acc + s.rd Reg.ANG_PINC) % 2 ^ 48 ∧ t.ang.prev = s.ang.acc ∧
        t.ang.cycle = (if 0xFFFFF000 ≤ s.angle ∧ t.angle < 0x1000 then (s.ang.cycle + 1) % 2 ^ 32 else s.ang.cycle)) ∧
      t.hst.wrNow = [] ∧ s.memKept t ∧ t.kln = s.kln ∧ t.aud = s.aud ∧ t.variant = s.variant)

/-- R77, R78, R82, R84, R85, R89, R101, R681, R685. -/
def Obligations.ClockCommandsActOnTheTimeWord : Prop :=
  ∀ (s : State), s.shaped = true → s.room 250 = true → s.hostUp = true → s.unwritten = true → s.holdoverDue = false → ∀ i : Iface, s.may i .operate = true → ∀ v : Word,
    (∃ t, exec (.tbuIncWrite i v) s = .next t ∧
      (s.src ≠ 0 → t = { s with hst := t.hst }) ∧
      (s.src = 0 → t.rd Reg.TBU_INC_0 = v.toNat ∧ t.tm = { s.tm with inc := v.toNat + s.getF Reg.TBU_INC_1_INT * 2 ^ 32 } ∧
        s.regsKept [Reg.TBU_INC_0] t ∧ t = { s with regs := t.regs, tm := t.tm, hst := t.hst })) ∧
    (v.toNat % 8 < 2 → ∃ t, exec (.tbuStep i v) s = .next t ∧ t.tm.runt = s.tm.runt ∧
      (twBad (s.rd96 Reg.TBU_SET_0) = true → t.flag Reg.TBU_STAT_CMD_REJ = true ∧ t.tm = s.tm ∧ t.crs = s.crs) ∧
      (s.flag Reg.TBU_STAT_STEPPED = true → t.flag Reg.TBU_STAT_STEP_REJ = true ∧ t.tm = s.tm ∧ t.crs = s.crs) ∧
      (twBad (s.rd96 Reg.TBU_SET_0) = false → s.flag Reg.TBU_STAT_STEPPED = false → s.src = 0 →
        t.tm.time = s.setTw ∧ t.flag Reg.TBU_STAT_STEPPED = true ∧ (s.news t).any (fun e => e.2.1 == 0x0201 && e.2.2.1 == 1) = true ∧
        (s.setTw < s.tm.time → t.crs = s.crs) ∧
        (∀ n, n < 192 → (s.slot n).st = .pending → ∀ c, (s.slot n).sched = .time c → c ≤ t.tw → (s.slot n).policy = 0 →
          (t.slot n).st ≠ .pending))) ∧
    (s.level i = .engineer → v.toNat % 8 < 4 →
      (∃ t, exec (.tbuReepoch i (v &&& ~~~1#32)) s = .next t ∧ t.tm.runt = s.tm.runt ∧
        (twBad (s.rd96 Reg.TBU_SET_0) = true → t.flag Reg.TBU_STAT_CMD_REJ = true ∧ t.tm = s.tm) ∧
        (twBad (s.rd96 Reg.TBU_SET_0) = false → t.tm.time = s.setTw ∧ t.epoch = (s.epoch + 1) % 256 ∧
          (s.news t).getLast? = some (srcId 0x02 0, 0x0202, 0, nsDiff s.setTw s.tm.time % 2 ^ 64) ∧
          (∀ n, n < 192 → (s.slot n).st = .pending → ∀ c, (s.slot n).sched = .time c → (t.slot n).st ≠ .pending))) ∧
      (∃ t, exec (.tbuReepoch i (v ||| 1#32)) s = .next t ∧ t.flag Reg.TBU_STAT_CMD_REJ = true ∧
        s.regsKept [Reg.TBU_STAT] t ∧ t = { s with regs := t.regs, hst := t.hst })) ∧
    (v.toNat % 4 = 0 → ∃ t, exec (.tbuAsymAck i v) s = .next t ∧ t.flag Reg.TBU_STAT_ASYM_UNCERTAIN = false ∧
      (∀ p, p < 4 → t.flag (Reg.TBU_P_STAT_SUSPECT p) = false) ∧ t.tbu.slewAsym = false ∧ t.tm = s.tm ∧
      s.regsKept ([Reg.TBU_STAT, Reg.TBU_INC_0, Reg.TBU_INC_1] ++ (List.range 4).map Reg.TBU_P_STAT) t ∧ t = { s with regs := t.regs, tbu := t.tbu, hst := t.hst }) ∧
    (∃ t, exec (.tbuSrcWrite i v) s = .next t ∧ t.getF Reg.TBU_CTL_SRC = v.toNat % 4 ∧
      (v.toNat % 4 = 0 → s.src ≠ 0 → t.clk = clkFree ∧ t.tm.inc = s.tbu.rate) ∧
      (v.toNat % 4 ≠ 0 → v.toNat % 4 ≠ 3 → t.clk = s.clk ∧ t.tm = s.tm) ∧ t.tm.time = s.tm.time ∧
      t = { s with regs := t.regs, tm := t.tm, tbu := t.tbu, hst := t.hst }) ∧
    (∃ t, exec (.tbuProfWrite i v) s = .next t ∧ t.getF Reg.TBU_BMCA_0_PROF = v.toNat % 256 ∧
      (v.toNat % 256 = s.getF Reg.TBU_BMCA_0_PROF → t.rd Reg.TBU_BMCA_0 = v.toNat ∧
        s.regsKept ([Reg.TBU_BMCA_0, Reg.TBU_STAT, Reg.TBU_INC_0, Reg.TBU_INC_1] ++ (List.range 4).map Reg.TBU_P_STAT) t) ∧
      (∀ p, p < 3 → 0 < p → v.toNat % 256 = p → s.getF Reg.TBU_BMCA_0_PROF ≠ p →
        t.getF Reg.TBU_PTP_CTL_DOMAIN = (if p = 1 then 0 else 254) ∧ t.getF Reg.TBU_BMCA_0_PRIO1 = 128 ∧
        t.getF Reg.TBU_BMCA_0_PRIO2 = 128 ∧ t.rd Reg.TBU_PTP_INTV = 0x03000000 ∧
        (∀ q, q < 4 → t.flag (Reg.TBU_P_CTL_PDELAY q) = true)) ∧ t.rd Reg.TBU_BMCA_2 = s.rd Reg.TBU_BMCA_2 ∧
      t = { s with regs := t.regs, tbu := t.tbu, hst := t.hst })

/-- R86, R88, R90, R93, R100, R101.  `State.ptpPort` says which ports carry PTP; servo and filters are opaque (log 12). -/
def Obligations.PtpPortsAndHoldover : Prop :=
  ∀ (s : State), s.shaped = true → s.room 8 = true →
    (∀ p, p < 4 → s.ptpPort p = true →
      (∀ m : PtpMsg, ∃ t, exec (.ptpMessageRx p m) s = .next t ∧ t.tm.runt = s.tm.runt ∧
        (s.flag Reg.TBU_STAT_STEPPED = true → t.tm.time = s.tm.time ∧ t.crs = s.crs) ∧ s.memKept t ∧
        (s.ptpUnsupported m = true → t.getF (Reg.TBU_P_STAT_UNSUP p) = min (s.getF (Reg.TBU_P_STAT_UNSUP p) + 1) 65535 ∧
          s.regsKept [Reg.TBU_P_STAT p] t ∧ t = { s with regs := t.regs }) ∧
        (s.ptpUnsupported m = false → s.ptpTaken m = false → s.flag (Reg.TBU_P_CTL_P2P_TC p) = false → t = s)) ∧
      (∀ m : PtpMsg, ∀ w, w = { m with unicast := false, kind := .sync, twoStep := true, hdr := { m.hdr with
          domain := s.getF Reg.TBU_PTP_CTL_DOMAIN, clock := (s.pp p).sender / 2 ^ 16, port := (s.pp p).sender % 2 ^ 16,
          via := if s.flag Reg.TBU_PTP_CTL_UDP then .udp4 else .l2 } } →
        (s.pp p).slaved = true → s.getF Reg.TBU_CTL_SRC = 1 → s.getF Reg.TBU_STAT_FOLLOW = p →
        ∃ t, exec (.ptpMessageRx p w) s = .next t ∧ t.tbu.hoStart = s.tm.runt ∧
          (t.pp p).syncRx = some (m.seqId, s.ingress p m.raw, m.correction) ∧ t.regs = s.regs ∧ t.tm = s.tm) ∧
      (∀ k : PtpKind, (k = .sync ∨ k = .announce) → (s.pp p).st = .master → (s.pp p).sent = [] → s.txFree p 2 = true →
        ∃ t, exec (.ptpMessageTx p k) s = .next t ∧
          (t.ptx p).wait.length = (s.ptx p).wait.length + (if k = .sync ∧ s.flag (Reg.TBU_P_CTL_ONE_STEP p) = false then 2 else 1) ∧
          (t.pp p).sent = [(k, s.tm.runt, 0)] ∧ t = { s with tbu := t.tbu, eth := t.eth }) ∧
      (((s.pp p).best.isSome = true ∨ (s.pp p).st = .listening) → s.announceComes p = false →
        (s.pp p).bestAt + s.getF Reg.TBU_PTP_INTV_ANN_TMO * s.ptpPer .announce ≤ s.tm.runt →
        ∃ t, exec (.announceReceiptTimeout p) s = .next t ∧ (t.pp p).best = none ∧ (t.pp p).sender = 0 ∧ (t.pp p).slaved = false ∧
          t = { s with regs := t.regs, tbu := t.tbu })) ∧
    (∀ p, p < 4 → ∃ t, exec (.pathStableTimeout p) s = .next t ∧
      (∀ a, (s.pp p).shiftAt = some a → s.expired a s.stableNs = true → s.flag (Reg.TBU_P_STAT_SUSPECT p) = false →
        t.flag (Reg.TBU_P_STAT_PATH_SHIFT p) = false ∧ (t.pp p).shiftAt = none) ∧
      t.flag (Reg.TBU_P_STAT_SUSPECT p) = (s.flag (Reg.TBU_P_STAT_SUSPECT p) && !((s.pathOf p).isSome && s.expired (s.pp p).divBadAt s.stableNs)) ∧
      s.regsKept [Reg.TBU_STAT, Reg.TBU_INC_0, Reg.TBU_INC_1, Reg.TBU_P_STAT p] t ∧ t = { s with regs := t.regs, tbu := t.tbu }) ∧
    (s.on secTbu = true → s.clk = clkLocked → s.src ≠ 0 → s.tbu.hoStart + s.getF Reg.TBU_HO_T_N * s.syncPer ≤ s.tm.runt → s.syncComes = false →
      ∃ t, exec .holdoverEntryTimeout s = .next t ∧ t.clk = clkHold ∧ t.tbu.hoEntry = s.tm.runt ∧ t.tm = { s.tm with inc := s.tbu.rate } ∧
        t.flag ⟨Reg.UNIT_IRQ .tbu, 1, 1⟩ = true ∧
        s.regsKept ([Reg.TBU_STAT, Reg.TBU_INC_0, Reg.TBU_INC_1, Reg.UNIT_IRQ .tbu] ++ (List.range 4).map Reg.TBU_P_STAT) t ∧
        t = { s with regs := t.regs, tm := t.tm, tbu := t.tbu, hst := t.hst })

/-- R104, R107–R109. -/
def Obligations.PpsAndTransmitStamps : Prop :=
  ∀ (s : State), s.shaped = true →
    (s.on secTbu = true → s.tbu.ppsHigh = false →
      s.tm.reach + s.rd Reg.TBU_PPS_OUT_CMP * 2 ^ 24 ≤ (s.tm.time + s.rd Reg.TBU_PPS_OUT_CMP * 2 ^ 24) / sec32 * sec32 →
      ((2 ≤ s.clk ∨ s.flag Reg.TBU_PPS_CTL_FREE = true) → ∃ t, exec .ppsOutPulse s = .next t ∧ t.tbu.ppsHigh = true ∧
        t.tbu.ppsRise = s.tm.runt ∧ s.sent t = [.ppsOut true] ∧ t = { s with tbu := t.tbu, tx := t.tx }) ∧
      (s.clk < 2 → s.flag Reg.TBU_PPS_CTL_FREE = false → ∃ t, exec .ppsOutPulse s = .next t ∧ t = s)) ∧
    (s.tbu.ppsHigh = true → s.expired s.tbu.ppsRise (s.getF Reg.TBU_PPS_CTL_WIDTH * 1000000) = true →
      ∃ t, exec .ppsOutWidthEnd s = .next t ∧ t.tbu.ppsHigh = false ∧ s.sent t = [.ppsOut false] ∧ t = { s with tbu := t.tbu, tx := t.tx }) ∧
    (s.on secTbu = false → ∃ t, exec .ppsInEdge s = .next t ∧ t = s) ∧
    (s.on secTbu = true → s.src = 0 → s.rd Reg.TBU_PPS_IN_CMP * 256 ≤ s.tw →
      ∃ t, exec .ppsInEdge s = .next t ∧ twUnpack (t.rd96 Reg.TBU_PPS_IN_TS_0) = (s.tw - s.rd Reg.TBU_PPS_IN_CMP * 256) % (2 ^ 48 * sec16) ∧
        t.flag Reg.TBU_STAT_PPS_SEEN = true ∧
        s.regsKept [Reg.TBU_STAT, Reg.TBU_PPS_IN_TS_0, Reg.TBU_PPS_IN_TS_0 + 4, Reg.TBU_PPS_IN_TS_0 + 8] t ∧ t = { s with regs := t.regs, hst := s.marks t }) ∧
    (∀ i : Iface, s.hostUp = true → s.pwr.warmBusy = false → ∀ p, p < 4 →
      ((s.pp p).txq = [] → ∃ t, exec (.txqIdRead i p) s = .next t ∧ s.sent t = [.readData i (Reg.TBU_P_TXQ_ID p) 0xFFFFFFFF] ∧
        t = { s with hst := t.hst, tx := t.tx }) ∧
      (∀ e, (s.pp p).txq.head? = some e → ∃ t, exec (.txqIdRead i p) s = .next t ∧ (t.pp p).txq = (s.pp p).txq.tail ∧
        s.sent t = [.readData i (Reg.TBU_P_TXQ_ID p) e.id] ∧
        t.snapOf i (Reg.TBU_P_TXQ_ID p) = some (e.id :: (wordsOf (leBytes 12 (twPack e.tw)) ++ [e.epoch])) ∧
        t = { s with tbu := t.tbu, hst := t.hst, tx := t.tx }))

/-- R138.  LAST_OP and the interrupt ERR are part of the report (R146, R148). -/
def Obligations.KilnTakesOneOperationAtATime : Prop :=
  ∀ (s : State), ∀ i : Iface, s.hostUp = true → s.level i = .engineer → ∀ v : Word,
    (s.flag Reg.KLN_STAT_BUSY = true →
      ∀ c, c ∈ [Instr.klnStore i v, .klnRefire i v, .klnJclear i v, .klnRevoke i v, .klnInvalidate i v] →
        ∃ t, exec c s = .next t ∧ t.getF Reg.KLN_STAT_LAST_ERR = 0x30 ∧ t.getF Reg.KLN_ERR_CODE = 0x30 ∧
          t.flag Reg.KLN_STAT_BUSY = true ∧ t.kln = s.kln ∧ s.regsKept [Reg.KLN_STAT, Reg.KLN_ERR, Reg.UNIT_IRQ .kln] t ∧
          t = { s with regs := t.regs, hst := t.hst }) ∧
    (s.flag Reg.KLN_STAT_BUSY = false → ∀ c, c ∈ [Instr.klnStore i v, .klnRefire i v] →
      ∃ t, exec c s = .next t ∧ (t.flag Reg.KLN_STAT_BUSY = true ∨ 0 < t.getF Reg.KLN_STAT_LAST_ERR) ∧
        (t.kln.op ≠ s.kln.op → t.flag Reg.KLN_STAT_BUSY = true))

/-- R126, R127, R129, R145, R147.  Which bytes fail step 1 is the choice of the magic number. -/
def Obligations.KilnSlotsChangeOnlyAsCommanded : Prop :=
  ∀ (s : State),
    (∀ i : Iface, s.hostUp = true → s.level i = .engineer → s.flag Reg.KLN_STAT_BUSY = false →
      (∀ u, u < 2 → ∀ n, n = s.rd Reg.KLN_SRC_LEN → ∀ a, a = s.rd Reg.KLN_SRC_ADDR → n % 16 = 0 → n ≤ slotMax → a + n ≤ s.dramSize →
        ∀ e, e = (s.judge (s.dramRd a n)).1 → ∃ t, exec (.klnStore i (BitVec.ofNat 32 (16 * u))) s = .next t ∧ t.dram = s.dram ∧
          (e = 0 → t.kln.op = some (.store u) ∧ t.flag Reg.KLN_STAT_BUSY = true ∧ t.kln.staged = (s.dramRd a n).take (imgLen (s.dramRd a n)) ∧
            (∀ k, k < 4 → Mem.rd (t.slotMem u) k = 0) ∧ (∀ k, 4 ≤ k → Mem.rd (t.slotMem u) k = Mem.rd (s.slotMem u) k) ∧
            t.slotMem (1 - u) = s.slotMem (1 - u)) ∧
          (e ≠ 0 → t.getF Reg.KLN_STAT_LAST_ERR = e % 256 ∧ t.kln = s.kln)) ∧
      (∀ u, u < 4 → ∃ t, exec (.klnInvalidate i (BitVec.ofNat 32 (16 * u))) s = .next t ∧ t.dram = s.dram ∧
        (u < 2 → (∀ k, k < 4 → Mem.rd (t.slotMem u) k = 0) ∧ (∀ k, 4 ≤ k → Mem.rd (t.slotMem u) k = Mem.rd (s.slotMem u) k) ∧
          t.slotMem (1 - u) = s.slotMem (1 - u) ∧ s.regsKept [Reg.KLN_STAT] t) ∧
        (2 ≤ u → t.getF Reg.KLN_STAT_LAST_ERR = 0x38 ∧ t.kln = s.kln)) ∧
      (∀ v : Word, (s.kln.journal.any fun e => e.cls == 2) = false →
        ∃ t, exec (.klnJclear i v) s = .next t ∧ t.kln = { s.kln with journal := [] } ∧ t.dram = s.dram) ∧
      (∀ k, k < 4 → s.sealOpen = true → (s.getF Reg.KLN_STAT_FIRED < 3 → k ≠ s.kln.firedKey) →
        ∃ t, exec (.klnRevoke i (BitVec.ofNat 32 (256 * k))) s = .next t ∧ t.kln = { s.kln with otpRev := s.kln.otpRev ||| 2 ^ k } ∧
          (s.kln.otpRev < 16 → t.getF Reg.KLN_OTP_STAT_REVOKED = s.kln.otpRev ||| 2 ^ k) ∧ s.regsKept [Reg.KLN_STAT, Reg.KLN_OTP_STAT] t) ∧
      (∀ k, k < 4 → s.sealOpen = false →
        ∃ t, exec (.klnRevoke i (BitVec.ofNat 32 (256 * k))) s = .next t ∧ t.kln = s.kln ∧ t.getF Reg.KLN_STAT_LAST_ERR = 0x32)) ∧
    (∀ u, u < 2 → s.kln.op = some (.store u) → ∃ t, exec .klnStoreDone s = .next t ∧ t.kln.op = none ∧ t.flag Reg.KLN_STAT_BUSY = false ∧
      t.flag ⟨Reg.UNIT_IRQ .kln, 0, 0⟩ = true ∧ Mem.rdN (t.slotMem u) 0 s.kln.staged.length = s.kln.staged ∧
      (∀ k, s.kln.staged.length ≤ k → Mem.rd (t.slotMem u) k = Mem.rd (s.slotMem u) k) ∧ t.slotMem (1 - u) = s.slotMem (1 - u) ∧
      s.regsKept [Reg.KLN_STAT, Reg.UNIT_IRQ .kln] t ∧ t = { s with regs := t.regs, kln := t.kln, hst := t.hst })

/-- R130–R133, R147; a refused refire of F has an open code (log 17). -/
def Obligations.RefireFiresTheSlot : Prop :=
  ∀ (s : State), s.shaped = true → s.room 400 = true →
    (∀ i : Iface, s.hostUp = true → s.level i = .engineer → s.flag Reg.KLN_STAT_BUSY = false → ∀ u, u < 4 →
      ∃ t, exec (.klnRefire i (BitVec.ofNat 32 (16 * u))) s = .next t ∧
        ((u = 3 ∨ u < 2 ∧ Sys2Proof.Machine.step1 1 slotMax (s.slotImage u) ≠ 0) → t.getF Reg.KLN_STAT_LAST_ERR = 0x35 ∧ t.kln = s.kln) ∧
        ((u = 2 ∨ u < 2 ∧ Sys2Proof.Machine.step1 1 slotMax (s.slotImage u) = 0) → t.kln = { s.kln with op := some (.refire u (ifcNum i) 2) } ∧
          t.flag Reg.KLN_STAT_BUSY = true ∧ t.flag Reg.KLN_STAT_REFIRING = true ∧ s.regsKept [Reg.KLN_STAT] t ∧
          t = { s with regs := t.regs, kln := t.kln, hst := t.hst })) ∧
    (∀ u, u < 3 → s.kln.op = some (.refire u 0 2) → s.kln.refiring = [] → s.paired = false → s.refireWaits = false →
      ∃ t, exec .refireAccepted s = .next t ∧ s.memKept t ∧
        ((s.refireJudge u).1 ≠ 0 → t.kln = { s.kln with op := none } ∧ t.flag Reg.KLN_STAT_BUSY = false ∧
          t.getF Reg.KLN_STAT_LAST_ERR = (s.refireJudge u).1 % 256 ∧ t.pwr = s.pwr ∧ t.crs = s.crs) ∧
        ((s.refireJudge u).1 = 0 → t.kln.secs.map (·.id) = (s.refireJudge u).2.map (·.id) ∧
          t.kln.secs.map (·.digest) = (s.refireJudge u).2.map (·.digest) ∧
          (changedIds s.kln.secs (s.refireJudge u).2 = [] → t.getF Reg.KLN_STAT_FIRED = u ∧ t.kln.fired = u ∧
            t.flag Reg.KLN_STAT_BUSY = false ∧ t.kln.op = none ∧ t.pwr = s.pwr)))

/-- R140, R141, R143, R145.  State.patchErr is the check of one entry; the error after a refusal of the course is open (log 17). -/
def Obligations.PatchJudgesEveryEntry : Prop :=
  ∀ (s : State), s.shaped = true → ∀ i : Iface, s.hostUp = true → s.may i .operate = true → ∀ v : Word,
    ∀ n, n = s.getF Reg.KLN_PATCH_CTL_COUNT →
    ((n = 0 ∨ 32 < n) → ∃ t, exec (.klnPatch i v) s = .next t ∧ t.getF Reg.KLN_PATCH_STAT_ERR = 0x42 ∧
      t.getF Reg.KLN_PATCH_STAT_COURSE = 0xFF ∧ t.crs = s.crs ∧ t.kln = s.kln ∧ t = { s with regs := t.regs, hst := t.hst }) ∧
    (0 < n → n ≤ 32 → ∀ k, (s.patchEntries n).findIdx? (fun e => s.patchErr i e != 0) = some k →
      ∃ t, exec (.klnPatch i v) s = .next t ∧ t.getF Reg.KLN_PATCH_STAT_ERR = s.patchErr i ((s.patchEntries n).getD k (0, 0)) ∧
        t.getF Reg.KLN_PATCH_STAT_ENTRY = k ∧ t.crs = s.crs ∧ t.kln = s.kln ∧
        s.regsKept [Reg.KLN_STAT, Reg.KLN_PATCH_STAT, Reg.UNIT_IRQ .kln] t ∧ t = { s with regs := t.regs, hst := t.hst }) ∧
    (0 < n → n ≤ 32 → (s.patchEntries n).all (fun e => s.patchErr i e == 0) = true → s.kln.journal = [] → s.copiesOnly 8 = false →
      (s.patchEntries n).all (fun e => ((s.patchDesc (e.1 / 65536) (e.1 % 4096)).map (·.cls)).getD 0 != 2) = true →
      ∀ r, r = reqOf 8 s.patchSched (s.getF Reg.KLN_PATCH_CTL_LATE) ((s.patchEntries n).map fun e => ⟨10 * 2 ^ 28, e.1 / 65536 * 65536 + e.1 % 4096, e.2⟩) .none →
      s.patchSched = .immediate → s.refusal r = 0 → (s.slot 0).st = .free → s.paired = false →
      ∃ t, exec (.klnPatch i v) s = .next t ∧ t.getF Reg.KLN_PATCH_STAT_ERR = 0 ∧ t.getF Reg.KLN_PATCH_STAT_COURSE = 0 ∧
        (t.slot 0).st = .pending ∧ (t.slot 0).port = 8 ∧ (t.slot 0).acts = r.acts ∧
        (((s.patchEntries n).map Prod.fst).Nodup → t.kln.journal.map (fun j => (j.secId * 65536 + j.vidx, j.value)) =
          (s.patchEntries n).map fun e => (e.1 / 65536 * 65536 + e.1 % 4096, e.2)) ∧
        (t.kln.journal.all fun j => j.pending && j.level == (s.level i).num) = true)

/-- R150, R152, R159, R164, R184.  That the end of the fc is the step on an empty queue is the choice of log 3. -/
def Obligations.ArmSubmitsTheStagedCourse : Prop :=
  ∀ (s : State), s.shaped = true →
    (∀ i : Iface, s.hostUp = true → s.crs.arms = [] → ∀ v : Word, v.toNat.testBit 1 = false →
      ∃ t, exec (.crsArm i v) s = .next t ∧ t.flag Reg.CRS_RES_DONE = false ∧ t.crs = { s.crs with arms := [⟨i, s.may i .operate, s.tm.fc⟩] } ∧
        s.regsKept [Reg.CRS_RES] t ∧ t = { s with regs := t.regs, crs := t.crs, hst := t.hst }) ∧
    (∀ r, s.crs.arms.head? = some r → s.crs.arms.length = 1 → s.pending = [] → s.pwr.unpowered = false → s.paired = false →
      s.crs.decisions = [] → s.prt.jobs = [] → (s.prt.comp.all fun x => x.rise.isNone) = true →
      (r.ok = false → ∃ t, step s = .next t ∧ t.getF Reg.CRS_RES_STATUS = 0x14 ∧ t.getF Reg.CRS_RES_COURSE = 0xFF ∧
        t.flag Reg.CRS_RES_DONE = true ∧ t.crs = { s.crs with arms := [] } ∧
        (∀ k, k < 0x1000 → 0x60000 + 4 * k ≠ Reg.CRS_RES → t.rd (0x60000 + 4 * k) = s.rd (0x60000 + 4 * k))) ∧
      (r.ok = true → s.refusal s.staged ≠ 0 → ∃ t, step s = .next t ∧ t.getF Reg.CRS_RES_STATUS = s.refusal s.staged % 256 ∧
        t.getF Reg.CRS_RES_COURSE = 0xFF ∧ t.flag Reg.CRS_RES_DONE = true ∧ t.crs = { s.crs with arms := [] } ∧
        (s.inFlight = 192 → t.getF Reg.CRS_RES_STATUS = 0x10) ∧
        (s.inFlight < 192 → s.getF (Reg.CRS_PORT_QUOTA 0) ≤ s.inUse 0 → t.getF Reg.CRS_RES_STATUS = 0x11)) ∧
      (r.ok = true → s.refusal s.staged = 0 → ∀ q, s.lateRule s.staged = some q →
        ∀ n, (s.crs.slots.findIdx? fun c => c.st == .free) = some n →
        ∃ t, step s = .next t ∧ t.getF Reg.CRS_RES_COURSE = n ∧ t.getF Reg.CRS_RES_GEN = ((s.slot n).gen + 1) % 256 ∧
          t.flag Reg.CRS_RES_DONE = true ∧ (t.slot n).acts = s.staged.acts ∧ (t.slot n).sched = q.1 ∧ (t.slot n).seq = s.crs.nextSeq ∧
          t.crs.nextSeq = (s.crs.nextSeq + 1) % 2 ^ 32 ∧ (t.slot n).port = 0 ∧
          (∀ m, m < 192 → m ≠ n → t.slot m = s.slot m) ∧
          (s.actsErr 0 s.staged.acts = none → (t.slot n).st = .pending ∧ t.getF Reg.CRS_RES_STATUS = 1) ∧
          (∀ e, s.actsErr 0 s.staged.acts = some e → (t.slot n).st = .discarded ∧ (t.slot n).status = e.1 ∧ (t.slot n).act = e.2 ∧
            t.getF Reg.CRS_RES_STATUS = e.1 % 256)))

/-- R151, R157, R159, R168, R178, R184, for courses of one action without a mirror. -/
def Obligations.CoursesSetOrAreDiscarded : Prop :=
  ∀ (s : State), s.shaped = true → s.room 4 = true → ∀ n, n < 192 → (s.slot n).mirror = .no → (s.slot n).tag = .none → (s.slot n).srcId = 0 →
    (s.courseDue (s.slot n) = false → ∃ t, exec (.courseSet n) s = .next t ∧ t = s) ∧
    (s.courseDue (s.slot n) = true → (s.slot n).rset = false →
      ((s.slot n).st = .committed ∨ s.actsErr (s.slot n).port (s.slot n).acts = none) →
      ∃ t, exec (.courseSet n) s = .next t ∧ (t.slot n).st = .set ∧ (t.slot n).status = (if (s.slot n).lateFlag then 4 else 3) ∧
        (t.slot n).recTw = s.tw ∧ (t.slot n).recAngle = s.angle ∧ (t.slot n).recCycle = s.ang.cycle ∧ (t.slot n).setFc = s.tm.fc ∧
        (∀ m, m < 192 → m ≠ n → (s.slot m).st = .free → t.slot m = s.slot m) ∧
        (∀ a, (s.slot n).acts.head? = some a → (s.slot n).acts.length = 1 → a.ty = 7 → (s.news t).head? = some (a.tgt % 65536, a.w2 % 65536, bits a.w2 17 16, a.w1 % 2 ^ 64)) ∧
        (∀ a, (s.slot n).acts.head? = some a → (s.slot n).acts.length = 1 → a.ty = 5 → s.crs.writesFc ≠ s.tm.fc → t.getF (Reg.PRT_F_SG_SG a.tgt) = (a.w2 % 2 ^ 32 - 1) % 4)) ∧
    (s.courseDue (s.slot n) = true → (s.slot n).st = .pending →
      ∀ e, s.actsErr (s.slot n).port (s.slot n).acts = some e →
      ∃ t, exec (.courseSet n) s = .next t ∧ (t.slot n).st = .discarded ∧ (t.slot n).status = e.1 ∧ (t.slot n).act = e.2 ∧
        (∀ m, m < 192 → m ≠ n → t.slot m = s.slot m) ∧
        s.news t = (if (s.slot n).evt then [(crsSrc, 0x0603, 3, (n + (s.slot n).gen * 2 ^ 8 + e.1 * 2 ^ 16) % 2 ^ 64)] else []) ∧
        s.regsKept [Reg.UNIT_IRQ .crs] t ∧ t = { s with regs := t.regs, evt := t.evt, crs := t.crs, hst := t.hst }) ∧
    (∀ d, (s.slot n).deadline = some d → d ≤ s.tm.runt → (s.slot n).st = .pending → s.courseDue (s.slot n) = false →
      ∃ t, exec (.courseDeadline n) s = .next t ∧ (t.slot n).st = .discarded ∧ (t.slot n).status = 0x25 ∧
        (∀ m, m < 192 → m ≠ n → t.slot m = s.slot m) ∧ s.regsKept [Reg.UNIT_IRQ .crs] t ∧
        t = { s with regs := t.regs, evt := t.evt, crs := t.crs, hst := t.hst }) ∧
    ((s.slot n).setFc < s.tm.fc → ((s.slot n).st = .set ∨ (s.slot n).st = .discarded) →
      ∃ t, exec (.courseSlotRelease n) s = .next t ∧ t.slot n = { s.slot n with st := .free } ∧
        (∀ m, m < 192 → m ≠ n → t.slot m = s.slot m) ∧ t = { s with crs := t.crs })

/-- R169. -/
def Obligations.AbortDiscardsAPendingHostCourse : Prop :=
  ∀ (s : State), s.shaped = true → s.room 1 = true → ∀ n, n < 192 → ∀ i : Iface, s.hostUp = true → s.may i .operate = true →
    ∀ v, v = BitVec.ofNat 32 (256 * n + 2) →
    ((s.slot n).st = .pending → (s.slot n).port = 0 → s.courseDue (s.slot n) = false → (s.slot n).tag = .none →
      ∃ t, exec (.crsAbort i v) s = .next t ∧ (t.slot n).st = .discarded ∧ (t.slot n).status = (if (s.slot n).deadline.any (fun x => decide (x ≤ s.tm.runt)) then stDeadline else 0x26) ∧
        (∀ m, m < 192 → m ≠ n → t.slot m = s.slot m) ∧ s.regsKept [Reg.UNIT_IRQ .crs] t ∧
        t = { s with regs := t.regs, evt := t.evt, crs := t.crs, hst := t.hst }) ∧
    (((s.slot n).st ≠ .pending ∨ (s.slot n).port ≠ 0 ∨ s.courseDue (s.slot n) = true) →
      ∃ t, exec (.crsAbort i v) s = .next t ∧ t = { s with hst := t.hst })

/-- R135, R173, R174, R320, R327.  `State.decisionErr` is the result of the check; a sentinel tile reports its decision whatever becomes of the course (R318). -/
def Obligations.StandingCoursesSetAndRearm : Prop :=
  ∀ (s : State), s.shaped = true → s.room 8 = true → ∀ n, n < 192 → (s.slot n).srcId ≠ 0 →
    (∀ d, (s.crs.decisions.find? fun d => d.src == (s.slot n).srcId && decide (d.due ≤ s.tm.fc)) = some d →
      (s.slot n).st = .standing →
      ((s.slot n).port = 5 → s.flag (Reg.PRT_F_STAT_REFIRE ((s.slot n).srcId % 256)) = true →
        ∃ t, exec (.standingCourseSet n) s = .next t ∧ t.crs = { s.crs with decisions := s.crs.decisions.filter fun x => x != d } ∧
          t = { s with crs := t.crs }) ∧
      (((s.slot n).port ≠ 5 ∨ s.flag (Reg.PRT_F_STAT_REFIRE ((s.slot n).srcId % 256)) = false) →
        (s.decisionErr n d = none →
          ∃ t, exec (.standingCourseSet n) s = .next t ∧ (t.slot n).st = .set ∧ (∀ q, d.seq = some q → (t.slot n).seq = q) ∧ (t.slot n).status = 3 ∧
            (t.slot n).recTw = s.tw ∧ (t.slot n).setFc = s.tm.fc ∧ (t.crs.decisions.contains d) = false) ∧
        (∀ e, s.decisionErr n d = some e →
          ∃ t, exec (.standingCourseSet n) s = .next t ∧ t.slot n = s.slot n ∧
            s.news t = [((s.slot n).srcId, 0x0601, 0, (n + e * 2 ^ 8) % 2 ^ 64)] ∧ t.flag ⟨Reg.UNIT_IRQ .crs, 5, 5⟩ = true ∧
            s.regsKept (Reg.UNIT_IRQ .crs :: (if (s.slot n).port = 5 then [] else (List.range 5).map fun k =>
              Reg.PRT_S_CNT ((s.slot n).srcId % 256 - 0x40) + 4 * k)) t ∧ t = { s with regs := t.regs, evt := t.evt, crs := t.crs, hst := t.hst }))) ∧
    ((s.slot n).st = .set → (s.slot n).setFc < s.tm.fc →
      ∃ t, exec (.standingCourseRearm n) s = .next t ∧ (t.slot n).st = .standing ∧ (t.slot n).acts = (s.slot n).acts ∧
        (∀ m, m < 192 → m ≠ n → t.slot m = s.slot m) ∧ t = { s with crs := t.crs })

/-- R180, R181, R612, R623.  The value of MIRROR_DIVERGE is open (log 17). -/
def Obligations.MirroredCoursesFollowThePartner : Prop :=
  ∀ (s : State), s.shaped = true → s.room 8 = true →
    ((s.wUp = false ∨ s.paired = false ∨ s.role ≠ 2) → ∀ c : CourseCopy, ∃ t, exec (.wCopyRx c) s = .next t ∧ t = s) ∧
    (s.wUp = true → s.paired = true → s.role = 2 → ∀ c : CourseCopy, ∀ r, r = copyReq c →
      ∃ t, exec (.wCopyRx c) s = .next t ∧ (s.sent t).length = 1 ∧ t.tm = s.tm ∧ s.memKept t ∧
        (r.bad = false → s.copyErr r = true → s.sent t = [.wFrame s.wyt.frames (.answer c.seq stCheck)] ∧ t.crs = s.crs ∧ t.kln = s.kln) ∧
        (r.bad = true → s.inFlight < 192 → s.inUse 10 < s.getF (Reg.CRS_PORT_QUOTA 10) →
          s.sent t = [.wFrame s.wyt.frames (.answer c.seq stFormat)] ∧ t.crs = s.crs) ∧
        (r.tag = .none → s.sent t = [.wFrame s.wyt.frames (.answer c.seq (s.submit r).2.1)] ∧ t.crs = (s.submit r).1.crs)) ∧
    (s.wUp = true → ∀ seq : Nat,
      (∀ n, (s.slotOfSeq fun x => x.st == .pending && x.mirror == .waiting && x.seq == seq) = some n →
        (∃ t, exec (.wAnswerRx seq 1) s = .next t ∧ t.slot n = { s.slot n with mirror := .accepted } ∧
          (∀ m, m < 192 → m ≠ n → t.slot m = s.slot m) ∧ t = { s with crs := t.crs }) ∧
        (∀ a : Nat, a ≠ 1 → ∃ t, exec (.wAnswerRx seq a) s = .next t ∧ (t.slot n).st = .discarded ∧ (t.slot n).status = 0x28 ∧
          s.sent t = [.wFrame s.wyt.frames (.cancel seq)] ∧
          t.getF Reg.CRS_MIR_STAT_PAIR = min (s.getF Reg.CRS_MIR_STAT_PAIR + 1) 65535 ∧
          (∀ m, m < 192 → m ≠ n → t.slot m = s.slot m))) ∧
      ((s.slotOfSeq fun x => x.st == .pending && x.mirror == .waiting && x.seq == seq) = none →
        ∀ a : Nat, ∃ t, exec (.wAnswerRx seq a) s = .next t ∧ t = s) ∧
      (∀ n, (s.slotOfSeq fun x => x.st == .pending && x.mirror == .copy && x.mirSeq == seq) = some n →
        ∃ t, exec (.wCancelRx seq) s = .next t ∧ (t.slot n).st = .discarded ∧ (t.slot n).status = 0x28 ∧
          (∀ m, m < 192 → m ≠ n → t.slot m = s.slot m) ∧ s.sent t = []) ∧
      ((s.slotOfSeq fun x => x.st == .pending && x.mirror == .copy && x.mirSeq == seq) = none →
        ∃ t, exec (.wCancelRx seq) s = .next t ∧ t = s) ∧
      (∀ a : Nat, ∃ t, exec (.wOutcomeRx seq a) s = .next t ∧
        (∀ n, (s.slotOfSeq fun x => (x.st == .pending || x.st == .committed) && x.mirror == .accepted && x.seq == seq) = some n →
          t.slot n = { s.slot n with outcome := some a } ∧ (∀ m, m < 192 → m ≠ n → t.slot m = s.slot m) ∧ t = { s with crs := t.crs }) ∧
        ((s.slotOfSeq fun x => (x.st == .pending || x.st == .committed) && x.mirror == .accepted && x.seq == seq) = none →
          t.crs = { s.crs with told := s.crs.told.filter fun x => x.1 != seq } ∧
          (∀ o, (s.crs.told.find? fun x => x.1 == seq) = some o →
            (sameOutcome a o.2 = true → t = { s with crs := t.crs }) ∧
            (sameOutcome a o.2 = false → t.getF Reg.CRS_MIR_STAT_DIVERGE = min (s.getF Reg.CRS_MIR_STAT_DIVERGE + 1) 65535 ∧
              (s.news t).map (fun e => (e.1, e.2.1, e.2.2.1)) = [(crsSrc, 0x0602, 1)]))))) ∧
    (∀ n, n < 192 → (s.slot n).st = .pending → (s.slot n).mirror = .waiting → s.instant (s.slot n) = true → s.pending = [] → s.wUp = true →
      ∃ t, exec (.mirrorAnswerTimeout n) s = .next t ∧ (t.slot n).st = .discarded ∧ (t.slot n).status = 0x28 ∧
        s.sent t = [.wFrame s.wyt.frames (.cancel (s.slot n).seq)] ∧ (∀ m, m < 192 → m ≠ n → t.slot m = s.slot m))

/-- R137, R190–R198, R218, R226, in the functions `State.coded` (R190, R210), `State.outSample` (R191, R192) and `fuse` (R197). -/
def Obligations.ConversionsGiveSampleWords : Prop :=
  ∀ (s : State), s.shaped = true → ∀ n, n < 64 → ∀ g, g = n / 8 → ∀ c, c = n % 8 →
    (∀ (rA rB rS age : Nat) (half : Bool), s.on (secAfe g) = false →
      ∃ t, exec (.converterResult n rA rB rS half age) s = .next t ∧
        ((s.part (secAfe g)).any (·.refire) = false → t = s) ∧
        ((s.part (secAfe g)).any (·.refire) = true → half = false → t.rd (Reg.AFE_CH_RES g c) = (staleSample (s.chDye n)).word)) ∧
    (s.on (secAfe g) = true → s.dark n = true →
      ∀ rA rB rS age : Nat, ∃ t, exec (.converterResult n rA rB rS false age) s = .next t ∧
        t.rd (Reg.AFE_CH_RES g c) = (staleSample (s.chDye n)).word ∧ s.memKept t) ∧
    (s.dark n = false → s.chMode n ≤ 1 →
      ∀ rA rB rS age : Nat, ∀ p, p = s.coded g (s.getF (Reg.AFE_CH_MAP_CV_A g c)) (rA % 4096) →
      ∃ t, exec (.converterResult n rA rB rS false age) s = .next t ∧
        t.rd (Reg.AFE_CH_RES g c) = (s.outSample n (s.sampleInst false age) p.1 (atLimit (rA % 4096)) p.2.1).word ∧
        (atLimit (rA % 4096) = true → t.flag (Reg.AFE_CH_STAT_OVR g c) = true) ∧ t.flag (Reg.AFE_CH_STAT_SUBST g c) = p.2.1 ∧ s.memKept t) ∧
    (s.dark n = false → s.chMode n = 1 →
      ∀ rA rB rS age : Nat, ∀ p, p = s.coded g (s.getF (Reg.AFE_CH_MAP_CV_B g c)) (rB % 4096) →
      ∀ q, q = Config.skewFir ((p.1 :: (s.afeChan n).bq).take 4)
        (toSigned 32 (s.wordAt g (Reg.AFE_CH_SKEW g c) (s.sampleInst true age))) →
      ∃ t, exec (.converterResult n rA rB rS true age) s = .next t ∧
        t.rd (Reg.AFE_CH_RES g c) = (s.outSample n (s.sampleInst true age) (s.matched n q) (atLimit (rB % 4096)) p.2.1).word) ∧
    (s.dark n = false → s.chMode n = 2 →
      ∀ rA rB rS age : Nat, ∀ a, a = s.coded g (s.getF (Reg.AFE_CH_MAP_CV_A g c)) (rA % 4096) →
      ∀ b, b = a.2.2.coded g (s.getF (Reg.AFE_CH_MAP_CV_B g c)) (rB % 4096) →
      ∀ hi, hi = fuse (s.flag (Reg.AFE_CH_STAT_FUSE_HI g c)) (s.matched n a.1) (rB % 4096) →
      ∃ t, exec (.converterResult n rA rB rS false age) s = .next t ∧ t.flag (Reg.AFE_CH_STAT_FUSE_HI g c) = hi ∧
        t.rd (Reg.AFE_CH_RES g c) = (if hi then s.outSample n (s.sampleInst false age) (s.matched n a.1) (atLimit (rA % 4096)) a.2.1
          else s.outSample n (s.sampleInst false age) (roundAway b.1 16) false b.2.1).word ∧ s.memKept t) ∧
    (65536 ≤ (s.afeChan n).win.n → ∃ t, exec (.matchWindowClose n) s = .next t ∧ (t.afeChan n).win = winZero ∧
      ((s.afeChan n).win.used < 4096 → t.regs = s.regs) ∧
      ((t.rd (Reg.AFE_CH_MATCH_G g c) : Int) - s.rd (Reg.AFE_CH_MATCH_G g c)).natAbs ≤ 134 ∧
      (t.getI (Reg.AFE_CH_MATCH_O_LSB g c) - s.getI (Reg.AFE_CH_MATCH_O_LSB g c)).natAbs ≤ 16 ∧
      s.regsKept [Reg.AFE_CH_MATCH_G g c, Reg.AFE_CH_MATCH_O g c] t ∧
      t = { s with regs := t.regs, afe := t.afe, freeCtr := t.freeCtr })

/-- R203–R215; the values of RPT_MISMATCH’s rounding and of the failed calibration are open (log 9, 17). -/
def Obligations.ConvertersTakeTurns : Prop :=
  ∀ (s : State), s.shaped = true → s.room 8 = true → ∀ g, g < 8 → (s.grp g).cvs.length = 18 →
    (∀ v, s.rptTarget g = some v → ∀ sp, (s.cvsIn g cvSpare).head? = some sp → s.rptRuns g = true → (s.grp g).step = none →
      s.expired (s.grp g).stepFrom (s.getF (Reg.AFE_RPT_CTL_INTERVAL g) * 1000000) = true →
      ∃ t, exec (.repointStepStart g) s = .next t ∧ t.cvState g sp = cvShadow ∧
        (t.grp g).step.map (fun x => (x.target, x.spare, x.pairs)) = some (v, sp, 0) ∧ (t.grp g).stepFrom = s.tm.runt ∧
        t.getF (Reg.AFE_CV_STAT_CH g sp) = s.getF (Reg.AFE_CV_STAT_CH g v) ∧ t.getF (Reg.AFE_RPT_STAT_TARGET_CV g) = v ∧
        s.regsKept [Reg.AFE_CV_STAT g sp, Reg.AFE_RPT_STAT g] t ∧ t = { s with regs := t.regs, afe := t.afe }) ∧
    (∀ st, (s.grp g).step = some st →
      (256 ≤ st.pairs → st.term = none → ∃ t, exec (.repointMismatch g) s = .next t ∧ (t.grp g).step.any (·.term.isSome) = true ∧
        ((absR st.fit.1 ≤ (s.getF (Reg.AFE_RPT_LIM_OFS g) : Rat) ∧ absR (st.fit.2 - 1) * 1000000 ≤ (s.getF (Reg.AFE_RPT_LIM_GAIN g) : Rat)) →
          (t.grp g).step = some { st with term := some (some (st.fit.2, st.fit.1)) } ∧ t.regs = s.regs ∧ t.evt = s.evt) ∧
        (¬(absR st.fit.1 ≤ (s.getF (Reg.AFE_RPT_LIM_OFS g) : Rat) ∧ absR (st.fit.2 - 1) * 1000000 ≤ (s.getF (Reg.AFE_RPT_LIM_GAIN g) : Rat)) →
          (t.grp g).step = some { st with term := some none } ∧ (s.news t).map (fun e => (e.1, e.2.1, e.2.2.1)) = [(cvSrc g st.target, 0x1001, 1)])) ∧
      ((s.flag (Reg.AFE_RPT_CTL_EN g) = false ∨ s.govFull = false ∨ 4096 ≤ st.edges ∧ st.pairs < 256) →
        ∃ t, exec (.repointAbandon g) s = .next t ∧ (t.grp g).step = none ∧ t.cvState g st.spare = cvSpare ∧
          t.getF (Reg.AFE_RPT_CNT_ABANDONED g) = min (s.getF (Reg.AFE_RPT_CNT_ABANDONED g) + 1) 65535 ∧
          s.regsKept [Reg.AFE_CV_STAT g st.spare, Reg.AFE_RPT_CNT g, Reg.AFE_RPT_STAT g, Reg.UNIT_IRQ (.afe g)] t) ∧
      (∀ tm, st.term = some tm → st.target < 18 → st.spare < 18 → st.target ≠ st.spare → ∀ c, c = s.getF (Reg.AFE_CV_STAT_CH g st.target) → c < 8 →
        ((s.flag (Reg.AFE_CH_STAT_OOS g c) = true ∨ s.flag (Reg.AFE_CH_CTL_OOS g c) = true ∨ s.on (secAfe g) = false ∨
            s.kln.refiring.contains (secAfe g) = true ∨ (s.cv g st.spare).quiet < 16) →
          ∃ t, exec (.substitutionCourse g) s = .next t ∧ (t.grp g).step = none ∧ t.cvState g st.spare = cvSpare ∧
            t.cvState g st.target = s.cvState g st.target) ∧
        (s.flag (Reg.AFE_CH_STAT_OOS g c) = false → s.flag (Reg.AFE_CH_CTL_OOS g c) = false → s.on (secAfe g) = true →
          s.kln.refiring.contains (secAfe g) = false → 16 ≤ (s.cv g st.spare).quiet →
          ∃ t, exec (.substitutionCourse g) s = .next t ∧ (t.grp g).step = none ∧ t.cvState g st.spare = cvWorking ∧
            t.cvState g st.target = cvCalib ∧ t.getF (Reg.AFE_CV_STAT_CH g st.spare) = c ∧
            t.getF (if s.getF (Reg.AFE_CV_STAT_ROLE g st.target) = 1 then Reg.AFE_CH_MAP_CV_B g c else Reg.AFE_CH_MAP_CV_A g c) = st.spare ∧
            (t.cv g st.spare).term = tm.map (fun x => (x.1, x.2, 0)) ∧ (t.grp g).dac = (s.grp g).dac ∧
            (t.grp g).dacWait = (s.grp g).dacWait ++ [(s.tm.nom / cclk + calSteps, .calib st.target)] ∧
            t.getF (Reg.AFE_RPT_CNT_STEPS g) = (s.getF (Reg.AFE_RPT_CNT_STEPS g) + 1) % 65536))) ∧
    (∀ v, v < 18 → ∀ x, (s.cv g v).term = some x → s.fadeLen g ≤ x.2.2 →
      ∃ t, exec (.repointFadeEnd g) s = .next t ∧ (t.cv g v).term = none ∧ t = { s with regs := t.regs, afe := t.afe }) ∧
    (∀ v, v < 18 → s.cvState g v = cvCalib → ∀ u, u = s.dacGrant g → ((u.grp g).dac = some (.calib v) ∨ (u.grp g).dac = none) →
      (∀ o k r, calPasses o k r = true → ∃ t, exec (.converterCalibDone g v o k r) s = .next t ∧ t.cvState g v = cvSpare ∧
        t.getI (Reg.AFE_CV_OFS_OFS g v) = o ∧ t.rd (Reg.AFE_CV_GAIN g v) = k ∧ (t.cv g v).calAt = s.tm.runt ∧ (t.grp g).dac = none ∧ t.evt = s.evt) ∧
      (∀ o k r, calPasses o k r = false → ∃ t, exec (.converterCalibDone g v o k r) s = .next t ∧ t.cvState g v = cvFailed ∧
        (s.news t).head?.map (fun e => (e.1, e.2.1, e.2.2.1)) = some (cvSrc g v, 0x1002, 1) ∧ t.rd (Reg.AFE_CV_GAIN g v) = s.rd (Reg.AFE_CV_GAIN g v))) ∧
    (∃ t, exec (.ageLimit g) s = .next t ∧
      t.flag (Reg.AFE_RPT_STAT_AGE g) = (s.cvsIn g cvWorking).any (fun v => decide (36 * s.getF (Reg.AFE_RPT_CTL_INTERVAL g) < s.cvAge g v)) ∧
      s.regsKept [Reg.AFE_RPT_STAT g] t ∧ t = { s with regs := t.regs })

/-- R217–R225.  The values of the two channel events are open (log 17). -/
def Obligations.ChannelsOutOfServiceAndProofTests : Prop :=
  ∀ (s : State), s.shaped = true → s.room 2 = true →
    (∀ n, n < 64 → ∀ g, g = n / 8 → ∀ c, c = n % 8 →
      (∀ (i : Iface) (v : Word), s.hostUp = true → s.may i .operate = true →
        ∃ t, exec (.afeOosWrite i n v) s = .next t ∧
          (s.hasAi n = true → s.unwritten = true → t.flag (Reg.AFE_CH_CTL_OOS g c) = v.toNat.testBit 0) ∧
          s.regsKept (if s.hasAi n then [Reg.AFE_CH_CTL g c] else []) t ∧ t = { s with regs := t.regs, hst := t.hst }) ∧
      (s.flag (Reg.AFE_CH_CTL_OOS g c) = true → s.flag (Reg.AFE_CH_STAT_OOS g c) = false → s.on (secAfe g) = true →
        ∃ t, exec (.channelOutOfService n) s = .next t ∧ t.flag (Reg.AFE_CH_STAT_OOS g c) = true ∧
          t.rd (Reg.AFE_CH_RES g c) = (staleSample (s.chDye n)).word ∧
          (s.news t).getLast?.map (fun e => (e.1, e.2.1, e.2.2.1)) = some (chSrc n, 0x1004, 1)) ∧
      (s.flag (Reg.AFE_CH_CTL_OOS g c) = false → s.flag (Reg.AFE_CH_STAT_OOS g c) = true → s.on (secAfe g) = true →
        ∃ t, exec (.channelReturnToService n) s = .next t ∧ t.flag (Reg.AFE_CH_STAT_OOS g c) = false ∧
          t.flag (Reg.AFE_CH_STAT_FUSE_HI g c) = false ∧ (s.news t).map (fun e => (e.1, e.2.1, e.2.2.1)) = [(chSrc n, 0x1005, 2)] ∧
          (s.flag (Reg.AFE_PROOF_STAT_BUSY g) = true → s.getF (Reg.AFE_PROOF_STAT_CH g) = c →
            t.flag (Reg.AFE_PROOF_STAT_BUSY g) = false ∧ t.getF (Reg.AFE_PROOF_STAT_RESULT g) = 3))) ∧
    (∀ g, g < 8 →
      (∀ i : Iface, s.hostUp = true → s.may i .operate = true → s.flag (Reg.AFE_PROOF_STAT_BUSY g) = false → s.on (secAfe g) = true →
        s.hasAfe g = true → s.unwritten = true → ∀ v : Word,
        ∃ t, exec (.proofStart i g v) s = .next t ∧ s.memKept t ∧ t.getF (Reg.AFE_PROOF_STAT_CH g) = t.getF (Reg.AFE_PROOF_CTL_CH g) ∧
          ((s.flag (Reg.AFE_CH_STAT_OOS g (t.getF (Reg.AFE_PROOF_CTL_CH g))) = false ∨ 2 ≤ t.getF (Reg.AFE_PROOF_CTL_TEST g)) → t.flag (Reg.AFE_PROOF_STAT_BUSY g) = false ∧
            t.getF (Reg.AFE_PROOF_STAT_RESULT g) = 3 ∧ t.flag (Reg.AFE_PROOF_STAT_DONE g) = true) ∧
          (s.flag (Reg.AFE_CH_STAT_OOS g (t.getF (Reg.AFE_PROOF_CTL_CH g))) = true → t.getF (Reg.AFE_PROOF_CTL_TEST g) < 2 →
            t.flag (Reg.AFE_PROOF_STAT_BUSY g) = true ∧ (t.grp g).test = t.getF (Reg.AFE_PROOF_CTL_TEST g) ∧
            (((s.grp g).dac = none ∧ (s.grp g).dacWait = []) → (t.grp g).dac = some .proof ∧ t.flag (Reg.AFE_PROOF_STAT_WAIT g) = false) ∧
            (((s.grp g).dac ≠ none) → (t.grp g).dac = (s.grp g).dac ∧ t.flag (Reg.AFE_PROOF_STAT_WAIT g) = true))) ∧
      (∃ t, exec (.proofDacGrant g) s = .next t ∧ s.regsKept [Reg.AFE_PROOF_STAT g] t ∧ t = { s with regs := t.regs, afe := t.afe } ∧
        (((s.grp g).dac.isSome = true ∨ ∀ w ∈ (s.grp g).dacWait, s.edgeNow < w.1) → t = s) ∧
        ((s.grp g).dac = none → (∃ w ∈ (s.grp g).dacWait, w.1 ≤ s.edgeNow) →
          ∃ u ∈ (s.grp g).dacWait, u.1 ≤ s.edgeNow ∧ (t.grp g).dac = some u.2 ∧ (t.grp g).dacWait = (s.grp g).dacWait.erase u ∧
            (u.2 = .proof → t.flag (Reg.AFE_PROOF_STAT_WAIT g) = false) ∧
            ∀ w ∈ (s.grp g).dacWait, w.1 ≤ s.edgeNow → u.1 ≤ w.1 ∧ (w.1 = u.1 → u.2 = .proof → w.2 = .proof))) ∧
      (∀ v : Int, s.flag (Reg.AFE_PROOF_STAT_BUSY g) = true → (s.grp g).dac = some .proof → s.getF (Reg.AFE_PROOF_STAT_CH g) < 8 →
        ∃ t, exec (.proofTestDone g v) s = .next t ∧ t.flag (Reg.AFE_PROOF_STAT_BUSY g) = false ∧ (t.grp g).dac = none ∧
          t.flag (Reg.AFE_PROOF_STAT_DONE g) = true ∧ t.flag ⟨Reg.UNIT_IRQ (.afe g), 5, 5⟩ = true ∧
          ((s.grp g).test = 0 → t.getF (Reg.AFE_PROOF_STAT_RESULT g) = (if 250000 < v then 1 else 0) ∧
            t.flag (Reg.AFE_CH_STAT_OPEN g (s.getF (Reg.AFE_PROOF_STAT_CH g))) = decide (250000 < v)) ∧
          ((s.grp g).test ≠ 0 → t.getF (Reg.AFE_PROOF_STAT_RESULT g) = (if v.natAbs ≤ 300 then 0 else 2))))

/-- R231–R244, R247. -/
def Obligations.HousekeepingConverterAndQueue : Prop :=
  ∀ (s : State), s.shaped = true → s.room 1 = true → s.on secHkc = true →
    (∀ i : Iface, s.hostUp = true → s.may i .operate = true →
      (∀ v : Word, ∀ src, src = v.toNat % 32 →
        ∃ t, exec (.hkcSelWrite i v) s = .next t ∧ t = { s with regs := t.regs, hkc := t.hkc, hst := t.hst } ∧
          s.regsKept [Reg.HKC_STAT, Reg.HKC_LOST, Reg.UNIT_IRQ .hkc] t ∧
          (s.hkcPresent src = false → t.flag Reg.HKC_STAT_SEL_ERR = true ∧ t.hkc = s.hkc ∧ s.regsKept [Reg.HKC_STAT] t) ∧
          (s.hkcPresent src = true → 8 ≤ s.hkc.held.length → s.hkcFree = false → t.flag Reg.HKC_STAT_REQ_LOST = true ∧ t.hkc = s.hkc ∧
            t.getF Reg.HKC_LOST_REQ = min (s.getF Reg.HKC_LOST_REQ + 1) 65535) ∧
          (s.hkcPresent src = true → (s.hkc.held.length < 8 ∨ s.hkc.held.length = 8 ∧ s.hkcFree = true) →
            t.getF Reg.HKC_STAT_LAST_SEQ = (s.getF Reg.HKC_STAT_LAST_SEQ + 1) % 256 ∧ t.rd Reg.HKC_LOST = s.rd Reg.HKC_LOST ∧
            ∀ r, r = ⟨(s.getF Reg.HKC_STAT_LAST_SEQ + 1) % 256, src, bits v.toNat 23 16, min 8 (bits v.toNat 11 8)⟩ →
            (s.hkc.held.length = 8 → t.hkc.held = s.hkc.held.tail ++ [r] ∧ t.hkc.cur.map (·.req) = s.hkc.held.head?) ∧
            (s.hkc.held.length < 8 → (s.hkc.cur.isSome = true ∨ s.hkc.held ≠ [] ∨ (∃ fc, s.hkc.calReq = some fc ∧ fc ≠ s.tm.fc) ∨
                s.hkc.calReq = none ∧ s.flag Reg.HKC_STAT_CAL_BUSY = true) → t.hkc = { s.hkc with held := s.hkc.held ++ [r] }) ∧
            (s.hkc.cur = none → s.hkc.held = [] → (s.hkc.calReq = some s.tm.fc ∨ s.hkc.calReq = none ∧ s.flag Reg.HKC_STAT_CAL_BUSY = false) →
              t.hkc.cur.map (·.req) = some r ∧ t.hkc.held = []))) ∧
      (∀ v : Word, v.toNat % 4 < 2 → ∃ t, exec (.hkcCalCommand i v) s = .next t ∧
        (s.hkc.calReq = none → s.flag Reg.HKC_STAT_CAL_BUSY = false → t.hkc = { s.hkc with calReq := some s.tm.fc }) ∧
        ((s.hkc.calReq.isSome = true ∨ s.flag Reg.HKC_STAT_CAL_BUSY = true) → t = { s with hst := t.hst })) ∧
      (∀ v : Word, v.toNat % 2 = 0 → ∃ t, exec (.hkcFlush i v) s = .next t ∧ t.hkc = { s.hkc with q := [] } ∧ t.getF Reg.HKC_STAT_Q_DEPTH = 0 ∧
        s.regsKept [Reg.HKC_STAT] t ∧ t = { s with regs := t.regs, hkc := t.hkc, hst := t.hst }) ∧
      (s.pwr.warmBusy = false → s.hkc.q = [] → ∃ t, exec (.hkcQueueRead i) s = .next t ∧
        s.sent t = [.readData i Reg.HKC_Q_0 0xFFFFFFFF] ∧ t = { s with hst := t.hst, tx := t.tx }) ∧
      (s.pwr.warmBusy = false → ∀ e, s.hkc.q.head? = some e → ∃ t, exec (.hkcQueueRead i) s = .next t ∧ (s.hkc.q.length ≤ 64 → t.hkc = { s.hkc with q := s.hkc.q.tail ++ s.hkc.late.toList, late := none }) ∧ t.rd Reg.HKC_LOST = s.rd Reg.HKC_LOST ∧
        s.sent t = [.readData i Reg.HKC_Q_0 (e.words.headD 0)] ∧ t.snapOf i Reg.HKC_Q_0 = some e.words ∧ s.regsKept [Reg.HKC_STAT, Reg.UNIT_IRQ .hkc] t)) ∧
    (∀ r, s.hkc.held.head? = some r → s.hkc.cur = none → s.hkc.calReq = none → s.flag Reg.HKC_STAT_CAL_BUSY = false → s.hkc.freeFc < s.tm.fc →
      ∃ t, exec .hkcConversionStart s = .next t ∧ t.hkc.held = s.hkc.held.tail ∧ t.hkc.cur.map (·.req) = some r ∧
        t.flag Reg.HKC_STAT_CONV_BUSY = true ∧ s.regsKept [Reg.HKC_STAT] t ∧ t = { s with regs := t.regs, hkc := t.hkc }) ∧
    (∀ c, s.hkc.cur = some c → s.expired c.start (hkcSettle c.req.src + (c.req.n + 1) * 1000) = true →
      ∀ l : List Nat, l.length = c.req.n + 1 → ∀ raw, raw = l.map (fun r => r % 4096) →
      ∀ e : HkcEntry, e = ⟨c.req, s.epochAt c.inst, raw.any fun r => r == 0 || r == 4095, s.flag Reg.HKC_STAT_CAL_FAIL,
        hkcValue c.req.shift ((raw.map s.hkcCorr).foldl (fun a b => a + b) 0), s.twAt c.inst⟩ →
      ∃ t, exec (.hkcEntryWrite l) s = .next t ∧ t.hkc.cur = none ∧ t.hkc.held = s.hkc.held ∧
        (64 ≤ s.hkc.q.length → t.hkc.q = s.hkc.q ∧ t.hkc.late = some e) ∧
        (s.hkc.q.length < 64 → t.hkc.q = s.hkc.q ++ [e] ∧ t.hkc.late = s.hkc.late) ∧
        s.regsKept [Reg.HKC_STAT, Reg.UNIT_IRQ .hkc] t ∧ t = { s with regs := t.regs, hkc := t.hkc, hst := t.hst }) ∧
    (s.hkc.late.isSome = true → s.pending = [] → s.pwr.unpowered = false → s.crs.arms = [] → s.crs.decisions = [] → s.prt.jobs = [] →
      (s.prt.comp.all fun x => x.rise.isNone) = true →
      ∃ t, step s = .next t ∧ t.hkc.q = s.hkc.q ∧ t.hkc.late = none ∧ t.flag Reg.HKC_STAT_Q_OVF = true ∧
        t.getF Reg.HKC_LOST_ENTRY = min (s.getF Reg.HKC_LOST_ENTRY + 1) 65535) ∧
    (s.getF Reg.HKC_CTL_CAL_INT ≠ 0 → s.expired s.hkc.lastCal (s.getF Reg.HKC_CTL_CAL_INT * 1000000000) = true →
      s.hkc.calReq = none → s.flag Reg.HKC_STAT_CAL_BUSY = false →
      ∃ t, exec .hkcCalInterval s = .next t ∧ t.hkc = { s.hkc with calReq := some s.tm.fc } ∧ s.regsKept [Reg.HKC_STAT] t) ∧
    (s.hkc.calReq.isSome = true → s.hkc.cur = none → ∃ t, exec .hkcCalStart s = .next t ∧ t.hkc = { s.hkc with calReq := none } ∧
      t.flag Reg.HKC_STAT_CAL_BUSY = true ∧ s.regsKept [Reg.HKC_STAT] t) ∧
    (s.flag Reg.HKC_STAT_CAL_BUSY = true → ∀ (o : Int) (k : Nat), ∀ ok, ok = (decide (o.natAbs ≤ 256) && decide (((k : Int) - 2 ^ 22).natAbs * 100 ≤ 2 ^ 22)) →
      ∃ t, exec (.hkcCalDone o k) s = .next t ∧ t.flag Reg.HKC_STAT_CAL_BUSY = false ∧ t.hkc.lastCal = s.tm.runt ∧
        t.flag Reg.HKC_STAT_CAL_FAIL = !ok ∧ (ok = true → t.getI Reg.HKC_CAL_OFS_OFS = o ∧ t.rd Reg.HKC_CAL_GAIN = k ∧ t.evt = s.evt) ∧
        (ok = false → t.rd Reg.HKC_CAL_OFS = s.rd Reg.HKC_CAL_OFS ∧ t.rd Reg.HKC_CAL_GAIN = s.rd Reg.HKC_CAL_GAIN ∧
          (s.news t).map (fun e => (e.1, e.2.1, e.2.2.1)) = [(srcId 0x18 0, 0x1801, 1)]))

/-- R249, R253–R258, R261, R263–R265, R268–R270.  The stage-A response is opaque (log 15). -/
def Obligations.FilterOutputsBanksAndResets : Prop :=
  ∀ (s : State), s.shaped = true → s.fltOn = true →
    (∃ t, exec .stageAOutput s = .next t ∧ t.flt.k = s.flt.k + b2n (s.stageADue false) ∧ t.flt.kIl = s.flt.kIl + b2n (s.stageADue true) ∧
      (∀ n, n < 64 → (s.stageADue (s.isIl n) = false → t.fch n = s.fch n) ∧
        (s.stageADue (s.isIl n) = true → (t.fch n).aOut = (s.stageAOf n (s.stageInst (s.chNext n)) :: (s.fch n).aOut).take 1024 ∧
          (t.fch n).aUns = (s.fch n).aUns - 1 ∧ (s.dark n = true → (t.fch n).aOut.head? = some (staleSample (s.chDye n))))) ∧
      t.flt.prof = s.flt.prof ∧ t.ang = { s.ang with pri := t.ang.pri, alt := t.ang.alt } ∧
      t = { s with flt := t.flt, ang := t.ang, acq := t.acq }) ∧
    (∀ p, p < 16 → s.stageBDue p = true → (s.fprof p).resume = false → ∀ i, i = (s.fprof p).next → ∀ all, all = decide (i < s.winAll p) →
      ∃ t, exec (.stageBOutput p) s = .next t ∧ (t.fprof p).next = (if all then i + s.profD p else i) ∧ s.memKept t ∧
        (∀ q, q < 16 → q ≠ p → t.fprof q = s.fprof q) ∧
        (∀ n, n < 64 → (s.chProf n ≠ p ∨ (if s.isIl n then (s.fprof p).early.isNone else all) = false) →
          t.fch n = s.fch n ∧ t.rd (Reg.FLT_CH_STAT n) = s.rd (Reg.FLT_CH_STAT n)) ∧
        (∀ n, n < 64 → s.chProf n = p → (if s.isIl n then (s.fprof p).early.isNone else all) = true →
          (t.fch n).bOut.length = min 32 ((s.fch n).bOut.length + 1) ∧
          t.getF (Reg.FLT_CH_STAT_REMAIN n) = s.getF (Reg.FLT_CH_STAT_REMAIN n) - 1 ∧
          ((t.fch n).bOut.head?.map Prod.fst) = some (s.stageInst i - s.getF (Reg.FLT_PROF_GD_GD p) * (15625 * 2 ^ 22)) ∧
          (∀ uns, uns = decide (s.getF (Reg.FLT_CH_STAT_REMAIN n) ≠ 0) →
            (((s.fprof p).early.isNone = true ∧ (s.fprof p).stopped = true ∨ (s.fprof p).early = some none ∨ s.dark n = true) →
              ((t.fch n).bOut.head?.map Prod.snd) = some { staleSample (s.chDye n) with uns := uns }) ∧
            (∀ hs : Option (List Int), hs = (match (s.fprof p).early with
                | some x => x
                | none => if (s.fprof p).stopped = false ∧ s.on (secProf p) = true ∧ (s.fprof p).target = none then
                    some (s.bank p (s.getF (Reg.FLT_PROF_STAT_ACTIVE p))) else none) → ∀ h, hs = some h → s.dark n = false →
              ((t.fch n).bOut.head?.map Prod.snd) = some (firOut (s.getF (Reg.FLT_PROF_CFG_GSH p)) h
                (((s.fch n).aOut.drop (s.chNext n - 1 - i)).take (s.profTaps p)) (s.chDye n) uns))))) ∧
    (∀ p, p < 16 → ∀ b, (s.fprof p).reqs = [b] → s.pending = [] → s.pwr.unpowered = false → s.crs.arms = [] → s.crs.decisions = [] →
      s.prt.jobs = [] → (s.prt.comp.all fun x => x.rise.isNone) = true →
      ∃ t, step s = .next t ∧ (t.fprof p).reqs = [] ∧ (∀ q, q < 16 → (s.fprof q).reqs = [] → t.fprof q = s.fprof q) ∧
        ((s.fprof p).target = none → b = s.getF (Reg.FLT_PROF_STAT_ACTIVE p) → (t.fprof p) = { s.fprof p with reqs := [] }) ∧
        ((s.fprof p).target = none → b ≠ s.getF (Reg.FLT_PROF_STAT_ACTIVE p) → (t.fprof p).target = some b ∧ (t.fprof p).j = 0 ∧
          (t.fprof p).start = s.winNext p) ∧
        (∀ f, (s.fprof p).target = some f → (s.fprof p).queue = none → (t.fprof p).queue = (if b = f then none else some b) ∧ (t.fprof p).target = some f) ∧
        (∀ f, (s.fprof p).target = some f → ∀ q, (s.fprof p).queue = some q → b ≠ q → (t.fprof p).queue = some b ∧
          t.flag Reg.FLT_STAT_SWAP_REPLACED = true ∧ t.getF (Reg.FLT_PROF_CNT_REPLACED p) = min (s.getF (Reg.FLT_PROF_CNT_REPLACED p) + 1) 65535) ∧
        t.getF (Reg.FLT_PROF_STAT_ACTIVE p) = s.getF (Reg.FLT_PROF_STAT_ACTIVE p)) ∧
    (∀ i : Iface, s.hostUp = true → s.may i .operate = true →
      (∀ p, p < 16 → s.on (secProf p) = true → ∀ v : Word,
        ∃ t, exec (.fltBankRequest i p v) s = .next t ∧ t.flt = { s.flt with prof := t.flt.prof } ∧
          (∀ q, q < 16 → t.fprof q = if q = p then { s.fprof p with reqs := (s.fprof p).reqs ++ [v.toNat % 2] } else s.fprof q) ∧
          s.regsKept [Reg.FLT_PROF_CTL p] t ∧ t = { s with regs := t.regs, flt := t.flt, hst := t.hst }) ∧
      (∀ p, p < 16 → ∃ t, exec (.fltSync i (BitVec.ofNat 32 (2 ^ p))) s = .next t ∧ (t.fprof p).target = none ∧
        (∀ q, q < 16 → q ≠ p → t.fprof q = s.fprof q) ∧
        (∀ n, n < 64 → s.chProf n = p → (t.fch n).aOut = [] ∧ t.getF (Reg.FLT_CH_STAT_REMAIN n) = ((s.profTaps p + s.profD p - 1) / s.profD p) % 512) ∧
        (∀ n, n < 64 → s.chProf n ≠ p → t.fch n = s.fch n) ∧
        (∀ f, (s.fprof p).target = some f → t.getF (Reg.FLT_PROF_STAT_ACTIVE p) = ((s.fprof p).queue).getD f)))

/-- R277, R278, R303–R309, R312, R329–R331, R334–R337.  That the queue’s end is the end of a fc is the choice of log 3. -/
def Obligations.UpdatesBreakerFailureAndPointOnWave : Prop :=
  ∀ (s : State), s.shaped = true → s.room 200 = true → ∀ f, f < 12 →
    (∀ x, s.updateDue f = some x → s.on (secFeeder f) = true →
      ∃ t, exec (.phasorUpdate f) s = .next t ∧ (t.fdr f).upd = some (x.1.cycle, x.2) ∧
        (t.fdr f).full = derive (s.flag (Reg.PRT_F_CFG_ROT f)) ((List.range 8).map fun q => match s.inputKey f q with
          | some k => phasorOf (s.grids.getD f []) k (s.gridN f) (s.gridN f)
          | none => phasorZero) ∧
        t.rd (Reg.PRT_F_UPD_1 f) = x.1.cycle % 2 ^ 32 ∧ t.rd (Reg.PRT_F_UPD_2 f) = x.1.angle % 2 ^ 32 ∧
        t.getF (Reg.PRT_F_UPD_0_EPOCH f) = x.1.epoch % 256 ∧ t.flag (Reg.PRT_F_STAT_NOGRID f) = false ∧
        (∃ j : ElemJob, t.prt.jobs = (s.prt.jobs.filter fun y => y.f != f) ++ [j] ∧ j.due = s.tm.fc + 52 ∧ j.f = f ∧
          j.outs = (List.range 23).map (fun e => t.elemOut f e) ∧ (j.bf, j.bfCause) = t.bfOut f ∧
          (∀ e, e < 23 → (s.elemSet f e).en = false → j.outs[e]? = some ⟨e, 0, s.elemSet f e, elemZero e, false⟩) ∧
          (∀ e, e < 23 → (s.elemSet f e).en = true → (s.getF (Reg.PRT_F_BLK_BLK f)).testBit e = true →
            j.outs[e]? = some ⟨e, causeBlk, s.elemSet f e, elemZero e, true⟩)) ∧
        (∀ g, g < 12 → g ≠ f → t.fdr g = s.fdr g) ∧ s.memKept t) ∧
    (∀ j, s.prt.jobs = [j] → j.due ≤ s.tm.fc + 1 → j.f = f → (j.outs.map (·.e)).Nodup → s.pending = [] → s.pwr.unpowered = false →
      s.crs.arms = [] → s.crs.decisions = [] →
      ∃ t, step s = .next t ∧ t.prt.jobs = [] ∧ ∀ o ∈ j.outs, o.e < 23 → t.elem f o.e = o.x ∧
        t.flag (Reg.PRT_F_E_STAT_OP f o.e) = o.x.op ∧ t.flag (Reg.PRT_F_E_STAT_PU f o.e) = o.x.pu ∧
        t.getF (Reg.PRT_F_E_STAT_CAUSE f o.e) = o.cause % 16) ∧
    ((s.updateDue f = none ∨ s.on (secFeeder f) = false) → ∃ t, exec (.phasorUpdate f) s = .next t ∧ t = s) ∧
    (∀ i : Iface, s.hostUp = true → s.may i .operate = true →
      (∀ v : Word, v.toNat.testBit 0 = true → (s.fdr f).bfStart = none →
        ∀ ok, ok = ((s.elemSet f 23).en && (s.fdr f).bfPick && !(s.getF (Reg.PRT_F_BLK_BLK f)).testBit 23 && (s.fdr f).holdAt.isNone &&
          s.getF (Reg.PRT_F_E_STAT_CAUSE f 23) != causeUns) →
        ∃ t, exec (.bfInitWrite i f v) s = .next t ∧ (ok = false → t = { s with hst := t.hst }) ∧
          (ok = true → (t.fdr f).bfStart = some s.tm.runt ∧ t.flag (Reg.PRT_F_E_STAT_PU f 23) = true ∧
            s.news t = [(fdrSrc f, 0x3008, 2, elemValue 23 0 % 2 ^ 64)] ∧ (∀ g, g < 12 → g ≠ f → t.fdr g = s.fdr g))) ∧
      (∀ v : Word, ∃ t, exec (.powTargetArm i f v) s = .next t ∧ (s.unwritten = true → t.rd (Reg.PRT_F_POW_TGT_1 f) = v.toNat) ∧
        t.flag (Reg.PRT_F_POW_LAST_0_ARMED f) = true ∧ s.regsKept [Reg.PRT_F_POW_TGT_1 f, Reg.PRT_F_POW_LAST_0 f] t ∧
        t = { s with regs := t.regs, hst := t.hst })) ∧
    (s.bfT1 f ≠ 0 → s.bfDue f (s.bfT1 f) = true → s.flag (Reg.PRT_F_E_STAT_RETRIP f 23) = false →
      ∃ t, exec (.bfT1Expiry f) s = .next t ∧ t.flag (Reg.PRT_F_E_STAT_RETRIP f 23) = true ∧ s.regsKept [Reg.PRT_F_E_STAT f 23] t ∧
        ((s.standingOf (fdrSrc f)).isSome = true → (t.crs.decisions.any fun d => d.src == fdrSrc f && d.due == s.tm.fc + 5) = true) ∧
        t = { s with regs := t.regs, crs := t.crs }) ∧
    (s.bfDue f (s.bfT2 f) = true → (s.elem f 23).op = false →
      ∃ t, exec (.bfT2Expiry f) s = .next t ∧ (t.elem f 23).op = true ∧ t.flag (Reg.PRT_F_E_STAT_OP f 23) = true ∧
        t.getF (Reg.PRT_F_E_CNT_OPS f 23) = min (s.getF (Reg.PRT_F_E_CNT_OPS f 23) + 1) 65535 ∧
        (∀ g, g < 12 → (s.getF (Reg.PRT_F_BF_TGT_FEEDERS f)).testBit g = true →
          ((s.standingOf (fdrSrc g)).isSome = true → (t.crs.decisions.any fun d => d.src == fdrSrc g && d.due == s.tm.fc + 5) = true) ∧
          ((s.standingOf (fdrSrc g)).isNone = true → (s.news t).any (fun e => e.1 == fdrSrc f && e.2.1 == 0x0601 && e.2.2.2.testBit g && e.2.2.2.testBit 63) = true)) ∧
        s.memKept t) ∧
    (∀ o : Bool, ∀ r, (if o then (s.fdr f).powOpen else (s.fdr f).powClose) = some r →
      s.expired r.runt (s.getF (Reg.PRT_F_POW_LIM_MAXT f) * 1000000) = true → s.powComes f o = false →
      ∃ t, exec (.powTimeout f o) s = .next t ∧ t.getF (Reg.PRT_F_POW_LAST_0_RESULT f) = 2 ∧ t.flag (Reg.PRT_F_POW_LAST_0_ARMED f) = false ∧
        (if o then (t.fdr f).powOpen else (t.fdr f).powClose) = none ∧
        (s.news t).map (fun e => (e.1, e.2.1, e.2.2.1)) = [(fdrSrc f, 0x3007, 1)] ∧
        s.regsKept [Reg.PRT_F_POW_LAST_0 f, Reg.PRT_F_POW_LAST_1 f, Reg.PRT_F_POW_LAST_2 f, Reg.PRT_F_POW_LAST_3 f, Reg.PRT_F_POW_LAST_4 f] t)

/-- R340–R362, for captures without reduction engines where a clause says so. -/
def Obligations.CapturesArmTriggerAndEnd : Prop :=
  ∀ (s : State), s.shaped = true → s.room 64 = true →
    (∀ i : Iface, s.hostUp = true → s.may i .operate = true →
      (∀ j, j < 8 →
        (∀ e, s.armFails j true = some e → ∃ t, exec (.acqArm i (BitVec.ofNat 32 (2 ^ j))) s = .next t ∧
          t.getF Reg.ACQ_ERR_CODE = e.1 % 256 ∧ t.getF Reg.ACQ_ERR_ENG = e.2 % 8 ∧ t.getF Reg.ACQ_ERR_CAP = j ∧
          s.regsKept [Reg.ACQ_ERR, Reg.UNIT_IRQ .acq] t ∧ t = { s with regs := t.regs, hst := t.hst }) ∧
        (s.armFails j true = none → ∃ t, exec (.acqArm i (BitVec.ofNat 32 (2 ^ j))) s = .next t ∧ t.capSt j = cArmed ∧
          (t.capOf j).frames = 0 ∧ (t.capOf j).trig = none ∧ (t.capOf j).pre = s.rd (Reg.ACQ_C_PRE j) ∧ (t.capOf j).post = s.rd (Reg.ACQ_C_POST j) ∧
          (∀ n, n < 16 → s.flag (Reg.ACQ_TU_CFG_EN n) = true → (s.getF (Reg.ACQ_C_TMASK_UNITS j)).testBit n = true →
            t.flag (Reg.ACQ_TU_STAT_ARMED n) = true) ∧ t.dram = s.dram ∧ t.evt = s.evt ∧ (∀ k, k < 8 → k ≠ j → t.capOf k = s.capOf k)) ∧
        (s.capLive j = false → ∃ t, exec (.acqStop i (BitVec.ofNat 32 (2 ^ (8 + j)))) s = .next t ∧ t = { s with hst := t.hst }) ∧
        (s.capLive j = true → ∃ t, exec (.acqStop i (BitVec.ofNat 32 (2 ^ (8 + j)))) s = .next t ∧ t.capSt j = cStopped ∧
          t.getF (Reg.ACQ_C_STAT_HELD j) = min (s.segs j) (s.getF (Reg.ACQ_C_STAT_HELD j) + 1) ∧
          (s.news t).head?.map (fun e => (e.1, e.2.1, e.2.2.1)) = some (capSrc j, 0x4003, 3) ∧ (∀ k, k < 8 → k ≠ j → t.capOf k = s.capOf k)) ∧
        (s.getF (Reg.ACQ_C_STAT_HELD j) = 0 → ∃ t, exec (.acqRelease i j 1#32) s = .next t ∧ t = { s with hst := t.hst }) ∧
        (s.getF (Reg.ACQ_C_STAT_HELD j) = 1 → s.allEnded j = false → ∃ t, exec (.acqRelease i j 1#32) s = .next t ∧ t = { s with hst := t.hst }) ∧
        (0 < s.getF (Reg.ACQ_C_STAT_HELD j) → (s.getF (Reg.ACQ_C_STAT_HELD j) = 1 → s.allEnded j = true) →
          ∃ t, exec (.acqRelease i j 1#32) s = .next t ∧ t.getF (Reg.ACQ_C_STAT_HELD j) = s.getF (Reg.ACQ_C_STAT_HELD j) - 1 ∧
            t.getF (Reg.ACQ_C_STAT_OLDEST j) = (s.getF (Reg.ACQ_C_STAT_OLDEST j) + 1) % s.segs j % 64 ∧ s.memKept t ∧
            (s.getF (Reg.ACQ_C_STAT_HELD j) = 1 → s.capSt j = cDone → (s.capOf j).again = none → t.capSt j = cIdle ∧ t.acq = s.acq) ∧
            (s.capSt j = cFull → (t.capOf j).again.isSome = true ∧ t.capSt j = cFull)) ∧
        (∀ v : Word, ∃ t, exec (.acqRdptrWrite i j v) s = .next t ∧
          ((s.isStream j = false ∨ (s.capOf j).trig = none) → t = { s with hst := t.hst }) ∧
          (t.rd (Reg.ACQ_C_RDPTR j) = s.rd (Reg.ACQ_C_RDPTR j) ∨ t.rd (Reg.ACQ_C_RDPTR j) = v.toNat) ∧
          (t.capOf j).readTo ≤ max (s.capOf j).readTo ((s.capOf j).frames * s.frameBytes j) ∧
          s.regsKept [Reg.ACQ_C_RDPTR j] t)) ∧
      (∀ n, n < 16 → ∃ t, exec (.acqForce i (BitVec.ofNat 32 (2 ^ (16 + n)))) s = .next t ∧
        (s.flag (Reg.ACQ_TU_STAT_ARMED n) = false → t = { s with hst := t.hst }) ∧
        (s.flag (Reg.ACQ_TU_STAT_ARMED n) = true → t.acq.feed.map (·.it) = s.acq.feed.map (·.it) ++ [.force (2 ^ n)] ∧
          t = { s with acq := t.acq, hst := t.hst }))) ∧
    (∃ t, exec (.acqItemEvaluate 0) s = .next t ∧ t.acq.feed = s.acq.feed.filter (fun f => !s.dueItems.contains f) ∧
      (∀ f, s.dueItems.head? = some f → s.dueItems.length = 1 → f.it = .force 1 →
        t.getF (Reg.ACQ_TU_CNT_FIRES 0) = min (s.getF (Reg.ACQ_TU_CNT_FIRES 0) + 1) (2 ^ 32 - 1) ∧
        (∀ j, j < 8 → s.capSt j = cArmed → (s.getF (Reg.ACQ_C_TMASK_UNITS j)).testBit 0 = true →
          t.capSt j = cTrig ∧ t.flag (Reg.ACQ_C_STAT_FORCED j) = true ∧
          (s.news t).any (fun e => e.1 == capSrc j && e.2.1 == 0x4002) = true))) ∧
    (∀ n, n < 16 → (s.timeoutDue n = false → ∃ t, exec (.triggerTimeout n) s = .next t ∧ t = s) ∧
      (s.timeoutDue n = true → s.dueItems.length = 1 → ∃ t, exec (.triggerTimeout n) s = .next t ∧ t.flag (Reg.ACQ_TU_STAT_HIT n) = true ∧
        t.acq.feed.length < s.acq.feed.length)) ∧
    (∀ j, j < 8 → s.engines j = [] → s.capSt j = cTrig → (s.capOf j).full = true → s.flag (Reg.ACQ_C_CFG_AUTO j) = false →
      s.segAddr j (s.capOf j).seg + 128 + 16 * 64 ≤ s.dramSize → (s.capOf j).ovf = none → (s.capOf j).again = none →
      ∃ t, exec (.captureRecordEnd j) s = .next t ∧ t.capSt j = cDone ∧
        t.getF (Reg.ACQ_C_STAT_HELD j) = min (s.segs j) (s.getF (Reg.ACQ_C_STAT_HELD j) + 1) ∧
        leNat (t.dramRd (s.segAddr j (s.capOf j).seg) 4) = 0x52514341 ∧
        (∀ a, (a < s.segAddr j (s.capOf j).seg ∨ s.segAddr j (s.capOf j).seg + 128 + 16 * 64 ≤ a) → Mem.rd t.dram a = Mem.rd s.dram a))

/-- R368–R371. -/
def Obligations.TriggerBusLinesAndTrc : Prop :=
  ∀ (s : State), s.shaped = true → s.room 8 = true →
    (∀ l, l < 8 →
      (∀ now, now = (if s.getF Reg.ACQ_BUS_CTL_TRC = 1 ∧ s.flag Reg.ACQ_BUS_STAT_TRC_OK = true then s.acq.trcAt.getD 0 else s.tw) →
        ((s.acq.lineDue.find? fun d => d.1 == l && decide (d.2 ≤ now)) = none → ∃ t, exec (.triggerBusAssert l) s = .next t ∧ t = s) ∧
        (∀ d, (s.acq.lineDue.find? fun d => d.1 == l && decide (d.2 ≤ now)) = some d →
          ∃ t, exec (.triggerBusAssert l) s = .next t ∧ (t.getF Reg.ACQ_BUS_STAT_DRV).testBit l = true ∧ s.sent t = [.busLine l true] ∧
            t.acq = { s.acq with lineDue := s.acq.lineDue.erase d, lineAt := t.acq.lineAt } ∧ t.acq.lineAt.getLast? = some (l, s.tm.runt) ∧
            s.regsKept [Reg.ACQ_BUS_STAT] t ∧ t = { s with regs := t.regs, acq := t.acq, tx := t.tx })) ∧
      (∀ x, (s.acq.lineAt.find? fun x => x.1 == l) = some x →
        (s.expired x.2 400 = true → ∃ t, exec (.triggerBusRelease l) s = .next t ∧ (t.getF Reg.ACQ_BUS_STAT_DRV).testBit l = false ∧
          s.sent t = [.busLine l false] ∧ s.regsKept [Reg.ACQ_BUS_STAT] t ∧ t = { s with regs := t.regs, acq := t.acq, tx := t.tx }) ∧
        (s.expired x.2 400 = false → ∃ t, exec (.triggerBusRelease l) s = .next t ∧ t = s)) ∧
      (((s.getF Reg.ACQ_BUS_CTL_RXEN).testBit l = false ∨ s.on secAcq = false) → ∃ t, exec (.triggerBusEdge l) s = .next t ∧ t = s) ∧
      (∀ x, (s.acq.edgeAt.find? fun x => x.1 == l) = some x → s.expired x.2 400 = false → ∃ t, exec (.triggerBusEdge l) s = .next t ∧ t = s) ∧
      (s.on secAcq = true → (s.getF Reg.ACQ_BUS_CTL_RXEN).testBit l = true → (s.acq.edgeAt.all fun x => x.1 != l || s.expired x.2 400) = true →
        ∃ t, exec (.triggerBusEdge l) s = .next t ∧ (t.getF Reg.ACQ_BUS_STAT_SEEN).testBit l = true ∧ t.acq.edgeAt.getLast? = some (l, s.tm.runt) ∧
          t.flag ⟨Reg.UNIT_IRQ .acq, 5, 5⟩ = true ∧
          (∀ j, j < 8 → (s.getF (Reg.ACQ_C_TMASK_LINES j)).testBit l = true → s.capSt j = cArmed →
            t.capSt j = cTrig ∧ t.flag (Reg.ACQ_C_STAT_BUS j) = true) ∧
          (∀ j, j < 8 → (s.getF (Reg.ACQ_C_TMASK_LINES j)).testBit l = false → t.capSt j = s.capSt j ∧ t.capOf j = s.capOf j))) ∧
    (s.getF Reg.ACQ_BUS_CTL_TRC = 1 → ∃ t, exec .trcEdgeRx s = .next t ∧ t.acq.trcAt = some s.tw ∧
      t.flag Reg.ACQ_BUS_STAT_TRC_OK = s.acq.trcAt.any (fun a => decide (s.tw ≤ a + 110 * 2 ^ 16)) ∧
      s.regsKept [Reg.ACQ_BUS_STAT] t ∧ t = { s with regs := t.regs, acq := t.acq }) ∧
    (s.getF Reg.ACQ_BUS_CTL_TRC ≠ 1 → ∃ t, exec .trcEdgeRx s = .next t ∧ t = s) ∧
    (∃ t, exec .trcTimeout s = .next t ∧
      ((s.acq.trcAt = none ∨ s.comes (fun c => c == .trcEdgeRx) = false ∧ s.acq.trcAt.all (fun a => decide (a + 110 * 2 ^ 16 < s.tw)) = true) → t.flag Reg.ACQ_BUS_STAT_TRC_OK = false) ∧
      ((s.acq.trcAt.any (fun a => decide (s.tw ≤ a + 110 * 2 ^ 16)) = true ∨ s.acq.trcAt.isSome = true ∧ s.comes (fun c => c == .trcEdgeRx) = true) → t = s) ∧ s.regsKept [Reg.ACQ_BUS_STAT] t ∧
      t = { s with regs := t.regs })

/-- R376, R380, R381, R391–R397, R405, R409, R413.  Windows at multiples of 10 ms of run time, IDX above 159 and repeated trials are log entries 20 and 41. -/
def Obligations.MeterWindowsAndCommits : Prop :=
  ∀ (s : State), s.shaped = true → s.room 4 = true →
    (∀ f, f < 12 →
      (s.windowDue f = false → ∃ t, exec (.meterWindowClose f) s = .next t ∧ t = s) ∧
      (s.windowDue f = true → ∃ t, exec (.meterWindowClose f) s = .next t ∧
        (t.mf f).p = 0 ∧ (t.mf f).q = 0 ∧ (t.mf f).p1 = 0 ∧ (t.mf f).dt = 0 ∧ (t.mf f).win = s.runNs / 10000000 ∧
        t.flag (Reg.MTR_F_STAT_CREEP f) = s.creeps f ∧ t.flag (Reg.MTR_F_STAT_NOPHASOR f) = decide ((s.mf f).dtq = 0) ∧
        ((s.mf f).dt ≠ 0 → t.rd (Reg.MTR_F_P f) = toF32 ((s.mf f).p / (s.mf f).dt) % 2 ^ 32) ∧
        ((s.mf f).dtq ≠ 0 → t.rd (Reg.MTR_F_Q f) = toF32 ((s.mf f).q / (s.mf f).dtq) % 2 ^ 32) ∧
        (∀ n, n < 160 → (n < 8 * f ∨ 8 * f + 8 ≤ n ∨ s.creeps f = true) → t.mtr.work.getD n 0 = s.mtr.work.getD n 0) ∧
        (∀ n, n < 160 → s.mtr.work.getD n 0 ≤ totMax → s.mtr.work.getD n 0 ≤ t.mtr.work.getD n 0) ∧
        t.mtr.work.getD (8 * f + if (s.mf f).p < 0 then 0 else 1) 0 = s.mtr.work.getD (8 * f + if (s.mf f).p < 0 then 0 else 1) 0 ∧
        t.mtr.comm = s.mtr.comm ∧ (∀ g, g < 12 → g ≠ f → t.mf g = s.mf g) ∧
        s.regsKept [Reg.MTR_STAT, Reg.MTR_F_STAT f, Reg.MTR_F_P f, Reg.MTR_F_Q f, Reg.MTR_F_P1 f] t ∧
        t = { s with regs := t.regs, mtr := t.mtr }) ∧
      (((s.mf f).since.all fun z => z.all fun x => !s.expired x 1000000000) = true →
        ∃ t, exec (.meterGap f) s = .next t ∧ t = s) ∧
      (∀ x, (s.mf f).since.getD 0 none = some x → s.expired x 1000000000 = true → s.meterOn f = true →
        s.flag (Reg.MTR_F_STAT_ZERO f) = false → ∃ t, exec (.meterGap f) s = .next t ∧ t.flag (Reg.MTR_F_STAT_ZERO f) = true ∧
          (s.news t).map (fun e => (e.1, e.2.1, e.2.2.1)) = [(srcId 0x50 (0x20 + f), 0x5003, 1)] ∧
          s.regsKept [Reg.MTR_F_STAT f] t ∧ t = { s with regs := t.regs, evt := t.evt, freeCtr := s.freeCtr + 1 })) ∧
    (s.tw < s.nextCommit ∧ s.nextCommit ≤ s.tw + s.meterPeriod * 2 ^ 16 ∧
      (s.nextCommit - s.tw / sec16 * sec16) % (s.meterPeriod * 2 ^ 16) = 0) ∧
    ((s.on secMtr = false ∨ (s.mtr.want = [] ∧ (s.commitInFlight = true ∨ s.tm.fc ≤ s.mtr.doneFc))) →
      ∃ t, exec .commitCoursePrepare s = .next t ∧ t = s) ∧
    (s.on secMtr = true → s.paired = false → s.mtr.want = [] → s.commitInFlight = false → s.mtr.doneFc < s.tm.fc →
      ∃ t, exec .commitCoursePrepare s = .next t ∧ t.mtr.work = s.mtr.work ∧ t.mtr.comm = s.mtr.comm ∧
        s.regsKept [Reg.CRS_CNT, Reg.CRS_BUSY_CNT, Reg.UNIT_IRQ .crs] t ∧ t = { s with regs := t.regs, crs := t.crs, mtr := t.mtr, hst := t.hst } ∧
        (s.inUse 7 < s.getF (Reg.CRS_PORT_QUOTA 7) → s.inFlight < 192 →
          (t.crs.slots.any fun c => c.port == 7 && c.st == .pending && c.sched == .time s.nextCommit && c.policy == 1 && c.acts == [totAll]) = true ∧
          t.mtr = s.mtr) ∧
        (s.getF (Reg.CRS_PORT_QUOTA 7) ≤ s.inUse 7 → t.mtr.want = [⟨causePeriod, none⟩] ∧ t.crs = s.crs)) ∧
    (∀ w, s.mtr.want.head? = some w → s.on secMtr = true → s.paired = false → ∃ t, exec .commitCoursePrepare s = .next t ∧
      t.mtr.work = s.mtr.work ∧ t.mtr.comm = s.mtr.comm ∧
      s.regsKept [Reg.CRS_CNT, Reg.CRS_BUSY_CNT, Reg.UNIT_IRQ .crs] t ∧ t = { s with regs := t.regs, crs := t.crs, mtr := t.mtr, hst := t.hst } ∧
      (s.inUse 7 < s.getF (Reg.CRS_PORT_QUOTA 7) → s.inFlight < 192 → t.mtr.want = s.mtr.want.drop 1 ∧
        (t.crs.slots.any fun c => c.port == 7 && c.st == .pending && c.sched == .immediate && c.acts == [totAll] &&
          c.tag == .commit w.cause w.preset) = true) ∧
      (s.getF (Reg.CRS_PORT_QUOTA 7) ≤ s.inUse 7 → t.mtr = s.mtr ∧ t.crs = s.crs)) ∧
    (s.mtr.writing = none → ∃ t, exec .commitWriteDone s = .next t ∧ t = s) ∧
    (∀ r, s.mtr.writing = some r → s.wy ≠ wyPaired → ∃ t, exec .commitWriteDone s = .next t ∧
      t.rd Reg.MTR_COMMIT_SEQ = r.seq % 2 ^ 32 ∧ t.rd96 Reg.MTR_COMMIT_TW_0 = twPack r.tw % 2 ^ 96 ∧ t.mtr.comm = r.values ∧
      t.flag ⟨Reg.UNIT_IRQ .mtr, 0, 0⟩ = true ∧ t.mtr.work = s.mtr.work ∧
      s.regsKept [Reg.MTR_COMMIT_SEQ, Reg.MTR_COMMIT_TW_0, Reg.MTR_COMMIT_TW_0 + 4, Reg.MTR_COMMIT_TW_0 + 8, Reg.MTR_STAT, Reg.UNIT_IRQ .mtr] t ∧
      t = { s with regs := t.regs, mtr := t.mtr, hst := t.hst } ∧
      (s.mtr.held = none → t.mtr.writing = none ∧ t.flag Reg.MTR_STAT_WRITING = false) ∧
      (∀ h, s.mtr.held = some h → t.mtr.writing = some { h with seq := s.mtr.nextSeq } ∧ t.mtr.held = none ∧ t.flag Reg.MTR_STAT_WRITING = true ∧
        t.mtr.nextSeq = (s.mtr.nextSeq + 1) % 2 ^ 32) ∧
      ((newestBank s.mtr.bankA s.mtr.bankB).any (fun x => x.2) = true → t.mtr.bankB = some r ∧ t.mtr.bankA = s.mtr.bankA) ∧
      ((newestBank s.mtr.bankA s.mtr.bankB).any (fun x => x.2) = false → t.mtr.bankA = some r ∧ t.mtr.bankB = s.mtr.bankB)) ∧
    (∀ i : Iface, ∀ v : Word, s.hostUp = true → v.toNat % 8 = 0 →
      (s.may i .operate = true → ∃ t, exec (.mtrCommit i v) s = .next t ∧
        t = { s with mtr := { s.mtr with want := s.mtr.want ++ [⟨causeHost, none⟩] }, hst := t.hst }) ∧
      (s.may i .operate = false → ∃ t, exec (.mtrCommit i v) s = .next t ∧ t.mtr = s.mtr ∧ t.flag Reg.HST_STAT_ACC_DENIED = true) ∧
      ((s.may i .engineer = false ∨ s.sealOpen = false) →
        (∃ t, exec (.mtrPreset i v) s = .next t ∧ t.mtr = s.mtr ∧ t.aud = s.aud ∧ t.flag Reg.HST_STAT_ACC_DENIED = true) ∧
        (∃ t, exec (.mtrAccept i v) s = .next t ∧ t.mtr = s.mtr ∧ t.aud = s.aud ∧ t.flag Reg.HST_STAT_ACC_DENIED = true)) ∧
      (s.may i .engineer = true → s.sealOpen = true →
        (∀ n, n = s.getF Reg.MTR_TOT_SET_IDX_IDX → n < 160 →
          (s.auditRoom 1 = true → ∃ t, exec (.mtrPreset i v) s = .next t ∧
            t.mtr = { s.mtr with want := s.mtr.want ++ [⟨causePreset, some (n, s.rd64 Reg.MTR_TOT_SET_0)⟩] } ∧
            ∃ r, t.aud.recs = s.aud.recs ++ [r] ∧ r.kind = 9 ∧ r.target = n ∧ r.before = s.totWork n ∧ r.after = s.rd64 Reg.MTR_TOT_SET_0) ∧
          (s.auditRoom 1 = false → ∃ t, exec (.mtrPreset i v) s = .next t ∧ t.mtr = s.mtr ∧ t.aud = s.aud ∧
            t.flag Reg.MTR_AUD_STAT_FULL_REJ = true ∧ t.flag Reg.HST_STAT_ACC_DENIED = true)) ∧
        (s.auditFree ≠ 0 → ∃ t, exec (.mtrAccept i v) s = .next t ∧ t.mtr = { s.mtr with accepted := true } ∧
          ∃ r, t.aud.recs = s.aud.recs ++ [r] ∧ r.kind = 10 ∧ t.flag Reg.MTR_STAT_TOT_INVALID = s.flag Reg.MTR_STAT_TOT_INVALID)))

/-- R404, R407, R410–R412.  The tamper level as a toggle, and KIND 8 only when something is freed, are the choice of log 41. -/
def Obligations.SealAndAuditLog : Prop :=
  ∀ (s : State), s.shaped = true → s.room 4 = true →
    ∀ link : Nat, link = (if s.aud.next = 1 then 0 else digest8 (sha256 s.aud.last)) →
    (s.sealOpen = true → ∃ t, exec .sealOpen s = .next t ∧ t = s) ∧
    (s.sealOpen = false → ∃ t, exec .sealClose s = .next t ∧ t = s) ∧
    (s.sealOpen = false → ∀ n, n = s.getF Reg.MTR_SEAL_STAT_OPENS →
      ∃ t, exec .sealOpen s = .next t ∧ t = { s with regs := t.regs, aud := t.aud, evt := t.evt, hst := t.hst, freeCtr := t.freeCtr, pwr := t.pwr } ∧ t.pwr = { s.pwr with rtcSec := t.pwr.rtcSec } ∧ (s.pwr.unpowered = false → t.pwr = s.pwr) ∧ 
        s.regsKept [Reg.MTR_SEAL_STAT, Reg.MTR_AUD_STAT, Reg.MTR_AUD_FIRST, Reg.MTR_AUD_LAST, Reg.UNIT_IRQ .mtr] t ∧ t.sealOpen = true ∧ t.getF Reg.MTR_SEAL_STAT_OPENS = (n + 1) % 256 ∧
        (s.pwr.unpowered = true → t.evt = s.evt ∧ t.aud.recs = s.aud.recs ∧ s.regsKept [Reg.MTR_SEAL_STAT] t ∧
          t.aud.held.map (fun h => (h.kind, h.before)) = if s.aud.held.length < 4 then s.aud.held.map (fun h => (h.kind, h.before)) ++ [(5, n)] else s.aud.held.map (fun h => (h.kind, h.before))) ∧
        (s.pwr.unpowered = false → (s.news t).map (fun e => (e.1, e.2.1, e.2.2.1)) = [(sealSrc, 0x5006, 1)] ∧
          t.flag ⟨Reg.UNIT_IRQ .mtr, 2, 2⟩ = true ∧
          (s.auditFree = 0 → t.aud = s.aud ∧ t.getF Reg.MTR_AUD_STAT_LOST = satAdd (Reg.MTR_AUD_STAT_LOST.hi - Reg.MTR_AUD_STAT_LOST.lo + 1) (s.getF Reg.MTR_AUD_STAT_LOST) 1) ∧
          (s.auditFree ≠ 0 → ∃ r, t.aud.recs = s.aud.recs ++ [r] ∧ r.kind = 5 ∧ r.before = n ∧ r.after = (n + 1) % 256 ∧ r.seq = s.aud.next ∧
            r.chain = link ∧ r.tw = twPack s.tw ∧ r.crc = crc32 r.body ∧ t.aud.next = s.aud.next + 1 ∧ t.aud.last = r.bytes))) ∧
    (s.sealOpen = true → ∃ t, exec .sealClose s = .next t ∧ t = { s with regs := t.regs, aud := t.aud, evt := t.evt, hst := t.hst, freeCtr := t.freeCtr, pwr := t.pwr } ∧ t.pwr = { s.pwr with rtcSec := t.pwr.rtcSec } ∧ (s.pwr.unpowered = false → t.pwr = s.pwr) ∧ 
        s.regsKept [Reg.MTR_SEAL_STAT, Reg.MTR_AUD_STAT, Reg.MTR_AUD_FIRST, Reg.MTR_AUD_LAST, Reg.UNIT_IRQ .mtr] t ∧ t.sealOpen = false ∧ t.aud.closes = (s.aud.closes + 1) % 256 ∧
      (s.pwr.unpowered = true → t.evt = s.evt ∧ t.aud.recs = s.aud.recs ∧ s.regsKept [Reg.MTR_SEAL_STAT] t) ∧
      (s.pwr.unpowered = false → (s.news t).map (fun e => (e.1, e.2.1, e.2.2.1)) = [(sealSrc, 0x5007, 2)] ∧ t.flag ⟨Reg.UNIT_IRQ .mtr, 2, 2⟩ = true ∧
        (s.auditFree ≠ 0 → ∃ r, t.aud.recs = s.aud.recs ++ [r] ∧ r.kind = 6 ∧ r.before = s.aud.closes ∧ r.seq = s.aud.next ∧ r.chain = link))) ∧
    (∀ n, n = s.getF Reg.MTR_SEAL_STAT_TAMPERS → ∃ t, exec .tamper s = .next t ∧ t = { s with regs := t.regs, aud := t.aud, evt := t.evt, hst := t.hst, freeCtr := t.freeCtr, pwr := t.pwr } ∧ t.pwr = { s.pwr with rtcSec := t.pwr.rtcSec } ∧ (s.pwr.unpowered = false → t.pwr = s.pwr) ∧ 
        s.regsKept [Reg.MTR_SEAL_STAT, Reg.MTR_AUD_STAT, Reg.MTR_AUD_FIRST, Reg.MTR_AUD_LAST, Reg.UNIT_IRQ .mtr] t ∧ t.flag Reg.MTR_SEAL_STAT_TAMPER = !s.flag Reg.MTR_SEAL_STAT_TAMPER ∧
      t.getF Reg.MTR_SEAL_STAT_TAMPERS = min 255 (n + 1) ∧
      (s.pwr.unpowered = true → t.evt = s.evt ∧ t.aud.recs = s.aud.recs ∧ s.regsKept [Reg.MTR_SEAL_STAT] t) ∧
      (s.pwr.unpowered = false → (s.news t).map (fun e => (e.1, e.2.1, e.2.2.1)) = [(sealSrc, 0x5008, 1)] ∧ t.flag ⟨Reg.UNIT_IRQ .mtr, 3, 3⟩ = true ∧
        (s.auditFree ≠ 0 → ∃ r, t.aud.recs = s.aud.recs ++ [r] ∧ r.kind = 7 ∧ r.before = n ∧ r.after = min 255 (n + 1) ∧ r.chain = link))) ∧
    (∀ i : Iface, s.hostUp = true →
      (∀ n, n = s.rd Reg.MTR_AUD_SEL → (s.aud.recs.all fun r => r.seq != n) = true → ∃ t, exec (.auditRecordRead i) s = .next t ∧
        s.sent t = [.readData i (Reg.MTR_AUD_RD 0) 0xFFFFFFFF] ∧ t.snapOf i (Reg.MTR_AUD_RD 0) = some (List.replicate 16 0xFFFFFFFF) ∧
        t = { s with hst := t.hst, tx := t.tx }) ∧
      (∀ r, (s.aud.recs.find? fun r => r.seq == s.rd Reg.MTR_AUD_SEL) = some r → ∃ t, exec (.auditRecordRead i) s = .next t ∧
        s.sent t = [.readData i (Reg.MTR_AUD_RD 0) (leNat (r.bytes.take 4))] ∧ t.snapOf i (Reg.MTR_AUD_RD 0) = some (wordsOf r.bytes) ∧
        (t.aud.recs.find? fun x => x.seq == r.seq) = some { r with read := true } ∧ t = { s with aud := t.aud, hst := t.hst, tx := t.tx }) ∧
      (∀ v : Word, s.may i .engineer = false → ∃ t, exec (.auditAck i v) s = .next t ∧ t = { s with regs := t.regs, hst := t.hst } ∧ s.regsKept [Reg.HST_STAT, Reg.UNIT_IRQ .hst] t ∧ t.flag Reg.HST_STAT_ACC_DENIED = true) ∧
      (∀ v : Word, s.may i .engineer = true → ∀ due, due = (s.aud.recs.takeWhile fun r => decide (r.seq ≤ v.toNat)) →
        ∀ gone, gone = (due.takeWhile fun r => r.read) → ∃ t, exec (.auditAck i v) s = .next t ∧ t = { s with regs := t.regs, aud := t.aud, hst := t.hst } ∧
        (gone.length < due.length → t.flag Reg.MTR_AUD_STAT_ACK_SHORT = true) ∧ (gone = [] → t.aud = s.aud) ∧
        (gone ≠ [] → ∃ r, t.aud.recs = s.aud.recs.drop gone.length ++ [r] ∧ r.kind = 8 ∧ some r.before = gone.head?.map (·.seq) ∧
          some r.after = gone.getLast?.map (·.seq) ∧ r.chain = link)))

/-- R416–R426, R435, R438, R450, R451, for cores without metering runs where a clause says so (the runs have statements of their own); the code of a program is opaque (R428), its result an operand. The value of TASK_OVERRUN is free (log 17). -/
def Obligations.TaskCyclesFollowTheGrid : Prop :=
  ∀ (s : State), s.shaped = true → s.room 8 = true → ∀ c, c < 4 →
    (s.getF (Reg.BLK_C_TASK_PHASE c) < s.taskK c → s.nextSync c % s.taskK c = s.getF (Reg.BLK_C_TASK_PHASE c) ∧
      (s.core c).done < s.nextSync c ∧ s.nextSync c ≤ (s.core c).done + s.taskK c) ∧
    (∀ sc : List (Nat × Bool),
      ((s.cycles c = false ∨ s.baseIdx < s.nextSync c) → ∃ t, exec (.taskSync c sc) s = .next t ∧ t = s) ∧
      (s.cycles c = true → s.nextSync c ≤ s.baseIdx → s.copiesOnly (1 + c) = false → s.coreRuns c = [] →
        ∃ t, exec (.taskSync c sc) s = .next t ∧ t.getF (Reg.BLK_C_CYCLE_COUNT c) = (s.getF (Reg.BLK_C_CYCLE_COUNT c) + 1) % 2 ^ 32 ∧
          (t.core c).done = s.nextSync c ∧ t.crs = s.crs ∧ (∀ k, k < 4 → k ≠ c → t.core k = s.core k) ∧
          (∀ x, (s.core c).exec = some x → (t.core c).exec = some { x with skipped := x.skipped + 1 } ∧ (t.core c).active = (s.core c).active ∧
            t.getF (Reg.BLK_C_OVR_SKIPPED c) = min 65535 (s.getF (Reg.BLK_C_OVR_SKIPPED c) + 1) ∧
            s.regsKept [Reg.BLK_C_CYCLE c, Reg.BLK_C_OVR c] t) ∧
          ((s.core c).exec = none → (s.core c).hold = none → s.exchDue c (s.nextSync c) = false →
            (t.core c).exec = some ⟨s.nextSync c, s.tm.runt, s.nextSync c * s.base16, s.inImage, [], 0, false⟩ ∧
            (t.core c).active = ((s.core c).active.map fun p => p.scan sc) ∧ s.regsKept [Reg.BLK_C_CYCLE c] t) ∧
          ((s.core c).exec = none → ∀ q, (s.core c).hold = some q → q.2 = true → q.1 < s.nextSync c → ∀ old, (s.core c).active = some old →
            ∀ new, (s.core c).shadow = some new → (t.core c).active.map (·.image) = some new.image ∧ (t.core c).shadow = some old ∧
              (t.core c).hold = none ∧ t.task c = tkRunning ∧ (t.core c).exec.isSome = true ∧
              t.getF (Reg.BLK_C_XR_0_CARRIED c) = (progInsts new.image).countP (fun x => (progInsts old.image).any fun o => o.same x) % 4096 ∧
              (s.news t).head?.map (fun e => (e.1, e.2.1, e.2.2.1)) = some (coreSrc c, 0x6005, 2) ∧
              t.flag ⟨Reg.UNIT_IRQ .blk, 4 * c + 1, 4 * c + 1⟩ = true))) ∧
    (∀ dat : List (Nat × List Byte), ∀ outs : List (List Nat),
      ((s.core c).exec = none → ∃ t, exec (.taskExecutionComplete c dat outs) s = .next t ∧ t = s) ∧
      (∀ x, (s.core c).exec = some x → x.runs = [] → s.copiesOnly (1 + c) = false → s.paired = false → (s.core c).vpDue = [] → (s.core c).retain = false →
        s.baseIdx < s.nextSync c → ∃ t, exec (.taskExecutionComplete c dat outs) s = .next t ∧ (t.core c).exec = none ∧
          t.rd (Reg.BLK_C_EXEC_LAST c) = (s.tm.runt - x.start) / 2 ^ 32 % 2 ^ 32 ∧ t.flag (Reg.BLK_C_STAT_OVERRUN c) = false ∧
          (t.core c).active = ((s.core c).active.map fun p => Prog.patch { p with data := dat.foldl (fun (d : List Byte) x => putBytes d x.1 x.2) p.data } (s.taskNs c) []) ∧
          (∀ k, k < 4 → k ≠ c → t.core k = s.core k) ∧
          ((x.late = true ∨ s.taskLate c x = true) → t.crs = s.crs) ∧
          (x.late = false → s.taskLate c x = true → (s.news t).map (fun e => (e.1, e.2.1, e.2.2.1)) = [(coreSrc c, 0x6001, 1)] ∧
            t.getF (Reg.BLK_C_OVR_OVERRUNS c) = min 65535 (s.getF (Reg.BLK_C_OVR_OVERRUNS c) + 1)) ∧
          (x.late = false → s.taskLate c x = false → ∀ cs, ((s.core c).active.map fun p => progCourses p.image) = some cs →
            ∀ acts, acts = (cs.headD (false, [])).2 → cs = [(false, acts)] → ∀ r : CReq, r = { reqOf (1 + c) (.time ((x.idx + s.taskK c) * s.base16)) 0 (acts.zipIdx.map fun a => ⟨a.1.1, a.1.2, (outs.getD 0 []).getD a.2 0⟩) (.out c) with rset := false } →
            (s.refusal r = 0 → (t.crs.slots.any fun k => k.port == 1 + c && k.st != .free && k.sched == .time ((x.idx + s.taskK c) * s.base16) && k.policy == 0 && k.acts == r.acts) = true) ∧
            (s.refusal r ≠ 0 → t.crs = s.crs ∧ t.getF (Reg.BLK_C_OUTD_COUNT c) = min (2 ^ 32 - 1) (s.getF (Reg.BLK_C_OUTD_COUNT c) + 1) ∧
              s.news t = [(coreSrc c, 0x6007, 2, s.refusal r)])))) ∧
    (((s.core c).exec.all fun x => x.late || !s.taskLate c x) = true → ∃ t, exec (.taskOverrun c) s = .next t ∧ t = s) ∧
    (∀ x, (s.core c).exec = some x → x.late = false → s.taskLate c x = true →
      ∃ t, exec (.taskOverrun c) s = .next t ∧ (t.core c).exec = some { x with late := true } ∧ t.flag (Reg.BLK_C_STAT_OVERRUN c) = true ∧
        t.getF (Reg.BLK_C_OVR_OVERRUNS c) = min 65535 (s.getF (Reg.BLK_C_OVR_OVERRUNS c) + 1) ∧
        (s.news t).map (fun e => (e.1, e.2.1, e.2.2.1)) = [(coreSrc c, 0x6001, 1)] ∧ t.flag ⟨Reg.UNIT_IRQ .blk, 4 * c, 4 * c⟩ = true ∧
        s.regsKept [Reg.BLK_C_STAT c, Reg.BLK_C_OVR c, Reg.UNIT_IRQ .blk] t ∧ t.crs = s.crs) ∧
    (∀ x, (s.core c).exec = some x → ∀ big, big = decide (x.start + s.getF (Reg.BLK_C_LIM_XLIM c) * s.taskNs c * 2 ^ 32 < s.tm.runt) →
      (big = false → ∃ t, exec (.taskFault c) s = .next t ∧ t = s) ∧
      (big = true → ∃ t, exec (.taskFault c) s = .next t ∧ t.task c = tkFault ∧ (t.core c).exec = none ∧ (t.core c).active = (s.core c).active ∧
        (s.news t).map (fun e => (e.1, e.2.1, e.2.2.1)) = [(coreSrc c, 0x6002, 1)] ∧ t.flag ⟨Reg.UNIT_IRQ .blk, 4 * c + 3, 4 * c + 3⟩ = true ∧
        t.crs = s.crs ∧ s.regsKept [Reg.BLK_C_STAT c, Reg.UNIT_IRQ .blk] t)) ∧
    (∀ i : Iface, ∀ v : Word, s.hostUp = true → s.on (secCore c) = true →
      (s.may i .operate = false →
        (∃ t, exec (.blkStart i c v) s = .next t ∧ t.blk = s.blk ∧ t.flag Reg.HST_STAT_ACC_DENIED = true ∧ t.task c = s.task c) ∧
        (∃ t, exec (.blkStop i c v) s = .next t ∧ t.blk = s.blk ∧ t.flag Reg.HST_STAT_ACC_DENIED = true ∧ t.task c = s.task c)) ∧
      (s.may i .operate = true → ∀ p, (s.core c).active = some p →
        (s.task c = tkStopped → ∃ t, exec (.blkStart i c v) s = .next t ∧ t.task c = tkRunning ∧ (t.core c).active = some (p.convert (s.taskNs c) fun _ => true) ∧
          (t.core c).done = s.baseIdx ∧ s.regsKept [Reg.BLK_C_STAT c] t) ∧
        (s.task c = tkFault → ∃ t, exec (.blkStart i c v) s = .next t ∧ t.task c = tkRunning ∧
          (t.core c).active = some (((s.core c).restored p.image).convert (s.taskNs c) fun _ => true) ∧ s.regsKept [Reg.BLK_C_STAT c] t) ∧
        (s.task c = tkRunning → ∃ t, exec (.blkStart i c v) s = .next t ∧ t = { s with hst := t.hst })) ∧
      (s.may i .operate = true → s.task c ≠ tkRunning → s.task c ≠ tkHold →
        ∃ t, exec (.blkStop i c v) s = .next t ∧ t = { s with hst := t.hst }) ∧
      (s.may i .operate = true → s.task c = tkRunning → (s.core c).hold = none → (s.core c).vpDue = [] →
        ∃ t, exec (.blkStop i c v) s = .next t ∧ t.task c = tkStopped ∧ (t.core c).exec = none ∧
          (t.core c).active = (s.core c).active.map (fun p => p.patch (s.taskNs c) []) ∧ s.regsKept [Reg.BLK_C_STAT c] t))

/-- R430, R431, R442–R444, R447–R449.  The code for a LOAD during HOLD and the swap of a task outside the grid at the copy are log 42. -/
def Obligations.ProgramsAreStoredLoadedPatchedExchanged : Prop :=
  ∀ (s : State), s.shaped = true → s.room 8 = true →
    (∀ i : Iface, ∀ v : Word, s.hostUp = true → ∀ n, n = v.toNat / 256 % 8 →
      (s.may i .engineer = false →
        (∃ t, exec (.blkStore i v) s = .next t ∧ t.blk = s.blk ∧ t.getF Reg.BLK_ERR_CODE = 0x31 ∧ t.getF Reg.BLK_ERR_ENTRY = n ∧ t.flag Reg.HST_STAT_ACC_DENIED = true) ∧
        (∃ t, exec (.blkInvalidate i v) s = .next t ∧ t.blk = s.blk ∧ t.getF Reg.BLK_ERR_CODE = 0x31 ∧ t.flag Reg.HST_STAT_ACC_DENIED = true) ∧
        (∀ c, c < 4 → s.on (secCore c) = true →
          (∃ t, exec (.blkLoad i c v) s = .next t ∧ t.blk = s.blk ∧ t.getF Reg.BLK_ERR_CODE = 0x31 ∧ t.getF Reg.BLK_ERR_CORE = c) ∧
          (∃ t, exec (.blkExch i c v) s = .next t ∧ t.blk = s.blk ∧ t.crs = s.crs ∧ t.getF Reg.BLK_ERR_CODE = 0x31 ∧ t.getF Reg.BLK_ERR_CORE = c))) ∧
      (s.may i .engineer = true →
        (s.blk.op.isSome = true →
          (∃ t, exec (.blkStore i v) s = .next t ∧ t.blk = s.blk ∧ t.getF Reg.BLK_ERR_CODE = 0x30 ∧ s.regsKept [Reg.BLK_ERR, Reg.UNIT_IRQ .blk] t) ∧
          (∃ t, exec (.blkInvalidate i v) s = .next t ∧ t.blk = s.blk ∧ t.getF Reg.BLK_ERR_CODE = 0x30 ∧ s.regsKept [Reg.BLK_ERR, Reg.UNIT_IRQ .blk] t)) ∧
        (s.blk.op = none → ∀ a, a = s.getF Reg.BLK_SRC_ADDR_ADDR * 16 → ∀ len, len = s.rd Reg.BLK_SRC_LEN →
          ((s.dramSize < a + len ∨ progMax < len ∨ len % 16 ≠ 0) → ∃ t, exec (.blkStore i v) s = .next t ∧ t.blk = s.blk ∧
            t.getF Reg.BLK_ERR_CODE = 0x37 ∧ s.regsKept [Reg.BLK_ERR, Reg.UNIT_IRQ .blk] t) ∧
          (a + len ≤ s.dramSize → len ≤ progMax → len % 16 = 0 → ∀ im, im = s.dramRd a len →
            ∃ t, exec (.blkStore i v) s = .next t ∧
              (s.progVerify im ≠ 0 → t.blk = s.blk ∧ t.getF Reg.BLK_ERR_CODE = s.progVerify im % 256 ∧
                t.getF Reg.BLK_ERR_ENTRY = n ∧ s.regsKept [Reg.BLK_ERR, Reg.UNIT_IRQ .blk] t) ∧
              (s.progVerify im = 0 → t.blk.op = some (n, im) ∧ t.blk.store = s.blk.store.set n none ∧
                t.rd (Reg.BLK_PS_0 n) = 0 ∧ t.rd (Reg.BLK_PS_1 n) = 0 ∧ t.blk.core = s.blk.core ∧
                s.regsKept ([Reg.BLK_PS_0 n, Reg.BLK_PS_1 n] ++ (List.range 4).map Reg.BLK_C_STAT) t))) ∧
        (s.blk.op = none → (((List.range 4).any fun c => s.bootWould c == some n) = true →
          ∃ t, exec (.blkInvalidate i v) s = .next t ∧ t.blk = s.blk ∧ t.getF Reg.BLK_ERR_CODE = 0x58 ∧ s.regsKept [Reg.BLK_ERR, Reg.UNIT_IRQ .blk] t) ∧
          (((List.range 4).any fun c => s.bootWould c == some n) = false →
          ∃ t, exec (.blkInvalidate i v) s = .next t ∧ t.blk = { s.blk with store := s.blk.store.set n none } ∧ t.rd (Reg.BLK_PS_0 n) = 0 ∧
            t.rd (Reg.BLK_PS_1 n) = 0)) ∧
        (∀ c, c < 4 → s.on (secCore c) = true →
          ((s.core c).loading.isSome = true → ∃ t, exec (.blkLoad i c v) s = .next t ∧ t.blk = s.blk ∧ t.getF Reg.BLK_ERR_CODE = 0x30) ∧
          ((s.core c).loading = none → (s.core c).hold.isSome = true → ∃ t, exec (.blkLoad i c v) s = .next t ∧ t.blk = s.blk ∧ t.getF Reg.BLK_ERR_CODE = 0x58) ∧
          ((s.core c).loading = none → (s.core c).hold = none → ∃ t, exec (.blkLoad i c v) s = .next t ∧ (t.core c).loading = some n ∧
            t.getF (Reg.BLK_C_STAT_SHADOW c) = 1 ∧ s.regsKept [Reg.BLK_C_STAT c] t ∧ (∀ k, k < 4 → k ≠ c → t.core k = s.core k)) ∧
          (s.paired = false → s.copiesOnly (1 + c) = false → s.inUse (1 + c) < s.getF (Reg.CRS_PORT_QUOTA (1 + c)) → s.inFlight < 192 →
            ∃ t, exec (.blkExch i c v) s = .next t ∧ t.core c = s.core c ∧
              (t.crs.slots.any fun x => x.port == 1 + c && x.st != .free && x.acts == [⟨12 * 2 ^ 28 + c, 0, 0⟩] &&
                x.sched == if s.cycles c then .time ((s.nextQual c s.baseIdx + s.taskK c) * s.base16) else .immediate) = true)))) ∧
    (s.blk.op = none → ∃ t, exec .blkStoreDone s = .next t ∧ t = s) ∧
    (∀ p, s.blk.op = some p → p.1 < 8 → ∃ t, exec .blkStoreDone s = .next t ∧ t.blk = { s.blk with op := none, store := s.blk.store.set p.1 (some p.2) } ∧
      t.rd (Reg.BLK_PS_0 p.1) = imgStamp p.2 % 2 ^ 32 ∧ t.rd (Reg.BLK_PS_1 p.1) = imgStamp p.2 / 2 ^ 32 % 2 ^ 32 ∧
      t.flag ⟨Reg.UNIT_IRQ .blk, 16, 16⟩ = true) ∧
    (∀ c, c < 4 →
      ((s.core c).loading = none → ∃ t, exec (.blkLoadDone c) s = .next t ∧ t = s) ∧
      (∀ n, (s.core c).loading = some n → ∃ t, exec (.blkLoadDone c) s = .next t ∧ (t.core c).loading = none ∧ (t.core c).active = (s.core c).active ∧
        (s.loadErr c (s.store n) = 0 → (t.core c).shadow = ((s.store n).map fun x => (progInit x).convert (s.taskNs c) fun _ => true) ∧ t.getF (Reg.BLK_C_STAT_SHADOW c) = 2) ∧
        (s.loadErr c (s.store n) ≠ 0 → (t.core c).shadow = none ∧ t.getF (Reg.BLK_C_STAT_SHADOW c) = 3 ∧
          t.getF (Reg.BLK_C_XSTAT_ERR c) = s.loadErr c (s.store n) % 256)) ∧
      (∀ q, (s.core c).hold = some q → q.2 = false → (s.core c).exec = none → s.task c = tkHold → ∀ old, (s.core c).active = some old →
        ∀ new, (s.core c).shadow = some new → ∃ t, exec (.exchCopyDone c) s = .next t ∧ (t.core c).shadow = some (carryOver (s.taskNs c) old new) ∧ (t.core c).active = some old ∧
          (t.core c).hold = some (q.1, true) ∧ t = { s with blk := t.blk }) ∧
      ((s.core c).hold = none → ∃ t, exec (.exchCopyDone c) s = .next t ∧ t = s) ∧
      (∀ i : Iface, ∀ v : Word, s.hostUp = true → s.on (secCore c) = true → s.copiesOnly (1 + c) = false → ∀ n, n = s.getF (Reg.BLK_C_VP_CTL_COUNT c) →
        ((n = 0 ∨ 64 < n) → ∃ t, exec (.blkVpatch i c v) s = .next t ∧ t.getF (Reg.BLK_C_VP_STAT_ERR c) = 0x42 ∧ t.crs = s.crs ∧ t.blk = s.blk ∧
          s.regsKept [Reg.BLK_C_VP_STAT c] t) ∧
        (0 < n → n ≤ 64 → s.vpInFlight c = false → ∀ p, (s.core c).active = some p →
          ∀ es, es = ((List.range n).map fun k => (s.getF (Reg.BLK_C_VP_IDX_VIDX c k), s.rd (Reg.BLK_C_VP_VAL c k))) →
          (∀ k, (es.findIdx? fun x => entryErr p.image (s.level i) x != 0) = some k → ∃ t, exec (.blkVpatch i c v) s = .next t ∧
            t.getF (Reg.BLK_C_VP_STAT_ERR c) = entryErr p.image (s.level i) (es.getD k (0, 0)) ∧ t.getF (Reg.BLK_C_VP_STAT_ENTRY c) = k ∧
            t.crs = s.crs ∧ t.blk = s.blk) ∧
          (s.paired = false → (es.all fun x => entryErr p.image (s.level i) x == 0) = true → s.inUse (1 + c) < s.getF (Reg.CRS_PORT_QUOTA (1 + c)) →
            s.inFlight < 192 → ∃ t, exec (.blkVpatch i c v) s = .next t ∧ (t.core c).vpBuf = es ∧ (t.core c).active = some p ∧
              (t.crs.slots.any fun x => x.port == 1 + c && x.st != .free && x.entries == es &&
                x.acts == [⟨11 * 2 ^ 28 + c, ((s.core c).vpGen + 1) % 256, 0⟩]) = true))))

/-- R455, R460, R461, R464, R471–R473, R475, R479–R481, R483, R484, for frames with one answer where a clause says so. That the decision on a set-mode course falls at the next departure is the choice of log 43. -/
def Obligations.RingMasterRunsItsCycle : Prop :=
  ∀ (s : State), s.shaped = true → s.room 80 = true → s.paired = false →
    (∀ due, due = (s.ringMaster && decide (1 ≤ s.ring ∧ s.ring ≤ 3) && decide (s.departs s.yul.next ≤ s.tw)) →
      (due = false → ∃ t, exec .ringFrameDepart s = .next t ∧ t = s) ∧
      (due = true → ∀ n, n = s.yul.next → ∃ t, exec .ringFrameDepart s = .next t ∧ t.yul.sent = some n ∧ t.yul.next = n + 1 ∧
        t.rd Reg.YUL_CYCLE = n % 2 ^ 32 ∧ t.yul.answered = [] ∧ t.yul.sentAt = s.tm.runt ∧ t.dram = s.dram ∧ t.kln = s.kln ∧
        t.ring = (if s.ring = yRun ∧ (s.yul.toLine = some true ∨ s.linkUp 3 = false) then yLine else if s.ring = yLine ∧ s.yul.toLine = some false then yRun else s.ring) ∧
        t.yul.ports = (if t.ring = yLine then [2, 3] else [2]) ∧
        (∃ f : RingFrame, f.cycle = n % 2 ^ 32 ∧ f.ty = b2n (s.ring == yScan) ∧ f.line = (t.ring == yLine) ∧
          (s.ring = yScan → f.reqs = [] ∧ f.recs.length = 64 ∧ (f.recs.all fun r => !r.claimed) = true) ∧
          (s.ring ≠ yScan → f.reqs.map (·.stn) = s.stations.filter (fun i => s.stnState i != stAbsent) ∧
            (f.reqs.all fun r => r.hold == (s.stnState r.stn != stOnline) && r.out.length == s.getF (Reg.YUL_ST_CFG_OUTLEN r.stn)) = true) ∧
          (f.reqs = [] → t.yul.leaving = none ∧
            s.sent t = t.yul.ports.map fun p => .frame p none (.ring { f with src := s.portMac p })) ∧
          (f.reqs ≠ [] → s.sent t = [] ∧ ∃ due : List Nat, t.yul.leaving = some (f, due) ∧ due.length = f.reqs.length ∧
            due.head? = some (s.tm.nom + 38 * 8 * 2 ^ 32))) ∧
        t.yul.tags.length ≤ 8 ∧ (t.yul.tags.all fun g => (t.slot g.slot).rset && (t.slot g.slot).ringFrame == some n && (t.slot g.slot).st == .pending) = true ∧
        (∀ g, s.yul.tags.head? = some g → s.yul.tags.length = 1 → (s.slot g.slot).st = .pending → g.slot < 192 →
          ((g.stns.all fun i => s.stnState i == stOnline && s.yul.acks.any fun a => a.1 == i && a.2.testBit g.tag) = true → (t.slot g.slot).st = .committed) ∧
          ((g.stns.all fun i => s.stnState i == stOnline && s.yul.acks.any fun a => a.1 == i && a.2.testBit g.tag) = false → (t.slot g.slot).st = .discarded ∧
            (t.slot g.slot).status = stStation)) ∧
        (∀ k, k < 192 → (s.slot k).st = .pending → (s.slot k).rset = true → (s.yul.tags.all fun g => g.slot != k) = true →
          ∀ m, (s.slot k).ringFrame = some m → m < n → (t.slot k).st = .discarded ∧ (t.slot k).status = stStation) ∧
        (∀ k, k < 192 → (s.slot k).rset = false → (s.yul.tags.all fun g => g.slot != k) = true → t.slot k = s.slot k))) ∧
    (∀ f d, s.yul.leaving = some (f, [d]) → f.reqs.length = 1 → d ≤ s.tm.nom + incNominal * s.tm.div → s.yul.ports = [2] → s.pending = [] →
      s.pwr.unpowered = false → s.crs.arms = [] → s.crs.decisions = [] → s.prt.jobs = [] → (s.prt.comp.all fun x => x.rise.isNone) = true →
      ∀ rs, rs = (f.reqs.map fun r => { r with out := s.pack (s.stnEntries true r.stn) r.out.length }) →
      ∃ t, step s = .next t ∧ t.yul.leaving = none ∧ t.tx.getLast? = some (.frame 2 none (.ring { f with src := s.portMac 2, reqs := rs }))) ∧
    (∀ p, p < 4 → ∀ f : RingFrame,
      (s.yul.sent = none → ∃ t, exec (.ringFrameReturn p f) s = .next t ∧ t = s) ∧
      (∀ n, s.yul.sent = some n → ∀ g : RingFrame, g = { f with cycle := n % 2 ^ 32, etype := s.getF Reg.YUL_CTL_ETYPE } →
        ((s.ringMaster = false ∨ p < 2 ∨ 1 < f.ty ∨ n * s.base16 * 2 ^ 16 ≤ s.tm.prev) → ∃ t, exec (.ringFrameReturn p g) s = .next t ∧ t = s) ∧
        (s.ringMaster = true → 2 ≤ p → s.tm.prev < n * s.base16 * 2 ^ 16 →
          (f.etype ≠ s.getF Reg.YUL_CTL_ETYPE → ∃ t, exec (.ringFrameReturn p { g with etype := f.etype }) s = .next t ∧ t = s) ∧
          (g.ty = 1 → ∃ t, exec (.ringFrameReturn p g) s = .next t ∧
            (p = 3 → s.yul.scanCnt = some (g.recs.countP fun r => r.claimed) → t.ring = yRun ∧ t.yul.found = g.recs.countP (fun r => r.claimed) ∧
              (∀ i, i < 64 → s.flag (Reg.YUL_ST_CFG_EN i) = true → t.yul.found ≤ i → t.stnState i = stAbsent) ∧
              (∀ i, i < 64 → s.flag (Reg.YUL_ST_CFG_EN i) = true → i < t.yul.found → s.stnState i = stAbsent → t.stnState i = stOffline)) ∧
            ((p ≠ 3 ∨ s.yul.scanCnt ≠ some (g.recs.countP fun r => r.claimed)) → t.ring = s.ring ∧ t = { s with yul := t.yul })) ∧
          (∀ w : RingAns, ∀ i, i < 3 → ∀ a : RingAns, a = { w with stn := i, seen := true } → s.flag (Reg.YUL_ST_CFG_EN i) = true → s.stnState i ≠ stAbsent →
            s.yul.answered.contains i = false → ∀ k : RingFrame, k = { g with ty := 0, answers := [a] } →
            ∃ t, exec (.ringFrameReturn p k) s = .next t ∧ t.yul.answered = s.yul.answered ++ [i] ∧ t.flag (Reg.YUL_ST_STAT_SAFE i) = a.safe ∧
              t.flag (Reg.YUL_ST_STAT_MISSED i) = a.missed ∧ t.rd (Reg.YUL_ST_RXSTAMP i) = a.stamp % 2 ^ 32 ∧ (t.stn i).loss = 0 ∧
              t.getF (Reg.YUL_ST_STAT_GOOD i) = min 255 (s.getF (Reg.YUL_ST_STAT_GOOD i) + 1) ∧
              ((s.stnEntries false i).all fun e => s.getF (Reg.YUL_MAP_0_TYPE e) == 5 || t.rd (Reg.YUL_PI e) == s.unpack e a.input % 2 ^ 32) = true ∧
              (s.stnState i = stOnline → a.stamp % 2 ^ 32 = s.rd (Reg.YUL_ST_STAMP i) → t.stnState i = stOnline) ∧
              ((s.stnState i = stOnline ∨ s.stnState i = stHeld) → a.stamp % 2 ^ 32 ≠ s.rd (Reg.YUL_ST_STAMP i) → (s.stn i).ovr = none →
                t.stnState i = stHeld ∧ ((s.stn i).stampSeen ≠ some (a.stamp % 2 ^ 32) → (s.news t).any (fun e => e == (stnSrc i, 0x7003, 1, a.stamp % 2 ^ 32)) = true)) ∧
              (s.stnState i = stRejoin → (s.stn i).good + 1 < s.getF Reg.YUL_CTL_REJOIN → t.stnState i = stRejoin) ∧
              (s.stnState i = stRejoin → max 1 (s.getF Reg.YUL_CTL_REJOIN) ≤ (s.stn i).good + 1 → a.stamp % 2 ^ 32 = s.rd (Reg.YUL_ST_STAMP i) →
                t.stnState i = stOnline ∧ (s.news t).any (fun e => e.1 == stnSrc i && e.2.1 == 0x7008) = true) ∧
              (s.stnState i = stOffline → 1 < s.getF Reg.YUL_CTL_REJOIN → t.stnState i = stRejoin) ∧
              (∀ j, j < 64 → j ≠ i → t.stnState j = s.stnState j))))) ∧
    (s.yul.sent = none → ∃ t, exec .ringCycleDeadline s = .next t ∧
      ((s.ringMaster = false ∨ s.ring ≠ yStopped ∨ s.tw < s.yul.next * s.base16) → t = s) ∧
      (s.ringMaster = true → s.ring = yStopped → s.yul.next * s.base16 ≤ s.tw → t.yul.next = s.yul.next + 1 ∧ t.evt = s.evt)) ∧
    (∀ n, s.yul.sent = some n →
      ((s.ringMaster = false ∨ s.tw < n * s.base16 ∨ (s.ringComes fun _ => true) = true) → ∃ t, exec .ringCycleDeadline s = .next t ∧ t = s) ∧
      (s.ringMaster = true → n * s.base16 ≤ s.tw → (s.ringComes fun _ => true) = false → ∃ t, exec .ringCycleDeadline s = .next t ∧ t.yul.sent = none ∧
        t.getF Reg.YUL_CNT_LOST = min (2 ^ 32 - 1) (s.getF Reg.YUL_CNT_LOST + (s.yul.ports.filter fun p => !s.yul.back.contains p).length) ∧
        ((s.ring = yRun ∨ s.ring = yLine) → ∀ i, i < 64 → s.flag (Reg.YUL_ST_CFG_EN i) = true → s.stnState i ≠ stAbsent →
          (s.yul.answered.contains i = true → t.stnState i = s.stnState i ∧ t.stn i = s.stn i) ∧
          (s.yul.answered.contains i = false → (t.stn i).loss = (s.stn i).loss + 1 ∧ t.getF (Reg.YUL_ST_STAT_GOOD i) = 0 ∧
            (max 1 (s.getF Reg.YUL_CTL_LOSS) ≤ (s.stn i).loss + 1 → t.stnState i = stOffline ∧
              (s.stnState i ≠ stOffline → (s.news t).any (fun e => e.1 == stnSrc i && e.2.1 == 0x7001) = true)) ∧
            ((s.stn i).loss + 1 < s.getF Reg.YUL_CTL_LOSS → t.stnState i = s.stnState i))))) ∧
    (∀ i : Iface, ∀ v : Word, s.hostUp = true →
      (s.may i .engineer = false → ∃ t, exec (.yulRestart i v) s = .next t ∧ t.yul = s.yul ∧ t.crs = s.crs ∧ t.flag Reg.HST_STAT_ACC_DENIED = true) ∧
      (s.may i .engineer = true → (s.ringMaster && s.govFull) = false → ∃ t, exec (.yulRestart i v) s = .next t ∧ t = { s with hst := t.hst }) ∧
      (s.may i .engineer = true → (s.ringMaster && s.govFull) = true → ∃ t, exec (.yulRestart i v) s = .next t ∧ t.ring = yScan ∧ t.yul.sent = none ∧
        (∀ k, k < 192 → (s.slot k).st = .pending → (s.slot k).rset = true → (t.slot k).st = .discarded ∧ (t.slot k).status = stStation) ∧
        (∀ k, k < 192 → (s.slot k).rset = false → t.slot k = s.slot k)) ∧
      (∀ n, n < 64 →
        (s.may i .engineer = false → s.unwritten = true → s.getF (Reg.YUL_ST_CTL_OVR n) ≠ v.toNat % 2 → ∃ t, exec (.yulStationOverride i n v) s = .next t ∧ t.yul = s.yul ∧ t.flag Reg.HST_STAT_ACC_DENIED = true) ∧
        (s.may i .engineer = true → v.toNat % 2 = 1 → s.stnState n = stHeld → (s.stn n).ovr = none →
          ∃ t, exec (.yulStationOverride i n v) s = .next t ∧ (t.stn n).ovr = some (s.rd (Reg.YUL_ST_RXSTAMP n)) ∧ t.flag (Reg.YUL_ST_STAT_OVR n) = true ∧
            (s.news t).map (fun e => (e.1, e.2.1, e.2.2.1)) = [(stnSrc n, 0x7004, 1)] ∧ t.stnState n = stHeld) ∧
        (s.may i .engineer = true → v.toNat % 2 = 0 → ∃ t, exec (.yulStationOverride i n v) s = .next t ∧ (t.stn n).ovr = none ∧
          t.flag (Reg.YUL_ST_STAT_OVR n) = false ∧ t.evt = s.evt)))

/-- R460, R466–R468, R470, R486, R488, R619, R620.  Forwarding latency in CORR is opaque (log 43). -/
def Obligations.StationAndShadowRing : Prop :=
  ∀ (s : State), s.shaped = true → s.room 80 = true → s.crs.slots.any (fun c => c.st == .free) = true →
    (∀ p, p < 4 → ∀ rx, ∀ f : RingFrame,
      ((s.isStation = false ∨ p < 2) → ∃ t, exec (.stationFrameRx p rx f) s = .next t ∧ t = s) ∧
      (s.isStation = true → 2 ≤ p →
        (1 < f.ty → ∃ t, exec (.stationFrameRx p rx f) s = .next t ∧ t = { s with tx := s.tx ++ [.frame (s.stationPort p) none (.ring f)] }) ∧
        (f.ty ≤ 1 → s.yul.cyc = some f.cycle → ∃ t, exec (.stationFrameRx p rx f) s = .next t ∧
          t = { s with tx := s.tx ++ [.frame (s.stationPort p) none (.ring { f with
            corr := f.corr + s.yul.staLink + Config.ringFwd, turned := f.turned || s.stationPort p == p })] }) ∧
        (f.ty = 1 → s.yul.cyc ≠ some f.cycle → (f.recs.all fun r => r.claimed) = true → ∃ t, exec (.stationFrameRx p rx f) s = .next t ∧
          t = { s with yul := { s.yul with cyc := some f.cycle }, tx := s.tx ++ [.frame (s.stationPort p) none (.ring { f with
            corr := f.corr + s.yul.staLink + Config.ringFwd, turned := f.turned || s.stationPort p == p })] }) ∧
        (f.ty = 1 → s.yul.cyc ≠ some f.cycle → ∀ k, (f.recs.findIdx? fun r => !r.claimed) = some k → ∀ r, f.recs[k]? = some r →
          ∃ t, exec (.stationFrameRx p rx f) s = .next t ∧ t.getF Reg.YUL_STA_STAT_INDEX = r.index % 64 ∧ t.yul.staOut = r.outLen ∧ t.yul.staIn = r.inLen ∧
            t.yul.staLink = r.link ∧ t.yul.validAt = s.tm.runt ∧
            (s.sent t).map (fun x => match x with
              | .frame q _ (.ring g) => some (q, g.recs)
              | _ => none) = [some (s.stationPort p, f.recs.set k { r with claimed := true })] ∧ s.regsKept [Reg.YUL_STA_STAT] t) ∧
        (∀ q : RingReq, ∀ g : RingFrame, g = { f with ty := 0, reqs := [{ q with stn := s.getF Reg.YUL_STA_STAT_INDEX, items := [] }] } → s.yul.cyc ≠ some g.cycle →
          ∃ t, exec (.stationFrameRx p rx g) s = .next t ∧ t.yul.cyc = some g.cycle ∧ t.yul.validAt = s.tm.runt ∧
            ((s.sent t).map fun x => match x with
              | .frame q _ (.ring k) => some (q, k.turned, k.answers.length, (k.answers.getLast?.map fun a => (a.stn, a.seen, a.stamp, a.input)))
              | _ => none) =
              [some (s.stationPort p, f.turned || s.stationPort p == p, f.answers.length + 1,
                some (s.getF Reg.YUL_STA_STAT_INDEX, true, s.shortStamp, (s.yul.snap ++ List.replicate s.yul.staIn 0).take s.yul.staIn))] ∧
            ((q.hold = true ∨ g.holdAll = true) → t.crs = s.crs ∧ t.yul.safe = s.yul.safe ∧ s.regsKept [Reg.YUL_STA_STAT] t) ∧
            (q.hold = false → g.holdAll = false → t.yul.safe = false ∧ t.flag Reg.YUL_STA_STAT_SAFE = false ∧
              ((s.mapEntries true).all fun e => s.getF (Reg.YUL_MAP_0_TYPE e) == 5 || t.rd (Reg.YUL_PI e) == s.unpack e q.out % 2 ^ 32) = true)))) ∧
    ((s.isStation = false ∨ s.yul.applyAt = none) → ∃ t, exec .stationApplyInstant s = .next t ∧ t = s) ∧
    (s.isStation = true → ∀ a, s.yul.applyAt = some a → a.2.2 = 0 →
      (s.tw < a.1 → ∃ t, exec .stationApplyInstant s = .next t ∧ t = s) ∧
      (a.1 ≤ s.tw → s.yul.cyc = some a.2.1 → ∃ t, exec .stationApplyInstant s = .next t ∧ t.yul.snap = s.pack (s.mapEntries false) s.yul.staIn ∧
        t = { s with yul := t.yul }) ∧
      (a.1 ≤ s.tw → s.yul.cyc ≠ some a.2.1 → (s.stationComes fun f => !f.scan && f.cycle == a.2.1) = false → ∃ t, exec .stationApplyInstant s = .next t ∧ t.yul.missed = true ∧ t.yul.safe = true ∧ t.yul.kept = [] ∧
        t.flag Reg.YUL_STA_STAT_SAFE = true)) ∧
    (∀ due, due = (s.isStation && !s.yul.safe && s.expired s.yul.validAt (s.rd Reg.YUL_STA_WDT * 1000) && !s.stationComes (fun _ => true)) →
      (due = false → ∃ t, exec .stationWatchdogExpiry s = .next t ∧ t = s) ∧
      (due = true → ∃ t, exec .stationWatchdogExpiry s = .next t ∧ t.yul.safe = true ∧ t.flag Reg.YUL_STA_STAT_SAFE = true ∧ t.crs = s.crs)) ∧
    (∀ p, p < 4 → ∀ f : RingFrame,
      ((s.role3 = false ∨ p < 2) → ∃ t, exec (.shadowRingFrameRx p f) s = .next t ∧ t = s) ∧
      (s.role3 = true → 2 ≤ p →
        (f.ty ≠ 0 → ∃ t, exec (.shadowRingFrameRx p f) s = .next t ∧ t = { s with tx := s.tx ++ [.frame (5 - p) none (.ring f)] }) ∧
        (f.ty = 0 → ∃ t, exec (.shadowRingFrameRx p f) s = .next t ∧ t.yul.seen = (f.cycle :: s.yul.seen).take 8 ∧ t.wyt.ringHeard = true ∧
          (s.sent t).length = 1 ∧ (∀ i, i < 64 → s.flag (Reg.YUL_ST_CFG_EN i) = true → t.stnState i = if f.answers.any (fun a => a.stn == i && a.seen) then stOnline else stOffline) ∧
          t.evt = s.evt ∧ t.crs = s.crs))) ∧
    (∀ k, k = s.yul.checked + 1 →
      ((s.on secWyt = false ∨ s.standby = false ∨ s.baseIdx < k) → ∃ t, exec .shadowBaseInstant s = .next t ∧ t = s) ∧
      (s.on secWyt = true → s.standby = true → k ≤ s.baseIdx → s.on secYul = true → s.getF Reg.YUL_CTL_ROLE = 1 →
        ∃ t, exec .shadowBaseInstant s = .next t ∧ t.yul.checked = k ∧
          t.getF Reg.WYT_STAT_RINGABS = (if s.yul.seen.contains (k % 2 ^ 32) then 0 else min 3 (s.getF Reg.WYT_STAT_RINGABS + 1)) ∧
          (s.role = 2 → (s.wy = wyPaired ∨ s.wy = wyAlone) → t.getF Reg.WYT_STAT_RINGABS = 3 → s.silent = true → (s.hbComes fun _ => true) = false →
            t.role = 1 ∧ (s.news t).any (fun e => e.1 == wytSrc && e.2.1 == 0xC003) = true ∧ t.flag ⟨Reg.UNIT_IRQ .wyt, 1, 1⟩ = true) ∧
          ((s.silent = false ∨ (s.hbComes fun _ => true) = true ∨ t.getF Reg.WYT_STAT_RINGABS ≠ 3 ∨ s.wy = wySeek) → t.role = s.role ∧ t.evt = s.evt)))

/-- R491–R498, R510, R511; `State.send` puts a frame to its ports (R494, R497).  The descriptor error order and the frame lost on a descriptor error are log 45. -/
def Obligations.StationPortsTakeAndSendFrames : Prop :=
  ∀ (s : State), s.shaped = true → s.room 40 = true →
    (∀ p, p < 4 → ∀ m q : Nat,
      (∀ g, (s.lanPort p = false) → ∃ t, exec (.unmatchedFrameRx p g) s = .next t ∧ t = s) ∧
      (s.lanPort p = true → s.pairPort p = false → ∃ t, exec (.unmatchedFrameRx p (some (m, q))) s = .next t ∧
        t.getF (Reg.ETH_P_CNT_DROP p) = min 65535 (s.getF (Reg.ETH_P_CNT_DROP p) + 1) ∧ s.regsKept [Reg.ETH_P_CNT p] t ∧ t = { s with regs := t.regs, hst := s.marks t }) ∧
      (s.lanPort p = true → s.pairPort p = true →
        ((s.eth.dup.any fun e => e.mac == m && e.seq == q && !s.expired e.at_ 400000000) = true → ∃ t, exec (.unmatchedFrameRx p (some (m, q))) s = .next t ∧
          t.getF Reg.ETH_PRP_CNT_DUP = min 65535 (s.getF Reg.ETH_PRP_CNT_DUP + 1) ∧ s.regsKept [Reg.ETH_PRP_CNT] t ∧ t = { s with regs := t.regs, hst := s.marks t }) ∧
        ((s.eth.dup.any fun e => e.mac == m && e.seq == q && !s.expired e.at_ 400000000) = false → ∃ t, exec (.unmatchedFrameRx p (some (m, q))) s = .next t ∧
          t.getF (Reg.ETH_P_CNT_DROP p) = min 65535 (s.getF (Reg.ETH_P_CNT_DROP p) + 1) ∧
          t.eth.dup = (if s.eth.dup.length ≥ 1024 then s.eth.dup.drop 1 else s.eth.dup) ++ [⟨m, q, s.tm.runt⟩] ∧
          t.getF Reg.ETH_PRP_CNT_EVICT = (if s.eth.dup.length ≥ 1024 then min 65535 (s.getF Reg.ETH_PRP_CNT_EVICT + 1) else s.getF Reg.ETH_PRP_CNT_EVICT) ∧
          s.regsKept [Reg.ETH_P_CNT p, Reg.ETH_PRP_CNT] t ∧ t = { s with regs := t.regs, eth := t.eth, hst := s.marks t })) ∧
      (∀ raw, ∀ bs : List Byte, ∀ d : Descriptor, s.lanPort p = true →
        (∀ dst, s.hostDst p dst = false → ∃ t, exec (.hostFrameRx p dst false raw bs none d) s = .next t ∧
          t.getF (Reg.ETH_P_CNT_DROP p) = min 65535 (s.getF (Reg.ETH_P_CNT_DROP p) + 1) ∧ t = { s with regs := t.regs, hst := s.marks t }) ∧
        (s.dmaRuns 2 = false → ∃ t, exec (.hostFrameRx p (s.portMac p) false raw bs none d) s = .next t ∧
          t.getF Reg.ETH_HOST_STAT_RX_LOST = min (2 ^ 32 - 1) (s.getF Reg.ETH_HOST_STAT_RX_LOST + 1) ∧ t.tx = s.tx ∧
          s.regsKept [Reg.ETH_HOST_STAT, Reg.UNIT_IRQ .eth] t) ∧
        (∀ x : Descriptor, x = { d with ctl := BitVec.ofNat 32 (2 ^ 31 + 2048), hostErr := false, host := d.host / 4 * 4 } → s.dmaRuns 2 = true → bs.length ≤ 2048 →
          ∃ t, exec (.hostFrameRx p (s.portMac p) false raw bs none x) s = .next t ∧
            (s.sent t).map (fun y => match y with
              | .hostWrite a w => some (a, w.length)
              | _ => none) =
              [some (x.host, bs.length), some (s.dmaAt 2 + 4, 4), some (s.dmaAt 2 + 0x10, 4), some (s.dmaAt 2 + 0x14, 12), some (s.dmaAt 2, 4)] ∧
            (s.sent t).head? = some (.hostWrite x.host bs) ∧
            t.getF (Reg.HST_DMA_HEAD_IDX 2) = (s.getF (Reg.HST_DMA_HEAD_IDX 2) + 1) % max 1 (s.getF (Reg.HST_DMA_SIZE_N 2)) % 65536 ∧
            s.regsKept [Reg.HST_DMA_HEAD 2] t)) ∧
      (∀ bs : List Byte, ∀ src,
        ((s.lanPort p = false ∨ s.getF (Reg.ETH_P_CFG_ROLE p) ≠ 3 ∨ s.lanPort (1 - p) = false ∨ src = s.portMac 0 ∨ src = s.portMac 1 ∨
            beNat (bs.take 6) = s.portMac p) → ∃ t, exec (.hsrFrameForward p src bs) s = .next t ∧ t = s) ∧
        (p < 2 → s.lanPort p = true → s.getF (Reg.ETH_P_CFG_ROLE p) = 3 → s.lanPort (1 - p) = true → src ≠ s.portMac 0 → src ≠ s.portMac 1 →
          beNat (bs.take 6) ≠ s.portMac p → ∃ t, exec (.hsrFrameForward p src bs) s = .next t ∧
            (t.ptx (1 - p)).wait = (s.ptx (1 - p)).wait ++ [⟨4, s.tm.fc, 0, .forward bs, none, none⟩] ∧
            t = { s with eth := { s.eth with ptx := t.eth.ptx } })) ∧
      (s.linkBit p = false → ∃ t, exec (.linkDown p) s = .next t ∧ t = s) ∧
      (s.linkBit p = true → ∃ t, exec (.linkDown p) s = .next t ∧ t.linkBit p = false ∧ (s.news t).head?.map (fun e => (e.1, e.2.1, e.2.2.1)) = some (portSrc p, 0x8001, 1) ∧
        t.flag ⟨Reg.UNIT_IRQ .eth, 0, 0⟩ = true) ∧
      (s.getF (Reg.ETH_P_CFG_ROLE p) ≠ 0 → s.flag (Reg.ETH_P_STAT_SHED p) = false → s.on (secEth p) = true → s.linkBit p = false →
        ∃ t, exec (.linkUp p) s = .next t ∧ t.linkBit p = true ∧ (s.news t).map (fun e => (e.1, e.2.1, e.2.2.1)) = [(portSrc p, 0x8004, 2)] ∧
          s.regsKept [Reg.ETH_P_STAT p, Reg.UNIT_IRQ .eth] t)) ∧
    (∃ t, exec .prpEntryForget s = .next t ∧ t = { s with eth := { s.eth with dup := s.eth.dup.filter fun x => !s.expired x.at_ 400000000 } }) ∧
    (∀ ps, ps = ((s.txPorts 0).filter fun p => s.pairPort p) →
      ((ps = [] ∨ s.tm.runt < s.eth.superv + 2000 * ms32) → ∃ t, exec .prpSupervisionTx s = .next t ∧ t = s) ∧
      (ps ≠ [] → s.eth.superv + 2000 * ms32 ≤ s.tm.runt → ∃ t, exec .prpSupervisionTx s = .next t ∧
        t.eth = { (s.send ps 5 0 .prpSupervision none).eth with superv := s.tm.runt } ∧ t = { s with eth := t.eth })) ∧
    (∀ p, p < 4 → s.lanPort p = true → s.pending = [] → s.pwr.unpowered = false → s.crs.arms = [] → s.crs.decisions = [] → s.prt.jobs = [] →
      (s.prt.comp.all fun x => x.rise.isNone) = true → ∀ w r, txNext (s.ptx p).wait = some (w, r) →
      (((s.ptx p).cur.all fun c => decide (c.2.1 ≤ s.tm.nom)) = true → ∃ t, step s = .next t ∧ (t.ptx p).wait = r ∧
        (t.ptx p).cur.map (fun c => (c.1, c.2.1)) = some (w, s.tm.nom + wireTime w) ∧ w ∈ (s.ptx p).wait ∧
        ((s.ptx p).wait.all fun x => !x.before w) = true ∧ (s.sent t).contains (.frame p w.tag w.what) = true) ∧
      (∀ c, (s.ptx p).cur = some c → s.tm.nom < c.2.1 →
        ((w.prio ≠ 1 ∨ c.1.prio < 3) → ∃ t, step s = .next t ∧ t.ptx p = s.ptx p) ∧
        (w.prio = 1 → 3 ≤ c.1.prio → ∃ t, step s = .next t ∧ (t.ptx p).wait = (if c.1.prio = 4 then r else c.1 :: r) ∧
          (t.ptx p).cur.map (fun c => c.1) = some w ∧ (s.sent t).contains (.frameCut p) = true ∧
          t.getF (Reg.ETH_P_CNT_PREEMPT p) = min 65535 (s.getF (Reg.ETH_P_CNT_PREEMPT p) + 1)))) ∧
    (∀ d : Descriptor,
      (s.dmaRuns 3 = false → ∃ t, exec (.hostFrameTransmit d) s = .next t ∧ t = s) ∧
      (∀ n, 60 ≤ n → n ≤ 1518 → s.dmaRuns 3 = true → bits d.modul.toNat 2 0 ≤ 3 → ∀ x : Descriptor,
        x = { d with ctl := BitVec.ofNat 32 (2 ^ 31 + n), host := d.host / 4 * 4, hostErr := false } → ∀ ps, ps = s.txPorts (bits d.modul.toNat 2 0) →
        ∃ t, exec (.hostFrameTransmit x) s = .next t ∧
          t.eth = (s.send ps 5 0 (.host (d.data.take n)) (if bit d.modul.toNat 8 then ps.head?.map fun p =>
            p * 2 ^ 29 + 0xF * 2 ^ 24 + bits d.modul.toNat 31 16 else none)).eth ∧
          (s.sent t).length = 3 ∧ s.regsKept [Reg.HST_DMA_HEAD 3] t ∧ t = { s with regs := t.regs, eth := t.eth, tx := t.tx }))

/-- R501–R506, R508.  That confRev must match with SIM too, and the index nearest to the time word, are log 45; interpolation is opaque (log 15). -/
def Obligations.GooseAndSampledValues : Prop :=
  ∀ (s : State), s.shaped = true → s.room 40 = true →
    (∀ k, k < 32 →
      (((s.gp k).next = none ∨ s.flag (Reg.ETH_GP_CFG_EN k) = false ∨ s.standby = true) → ∃ t, exec (.gooseRetransmit k) s = .next t ∧ t = s) ∧
      (∀ x, (s.gp k).next = some x → (s.tm.runt < x → ∃ t, exec (.gooseRetransmit k) s = .next t ∧ t = s) ∧
        (x ≤ s.tm.runt → s.flag (Reg.ETH_GP_CFG_EN k) = true → s.standby = false → s.ethOn = true →
          ∀ i, i = min (2 * (s.gp k).interval) (s.getF (Reg.ETH_GP_INT_TMAX k)) → ∀ q, q = (if s.rd (Reg.ETH_GP_SQ k) = 2 ^ 32 - 1 then 1 else s.rd (Reg.ETH_GP_SQ k) + 1) →
          ∃ t, exec (.gooseRetransmit k) s = .next t ∧ t.rd (Reg.ETH_GP_SQ k) = q ∧ (t.gp k).interval = i ∧ (t.gp k).next = some (s.tm.runt + i * ms32) ∧
            (∀ u, u = s.send (s.gpPorts k) (if s.flag (Reg.ETH_GP_CFG_TRIP k) then 1 else 3) (if s.flag (Reg.ETH_GP_CFG_TRIP k) then k else 0)
              (.goose k (s.gp k).st q (s.gooseT (s.gp k).tw) s.gooseQ (2 * i) (s.gp k).members (if s.flag (Reg.ETH_GP_CFG_STAMP k) then s.shortStamp else 0)) none →
              t.eth.ptx = u.eth.ptx ∧ t.eth.redSeq = u.eth.redSeq) ∧
            s.regsKept [Reg.ETH_GP_SQ k] t ∧ t = { s with regs := t.regs, eth := t.eth }))) ∧
    (∀ p, p < 4 → ∀ f : GooseFrame, ∀ k, k < 128 → ∀ raw, ∀ bs : List Byte, ∀ d : Descriptor, ∀ g : GooseFrame, g = { f with sub := k } →
      ((s.flag (Reg.ETH_GS_CFG_EN k) = false ∨ s.lanPort p = false) → ∃ t, exec (.gooseFrameRx p g raw bs none d) s = .next t ∧ t = s) ∧
      (s.flag (Reg.ETH_GS_CFG_EN k) = true → s.lanPort p = true → s.flag (Reg.ETH_P_CFG_GPASS p) = false →
        (s.rd (Reg.ETH_GS_CONFREV k) ≠ f.confRev → ∃ t, exec (.gooseFrameRx p g raw bs none d) s = .next t ∧ t.flag (Reg.ETH_GS_STAT_CONFREV k) = true ∧
          (s.news t).map (fun e => (e.1, e.2.1, e.2.2.1)) = [(gsSrc k, 0x8003, 1)] ∧ t.eth = s.eth ∧ s.regsKept [Reg.ETH_GS_STAT k, Reg.UNIT_IRQ .eth] t) ∧
        (s.rd (Reg.ETH_GS_CONFREV k) = f.confRev → f.simulation = true → s.flag (Reg.ETH_GS_CFG_SIM k) = false → ∃ t, exec (.gooseFrameRx p g raw bs none d) s = .next t ∧ t = s) ∧
        (s.rd (Reg.ETH_GS_CONFREV k) = f.confRev → (f.simulation = false ∨ s.flag (Reg.ETH_GS_CFG_SIM k) = true) →
          ((s.gs k).heard = true → (s.gs k).st = f.stNum → (s.gs k).sq = f.sqNum → ∃ t, exec (.gooseFrameRx p g raw bs none d) s = .next t ∧ t = s) ∧
          (((s.gs k).heard = false ∨ (s.gs k).st ≠ f.stNum ∨ (s.gs k).sq ≠ f.sqNum) → ∃ t, exec (.gooseFrameRx p g raw bs none d) s = .next t ∧
            t.rd (Reg.ETH_GS_VAL k) = f.members % 2 ^ 32 ∧ t.flag (Reg.ETH_GS_STAT_STALE k) = false ∧ t.gs k = ⟨s.tm.runt, f.ttl, f.stNum, f.sqNum, true⟩ ∧
            (∀ j, j < 128 → j ≠ k → t.gs j = s.gs j) ∧
            s.news t = (if (s.gs k).st ≠ f.stNum ∧ s.flag (Reg.ETH_GS_CFG_EVT k) = true then [(gsSrc k, 0x8005, 2, f.members % 2 ^ 32)] else []) ∧
            s.regsKept [Reg.ETH_GS_VAL k, Reg.ETH_GS_STAT k] t)))) ∧
    (∀ k, k < 128 → ∀ due, due = ((s.gs k).heard && s.ethOn && s.flag (Reg.ETH_GS_CFG_EN k) && !s.flag (Reg.ETH_GS_STAT_STALE k) && s.expired (s.gs k).at_ ((s.gs k).ttl * 1000000) && !s.gooseComes k) →
      (due = false → ∃ t, exec (.gooseTimeout k) s = .next t ∧ t = s) ∧
      (due = true → ∃ t, exec (.gooseTimeout k) s = .next t ∧ t.flag (Reg.ETH_GS_STAT_STALE k) = true ∧ t.rd (Reg.ETH_GS_VAL k) = s.rd (Reg.ETH_GS_VAL k) ∧
        (s.news t).map (fun e => (e.1, e.2.1, e.2.2.1)) = [(gsSrc k, 0x8002, 1)] ∧ t.eth = s.eth ∧ s.regsKept [Reg.ETH_GS_STAT k, Reg.UNIT_IRQ .eth] t)) ∧
    (∀ k, k < 8 → ∀ fast, fast = s.flag (Reg.ETH_SVP_CFG_RATE k) → ∀ i, i = s.eth.svp.getD k 0 →
      ∀ last, last = svTime (svRate fast) (i + svAsdus fast - 1) →
      ((s.flag (Reg.ETH_SVP_CFG_EN k) = false ∨ s.tw < last ∨ ((s.svChs k).all fun c => fourAfter (s.fch c).bOut (s.instOf last)) = false) →
        ∃ t, exec (.svPublish k) s = .next t ∧ t = s) ∧
      (s.flag (Reg.ETH_SVP_CFG_EN k) = true → s.ethOn = true → last ≤ s.tw → ((s.svChs k).all fun c => fourAfter (s.fch c).bOut (s.instOf last)) = true →
        ∃ t, exec (.svPublish k) s = .next t ∧ (∃ vals : List (Int × Nat), vals.length = 8 * svAsdus fast ∧
          t.eth = { (s.send (if s.standby then [] else (s.portsOf (s.getF (Reg.ETH_SVP_CFG_PORTS k))).filter s.lanPort) 3 0
            (.sv k ((List.range (svAsdus fast)).map fun j => (i + j) % svRate fast) s.svSynch vals) none).eth with
            svp := s.eth.svp.set k (i + svAsdus fast) }) ∧
          t = { s with eth := t.eth, freeCtr := s.freeCtr + 8 * svAsdus fast })) ∧
    (∀ k, k < 8 → ∀ f : SvFrame, ∀ n, n < 4800 → ∀ vs : List SvValue, ∀ g : SvFrame, g = { f with stream := k, samples := [(n, vs)] } → ∀ p, p < 4 →
      ((s.flag (Reg.ETH_SVS_CFG_EN k) = false ∨ s.lanPort p = false) → ∃ t, exec (.svFrameRx p g none) s = .next t ∧ t = s) ∧
      (s.flag (Reg.ETH_SVS_CFG_EN k) = true → s.lanPort p = true → ∀ e, s.eth.svs.getD k none = some e →
        ∀ idx, idx = s.svIndex (svRate (s.flag (Reg.ETH_SVS_CFG_RATE k))) n →
        ∀ late, late = decide (svTime (svRate (s.flag (Reg.ETH_SVS_CFG_RATE k))) idx + s.rd (Reg.ETH_SVS_DLY k) * 2 ^ 16 < s.tw) →
        (idx < e → ∃ t, exec (.svFrameRx p g none) s = .next t ∧ t.getF (Reg.ETH_SVS_STAT_SMPCNT k) = n ∧ t = { s with regs := t.regs }) ∧
        (e ≤ idx → ∃ t, exec (.svFrameRx p g none) s = .next t ∧ t.getF (Reg.ETH_SVS_STAT_SMPCNT k) = n ∧ t.eth = { s.eth with svs := s.eth.svs.set k (some (idx + 1)) } ∧
          t.getF (Reg.ETH_SVS_STAT_LATE k) = min 65535 (s.getF (Reg.ETH_SVS_STAT_LATE k) + (idx - e + b2n late)) ∧
          (∀ v, v < 8 → (t.streams.find? fun y => y.1 == 0x20000 + 8 * k + v).bind (fun y => y.2.head?.map (·.2)) =
            some (if late || f.smpSynch != 2 || (vs.getD v (⟨0, true, false, false⟩ : SvValue)).invalid || ((vs.getD v (⟨0, true, false, false⟩ : SvValue)).test && !s.flag (Reg.ETH_SVS_CFG_TEST k)) then staleSample 0
              else ⟨satVal (Config.svIn v (vs.getD v (⟨0, true, false, false⟩ : SvValue)).value), 0, false, (vs.getD v (⟨0, true, false, false⟩ : SvValue)).overflow, false, false⟩)) ∧
          s.regsKept [Reg.ETH_SVS_STAT k, Reg.UNIT_IRQ .eth] t))) ∧
    (∀ k, k < 8 → (s.eth.svs.getD k none = none → ∃ t, exec (.svSampleDeadline k) s = .next t ∧ t = s) ∧
      (∀ e, s.eth.svs.getD k none = some e → ∀ due, due = (s.flag (Reg.ETH_SVS_CFG_EN k) && s.ethOn && decide (svTime (svRate (s.flag (Reg.ETH_SVS_CFG_RATE k))) e + s.rd (Reg.ETH_SVS_DLY k) * 2 ^ 16 < s.tw)) →
        (due = false → ∃ t, exec (.svSampleDeadline k) s = .next t ∧ t = s) ∧
        (due = true → ∃ t, exec (.svSampleDeadline k) s = .next t ∧ t.eth = { s.eth with svs := s.eth.svs.set k (some (e + 1)) } ∧
          t.getF (Reg.ETH_SVS_STAT_LATE k) = min 65535 (s.getF (Reg.ETH_SVS_STAT_LATE k) + 1) ∧
          (∀ v, v < 8 → (t.streams.find? fun y => y.1 == 0x20000 + 8 * k + v).bind (fun y => y.2.head?.map (·.2)) = some (staleSample 0)) ∧
          s.regsKept [Reg.ETH_SVS_STAT k, Reg.UNIT_IRQ .eth] t)))

/-- R517, R518, R526–R530, R534: one class-0 event; R525, R527: window start; R528: the host queue. -/
def Obligations.EventsAreTakenInAndDelivered : Prop :=
  ∀ (s : State), s.shaped = true → s.room 2 = true →
    (∀ r, s.evt.raised.head? = some r → s.evt.raised.length = 1 → r.ev.cls = 0 → r.ev.code ≠ 0x9002 →
      (∀ p, p < 3 → (s.getF (Reg.EVT_P_CFG_CLASSES p)).testBit 0 = true) → s.evt.soe0.length < 4095 → s.evt.hq.length < 1024 →
      s.traceBase + s.rd Reg.EVT_TRC_WRPTR + 32 ≤ s.dramSize →
      ∃ t, exec .eventIntake s = .next t ∧
        (∃ e, t.evt.hq = s.evt.hq ++ [e] ∧ e = { r.ev with seq := s.getF Reg.EVT_STAT_NEXT_SEQ }) ∧
        (∃ e, t.evt.soe0 = s.evt.soe0 ++ [e] ∧ e = ⟨{ r.ev with seq := s.getF Reg.EVT_STAT_NEXT_SEQ }, false⟩) ∧
        t.evt.raised = [] ∧
        (∀ a, a < s.traceBase + s.rd Reg.EVT_TRC_WRPTR ∨ s.traceBase + s.rd Reg.EVT_TRC_WRPTR + 32 ≤ a →
          Mem.rd t.dram a = Mem.rd s.dram a) ∧
        (s.cutOff 2 0 = false → t.dramRd (s.traceBase + s.rd Reg.EVT_TRC_WRPTR) 32 =
          ({ r.ev with seq := s.getF Reg.EVT_STAT_NEXT_SEQ } : EvRec).bytes)) ∧
    (s.evt.windowIdx < s.runNs / windowNs → s.on secEvt = true → s.pwr.unpowered = false →
      ∃ t, exec .evtWindowStart s = .next t ∧ t.evt.windowIdx = s.runNs / windowNs ∧ t.evt.refusedNow = 0 ∧
        (∀ p, p < 4 → t.getF (Reg.EVT_P_WIN_COUNT p) = 0 ∧ t.getF (Reg.EVT_P_WIN_CUT p) = 0 ∧ t.flag (Reg.EVT_P_WIN_OVER p) = false) ∧
        (t.evt.grouts.all fun g => g.path == 1) = true ∧
        s.news t = (if s.evt.refusedNow = 0 then [] else [(evtSrc, 0x9002, 1, s.evt.refusedNow % 2 ^ 64)])) ∧
    (∀ i : Iface, s.hostUp = true →
      (s.evt.hq = [] → ∃ t, exec (.hostQueueRead i) s = .next t ∧ s.sent t = [.readData i (Reg.EVT_HQ 0) 0xFFFFFFFF] ∧
        t = { s with hst := t.hst, tx := t.tx }) ∧
      (∀ e, s.evt.hq.head? = some e → ∃ t, exec (.hostQueueRead i) s = .next t ∧ t.evt.hq = s.evt.hq.tail ∧
        s.sent t = [.readData i (Reg.EVT_HQ 0) ((wordsOf e.bytes).headD 0)] ∧ t.snapOf i (Reg.EVT_HQ 0) = some (wordsOf e.bytes) ∧
        t = { s with evt := t.evt, hst := t.hst, tx := t.tx }))

/-- R531, R532.  The dump stores to EVT_DUMP_ADDR as it stood when the dump began. -/
def Obligations.SoeCommandsCopyAndFree : Prop :=
  ∀ (s : State), s.shaped = true → s.room 2 = true →
    (∀ (i : Iface) (v : Word), s.hostUp = true → ∀ g, g = bits v.toNat 8 8 → ∀ k, k = s.getF Reg.EVT_SOE_ARG_INDEX →
      ∃ t, exec (.soeRead i v) s = .next t ∧
        (List.range 8).map (fun j => t.rd (Reg.EVT_SOE_RD j)) =
          (match s.soeAt g k with | some r => wordsOf r.ev.bytes | none => emptyWords) ∧
        ((s.soeAt g k).isSome = true → (t.soeAt g k).map (·.copied) = some true ∧ (t.soeAt g k).map (·.ev) = (s.soeAt g k).map (·.ev)) ∧
        s.regsKept ((List.range 8).map fun j => Reg.EVT_SOE_RD j) t ∧ t = { s with regs := t.regs, evt := t.evt, hst := t.hst }) ∧
    (∀ (i : Iface) (v : Word), s.hostUp = true → s.may i .operate = true →
      ∃ t, exec (.soeDump i v) s = .next t ∧ t.evt.dump = some ⟨bits v.toNat 8 8, s.getF Reg.EVT_SOE_ARG_INDEX,
          s.getF Reg.EVT_SOE_ARG_COUNT, s.getF Reg.EVT_DUMP_ADDR_ADDR * 32⟩ ∧ t = { s with evt := t.evt, hst := t.hst }) ∧
    (∀ d, s.evt.dump = some d → d.addr + 32 * d.count ≤ s.dramSize →
      ∃ t, exec .soeDumpDone s = .next t ∧ t.evt.dump = none ∧ t.flag ⟨Reg.UNIT_IRQ .evt, 4, 4⟩ = true ∧
        (∀ k, k < d.count → t.dramRd (d.addr + 32 * k) 32 =
          (match s.soeAt d.region (d.index + k) with | some r => r.ev.bytes | none => List.replicate 32 0xFF)) ∧
        (∀ a, a < d.addr ∨ d.addr + 32 * d.count ≤ a → Mem.rd t.dram a = Mem.rd s.dram a) ∧
        s.regsKept [Reg.UNIT_IRQ .evt] t ∧ t = { s with regs := t.regs, dram := t.dram, evt := t.evt, hst := t.hst }) ∧
    (∀ (i : Iface) (v : Word), s.hostUp = true → s.may i .operate = true →
      ∀ n, n = ((s.evt.soe0.take (s.getF Reg.EVT_SOE_ARG_COUNT)).takeWhile fun r => r.copied).length →
      ∃ t, exec (.soeArch0 i v) s = .next t ∧ t.evt.soe0 = s.evt.soe0.drop n ∧ s.news t = [(evtSrc, 0x9003, 2, n % 2 ^ 64)] ∧
        s.regsKept [Reg.EVT_SOE0_STAT, Reg.EVT_STAT] t ∧ t = { s with regs := t.regs, evt := t.evt, hst := t.hst })

/-- R687: the raw state; R540: one tick of the integrator; R546: gate end and timeout. -/
def Obligations.FieldInputsFollowThePin : Prop :=
  ∀ (s : State), s.shaped = true → ∀ n, n < 32 → s.isIn n = true → s.dioOn (n / 16) = true →
    (∀ z, ∃ t, exec (.dioPinTransition n z) s = .next t ∧
      t.dioBit Reg.DIO_RAW n = (match z with | .above => true | .below => false | .between => s.dioBit Reg.DIO_RAW n) ∧
      (∀ k, k < 32 → k ≠ n → t.dioBit Reg.DIO_RAW k = s.dioBit Reg.DIO_RAW k) ∧ (t.dch n).zone = z ∧
      s.regsKept [Reg.DIO_RAW] t ∧ t = { s with regs := t.regs, dio := t.dio }) ∧
    (s.tickDue n = true → s.getF (Reg.DIO_CH_CFG_FUNC n) ≠ 2 → ∀ i, i = s.getF (Reg.DIO_CH_STAT_INTEG n) → ∀ l, l = s.getF (Reg.DIO_CH_FLT_L n) →
      ∃ t, exec (.dioInputTick n) s = .next t ∧ ∀ i', i' = (if s.rawBefore n then min (i + 1) l else i - 1) →
        t.getF (Reg.DIO_CH_STAT_INTEG n) = i' ∧
        t.dioBit Reg.DIO_IN n = (if i' = l then true else if i' = 0 then false else s.dioBit Reg.DIO_IN n) ∧
        (∀ k, k < 32 → k ≠ n → t.dioBit Reg.DIO_IN k = s.dioBit Reg.DIO_IN k) ∧
        (t.dioBit Reg.DIO_IN n = s.dioBit Reg.DIO_IN n → s.regsKept [Reg.DIO_CH_STAT n, Reg.DIO_IN] t ∧
          t = { s with regs := t.regs, dio := t.dio }) ∧ s.memKept t) ∧
    (s.getF (Reg.DIO_CH_CFG_FUNC n) = 3 → s.expired (s.dch n).gateStart (s.getF (Reg.DIO_CH_FLT_GATE n) * 1000000) = true → 2 ≤ (s.dch n).edges →
      ∃ t, exec (.dioFreqGateEnd n) s = .next t ∧
        t.rd (Reg.DIO_CH_FREQ n) = openDivN (((s.dch n).edges - 1) * sec32 * 1024) ((s.dch n).edgeLast - (s.dch n).edgeFirst.getD 0) % 2 ^ 32 ∧
        (t.dch n).edges = 0 ∧ (t.dch n).edgeFirst = none ∧ (t.dch n).gateStart = s.tm.runt ∧
        s.regsKept [Reg.DIO_CH_FREQ n] t ∧ t = { s with regs := t.regs, dio := t.dio }) ∧
    (s.getF (Reg.DIO_CH_CFG_FUNC n) = 3 → s.expired (s.dch n).yRise 20000000000 = true → (s.comes fun c => match c with | .dioInputTick _ => true | _ => false) = false →
      ∃ t, exec (.dioFreqTimeout n) s = .next t ∧ t.rd (Reg.DIO_CH_FREQ n) = 0 ∧ t.flag (Reg.DIO_CH_STAT_FLOW n) = true ∧
        s.regsKept [Reg.DIO_CH_FREQ n, Reg.DIO_CH_STAT n] t ∧ t = { s with regs := t.regs })

/-- R549–R551: the supply of group g. -/
def Obligations.FieldSupplyPassesItsStates : Prop :=
  ∀ (s : State), s.shaped = true → s.room 2 = true → ∀ g, g < 2 →
    (s.hasDioGrp g = false → ∀ mv h, ∀ c, c ∈ [Instr.fieldSupplyLow g mv, .fieldSupplyRecover g, .fieldSupplyMissing g, .fieldSupplyRestoring g, .restoreSlot g,
      .fieldSupplyHigh g h] → exec c s = .next s) ∧
    (s.hasDioGrp g = true →
    (∀ mv, s.supply g = supPresent → ∃ t, exec (.fieldSupplyLow g mv) s = .next t ∧ t.supply g = supLow ∧
      t.flag (Reg.DIO_G_SUP_LOW_SEEN g) = true ∧ s.news t = [(dioGrpSrc g, 0xA001, 1, mv % 2 ^ 64)] ∧
      s.regsKept [Reg.DIO_G_SUP g, Reg.UNIT_IRQ .dio] t ∧ t = { s with regs := t.regs, dio := t.dio, evt := t.evt, hst := t.hst }) ∧
    (s.supply g = supLow → ∃ t, exec (.fieldSupplyRecover g) s = .next t ∧ t.supply g = supPresent ∧
      s.news t = [(dioGrpSrc g, 0xA003, 2, (s.tm.runt - (s.dgrp g).trouble) / 2 ^ 32 % 2 ^ 64)] ∧
      s.regsKept [Reg.DIO_G_SUP g, Reg.UNIT_IRQ .dio] t ∧ t = { s with regs := t.regs, evt := t.evt, hst := t.hst }) ∧
    (s.supply g ≠ supMissing → ∃ t, exec (.fieldSupplyMissing g) s = .next t ∧ t.supply g = supMissing ∧
      (∀ n, n ∈ grpChans g → t.driver n = false) ∧
      s.news t = [(dioGrpSrc g, 0xA002, 1, s.rd Reg.DIO_CMDST &&& 0xFFFF * 2 ^ (16 * g))] ∧
      s.regsKept [Reg.DIO_G_SUP g, Reg.UNIT_IRQ .dio] t ∧ t = { s with regs := t.regs, dio := t.dio, evt := t.evt, hst := t.hst }) ∧
    (s.supply g = supMissing → ∃ t, exec (.fieldSupplyRestoring g) s = .next t ∧ t.supply g = supRestoring ∧
      (t.dgrp g).restore = s.tm.runt ∧ (t.dgrp g).slot = 0 ∧ s.news t = [] ∧
      s.regsKept [Reg.DIO_G_SUP g, Reg.UNIT_IRQ .dio] t ∧ t = { s with regs := t.regs, dio := t.dio, hst := t.hst }) ∧
    (s.supply g = supRestoring → s.expired (s.dgrp g).restore ((s.dgrp g).slot * 1000000) = true →
      ∀ outs, outs = (grpChans g).filter s.isOut → ∀ k, k = (s.dgrp g).slot →
      ∃ t, exec (.restoreSlot g) s = .next t ∧ (t.dgrp g).slot = k + 1 ∧
        (∀ n, n ∈ (outs.drop (4 * k)).take 4 → (t.dch n).released = true) ∧
        (∀ n, n < 32 → n ∉ (outs.drop (4 * k)).take 4 → t.dch n = s.dch n) ∧
        (outs.length ≤ 4 * (k + 1) → t.supply g = supPresent ∧ (s.news t).map (·.2.1) = [0xA003]) ∧
        (4 * (k + 1) < outs.length → t.supply g = supRestoring ∧ s.news t = []) ∧
        s.regsKept [Reg.DIO_G_SUP g, Reg.UNIT_IRQ .dio] t ∧ t = { s with regs := t.regs, dio := t.dio, evt := t.evt, hst := t.hst }) ∧
    (∀ h, ∃ t, exec (.fieldSupplyHigh g h) s = .next t ∧ t.flag (Reg.DIO_G_SUP_HIGH g) = h ∧ t.supply g = s.supply g ∧
      s.regsKept [Reg.DIO_G_SUP g] t ∧ t = { s with regs := t.regs }))

/-- R553: flags and events; R548: what forces the driver off. -/
def Obligations.OutputDiagnosticsRiseAndClear : Prop :=
  ∀ (s : State), s.shaped = true → s.room 2 = true → ∀ n, n < 32 → s.diagOn n = true →
    (s.driver n = true → s.flag (Reg.DIO_CH_STAT_OVL n) = false → (s.comes fun c => match c with | .fieldSupplyMissing g => g == n / 16 | .dioOvertemp m => m == n | _ => false) = false →
      ∃ t, exec (.dioOverload n) s = .next t ∧ t.flag (Reg.DIO_CH_STAT_OVL n) = true ∧ t.driver n = false ∧
        s.news t = [(dioSrc n, 0xA004, 1, 0)] ∧ s.regsKept [Reg.DIO_CH_STAT n, Reg.UNIT_IRQ .dio] t ∧
        t = { s with regs := t.regs, dio := t.dio, evt := t.evt, hst := t.hst }) ∧
    (∀ p, s.flag (Reg.DIO_CH_CFG_RETRY n) = true → (s.dch n).ovlOff = true → s.expired (s.dch n).retryAt 100000000 = true →
      ∃ t, exec (.dioOverloadRetry n p) s = .next t ∧ (t.dch n).ovlOff = p ∧ (t.dch n).retryAt = s.tm.runt ∧
        t = { s with dio := t.dio }) ∧
    (s.flag (Reg.DIO_CH_STAT_OPEN n) = false → (s.driver n = true ∨ s.dioBit Reg.DIO_LATCH n = false ∧ s.flag (Reg.DIO_CH_CFG_OPEN_OFF n) = true) →
      ∃ t, exec (.dioOpen n) s = .next t ∧ t.flag (Reg.DIO_CH_STAT_OPEN n) = true ∧
        s.news t = [(dioSrc n, 0xA005, 1, if s.driver n = true then 0 else 1)] ∧ s.regsKept [Reg.DIO_CH_STAT n, Reg.UNIT_IRQ .dio] t ∧
        t = { s with regs := t.regs, dio := t.dio, evt := t.evt, hst := t.hst }) ∧
    (∃ t, exec (.dioOpenClear n) s = .next t ∧ t.flag (Reg.DIO_CH_STAT_OPEN n) = false ∧ s.regsKept [Reg.DIO_CH_STAT n] t ∧
      t = { s with regs := t.regs, dio := t.dio }) ∧
    (s.flag (Reg.DIO_CH_STAT_OTEMP n) = false →
      ∃ t, exec (.dioOvertemp n) s = .next t ∧ t.flag (Reg.DIO_CH_STAT_OTEMP n) = true ∧ t.driver n = false ∧
        s.news t = [(dioSrc n, 0xA006, 1, 0)] ∧ s.regsKept [Reg.DIO_CH_STAT n, Reg.UNIT_IRQ .dio] t ∧
        t = { s with regs := t.regs, evt := t.evt, hst := t.hst }) ∧
    (∃ t, exec (.dioOvertempClear n) s = .next t ∧ t.flag (Reg.DIO_CH_STAT_OTEMP n) = false ∧ s.regsKept [Reg.DIO_CH_STAT n] t ∧
      t = { s with regs := t.regs }) ∧
    (s.dioBit Reg.DIO_LATCH n = false → s.flag (Reg.DIO_CH_STAT_EXT n) = false →
      ∃ t, exec (.dioExtDrive n) s = .next t ∧ t.flag (Reg.DIO_CH_STAT_EXT n) = true ∧
        s.news t = [(dioSrc n, 0xA007, 1, 0)] ∧ s.regsKept [Reg.DIO_CH_STAT n, Reg.UNIT_IRQ .dio] t ∧
        t = { s with regs := t.regs, evt := t.evt, hst := t.hst }) ∧
    (∃ t, exec (.dioExtDriveClear n) s = .next t ∧ t.flag (Reg.DIO_CH_STAT_EXT n) = false ∧ s.regsKept [Reg.DIO_CH_STAT n] t ∧
      t = { s with regs := t.regs })

/-- R555–R558; R325, R326: the end of a trip hold. -/
def Obligations.DioWatchdogMakesSafe : Prop :=
  ∀ (s : State), s.shaped = true → s.room 2 = true → ∀ g, g < 2 →
    (s.hasDioGrp g = false → ∀ i v, ∀ c, c ∈ [Instr.dioWatchdogExpiry g, .dioKick i g v, .dioRearm i g v] → exec c s = .next s) ∧
    (s.hasDioGrp g = true →
    (s.flag (Reg.DIO_G_WDT_EN g) = true → (s.dgrp g).wdRun = true →
      s.expired (s.dgrp g).wdStart (s.getF (Reg.DIO_G_WDT_US g) * 1000) = true → s.dioComes g = false →
      ∃ t, exec (.dioWatchdogExpiry g) s = .next t ∧ t.flag (Reg.DIO_G_WST_SAFE g) = true ∧ t.flag (Reg.DIO_G_WST_REFRESHED g) = false ∧
        t.rd Reg.DIO_CMDST = s.rd Reg.DIO_CMDST ∧
        (s.flag (Reg.DIO_G_WST_SAFE g) = true → t.rd Reg.DIO_LATCH = s.rd Reg.DIO_LATCH ∧ s.news t = []) ∧
        (s.flag (Reg.DIO_G_WST_SAFE g) = false →
          s.news t = [(dioGrpSrc g, 0xA008, 1, (s.tm.runt - (s.dgrp g).wdLast) / 2 ^ 32 % 2 ^ 64)] ∧
          (∀ n, n < 32 → t.dioBit Reg.DIO_LATCH n =
            if n / 16 = g ∧ s.isOut n = true ∧ s.holding n = false then s.safeLatch n else s.dioBit Reg.DIO_LATCH n)) ∧ s.memKept t) ∧
    (∀ (i : Iface) (v : Word), s.hostUp = true → s.may i .operate = true → s.dioOn g = true → v.toNat % 4 = 1 →
      ∃ t, exec (.dioKick i g v) s = .next t ∧ t.flag (Reg.DIO_G_WST_REFRESHED g) = true ∧ (t.dgrp g).wdStart = s.tm.runt ∧
        (t.dgrp g).wdRun = true ∧ s.regsKept [Reg.DIO_G_WST g] t ∧ t = { s with regs := t.regs, dio := t.dio, hst := t.hst }) ∧
    (∀ (i : Iface) (v : Word), s.hostUp = true → s.may i .operate = true → s.flag (Reg.DIO_G_WST_SAFE g) = true → v.toNat % 4 = 2 → s.dioDue g = false →
      ∃ t, exec (.dioRearm i g v) s = .next t ∧ s.memKept t ∧ t.rd Reg.DIO_CMDST = s.rd Reg.DIO_CMDST ∧
        ((s.flag (Reg.DIO_G_WST_REFRESHED g) = true ∨ s.dioComes g = true) → t.flag (Reg.DIO_G_WST_SAFE g) = false ∧ (t.dgrp g).wdStart = s.tm.runt ∧
          s.news t = [(dioGrpSrc g, 0xA009, 2, 0)] ∧
          (∀ n, n < 32 → t.dioBit Reg.DIO_LATCH n =
            if n / 16 = g ∧ s.isOut n = true ∧ s.holding n = false then s.dioBit Reg.DIO_CMDST n else s.dioBit Reg.DIO_LATCH n)) ∧
        (s.flag (Reg.DIO_G_WST_REFRESHED g) = false → s.dioComes g = false → t.flag (Reg.DIO_G_WST_SAFE g) = true ∧ t.flag (Reg.DIO_G_WST_REARM_REJ g) = true ∧
          t.rd Reg.DIO_LATCH = s.rd Reg.DIO_LATCH ∧ s.news t = []))) ∧
    (∀ n, n < 16 → s.isOut n = true → s.holding n = true → s.expired (s.dch n).holdStart (s.getF (Reg.PRT_TRIPO_HOLD n) * 1000000) = true →
      ∃ t, exec (.tripHoldEnd n) s = .next t ∧ t.holding n = false ∧
        t.dioBit Reg.DIO_LATCH n = (if s.flag (Reg.DIO_G_WST_SAFE 0) then s.safeLatch n else s.dioBit Reg.DIO_LATCH n) ∧
        (∀ k, k < 32 → k ≠ n → t.dioBit Reg.DIO_LATCH k = s.dioBit Reg.DIO_LATCH k) ∧
        s.regsKept [Reg.PRT_TRIPO n, Reg.DIO_LATCH, Reg.DIO_CH_STAT n] t ∧ t = { s with regs := t.regs, dio := t.dio })

/-- R574, R566–R568. -/
def Obligations.LoopReadbackAndCompliance : Prop :=
  ∀ (s : State), s.shaped = true → s.room 2 = true → s.on secAo = true → ∀ n, n < 8 → s.flag (Reg.AO_CH_CFG_MODE n) = true →
    (∀ (i u : Nat) (d : Int), ∃ t, exec (.aoReadback n i u d) s = .next t ∧ t.getF (Reg.AO_CH_RB_I n) = i % 2 ^ 16 ∧
      t.getF (Reg.AO_CH_RB_V n) = u % 2 ^ 16 ∧ t.getF (Reg.AO_CH_TEMP_DEG n) = ofSigned 16 d ∧
      (∀ k, k < 8 → k ≠ n → t.ach k = s.ach k) ∧
      s.regsKept [Reg.AO_CH_RB n, Reg.AO_CH_TEMP n] t ∧ t = { s with regs := t.regs, ao := t.ao }) ∧
    ((s.ach n).short.any (fun c => s.expired c 10000000) = true →
      (s.getF (Reg.AO_CH_CFG_MODE n) = 1 ∨ s.getF (Reg.AO_CH_RB_V n) < 4000) → s.flag (Reg.AO_CH_STAT_COMPLIANCE n) = false →
      ∃ t, exec (.aoComplianceSet n) s = .next t ∧ t.flag (Reg.AO_CH_STAT_COMPLIANCE n) = true ∧
        (t.getF Reg.AO_STAT_COMPL).testBit n = true ∧ (t.ach n).complSince = s.tm.runt ∧
        s.regsKept [Reg.AO_CH_STAT n, Reg.AO_STAT, Reg.UNIT_IRQ .ao] t ∧ t = { s with regs := t.regs, ao := t.ao, hst := t.hst }) ∧
    (s.flag (Reg.AO_CH_STAT_COMPLIANCE n) = true → (s.ach n).alarmed = false → s.expired (s.ach n).complSince 1000000000 = true →
      ∃ t, exec (.aoComplianceAlarm n) s = .next t ∧ (t.ach n).alarmed = true ∧
        s.news t = [(aoSrc n, 0xB001, 1, s.getF (Reg.AO_CH_RB_I n))] ∧ t = { s with ao := t.ao, evt := t.evt }) ∧
    (s.flag (Reg.AO_CH_STAT_COMPLIANCE n) = true → (s.ach n).short = none → s.expired (s.ach n).okSince 100000000 = true →
      ∃ t, exec (.aoComplianceClear n) s = .next t ∧ t.flag (Reg.AO_CH_STAT_COMPLIANCE n) = false ∧
        (t.getF Reg.AO_STAT_COMPL).testBit n = false ∧
        s.news t = (if (s.ach n).alarmed then [(aoSrc n, 0xB002, 2, (s.tm.runt - (s.ach n).complSince) / 2 ^ 32 % 2 ^ 64)] else []) ∧
        s.regsKept [Reg.AO_CH_STAT n, Reg.AO_STAT] t ∧ t = { s with regs := t.regs, evt := t.evt }) ∧
    (∀ b, ∃ t, exec (.aoVaoLow b) s = .next t ∧ t.flag Reg.AO_STAT_VAO_LOW = b ∧ s.regsKept [Reg.AO_STAT] t ∧ t = { s with regs := t.regs })

/-- R569; temperatures in 0.1 °C. -/
def Obligations.LoopThermalStates : Prop :=
  ∀ (s : State), s.shaped = true → s.room 2 = true → ∀ n, n < 8 → ∀ d : Int,
    (1400 < d → s.flag (Reg.AO_CH_STAT_CUT n) = false → s.flag (Reg.AO_CH_STAT_THERMAL n) = false →
      ∃ t, exec (.aoThermalCut n d) s = .next t ∧ t.flag (Reg.AO_CH_STAT_CUT n) = true ∧
        t.flag (Reg.AO_CH_STAT_THERMAL n) = false ∧ t.getF (Reg.AO_CH_TEMP_DEG n) = ofSigned 16 d ∧
        s.regsKept [Reg.AO_CH_STAT n, Reg.AO_CH_TEMP n] t ∧ t = { s with regs := t.regs }) ∧
    (1550 < d → s.flag (Reg.AO_CH_STAT_CUT n) = true → s.flag (Reg.AO_CH_STAT_THERMAL n) = false →
      ∃ t, exec (.aoThermalFold n d) s = .next t ∧ t.flag (Reg.AO_CH_STAT_THERMAL n) = true ∧ t.aoCode n = 9830 ∧
        s.news t = [(aoSrc n, 0xB003, 1, ofSigned 64 d)] ∧ (t.getF Reg.AO_STAT_THERMAL).testBit n = true ∧
        s.regsKept [Reg.AO_CH_STAT n, Reg.AO_CH_TEMP n, Reg.AO_STAT, Reg.UNIT_IRQ .ao] t ∧
        t = { s with regs := t.regs, ao := t.ao, evt := t.evt, hst := t.hst }) ∧
    (d < 1250 → (s.flag (Reg.AO_CH_STAT_CUT n) = true ∨ s.flag (Reg.AO_CH_STAT_THERMAL n) = true) →
      ∃ t, exec (.aoThermalNormal n d) s = .next t ∧ t.flag (Reg.AO_CH_STAT_CUT n) = false ∧
        t.flag (Reg.AO_CH_STAT_THERMAL n) = false ∧
        (s.news t).map (·.2.1) = (if s.flag (Reg.AO_CH_STAT_THERMAL n) then [0xB004] else []) ∧
        s.regsKept [Reg.AO_CH_STAT n, Reg.AO_CH_TEMP n, Reg.AO_STAT] t ∧ t = { s with regs := t.regs, evt := t.evt })

/-- R571, R572; the order of sources is that of R563. -/
def Obligations.LoopWatchdogMakesSafe : Prop :=
  ∀ (s : State), s.shaped = true → s.room 2 = true →
    (s.flag Reg.AO_WDT_EN = true → s.ao.wdRun = true → s.expired s.ao.wdStart (s.getF Reg.AO_WDT_US * 1000) = true → s.aoComes = false →
      ∃ t, exec .aoWatchdogExpiry s = .next t ∧ t.flag Reg.AO_WST_SAFE = true ∧ t.flag Reg.AO_WST_REFRESHED = false ∧
        (∀ n, n < 8 → t.aoCode n = if s.flag (Reg.AO_CH_STAT_THERMAL n) = true ∨ s.flag (Reg.AO_CH_TCTL_TRIM n) = true ∨ s.aoSafe n = true
          then s.aoCode n else s.aoSafeValue n) ∧
        (s.news t).map (·.2.1) = (if s.flag Reg.AO_WST_SAFE then [] else [0xB005]) ∧
        s.regsKept [Reg.AO_WST, Reg.UNIT_IRQ .ao] t ∧ t = { s with regs := t.regs, ao := t.ao, evt := t.evt, hst := t.hst }) ∧
    (∀ (i : Iface) (v : Word), s.hostUp = true → s.may i .operate = true → s.on secAo = true → v.toNat % 4 = 1 →
      ∃ t, exec (.aoKick i v) s = .next t ∧ t.flag Reg.AO_WST_REFRESHED = true ∧ t.ao.wdStart = s.tm.runt ∧ t.ao.wdRun = true ∧
        s.regsKept [Reg.AO_WST] t ∧ t = { s with regs := t.regs, ao := t.ao, hst := t.hst }) ∧
    (∀ (i : Iface) (v : Word), s.hostUp = true → s.may i .operate = true → v.toNat % 4 = 2 → s.aoDue = false →
      ((s.flag Reg.AO_WST_SAFE = true ∨ ∃ n ∈ List.range 8, s.flag (Reg.AO_CH_STAT_RSAFE n) = true) → (s.flag Reg.AO_WST_REFRESHED = true ∨ s.aoComes = true) →
        ∃ t, exec (.aoRearm i v) s = .next t ∧ t.flag Reg.AO_WST_SAFE = false ∧ t.ao.wdStart = s.tm.runt ∧
          (∀ n, n < 8 → t.aoSafe n = false ∧ (t.flag (Reg.AO_CH_STAT_THERMAL n) = false → t.flag (Reg.AO_CH_TCTL_TRIM n) = false →
            t.aoCode n = s.getF (Reg.AO_CH_CODE_CODE n))) ∧
          s.news t = [(aoSrc 0, 0xB006, 2, 0)] ∧ s.memKept t) ∧
      (s.flag Reg.AO_WST_REFRESHED = false → s.aoComes = false →
        ∃ t, exec (.aoRearm i v) s = .next t ∧ t.flag Reg.AO_WST_REARM_REJ = true ∧ (∀ n, n < 8 → t.aoCode n = s.aoCode n) ∧
          s.news t = [] ∧ s.regsKept [Reg.AO_WST] t ∧ t = { s with regs := t.regs, hst := t.hst }))

/-- R575–R577 with SEALED = 0. -/
def Obligations.LoopTrimFromTwoPoints : Prop :=
  ∀ (s : State), s.shaped = true → s.hostUp = true → s.room 2 = true → ∀ n, n < 8 → s.flag (Reg.AO_CH_CFG_SEALED n) = false →
    ∀ (i : Iface) (v : Word), s.level i = .engineer →
    (s.hasAo n = false → ∀ p, ∀ c, c ∈ [Instr.aoTrimControl i n v, .aoTrimMeasure i n p v, .aoTrimApply i n v] → exec c s = .next s) ∧
    (s.hasAo n = true → s.unwritten = true →
    (s.flag (Reg.AO_CH_TCTL_TRIM n) = false → v.toNat.testBit 31 = true → v.toNat.testBit 30 = false →
      ∃ t, exec (.aoTrimControl i n v) s = .next t ∧ t.flag (Reg.AO_CH_TCTL_TRIM n) = true ∧
        t.getF (Reg.AO_CH_TCTL_TCODE n) = v.toNat % 2 ^ 16 ∧ t.rd (Reg.AO_CH_TRAW n) = 0 ∧
        (t.ach n).seen1 = false ∧ (t.ach n).seen2 = false ∧
        s.regsKept [Reg.AO_CH_TCTL n, Reg.AO_CH_TRAW n] t ∧ t = { s with regs := t.regs, ao := t.ao, hst := t.hst }) ∧
    (s.flag (Reg.AO_CH_TCTL_TRIM n) = true →
      (∃ t, exec (.aoTrimMeasure i n 1 v) s = .next t ∧ t.rd (Reg.AO_CH_TMEAS_1 n) = v.toNat ∧
        t.getF (Reg.AO_CH_TRAW_R1 n) = s.getF (Reg.AO_CH_TCTL_TCODE n) ∧ (t.ach n).seen1 = true ∧ (t.ach n).seen2 = (s.ach n).seen2 ∧
        s.regsKept [Reg.AO_CH_TMEAS_1 n, Reg.AO_CH_TRAW n] t ∧ t = { s with regs := t.regs, ao := t.ao, hst := t.hst }) ∧
      (∃ t, exec (.aoTrimMeasure i n 2 v) s = .next t ∧ t.rd (Reg.AO_CH_TMEAS_2 n) = v.toNat ∧
        t.getF (Reg.AO_CH_TRAW_R2 n) = s.getF (Reg.AO_CH_TCTL_TCODE n) ∧ (t.ach n).seen2 = true ∧ (t.ach n).seen1 = (s.ach n).seen1 ∧
        s.regsKept [Reg.AO_CH_TMEAS_2 n, Reg.AO_CH_TRAW n] t ∧ t = { s with regs := t.regs, ao := t.ao, hst := t.hst })) ∧
    (s.flag (Reg.AO_CH_TCTL_TRIM n) = true → v.toNat.testBit 31 = true →
      ∀ r1, r1 = (s.getF (Reg.AO_CH_TRAW_R1 n) : Int) → ∀ r2, r2 = (s.getF (Reg.AO_CH_TRAW_R2 n) : Int) →
      ∀ m1, m1 = (s.rd (Reg.AO_CH_TMEAS_1 n) : Int) → ∀ m2, m2 = (s.rd (Reg.AO_CH_TMEAS_2 n) : Int) →
      ((s.ach n).seen1 = true → (s.ach n).seen2 = true → r1 + 32768 ≤ r2 → m1 < m2 →
        ∀ g, g = roundAway (1536000000 * (r2 - r1)) (m2 - m1).toNat →
        ∀ o, o = roundAway (256 * (r1 * (m2 - m1) - m1 * (r2 - r1))) (m2 - m1).toNat →
        50 * (g - 2 ^ 22).natAbs ≤ 2 ^ 22 → o.natAbs ≤ 512 * 256 →
        ∃ t, exec (.aoTrimApply i n v) s = .next t ∧ t.rd (Reg.AO_CH_TRIM_G n) = ofSigned 32 g ∧
          t.rd (Reg.AO_CH_TRIM_O n) = ofSigned 32 o ∧ s.news t = [(aoSrc n, 0xB007, 2, ofSigned 32 g)] ∧ t.aud = s.aud ∧
          s.regsKept [Reg.AO_CH_TCTL n, Reg.AO_CH_TRIM_G n, Reg.AO_CH_TRIM_O n, Reg.UNIT_IRQ .ao] t ∧ s.memKept t) ∧
      (((s.ach n).seen1 = false ∨ (s.ach n).seen2 = false) →
        ∃ t, exec (.aoTrimApply i n v) s = .next t ∧ t.flag (Reg.AO_CH_STAT_TRIM_ERR n) = true ∧
          s.regsKept [Reg.AO_CH_TCTL n, Reg.AO_CH_STAT n] t ∧ t = { s with regs := t.regs, hst := t.hst })))

/-- R595, R596, R598, R600: the governor.  `State.holdE` is the usable energy of R595 in mJ. -/
def Obligations.RideThroughFollowsTheEnergy : Prop :=
  ∀ (s : State), s.shaped = true → s.room 100 = true → s.powered = true →
    (∀ h, s.flag Reg.PWR_STAT_VIN_OK = true → s.flag Reg.PWR_STAT_RIDE = false → s.rd Reg.PWR_GOV_THR_S < s.holdE h % 2 ^ 32 →
      ∃ t, exec (.vinLost h) s = .next t ∧ t.flag Reg.PWR_STAT_VIN_OK = false ∧ t.flag Reg.PWR_STAT_RIDE = true ∧
        t.getF Reg.PWR_GOV_CTL_FORCE = 0 ∧ t.rd Reg.PWR_HOLD_V = h % 2 ^ 32 ∧ t.rd Reg.PWR_HOLD_E = s.holdE h % 2 ^ 32 ∧
        t.pwr.rideStart = s.tm.runt ∧ (s.news t).head? = some (pwrSrc, 0x0101, 1, s.holdE h % 2 ^ 32) ∧
        t.profile = max s.profile (if s.rd Reg.PWR_GOV_THR_F < s.holdE h % 2 ^ 32 then 0 else if s.rd Reg.PWR_GOV_THR_L < s.holdE h % 2 ^ 32 then 1 else 2)) ∧
    (∀ h, s.flag Reg.PWR_STAT_RIDE = true → s.flag Reg.PWR_STAT_VIN_OK = false → s.expired s.pwr.sampleAt 100000 = true →
      (s.rd Reg.PWR_GOV_THR_S < s.holdE h % 2 ^ 32 →
        ∃ t, exec (.governorSample h) s = .next t ∧ t.rd Reg.PWR_HOLD_E = s.holdE h % 2 ^ 32 ∧ t.pwr.endSeq = none ∧
          t.profile = max s.profile (if s.rd Reg.PWR_GOV_THR_F < s.holdE h % 2 ^ 32 then 0 else if s.rd Reg.PWR_GOV_THR_L < s.holdE h % 2 ^ 32 then 1 else 2)) ∧
      (s.holdE h % 2 ^ 32 ≤ s.rd Reg.PWR_GOV_THR_S →
        ∃ t, exec (.governorSample h) s = .next t ∧ t.pwr.endSeq = some .ride ∧ t.profile = s.profile ∧
          (s.news t).head? = some (pwrSrc, 0x0104, 1, s.holdE h % 2 ^ 32))) ∧
    (s.flag Reg.PWR_STAT_RIDE = true → s.flag Reg.PWR_STAT_VIN_OK = true → s.expired s.pwr.vinGoodAt 20000000 = true →
      s.pwr.heldReset = none →
      ∃ t, exec .rideThroughEnd s = .next t ∧ t.flag Reg.PWR_STAT_RIDE = false ∧ t.profile = 0 ∧
        (s.profile ≠ 0 → t.tm.div = 1) ∧ t.rd Reg.PWR_RT_LAST_0 = (s.tm.runt - s.pwr.rideStart) / ms32 % 2 ^ 32 ∧
        (s.news t).getLast? = some (pwrSrc, 0x0102, 2, (s.tm.runt - s.pwr.rideStart) / 2 ^ 32 % 2 ^ 64)) ∧
    (∀ d, s.pwr.clockPending = some d → (s.pwr.parts.any fun p => (p.st == .stopping && p.shedAfter) || (p.st == .shed && p.since == s.tm.runt && s.tm.runt != 0)) = false →
      ∃ t, exec .governorClockChange s = .next t ∧ t.tm.div = d ∧ t.pwr.clockPending = none ∧
        s.regsKept [Reg.ANG_PINC] t ∧ t = { s with regs := t.regs, tm := t.tm, pwr := t.pwr }) ∧
    (∀ h v, s.flag Reg.PWR_STAT_VIN_OK = true →
      ∃ t, exec (.holdSample h v) s = .next t ∧ t.rd Reg.PWR_HOLD_V = h % 2 ^ 32 ∧ t.rd Reg.PWR_VIN_V = v % 2 ^ 32 ∧
        t.rd Reg.PWR_HOLD_E = s.holdE h % 2 ^ 32 ∧
        t.flag Reg.PWR_STAT_CHARGED = decide (50 * ((h : Int) - s.rd Reg.PWR_HOLD_VSET).natAbs ≤ s.rd Reg.PWR_HOLD_VSET) ∧
        s.regsKept [Reg.PWR_HOLD_V, Reg.PWR_HOLD_E, Reg.PWR_VIN_V, Reg.PWR_STAT] t ∧ t = { s with regs := t.regs })

/-- R582, R585, R587–R589, R591. -/
def Obligations.UnitsPassTheirStates : Prop :=
  ∀ (s : State), s.shaped = true → s.room 100 = true → s.powered = true → s.profile = 0 →
    (s.pwr.parts.all fun p => !p.refire && p.heldEnable.isNone) = true →
    (∀ u, u < 25 → u = s.pwr.nextSlot → s.slotAt u ≤ s.tm.runt → (u = 0 ∨ s.settled (u - 1) = true) →
      ∃ t, exec (.staggerSlotStart u) s = .next t ∧ t.pwr.nextSlot = u + 1 ∧ t.getF Reg.PWR_STAT_SLOT = u ∧
        (∀ id, id ∈ partIds → isFeeder id = false →
          t.partSt id = if s.slotOf id = u ∧ s.partSt id = .waiting then .starting else s.partSt id) ∧ s.memKept t) ∧
    (∀ id, id ∈ partIds → id ≠ secKln → isFeeder id = false → s.partSt id = .starting →
      ∀ cal, ∃ t, exec (.unitReady id cal) s = .next t ∧ t.partSt id = .on ∧
        (∀ k, k ∈ partIds → k ≠ id → isFeeder k = false → t.partSt k = s.partSt k)) ∧
    (∀ id, id ∈ partIds → s.partSt id = .starting → (s.part id).any (fun p => !p.failed && s.expired p.since (4 * s.startNs id)) = true →
      ∃ t, exec (.unitStartFail id) s = .next t ∧ (t.part id).any (·.failed) = true ∧ t.partSt id = .starting ∧
        t.flag (Reg.PWR_SLOT_FAIL (s.slotOf id)) = true ∧ (s.news t).head? = some (pwrSrc, 0x0105, 1, id)) ∧
    (∀ (i : Iface) (v : Word) (b : Blk), b ∈ Blk.all → alwaysOn b = false → s.hostUp = true → s.level i = .engineer →
      (v.toNat % 2 = 1 → s.flag (Reg.UNIT_CTL_ENABLE b) = false →
        ∃ t, exec (.unitEnableWrite i (Reg.UNIT_CTL b) v) s = .next t ∧ t.flag (Reg.UNIT_CTL_ENABLE b) = true ∧
          (∀ id, id ∈ partIds → t.partSt id =
            if blkOf id = b ∧ s.partSt id = .off ∧ (s.part id).any (·.conf) = true then .waiting else s.partSt id) ∧
          s.regsKept [Reg.UNIT_CTL b] t ∧ t = { s with regs := t.regs, pwr := t.pwr, hst := t.hst }) ∧
      (v.toNat % 2 = 0 → s.flag (Reg.UNIT_CTL_ENABLE b) = true →
        ∃ t, exec (.unitEnableWrite i (Reg.UNIT_CTL b) v) s = .next t ∧ t.flag (Reg.UNIT_CTL_ENABLE b) = false ∧
          (∀ id, id ∈ partIds → t.partSt id =
            if blkOf id = b then (match s.partSt id with | .waiting => .off | .starting => .stopping | .on => .stopping | x => x)
            else s.partSt id))) ∧
    (∀ id, id ∈ partIds → s.partSt id = .stopping → (s.part id).any (fun p => !p.shedAfter) = true →
      ∃ t, exec (.unitStopComplete id) s = .next t ∧
        t.partSt id = (if (s.part id).any (·.conf) = true ∧ s.enabled id = true then .waiting else .off) ∧
        (∀ k, k ∈ partIds → k ≠ id → t.partSt k = s.partSt k) ∧ t = { s with pwr := t.pwr }) ∧
    (∀ u, u < 25 → s.flag Reg.PWR_STAT_STAG_DONE = true → u = (s.startable.map fun p => s.slotOf p.id).foldl min 25 →
      s.expired s.pwr.lastStart (s.getF Reg.PWR_STAG_GAP * 1000000) = true →
      ∃ t, exec (.unitStartAfterGap u) s = .next t ∧ t.pwr.lastStart = s.tm.runt ∧
        (∀ id, id ∈ partIds → isFeeder id = false → t.partSt id =
          if s.slotOf id = u ∧ s.partSt id = .waiting then .starting else s.partSt id))

/-- R592–R594, R602, R603, R607. -/
def Obligations.ResetsKeepWhatTheyMust : Prop :=
  ∀ (s : State), s.shaped = true → s.room 100 = true →
    (∀ us, 0 < us → s.powered = true → s.rideHeld = false →
      (us < 100000 → s.warmHeld = false → s.pwr.warmBusy = false →
        ∃ t, exec (.resetNPulse us) s = .next t ∧ t.pwr.warmBusy = true ∧ t.level .pcie = .read ∧ t.level .spi = .read ∧
          t.tm = s.tm ∧ t.crs = s.crs ∧ t.prt = s.prt ∧ t.mtr = s.mtr ∧ t.dio = s.dio ∧ t.ao = s.ao ∧ t.kln = s.kln ∧ s.memKept t) ∧
      (100000 ≤ us → ∃ t, exec (.resetNPulse us) s = .next t ∧ t.pwr.endSeq = some .cold)) ∧
    (∀ (i : Iface) (v : Word), s.hostUp = true → s.level i = .engineer → s.powered = true →
      (v.toNat % 8 < 2 → (s.rideHeld = true ∨ s.warmHeld = true) → s.pwr.heldReset.all (fun h => !h.1) = true →
        ∃ t, exec (.pwrWarm i v) s = .next t ∧ t.pwr.heldReset = some (false, 1) ∧ t.pwr.warmBusy = false ∧
          t = { s with pwr := t.pwr, hst := t.hst }) ∧
      (v.toNat % 8 < 2 → s.rideHeld = false → s.warmHeld = false →
        ∃ t, exec (.pwrWarm i v) s = .next t ∧ t.pwr.warmBusy = true ∧ t.level i = .read ∧ t.tm = s.tm ∧ t.crs = s.crs ∧ s.memKept t) ∧
      (v.toNat % 8 < 4 → s.rideHeld = false →
        ∃ t, exec (.pwrCold i v) s = .next t ∧ t.pwr.endSeq = some .cold) ∧
      (∃ t, exec (.pwrStandby i v) s = .next t ∧ t.pwr.endSeq = some .standby)) ∧
    (∀ h, s.pwr.heldReset = some h → h.1 = false → s.powered = true → s.rideHeld = false → s.warmHeld = false →
      s.pwr.warmBusy = false → ∃ t, exec .warmResetBegin s = .next t ∧ t.pwr.warmBusy = true ∧ t.pwr.heldReset = none ∧
        t.level .pcie = .read ∧ t.level .spi = .read ∧ t.tm = s.tm ∧ t.crs = s.crs ∧ s.memKept t) ∧
    (s.pwr.warmBusy = true → ∃ t, exec .warmResetDone s = .next t ∧ t.pwr.warmBusy = false ∧ t.flag Reg.HST_STAT_WARM = true ∧
      s.regsKept [Reg.HST_STAT, Reg.UNIT_IRQ .hst] t ∧ t = { s with regs := t.regs, pwr := t.pwr, hst := t.hst }) ∧
    (∀ c, s.pwr.endSeq = some c → s.pwr.unpowered = false →
      ∃ t, exec .endSequenceComplete s = .next t ∧ t.kln.u0 = s.kln.u0 ∧ t.kln.u1 = s.kln.u1 ∧
        t.pwr.unpowered = decide (c = .standby ∨ s.flag Reg.PWR_STAT_VIN_OK = false)) ∧
    (s.flag Reg.PWR_STAT_VIN_OK = false → s.pwr.unpowered = true →
      ∃ t, exec .vinGood s = .next t ∧ t.pwr.unpowered = false ∧ t.kln.u0 = s.kln.u0 ∧ t.kln.u1 = s.kln.u1 ∧ t.aud = s.aud ∧
        t.evt.soe0 = s.evt.soe0 ∧ t.evt.soeGen = s.evt.soeGen ∧ t.crs = CrsSt.reset ∧ t.dram = [] ∧
        t.getF Reg.PWR_BOOT_CAUSE = (if s.pwr.endSeq = some .ride then 1 else 0)) ∧
    (∀ h, s.pwr.heldReset = some h → h.1 = true → s.flag Reg.PWR_STAT_VIN_OK = false → s.powered = true →
      ∃ t, exec .vinGood s = .next t ∧ t.flag Reg.PWR_STAT_VIN_OK = true ∧ t.pwr.endSeq = some .cold) ∧
    (s.flag Reg.PWR_STAT_VIN_OK = false → s.pwr.unpowered = false → s.pwr.heldReset.all (fun h => !h.1) = true →
      ∃ t, exec .vinGood s = .next t ∧ t.flag Reg.PWR_STAT_VIN_OK = true ∧ t.pwr.vinGoodAt = s.tm.runt ∧
        s.regsKept [Reg.PWR_STAT] t ∧ t = { s with regs := t.regs, pwr := t.pwr }) ∧
    (s.pwr.unpowered = true → s.pwr.standby = true → s.flag Reg.PWR_STAT_VIN_OK = true →
      ∃ t, exec .wake s = .next t ∧ t.pwr.unpowered = false ∧ t.getF Reg.PWR_BOOT_CAUSE = 3 ∧ t.kln.u0 = s.kln.u0 ∧
        t.kln.u1 = s.kln.u1 ∧ t.aud = s.aud ∧ t.crs = CrsSt.reset ∧ t.dram = [])

/-- R601, R605, R606; LOW within 0.05 V of its threshold is a free value (log 8). -/
def Obligations.ForcedProfilesClockAndBattery : Prop :=
  ∀ (s : State), s.shaped = true → s.room 100 = true → s.powered = true → s.flag Reg.PWR_STAT_VIN_OK = true →
    (∀ (i : Iface) (v : Word), s.hostUp = true → s.level i = .engineer → s.flag Reg.PWR_STAT_RIDE = false → v.toNat % 4 ≠ 3 →
      ∃ t, exec (.governorForceWrite i v) s = .next t ∧ t.profile = v.toNat % 4 ∧ t.getF Reg.PWR_GOV_CTL_FORCE = v.toNat % 4 ∧
        t.flag Reg.PWR_STAT_FORCED = decide (v.toNat % 4 ≠ 0)) ∧
    ((s.clk = clkLocked ∨ s.clk = clkHold) → s.tm.prev / sec32 < s.tm.time / sec32 →
      ∃ t, exec .rtcSync s = .next t ∧ t.pwr.rtcSec = s.tm.time / sec32 ∧ t.pwr.rtcSub = 0 ∧ t.pwr.rtcValid = true ∧
        t = { s with pwr := t.pwr }) ∧
    (∀ mv, s.on secEvt = true → s.pwr.vbatAt.all (fun c => s.expired c 1000000000) = true →
      ∃ t, exec (.vbatMeasure mv) s = .next t ∧ t.getF Reg.PWR_VBAT_MV = mv % 2 ^ 16 ∧ t.pwr.vbatAt = some s.tm.runt ∧
        (mv < 2550 → t.flag Reg.PWR_VBAT_LOW = true) ∧ (2650 < mv → t.flag Reg.PWR_VBAT_LOW = false) ∧
        s.news t = (if t.flag Reg.PWR_VBAT_LOW = true ∧ s.flag Reg.PWR_VBAT_LOW = false then [(pwrSrc, 0x0107, 1, mv % 2 ^ 64)] else []) ∧
        s.regsKept [Reg.PWR_VBAT, Reg.UNIT_IRQ .pwr] t ∧
        t = { s with regs := t.regs, evt := t.evt, pwr := t.pwr, hst := t.hst, freeCtr := t.freeCtr })

/-- R612, R614, R616, R617, R620, R625.  That counts begin afresh at each transition, and how a partner's failure shows, are log 46. -/
def Obligations.PairStatesFollowHeartbeats : Prop :=
  ∀ (s : State), s.shaped = true → s.room 40 = true →
    ((s.on secWyt = false ∨ s.tm.time / hbPer ≤ s.wyt.hbIdx) → ∃ t, exec .heartbeatTx s = .next t ∧ t = s) ∧
    (s.on secWyt = true → s.wyt.hbIdx < s.tm.time / hbPer → ∃ t, exec .heartbeatTx s = .next t ∧ t.wyt.hbIdx = s.tm.time / hbPer ∧ t.wyt.hbSeen = false ∧
      t.wyt.tripf = 0 ∧ s.sent t = (if s.on (secEth 4) && s.flag Reg.ETH_W_STAT_LINK then [.wFrame s.wyt.frames (.heartbeat s.heartbeat)] else []) ∧
      t.getF Reg.WYT_HB_CNT_MISSED = (if s.wyt.hbSeen = false ∧ s.wy = wyPaired then min 65535 (s.getF Reg.WYT_HB_CNT_MISSED + 1) else s.getF Reg.WYT_HB_CNT_MISSED) ∧
      t.getF Reg.WYT_STAT_HBGOOD = (if s.wyt.hbSeen then s.getF Reg.WYT_STAT_HBGOOD else 0) ∧
      s.regsKept [Reg.WYT_HB_CNT, Reg.WYT_STAT] t ∧ t = { s with regs := t.regs, wyt := t.wyt, tx := t.tx, hst := s.marks t }) ∧
    (∀ w : Heartbeat,
      ((s.on secWyt = false ∨ s.on (secEth 4) = false) → ∃ t, exec (.heartbeatRx w) s = .next t ∧ t = s) ∧
      (s.on secWyt = true → s.on (secEth 4) = true → ∃ t, exec (.heartbeatRx w) s = .next t ∧ t.rd Reg.WYT_PSTAMP = w.stamp % 2 ^ 32 ∧
        t.getF Reg.WYT_STAT_P_ROLE = w.role % 4 ∧ t.getF Reg.WYT_STAT_P_PROF = w.profile % 4 ∧ t.wyt.hbAt = some s.tm.runt ∧ t.wyt.hbSeen = true ∧
        t.wyt.lost = false ∧ t.getF Reg.WYT_STAT_HBGOOD = min 255 (s.getF Reg.WYT_STAT_HBGOOD + 1) ∧
        (t.wy ≠ wyPaired → t.wyt.trips = s.wyt.trips.filter (fun x => !w.tripf.testBit x.1)) ∧
        (t.wy = s.wy ∨ t.wy = wyPaired ∨ t.wy = wyRefused) ∧
        ((s.wy = wyAlone ∨ s.wy = wySeek) → w.stamp = s.shortStamp → w.side ≠ s.getF Reg.WYT_STAT_SIDE → max 1 (s.getF Reg.WYT_CFG_FORM) ≤ s.wyt.same + 1 →
          t.wy = wyPaired ∧ t.role = (if s.role = 1 ∧ w.role % 4 ≠ 1 then 1 else if s.role ≠ 1 ∧ w.role % 4 = 1 then 2 else if s.flag Reg.WYT_STAT_SIDE then 2 else 1) ∧
          (s.news t).getLast? = some (wytSrc, 0xC001, 2, t.role) ∧ t.wyt.trips = [] ∧ t.wyt.base = none) ∧
        (s.wy = wyRefused → w.stamp = s.shortStamp → max 1 (s.getF Reg.WYT_CFG_FORM) ≤ s.wyt.same + 1 → t.wy = wyPaired) ∧
        ((s.wy = wySeek ∨ s.wy = wyPaired ∨ s.wy = wyAlone) → w.stamp ≠ s.shortStamp → max 1 (s.getF Reg.WYT_CFG_FORM) ≤ s.wyt.differ + 1 →
          t.wy = wyRefused ∧ t.getF Reg.WYT_STAT_CAUSE = wyCauseStamp ∧ (s.news t).any (fun e => e.1 == wytSrc && e.2.1 == 0xC004 && e.2.2.1 == 1) = true) ∧
        (s.wy = wyPaired → w.stamp = s.shortStamp → t.wy = wyPaired ∧ t.role = s.role ∧ s.news t = []) ∧
        (s.wy ≠ wyTransit → s.wyt.same + 1 < s.getF Reg.WYT_CFG_FORM → s.wyt.differ + 1 < s.getF Reg.WYT_CFG_FORM → s.wyt.sameSide + 1 < s.getF Reg.WYT_CFG_FORM →
          t.wy = s.wy ∧ s.news t = []))) ∧
    (∀ due, due = (s.on secWyt && s.wyt.hbAt.isSome && !s.wyt.lost && s.silent && !s.hbComes fun _ => true) →
      (due = false → ∃ t, exec .heartbeatLoss s = .next t ∧ t = s) ∧
      (due = true → ∃ t, exec .heartbeatLoss s = .next t ∧ t.getF Reg.WYT_HB_CNT_LOSSES = min 65535 (s.getF Reg.WYT_HB_CNT_LOSSES + 1) ∧ t.wyt.lost = true ∧
        t.getF Reg.WYT_STAT_HBGOOD = 0 ∧ t.wy = (if s.wy = wyPaired then wyAlone else s.wy) ∧
        (s.wy = wyPaired → (s.news t).head?.map (fun e => (e.1, e.2.1, e.2.2.1)) = some (wytSrc, 0xC002, 1)) ∧
        ((s.role ≠ 2 ∨ s.getF Reg.WYT_STAT_RINGABS ≠ 3) → t.role = s.role) ∧
        (s.role = 2 → (s.wy = wyPaired ∨ s.wy = wyAlone) → s.getF Reg.WYT_STAT_RINGABS = 3 → t.role = 1 ∧ (s.news t).any (fun e => e.2.1 == 0xC003) = true))) ∧
    (∀ due, due = (s.wy == wySeek && s.wyt.hbAt.isNone && s.expired s.wyt.readyAt (s.getF Reg.WYT_CFG_WAIT * 1000000) && !s.hbComes fun _ => true) →
      (due = false → ∃ t, exec .pairWaitTimeout s = .next t ∧ t = s) ∧
      (due = true → ∃ t, exec .pairWaitTimeout s = .next t ∧ t.wy = wyAlone ∧ t.role = if s.wyt.ringHeard then 2 else 1)) ∧
    (s.wyt.calmAt = none → ∃ t, exec .transitTimeout s = .next t ∧ t = s) ∧
    (∀ x, s.wyt.calmAt = some x → ∀ due, due = (s.wy == wyTransit && s.calm && s.expired x 100000000 && s.wyt.pStamp != s.shortStamp && !s.hbComes fun h => h.stamp == s.shortStamp) →
      (due = false → ∃ t, exec .transitTimeout s = .next t ∧ t = s) ∧
      (due = true → ∃ t, exec .transitTimeout s = .next t ∧ t.wy = wyRefused ∧ t.getF Reg.WYT_STAT_CAUSE = wyCauseRefire ∧ t.role = s.role)) ∧
    (∀ up, up = (s.on (secEth 4) && s.flag Reg.ETH_W_STAT_LINK) →
      (up = false → ∃ t, exec .wUnknownFrameRx s = .next t ∧ t = s) ∧
      (up = true → ∃ t, exec .wUnknownFrameRx s = .next t ∧ t.getF Reg.ETH_W_CNT_UNKNOWN = min 65535 (s.getF Reg.ETH_W_CNT_UNKNOWN + 1) ∧
        s.regsKept [Reg.ETH_W_CNT] t ∧ t = { s with regs := t.regs, hst := s.marks t })) ∧
    (∀ n k r : Nat,
      ((s.wUp && s.paired) = false → ∃ t, exec (.wRefireRx n k r) s = .next t ∧ t = s) ∧
      ((s.wUp && s.paired) = true → ∃ t, exec (.wRefireRx n k r) s = .next t ∧ t.wy = wyTransit ∧ t.wyt.refire = some ⟨n, k, r, false, false, none⟩ ∧
        t.role = s.role ∧ s.regsKept [Reg.WYT_STAT, Reg.UNIT_IRQ .wyt] t)) ∧
    (s.wyt.refire = none → ∃ t, exec .pairRefireStart s = .next t ∧ t = s) ∧
    (∀ r, s.wyt.refire = some r →
      (r.done = false → s.tw < r.at_ → ∃ t, exec .pairRefireStart s = .next t ∧ t = s) ∧
      (r.done = false → r.at_ ≤ s.tw → r.mine = false → s.stampOfSlot r.slot ≠ r.stamp → ∃ t, exec .pairRefireStart s = .next t ∧
        t = { s with wyt := { s.wyt with refire := some { r with done := true } } }) ∧
      (r.mine = true → r.done = true → r.partner = some false → ∃ t, exec .pairRefireStart s = .next t ∧ s.news t = [(wytSrc, 0xC007, 1, r.stamp % 2 ^ 64)] ∧
        t = { s with wyt := { s.wyt with refire := some { r with partner := some true } }, evt := t.evt }))

/-- R627, R629, R630.  That REBASE clears MAP and FLAGGED is log 46. -/
def Obligations.PairComparesTripsAndTotals : Prop :=
  ∀ (s : State), s.shaped = true → s.room 400 = true →
    (∀ late : Nat × Nat → Bool, late = (fun x => s.expired x.2 (s.getF Reg.WYT_TRIP_WIN * 1000000) && !s.hbComes fun h => h.tripf.testBit x.1) →
      ∀ due, due = s.wyt.trips.filter late →
      ∃ t, exec .tripDisagreeWindow s = .next t ∧ t.wyt = { s.wyt with trips := s.wyt.trips.filter fun x => !late x } ∧
        (s.wy ≠ wyPaired → t = { s with wyt := t.wyt }) ∧
        (s.wy = wyPaired → s.news t = due.map (fun x => (wytSrc, 0xC005, 1, (if x.1 < 12 then x.1 else 0x10 + (x.1 - 12)) % 2 ^ 64)) ∧
          t.getF Reg.WYT_TRIP_DISAGREE = min 65535 (s.getF Reg.WYT_TRIP_DISAGREE + due.length) ∧ s.regsKept [Reg.WYT_TRIP, Reg.UNIT_IRQ .wyt] t)) ∧
    (∀ w : Nat, ∀ vs : List Nat, ∀ xs, xs = (vs ++ List.replicate 160 0).take 160 →
      ((s.wy ≠ wyPaired ∨ s.role ≠ 1) → ∃ t, exec (.wCompareRx w xs) s = .next t ∧ t = s) ∧
      (s.wy = wyPaired → s.role = 1 →
        ((s.wyt.own.all fun r => r.tw != w) = true → ∃ t, exec (.wCompareRx w xs) s = .next t ∧
          t = { s with wyt := { s.wyt with theirs := s.wyt.theirs ++ [⟨w, xs, s.tm.runt⟩] } }) ∧
        (∀ r, (s.wyt.own.find? fun r => r.tw == w) = some r → r.values.length = 160 → ∃ t, exec (.wCompareRx w xs) s = .next t ∧
          t.wyt.own = s.wyt.own.filter (fun x => x.tw != w) ∧
          (s.wyt.base = none → t.wyt.base = some (r.values.zipIdx.map (fun x => (x.1 : Int) - xs.getD x.2 0), r.values) ∧ t.evt = s.evt ∧ t.regs = s.regs) ∧
          (∀ q, s.wyt.base = some q → t.wyt.base = some q ∧ ∀ n, n < 160 →
            ∀ big, big = decide ((((r.values.getD n 0 : Int) - xs.getD n 0 - q.1.getD n 0).natAbs * 1000000 : Int) >
              max ((s.getF Reg.WYT_TOT_TOL_ABS : Int) * 1000000) ((s.getF Reg.WYT_TOT_TOL_PPM : Int) * ((r.values.getD n 0 : Int) - q.2.getD n 0))) →
            (t.getF (Reg.WYT_TOT_MAP_MAP (n / 32))).testBit (n % 32) = ((s.getF (Reg.WYT_TOT_MAP_MAP (n / 32))).testBit (n % 32) || big) ∧
            (s.news t).any (fun e => e == (wytSrc, 0xC006, 1, n)) = (big && !(s.getF (Reg.WYT_TOT_MAP_MAP (n / 32))).testBit (n % 32)))))) ∧
    (∀ old : PairRec → Bool, old = (fun r => s.expired r.at_ (2 * s.meterPeriod) && !s.comes fun i => match i with
        | .wCompareRx w _ => w == r.tw
        | _ => false) → ∃ t, exec .compareUnpaired s = .next t ∧
      t.wyt = { s.wyt with own := s.wyt.own.filter fun r => !old r, theirs := s.wyt.theirs.filter fun r => !old r } ∧
      t.getF Reg.WYT_TOT_STAT_UNPAIRED = min 65535 (s.getF Reg.WYT_TOT_STAT_UNPAIRED + (s.wyt.own.countP old + s.wyt.theirs.countP old)) ∧
      s.regsKept [Reg.WYT_TOT_STAT] t ∧ t = { s with regs := t.regs, wyt := t.wyt, hst := s.marks t }) ∧
    (∀ i : Iface, ∀ v : Word, s.hostUp = true →
      (s.may i .engineer = false → ∃ t, exec (.wytRebase i v) s = .next t ∧ t.wyt = s.wyt ∧ t.flag Reg.HST_STAT_ACC_DENIED = true ∧ s.regsKept [Reg.HST_STAT, Reg.UNIT_IRQ .hst] t) ∧
      (s.may i .engineer = true → ∃ t, exec (.wytRebase i v) s = .next t ∧ t.wyt = { s.wyt with base := none } ∧ t.getF Reg.WYT_TOT_STAT_FLAGGED = 0 ∧
        (∀ m, m < 5 → t.rd (Reg.WYT_TOT_MAP m) = 0) ∧ s.regsKept (Reg.WYT_TOT_STAT :: (List.range 5).map Reg.WYT_TOT_MAP) t ∧ t = { s with regs := t.regs, wyt := t.wyt, hst := t.hst }))

/-- A step takes the command at the front of the queue and runs exec on it with the queue's rest (log 1: the queue is the model's own). -/
def Obligations.QueueFrontIsRun : Prop :=
  ∀ (s : State) (c : Instr) (rest : List Instr), s.pending = c :: rest → step s = exec c { s with pending := rest }

/-- R645, R646: a request for a level.  `State.reaches` compares the SHA-256 of the passphrase with the digest in force (R682). -/
def Obligations.AccessLevelFollowsThePassphrase : Prop :=
  ∀ (s : State) (i : Iface) (l : Level) (v : Word), s.hostUp = true → s.shaped = true → s.room 2 = true →
    (v.toNat % 8 = 1 ∧ l = .operate ∨ v.toNat % 8 = 2 ∧ l = .engineer) → (s.accOf i).lockFrom = none →
    ∃ t, exec (.accessLevelRequest i v) s = .next t ∧ t.hst.pw = List.replicate 8 0 ∧ (∀ j, j ≠ i → t.accOf j = s.accOf j) ∧
      (s.reaches l = true → t.level i = l ∧ (t.accOf i).fails = 0 ∧ (t.accOf i).lockFrom = none) ∧
      (s.reaches l = false → t.level i = s.level i ∧ (t.accOf i).fails = (s.accOf i).fails + 1 ∧
        ((s.accOf i).fails < 4 → (t.accOf i).lockFrom = none ∧ s.news t = []) ∧
        (4 ≤ (s.accOf i).fails → (t.accOf i).lockFrom = some s.tm.runt ∧
          s.news t = [(0, 0x0001, 1, ifcNum i + ((s.accOf i).fails + 1) * 256 % 2 ^ 64)])) ∧
      s.regsKept [Reg.UNIT_IRQ .hst] t ∧ s.memKept t ∧ t = { s with regs := t.regs, evt := t.evt, hst := t.hst }

/-- R647: an interface returns to read level; R646: the end of a lockout. -/
def Obligations.AccessLevelEnds : Prop :=
  ∀ (s : State) (i : Iface), s.shaped = true → s.room 2 = true →
    (∀ v : Word, s.hostUp = true → v.toNat % 4 ∈ [0, 3] → s.level i ≠ .read →
      ∃ t, exec (.accessDrop i v) s = .next t ∧ t.level i = .read ∧ s.news t = [(0, 0x0002, 2, ifcNum i + (s.level i).num * 256)] ∧
        (∀ j, j ≠ i → t.accOf j = s.accOf j) ∧ t = { s with evt := t.evt, hst := t.hst }) ∧
    (s.level i ≠ .read → s.expired (s.accOf i).used (s.getF Reg.HST_ACC_TMO_S * 1000000000) = true → s.usesComes i = false →
      ∃ t, exec (.accessTimeout i) s = .next t ∧ t.level i = .read ∧
        s.news t = [(0, 0x0002, 2, ifcNum i + (s.level i).num * 256)] ∧
        (∀ j, j ≠ i → t.accOf j = s.accOf j) ∧ t = { s with evt := t.evt, hst := t.hst }) ∧
    (∀ c, (s.accOf i).lockFrom = some c → s.expired c 60000000000 = true →
      ∃ t, exec (.lockoutEnd i) s = .next t ∧ (t.accOf i).lockFrom = none ∧ (t.accOf i).fails = 0 ∧ t.level i = s.level i ∧
        (∀ j, j ≠ i → t.accOf j = s.accOf j) ∧ t = { s with hst := t.hst })

/-- R644 for an RW field, R634 for byte enables, R643 for an offset of no block. -/
def Obligations.RegisterWritesAreJudged : Prop :=
  ∀ (s : State) (i : Iface) (v : Word), s.hostUp = true → s.shaped = true →
    (∀ p, p < 16 → s.may i .operate = true → s.unwritten = true →
      ∃ t, exec (.registerWrite i (Reg.FLT_PROF_XF p) v 15) s = .next t ∧
        t.getF (Reg.FLT_PROF_XF_LEN p) = max 1 (v.toNat % 2 ^ 16) ∧
        s.regsKept [Reg.FLT_PROF_XF p] t ∧ s.memKept t ∧ t = { s with regs := t.regs, hst := t.hst }) ∧
    (∀ p, p < 16 → s.level i = .read → v.toNat % 2 ^ 16 ≠ s.getF (Reg.FLT_PROF_XF_LEN p) →
      ∃ t, exec (.registerWrite i (Reg.FLT_PROF_XF p) v 15) s = .next t ∧
        t.getF (Reg.FLT_PROF_XF_LEN p) = s.getF (Reg.FLT_PROF_XF_LEN p) ∧ t.flag Reg.HST_STAT_ACC_DENIED = true ∧
        t.getF Reg.HST_STAT_DENIED_IF = ifcNum i ∧
        s.regsKept [Reg.HST_STAT, Reg.UNIT_IRQ .hst] t ∧ s.memKept t) ∧
    (∀ off be, off % 4 = 0 → off < 0x4000000 → be ≠ 15 →
      ∃ t, exec (.registerWrite .pcie off v be) s = .next t ∧ t.flag Reg.HST_STAT_PARTIAL = true ∧
        s.regsKept [Reg.HST_STAT] t ∧ t = { s with regs := t.regs, hst := s.marks t }) ∧
    (∀ off, off % 4 = 0 → off < 0x4000000 → inMap off = false →
      ∃ t, exec (.registerWrite i off v 15) s = .next t ∧ t.flag Reg.HST_STAT_BAD_ADDR = true ∧
        s.regsKept [Reg.HST_STAT, Reg.UNIT_IRQ .hst] t ∧ s.memKept t ∧ t = { s with regs := t.regs, hst := t.hst })

/-- R9, R406: a SEAL field, its record and its refusal. -/
def Obligations.SealedFieldsNeedTheOpenSeal : Prop :=
  ∀ (s : State) (i : Iface) (n : Nat) (v : Word), s.hostUp = true → s.shaped = true → n < 8 → s.level i = .engineer →
    s.flag (Reg.AO_CH_CFG_SEALED n) = true → v.toNat ≠ s.rd (Reg.AO_CH_TRIM_G n) →
    (s.sealOpen = true → s.auditRoom 1 = true → s.unwritten = true →
      ∃ t, exec (.sealFieldWrite i (Reg.AO_CH_TRIM_G n) v) s = .next t ∧ t.rd (Reg.AO_CH_TRIM_G n) = v.toNat ∧
        (∃ r, t.aud.recs = s.aud.recs ++ [r] ∧ r.kind = 1 ∧ r.target = Reg.AO_CH_TRIM_G n ∧ r.width = 4 ∧
          r.before = s.rd (Reg.AO_CH_TRIM_G n) ∧ r.after = v.toNat ∧ r.seq = s.aud.next) ∧ t.aud.next = s.aud.next + 1 ∧
        s.regsKept [Reg.AO_CH_TRIM_G n, Reg.MTR_AUD_STAT, Reg.MTR_AUD_FIRST, Reg.MTR_AUD_LAST, Reg.UNIT_IRQ .mtr] t ∧ s.memKept t) ∧
    (s.sealOpen = false → s.unwritten = true →
      ∃ t, exec (.sealFieldWrite i (Reg.AO_CH_TRIM_G n) v) s = .next t ∧
        t.rd (Reg.AO_CH_TRIM_G n) = s.rd (Reg.AO_CH_TRIM_G n) ∧
        t.flag Reg.HST_STAT_ACC_DENIED = true ∧ t.aud = s.aud ∧
        s.regsKept [Reg.HST_STAT, Reg.UNIT_IRQ .hst] t ∧ s.memKept t)

/-- R649, R651: the copies of snapshot groups; R639: an SPI read. -/
def Obligations.HostReadsAnswerOneFc : Prop :=
  ∀ (s : State) (i : Iface), s.hostUp = true → s.shaped = true →
    (∀ off, off % 4 = 0 → off < 0x4000000 → inMap off = true → groupOf off = none →
      ∃ t, exec (.snapshotRead i off 1) s = .next t ∧ s.sent t = [.readData i off (s.readReg i off)] ∧
        t = { s with hst := t.hst, tx := t.tx, freeCtr := t.freeCtr }) ∧
    (∃ t, exec (.snapshotRead i Reg.TBU_TIME_0 1) s = .next t ∧
      s.sent t = [.readData i Reg.TBU_TIME_0 (twPack s.tw % 2 ^ 32)] ∧
      t.snapOf i Reg.TBU_TIME_0 = some [word32 (twPack s.tw) 0, word32 (twPack s.tw) 1, word32 (twPack s.tw) 2, s.rd Reg.TBU_EPOCH] ∧
      t = { s with hst := t.hst, tx := t.tx }) ∧
    (∀ ws, s.snapOf i Reg.TBU_TIME_0 = some ws → ws.length = 4 →
      ∃ t, exec (.snapshotRead i Reg.TBU_TIME_1 1) s = .next t ∧ s.sent t = [.readData i Reg.TBU_TIME_1 (ws.getD 1 0)] ∧
        t = { s with hst := t.hst, tx := t.tx }) ∧
    (s.snapOf i Reg.TBU_TIME_0 = none →
      ∃ t, exec (.snapshotRead i Reg.TBU_TIME_1 1) s = .next t ∧
        s.sent t = [.readData i Reg.TBU_TIME_1 (word32 (twPack s.tw) 1)] ∧
        t.flag Reg.HST_STAT_TORN = true ∧ s.regsKept [Reg.HST_STAT, Reg.UNIT_IRQ .hst] t ∧ s.memKept t) ∧
    (∀ off, off % 4 = 0 → off < 0x4000000 → inMap off = true → groupOf off = none →
      ∃ t, exec (.spiTransaction (BitVec.ofNat 32 (2 ^ 31 + off)) [] true) s = .next t ∧
        s.sent t = [.spiOut [s.hst.spiStat % 16, 0, s.readReg .spi off]] ∧
        t = { s with hst := t.hst, tx := t.tx, freeCtr := t.freeCtr }) ∧
    (∀ hdr : Word, hdr.toNat % 4 ≠ 0 → s.hst.spiStat < 16 →
      ∃ t, exec (.spiTransaction hdr [] true) s = .next t ∧ s.sent t = [.spiOut [s.hst.spiStat % 16]] ∧ t.hst.spiStat = 2 ∧
        t = { s with hst := t.hst, tx := t.tx })

/-- R652, R653 for writes; the stored bytes start at HST_WIN.BASE × 2^28 + off. -/
def Obligations.WindowWritesReachTheHostArea : Prop :=
  ∀ (s : State) (off : Nat) (bytes : List Byte), s.hostUp = true → off + bytes.length ≤ 0x10000000 → bytes ≠ [] →
    ∀ a, a = s.getF Reg.HST_WIN_BASE * 2 ^ 28 + off →
    (s.hostArea ≤ a → a + bytes.length ≤ s.superMem →
      ∃ t, exec (.bar2Write off bytes) s = .next t ∧
        (∀ k, k < bytes.length → Mem.rd t.dram (a + k) = bytes.getD k 0) ∧
        (∀ x, x < a ∨ a + bytes.length ≤ x → Mem.rd t.dram x = Mem.rd s.dram x) ∧ t = { s with dram := t.dram }) ∧
    (a + bytes.length ≤ s.hostArea ∨ s.superMem ≤ a →
      ∃ t, exec (.bar2Write off bytes) s = .next t ∧ t.flag Reg.HST_STAT_WIN_DENIED = true ∧
        s.regsKept [Reg.HST_STAT] t ∧ t = { s with regs := t.regs, hst := s.marks t })

/-- R655, R656. -/
def Obligations.VectorsAreRaisedAndSent : Prop :=
  ∀ (s : State), s.shaped = true →
    (∀ (i : Iface) (v : Word), s.hostUp = true → s.may i .operate = true →
      ∃ t, exec (.veoiWrite i v) s = .next t ∧
        (t.hst.vpend.testBit (v.toNat % 32) = (s.hst.vpend.testBit (v.toNat % 32) ||
          (List.range 31).any fun k => s.getF (Reg.HST_VMAP_VEC k) == v.toNat % 32 && s.asserted k)) ∧
        (∀ w, w < 32 → w ≠ v.toNat % 32 → t.hst.vpend.testBit w = s.hst.vpend.testBit w) ∧ t = { s with hst := t.hst }) ∧
    (∀ v, v < 32 → s.on secHst = true → s.hst.vpend.testBit v = true → s.msixWord v 3 % 2 = 0 →
      (s.hst.vlast.getD v none).all (fun c => s.expired c (s.getF (Reg.HST_VMOD_US v) * 1000)) = true →
      ∃ t, exec (.msixMessageSend v) s = .next t ∧ t.hst.vpend.testBit v = false ∧
        (∀ w, w < 32 → w ≠ v → t.hst.vpend.testBit w = s.hst.vpend.testBit w) ∧ t.hst.vlast.getD v none = some s.tm.runt ∧
        s.sent t = [.msix v (s.msixWord v 0 + s.msixWord v 1 * 2 ^ 32) (s.msixWord v 2)] ∧
        t = { s with hst := t.hst, tx := t.tx })

/-- R658–R661, R637. A transfer stores exactly the bytes from MODULE on. -/
def Obligations.DmaWorksThroughItsRing : Prop :=
  ∀ (s : State), s.shaped = true → s.hostUp = true →
    (∀ (i : Iface) (c : Nat) (v : Word), c < 4 → s.may i .operate = true → s.unwritten = true →
      ∃ t, exec (.dmaTailWrite i c v) s = .next t ∧ t.getF (Reg.HST_DMA_TAIL_IDX c) = v.toNat % 2 ^ 12 ∧
        s.regsKept [Reg.HST_DMA_TAIL c] t ∧ s.memKept t) ∧
    (∀ (c : Nat) (d : Descriptor), c < 2 → s.dmaRuns c = true → descOwn d = true → descSpace d = false → descIrq d = false →
      d.hostErr = false → d.host % 4 = 0 → d.modul.toNat % 4 = 0 → descLen d % 4 = 0 → descLen d ≠ 0 → d.data.length = descLen d →
      s.hostArea ≤ d.modul.toNat → d.modul.toNat + descLen d ≤ s.superMem →
      ∃ t, exec (.dmaDescriptorComplete c d) s = .next t ∧
        t.getF (Reg.HST_DMA_HEAD_IDX c) = (s.getF (Reg.HST_DMA_HEAD_IDX c) + 1) % max 1 (s.getF (Reg.HST_DMA_SIZE_N c)) % 2 ^ 12 ∧
        (descDir d = true → ∀ k, k < descLen d → Mem.rd t.dram (d.modul.toNat + k) = d.data.getD k 0) ∧
        (∀ x, descDir d = false ∨ x < d.modul.toNat ∨ d.modul.toNat + descLen d ≤ x → Mem.rd t.dram x = Mem.rd s.dram x) ∧
        (descDir d = false → (s.sent t).head? = some (.hostWrite d.host (Mem.rdN s.dram d.modul.toNat (descLen d)))) ∧
        s.regsKept [Reg.HST_DMA_HEAD c] t ∧ t = { s with regs := t.regs, dram := t.dram, tx := t.tx }) ∧
    (∀ (i : Iface) (c : Nat) (v : Word), c < 4 → s.may i .operate = true → s.dmaRuns c = false →
      ∃ t, exec (.dmaStop i c v) s = .next t ∧ t.flag (Reg.HST_DMA_CTL_EN c) = false ∧
        s.regsKept [Reg.HST_DMA_CTL c] t ∧ s.memKept t) ∧
    (s.pwr.unpowered = false →
      ∃ t, exec .pcieHotReset s = .next t ∧ t.level .pcie = .read ∧ t.accOf .spi = s.accOf .spi ∧
        (∀ o, o ∈ dmaRegs → t.rd o = (resetWord o).toNat) ∧ t.hst.msix = msixReset ∧
        s.memKept t)

/-- The canonical forms and the list lengths are the model's (log 1, 13); the numbers of channels, courses, feeders and so on are the spec's. -/
def Obligations.ResetStateIsWellFormed : Prop :=State.reset.memOk = true ∧ State.reset.regsOk = true ∧ State.reset.shaped = true ∧ State.reset.pending = []

/-- The spec gives every command of the table an effect; none ends in a fault or a refusal (NOTES, Stops). -/
def Obligations.EveryStepAnswersAState : Prop :=(∀ (c : Instr), ∀ s : State, ∃ t, exec c s = .next t) ∧ ∀ s : State, ∃ t, step s = .next t

/-- Canonical form: keys strictly rising, no entry at its default (log 13). -/
def Obligations.EveryStepKeepsStoresCanonical : Prop :=∀ s t : State, s.memOk = true → s.regsOk = true → Steps s t → t.memOk = true ∧ t.regsOk = true

/-- The premise State.shaped of the other statements is this invariant; it holds after reset. -/
def Obligations.EveryStepKeepsTheShape : Prop :=∀ s t : State, s.shaped = true → Steps s t → t.shaped = true
end

