-- ==== Sys2Proof/Laws/Sparse.lean ====
section
/-!
SUPPORT. The sparse store and the byte memories: what reading after a put gives, and that every operation keeps the canonical
form (keys strictly rising, nothing listed at its default).
-/
namespace Sys2Proof.Machine

/-! ### Reading after a put -/

theorem Sparse.find_ins_same {α : Type} (l : List (Nat × α)) (k : Nat) (x : α) : Sparse.find (Sparse.ins l k x) k = some x := by
  induction l with
  | nil => simp [Sparse.ins, Sparse.find]
  | cons c t ih =>
    simp only [Sparse.ins]
    split_ifs with h1 h2
    · simp [Sparse.find]
    · simp [Sparse.find]
    · simp [Sparse.find, Ne.symm h2, ih]

theorem Sparse.find_ins_ne {α : Type} (l : List (Nat × α)) {k j : Nat} (x : α) (h : j ≠ k) :
    Sparse.find (Sparse.ins l k x) j = Sparse.find l j := by
  induction l with
  | nil => simp [Sparse.ins, Sparse.find, h.symm]
  | cons c t ih =>
    simp only [Sparse.ins]
    split_ifs with h1 h2
    · simp [Sparse.find, h.symm]
    · subst h2; simp [Sparse.find, h.symm]
    · simp [Sparse.find, ih]

theorem Sparse.find_filter_same {α : Type} (l : List (Nat × α)) (k : Nat) : Sparse.find (l.filter fun c => c.1 != k) k = none := by
  induction l with
  | nil => rfl
  | cons c t ih =>
    by_cases h : c.1 = k
    · simp [h, ih]
    · simp [Sparse.find, h, ih]

theorem Sparse.find_filter_ne {α : Type} (l : List (Nat × α)) {k j : Nat} (h : j ≠ k) :
    Sparse.find (l.filter fun c => c.1 != k) j = Sparse.find l j := by
  induction l with
  | nil => rfl
  | cons c t ih =>
    by_cases hc : c.1 = k
    · simp [Sparse.find, hc, ih, h.symm]
    · simp [Sparse.find, hc, ih]

/-- What a put leaves at its key. -/
@[simp] theorem Sparse.find_put_same {α : Type} (l : List (Nat × α)) (k : Nat) (v : Option α) :
    Sparse.find (Sparse.put l k v) k = v := by
  cases v with
  | none => exact Sparse.find_filter_same l k
  | some x => exact Sparse.find_ins_same l k x

/-- A put leaves every other key alone. -/
theorem Sparse.find_put_ne {α : Type} (l : List (Nat × α)) {k j : Nat} (v : Option α) (h : j ≠ k) :
    Sparse.find (Sparse.put l k v) j = Sparse.find l j := by
  cases v with
  | none => exact Sparse.find_filter_ne l h
  | some x => exact Sparse.find_ins_ne l x h

/-! ### The canonical form -/

theorem Sparse.rising_cons {α : Type} (c : Nat × α) (l : List (Nat × α)) :
    Sparse.rising (c :: l) = true ↔ (∀ d ∈ l, c.1 < d.1) ∧ Sparse.rising l = true := by
  induction l generalizing c with
  | nil => simp [Sparse.rising]
  | cons d t ih =>
    have := ih d
    simp only [Sparse.rising, Bool.and_eq_true, decide_eq_true_eq, List.mem_cons, forall_eq_or_imp]
    constructor
    · rintro ⟨h1, h2⟩
      exact ⟨⟨h1, fun e he => h1.trans ((this.1 h2).1 e he)⟩, h2⟩
    · rintro ⟨⟨h1, -⟩, h2⟩
      exact ⟨h1, h2⟩

theorem Sparse.mem_ins {α : Type} {l : List (Nat × α)} {k : Nat} {x : α} {d : Nat × α} (h : d ∈ Sparse.ins l k x) :
    d = (k, x) ∨ d ∈ l := by
  induction l with
  | nil => simpa [Sparse.ins] using h
  | cons c t ih =>
    simp only [Sparse.ins] at h
    split_ifs at h with h1 h2
    · simpa using h
    · rcases List.mem_cons.1 h with h | h
      · exact .inl h
      · exact .inr (List.mem_cons_of_mem _ h)
    · rcases List.mem_cons.1 h with h | h
      · exact .inr (by simp [h])
      · exact (ih h).imp id (List.mem_cons_of_mem _)

theorem Sparse.rising_ins {α : Type} {l : List (Nat × α)} (k : Nat) (x : α) (h : Sparse.rising l = true) :
    Sparse.rising (Sparse.ins l k x) = true := by
  induction l with
  | nil => rfl
  | cons c t ih =>
    obtain ⟨hc, ht⟩ := (Sparse.rising_cons c t).1 h
    simp only [Sparse.ins]
    split_ifs with h1 h2
    · refine (Sparse.rising_cons _ _).2 ⟨?_, h⟩
      intro d hd
      rcases List.mem_cons.1 hd with rfl | hd
      · exact h1
      · exact h1.trans (hc d hd)
    · refine (Sparse.rising_cons _ _).2 ⟨?_, ht⟩
      intro d hd
      exact h2 ▸ hc d hd
    · refine (Sparse.rising_cons _ _).2 ⟨?_, ih ht⟩
      intro d hd
      rcases Sparse.mem_ins hd with rfl | hd
      · simp only; omega
      · exact hc d hd

theorem Sparse.rising_filter {α : Type} {l : List (Nat × α)} (p : Nat × α → Bool) (h : Sparse.rising l = true) :
    Sparse.rising (l.filter p) = true := by
  induction l with
  | nil => rfl
  | cons c t ih =>
    obtain ⟨hc, ht⟩ := (Sparse.rising_cons c t).1 h
    by_cases hp : p c = true
    · rw [List.filter_cons_of_pos hp]
      exact (Sparse.rising_cons _ _).2 ⟨fun d hd => hc d (List.mem_of_mem_filter hd), ih ht⟩
    · rw [List.filter_cons_of_neg hp]
      exact ih ht

/-- A put keeps the keys rising. -/
theorem Sparse.rising_put {α : Type} {l : List (Nat × α)} (k : Nat) (v : Option α) (h : Sparse.rising l = true) :
    Sparse.rising (Sparse.put l k v) = true := by
  cases v with
  | none => exact Sparse.rising_filter _ h
  | some x => exact Sparse.rising_ins k x h

theorem Sparse.mem_put {α : Type} {l : List (Nat × α)} {k : Nat} {v : Option α} {d : Nat × α} (h : d ∈ Sparse.put l k v) :
    (d.1 = k ∧ v = some d.2) ∨ d ∈ l := by
  cases v with
  | none => exact .inr (List.mem_of_mem_filter h)
  | some x =>
    rcases Sparse.mem_ins h with rfl | h
    · exact .inl ⟨rfl, rfl⟩
    · exact .inr h

/-! ### Byte memories -/

/-- Reading the byte just written gives it. -/
@[simp] theorem Mem.rd_wr_same (m : List (Nat × BitVec 8)) (a : Nat) (b : BitVec 8) : Mem.rd (Mem.wr m a b) a = b := by
  unfold Mem.rd Mem.wr
  rw [Sparse.find_put_same]
  split_ifs with h <;> simp [h]

/-- Writing a byte leaves every other byte alone. -/
theorem Mem.rd_wr_ne (m : List (Nat × BitVec 8)) {a x : Nat} (b : BitVec 8) (h : x ≠ a) : Mem.rd (Mem.wr m a b) x = Mem.rd m x := by
  unfold Mem.rd Mem.wr
  rw [Sparse.find_put_ne _ _ h]

/-- A byte write keeps the canonical form. -/
theorem Mem.wf_wr {m : List (Nat × BitVec 8)} (a : Nat) (b : BitVec 8) (h : Mem.wf m = true) : Mem.wf (Mem.wr m a b) = true := by
  simp only [Mem.wf, Bool.and_eq_true, List.all_eq_true, bne_iff_ne, ne_eq] at h ⊢
  refine ⟨Sparse.rising_put _ _ h.1, fun d hd => ?_⟩
  rcases Sparse.mem_put hd with ⟨-, hv⟩ | hd
  · split_ifs at hv with hb
    · cases hv; exact hb
  · exact h.2 d hd

/-- Writing bytes keeps the canonical form. -/
theorem Mem.wf_wrN {m : List (Nat × BitVec 8)} (a : Nat) (bs : List (BitVec 8)) (h : Mem.wf m = true) :
    Mem.wf (Mem.wrN m a bs) = true := by
  induction bs generalizing m a with
  | nil => exact h
  | cons b t ih => exact ih _ (Mem.wf_wr a b h)

/-- Writing bytes leaves every byte outside them alone. -/
theorem Mem.rd_wrN_outside (m : List (Nat × BitVec 8)) (a : Nat) (bs : List (BitVec 8)) {x : Nat}
    (h : x < a ∨ a + bs.length ≤ x) : Mem.rd (Mem.wrN m a bs) x = Mem.rd m x := by
  induction bs generalizing m a with
  | nil => rfl
  | cons b t ih =>
    simp only [List.length_cons] at h
    rw [Mem.wrN, ih _ _ (by omega), Mem.rd_wr_ne _ _ (by omega)]

/-- Reading a byte of those written gives it. -/
theorem Mem.rd_wrN_inside (m : List (Nat × BitVec 8)) (a : Nat) (bs : List (BitVec 8)) {i : Nat} (h : i < bs.length) :
    Mem.rd (Mem.wrN m a bs) (a + i) = bs[i] := by
  induction bs generalizing m a i with
  | nil => simp at h
  | cons b t ih =>
    rw [Mem.wrN]
    cases i with
    | zero => simp [Mem.rd_wrN_outside]
    | succ j => rw [show a + (j + 1) = a + 1 + j by omega, ih _ _ (by simpa using h)]; rfl

end Sys2Proof.Machine
end

