-- ==== Sys2Proof/Laws/State.lean ====
section
/-!
SUPPORT. What each shared operation of Machine/Ops.lean leaves alone, one lemma for a field and an operation, so that no proof
unfolds a record update.
-/
namespace Sys2Proof.Machine

@[simp] theorem State.wr_variant (s : State) (o v : Nat) : (s.wr o v).variant = s.variant := rfl
@[simp] theorem State.wr_dram (s : State) (o v : Nat) : (s.wr o v).dram = s.dram := rfl
@[simp] theorem State.wr_tm (s : State) (o v : Nat) : (s.wr o v).tm = s.tm := rfl
@[simp] theorem State.wr_tbu (s : State) (o v : Nat) : (s.wr o v).tbu = s.tbu := rfl
@[simp] theorem State.wr_ang (s : State) (o v : Nat) : (s.wr o v).ang = s.ang := rfl
@[simp] theorem State.wr_evt (s : State) (o v : Nat) : (s.wr o v).evt = s.evt := rfl
@[simp] theorem State.wr_crs (s : State) (o v : Nat) : (s.wr o v).crs = s.crs := rfl
@[simp] theorem State.wr_pwr (s : State) (o v : Nat) : (s.wr o v).pwr = s.pwr := rfl
@[simp] theorem State.wr_kln (s : State) (o v : Nat) : (s.wr o v).kln = s.kln := rfl
@[simp] theorem State.wr_grids (s : State) (o v : Nat) : (s.wr o v).grids = s.grids := rfl
@[simp] theorem State.wr_prt (s : State) (o v : Nat) : (s.wr o v).prt = s.prt := rfl
@[simp] theorem State.wr_dio (s : State) (o v : Nat) : (s.wr o v).dio = s.dio := rfl
@[simp] theorem State.wr_ao (s : State) (o v : Nat) : (s.wr o v).ao = s.ao := rfl
@[simp] theorem State.wr_afe (s : State) (o v : Nat) : (s.wr o v).afe = s.afe := rfl
@[simp] theorem State.wr_flt (s : State) (o v : Nat) : (s.wr o v).flt = s.flt := rfl
@[simp] theorem State.wr_streams (s : State) (o v : Nat) : (s.wr o v).streams = s.streams := rfl
@[simp] theorem State.wr_hkc (s : State) (o v : Nat) : (s.wr o v).hkc = s.hkc := rfl
@[simp] theorem State.wr_acq (s : State) (o v : Nat) : (s.wr o v).acq = s.acq := rfl
@[simp] theorem State.wr_aud (s : State) (o v : Nat) : (s.wr o v).aud = s.aud := rfl
@[simp] theorem State.wr_mtr (s : State) (o v : Nat) : (s.wr o v).mtr = s.mtr := rfl
@[simp] theorem State.wr_blk (s : State) (o v : Nat) : (s.wr o v).blk = s.blk := rfl
@[simp] theorem State.wr_yul (s : State) (o v : Nat) : (s.wr o v).yul = s.yul := rfl
@[simp] theorem State.wr_eth (s : State) (o v : Nat) : (s.wr o v).eth = s.eth := rfl
@[simp] theorem State.wr_wyt (s : State) (o v : Nat) : (s.wr o v).wyt = s.wyt := rfl
@[simp] theorem State.wr_hst (s : State) (o v : Nat) : (s.wr o v).hst = s.hst := rfl
@[simp] theorem State.wr_tx (s : State) (o v : Nat) : (s.wr o v).tx = s.tx := rfl
@[simp] theorem State.wr_freeCtr (s : State) (o v : Nat) : (s.wr o v).freeCtr = s.freeCtr := rfl
@[simp] theorem State.wr_pending (s : State) (o v : Nat) : (s.wr o v).pending = s.pending := rfl
@[simp] theorem State.setF_variant (s : State) (f : Fld) (v : Nat) : (s.setF f v).variant = s.variant := by simp only [State.setF, State.wr_variant]
@[simp] theorem State.setF_dram (s : State) (f : Fld) (v : Nat) : (s.setF f v).dram = s.dram := by simp only [State.setF, State.wr_dram]
@[simp] theorem State.setF_tm (s : State) (f : Fld) (v : Nat) : (s.setF f v).tm = s.tm := by simp only [State.setF, State.wr_tm]
@[simp] theorem State.setF_tbu (s : State) (f : Fld) (v : Nat) : (s.setF f v).tbu = s.tbu := by simp only [State.setF, State.wr_tbu]
@[simp] theorem State.setF_ang (s : State) (f : Fld) (v : Nat) : (s.setF f v).ang = s.ang := by simp only [State.setF, State.wr_ang]
@[simp] theorem State.setF_evt (s : State) (f : Fld) (v : Nat) : (s.setF f v).evt = s.evt := by simp only [State.setF, State.wr_evt]
@[simp] theorem State.setF_crs (s : State) (f : Fld) (v : Nat) : (s.setF f v).crs = s.crs := by simp only [State.setF, State.wr_crs]
@[simp] theorem State.setF_pwr (s : State) (f : Fld) (v : Nat) : (s.setF f v).pwr = s.pwr := by simp only [State.setF, State.wr_pwr]
@[simp] theorem State.setF_kln (s : State) (f : Fld) (v : Nat) : (s.setF f v).kln = s.kln := by simp only [State.setF, State.wr_kln]
@[simp] theorem State.setF_grids (s : State) (f : Fld) (v : Nat) : (s.setF f v).grids = s.grids := by simp only [State.setF, State.wr_grids]
@[simp] theorem State.setF_prt (s : State) (f : Fld) (v : Nat) : (s.setF f v).prt = s.prt := by simp only [State.setF, State.wr_prt]
@[simp] theorem State.setF_dio (s : State) (f : Fld) (v : Nat) : (s.setF f v).dio = s.dio := by simp only [State.setF, State.wr_dio]
@[simp] theorem State.setF_ao (s : State) (f : Fld) (v : Nat) : (s.setF f v).ao = s.ao := by simp only [State.setF, State.wr_ao]
@[simp] theorem State.setF_afe (s : State) (f : Fld) (v : Nat) : (s.setF f v).afe = s.afe := by simp only [State.setF, State.wr_afe]
@[simp] theorem State.setF_flt (s : State) (f : Fld) (v : Nat) : (s.setF f v).flt = s.flt := by simp only [State.setF, State.wr_flt]
@[simp] theorem State.setF_streams (s : State) (f : Fld) (v : Nat) : (s.setF f v).streams = s.streams := by simp only [State.setF, State.wr_streams]
@[simp] theorem State.setF_hkc (s : State) (f : Fld) (v : Nat) : (s.setF f v).hkc = s.hkc := by simp only [State.setF, State.wr_hkc]
@[simp] theorem State.setF_acq (s : State) (f : Fld) (v : Nat) : (s.setF f v).acq = s.acq := by simp only [State.setF, State.wr_acq]
@[simp] theorem State.setF_aud (s : State) (f : Fld) (v : Nat) : (s.setF f v).aud = s.aud := by simp only [State.setF, State.wr_aud]
@[simp] theorem State.setF_mtr (s : State) (f : Fld) (v : Nat) : (s.setF f v).mtr = s.mtr := by simp only [State.setF, State.wr_mtr]
@[simp] theorem State.setF_blk (s : State) (f : Fld) (v : Nat) : (s.setF f v).blk = s.blk := by simp only [State.setF, State.wr_blk]
@[simp] theorem State.setF_yul (s : State) (f : Fld) (v : Nat) : (s.setF f v).yul = s.yul := by simp only [State.setF, State.wr_yul]
@[simp] theorem State.setF_eth (s : State) (f : Fld) (v : Nat) : (s.setF f v).eth = s.eth := by simp only [State.setF, State.wr_eth]
@[simp] theorem State.setF_wyt (s : State) (f : Fld) (v : Nat) : (s.setF f v).wyt = s.wyt := by simp only [State.setF, State.wr_wyt]
@[simp] theorem State.setF_hst (s : State) (f : Fld) (v : Nat) : (s.setF f v).hst = s.hst := by simp only [State.setF, State.wr_hst]
@[simp] theorem State.setF_tx (s : State) (f : Fld) (v : Nat) : (s.setF f v).tx = s.tx := by simp only [State.setF, State.wr_tx]
@[simp] theorem State.setF_freeCtr (s : State) (f : Fld) (v : Nat) : (s.setF f v).freeCtr = s.freeCtr := by simp only [State.setF, State.wr_freeCtr]
@[simp] theorem State.setF_pending (s : State) (f : Fld) (v : Nat) : (s.setF f v).pending = s.pending := by simp only [State.setF, State.wr_pending]
@[simp] theorem State.setI_variant (s : State) (f : Fld) (v : Int) : (s.setI f v).variant = s.variant := by simp only [State.setI, State.setF_variant]
@[simp] theorem State.setI_dram (s : State) (f : Fld) (v : Int) : (s.setI f v).dram = s.dram := by simp only [State.setI, State.setF_dram]
@[simp] theorem State.setI_tm (s : State) (f : Fld) (v : Int) : (s.setI f v).tm = s.tm := by simp only [State.setI, State.setF_tm]
@[simp] theorem State.setI_tbu (s : State) (f : Fld) (v : Int) : (s.setI f v).tbu = s.tbu := by simp only [State.setI, State.setF_tbu]
@[simp] theorem State.setI_ang (s : State) (f : Fld) (v : Int) : (s.setI f v).ang = s.ang := by simp only [State.setI, State.setF_ang]
@[simp] theorem State.setI_evt (s : State) (f : Fld) (v : Int) : (s.setI f v).evt = s.evt := by simp only [State.setI, State.setF_evt]
@[simp] theorem State.setI_crs (s : State) (f : Fld) (v : Int) : (s.setI f v).crs = s.crs := by simp only [State.setI, State.setF_crs]
@[simp] theorem State.setI_pwr (s : State) (f : Fld) (v : Int) : (s.setI f v).pwr = s.pwr := by simp only [State.setI, State.setF_pwr]
@[simp] theorem State.setI_kln (s : State) (f : Fld) (v : Int) : (s.setI f v).kln = s.kln := by simp only [State.setI, State.setF_kln]
@[simp] theorem State.setI_grids (s : State) (f : Fld) (v : Int) : (s.setI f v).grids = s.grids := by simp only [State.setI, State.setF_grids]
@[simp] theorem State.setI_prt (s : State) (f : Fld) (v : Int) : (s.setI f v).prt = s.prt := by simp only [State.setI, State.setF_prt]
@[simp] theorem State.setI_dio (s : State) (f : Fld) (v : Int) : (s.setI f v).dio = s.dio := by simp only [State.setI, State.setF_dio]
@[simp] theorem State.setI_ao (s : State) (f : Fld) (v : Int) : (s.setI f v).ao = s.ao := by simp only [State.setI, State.setF_ao]
@[simp] theorem State.setI_afe (s : State) (f : Fld) (v : Int) : (s.setI f v).afe = s.afe := by simp only [State.setI, State.setF_afe]
@[simp] theorem State.setI_flt (s : State) (f : Fld) (v : Int) : (s.setI f v).flt = s.flt := by simp only [State.setI, State.setF_flt]
@[simp] theorem State.setI_streams (s : State) (f : Fld) (v : Int) : (s.setI f v).streams = s.streams := by simp only [State.setI, State.setF_streams]
@[simp] theorem State.setI_hkc (s : State) (f : Fld) (v : Int) : (s.setI f v).hkc = s.hkc := by simp only [State.setI, State.setF_hkc]
@[simp] theorem State.setI_acq (s : State) (f : Fld) (v : Int) : (s.setI f v).acq = s.acq := by simp only [State.setI, State.setF_acq]
@[simp] theorem State.setI_aud (s : State) (f : Fld) (v : Int) : (s.setI f v).aud = s.aud := by simp only [State.setI, State.setF_aud]
@[simp] theorem State.setI_mtr (s : State) (f : Fld) (v : Int) : (s.setI f v).mtr = s.mtr := by simp only [State.setI, State.setF_mtr]
@[simp] theorem State.setI_blk (s : State) (f : Fld) (v : Int) : (s.setI f v).blk = s.blk := by simp only [State.setI, State.setF_blk]
@[simp] theorem State.setI_yul (s : State) (f : Fld) (v : Int) : (s.setI f v).yul = s.yul := by simp only [State.setI, State.setF_yul]
@[simp] theorem State.setI_eth (s : State) (f : Fld) (v : Int) : (s.setI f v).eth = s.eth := by simp only [State.setI, State.setF_eth]
@[simp] theorem State.setI_wyt (s : State) (f : Fld) (v : Int) : (s.setI f v).wyt = s.wyt := by simp only [State.setI, State.setF_wyt]
@[simp] theorem State.setI_hst (s : State) (f : Fld) (v : Int) : (s.setI f v).hst = s.hst := by simp only [State.setI, State.setF_hst]
@[simp] theorem State.setI_tx (s : State) (f : Fld) (v : Int) : (s.setI f v).tx = s.tx := by simp only [State.setI, State.setF_tx]
@[simp] theorem State.setI_freeCtr (s : State) (f : Fld) (v : Int) : (s.setI f v).freeCtr = s.freeCtr := by simp only [State.setI, State.setF_freeCtr]
@[simp] theorem State.setI_pending (s : State) (f : Fld) (v : Int) : (s.setI f v).pending = s.pending := by simp only [State.setI, State.setF_pending]
@[simp] theorem State.setB_variant (s : State) (f : Fld) (b : Bool) : (s.setB f b).variant = s.variant := by simp only [State.setB, State.setF_variant]
@[simp] theorem State.setB_dram (s : State) (f : Fld) (b : Bool) : (s.setB f b).dram = s.dram := by simp only [State.setB, State.setF_dram]
@[simp] theorem State.setB_tm (s : State) (f : Fld) (b : Bool) : (s.setB f b).tm = s.tm := by simp only [State.setB, State.setF_tm]
@[simp] theorem State.setB_tbu (s : State) (f : Fld) (b : Bool) : (s.setB f b).tbu = s.tbu := by simp only [State.setB, State.setF_tbu]
@[simp] theorem State.setB_ang (s : State) (f : Fld) (b : Bool) : (s.setB f b).ang = s.ang := by simp only [State.setB, State.setF_ang]
@[simp] theorem State.setB_evt (s : State) (f : Fld) (b : Bool) : (s.setB f b).evt = s.evt := by simp only [State.setB, State.setF_evt]
@[simp] theorem State.setB_crs (s : State) (f : Fld) (b : Bool) : (s.setB f b).crs = s.crs := by simp only [State.setB, State.setF_crs]
@[simp] theorem State.setB_pwr (s : State) (f : Fld) (b : Bool) : (s.setB f b).pwr = s.pwr := by simp only [State.setB, State.setF_pwr]
@[simp] theorem State.setB_kln (s : State) (f : Fld) (b : Bool) : (s.setB f b).kln = s.kln := by simp only [State.setB, State.setF_kln]
@[simp] theorem State.setB_grids (s : State) (f : Fld) (b : Bool) : (s.setB f b).grids = s.grids := by simp only [State.setB, State.setF_grids]
@[simp] theorem State.setB_prt (s : State) (f : Fld) (b : Bool) : (s.setB f b).prt = s.prt := by simp only [State.setB, State.setF_prt]
@[simp] theorem State.setB_dio (s : State) (f : Fld) (b : Bool) : (s.setB f b).dio = s.dio := by simp only [State.setB, State.setF_dio]
@[simp] theorem State.setB_ao (s : State) (f : Fld) (b : Bool) : (s.setB f b).ao = s.ao := by simp only [State.setB, State.setF_ao]
@[simp] theorem State.setB_afe (s : State) (f : Fld) (b : Bool) : (s.setB f b).afe = s.afe := by simp only [State.setB, State.setF_afe]
@[simp] theorem State.setB_flt (s : State) (f : Fld) (b : Bool) : (s.setB f b).flt = s.flt := by simp only [State.setB, State.setF_flt]
@[simp] theorem State.setB_streams (s : State) (f : Fld) (b : Bool) : (s.setB f b).streams = s.streams := by simp only [State.setB, State.setF_streams]
@[simp] theorem State.setB_hkc (s : State) (f : Fld) (b : Bool) : (s.setB f b).hkc = s.hkc := by simp only [State.setB, State.setF_hkc]
@[simp] theorem State.setB_acq (s : State) (f : Fld) (b : Bool) : (s.setB f b).acq = s.acq := by simp only [State.setB, State.setF_acq]
@[simp] theorem State.setB_aud (s : State) (f : Fld) (b : Bool) : (s.setB f b).aud = s.aud := by simp only [State.setB, State.setF_aud]
@[simp] theorem State.setB_mtr (s : State) (f : Fld) (b : Bool) : (s.setB f b).mtr = s.mtr := by simp only [State.setB, State.setF_mtr]
@[simp] theorem State.setB_blk (s : State) (f : Fld) (b : Bool) : (s.setB f b).blk = s.blk := by simp only [State.setB, State.setF_blk]
@[simp] theorem State.setB_yul (s : State) (f : Fld) (b : Bool) : (s.setB f b).yul = s.yul := by simp only [State.setB, State.setF_yul]
@[simp] theorem State.setB_eth (s : State) (f : Fld) (b : Bool) : (s.setB f b).eth = s.eth := by simp only [State.setB, State.setF_eth]
@[simp] theorem State.setB_wyt (s : State) (f : Fld) (b : Bool) : (s.setB f b).wyt = s.wyt := by simp only [State.setB, State.setF_wyt]
@[simp] theorem State.setB_hst (s : State) (f : Fld) (b : Bool) : (s.setB f b).hst = s.hst := by simp only [State.setB, State.setF_hst]
@[simp] theorem State.setB_tx (s : State) (f : Fld) (b : Bool) : (s.setB f b).tx = s.tx := by simp only [State.setB, State.setF_tx]
@[simp] theorem State.setB_freeCtr (s : State) (f : Fld) (b : Bool) : (s.setB f b).freeCtr = s.freeCtr := by simp only [State.setB, State.setF_freeCtr]
@[simp] theorem State.setB_pending (s : State) (f : Fld) (b : Bool) : (s.setB f b).pending = s.pending := by simp only [State.setB, State.setF_pending]
@[simp] theorem State.incF_variant (s : State) (f : Fld) (n : Nat) : (s.incF f n).variant = s.variant := by simp only [State.incF, State.setF_variant]
@[simp] theorem State.incF_dram (s : State) (f : Fld) (n : Nat) : (s.incF f n).dram = s.dram := by simp only [State.incF, State.setF_dram]
@[simp] theorem State.incF_tm (s : State) (f : Fld) (n : Nat) : (s.incF f n).tm = s.tm := by simp only [State.incF, State.setF_tm]
@[simp] theorem State.incF_tbu (s : State) (f : Fld) (n : Nat) : (s.incF f n).tbu = s.tbu := by simp only [State.incF, State.setF_tbu]
@[simp] theorem State.incF_ang (s : State) (f : Fld) (n : Nat) : (s.incF f n).ang = s.ang := by simp only [State.incF, State.setF_ang]
@[simp] theorem State.incF_evt (s : State) (f : Fld) (n : Nat) : (s.incF f n).evt = s.evt := by simp only [State.incF, State.setF_evt]
@[simp] theorem State.incF_crs (s : State) (f : Fld) (n : Nat) : (s.incF f n).crs = s.crs := by simp only [State.incF, State.setF_crs]
@[simp] theorem State.incF_pwr (s : State) (f : Fld) (n : Nat) : (s.incF f n).pwr = s.pwr := by simp only [State.incF, State.setF_pwr]
@[simp] theorem State.incF_kln (s : State) (f : Fld) (n : Nat) : (s.incF f n).kln = s.kln := by simp only [State.incF, State.setF_kln]
@[simp] theorem State.incF_grids (s : State) (f : Fld) (n : Nat) : (s.incF f n).grids = s.grids := by simp only [State.incF, State.setF_grids]
@[simp] theorem State.incF_prt (s : State) (f : Fld) (n : Nat) : (s.incF f n).prt = s.prt := by simp only [State.incF, State.setF_prt]
@[simp] theorem State.incF_dio (s : State) (f : Fld) (n : Nat) : (s.incF f n).dio = s.dio := by simp only [State.incF, State.setF_dio]
@[simp] theorem State.incF_ao (s : State) (f : Fld) (n : Nat) : (s.incF f n).ao = s.ao := by simp only [State.incF, State.setF_ao]
@[simp] theorem State.incF_afe (s : State) (f : Fld) (n : Nat) : (s.incF f n).afe = s.afe := by simp only [State.incF, State.setF_afe]
@[simp] theorem State.incF_flt (s : State) (f : Fld) (n : Nat) : (s.incF f n).flt = s.flt := by simp only [State.incF, State.setF_flt]
@[simp] theorem State.incF_streams (s : State) (f : Fld) (n : Nat) : (s.incF f n).streams = s.streams := by simp only [State.incF, State.setF_streams]
@[simp] theorem State.incF_hkc (s : State) (f : Fld) (n : Nat) : (s.incF f n).hkc = s.hkc := by simp only [State.incF, State.setF_hkc]
@[simp] theorem State.incF_acq (s : State) (f : Fld) (n : Nat) : (s.incF f n).acq = s.acq := by simp only [State.incF, State.setF_acq]
@[simp] theorem State.incF_aud (s : State) (f : Fld) (n : Nat) : (s.incF f n).aud = s.aud := by simp only [State.incF, State.setF_aud]
@[simp] theorem State.incF_mtr (s : State) (f : Fld) (n : Nat) : (s.incF f n).mtr = s.mtr := by simp only [State.incF, State.setF_mtr]
@[simp] theorem State.incF_blk (s : State) (f : Fld) (n : Nat) : (s.incF f n).blk = s.blk := by simp only [State.incF, State.setF_blk]
@[simp] theorem State.incF_yul (s : State) (f : Fld) (n : Nat) : (s.incF f n).yul = s.yul := by simp only [State.incF, State.setF_yul]
@[simp] theorem State.incF_eth (s : State) (f : Fld) (n : Nat) : (s.incF f n).eth = s.eth := by simp only [State.incF, State.setF_eth]
@[simp] theorem State.incF_wyt (s : State) (f : Fld) (n : Nat) : (s.incF f n).wyt = s.wyt := by simp only [State.incF, State.setF_wyt]
@[simp] theorem State.incF_hst (s : State) (f : Fld) (n : Nat) : (s.incF f n).hst = s.hst := by simp only [State.incF, State.setF_hst]
@[simp] theorem State.incF_tx (s : State) (f : Fld) (n : Nat) : (s.incF f n).tx = s.tx := by simp only [State.incF, State.setF_tx]
@[simp] theorem State.incF_freeCtr (s : State) (f : Fld) (n : Nat) : (s.incF f n).freeCtr = s.freeCtr := by simp only [State.incF, State.setF_freeCtr]
@[simp] theorem State.incF_pending (s : State) (f : Fld) (n : Nat) : (s.incF f n).pending = s.pending := by simp only [State.incF, State.setF_pending]
@[simp] theorem State.wrapF_variant (s : State) (f : Fld) (n : Nat) : (s.wrapF f n).variant = s.variant := by simp only [State.wrapF, State.setF_variant]
@[simp] theorem State.wrapF_dram (s : State) (f : Fld) (n : Nat) : (s.wrapF f n).dram = s.dram := by simp only [State.wrapF, State.setF_dram]
@[simp] theorem State.wrapF_tm (s : State) (f : Fld) (n : Nat) : (s.wrapF f n).tm = s.tm := by simp only [State.wrapF, State.setF_tm]
@[simp] theorem State.wrapF_tbu (s : State) (f : Fld) (n : Nat) : (s.wrapF f n).tbu = s.tbu := by simp only [State.wrapF, State.setF_tbu]
@[simp] theorem State.wrapF_ang (s : State) (f : Fld) (n : Nat) : (s.wrapF f n).ang = s.ang := by simp only [State.wrapF, State.setF_ang]
@[simp] theorem State.wrapF_evt (s : State) (f : Fld) (n : Nat) : (s.wrapF f n).evt = s.evt := by simp only [State.wrapF, State.setF_evt]
@[simp] theorem State.wrapF_crs (s : State) (f : Fld) (n : Nat) : (s.wrapF f n).crs = s.crs := by simp only [State.wrapF, State.setF_crs]
@[simp] theorem State.wrapF_pwr (s : State) (f : Fld) (n : Nat) : (s.wrapF f n).pwr = s.pwr := by simp only [State.wrapF, State.setF_pwr]
@[simp] theorem State.wrapF_kln (s : State) (f : Fld) (n : Nat) : (s.wrapF f n).kln = s.kln := by simp only [State.wrapF, State.setF_kln]
@[simp] theorem State.wrapF_grids (s : State) (f : Fld) (n : Nat) : (s.wrapF f n).grids = s.grids := by simp only [State.wrapF, State.setF_grids]
@[simp] theorem State.wrapF_prt (s : State) (f : Fld) (n : Nat) : (s.wrapF f n).prt = s.prt := by simp only [State.wrapF, State.setF_prt]
@[simp] theorem State.wrapF_dio (s : State) (f : Fld) (n : Nat) : (s.wrapF f n).dio = s.dio := by simp only [State.wrapF, State.setF_dio]
@[simp] theorem State.wrapF_ao (s : State) (f : Fld) (n : Nat) : (s.wrapF f n).ao = s.ao := by simp only [State.wrapF, State.setF_ao]
@[simp] theorem State.wrapF_afe (s : State) (f : Fld) (n : Nat) : (s.wrapF f n).afe = s.afe := by simp only [State.wrapF, State.setF_afe]
@[simp] theorem State.wrapF_flt (s : State) (f : Fld) (n : Nat) : (s.wrapF f n).flt = s.flt := by simp only [State.wrapF, State.setF_flt]
@[simp] theorem State.wrapF_streams (s : State) (f : Fld) (n : Nat) : (s.wrapF f n).streams = s.streams := by simp only [State.wrapF, State.setF_streams]
@[simp] theorem State.wrapF_hkc (s : State) (f : Fld) (n : Nat) : (s.wrapF f n).hkc = s.hkc := by simp only [State.wrapF, State.setF_hkc]
@[simp] theorem State.wrapF_acq (s : State) (f : Fld) (n : Nat) : (s.wrapF f n).acq = s.acq := by simp only [State.wrapF, State.setF_acq]
@[simp] theorem State.wrapF_aud (s : State) (f : Fld) (n : Nat) : (s.wrapF f n).aud = s.aud := by simp only [State.wrapF, State.setF_aud]
@[simp] theorem State.wrapF_mtr (s : State) (f : Fld) (n : Nat) : (s.wrapF f n).mtr = s.mtr := by simp only [State.wrapF, State.setF_mtr]
@[simp] theorem State.wrapF_blk (s : State) (f : Fld) (n : Nat) : (s.wrapF f n).blk = s.blk := by simp only [State.wrapF, State.setF_blk]
@[simp] theorem State.wrapF_yul (s : State) (f : Fld) (n : Nat) : (s.wrapF f n).yul = s.yul := by simp only [State.wrapF, State.setF_yul]
@[simp] theorem State.wrapF_eth (s : State) (f : Fld) (n : Nat) : (s.wrapF f n).eth = s.eth := by simp only [State.wrapF, State.setF_eth]
@[simp] theorem State.wrapF_wyt (s : State) (f : Fld) (n : Nat) : (s.wrapF f n).wyt = s.wyt := by simp only [State.wrapF, State.setF_wyt]
@[simp] theorem State.wrapF_hst (s : State) (f : Fld) (n : Nat) : (s.wrapF f n).hst = s.hst := by simp only [State.wrapF, State.setF_hst]
@[simp] theorem State.wrapF_tx (s : State) (f : Fld) (n : Nat) : (s.wrapF f n).tx = s.tx := by simp only [State.wrapF, State.setF_tx]
@[simp] theorem State.wrapF_freeCtr (s : State) (f : Fld) (n : Nat) : (s.wrapF f n).freeCtr = s.freeCtr := by simp only [State.wrapF, State.setF_freeCtr]
@[simp] theorem State.wrapF_pending (s : State) (f : Fld) (n : Nat) : (s.wrapF f n).pending = s.pending := by simp only [State.wrapF, State.setF_pending]
@[simp] theorem State.setBit_variant (s : State) (f : Fld) (i : Nat) (b : Bool) : (s.setBit f i b).variant = s.variant := by simp only [State.setBit, State.setF_variant]
@[simp] theorem State.setBit_dram (s : State) (f : Fld) (i : Nat) (b : Bool) : (s.setBit f i b).dram = s.dram := by simp only [State.setBit, State.setF_dram]
@[simp] theorem State.setBit_tm (s : State) (f : Fld) (i : Nat) (b : Bool) : (s.setBit f i b).tm = s.tm := by simp only [State.setBit, State.setF_tm]
@[simp] theorem State.setBit_tbu (s : State) (f : Fld) (i : Nat) (b : Bool) : (s.setBit f i b).tbu = s.tbu := by simp only [State.setBit, State.setF_tbu]
@[simp] theorem State.setBit_ang (s : State) (f : Fld) (i : Nat) (b : Bool) : (s.setBit f i b).ang = s.ang := by simp only [State.setBit, State.setF_ang]
@[simp] theorem State.setBit_evt (s : State) (f : Fld) (i : Nat) (b : Bool) : (s.setBit f i b).evt = s.evt := by simp only [State.setBit, State.setF_evt]
@[simp] theorem State.setBit_crs (s : State) (f : Fld) (i : Nat) (b : Bool) : (s.setBit f i b).crs = s.crs := by simp only [State.setBit, State.setF_crs]
@[simp] theorem State.setBit_pwr (s : State) (f : Fld) (i : Nat) (b : Bool) : (s.setBit f i b).pwr = s.pwr := by simp only [State.setBit, State.setF_pwr]
@[simp] theorem State.setBit_kln (s : State) (f : Fld) (i : Nat) (b : Bool) : (s.setBit f i b).kln = s.kln := by simp only [State.setBit, State.setF_kln]
@[simp] theorem State.setBit_grids (s : State) (f : Fld) (i : Nat) (b : Bool) : (s.setBit f i b).grids = s.grids := by simp only [State.setBit, State.setF_grids]
@[simp] theorem State.setBit_prt (s : State) (f : Fld) (i : Nat) (b : Bool) : (s.setBit f i b).prt = s.prt := by simp only [State.setBit, State.setF_prt]
@[simp] theorem State.setBit_dio (s : State) (f : Fld) (i : Nat) (b : Bool) : (s.setBit f i b).dio = s.dio := by simp only [State.setBit, State.setF_dio]
@[simp] theorem State.setBit_ao (s : State) (f : Fld) (i : Nat) (b : Bool) : (s.setBit f i b).ao = s.ao := by simp only [State.setBit, State.setF_ao]
@[simp] theorem State.setBit_afe (s : State) (f : Fld) (i : Nat) (b : Bool) : (s.setBit f i b).afe = s.afe := by simp only [State.setBit, State.setF_afe]
@[simp] theorem State.setBit_flt (s : State) (f : Fld) (i : Nat) (b : Bool) : (s.setBit f i b).flt = s.flt := by simp only [State.setBit, State.setF_flt]
@[simp] theorem State.setBit_streams (s : State) (f : Fld) (i : Nat) (b : Bool) : (s.setBit f i b).streams = s.streams := by simp only [State.setBit, State.setF_streams]
@[simp] theorem State.setBit_hkc (s : State) (f : Fld) (i : Nat) (b : Bool) : (s.setBit f i b).hkc = s.hkc := by simp only [State.setBit, State.setF_hkc]
@[simp] theorem State.setBit_acq (s : State) (f : Fld) (i : Nat) (b : Bool) : (s.setBit f i b).acq = s.acq := by simp only [State.setBit, State.setF_acq]
@[simp] theorem State.setBit_aud (s : State) (f : Fld) (i : Nat) (b : Bool) : (s.setBit f i b).aud = s.aud := by simp only [State.setBit, State.setF_aud]
@[simp] theorem State.setBit_mtr (s : State) (f : Fld) (i : Nat) (b : Bool) : (s.setBit f i b).mtr = s.mtr := by simp only [State.setBit, State.setF_mtr]
@[simp] theorem State.setBit_blk (s : State) (f : Fld) (i : Nat) (b : Bool) : (s.setBit f i b).blk = s.blk := by simp only [State.setBit, State.setF_blk]
@[simp] theorem State.setBit_yul (s : State) (f : Fld) (i : Nat) (b : Bool) : (s.setBit f i b).yul = s.yul := by simp only [State.setBit, State.setF_yul]
@[simp] theorem State.setBit_eth (s : State) (f : Fld) (i : Nat) (b : Bool) : (s.setBit f i b).eth = s.eth := by simp only [State.setBit, State.setF_eth]
@[simp] theorem State.setBit_wyt (s : State) (f : Fld) (i : Nat) (b : Bool) : (s.setBit f i b).wyt = s.wyt := by simp only [State.setBit, State.setF_wyt]
@[simp] theorem State.setBit_hst (s : State) (f : Fld) (i : Nat) (b : Bool) : (s.setBit f i b).hst = s.hst := by simp only [State.setBit, State.setF_hst]
@[simp] theorem State.setBit_tx (s : State) (f : Fld) (i : Nat) (b : Bool) : (s.setBit f i b).tx = s.tx := by simp only [State.setBit, State.setF_tx]
@[simp] theorem State.setBit_freeCtr (s : State) (f : Fld) (i : Nat) (b : Bool) : (s.setBit f i b).freeCtr = s.freeCtr := by simp only [State.setBit, State.setF_freeCtr]
@[simp] theorem State.setBit_pending (s : State) (f : Fld) (i : Nat) (b : Bool) : (s.setBit f i b).pending = s.pending := by simp only [State.setBit, State.setF_pending]
@[simp] theorem State.wr64_variant (s : State) (o v : Nat) : (s.wr64 o v).variant = s.variant := by simp only [State.wr64, State.wr_variant]
@[simp] theorem State.wr64_dram (s : State) (o v : Nat) : (s.wr64 o v).dram = s.dram := by simp only [State.wr64, State.wr_dram]
@[simp] theorem State.wr64_tm (s : State) (o v : Nat) : (s.wr64 o v).tm = s.tm := by simp only [State.wr64, State.wr_tm]
@[simp] theorem State.wr64_tbu (s : State) (o v : Nat) : (s.wr64 o v).tbu = s.tbu := by simp only [State.wr64, State.wr_tbu]
@[simp] theorem State.wr64_ang (s : State) (o v : Nat) : (s.wr64 o v).ang = s.ang := by simp only [State.wr64, State.wr_ang]
@[simp] theorem State.wr64_evt (s : State) (o v : Nat) : (s.wr64 o v).evt = s.evt := by simp only [State.wr64, State.wr_evt]
@[simp] theorem State.wr64_crs (s : State) (o v : Nat) : (s.wr64 o v).crs = s.crs := by simp only [State.wr64, State.wr_crs]
@[simp] theorem State.wr64_pwr (s : State) (o v : Nat) : (s.wr64 o v).pwr = s.pwr := by simp only [State.wr64, State.wr_pwr]
@[simp] theorem State.wr64_kln (s : State) (o v : Nat) : (s.wr64 o v).kln = s.kln := by simp only [State.wr64, State.wr_kln]
@[simp] theorem State.wr64_grids (s : State) (o v : Nat) : (s.wr64 o v).grids = s.grids := by simp only [State.wr64, State.wr_grids]
@[simp] theorem State.wr64_prt (s : State) (o v : Nat) : (s.wr64 o v).prt = s.prt := by simp only [State.wr64, State.wr_prt]
@[simp] theorem State.wr64_dio (s : State) (o v : Nat) : (s.wr64 o v).dio = s.dio := by simp only [State.wr64, State.wr_dio]
@[simp] theorem State.wr64_ao (s : State) (o v : Nat) : (s.wr64 o v).ao = s.ao := by simp only [State.wr64, State.wr_ao]
@[simp] theorem State.wr64_afe (s : State) (o v : Nat) : (s.wr64 o v).afe = s.afe := by simp only [State.wr64, State.wr_afe]
@[simp] theorem State.wr64_flt (s : State) (o v : Nat) : (s.wr64 o v).flt = s.flt := by simp only [State.wr64, State.wr_flt]
@[simp] theorem State.wr64_streams (s : State) (o v : Nat) : (s.wr64 o v).streams = s.streams := by simp only [State.wr64, State.wr_streams]
@[simp] theorem State.wr64_hkc (s : State) (o v : Nat) : (s.wr64 o v).hkc = s.hkc := by simp only [State.wr64, State.wr_hkc]
@[simp] theorem State.wr64_acq (s : State) (o v : Nat) : (s.wr64 o v).acq = s.acq := by simp only [State.wr64, State.wr_acq]
@[simp] theorem State.wr64_aud (s : State) (o v : Nat) : (s.wr64 o v).aud = s.aud := by simp only [State.wr64, State.wr_aud]
@[simp] theorem State.wr64_mtr (s : State) (o v : Nat) : (s.wr64 o v).mtr = s.mtr := by simp only [State.wr64, State.wr_mtr]
@[simp] theorem State.wr64_blk (s : State) (o v : Nat) : (s.wr64 o v).blk = s.blk := by simp only [State.wr64, State.wr_blk]
@[simp] theorem State.wr64_yul (s : State) (o v : Nat) : (s.wr64 o v).yul = s.yul := by simp only [State.wr64, State.wr_yul]
@[simp] theorem State.wr64_eth (s : State) (o v : Nat) : (s.wr64 o v).eth = s.eth := by simp only [State.wr64, State.wr_eth]
@[simp] theorem State.wr64_wyt (s : State) (o v : Nat) : (s.wr64 o v).wyt = s.wyt := by simp only [State.wr64, State.wr_wyt]
@[simp] theorem State.wr64_hst (s : State) (o v : Nat) : (s.wr64 o v).hst = s.hst := by simp only [State.wr64, State.wr_hst]
@[simp] theorem State.wr64_tx (s : State) (o v : Nat) : (s.wr64 o v).tx = s.tx := by simp only [State.wr64, State.wr_tx]
@[simp] theorem State.wr64_freeCtr (s : State) (o v : Nat) : (s.wr64 o v).freeCtr = s.freeCtr := by simp only [State.wr64, State.wr_freeCtr]
@[simp] theorem State.wr64_pending (s : State) (o v : Nat) : (s.wr64 o v).pending = s.pending := by simp only [State.wr64, State.wr_pending]
@[simp] theorem State.wr96_variant (s : State) (o v : Nat) : (s.wr96 o v).variant = s.variant := by simp only [State.wr96, State.wr_variant]
@[simp] theorem State.wr96_dram (s : State) (o v : Nat) : (s.wr96 o v).dram = s.dram := by simp only [State.wr96, State.wr_dram]
@[simp] theorem State.wr96_tm (s : State) (o v : Nat) : (s.wr96 o v).tm = s.tm := by simp only [State.wr96, State.wr_tm]
@[simp] theorem State.wr96_tbu (s : State) (o v : Nat) : (s.wr96 o v).tbu = s.tbu := by simp only [State.wr96, State.wr_tbu]
@[simp] theorem State.wr96_ang (s : State) (o v : Nat) : (s.wr96 o v).ang = s.ang := by simp only [State.wr96, State.wr_ang]
@[simp] theorem State.wr96_evt (s : State) (o v : Nat) : (s.wr96 o v).evt = s.evt := by simp only [State.wr96, State.wr_evt]
@[simp] theorem State.wr96_crs (s : State) (o v : Nat) : (s.wr96 o v).crs = s.crs := by simp only [State.wr96, State.wr_crs]
@[simp] theorem State.wr96_pwr (s : State) (o v : Nat) : (s.wr96 o v).pwr = s.pwr := by simp only [State.wr96, State.wr_pwr]
@[simp] theorem State.wr96_kln (s : State) (o v : Nat) : (s.wr96 o v).kln = s.kln := by simp only [State.wr96, State.wr_kln]
@[simp] theorem State.wr96_grids (s : State) (o v : Nat) : (s.wr96 o v).grids = s.grids := by simp only [State.wr96, State.wr_grids]
@[simp] theorem State.wr96_prt (s : State) (o v : Nat) : (s.wr96 o v).prt = s.prt := by simp only [State.wr96, State.wr_prt]
@[simp] theorem State.wr96_dio (s : State) (o v : Nat) : (s.wr96 o v).dio = s.dio := by simp only [State.wr96, State.wr_dio]
@[simp] theorem State.wr96_ao (s : State) (o v : Nat) : (s.wr96 o v).ao = s.ao := by simp only [State.wr96, State.wr_ao]
@[simp] theorem State.wr96_afe (s : State) (o v : Nat) : (s.wr96 o v).afe = s.afe := by simp only [State.wr96, State.wr_afe]
@[simp] theorem State.wr96_flt (s : State) (o v : Nat) : (s.wr96 o v).flt = s.flt := by simp only [State.wr96, State.wr_flt]
@[simp] theorem State.wr96_streams (s : State) (o v : Nat) : (s.wr96 o v).streams = s.streams := by simp only [State.wr96, State.wr_streams]
@[simp] theorem State.wr96_hkc (s : State) (o v : Nat) : (s.wr96 o v).hkc = s.hkc := by simp only [State.wr96, State.wr_hkc]
@[simp] theorem State.wr96_acq (s : State) (o v : Nat) : (s.wr96 o v).acq = s.acq := by simp only [State.wr96, State.wr_acq]
@[simp] theorem State.wr96_aud (s : State) (o v : Nat) : (s.wr96 o v).aud = s.aud := by simp only [State.wr96, State.wr_aud]
@[simp] theorem State.wr96_mtr (s : State) (o v : Nat) : (s.wr96 o v).mtr = s.mtr := by simp only [State.wr96, State.wr_mtr]
@[simp] theorem State.wr96_blk (s : State) (o v : Nat) : (s.wr96 o v).blk = s.blk := by simp only [State.wr96, State.wr_blk]
@[simp] theorem State.wr96_yul (s : State) (o v : Nat) : (s.wr96 o v).yul = s.yul := by simp only [State.wr96, State.wr_yul]
@[simp] theorem State.wr96_eth (s : State) (o v : Nat) : (s.wr96 o v).eth = s.eth := by simp only [State.wr96, State.wr_eth]
@[simp] theorem State.wr96_wyt (s : State) (o v : Nat) : (s.wr96 o v).wyt = s.wyt := by simp only [State.wr96, State.wr_wyt]
@[simp] theorem State.wr96_hst (s : State) (o v : Nat) : (s.wr96 o v).hst = s.hst := by simp only [State.wr96, State.wr_hst]
@[simp] theorem State.wr96_tx (s : State) (o v : Nat) : (s.wr96 o v).tx = s.tx := by simp only [State.wr96, State.wr_tx]
@[simp] theorem State.wr96_freeCtr (s : State) (o v : Nat) : (s.wr96 o v).freeCtr = s.freeCtr := by simp only [State.wr96, State.wr_freeCtr]
@[simp] theorem State.wr96_pending (s : State) (o v : Nat) : (s.wr96 o v).pending = s.pending := by simp only [State.wr96, State.wr_pending]
@[simp] theorem State.wrTw_variant (s : State) (o v : Nat) : (s.wrTw o v).variant = s.variant := by simp only [State.wrTw, State.wr96_variant]
@[simp] theorem State.wrTw_dram (s : State) (o v : Nat) : (s.wrTw o v).dram = s.dram := by simp only [State.wrTw, State.wr96_dram]
@[simp] theorem State.wrTw_tm (s : State) (o v : Nat) : (s.wrTw o v).tm = s.tm := by simp only [State.wrTw, State.wr96_tm]
@[simp] theorem State.wrTw_tbu (s : State) (o v : Nat) : (s.wrTw o v).tbu = s.tbu := by simp only [State.wrTw, State.wr96_tbu]
@[simp] theorem State.wrTw_ang (s : State) (o v : Nat) : (s.wrTw o v).ang = s.ang := by simp only [State.wrTw, State.wr96_ang]
@[simp] theorem State.wrTw_evt (s : State) (o v : Nat) : (s.wrTw o v).evt = s.evt := by simp only [State.wrTw, State.wr96_evt]
@[simp] theorem State.wrTw_crs (s : State) (o v : Nat) : (s.wrTw o v).crs = s.crs := by simp only [State.wrTw, State.wr96_crs]
@[simp] theorem State.wrTw_pwr (s : State) (o v : Nat) : (s.wrTw o v).pwr = s.pwr := by simp only [State.wrTw, State.wr96_pwr]
@[simp] theorem State.wrTw_kln (s : State) (o v : Nat) : (s.wrTw o v).kln = s.kln := by simp only [State.wrTw, State.wr96_kln]
@[simp] theorem State.wrTw_grids (s : State) (o v : Nat) : (s.wrTw o v).grids = s.grids := by simp only [State.wrTw, State.wr96_grids]
@[simp] theorem State.wrTw_prt (s : State) (o v : Nat) : (s.wrTw o v).prt = s.prt := by simp only [State.wrTw, State.wr96_prt]
@[simp] theorem State.wrTw_dio (s : State) (o v : Nat) : (s.wrTw o v).dio = s.dio := by simp only [State.wrTw, State.wr96_dio]
@[simp] theorem State.wrTw_ao (s : State) (o v : Nat) : (s.wrTw o v).ao = s.ao := by simp only [State.wrTw, State.wr96_ao]
@[simp] theorem State.wrTw_afe (s : State) (o v : Nat) : (s.wrTw o v).afe = s.afe := by simp only [State.wrTw, State.wr96_afe]
@[simp] theorem State.wrTw_flt (s : State) (o v : Nat) : (s.wrTw o v).flt = s.flt := by simp only [State.wrTw, State.wr96_flt]
@[simp] theorem State.wrTw_streams (s : State) (o v : Nat) : (s.wrTw o v).streams = s.streams := by simp only [State.wrTw, State.wr96_streams]
@[simp] theorem State.wrTw_hkc (s : State) (o v : Nat) : (s.wrTw o v).hkc = s.hkc := by simp only [State.wrTw, State.wr96_hkc]
@[simp] theorem State.wrTw_acq (s : State) (o v : Nat) : (s.wrTw o v).acq = s.acq := by simp only [State.wrTw, State.wr96_acq]
@[simp] theorem State.wrTw_aud (s : State) (o v : Nat) : (s.wrTw o v).aud = s.aud := by simp only [State.wrTw, State.wr96_aud]
@[simp] theorem State.wrTw_mtr (s : State) (o v : Nat) : (s.wrTw o v).mtr = s.mtr := by simp only [State.wrTw, State.wr96_mtr]
@[simp] theorem State.wrTw_blk (s : State) (o v : Nat) : (s.wrTw o v).blk = s.blk := by simp only [State.wrTw, State.wr96_blk]
@[simp] theorem State.wrTw_yul (s : State) (o v : Nat) : (s.wrTw o v).yul = s.yul := by simp only [State.wrTw, State.wr96_yul]
@[simp] theorem State.wrTw_eth (s : State) (o v : Nat) : (s.wrTw o v).eth = s.eth := by simp only [State.wrTw, State.wr96_eth]
@[simp] theorem State.wrTw_wyt (s : State) (o v : Nat) : (s.wrTw o v).wyt = s.wyt := by simp only [State.wrTw, State.wr96_wyt]
@[simp] theorem State.wrTw_hst (s : State) (o v : Nat) : (s.wrTw o v).hst = s.hst := by simp only [State.wrTw, State.wr96_hst]
@[simp] theorem State.wrTw_tx (s : State) (o v : Nat) : (s.wrTw o v).tx = s.tx := by simp only [State.wrTw, State.wr96_tx]
@[simp] theorem State.wrTw_freeCtr (s : State) (o v : Nat) : (s.wrTw o v).freeCtr = s.freeCtr := by simp only [State.wrTw, State.wr96_freeCtr]
@[simp] theorem State.wrTw_pending (s : State) (o v : Nat) : (s.wrTw o v).pending = s.pending := by simp only [State.wrTw, State.wr96_pending]
@[simp] theorem State.dramWr_variant (s : State) (a : Nat) (bs : List Byte) : (s.dramWr a bs).variant = s.variant := rfl
@[simp] theorem State.dramWr_regs (s : State) (a : Nat) (bs : List Byte) : (s.dramWr a bs).regs = s.regs := rfl
@[simp] theorem State.dramWr_tm (s : State) (a : Nat) (bs : List Byte) : (s.dramWr a bs).tm = s.tm := rfl
@[simp] theorem State.dramWr_tbu (s : State) (a : Nat) (bs : List Byte) : (s.dramWr a bs).tbu = s.tbu := rfl
@[simp] theorem State.dramWr_ang (s : State) (a : Nat) (bs : List Byte) : (s.dramWr a bs).ang = s.ang := rfl
@[simp] theorem State.dramWr_evt (s : State) (a : Nat) (bs : List Byte) : (s.dramWr a bs).evt = s.evt := rfl
@[simp] theorem State.dramWr_crs (s : State) (a : Nat) (bs : List Byte) : (s.dramWr a bs).crs = s.crs := rfl
@[simp] theorem State.dramWr_pwr (s : State) (a : Nat) (bs : List Byte) : (s.dramWr a bs).pwr = s.pwr := rfl
@[simp] theorem State.dramWr_kln (s : State) (a : Nat) (bs : List Byte) : (s.dramWr a bs).kln = s.kln := rfl
@[simp] theorem State.dramWr_grids (s : State) (a : Nat) (bs : List Byte) : (s.dramWr a bs).grids = s.grids := rfl
@[simp] theorem State.dramWr_prt (s : State) (a : Nat) (bs : List Byte) : (s.dramWr a bs).prt = s.prt := rfl
@[simp] theorem State.dramWr_dio (s : State) (a : Nat) (bs : List Byte) : (s.dramWr a bs).dio = s.dio := rfl
@[simp] theorem State.dramWr_ao (s : State) (a : Nat) (bs : List Byte) : (s.dramWr a bs).ao = s.ao := rfl
@[simp] theorem State.dramWr_afe (s : State) (a : Nat) (bs : List Byte) : (s.dramWr a bs).afe = s.afe := rfl
@[simp] theorem State.dramWr_flt (s : State) (a : Nat) (bs : List Byte) : (s.dramWr a bs).flt = s.flt := rfl
@[simp] theorem State.dramWr_streams (s : State) (a : Nat) (bs : List Byte) : (s.dramWr a bs).streams = s.streams := rfl
@[simp] theorem State.dramWr_hkc (s : State) (a : Nat) (bs : List Byte) : (s.dramWr a bs).hkc = s.hkc := rfl
@[simp] theorem State.dramWr_acq (s : State) (a : Nat) (bs : List Byte) : (s.dramWr a bs).acq = s.acq := rfl
@[simp] theorem State.dramWr_aud (s : State) (a : Nat) (bs : List Byte) : (s.dramWr a bs).aud = s.aud := rfl
@[simp] theorem State.dramWr_mtr (s : State) (a : Nat) (bs : List Byte) : (s.dramWr a bs).mtr = s.mtr := rfl
@[simp] theorem State.dramWr_blk (s : State) (a : Nat) (bs : List Byte) : (s.dramWr a bs).blk = s.blk := rfl
@[simp] theorem State.dramWr_yul (s : State) (a : Nat) (bs : List Byte) : (s.dramWr a bs).yul = s.yul := rfl
@[simp] theorem State.dramWr_eth (s : State) (a : Nat) (bs : List Byte) : (s.dramWr a bs).eth = s.eth := rfl
@[simp] theorem State.dramWr_wyt (s : State) (a : Nat) (bs : List Byte) : (s.dramWr a bs).wyt = s.wyt := rfl
@[simp] theorem State.dramWr_hst (s : State) (a : Nat) (bs : List Byte) : (s.dramWr a bs).hst = s.hst := rfl
@[simp] theorem State.dramWr_tx (s : State) (a : Nat) (bs : List Byte) : (s.dramWr a bs).tx = s.tx := rfl
@[simp] theorem State.dramWr_freeCtr (s : State) (a : Nat) (bs : List Byte) : (s.dramWr a bs).freeCtr = s.freeCtr := rfl
@[simp] theorem State.dramWr_pending (s : State) (a : Nat) (bs : List Byte) : (s.dramWr a bs).pending = s.pending := rfl
@[simp] theorem State.bump_variant (s : State) : (s.bump).variant = s.variant := rfl
@[simp] theorem State.bump_regs (s : State) : (s.bump).regs = s.regs := rfl
@[simp] theorem State.bump_dram (s : State) : (s.bump).dram = s.dram := rfl
@[simp] theorem State.bump_tm (s : State) : (s.bump).tm = s.tm := rfl
@[simp] theorem State.bump_tbu (s : State) : (s.bump).tbu = s.tbu := rfl
@[simp] theorem State.bump_ang (s : State) : (s.bump).ang = s.ang := rfl
@[simp] theorem State.bump_evt (s : State) : (s.bump).evt = s.evt := rfl
@[simp] theorem State.bump_crs (s : State) : (s.bump).crs = s.crs := rfl
@[simp] theorem State.bump_pwr (s : State) : (s.bump).pwr = s.pwr := rfl
@[simp] theorem State.bump_kln (s : State) : (s.bump).kln = s.kln := rfl
@[simp] theorem State.bump_grids (s : State) : (s.bump).grids = s.grids := rfl
@[simp] theorem State.bump_prt (s : State) : (s.bump).prt = s.prt := rfl
@[simp] theorem State.bump_dio (s : State) : (s.bump).dio = s.dio := rfl
@[simp] theorem State.bump_ao (s : State) : (s.bump).ao = s.ao := rfl
@[simp] theorem State.bump_afe (s : State) : (s.bump).afe = s.afe := rfl
@[simp] theorem State.bump_flt (s : State) : (s.bump).flt = s.flt := rfl
@[simp] theorem State.bump_streams (s : State) : (s.bump).streams = s.streams := rfl
@[simp] theorem State.bump_hkc (s : State) : (s.bump).hkc = s.hkc := rfl
@[simp] theorem State.bump_acq (s : State) : (s.bump).acq = s.acq := rfl
@[simp] theorem State.bump_aud (s : State) : (s.bump).aud = s.aud := rfl
@[simp] theorem State.bump_mtr (s : State) : (s.bump).mtr = s.mtr := rfl
@[simp] theorem State.bump_blk (s : State) : (s.bump).blk = s.blk := rfl
@[simp] theorem State.bump_yul (s : State) : (s.bump).yul = s.yul := rfl
@[simp] theorem State.bump_eth (s : State) : (s.bump).eth = s.eth := rfl
@[simp] theorem State.bump_wyt (s : State) : (s.bump).wyt = s.wyt := rfl
@[simp] theorem State.bump_hst (s : State) : (s.bump).hst = s.hst := rfl
@[simp] theorem State.bump_tx (s : State) : (s.bump).tx = s.tx := rfl
@[simp] theorem State.bump_pending (s : State) : (s.bump).pending = s.pending := rfl
@[simp] theorem State.out_variant (s : State) (t : TxItem) : (s.out t).variant = s.variant := rfl
@[simp] theorem State.out_regs (s : State) (t : TxItem) : (s.out t).regs = s.regs := rfl
@[simp] theorem State.out_dram (s : State) (t : TxItem) : (s.out t).dram = s.dram := rfl
@[simp] theorem State.out_tm (s : State) (t : TxItem) : (s.out t).tm = s.tm := rfl
@[simp] theorem State.out_tbu (s : State) (t : TxItem) : (s.out t).tbu = s.tbu := rfl
@[simp] theorem State.out_ang (s : State) (t : TxItem) : (s.out t).ang = s.ang := rfl
@[simp] theorem State.out_evt (s : State) (t : TxItem) : (s.out t).evt = s.evt := rfl
@[simp] theorem State.out_crs (s : State) (t : TxItem) : (s.out t).crs = s.crs := rfl
@[simp] theorem State.out_pwr (s : State) (t : TxItem) : (s.out t).pwr = s.pwr := rfl
@[simp] theorem State.out_kln (s : State) (t : TxItem) : (s.out t).kln = s.kln := rfl
@[simp] theorem State.out_grids (s : State) (t : TxItem) : (s.out t).grids = s.grids := rfl
@[simp] theorem State.out_prt (s : State) (t : TxItem) : (s.out t).prt = s.prt := rfl
@[simp] theorem State.out_dio (s : State) (t : TxItem) : (s.out t).dio = s.dio := rfl
@[simp] theorem State.out_ao (s : State) (t : TxItem) : (s.out t).ao = s.ao := rfl
@[simp] theorem State.out_afe (s : State) (t : TxItem) : (s.out t).afe = s.afe := rfl
@[simp] theorem State.out_flt (s : State) (t : TxItem) : (s.out t).flt = s.flt := rfl
@[simp] theorem State.out_streams (s : State) (t : TxItem) : (s.out t).streams = s.streams := rfl
@[simp] theorem State.out_hkc (s : State) (t : TxItem) : (s.out t).hkc = s.hkc := rfl
@[simp] theorem State.out_acq (s : State) (t : TxItem) : (s.out t).acq = s.acq := rfl
@[simp] theorem State.out_aud (s : State) (t : TxItem) : (s.out t).aud = s.aud := rfl
@[simp] theorem State.out_mtr (s : State) (t : TxItem) : (s.out t).mtr = s.mtr := rfl
@[simp] theorem State.out_blk (s : State) (t : TxItem) : (s.out t).blk = s.blk := rfl
@[simp] theorem State.out_yul (s : State) (t : TxItem) : (s.out t).yul = s.yul := rfl
@[simp] theorem State.out_eth (s : State) (t : TxItem) : (s.out t).eth = s.eth := rfl
@[simp] theorem State.out_wyt (s : State) (t : TxItem) : (s.out t).wyt = s.wyt := rfl
@[simp] theorem State.out_hst (s : State) (t : TxItem) : (s.out t).hst = s.hst := rfl
@[simp] theorem State.out_freeCtr (s : State) (t : TxItem) : (s.out t).freeCtr = s.freeCtr := rfl
@[simp] theorem State.out_pending (s : State) (t : TxItem) : (s.out t).pending = s.pending := rfl
@[simp] theorem State.pendVec_variant (s : State) (v : Nat) : (s.pendVec v).variant = s.variant := rfl
@[simp] theorem State.pendVec_regs (s : State) (v : Nat) : (s.pendVec v).regs = s.regs := rfl
@[simp] theorem State.pendVec_dram (s : State) (v : Nat) : (s.pendVec v).dram = s.dram := rfl
@[simp] theorem State.pendVec_tm (s : State) (v : Nat) : (s.pendVec v).tm = s.tm := rfl
@[simp] theorem State.pendVec_tbu (s : State) (v : Nat) : (s.pendVec v).tbu = s.tbu := rfl
@[simp] theorem State.pendVec_ang (s : State) (v : Nat) : (s.pendVec v).ang = s.ang := rfl
@[simp] theorem State.pendVec_evt (s : State) (v : Nat) : (s.pendVec v).evt = s.evt := rfl
@[simp] theorem State.pendVec_crs (s : State) (v : Nat) : (s.pendVec v).crs = s.crs := rfl
@[simp] theorem State.pendVec_pwr (s : State) (v : Nat) : (s.pendVec v).pwr = s.pwr := rfl
@[simp] theorem State.pendVec_kln (s : State) (v : Nat) : (s.pendVec v).kln = s.kln := rfl
@[simp] theorem State.pendVec_grids (s : State) (v : Nat) : (s.pendVec v).grids = s.grids := rfl
@[simp] theorem State.pendVec_prt (s : State) (v : Nat) : (s.pendVec v).prt = s.prt := rfl
@[simp] theorem State.pendVec_dio (s : State) (v : Nat) : (s.pendVec v).dio = s.dio := rfl
@[simp] theorem State.pendVec_ao (s : State) (v : Nat) : (s.pendVec v).ao = s.ao := rfl
@[simp] theorem State.pendVec_afe (s : State) (v : Nat) : (s.pendVec v).afe = s.afe := rfl
@[simp] theorem State.pendVec_flt (s : State) (v : Nat) : (s.pendVec v).flt = s.flt := rfl
@[simp] theorem State.pendVec_streams (s : State) (v : Nat) : (s.pendVec v).streams = s.streams := rfl
@[simp] theorem State.pendVec_hkc (s : State) (v : Nat) : (s.pendVec v).hkc = s.hkc := rfl
@[simp] theorem State.pendVec_acq (s : State) (v : Nat) : (s.pendVec v).acq = s.acq := rfl
@[simp] theorem State.pendVec_aud (s : State) (v : Nat) : (s.pendVec v).aud = s.aud := rfl
@[simp] theorem State.pendVec_mtr (s : State) (v : Nat) : (s.pendVec v).mtr = s.mtr := rfl
@[simp] theorem State.pendVec_blk (s : State) (v : Nat) : (s.pendVec v).blk = s.blk := rfl
@[simp] theorem State.pendVec_yul (s : State) (v : Nat) : (s.pendVec v).yul = s.yul := rfl
@[simp] theorem State.pendVec_eth (s : State) (v : Nat) : (s.pendVec v).eth = s.eth := rfl
@[simp] theorem State.pendVec_wyt (s : State) (v : Nat) : (s.pendVec v).wyt = s.wyt := rfl
@[simp] theorem State.pendVec_tx (s : State) (v : Nat) : (s.pendVec v).tx = s.tx := rfl
@[simp] theorem State.pendVec_freeCtr (s : State) (v : Nat) : (s.pendVec v).freeCtr = s.freeCtr := rfl
@[simp] theorem State.pendVec_pending (s : State) (v : Nat) : (s.pendVec v).pending = s.pending := rfl
@[simp] theorem State.setPart_variant (s : State) (i : Nat) (g : Part → Part) : (s.setPart i g).variant = s.variant := rfl
@[simp] theorem State.setPart_regs (s : State) (i : Nat) (g : Part → Part) : (s.setPart i g).regs = s.regs := rfl
@[simp] theorem State.setPart_dram (s : State) (i : Nat) (g : Part → Part) : (s.setPart i g).dram = s.dram := rfl
@[simp] theorem State.setPart_tm (s : State) (i : Nat) (g : Part → Part) : (s.setPart i g).tm = s.tm := rfl
@[simp] theorem State.setPart_tbu (s : State) (i : Nat) (g : Part → Part) : (s.setPart i g).tbu = s.tbu := rfl
@[simp] theorem State.setPart_ang (s : State) (i : Nat) (g : Part → Part) : (s.setPart i g).ang = s.ang := rfl
@[simp] theorem State.setPart_evt (s : State) (i : Nat) (g : Part → Part) : (s.setPart i g).evt = s.evt := rfl
@[simp] theorem State.setPart_crs (s : State) (i : Nat) (g : Part → Part) : (s.setPart i g).crs = s.crs := rfl
@[simp] theorem State.setPart_kln (s : State) (i : Nat) (g : Part → Part) : (s.setPart i g).kln = s.kln := rfl
@[simp] theorem State.setPart_grids (s : State) (i : Nat) (g : Part → Part) : (s.setPart i g).grids = s.grids := rfl
@[simp] theorem State.setPart_prt (s : State) (i : Nat) (g : Part → Part) : (s.setPart i g).prt = s.prt := rfl
@[simp] theorem State.setPart_dio (s : State) (i : Nat) (g : Part → Part) : (s.setPart i g).dio = s.dio := rfl
@[simp] theorem State.setPart_ao (s : State) (i : Nat) (g : Part → Part) : (s.setPart i g).ao = s.ao := rfl
@[simp] theorem State.setPart_afe (s : State) (i : Nat) (g : Part → Part) : (s.setPart i g).afe = s.afe := rfl
@[simp] theorem State.setPart_flt (s : State) (i : Nat) (g : Part → Part) : (s.setPart i g).flt = s.flt := rfl
@[simp] theorem State.setPart_streams (s : State) (i : Nat) (g : Part → Part) : (s.setPart i g).streams = s.streams := rfl
@[simp] theorem State.setPart_hkc (s : State) (i : Nat) (g : Part → Part) : (s.setPart i g).hkc = s.hkc := rfl
@[simp] theorem State.setPart_acq (s : State) (i : Nat) (g : Part → Part) : (s.setPart i g).acq = s.acq := rfl
@[simp] theorem State.setPart_aud (s : State) (i : Nat) (g : Part → Part) : (s.setPart i g).aud = s.aud := rfl
@[simp] theorem State.setPart_mtr (s : State) (i : Nat) (g : Part → Part) : (s.setPart i g).mtr = s.mtr := rfl
@[simp] theorem State.setPart_blk (s : State) (i : Nat) (g : Part → Part) : (s.setPart i g).blk = s.blk := rfl
@[simp] theorem State.setPart_yul (s : State) (i : Nat) (g : Part → Part) : (s.setPart i g).yul = s.yul := rfl
@[simp] theorem State.setPart_eth (s : State) (i : Nat) (g : Part → Part) : (s.setPart i g).eth = s.eth := rfl
@[simp] theorem State.setPart_wyt (s : State) (i : Nat) (g : Part → Part) : (s.setPart i g).wyt = s.wyt := rfl
@[simp] theorem State.setPart_hst (s : State) (i : Nat) (g : Part → Part) : (s.setPart i g).hst = s.hst := rfl
@[simp] theorem State.setPart_tx (s : State) (i : Nat) (g : Part → Part) : (s.setPart i g).tx = s.tx := rfl
@[simp] theorem State.setPart_freeCtr (s : State) (i : Nat) (g : Part → Part) : (s.setPart i g).freeCtr = s.freeCtr := rfl
@[simp] theorem State.setPart_pending (s : State) (i : Nat) (g : Part → Part) : (s.setPart i g).pending = s.pending := rfl
@[simp] theorem State.mark_variant (s : State) (o m : Nat) : (s.mark o m).variant = s.variant := rfl
@[simp] theorem State.mark_regs (s : State) (o m : Nat) : (s.mark o m).regs = s.regs := rfl
@[simp] theorem State.mark_dram (s : State) (o m : Nat) : (s.mark o m).dram = s.dram := rfl
@[simp] theorem State.mark_tm (s : State) (o m : Nat) : (s.mark o m).tm = s.tm := rfl
@[simp] theorem State.mark_tbu (s : State) (o m : Nat) : (s.mark o m).tbu = s.tbu := rfl
@[simp] theorem State.mark_ang (s : State) (o m : Nat) : (s.mark o m).ang = s.ang := rfl
@[simp] theorem State.mark_evt (s : State) (o m : Nat) : (s.mark o m).evt = s.evt := rfl
@[simp] theorem State.mark_crs (s : State) (o m : Nat) : (s.mark o m).crs = s.crs := rfl
@[simp] theorem State.mark_pwr (s : State) (o m : Nat) : (s.mark o m).pwr = s.pwr := rfl
@[simp] theorem State.mark_kln (s : State) (o m : Nat) : (s.mark o m).kln = s.kln := rfl
@[simp] theorem State.mark_grids (s : State) (o m : Nat) : (s.mark o m).grids = s.grids := rfl
@[simp] theorem State.mark_prt (s : State) (o m : Nat) : (s.mark o m).prt = s.prt := rfl
@[simp] theorem State.mark_dio (s : State) (o m : Nat) : (s.mark o m).dio = s.dio := rfl
@[simp] theorem State.mark_ao (s : State) (o m : Nat) : (s.mark o m).ao = s.ao := rfl
@[simp] theorem State.mark_afe (s : State) (o m : Nat) : (s.mark o m).afe = s.afe := rfl
@[simp] theorem State.mark_flt (s : State) (o m : Nat) : (s.mark o m).flt = s.flt := rfl
@[simp] theorem State.mark_streams (s : State) (o m : Nat) : (s.mark o m).streams = s.streams := rfl
@[simp] theorem State.mark_hkc (s : State) (o m : Nat) : (s.mark o m).hkc = s.hkc := rfl
@[simp] theorem State.mark_acq (s : State) (o m : Nat) : (s.mark o m).acq = s.acq := rfl
@[simp] theorem State.mark_aud (s : State) (o m : Nat) : (s.mark o m).aud = s.aud := rfl
@[simp] theorem State.mark_mtr (s : State) (o m : Nat) : (s.mark o m).mtr = s.mtr := rfl
@[simp] theorem State.mark_blk (s : State) (o m : Nat) : (s.mark o m).blk = s.blk := rfl
@[simp] theorem State.mark_yul (s : State) (o m : Nat) : (s.mark o m).yul = s.yul := rfl
@[simp] theorem State.mark_eth (s : State) (o m : Nat) : (s.mark o m).eth = s.eth := rfl
@[simp] theorem State.mark_wyt (s : State) (o m : Nat) : (s.mark o m).wyt = s.wyt := rfl
@[simp] theorem State.mark_tx (s : State) (o m : Nat) : (s.mark o m).tx = s.tx := rfl
@[simp] theorem State.mark_freeCtr (s : State) (o m : Nat) : (s.mark o m).freeCtr = s.freeCtr := rfl
@[simp] theorem State.mark_pending (s : State) (o m : Nat) : (s.mark o m).pending = s.pending := rfl
@[simp] theorem State.raise_variant (s : State) (f : Fld) : (s.raise f).variant = s.variant := by simp only [State.raise, State.mark_variant, State.setF_variant]
@[simp] theorem State.raise_dram (s : State) (f : Fld) : (s.raise f).dram = s.dram := by simp only [State.raise, State.mark_dram, State.setF_dram]
@[simp] theorem State.raise_tm (s : State) (f : Fld) : (s.raise f).tm = s.tm := by simp only [State.raise, State.mark_tm, State.setF_tm]
@[simp] theorem State.raise_tbu (s : State) (f : Fld) : (s.raise f).tbu = s.tbu := by simp only [State.raise, State.mark_tbu, State.setF_tbu]
@[simp] theorem State.raise_ang (s : State) (f : Fld) : (s.raise f).ang = s.ang := by simp only [State.raise, State.mark_ang, State.setF_ang]
@[simp] theorem State.raise_evt (s : State) (f : Fld) : (s.raise f).evt = s.evt := by simp only [State.raise, State.mark_evt, State.setF_evt]
@[simp] theorem State.raise_crs (s : State) (f : Fld) : (s.raise f).crs = s.crs := by simp only [State.raise, State.mark_crs, State.setF_crs]
@[simp] theorem State.raise_pwr (s : State) (f : Fld) : (s.raise f).pwr = s.pwr := by simp only [State.raise, State.mark_pwr, State.setF_pwr]
@[simp] theorem State.raise_kln (s : State) (f : Fld) : (s.raise f).kln = s.kln := by simp only [State.raise, State.mark_kln, State.setF_kln]
@[simp] theorem State.raise_grids (s : State) (f : Fld) : (s.raise f).grids = s.grids := by simp only [State.raise, State.mark_grids, State.setF_grids]
@[simp] theorem State.raise_prt (s : State) (f : Fld) : (s.raise f).prt = s.prt := by simp only [State.raise, State.mark_prt, State.setF_prt]
@[simp] theorem State.raise_dio (s : State) (f : Fld) : (s.raise f).dio = s.dio := by simp only [State.raise, State.mark_dio, State.setF_dio]
@[simp] theorem State.raise_ao (s : State) (f : Fld) : (s.raise f).ao = s.ao := by simp only [State.raise, State.mark_ao, State.setF_ao]
@[simp] theorem State.raise_afe (s : State) (f : Fld) : (s.raise f).afe = s.afe := by simp only [State.raise, State.mark_afe, State.setF_afe]
@[simp] theorem State.raise_flt (s : State) (f : Fld) : (s.raise f).flt = s.flt := by simp only [State.raise, State.mark_flt, State.setF_flt]
@[simp] theorem State.raise_streams (s : State) (f : Fld) : (s.raise f).streams = s.streams := by simp only [State.raise, State.mark_streams, State.setF_streams]
@[simp] theorem State.raise_hkc (s : State) (f : Fld) : (s.raise f).hkc = s.hkc := by simp only [State.raise, State.mark_hkc, State.setF_hkc]
@[simp] theorem State.raise_acq (s : State) (f : Fld) : (s.raise f).acq = s.acq := by simp only [State.raise, State.mark_acq, State.setF_acq]
@[simp] theorem State.raise_aud (s : State) (f : Fld) : (s.raise f).aud = s.aud := by simp only [State.raise, State.mark_aud, State.setF_aud]
@[simp] theorem State.raise_mtr (s : State) (f : Fld) : (s.raise f).mtr = s.mtr := by simp only [State.raise, State.mark_mtr, State.setF_mtr]
@[simp] theorem State.raise_blk (s : State) (f : Fld) : (s.raise f).blk = s.blk := by simp only [State.raise, State.mark_blk, State.setF_blk]
@[simp] theorem State.raise_yul (s : State) (f : Fld) : (s.raise f).yul = s.yul := by simp only [State.raise, State.mark_yul, State.setF_yul]
@[simp] theorem State.raise_eth (s : State) (f : Fld) : (s.raise f).eth = s.eth := by simp only [State.raise, State.mark_eth, State.setF_eth]
@[simp] theorem State.raise_wyt (s : State) (f : Fld) : (s.raise f).wyt = s.wyt := by simp only [State.raise, State.mark_wyt, State.setF_wyt]
@[simp] theorem State.raise_tx (s : State) (f : Fld) : (s.raise f).tx = s.tx := by simp only [State.raise, State.mark_tx, State.setF_tx]
@[simp] theorem State.raise_freeCtr (s : State) (f : Fld) : (s.raise f).freeCtr = s.freeCtr := by simp only [State.raise, State.mark_freeCtr, State.setF_freeCtr]
@[simp] theorem State.raise_pending (s : State) (f : Fld) : (s.raise f).pending = s.pending := by simp only [State.raise, State.mark_pending, State.setF_pending]
@[simp] theorem State.raiseBit_variant (s : State) (f : Fld) (i : Nat) : (s.raiseBit f i).variant = s.variant := by simp only [State.raiseBit, State.mark_variant, State.setBit_variant]
@[simp] theorem State.raiseBit_dram (s : State) (f : Fld) (i : Nat) : (s.raiseBit f i).dram = s.dram := by simp only [State.raiseBit, State.mark_dram, State.setBit_dram]
@[simp] theorem State.raiseBit_tm (s : State) (f : Fld) (i : Nat) : (s.raiseBit f i).tm = s.tm := by simp only [State.raiseBit, State.mark_tm, State.setBit_tm]
@[simp] theorem State.raiseBit_tbu (s : State) (f : Fld) (i : Nat) : (s.raiseBit f i).tbu = s.tbu := by simp only [State.raiseBit, State.mark_tbu, State.setBit_tbu]
@[simp] theorem State.raiseBit_ang (s : State) (f : Fld) (i : Nat) : (s.raiseBit f i).ang = s.ang := by simp only [State.raiseBit, State.mark_ang, State.setBit_ang]
@[simp] theorem State.raiseBit_evt (s : State) (f : Fld) (i : Nat) : (s.raiseBit f i).evt = s.evt := by simp only [State.raiseBit, State.mark_evt, State.setBit_evt]
@[simp] theorem State.raiseBit_crs (s : State) (f : Fld) (i : Nat) : (s.raiseBit f i).crs = s.crs := by simp only [State.raiseBit, State.mark_crs, State.setBit_crs]
@[simp] theorem State.raiseBit_pwr (s : State) (f : Fld) (i : Nat) : (s.raiseBit f i).pwr = s.pwr := by simp only [State.raiseBit, State.mark_pwr, State.setBit_pwr]
@[simp] theorem State.raiseBit_kln (s : State) (f : Fld) (i : Nat) : (s.raiseBit f i).kln = s.kln := by simp only [State.raiseBit, State.mark_kln, State.setBit_kln]
@[simp] theorem State.raiseBit_grids (s : State) (f : Fld) (i : Nat) : (s.raiseBit f i).grids = s.grids := by simp only [State.raiseBit, State.mark_grids, State.setBit_grids]
@[simp] theorem State.raiseBit_prt (s : State) (f : Fld) (i : Nat) : (s.raiseBit f i).prt = s.prt := by simp only [State.raiseBit, State.mark_prt, State.setBit_prt]
@[simp] theorem State.raiseBit_dio (s : State) (f : Fld) (i : Nat) : (s.raiseBit f i).dio = s.dio := by simp only [State.raiseBit, State.mark_dio, State.setBit_dio]
@[simp] theorem State.raiseBit_ao (s : State) (f : Fld) (i : Nat) : (s.raiseBit f i).ao = s.ao := by simp only [State.raiseBit, State.mark_ao, State.setBit_ao]
@[simp] theorem State.raiseBit_afe (s : State) (f : Fld) (i : Nat) : (s.raiseBit f i).afe = s.afe := by simp only [State.raiseBit, State.mark_afe, State.setBit_afe]
@[simp] theorem State.raiseBit_flt (s : State) (f : Fld) (i : Nat) : (s.raiseBit f i).flt = s.flt := by simp only [State.raiseBit, State.mark_flt, State.setBit_flt]
@[simp] theorem State.raiseBit_streams (s : State) (f : Fld) (i : Nat) : (s.raiseBit f i).streams = s.streams := by simp only [State.raiseBit, State.mark_streams, State.setBit_streams]
@[simp] theorem State.raiseBit_hkc (s : State) (f : Fld) (i : Nat) : (s.raiseBit f i).hkc = s.hkc := by simp only [State.raiseBit, State.mark_hkc, State.setBit_hkc]
@[simp] theorem State.raiseBit_acq (s : State) (f : Fld) (i : Nat) : (s.raiseBit f i).acq = s.acq := by simp only [State.raiseBit, State.mark_acq, State.setBit_acq]
@[simp] theorem State.raiseBit_aud (s : State) (f : Fld) (i : Nat) : (s.raiseBit f i).aud = s.aud := by simp only [State.raiseBit, State.mark_aud, State.setBit_aud]
@[simp] theorem State.raiseBit_mtr (s : State) (f : Fld) (i : Nat) : (s.raiseBit f i).mtr = s.mtr := by simp only [State.raiseBit, State.mark_mtr, State.setBit_mtr]
@[simp] theorem State.raiseBit_blk (s : State) (f : Fld) (i : Nat) : (s.raiseBit f i).blk = s.blk := by simp only [State.raiseBit, State.mark_blk, State.setBit_blk]
@[simp] theorem State.raiseBit_yul (s : State) (f : Fld) (i : Nat) : (s.raiseBit f i).yul = s.yul := by simp only [State.raiseBit, State.mark_yul, State.setBit_yul]
@[simp] theorem State.raiseBit_eth (s : State) (f : Fld) (i : Nat) : (s.raiseBit f i).eth = s.eth := by simp only [State.raiseBit, State.mark_eth, State.setBit_eth]
@[simp] theorem State.raiseBit_wyt (s : State) (f : Fld) (i : Nat) : (s.raiseBit f i).wyt = s.wyt := by simp only [State.raiseBit, State.mark_wyt, State.setBit_wyt]
@[simp] theorem State.raiseBit_tx (s : State) (f : Fld) (i : Nat) : (s.raiseBit f i).tx = s.tx := by simp only [State.raiseBit, State.mark_tx, State.setBit_tx]
@[simp] theorem State.raiseBit_freeCtr (s : State) (f : Fld) (i : Nat) : (s.raiseBit f i).freeCtr = s.freeCtr := by simp only [State.raiseBit, State.mark_freeCtr, State.setBit_freeCtr]
@[simp] theorem State.raiseBit_pending (s : State) (f : Fld) (i : Nat) : (s.raiseBit f i).pending = s.pending := by simp only [State.raiseBit, State.mark_pending, State.setBit_pending]
@[simp] theorem State.tally_variant (s : State) (f : Fld) (v : Nat) : (s.tally f v).variant = s.variant := by simp only [State.tally, State.mark_variant, State.setF_variant]
@[simp] theorem State.tally_dram (s : State) (f : Fld) (v : Nat) : (s.tally f v).dram = s.dram := by simp only [State.tally, State.mark_dram, State.setF_dram]
@[simp] theorem State.tally_tm (s : State) (f : Fld) (v : Nat) : (s.tally f v).tm = s.tm := by simp only [State.tally, State.mark_tm, State.setF_tm]
@[simp] theorem State.tally_tbu (s : State) (f : Fld) (v : Nat) : (s.tally f v).tbu = s.tbu := by simp only [State.tally, State.mark_tbu, State.setF_tbu]
@[simp] theorem State.tally_ang (s : State) (f : Fld) (v : Nat) : (s.tally f v).ang = s.ang := by simp only [State.tally, State.mark_ang, State.setF_ang]
@[simp] theorem State.tally_evt (s : State) (f : Fld) (v : Nat) : (s.tally f v).evt = s.evt := by simp only [State.tally, State.mark_evt, State.setF_evt]
@[simp] theorem State.tally_crs (s : State) (f : Fld) (v : Nat) : (s.tally f v).crs = s.crs := by simp only [State.tally, State.mark_crs, State.setF_crs]
@[simp] theorem State.tally_pwr (s : State) (f : Fld) (v : Nat) : (s.tally f v).pwr = s.pwr := by simp only [State.tally, State.mark_pwr, State.setF_pwr]
@[simp] theorem State.tally_kln (s : State) (f : Fld) (v : Nat) : (s.tally f v).kln = s.kln := by simp only [State.tally, State.mark_kln, State.setF_kln]
@[simp] theorem State.tally_grids (s : State) (f : Fld) (v : Nat) : (s.tally f v).grids = s.grids := by simp only [State.tally, State.mark_grids, State.setF_grids]
@[simp] theorem State.tally_prt (s : State) (f : Fld) (v : Nat) : (s.tally f v).prt = s.prt := by simp only [State.tally, State.mark_prt, State.setF_prt]
@[simp] theorem State.tally_dio (s : State) (f : Fld) (v : Nat) : (s.tally f v).dio = s.dio := by simp only [State.tally, State.mark_dio, State.setF_dio]
@[simp] theorem State.tally_ao (s : State) (f : Fld) (v : Nat) : (s.tally f v).ao = s.ao := by simp only [State.tally, State.mark_ao, State.setF_ao]
@[simp] theorem State.tally_afe (s : State) (f : Fld) (v : Nat) : (s.tally f v).afe = s.afe := by simp only [State.tally, State.mark_afe, State.setF_afe]
@[simp] theorem State.tally_flt (s : State) (f : Fld) (v : Nat) : (s.tally f v).flt = s.flt := by simp only [State.tally, State.mark_flt, State.setF_flt]
@[simp] theorem State.tally_streams (s : State) (f : Fld) (v : Nat) : (s.tally f v).streams = s.streams := by simp only [State.tally, State.mark_streams, State.setF_streams]
@[simp] theorem State.tally_hkc (s : State) (f : Fld) (v : Nat) : (s.tally f v).hkc = s.hkc := by simp only [State.tally, State.mark_hkc, State.setF_hkc]
@[simp] theorem State.tally_acq (s : State) (f : Fld) (v : Nat) : (s.tally f v).acq = s.acq := by simp only [State.tally, State.mark_acq, State.setF_acq]
@[simp] theorem State.tally_aud (s : State) (f : Fld) (v : Nat) : (s.tally f v).aud = s.aud := by simp only [State.tally, State.mark_aud, State.setF_aud]
@[simp] theorem State.tally_mtr (s : State) (f : Fld) (v : Nat) : (s.tally f v).mtr = s.mtr := by simp only [State.tally, State.mark_mtr, State.setF_mtr]
@[simp] theorem State.tally_blk (s : State) (f : Fld) (v : Nat) : (s.tally f v).blk = s.blk := by simp only [State.tally, State.mark_blk, State.setF_blk]
@[simp] theorem State.tally_yul (s : State) (f : Fld) (v : Nat) : (s.tally f v).yul = s.yul := by simp only [State.tally, State.mark_yul, State.setF_yul]
@[simp] theorem State.tally_eth (s : State) (f : Fld) (v : Nat) : (s.tally f v).eth = s.eth := by simp only [State.tally, State.mark_eth, State.setF_eth]
@[simp] theorem State.tally_wyt (s : State) (f : Fld) (v : Nat) : (s.tally f v).wyt = s.wyt := by simp only [State.tally, State.mark_wyt, State.setF_wyt]
@[simp] theorem State.tally_tx (s : State) (f : Fld) (v : Nat) : (s.tally f v).tx = s.tx := by simp only [State.tally, State.mark_tx, State.setF_tx]
@[simp] theorem State.tally_freeCtr (s : State) (f : Fld) (v : Nat) : (s.tally f v).freeCtr = s.freeCtr := by simp only [State.tally, State.mark_freeCtr, State.setF_freeCtr]
@[simp] theorem State.tally_pending (s : State) (f : Fld) (v : Nat) : (s.tally f v).pending = s.pending := by simp only [State.tally, State.mark_pending, State.setF_pending]
@[simp] theorem State.count_variant (s : State) (f : Fld) (n : Nat) : (s.count f n).variant = s.variant := by simp only [State.count, State.tally_variant]
@[simp] theorem State.count_dram (s : State) (f : Fld) (n : Nat) : (s.count f n).dram = s.dram := by simp only [State.count, State.tally_dram]
@[simp] theorem State.count_tm (s : State) (f : Fld) (n : Nat) : (s.count f n).tm = s.tm := by simp only [State.count, State.tally_tm]
@[simp] theorem State.count_tbu (s : State) (f : Fld) (n : Nat) : (s.count f n).tbu = s.tbu := by simp only [State.count, State.tally_tbu]
@[simp] theorem State.count_ang (s : State) (f : Fld) (n : Nat) : (s.count f n).ang = s.ang := by simp only [State.count, State.tally_ang]
@[simp] theorem State.count_evt (s : State) (f : Fld) (n : Nat) : (s.count f n).evt = s.evt := by simp only [State.count, State.tally_evt]
@[simp] theorem State.count_crs (s : State) (f : Fld) (n : Nat) : (s.count f n).crs = s.crs := by simp only [State.count, State.tally_crs]
@[simp] theorem State.count_pwr (s : State) (f : Fld) (n : Nat) : (s.count f n).pwr = s.pwr := by simp only [State.count, State.tally_pwr]
@[simp] theorem State.count_kln (s : State) (f : Fld) (n : Nat) : (s.count f n).kln = s.kln := by simp only [State.count, State.tally_kln]
@[simp] theorem State.count_grids (s : State) (f : Fld) (n : Nat) : (s.count f n).grids = s.grids := by simp only [State.count, State.tally_grids]
@[simp] theorem State.count_prt (s : State) (f : Fld) (n : Nat) : (s.count f n).prt = s.prt := by simp only [State.count, State.tally_prt]
@[simp] theorem State.count_dio (s : State) (f : Fld) (n : Nat) : (s.count f n).dio = s.dio := by simp only [State.count, State.tally_dio]
@[simp] theorem State.count_ao (s : State) (f : Fld) (n : Nat) : (s.count f n).ao = s.ao := by simp only [State.count, State.tally_ao]
@[simp] theorem State.count_afe (s : State) (f : Fld) (n : Nat) : (s.count f n).afe = s.afe := by simp only [State.count, State.tally_afe]
@[simp] theorem State.count_flt (s : State) (f : Fld) (n : Nat) : (s.count f n).flt = s.flt := by simp only [State.count, State.tally_flt]
@[simp] theorem State.count_streams (s : State) (f : Fld) (n : Nat) : (s.count f n).streams = s.streams := by simp only [State.count, State.tally_streams]
@[simp] theorem State.count_hkc (s : State) (f : Fld) (n : Nat) : (s.count f n).hkc = s.hkc := by simp only [State.count, State.tally_hkc]
@[simp] theorem State.count_acq (s : State) (f : Fld) (n : Nat) : (s.count f n).acq = s.acq := by simp only [State.count, State.tally_acq]
@[simp] theorem State.count_aud (s : State) (f : Fld) (n : Nat) : (s.count f n).aud = s.aud := by simp only [State.count, State.tally_aud]
@[simp] theorem State.count_mtr (s : State) (f : Fld) (n : Nat) : (s.count f n).mtr = s.mtr := by simp only [State.count, State.tally_mtr]
@[simp] theorem State.count_blk (s : State) (f : Fld) (n : Nat) : (s.count f n).blk = s.blk := by simp only [State.count, State.tally_blk]
@[simp] theorem State.count_yul (s : State) (f : Fld) (n : Nat) : (s.count f n).yul = s.yul := by simp only [State.count, State.tally_yul]
@[simp] theorem State.count_eth (s : State) (f : Fld) (n : Nat) : (s.count f n).eth = s.eth := by simp only [State.count, State.tally_eth]
@[simp] theorem State.count_wyt (s : State) (f : Fld) (n : Nat) : (s.count f n).wyt = s.wyt := by simp only [State.count, State.tally_wyt]
@[simp] theorem State.count_tx (s : State) (f : Fld) (n : Nat) : (s.count f n).tx = s.tx := by simp only [State.count, State.tally_tx]
@[simp] theorem State.count_freeCtr (s : State) (f : Fld) (n : Nat) : (s.count f n).freeCtr = s.freeCtr := by simp only [State.count, State.tally_freeCtr]
@[simp] theorem State.count_pending (s : State) (f : Fld) (n : Nat) : (s.count f n).pending = s.pending := by simp only [State.count, State.tally_pending]
@[simp] theorem State.rise_variant (s : State) (w : Bool) (i : Nat) : (s.rise w i).variant = s.variant := by unfold State.rise; split <;> simp only [State.pendVec_variant]
@[simp] theorem State.rise_regs (s : State) (w : Bool) (i : Nat) : (s.rise w i).regs = s.regs := by unfold State.rise; split <;> simp only [State.pendVec_regs]
@[simp] theorem State.rise_dram (s : State) (w : Bool) (i : Nat) : (s.rise w i).dram = s.dram := by unfold State.rise; split <;> simp only [State.pendVec_dram]
@[simp] theorem State.rise_tm (s : State) (w : Bool) (i : Nat) : (s.rise w i).tm = s.tm := by unfold State.rise; split <;> simp only [State.pendVec_tm]
@[simp] theorem State.rise_tbu (s : State) (w : Bool) (i : Nat) : (s.rise w i).tbu = s.tbu := by unfold State.rise; split <;> simp only [State.pendVec_tbu]
@[simp] theorem State.rise_ang (s : State) (w : Bool) (i : Nat) : (s.rise w i).ang = s.ang := by unfold State.rise; split <;> simp only [State.pendVec_ang]
@[simp] theorem State.rise_evt (s : State) (w : Bool) (i : Nat) : (s.rise w i).evt = s.evt := by unfold State.rise; split <;> simp only [State.pendVec_evt]
@[simp] theorem State.rise_crs (s : State) (w : Bool) (i : Nat) : (s.rise w i).crs = s.crs := by unfold State.rise; split <;> simp only [State.pendVec_crs]
@[simp] theorem State.rise_pwr (s : State) (w : Bool) (i : Nat) : (s.rise w i).pwr = s.pwr := by unfold State.rise; split <;> simp only [State.pendVec_pwr]
@[simp] theorem State.rise_kln (s : State) (w : Bool) (i : Nat) : (s.rise w i).kln = s.kln := by unfold State.rise; split <;> simp only [State.pendVec_kln]
@[simp] theorem State.rise_grids (s : State) (w : Bool) (i : Nat) : (s.rise w i).grids = s.grids := by unfold State.rise; split <;> simp only [State.pendVec_grids]
@[simp] theorem State.rise_prt (s : State) (w : Bool) (i : Nat) : (s.rise w i).prt = s.prt := by unfold State.rise; split <;> simp only [State.pendVec_prt]
@[simp] theorem State.rise_dio (s : State) (w : Bool) (i : Nat) : (s.rise w i).dio = s.dio := by unfold State.rise; split <;> simp only [State.pendVec_dio]
@[simp] theorem State.rise_ao (s : State) (w : Bool) (i : Nat) : (s.rise w i).ao = s.ao := by unfold State.rise; split <;> simp only [State.pendVec_ao]
@[simp] theorem State.rise_afe (s : State) (w : Bool) (i : Nat) : (s.rise w i).afe = s.afe := by unfold State.rise; split <;> simp only [State.pendVec_afe]
@[simp] theorem State.rise_flt (s : State) (w : Bool) (i : Nat) : (s.rise w i).flt = s.flt := by unfold State.rise; split <;> simp only [State.pendVec_flt]
@[simp] theorem State.rise_streams (s : State) (w : Bool) (i : Nat) : (s.rise w i).streams = s.streams := by unfold State.rise; split <;> simp only [State.pendVec_streams]
@[simp] theorem State.rise_hkc (s : State) (w : Bool) (i : Nat) : (s.rise w i).hkc = s.hkc := by unfold State.rise; split <;> simp only [State.pendVec_hkc]
@[simp] theorem State.rise_acq (s : State) (w : Bool) (i : Nat) : (s.rise w i).acq = s.acq := by unfold State.rise; split <;> simp only [State.pendVec_acq]
@[simp] theorem State.rise_aud (s : State) (w : Bool) (i : Nat) : (s.rise w i).aud = s.aud := by unfold State.rise; split <;> simp only [State.pendVec_aud]
@[simp] theorem State.rise_mtr (s : State) (w : Bool) (i : Nat) : (s.rise w i).mtr = s.mtr := by unfold State.rise; split <;> simp only [State.pendVec_mtr]
@[simp] theorem State.rise_blk (s : State) (w : Bool) (i : Nat) : (s.rise w i).blk = s.blk := by unfold State.rise; split <;> simp only [State.pendVec_blk]
@[simp] theorem State.rise_yul (s : State) (w : Bool) (i : Nat) : (s.rise w i).yul = s.yul := by unfold State.rise; split <;> simp only [State.pendVec_yul]
@[simp] theorem State.rise_eth (s : State) (w : Bool) (i : Nat) : (s.rise w i).eth = s.eth := by unfold State.rise; split <;> simp only [State.pendVec_eth]
@[simp] theorem State.rise_wyt (s : State) (w : Bool) (i : Nat) : (s.rise w i).wyt = s.wyt := by unfold State.rise; split <;> simp only [State.pendVec_wyt]
@[simp] theorem State.rise_tx (s : State) (w : Bool) (i : Nat) : (s.rise w i).tx = s.tx := by unfold State.rise; split <;> simp only [State.pendVec_tx]
@[simp] theorem State.rise_freeCtr (s : State) (w : Bool) (i : Nat) : (s.rise w i).freeCtr = s.freeCtr := by unfold State.rise; split <;> simp only [State.pendVec_freeCtr]
@[simp] theorem State.rise_pending (s : State) (w : Bool) (i : Nat) : (s.rise w i).pending = s.pending := by unfold State.rise; split <;> simp only [State.pendVec_pending]
@[simp] theorem State.irq_variant (s : State) (b : Blk) (i : Nat) : (s.irq b i).variant = s.variant := by simp only [State.irq, State.rise_variant, State.raiseBit_variant]
@[simp] theorem State.irq_dram (s : State) (b : Blk) (i : Nat) : (s.irq b i).dram = s.dram := by simp only [State.irq, State.rise_dram, State.raiseBit_dram]
@[simp] theorem State.irq_tm (s : State) (b : Blk) (i : Nat) : (s.irq b i).tm = s.tm := by simp only [State.irq, State.rise_tm, State.raiseBit_tm]
@[simp] theorem State.irq_tbu (s : State) (b : Blk) (i : Nat) : (s.irq b i).tbu = s.tbu := by simp only [State.irq, State.rise_tbu, State.raiseBit_tbu]
@[simp] theorem State.irq_ang (s : State) (b : Blk) (i : Nat) : (s.irq b i).ang = s.ang := by simp only [State.irq, State.rise_ang, State.raiseBit_ang]
@[simp] theorem State.irq_evt (s : State) (b : Blk) (i : Nat) : (s.irq b i).evt = s.evt := by simp only [State.irq, State.rise_evt, State.raiseBit_evt]
@[simp] theorem State.irq_crs (s : State) (b : Blk) (i : Nat) : (s.irq b i).crs = s.crs := by simp only [State.irq, State.rise_crs, State.raiseBit_crs]
@[simp] theorem State.irq_pwr (s : State) (b : Blk) (i : Nat) : (s.irq b i).pwr = s.pwr := by simp only [State.irq, State.rise_pwr, State.raiseBit_pwr]
@[simp] theorem State.irq_kln (s : State) (b : Blk) (i : Nat) : (s.irq b i).kln = s.kln := by simp only [State.irq, State.rise_kln, State.raiseBit_kln]
@[simp] theorem State.irq_grids (s : State) (b : Blk) (i : Nat) : (s.irq b i).grids = s.grids := by simp only [State.irq, State.rise_grids, State.raiseBit_grids]
@[simp] theorem State.irq_prt (s : State) (b : Blk) (i : Nat) : (s.irq b i).prt = s.prt := by simp only [State.irq, State.rise_prt, State.raiseBit_prt]
@[simp] theorem State.irq_dio (s : State) (b : Blk) (i : Nat) : (s.irq b i).dio = s.dio := by simp only [State.irq, State.rise_dio, State.raiseBit_dio]
@[simp] theorem State.irq_ao (s : State) (b : Blk) (i : Nat) : (s.irq b i).ao = s.ao := by simp only [State.irq, State.rise_ao, State.raiseBit_ao]
@[simp] theorem State.irq_afe (s : State) (b : Blk) (i : Nat) : (s.irq b i).afe = s.afe := by simp only [State.irq, State.rise_afe, State.raiseBit_afe]
@[simp] theorem State.irq_flt (s : State) (b : Blk) (i : Nat) : (s.irq b i).flt = s.flt := by simp only [State.irq, State.rise_flt, State.raiseBit_flt]
@[simp] theorem State.irq_streams (s : State) (b : Blk) (i : Nat) : (s.irq b i).streams = s.streams := by simp only [State.irq, State.rise_streams, State.raiseBit_streams]
@[simp] theorem State.irq_hkc (s : State) (b : Blk) (i : Nat) : (s.irq b i).hkc = s.hkc := by simp only [State.irq, State.rise_hkc, State.raiseBit_hkc]
@[simp] theorem State.irq_acq (s : State) (b : Blk) (i : Nat) : (s.irq b i).acq = s.acq := by simp only [State.irq, State.rise_acq, State.raiseBit_acq]
@[simp] theorem State.irq_aud (s : State) (b : Blk) (i : Nat) : (s.irq b i).aud = s.aud := by simp only [State.irq, State.rise_aud, State.raiseBit_aud]
@[simp] theorem State.irq_mtr (s : State) (b : Blk) (i : Nat) : (s.irq b i).mtr = s.mtr := by simp only [State.irq, State.rise_mtr, State.raiseBit_mtr]
@[simp] theorem State.irq_blk (s : State) (b : Blk) (i : Nat) : (s.irq b i).blk = s.blk := by simp only [State.irq, State.rise_blk, State.raiseBit_blk]
@[simp] theorem State.irq_yul (s : State) (b : Blk) (i : Nat) : (s.irq b i).yul = s.yul := by simp only [State.irq, State.rise_yul, State.raiseBit_yul]
@[simp] theorem State.irq_eth (s : State) (b : Blk) (i : Nat) : (s.irq b i).eth = s.eth := by simp only [State.irq, State.rise_eth, State.raiseBit_eth]
@[simp] theorem State.irq_wyt (s : State) (b : Blk) (i : Nat) : (s.irq b i).wyt = s.wyt := by simp only [State.irq, State.rise_wyt, State.raiseBit_wyt]
@[simp] theorem State.irq_tx (s : State) (b : Blk) (i : Nat) : (s.irq b i).tx = s.tx := by simp only [State.irq, State.rise_tx, State.raiseBit_tx]
@[simp] theorem State.irq_freeCtr (s : State) (b : Blk) (i : Nat) : (s.irq b i).freeCtr = s.freeCtr := by simp only [State.irq, State.rise_freeCtr, State.raiseBit_freeCtr]
@[simp] theorem State.irq_pending (s : State) (b : Blk) (i : Nat) : (s.irq b i).pending = s.pending := by simp only [State.irq, State.rise_pending, State.raiseBit_pending]
@[simp] theorem State.dmaIrq_variant (s : State) (c : Nat) (f : Fld) : (s.dmaIrq c f).variant = s.variant := by simp only [State.dmaIrq, State.rise_variant, State.raise_variant]
@[simp] theorem State.dmaIrq_dram (s : State) (c : Nat) (f : Fld) : (s.dmaIrq c f).dram = s.dram := by simp only [State.dmaIrq, State.rise_dram, State.raise_dram]
@[simp] theorem State.dmaIrq_tm (s : State) (c : Nat) (f : Fld) : (s.dmaIrq c f).tm = s.tm := by simp only [State.dmaIrq, State.rise_tm, State.raise_tm]
@[simp] theorem State.dmaIrq_tbu (s : State) (c : Nat) (f : Fld) : (s.dmaIrq c f).tbu = s.tbu := by simp only [State.dmaIrq, State.rise_tbu, State.raise_tbu]
@[simp] theorem State.dmaIrq_ang (s : State) (c : Nat) (f : Fld) : (s.dmaIrq c f).ang = s.ang := by simp only [State.dmaIrq, State.rise_ang, State.raise_ang]
@[simp] theorem State.dmaIrq_evt (s : State) (c : Nat) (f : Fld) : (s.dmaIrq c f).evt = s.evt := by simp only [State.dmaIrq, State.rise_evt, State.raise_evt]
@[simp] theorem State.dmaIrq_crs (s : State) (c : Nat) (f : Fld) : (s.dmaIrq c f).crs = s.crs := by simp only [State.dmaIrq, State.rise_crs, State.raise_crs]
@[simp] theorem State.dmaIrq_pwr (s : State) (c : Nat) (f : Fld) : (s.dmaIrq c f).pwr = s.pwr := by simp only [State.dmaIrq, State.rise_pwr, State.raise_pwr]
@[simp] theorem State.dmaIrq_kln (s : State) (c : Nat) (f : Fld) : (s.dmaIrq c f).kln = s.kln := by simp only [State.dmaIrq, State.rise_kln, State.raise_kln]
@[simp] theorem State.dmaIrq_grids (s : State) (c : Nat) (f : Fld) : (s.dmaIrq c f).grids = s.grids := by simp only [State.dmaIrq, State.rise_grids, State.raise_grids]
@[simp] theorem State.dmaIrq_prt (s : State) (c : Nat) (f : Fld) : (s.dmaIrq c f).prt = s.prt := by simp only [State.dmaIrq, State.rise_prt, State.raise_prt]
@[simp] theorem State.dmaIrq_dio (s : State) (c : Nat) (f : Fld) : (s.dmaIrq c f).dio = s.dio := by simp only [State.dmaIrq, State.rise_dio, State.raise_dio]
@[simp] theorem State.dmaIrq_ao (s : State) (c : Nat) (f : Fld) : (s.dmaIrq c f).ao = s.ao := by simp only [State.dmaIrq, State.rise_ao, State.raise_ao]
@[simp] theorem State.dmaIrq_afe (s : State) (c : Nat) (f : Fld) : (s.dmaIrq c f).afe = s.afe := by simp only [State.dmaIrq, State.rise_afe, State.raise_afe]
@[simp] theorem State.dmaIrq_flt (s : State) (c : Nat) (f : Fld) : (s.dmaIrq c f).flt = s.flt := by simp only [State.dmaIrq, State.rise_flt, State.raise_flt]
@[simp] theorem State.dmaIrq_streams (s : State) (c : Nat) (f : Fld) : (s.dmaIrq c f).streams = s.streams := by simp only [State.dmaIrq, State.rise_streams, State.raise_streams]
@[simp] theorem State.dmaIrq_hkc (s : State) (c : Nat) (f : Fld) : (s.dmaIrq c f).hkc = s.hkc := by simp only [State.dmaIrq, State.rise_hkc, State.raise_hkc]
@[simp] theorem State.dmaIrq_acq (s : State) (c : Nat) (f : Fld) : (s.dmaIrq c f).acq = s.acq := by simp only [State.dmaIrq, State.rise_acq, State.raise_acq]
@[simp] theorem State.dmaIrq_aud (s : State) (c : Nat) (f : Fld) : (s.dmaIrq c f).aud = s.aud := by simp only [State.dmaIrq, State.rise_aud, State.raise_aud]
@[simp] theorem State.dmaIrq_mtr (s : State) (c : Nat) (f : Fld) : (s.dmaIrq c f).mtr = s.mtr := by simp only [State.dmaIrq, State.rise_mtr, State.raise_mtr]
@[simp] theorem State.dmaIrq_blk (s : State) (c : Nat) (f : Fld) : (s.dmaIrq c f).blk = s.blk := by simp only [State.dmaIrq, State.rise_blk, State.raise_blk]
@[simp] theorem State.dmaIrq_yul (s : State) (c : Nat) (f : Fld) : (s.dmaIrq c f).yul = s.yul := by simp only [State.dmaIrq, State.rise_yul, State.raise_yul]
@[simp] theorem State.dmaIrq_eth (s : State) (c : Nat) (f : Fld) : (s.dmaIrq c f).eth = s.eth := by simp only [State.dmaIrq, State.rise_eth, State.raise_eth]
@[simp] theorem State.dmaIrq_wyt (s : State) (c : Nat) (f : Fld) : (s.dmaIrq c f).wyt = s.wyt := by simp only [State.dmaIrq, State.rise_wyt, State.raise_wyt]
@[simp] theorem State.dmaIrq_tx (s : State) (c : Nat) (f : Fld) : (s.dmaIrq c f).tx = s.tx := by simp only [State.dmaIrq, State.rise_tx, State.raise_tx]
@[simp] theorem State.dmaIrq_freeCtr (s : State) (c : Nat) (f : Fld) : (s.dmaIrq c f).freeCtr = s.freeCtr := by simp only [State.dmaIrq, State.rise_freeCtr, State.raise_freeCtr]
@[simp] theorem State.dmaIrq_pending (s : State) (c : Nat) (f : Fld) : (s.dmaIrq c f).pending = s.pending := by simp only [State.dmaIrq, State.rise_pending, State.raise_pending]
@[simp] theorem State.emitAt_variant (s : State) (a b c d e f g h : Nat) : (s.emitAt a b c d e f g h).variant = s.variant := by unfold State.emitAt; split <;> simp only [State.raise_variant, State.count_variant]
@[simp] theorem State.emitAt_dram (s : State) (a b c d e f g h : Nat) : (s.emitAt a b c d e f g h).dram = s.dram := by unfold State.emitAt; split <;> simp only [State.raise_dram, State.count_dram]
@[simp] theorem State.emitAt_tm (s : State) (a b c d e f g h : Nat) : (s.emitAt a b c d e f g h).tm = s.tm := by unfold State.emitAt; split <;> simp only [State.raise_tm, State.count_tm]
@[simp] theorem State.emitAt_tbu (s : State) (a b c d e f g h : Nat) : (s.emitAt a b c d e f g h).tbu = s.tbu := by unfold State.emitAt; split <;> simp only [State.raise_tbu, State.count_tbu]
@[simp] theorem State.emitAt_ang (s : State) (a b c d e f g h : Nat) : (s.emitAt a b c d e f g h).ang = s.ang := by unfold State.emitAt; split <;> simp only [State.raise_ang, State.count_ang]
@[simp] theorem State.emitAt_crs (s : State) (a b c d e f g h : Nat) : (s.emitAt a b c d e f g h).crs = s.crs := by unfold State.emitAt; split <;> simp only [State.raise_crs, State.count_crs]
@[simp] theorem State.emitAt_pwr (s : State) (a b c d e f g h : Nat) : (s.emitAt a b c d e f g h).pwr = s.pwr := by unfold State.emitAt; split <;> simp only [State.raise_pwr, State.count_pwr]
@[simp] theorem State.emitAt_kln (s : State) (a b c d e f g h : Nat) : (s.emitAt a b c d e f g h).kln = s.kln := by unfold State.emitAt; split <;> simp only [State.raise_kln, State.count_kln]
@[simp] theorem State.emitAt_grids (s : State) (a b c d e f g h : Nat) : (s.emitAt a b c d e f g h).grids = s.grids := by unfold State.emitAt; split <;> simp only [State.raise_grids, State.count_grids]
@[simp] theorem State.emitAt_prt (s : State) (a b c d e f g h : Nat) : (s.emitAt a b c d e f g h).prt = s.prt := by unfold State.emitAt; split <;> simp only [State.raise_prt, State.count_prt]
@[simp] theorem State.emitAt_dio (s : State) (a b c d e f g h : Nat) : (s.emitAt a b c d e f g h).dio = s.dio := by unfold State.emitAt; split <;> simp only [State.raise_dio, State.count_dio]
@[simp] theorem State.emitAt_ao (s : State) (a b c d e f g h : Nat) : (s.emitAt a b c d e f g h).ao = s.ao := by unfold State.emitAt; split <;> simp only [State.raise_ao, State.count_ao]
@[simp] theorem State.emitAt_afe (s : State) (a b c d e f g h : Nat) : (s.emitAt a b c d e f g h).afe = s.afe := by unfold State.emitAt; split <;> simp only [State.raise_afe, State.count_afe]
@[simp] theorem State.emitAt_flt (s : State) (a b c d e f g h : Nat) : (s.emitAt a b c d e f g h).flt = s.flt := by unfold State.emitAt; split <;> simp only [State.raise_flt, State.count_flt]
@[simp] theorem State.emitAt_streams (s : State) (a b c d e f g h : Nat) : (s.emitAt a b c d e f g h).streams = s.streams := by unfold State.emitAt; split <;> simp only [State.raise_streams, State.count_streams]
@[simp] theorem State.emitAt_hkc (s : State) (a b c d e f g h : Nat) : (s.emitAt a b c d e f g h).hkc = s.hkc := by unfold State.emitAt; split <;> simp only [State.raise_hkc, State.count_hkc]
@[simp] theorem State.emitAt_acq (s : State) (a b c d e f g h : Nat) : (s.emitAt a b c d e f g h).acq = s.acq := by unfold State.emitAt; split <;> simp only [State.raise_acq, State.count_acq]
@[simp] theorem State.emitAt_aud (s : State) (a b c d e f g h : Nat) : (s.emitAt a b c d e f g h).aud = s.aud := by unfold State.emitAt; split <;> simp only [State.raise_aud, State.count_aud]
@[simp] theorem State.emitAt_mtr (s : State) (a b c d e f g h : Nat) : (s.emitAt a b c d e f g h).mtr = s.mtr := by unfold State.emitAt; split <;> simp only [State.raise_mtr, State.count_mtr]
@[simp] theorem State.emitAt_blk (s : State) (a b c d e f g h : Nat) : (s.emitAt a b c d e f g h).blk = s.blk := by unfold State.emitAt; split <;> simp only [State.raise_blk, State.count_blk]
@[simp] theorem State.emitAt_yul (s : State) (a b c d e f g h : Nat) : (s.emitAt a b c d e f g h).yul = s.yul := by unfold State.emitAt; split <;> simp only [State.raise_yul, State.count_yul]
@[simp] theorem State.emitAt_eth (s : State) (a b c d e f g h : Nat) : (s.emitAt a b c d e f g h).eth = s.eth := by unfold State.emitAt; split <;> simp only [State.raise_eth, State.count_eth]
@[simp] theorem State.emitAt_wyt (s : State) (a b c d e f g h : Nat) : (s.emitAt a b c d e f g h).wyt = s.wyt := by unfold State.emitAt; split <;> simp only [State.raise_wyt, State.count_wyt]
@[simp] theorem State.emitAt_tx (s : State) (a b c d e f g h : Nat) : (s.emitAt a b c d e f g h).tx = s.tx := by unfold State.emitAt; split <;> simp only [State.raise_tx, State.count_tx]
@[simp] theorem State.emitAt_freeCtr (s : State) (a b c d e f g h : Nat) : (s.emitAt a b c d e f g h).freeCtr = s.freeCtr := by unfold State.emitAt; split <;> simp only [State.raise_freeCtr, State.count_freeCtr]
@[simp] theorem State.emitAt_pending (s : State) (a b c d e f g h : Nat) : (s.emitAt a b c d e f g h).pending = s.pending := by unfold State.emitAt; split <;> simp only [State.raise_pending, State.count_pending]
@[simp] theorem State.emit_variant (s : State) (a b c d : Nat) : (s.emit a b c d).variant = s.variant := by simp only [State.emit, State.emitAt_variant]
@[simp] theorem State.emit_dram (s : State) (a b c d : Nat) : (s.emit a b c d).dram = s.dram := by simp only [State.emit, State.emitAt_dram]
@[simp] theorem State.emit_tm (s : State) (a b c d : Nat) : (s.emit a b c d).tm = s.tm := by simp only [State.emit, State.emitAt_tm]
@[simp] theorem State.emit_tbu (s : State) (a b c d : Nat) : (s.emit a b c d).tbu = s.tbu := by simp only [State.emit, State.emitAt_tbu]
@[simp] theorem State.emit_ang (s : State) (a b c d : Nat) : (s.emit a b c d).ang = s.ang := by simp only [State.emit, State.emitAt_ang]
@[simp] theorem State.emit_crs (s : State) (a b c d : Nat) : (s.emit a b c d).crs = s.crs := by simp only [State.emit, State.emitAt_crs]
@[simp] theorem State.emit_pwr (s : State) (a b c d : Nat) : (s.emit a b c d).pwr = s.pwr := by simp only [State.emit, State.emitAt_pwr]
@[simp] theorem State.emit_kln (s : State) (a b c d : Nat) : (s.emit a b c d).kln = s.kln := by simp only [State.emit, State.emitAt_kln]
@[simp] theorem State.emit_grids (s : State) (a b c d : Nat) : (s.emit a b c d).grids = s.grids := by simp only [State.emit, State.emitAt_grids]
@[simp] theorem State.emit_prt (s : State) (a b c d : Nat) : (s.emit a b c d).prt = s.prt := by simp only [State.emit, State.emitAt_prt]
@[simp] theorem State.emit_dio (s : State) (a b c d : Nat) : (s.emit a b c d).dio = s.dio := by simp only [State.emit, State.emitAt_dio]
@[simp] theorem State.emit_ao (s : State) (a b c d : Nat) : (s.emit a b c d).ao = s.ao := by simp only [State.emit, State.emitAt_ao]
@[simp] theorem State.emit_afe (s : State) (a b c d : Nat) : (s.emit a b c d).afe = s.afe := by simp only [State.emit, State.emitAt_afe]
@[simp] theorem State.emit_flt (s : State) (a b c d : Nat) : (s.emit a b c d).flt = s.flt := by simp only [State.emit, State.emitAt_flt]
@[simp] theorem State.emit_streams (s : State) (a b c d : Nat) : (s.emit a b c d).streams = s.streams := by simp only [State.emit, State.emitAt_streams]
@[simp] theorem State.emit_hkc (s : State) (a b c d : Nat) : (s.emit a b c d).hkc = s.hkc := by simp only [State.emit, State.emitAt_hkc]
@[simp] theorem State.emit_acq (s : State) (a b c d : Nat) : (s.emit a b c d).acq = s.acq := by simp only [State.emit, State.emitAt_acq]
@[simp] theorem State.emit_aud (s : State) (a b c d : Nat) : (s.emit a b c d).aud = s.aud := by simp only [State.emit, State.emitAt_aud]
@[simp] theorem State.emit_mtr (s : State) (a b c d : Nat) : (s.emit a b c d).mtr = s.mtr := by simp only [State.emit, State.emitAt_mtr]
@[simp] theorem State.emit_blk (s : State) (a b c d : Nat) : (s.emit a b c d).blk = s.blk := by simp only [State.emit, State.emitAt_blk]
@[simp] theorem State.emit_yul (s : State) (a b c d : Nat) : (s.emit a b c d).yul = s.yul := by simp only [State.emit, State.emitAt_yul]
@[simp] theorem State.emit_eth (s : State) (a b c d : Nat) : (s.emit a b c d).eth = s.eth := by simp only [State.emit, State.emitAt_eth]
@[simp] theorem State.emit_wyt (s : State) (a b c d : Nat) : (s.emit a b c d).wyt = s.wyt := by simp only [State.emit, State.emitAt_wyt]
@[simp] theorem State.emit_tx (s : State) (a b c d : Nat) : (s.emit a b c d).tx = s.tx := by simp only [State.emit, State.emitAt_tx]
@[simp] theorem State.emit_freeCtr (s : State) (a b c d : Nat) : (s.emit a b c d).freeCtr = s.freeCtr := by simp only [State.emit, State.emitAt_freeCtr]
@[simp] theorem State.emit_pending (s : State) (a b c d : Nat) : (s.emit a b c d).pending = s.pending := by simp only [State.emit, State.emitAt_pending]
@[simp] theorem State.emitOpen_variant (s : State) (a b c : Nat) : (s.emitOpen a b c).variant = s.variant := by simp only [State.emitOpen, State.bump_variant, State.emit_variant]
@[simp] theorem State.emitOpen_dram (s : State) (a b c : Nat) : (s.emitOpen a b c).dram = s.dram := by simp only [State.emitOpen, State.bump_dram, State.emit_dram]
@[simp] theorem State.emitOpen_tm (s : State) (a b c : Nat) : (s.emitOpen a b c).tm = s.tm := by simp only [State.emitOpen, State.bump_tm, State.emit_tm]
@[simp] theorem State.emitOpen_tbu (s : State) (a b c : Nat) : (s.emitOpen a b c).tbu = s.tbu := by simp only [State.emitOpen, State.bump_tbu, State.emit_tbu]
@[simp] theorem State.emitOpen_ang (s : State) (a b c : Nat) : (s.emitOpen a b c).ang = s.ang := by simp only [State.emitOpen, State.bump_ang, State.emit_ang]
@[simp] theorem State.emitOpen_crs (s : State) (a b c : Nat) : (s.emitOpen a b c).crs = s.crs := by simp only [State.emitOpen, State.bump_crs, State.emit_crs]
@[simp] theorem State.emitOpen_pwr (s : State) (a b c : Nat) : (s.emitOpen a b c).pwr = s.pwr := by simp only [State.emitOpen, State.bump_pwr, State.emit_pwr]
@[simp] theorem State.emitOpen_kln (s : State) (a b c : Nat) : (s.emitOpen a b c).kln = s.kln := by simp only [State.emitOpen, State.bump_kln, State.emit_kln]
@[simp] theorem State.emitOpen_grids (s : State) (a b c : Nat) : (s.emitOpen a b c).grids = s.grids := by simp only [State.emitOpen, State.bump_grids, State.emit_grids]
@[simp] theorem State.emitOpen_prt (s : State) (a b c : Nat) : (s.emitOpen a b c).prt = s.prt := by simp only [State.emitOpen, State.bump_prt, State.emit_prt]
@[simp] theorem State.emitOpen_dio (s : State) (a b c : Nat) : (s.emitOpen a b c).dio = s.dio := by simp only [State.emitOpen, State.bump_dio, State.emit_dio]
@[simp] theorem State.emitOpen_ao (s : State) (a b c : Nat) : (s.emitOpen a b c).ao = s.ao := by simp only [State.emitOpen, State.bump_ao, State.emit_ao]
@[simp] theorem State.emitOpen_afe (s : State) (a b c : Nat) : (s.emitOpen a b c).afe = s.afe := by simp only [State.emitOpen, State.bump_afe, State.emit_afe]
@[simp] theorem State.emitOpen_flt (s : State) (a b c : Nat) : (s.emitOpen a b c).flt = s.flt := by simp only [State.emitOpen, State.bump_flt, State.emit_flt]
@[simp] theorem State.emitOpen_streams (s : State) (a b c : Nat) : (s.emitOpen a b c).streams = s.streams := by simp only [State.emitOpen, State.bump_streams, State.emit_streams]
@[simp] theorem State.emitOpen_hkc (s : State) (a b c : Nat) : (s.emitOpen a b c).hkc = s.hkc := by simp only [State.emitOpen, State.bump_hkc, State.emit_hkc]
@[simp] theorem State.emitOpen_acq (s : State) (a b c : Nat) : (s.emitOpen a b c).acq = s.acq := by simp only [State.emitOpen, State.bump_acq, State.emit_acq]
@[simp] theorem State.emitOpen_aud (s : State) (a b c : Nat) : (s.emitOpen a b c).aud = s.aud := by simp only [State.emitOpen, State.bump_aud, State.emit_aud]
@[simp] theorem State.emitOpen_mtr (s : State) (a b c : Nat) : (s.emitOpen a b c).mtr = s.mtr := by simp only [State.emitOpen, State.bump_mtr, State.emit_mtr]
@[simp] theorem State.emitOpen_blk (s : State) (a b c : Nat) : (s.emitOpen a b c).blk = s.blk := by simp only [State.emitOpen, State.bump_blk, State.emit_blk]
@[simp] theorem State.emitOpen_yul (s : State) (a b c : Nat) : (s.emitOpen a b c).yul = s.yul := by simp only [State.emitOpen, State.bump_yul, State.emit_yul]
@[simp] theorem State.emitOpen_eth (s : State) (a b c : Nat) : (s.emitOpen a b c).eth = s.eth := by simp only [State.emitOpen, State.bump_eth, State.emit_eth]
@[simp] theorem State.emitOpen_wyt (s : State) (a b c : Nat) : (s.emitOpen a b c).wyt = s.wyt := by simp only [State.emitOpen, State.bump_wyt, State.emit_wyt]
@[simp] theorem State.emitOpen_tx (s : State) (a b c : Nat) : (s.emitOpen a b c).tx = s.tx := by simp only [State.emitOpen, State.bump_tx, State.emit_tx]
@[simp] theorem State.emitOpen_pending (s : State) (a b c : Nat) : (s.emitOpen a b c).pending = s.pending := by simp only [State.emitOpen, State.bump_pending, State.emit_pending]

end Sys2Proof.Machine
end

