-- ==== Sys2Proof/Laws/Regs.lean ====
section
/-!
SUPPORT. Reading the register file after a write: the register written, the others, the field written, and the fields beside
it; and that every write keeps the register file's canonical form.
-/
namespace Sys2Proof.Machine

/-! ### Bits of a masked put -/

theorem add_eq_or_of_and_eq_zero (a b : Nat) (h : a &&& b = 0) : a + b = a ||| b := by
  have ha : a < 2 ^ (a + b + 1) := lt_of_lt_of_le (Nat.lt_two_pow_self) (Nat.pow_le_pow_right (by omega) (by omega))
  have hb : b < 2 ^ (a + b + 1) := lt_of_lt_of_le (Nat.lt_two_pow_self) (Nat.pow_le_pow_right (by omega) (by omega))
  have hs : a + b < 2 ^ (a + b + 1) := lt_of_lt_of_le (Nat.lt_two_pow_self) (Nat.pow_le_pow_right (by omega) (by omega))
  have ho : a ||| b < 2 ^ (a + b + 1) := Nat.or_lt_two_pow ha hb
  have := BitVec.add_eq_or_of_and_eq_zero (BitVec.ofNat (a + b + 1) a) (BitVec.ofNat (a + b + 1) b)
    (by rw [← BitVec.ofNat_and, h])
  rw [← BitVec.ofNat_or, ← BitVec.ofNat_add] at this
  have := congrArg BitVec.toNat this
  simpa [Nat.mod_eq_of_lt hs, Nat.mod_eq_of_lt ha, Nat.mod_eq_of_lt hb] using this

/-- Taking away bits that are all set clears just them. -/
theorem testBit_sub_of_and_eq (a b i : Nat) (h : b &&& a = b) : (a - b).testBit i = (a.testBit i && !b.testBit i) := by
  have key : (a ^^^ b) + b = a := by
    rw [add_eq_or_of_and_eq_zero]
    · apply Nat.eq_of_testBit_eq; intro j
      have := congrArg (Nat.testBit · j) h
      simp only [Nat.testBit_and] at this
      simp only [Nat.testBit_or, Nat.testBit_xor]
      cases ha : a.testBit j <;> cases hb : b.testBit j <;> simp_all
    · apply Nat.eq_of_testBit_eq; intro j
      have := congrArg (Nat.testBit · j) h
      simp only [Nat.testBit_and] at this
      simp only [Nat.testBit_and, Nat.testBit_xor, Nat.zero_testBit]
      cases ha : a.testBit j <;> cases hb : b.testBit j <;> simp_all
  have : a - b = a ^^^ b := by omega
  rw [this, Nat.testBit_xor]
  have := congrArg (Nat.testBit · i) h
  simp only [Nat.testBit_and] at this
  cases ha : a.testBit i <;> cases hb : b.testBit i <;> simp_all

/-- A masked put takes the mask's bits from the new number and the others from the old one. -/
theorem testBit_maskPut (o m n i : Nat) : (maskPut o m n).testBit i = if m.testBit i then n.testBit i else o.testBit i := by
  have h1 : ∀ j, (m - (n &&& m)).testBit j = (m.testBit j && !(n &&& m).testBit j) := fun j =>
    testBit_sub_of_and_eq m (n &&& m) j (by rw [Nat.and_assoc, Nat.and_self])
  have h2 : (m - (n &&& m)) &&& (o ||| m) = m - (n &&& m) := by
    apply Nat.eq_of_testBit_eq; intro j
    simp only [Nat.testBit_and, Nat.testBit_or, h1]
    cases m.testBit j <;> simp
  rw [maskPut, testBit_sub_of_and_eq _ _ _ h2, h1]
  simp only [Nat.testBit_or, Nat.testBit_and]
  cases m.testBit i <;> cases n.testBit i <;> simp

theorem maskPut_lt {o m n w : Nat} (ho : o < 2 ^ w) (hm : m < 2 ^ w) : maskPut o m n < 2 ^ w :=
  lt_of_le_of_lt (Nat.sub_le _ _) (Nat.or_lt_two_pow ho hm)

/-- Bit i of a bit field. -/
theorem testBit_bits (v hi lo i : Nat) : (bits v hi lo).testBit i = (decide (i < hi - lo + 1) && v.testBit (lo + i)) := by
  simp [bits, Nat.testBit_mod_two_pow, Nat.testBit_shiftRight]

/-- A bit field is smaller than its width allows. -/
theorem bits_lt (v hi lo : Nat) : bits v hi lo < 2 ^ (hi - lo + 1) := Nat.mod_lt _ (Nat.two_pow_pos _)

/-- The mask of a field. -/
theorem testBit_fieldMask (w lo i : Nat) : ((2 ^ w - 1) * 2 ^ lo).testBit i = (decide (lo ≤ i) && decide (i < lo + w)) := by
  rw [Nat.testBit_mul_two_pow, Nat.testBit_two_pow_sub_one]
  by_cases h : lo ≤ i
  · simp [h]; omega
  · simp [h]

/-! ### Registers -/

/-- A register holds 32 bits. -/
theorem State.rd_lt (s : State) (o : Nat) : s.rd o < 2 ^ 32 := BitVec.isLt _

/-- The register just written reads as written. -/
@[simp] theorem State.rd_wr_same (s : State) (o v : Nat) : (s.wr o v).rd o = v % 2 ^ 32 := by
  simp only [State.rd, State.wr, Sparse.find_put_same]
  split_ifs with h
  · simp [← h]
  · simp

/-- A register write leaves every other register alone. -/
theorem State.rd_wr_ne (s : State) {o x : Nat} (v : Nat) (h : x ≠ o) : (s.wr o v).rd x = s.rd x := by
  simp only [State.rd, State.wr, Sparse.find_put_ne _ _ h]

/-- A register other than the field's is left alone. -/
theorem State.rd_setF_ne (s : State) (f : Fld) {x : Nat} (v : Nat) (h : x ≠ f.off) : (s.setF f v).rd x = s.rd x :=
  State.rd_wr_ne _ _ h

theorem State.rd_setB_ne (s : State) (f : Fld) {x : Nat} (b : Bool) (h : x ≠ f.off) : (s.setB f b).rd x = s.rd x :=
  State.rd_wr_ne _ _ h

theorem State.rd_setI_ne (s : State) (f : Fld) {x : Nat} (v : Int) (h : x ≠ f.off) : (s.setI f v).rd x = s.rd x :=
  State.rd_wr_ne _ _ h

theorem State.rd_incF_ne (s : State) (f : Fld) {x : Nat} (n : Nat) (h : x ≠ f.off) : (s.incF f n).rd x = s.rd x :=
  State.rd_wr_ne _ _ h

theorem State.rd_wrapF_ne (s : State) (f : Fld) {x : Nat} (n : Nat) (h : x ≠ f.off) : (s.wrapF f n).rd x = s.rd x :=
  State.rd_wr_ne _ _ h

theorem State.rd_setBit_ne (s : State) (f : Fld) (i : Nat) {x : Nat} (b : Bool) (h : x ≠ f.off) : (s.setBit f i b).rd x = s.rd x :=
  State.rd_wr_ne _ _ h

/-- A field lies in a 32-bit register. -/
def Fld.ok (f : Fld) : Bool := decide (f.lo ≤ f.hi ∧ f.hi < 32)

/-- Bit i of a register after a field was put. -/
theorem State.testBit_rd_setF (s : State) (f : Fld) (v i : Nat) (h : f.ok = true) :
    ((s.setF f v).rd f.off).testBit i =
      if f.lo ≤ i ∧ i ≤ f.hi then v.testBit (i - f.lo) else (s.rd f.off).testBit i := by
  simp only [Fld.ok, decide_eq_true_eq] at h
  have hm : (2 ^ (f.hi - f.lo + 1) - 1) * 2 ^ f.lo < 2 ^ 32 := by
    calc (2 ^ (f.hi - f.lo + 1) - 1) * 2 ^ f.lo < 2 ^ (f.hi - f.lo + 1) * 2 ^ f.lo := by
          have := Nat.two_pow_pos (f.hi - f.lo + 1)
          exact Nat.mul_lt_mul_of_pos_right (by omega) (Nat.two_pow_pos _)
      _ = 2 ^ (f.hi + 1) := by rw [← Nat.pow_add]; congr 1; omega
      _ ≤ 2 ^ 32 := Nat.pow_le_pow_right (by omega) (by omega)
  rw [State.setF, State.rd_wr_same, Nat.mod_eq_of_lt (maskPut_lt (s.rd_lt _) hm), testBit_maskPut, testBit_fieldMask]
  simp only [Nat.testBit_mul_two_pow, Nat.testBit_mod_two_pow]
  by_cases h1 : f.lo ≤ i
  · by_cases h2 : i ≤ f.hi
    · have : i - f.lo < f.hi - f.lo + 1 := by omega
      have h3 : i < f.lo + (f.hi - f.lo + 1) := by omega
      simp [h1, h2, h3, this]
    · have h3 : ¬ i < f.lo + (f.hi - f.lo + 1) := by omega
      simp [h1, h2, h3]
  · simp [h1]

/-- The field just put reads as put. -/
theorem State.getF_setF (s : State) (f : Fld) (v : Nat) (h : f.ok = true) :
    (s.setF f v).getF f = v % 2 ^ (f.hi - f.lo + 1) := by
  have h' := h
  simp only [Fld.ok, decide_eq_true_eq] at h'
  apply Nat.eq_of_testBit_eq; intro i
  rw [State.getF, testBit_bits, State.testBit_rd_setF _ _ _ _ h, Nat.testBit_mod_two_pow]
  by_cases hi : i < f.hi - f.lo + 1
  · have : f.lo ≤ f.lo + i ∧ f.lo + i ≤ f.hi := by omega
    simp [hi, this]
  · simp [hi]

/-- A field of another register is left alone. -/
theorem State.getF_setF_ne (s : State) {f g : Fld} (v : Nat) (h : g.off ≠ f.off) : (s.setF f v).getF g = s.getF g := by
  rw [State.getF, State.getF, State.rd_setF_ne _ _ _ h]

/-- A field beside the one put is left alone. -/
theorem State.getF_setF_beside (s : State) {f g : Fld} (v : Nat) (hf : f.ok = true) (hg : g.ok = true)
    (h : g.hi < f.lo ∨ f.hi < g.lo) : (s.setF f v).getF g = s.getF g := by
  by_cases ho : g.off = f.off
  · simp only [Fld.ok, decide_eq_true_eq] at hf hg
    apply Nat.eq_of_testBit_eq; intro i
    rw [State.getF, State.getF, testBit_bits, testBit_bits, ho,
      State.testBit_rd_setF _ _ _ _ (by simp [Fld.ok, hf])]
    by_cases hi : i < g.hi - g.lo + 1
    · have : ¬ (f.lo ≤ g.lo + i ∧ g.lo + i ≤ f.hi) := by omega
      simp [this]
    · simp [hi]
  · exact State.getF_setF_ne _ _ ho

/-- A one-bit field just put reads as put. -/
theorem State.flag_setB (s : State) (f : Fld) (b : Bool) (h : f.ok = true) (h1 : f.hi = f.lo) : (s.setB f b).flag f = b := by
  rw [State.flag, State.setB, State.getF_setF _ _ _ h, h1]
  cases b <;> simp [b2n]

/-! ### The canonical form of the register file -/

/-- Every register write keeps the register file canonical. -/
theorem State.regsOk_wr {s : State} (o v : Nat) (h : s.regsOk = true) : (s.wr o v).regsOk = true := by
  simp only [State.regsOk, Bool.and_eq_true, List.all_eq_true, bne_iff_ne, ne_eq] at h ⊢
  refine ⟨Sparse.rising_put _ _ h.1, fun d hd => ?_⟩
  rcases Sparse.mem_put hd with ⟨hk, hv⟩ | hd
  · split_ifs at hv with hb
    rw [hk, ← Option.some.inj hv]; exact hb
  · exact h.2 d hd

/-! ### Bits that hardware sets, interrupts, events -/

@[simp] theorem State.rd_mark (s : State) (o m x : Nat) : (s.mark o m).rd x = s.rd x := rfl

theorem State.rd_raise_ne (s : State) (f : Fld) {x : Nat} (h : x ≠ f.off) : (s.raise f).rd x = s.rd x := by
  simp only [State.raise, State.rd_mark, State.rd_setF_ne s f _ h]

theorem State.rd_raiseBit_ne (s : State) (f : Fld) (i : Nat) {x : Nat} (h : x ≠ f.off) : (s.raiseBit f i).rd x = s.rd x := by
  simp only [State.raiseBit, State.rd_mark, State.rd_setBit_ne s f i _ h]

theorem State.rd_tally_ne (s : State) (f : Fld) (v : Nat) {x : Nat} (h : x ≠ f.off) : (s.tally f v).rd x = s.rd x := by
  simp only [State.tally, State.rd_mark, State.rd_setF_ne s f _ h]

theorem State.rd_count_ne (s : State) (f : Fld) (n : Nat) {x : Nat} (h : x ≠ f.off) : (s.count f n).rd x = s.rd x :=
  State.rd_tally_ne s f _ h

@[simp] theorem State.rd_rise (s : State) (w : Bool) (i x : Nat) : (s.rise w i).rd x = s.rd x := by
  unfold State.rise; split <;> rfl

/-- Setting an interrupt flag changes no register but the unit's interrupt register. -/
theorem State.rd_irq_ne (s : State) (b : Blk) (i : Nat) {x : Nat} (h : x ≠ Reg.UNIT_IRQ b) : (s.irq b i).rd x = s.rd x := by
  simp only [State.irq, State.rd_rise]
  exact State.rd_raiseBit_ne s _ i h

/-- Raising an event changes no register but those that count a lost one. -/
theorem State.rd_emitAt_ne (s : State) (a b c d e f g k : Nat) {x : Nat} (h1 : x ≠ Reg.EVT_INTAKE_LOST) (h2 : x ≠ Reg.EVT_STAT) :
    (s.emitAt a b c d e f g k).rd x = s.rd x := by
  unfold State.emitAt
  split
  · rw [State.rd_raise_ne _ _ h2, State.rd_count_ne _ _ _ h1]
  · rfl

theorem State.rd_emit_ne (s : State) (a b c d : Nat) {x : Nat} (h1 : x ≠ Reg.EVT_INTAKE_LOST) (h2 : x ≠ Reg.EVT_STAT) :
    (s.emit a b c d).rd x = s.rd x := State.rd_emitAt_ne s _ _ _ _ _ _ _ _ h1 h2

theorem State.regsOk_setF {s : State} (f : Fld) (v : Nat) (h : s.regsOk = true) : (s.setF f v).regsOk = true := State.regsOk_wr _ _ h

/-- A DRAM write keeps the canonical form of the memories. -/
theorem State.memOk_dramWr {s : State} (a : Nat) (bs : List Byte) (h : s.memOk = true) : (s.dramWr a bs).memOk = true := by
  simp only [State.memOk, Bool.and_eq_true] at h ⊢
  exact ⟨⟨Mem.wf_wrN _ _ h.1.1, h.1.2⟩, h.2⟩

/-- After reset every memory is in canonical form. -/
theorem State.reset_memOk : State.reset.memOk = true := by decide

end Sys2Proof.Machine
end

