-- ==== Sys2Proof/WellFormed.lean ====
section
/-!
DEFINITION. Well-formed commands: operands that name a part the AK960 has (channels, groups, ports, slots, vectors of R1 and
R2) and accesses that start at a register (R634).  A command that is not well formed names nothing of the module; no command
of this kind can arrive (log 1).
-/
namespace Sys2Proof

/-- A command whose operands name a part of the module. -/
def Instr.wf (i : Instr) : Bool :=
  match i with
  | .registerWrite _ off _ _ => decide (off % 4 = 0 ∧ off < 0x4000000)
  | .snapshotRead _ off n => decide (off % 4 = 0 ∧ 1 ≤ n ∧ n ≤ 32 ∧ off + 4 * n ≤ 0x4000000)
  | .sealFieldWrite _ off _ => decide (off % 4 = 0 ∧ off < 0x4000000)
  | .trackerUpdate _ _ => true
  | .angHoldForceWrite _ _ => true
  | .angReferenceWrite _ _ _ => true
  | .angAltOfsWrite _ _ => true
  | .gridSample g => decide (g < 16)
  | .tbuIncWrite _ _ => true
  | .tbuStep _ _ => true
  | .tbuReepoch _ _ => true
  | .tbuAsymAck _ _ => true
  | .tbuSrcWrite _ _ => true
  | .tbuProfWrite _ _ => true
  | .ptpMessageRx port _ => decide (port < 4)
  | .pathStableTimeout port => decide (port < 4)
  | .holdoverEntryTimeout => true
  | .announceReceiptTimeout port => decide (port < 4)
  | .ptpMessageTx port _ => decide (port < 4)
  | .ppsInEdge => true
  | .ppsOutPulse => true
  | .ppsOutWidthEnd => true
  | .txqIdRead _ port => decide (port < 4)
  | .klnStore _ _ => true
  | .klnStoreDone => true
  | .klnRefire _ _ => true
  | .refireAccepted => true
  | .klnPatch _ _ => true
  | .klnJclear _ _ => true
  | .klnRevoke _ _ => true
  | .klnInvalidate _ _ => true
  | .crsArm _ _ => true
  | .crsAbort _ _ => true
  | .courseSet n => decide (n < 192)
  | .standingCourseSet n => decide (n < 192)
  | .courseSlotRelease n => decide (n < 192)
  | .standingCourseRearm n => decide (n < 192)
  | .courseDeadline n => decide (n < 192)
  | .wCopyRx c => decide (1 ≤ c.acts.length ∧ c.acts.length ≤ 32)
  | .wAnswerRx _ _ => true
  | .mirrorAnswerTimeout n => decide (n < 192)
  | .wCancelRx _ => true
  | .wOutcomeRx _ _ => true
  | .converterResult n _ _ _ _ _ => decide (n < 64)
  | .matchWindowClose n => decide (n < 64)
  | .repointStepStart g => decide (g < 8)
  | .repointMismatch g => decide (g < 8)
  | .repointAbandon g => decide (g < 8)
  | .substitutionCourse g => decide (g < 8)
  | .repointFadeEnd g => decide (g < 8)
  | .converterCalibDone g v _ _ _ => decide (g < 8 ∧ v < 18)
  | .ageLimit g => decide (g < 8)
  | .afeOosWrite _ n _ => decide (n < 64)
  | .channelOutOfService n => decide (n < 64)
  | .channelReturnToService n => decide (n < 64)
  | .proofStart _ g _ => decide (g < 8)
  | .proofDacGrant g => decide (g < 8)
  | .proofTestDone g _ => decide (g < 8)
  | .hkcSelWrite _ _ => true
  | .hkcConversionStart => true
  | .hkcEntryWrite codes => decide (codes.length ≤ 256)
  | .hkcCalCommand _ _ => true
  | .hkcCalInterval => true
  | .hkcCalStart => true
  | .hkcCalDone _ _ => true
  | .hkcFlush _ _ => true
  | .hkcQueueRead _ => true
  | .stageAOutput => true
  | .stageBOutput p => decide (p < 16)
  | .fltBankRequest _ p _ => decide (p < 16)
  | .fltSync _ _ => true
  | .phasorUpdate f => decide (f < 12)
  | .bfInitWrite _ f _ => decide (f < 12)
  | .bfT1Expiry f => decide (f < 12)
  | .bfT2Expiry f => decide (f < 12)
  | .tripHoldEnd n => decide (n < 16)
  | .powTimeout f _ => decide (f < 12)
  | .powTargetArm _ f _ => decide (f < 12)
  | .acqItemEvaluate _ => true
  | .triggerTimeout n => decide (n < 16)
  | .captureRecordEnd j => decide (j < 8)
  | .acqArm _ _ => true
  | .acqStop _ _ => true
  | .acqForce _ _ => true
  | .acqRelease _ j _ => decide (j < 8)
  | .acqRdptrWrite _ j _ => decide (j < 8)
  | .triggerBusAssert l => decide (l < 8)
  | .triggerBusRelease l => decide (l < 8)
  | .triggerBusEdge l => decide (l < 8)
  | .trcTimeout => true
  | .meterWindowClose f => decide (f < 12)
  | .meterGap f => decide (f < 12)
  | .commitCoursePrepare => true
  | .mtrCommit _ _ => true
  | .commitWriteDone => true
  | .sealOpen => true
  | .sealClose => true
  | .tamper => true
  | .auditRecordRead _ => true
  | .auditAck _ _ => true
  | .mtrPreset _ _ => true
  | .mtrAccept _ _ => true
  | .taskSync c _ => decide (c < 4)
  | .taskExecutionComplete c _ _ => decide (c < 4)
  | .taskOverrun c => decide (c < 4)
  | .taskFault c => decide (c < 4)
  | .blkStore _ _ => true
  | .blkStoreDone => true
  | .blkInvalidate _ _ => true
  | .blkStart _ c _ => decide (c < 4)
  | .blkStop _ c _ => decide (c < 4)
  | .blkLoad _ c _ => decide (c < 4)
  | .blkLoadDone c => decide (c < 4)
  | .blkExch _ c _ => decide (c < 4)
  | .blkVpatch _ c _ => decide (c < 4)
  | .exchCopyDone c => decide (c < 4)
  | .ringFrameDepart => true
  | .ringFrameReturn port _ => decide (port = 2 ∨ port = 3)
  | .ringCycleDeadline => true
  | .yulRestart _ _ => true
  | .yulStationOverride _ stn _ => decide (stn < 64)
  | .stationFrameRx port _ _ => decide (port = 2 ∨ port = 3)
  | .stationApplyInstant => true
  | .stationWatchdogExpiry => true
  | .shadowRingFrameRx port _ => decide (port = 2 ∨ port = 3)
  | .shadowBaseInstant => true
  | .gooseFrameRx port g _ _ _ _ => decide (port < 4 ∧ g.sub < 128)
  | .svFrameRx port f _ => decide (port < 4 ∧ f.stream < 8)
  | .hostFrameRx port _ _ _ _ _ _ => decide (port < 4)
  | .hsrFrameForward port _ _ => decide (port < 4)
  | .unmatchedFrameRx port _ => decide (port < 4)
  | .gooseTimeout k => decide (k < 128)
  | .gooseRetransmit k => decide (k < 32)
  | .svPublish k => decide (k < 8)
  | .svSampleDeadline k => decide (k < 8)
  | .prpSupervisionTx => true
  | .prpEntryForget => true
  | .linkDown p => decide (p < 5)
  | .linkUp p => decide (p < 5)
  | .hostFrameTransmit _ => true
  | .eventIntake => true
  | .evtWindowStart => true
  | .hostQueueRead _ => true
  | .soeRead _ _ => true
  | .soeDump _ _ => true
  | .soeDumpDone => true
  | .soeArch0 _ _ => true
  | .dioPinTransition n _ => decide (n < 32)
  | .dioInputTick n => decide (n < 32)
  | .dioFreqGateEnd n => decide (n < 32)
  | .dioFreqTimeout n => decide (n < 32)
  | .fieldSupplyLow g _ => decide (g < 2)
  | .fieldSupplyRecover g => decide (g < 2)
  | .fieldSupplyMissing g => decide (g < 2)
  | .fieldSupplyRestoring g => decide (g < 2)
  | .restoreSlot g => decide (g < 2)
  | .fieldSupplyHigh g _ => decide (g < 2)
  | .dioOverload n => decide (n < 32)
  | .dioOverloadRetry n _ => decide (n < 32)
  | .dioOpen n => decide (n < 32)
  | .dioOpenClear n => decide (n < 32)
  | .dioOvertemp n => decide (n < 32)
  | .dioOvertempClear n => decide (n < 32)
  | .dioExtDrive n => decide (n < 32)
  | .dioExtDriveClear n => decide (n < 32)
  | .dioWatchdogExpiry g => decide (g < 2)
  | .dioKick _ g _ => decide (g < 2)
  | .dioRearm _ g _ => decide (g < 2)
  | .aoReadback n _ _ _ => decide (n < 8)
  | .aoComplianceSet n => decide (n < 8)
  | .aoComplianceAlarm n => decide (n < 8)
  | .aoComplianceClear n => decide (n < 8)
  | .aoThermalCut n _ => decide (n < 8)
  | .aoThermalFold n _ => decide (n < 8)
  | .aoThermalNormal n _ => decide (n < 8)
  | .aoVaoLow _ => true
  | .aoWatchdogExpiry => true
  | .aoKick _ _ => true
  | .aoRearm _ _ => true
  | .aoTrimControl _ n _ => decide (n < 8)
  | .aoTrimMeasure _ n point _ => decide (n < 8 ∧ (point = 1 ∨ point = 2))
  | .aoTrimApply _ n _ => decide (n < 8)
  | .vinGood => true
  | .vinLost _ => true
  | .staggerSlotStart u => decide (u < 25)
  | .unitReady _ _ => true
  | .unitStartFail _ => true
  | .unitEnableWrite _ off _ => decide (off % 0x1000 = 8)
  | .unitStopComplete _ => true
  | .unitStartAfterGap u => decide (u < 25)
  | .resetNPulse _ => true
  | .pwrWarm _ _ => true
  | .pwrCold _ _ => true
  | .pwrStandby _ _ => true
  | .warmResetBegin => true
  | .warmResetDone => true
  | .governorSample _ => true
  | .endSequenceComplete => true
  | .governorClockChange => true
  | .rideThroughEnd => true
  | .governorForceWrite _ _ => true
  | .wake => true
  | .rtcSync => true
  | .vbatMeasure _ => true
  | .heartbeatTx => true
  | .heartbeatRx _ => true
  | .heartbeatLoss => true
  | .pairWaitTimeout => true
  | .transitTimeout => true
  | .wRefireRx _ _ _ => true
  | .pairRefireStart => true
  | .wCompareRx _ _ => true
  | .compareUnpaired => true
  | .tripDisagreeWindow => true
  | .wytRebase _ _ => true
  | .wUnknownFrameRx => true
  | .spiTransaction _ data _ => decide (data.length ≤ 32)
  | .bar2Write off bytes => decide (off + bytes.length ≤ 0x10000000)
  | .accessLevelRequest _ _ => true
  | .accessDrop _ _ => true
  | .accessTimeout _ => true
  | .lockoutEnd _ => true
  | .veoiWrite _ _ => true
  | .msixMessageSend vec => decide (vec < 32)
  | .dmaTailWrite _ c _ => decide (c < 4)
  | .dmaDescriptorComplete c _ => decide (c < 4)
  | .dmaStop _ c _ => decide (c < 4)
  | .pcieHotReset => true
  | .trcEdgeRx => true
  | .holdSample _ _ => true

end Sys2Proof
end

