-- ==== Sys2Proof/Tests/Slice0.lean ====
section
/-!
SUPPORT. The smoke test of WellFormed and worked examples of the spec; for every statement of Certificates/Slice0 with hypotheses, states and operands that meet them, clause by clause.
The states are the reset state with a few fields set.
-/
open Sys2Proof Sys2Proof.Machine
namespace Sys2Proof.Tests

set_option maxRecDepth 100000
set_option Elab.async false

/-- Every part running and configured. -/
def onAll (s : State) : State :=
  { s with pwr := { s.pwr with parts := s.pwr.parts.map (fun p => { p with st := .on, conf := true }), nextSlot := 25 } }

/-- Both interfaces at a level. -/
def levels (s : State) (l : Level) : State := { s with hst := { s.hst with acc := s.hst.acc.map fun a => { a with level := l } } }

/-- The reset state, or a running module at one of the three levels. -/
def wBase (z : Nat) : State :=
  if z = 0 then State.reset
  else levels (onAll State.reset) (if z = 1 then .read else if z = 2 then .operate else .engineer)

/-- A section body with two values, written out from R115 and R140. -/
def wBody : List Byte := ([2, 0, 0, 0, 32, 0, 0, 0, 1, 0, 0, 0, 0, 0, 0, 0, 1, 0, 0, 0, 8, 0, 0, 0, 48, 0, 0, 0, 10, 0, 50, 0, 1, 0, 1, 0, 28, 0, 0, 0, 2, 0, 0, 0, 50, 0, 0, 0, 2, 0, 1, 1, 30, 0, 0, 0, 5, 0, 0, 0, 200, 0, 0, 0] : List Nat).map (BitVec.ofNat 8)

/-- Stand-ins for the bytes of an image and of two programs; the first has a section of descriptors. -/
def wImage : List Byte := List.replicate 512 1
def wProg0 : List Byte := (([75, 73, 76, 78, 1, 0, 2, 0, 96, 1, 0, 0, 1, 0, 0, 0] : List Nat) ++ List.replicate 240 0 ++ [4, 96, 0, 0, 0, 0, 0, 0, 64, 1, 0, 0, 32, 0, 0, 0] ++ List.replicate 48 0 ++
  [1, 0, 4, 0, 4, 0, 0, 0, 10, 0, 0, 0, 232, 3, 0, 0, 2, 0, 2, 1, 8, 0, 0, 0, 0, 0, 0, 0, 50, 0, 0, 0]).map (BitVec.ofNat 8)
def wProg1 : List Byte := List.replicate 512 3

/-- A running module with one section that holds patch values, both slots filled and an image staged. -/
def wImaged (s : State) : State :=
  let k := { s.kln with u0 := [(0, 1)], u1 := [(0, 1)], secs := [Section.mk 0x300 0 0 0 0 0 0 wBody] }
  let s := onAll { s with kln := k, dram := [(0x1180, 7)], pwr := { s.pwr with unpowered := false } }
  (s.wr Reg.KLN_SRC_ADDR 0x1000).wr Reg.KLN_SRC_LEN 0x200

/-- States for the statement TrackerUpdatesPublishAndMove. -/
def w1 (z x0 x1 x2 x3 x4 x5 x6 x7 x8 : Nat) : State :=
  let s := wBase z
  let a : Nat := x0
  let b : Nat := x1
  let c : Nat := x2
  let d : Nat := x3
  let d := if b = 1 then 0 else d
  let st : Nat := [0, 1, 1, 2].getD x4 0
  let hf : Nat := x5
  let al : Nat := x6
  let s := levels (onAll s) .operate
  let s := ((((s.setF Reg.ANG_STAT_STATE st).setF Reg.ANG_STAT_STEPPED b).setF Reg.ANG_STAT_SCHED_OK (if st = 0 then 0 else 1)).setF Reg.ANG_STAT_PULLING (if st = 1 then c else 0)).setF Reg.ANG_STAT_ON_ALT al
  let s := ((s.setF Reg.ANG_CTL_HOLD_FORCE (if hf = 0 then 1 else 0)).setF Reg.ANG_CTL_AUTO_ALT d).setF Reg.ANG_STAT_REF_LOST 0
  let s := s.wr Reg.ANG_REF_PRI (if hf ≥ 3 then 0 else 0x1000000)
  let s := s.wr Reg.ANG_REF_ALT (if hf = 3 then 0 else 0x1000001)
  let s := (((s.wr (Reg.AFE_CH_CFG 0 0) 0).wr (Reg.AFE_CH_CFG 0 1) 0).setF (Reg.AFE_CH_STAT_OOS 0 0) 0).setF (Reg.AFE_CH_STAT_OOS 0 1) 0
  let g1 : Nat := [0, 16, 16].getD x7 0
  let g2 : Nat := [0, 16].getD x8 0
  let s := { s with ang := { s.ang with acc := a, prev := (a + 2 ^ 47) % 2 ^ 48, pri := ⟨if c = 0 then a / 2 ^ 16 else 777777, 50 * 2 ^ 24, 0, g1, if hf = 2 then 8 else 0, [if c = 0 then (a / 2 ^ 16 : Nat) else 777777]⟩, alt := ⟨a / 2 ^ 16, 50 * 2 ^ 24, 0, g2, 0, [(a / 2 ^ 16 : Nat)]⟩ } }
  s

theorem test_at_1_0 :
    (((w1 1 5870512437572 0 0 0 0 1 1 2 0).ang.acc < 2 ^ 48) ∧ ((w1 1 5870512437572 0 0 0 0 1 1 2 0).trk ≠ trkStopped) ∧ ((w1 1 5870512437572 0 0 0 0 1 1 2 0).flag Reg.ANG_STAT_SCHED_OK = decide ((w1 1 5870512437572 0 0 0 0 1 1 2 0).trk ≠ trkSearch)) ∧ ((w1 1 5870512437572 0 0 0 0 1 1 2 0).flag Reg.ANG_STAT_PULLING = true → (w1 1 5870512437572 0 0 0 0 1 1 2 0).trk = trkLocked) ∧ ((w1 1 5870512437572 0 0 0 0 1 1 2 0).ang.acc / 2 ^ 44 ≠ (w1 1 5870512437572 0 0 0 0 1 1 2 0).ang.prev / 2 ^ 44) ∧ ((w1 1 5870512437572 0 0 0 0 1 1 2 0).trk = trkSearch) ∧ ((w1 1 5870512437572 0 0 0 0 1 1 2 0).flag Reg.ANG_STAT_STEPPED = false) ∧ ((w1 1 5870512437572 0 0 0 0 1 1 2 0).flag Reg.ANG_CTL_HOLD_FORCE = false)) ∧
    (((w1 1 5870512437572 0 0 0 0 1 1 2 0).ang.acc < 2 ^ 48) ∧ ((w1 1 5870512437572 0 0 0 0 1 1 2 0).trk ≠ trkStopped) ∧ ((w1 1 5870512437572 0 0 0 0 1 1 2 0).flag Reg.ANG_STAT_SCHED_OK = decide ((w1 1 5870512437572 0 0 0 0 1 1 2 0).trk ≠ trkSearch)) ∧ ((w1 1 5870512437572 0 0 0 0 1 1 2 0).flag Reg.ANG_STAT_PULLING = true → (w1 1 5870512437572 0 0 0 0 1 1 2 0).trk = trkLocked) ∧ ((w1 1 5870512437572 0 0 0 0 1 1 2 0).hostUp = true) ∧ ((w1 1 5870512437572 0 0 0 0 1 1 2 0).unwritten = true) ∧ ((w1 1 5870512437572 0 0 0 0 1 1 2 0).may (Iface.pcie : Iface) .operate = true) ∧ ((0x0000d31d#32 : Word).toNat.testBit 8 = true) ∧ ((w1 1 5870512437572 0 0 0 0 1 1 2 0).flag Reg.ANG_CTL_HOLD_FORCE = false)) ∧
    (((w1 1 5870512437572 0 0 0 0 1 1 2 0).ang.acc < 2 ^ 48) ∧ ((w1 1 5870512437572 0 0 0 0 1 1 2 0).trk ≠ trkStopped) ∧ ((w1 1 5870512437572 0 0 0 0 1 1 2 0).flag Reg.ANG_STAT_SCHED_OK = decide ((w1 1 5870512437572 0 0 0 0 1 1 2 0).trk ≠ trkSearch)) ∧ ((w1 1 5870512437572 0 0 0 0 1 1 2 0).flag Reg.ANG_STAT_PULLING = true → (w1 1 5870512437572 0 0 0 0 1 1 2 0).trk = trkLocked) ∧ ((w1 1 5870512437572 0 0 0 0 1 1 2 0).hostUp = true) ∧ ((w1 1 5870512437572 0 0 0 0 1 1 2 0).unwritten = true) ∧ ((w1 1 5870512437572 0 0 0 0 1 1 2 0).may (Iface.pcie : Iface) .operate = true)) ∧
    (((w1 1 5870512437572 0 0 0 0 1 1 2 0).ang.acc < 2 ^ 48) ∧ ((w1 1 5870512437572 0 0 0 0 1 1 2 0).trk ≠ trkStopped) ∧ ((w1 1 5870512437572 0 0 0 0 1 1 2 0).flag Reg.ANG_STAT_SCHED_OK = decide ((w1 1 5870512437572 0 0 0 0 1 1 2 0).trk ≠ trkSearch)) ∧ ((w1 1 5870512437572 0 0 0 0 1 1 2 0).flag Reg.ANG_STAT_PULLING = true → (w1 1 5870512437572 0 0 0 0 1 1 2 0).trk = trkLocked) ∧ ((w1 1 5870512437572 0 0 0 0 1 1 2 0).hostUp = true) ∧ ((w1 1 5870512437572 0 0 0 0 1 1 2 0).unwritten = true) ∧ ((w1 1 5870512437572 0 0 0 0 1 1 2 0).may (Iface.spi : Iface) .operate = true)) ∧
    (((w1 1 5870512437572 0 0 0 0 1 1 2 0).ang.acc < 2 ^ 48) ∧ ((w1 1 5870512437572 0 0 0 0 1 1 2 0).trk ≠ trkStopped) ∧ ((w1 1 5870512437572 0 0 0 0 1 1 2 0).flag Reg.ANG_STAT_SCHED_OK = decide ((w1 1 5870512437572 0 0 0 0 1 1 2 0).trk ≠ trkSearch)) ∧ ((w1 1 5870512437572 0 0 0 0 1 1 2 0).flag Reg.ANG_STAT_PULLING = true → (w1 1 5870512437572 0 0 0 0 1 1 2 0).trk = trkLocked) ∧ (0 < (w1 1 5870512437572 0 0 0 0 1 1 2 0).ang.tup.freq) ∧ ((toSigned 64 (ofSigned 64 ((14249927887640807742 : Int) - (w1 1 5870512437572 0 0 0 0 1 1 2 0).ang.tup.pos))) < 0)) := by decide +kernel

theorem test_at_1_1 :
    (((w1 1 115140382400101 1 1 1 2 4 0 0 1).ang.acc < 2 ^ 48) ∧ ((w1 1 115140382400101 1 1 1 2 4 0 0 1).trk ≠ trkStopped) ∧ ((w1 1 115140382400101 1 1 1 2 4 0 0 1).flag Reg.ANG_STAT_SCHED_OK = decide ((w1 1 115140382400101 1 1 1 2 4 0 0 1).trk ≠ trkSearch)) ∧ ((w1 1 115140382400101 1 1 1 2 4 0 0 1).flag Reg.ANG_STAT_PULLING = true → (w1 1 115140382400101 1 1 1 2 4 0 0 1).trk = trkLocked) ∧ ((w1 1 115140382400101 1 1 1 2 4 0 0 1).ang.acc / 2 ^ 44 ≠ (w1 1 115140382400101 1 1 1 2 4 0 0 1).ang.prev / 2 ^ 44) ∧ ((w1 1 115140382400101 1 1 1 2 4 0 0 1).trk = trkLocked) ∧ ((w1 1 115140382400101 1 1 1 2 4 0 0 1).flag Reg.ANG_STAT_ON_ALT = false) ∧ ((w1 1 115140382400101 1 1 1 2 4 0 0 1).flag Reg.ANG_CTL_AUTO_ALT = false) ∧ ((w1 1 115140382400101 1 1 1 2 4 0 0 1).refOk Reg.ANG_REF_PRI = false)) := by decide +kernel

theorem test_at_1_2 :
    (((w1 1 5870512437572 0 0 0 0 1 1 2 0).ang.acc < 2 ^ 48) ∧ ((w1 1 5870512437572 0 0 0 0 1 1 2 0).trk ≠ trkStopped) ∧ ((w1 1 5870512437572 0 0 0 0 1 1 2 0).flag Reg.ANG_STAT_SCHED_OK = decide ((w1 1 5870512437572 0 0 0 0 1 1 2 0).trk ≠ trkSearch)) ∧ ((w1 1 5870512437572 0 0 0 0 1 1 2 0).flag Reg.ANG_STAT_PULLING = true → (w1 1 5870512437572 0 0 0 0 1 1 2 0).trk = trkLocked) ∧ (0 < (w1 1 5870512437572 0 0 0 0 1 1 2 0).ang.tup.freq) ∧ (0 ≤ (toSigned 64 (ofSigned 64 ((165470880 : Int) - (w1 1 5870512437572 0 0 0 0 1 1 2 0).ang.tup.pos))))) := by decide +kernel

theorem test_met_TrackerUpdatesPublishAndMove :
    (∃ (s : State) (r : RefEst), (r = s.refNext false) ∧ (s.ang.acc < 2 ^ 48) ∧ (s.trk ≠ trkStopped) ∧ (s.flag Reg.ANG_STAT_SCHED_OK = decide (s.trk ≠ trkSearch)) ∧ (s.flag Reg.ANG_STAT_PULLING = true → s.trk = trkLocked) ∧ (s.ang.acc / 2 ^ 44 ≠ s.ang.prev / 2 ^ 44) ∧ (s.trk = trkSearch) ∧ (s.flag Reg.ANG_STAT_STEPPED = false) ∧ (s.flag Reg.ANG_CTL_HOLD_FORCE = false)) ∧
    (∃ (s : State), (s.ang.acc < 2 ^ 48) ∧ (s.trk ≠ trkStopped) ∧ (s.flag Reg.ANG_STAT_SCHED_OK = decide (s.trk ≠ trkSearch)) ∧ (s.flag Reg.ANG_STAT_PULLING = true → s.trk = trkLocked) ∧ (s.ang.acc / 2 ^ 44 ≠ s.ang.prev / 2 ^ 44) ∧ (s.trk = trkLocked) ∧ (s.flag Reg.ANG_STAT_ON_ALT = false) ∧ (s.flag Reg.ANG_CTL_AUTO_ALT = false) ∧ (s.refOk Reg.ANG_REF_PRI = false)) ∧
    (∃ (s : State) (i : Iface) (v : Word), (s.ang.acc < 2 ^ 48) ∧ (s.trk ≠ trkStopped) ∧ (s.flag Reg.ANG_STAT_SCHED_OK = decide (s.trk ≠ trkSearch)) ∧ (s.flag Reg.ANG_STAT_PULLING = true → s.trk = trkLocked) ∧ (s.hostUp = true) ∧ (s.unwritten = true) ∧ (s.may i .operate = true) ∧ (v.toNat.testBit 8 = true) ∧ (s.flag Reg.ANG_CTL_HOLD_FORCE = false)) ∧
    (∃ (s : State) (i : Iface) (alt : Bool) (v : Word) (off : Nat), (off = (if alt then Reg.ANG_REF_ALT else Reg.ANG_REF_PRI)) ∧ (s.ang.acc < 2 ^ 48) ∧ (s.trk ≠ trkStopped) ∧ (s.flag Reg.ANG_STAT_SCHED_OK = decide (s.trk ≠ trkSearch)) ∧ (s.flag Reg.ANG_STAT_PULLING = true → s.trk = trkLocked) ∧ (s.hostUp = true) ∧ (s.unwritten = true) ∧ (s.may i .operate = true)) ∧
    (∃ (s : State) (i : Iface) (v : Word), (s.ang.acc < 2 ^ 48) ∧ (s.trk ≠ trkStopped) ∧ (s.flag Reg.ANG_STAT_SCHED_OK = decide (s.trk ≠ trkSearch)) ∧ (s.flag Reg.ANG_STAT_PULLING = true → s.trk = trkLocked) ∧ (s.hostUp = true) ∧ (s.unwritten = true) ∧ (s.may i .operate = true)) ∧
    (∃ (s : State) (p : Nat) (d : Int), (d = toSigned 64 (ofSigned 64 ((p : Int) - s.ang.tup.pos))) ∧ (s.ang.acc < 2 ^ 48) ∧ (s.trk ≠ trkStopped) ∧ (s.flag Reg.ANG_STAT_SCHED_OK = decide (s.trk ≠ trkSearch)) ∧ (s.flag Reg.ANG_STAT_PULLING = true → s.trk = trkLocked) ∧ (0 < s.ang.tup.freq) ∧ (d < 0)) ∧
    (∃ (s : State) (p : Nat) (d : Int), (d = toSigned 64 (ofSigned 64 ((p : Int) - s.ang.tup.pos))) ∧ (s.ang.acc < 2 ^ 48) ∧ (s.trk ≠ trkStopped) ∧ (s.flag Reg.ANG_STAT_SCHED_OK = decide (s.trk ≠ trkSearch)) ∧ (s.flag Reg.ANG_STAT_PULLING = true → s.trk = trkLocked) ∧ (0 < s.ang.tup.freq) ∧ (0 ≤ d)) :=
  ⟨⟨w1 1 5870512437572 0 0 0 0 1 1 2 0, _, rfl, test_at_1_0.1⟩,
   ⟨w1 1 115140382400101 1 1 1 2 4 0 0 1, test_at_1_1⟩,
   ⟨w1 1 5870512437572 0 0 0 0 1 1 2 0, Iface.pcie, 0x0000d31d#32, test_at_1_0.2.1⟩,
   ⟨w1 1 5870512437572 0 0 0 0 1 1 2 0, Iface.pcie, false, 0xd3b280ac#32, _, rfl, test_at_1_0.2.2.1⟩,
   ⟨w1 1 5870512437572 0 0 0 0 1 1 2 0, Iface.spi, 0x00000027#32, test_at_1_0.2.2.2.1⟩,
   ⟨w1 1 5870512437572 0 0 0 0 1 1 2 0, 14249927887640807742, _, rfl, test_at_1_0.2.2.2.2⟩,
   ⟨w1 1 5870512437572 0 0 0 0 1 1 2 0, 165470880, _, rfl, test_at_1_2⟩⟩

/-- States for the statement GridSamplesStandForTheirCrossing. -/
def w2 (z x0 : Nat) : State :=
  let s := wBase z
  let g : Nat := x0
  let s := onAll s
  let l := (List.range 12).map fun (k : Nat) => (1000 - 10 * k, (⟨(k : Int), 3, false, false, false, decide (k = g)⟩ : Sample))
  let s := (s.wr (Reg.ANG_GRID_MASK_LO g) 5).wr (Reg.ANG_GRID_MASK_HI g) 0
  let s := { s with prt := { s.prt with fdr := s.prt.fdr }, flt := { s.flt with ch := s.flt.ch.map fun c => { c with bOut := l } }, ang := { s.ang with cross := s.ang.cross.map fun _ => [⟨7, 9, 945, 77, 3, 1⟩, ⟨8, 9, 1945, 78, 3, 1⟩] } }
  s

theorem test_at_2_0 :
    (((w2 0 10).shaped = true) ∧ (0 < 16) ∧ (((w2 0 10).ang.cross.getD 0 []).head? = some ({ k := 7, cycle := 9, inst := 945, tw := 77, epoch := 3, trk := 1 } : Cross)) ∧ ((w2 0 10).crossReady 0 ({ k := 7, cycle := 9, inst := 945, tw := 77, epoch := 3, trk := 1 } : Cross) = true)) := by decide +kernel

theorem test_met_GridSamplesStandForTheirCrossing : (∃ (s : State) (g : Nat) (c : Cross), (s.shaped = true) ∧ (g < 16) ∧ ((s.ang.cross.getD g []).head? = some c) ∧ (s.crossReady g c = true)) :=
  ⟨w2 0 10, 0, { k := 7, cycle := 9, inst := 945, tw := 77, epoch := 3, trk := 1 }, test_at_2_0⟩

/-- States for the statement IdleStepIsOneFc. -/
def w3 (z x0 x1 x2 : Nat) : State :=
  let s := wBase z
  let a : Nat := x0
  let un : Nat := x1
  let dv : Nat := [1, 2, 4].getD x2 0
  let s := { s with pending := [], tm := { s.tm with div := dv }, pwr := { s.pwr with unpowered := decide (un = 0) }, ang := { s.ang with acc := if un = 1 then 2 ^ 48 - 1 else a } }
  let s := s.setF Reg.ANG_STAT_STATE un
  s

theorem test_at_3_0 :
    (((w3 1 113627198267555 0 2).pending = []) ∧ ((w3 1 113627198267555 0 2).pwr.unpowered = true)) := by decide +kernel

theorem test_at_3_1 :
    (((w3 0 135708266478746 1 2).pending = []) ∧ ((w3 0 135708266478746 1 2).pwr.unpowered = false)) := by decide +kernel

theorem test_met_IdleStepIsOneFc :
    (∃ (s : State), (s.pending = []) ∧ (s.pwr.unpowered = true)) ∧
    (∃ (s : State), (s.pending = []) ∧ (s.pwr.unpowered = false)) :=
  ⟨⟨w3 1 113627198267555 0 2, test_at_3_0⟩,
   ⟨w3 0 135708266478746 1 2, test_at_3_1⟩⟩

/-- States for the statement ClockCommandsActOnTheTimeWord. -/
def w4 (z x0 x1 x2 x3 x4 x5 : Nat) : State :=
  let s := wBase z
  let src : Nat := [0, 0, 0, 1, 2, 3].getD x0 0
  let b : Nat := x1
  let k : Nat := x2
  let bad : Nat := x3
  let pr : Nat := x4
  let fresh : Nat := x5
  let s := { s with hst := { s.hst with wrNow := [] }, pending := [] }
  let s := if fresh = 0 then s else { s with tm := { s.tm with time := s.tm.time + 2 ^ 60 } }
  let s := levels (onAll s) (if pr = 0 then .operate else .engineer)
  let s := (((s.setF Reg.TBU_CTL_SRC src).setF Reg.TBU_STAT_STEPPED b).setF Reg.TBU_STAT_STATE k).setF Reg.TBU_BMCA_0_PROF (pr % 3)
  let sw := if bad = 1 then s.tw + 20 else s.tw - 20
  let s := s.wr96 Reg.TBU_SET_0 (twPack sw + (if bad = 0 then 2 ^ 48 - 1 - twPack sw % 2 ^ 48 else 0))
  let s := { s with crs := { s.crs with slots := s.crs.slots.mapIdx fun n c => if n < 2 then { c with st := .pending, sched := if n = 0 then .time (s.tw + 10) else .time (s.tw + 2 ^ 60), acts := [], policy := b } else { c with st := .free } } }
  s

theorem test_at_4_0 :
    (((w4 0 4 1 0 0 3 0).shaped = true) ∧ ((w4 0 4 1 0 0 3 0).room 250 = true) ∧ ((w4 0 4 1 0 0 3 0).hostUp = true) ∧ ((w4 0 4 1 0 0 3 0).unwritten = true) ∧ ((w4 0 4 1 0 0 3 0).holdoverDue = false) ∧ ((w4 0 4 1 0 0 3 0).may (Iface.pcie : Iface) .operate = true) ∧ ((0x00000000#32 : Word).toNat % 8 < 2)) ∧
    (((w4 0 4 1 0 0 3 0).shaped = true) ∧ ((w4 0 4 1 0 0 3 0).room 250 = true) ∧ ((w4 0 4 1 0 0 3 0).hostUp = true) ∧ ((w4 0 4 1 0 0 3 0).unwritten = true) ∧ ((w4 0 4 1 0 0 3 0).holdoverDue = false) ∧ ((w4 0 4 1 0 0 3 0).may (Iface.pcie : Iface) .operate = true) ∧ ((w4 0 4 1 0 0 3 0).level (Iface.pcie : Iface) = .engineer) ∧ ((0x00000018#32 : Word).toNat % 8 < 4)) ∧
    (((w4 0 4 1 0 0 3 0).shaped = true) ∧ ((w4 0 4 1 0 0 3 0).room 250 = true) ∧ ((w4 0 4 1 0 0 3 0).hostUp = true) ∧ ((w4 0 4 1 0 0 3 0).unwritten = true) ∧ ((w4 0 4 1 0 0 3 0).holdoverDue = false) ∧ ((w4 0 4 1 0 0 3 0).may (Iface.pcie : Iface) .operate = true) ∧ ((0x00000008#32 : Word).toNat % 4 = 0)) := by decide +kernel

theorem test_met_ClockCommandsActOnTheTimeWord :
    (∃ (s : State) (i : Iface) (v : Word), (s.shaped = true) ∧ (s.room 250 = true) ∧ (s.hostUp = true) ∧ (s.unwritten = true) ∧ (s.holdoverDue = false) ∧ (s.may i .operate = true) ∧ (v.toNat % 8 < 2)) ∧
    (∃ (s : State) (i : Iface) (v : Word), (s.shaped = true) ∧ (s.room 250 = true) ∧ (s.hostUp = true) ∧ (s.unwritten = true) ∧ (s.holdoverDue = false) ∧ (s.may i .operate = true) ∧ (s.level i = .engineer) ∧ (v.toNat % 8 < 4)) ∧
    (∃ (s : State) (i : Iface) (v : Word), (s.shaped = true) ∧ (s.room 250 = true) ∧ (s.hostUp = true) ∧ (s.unwritten = true) ∧ (s.holdoverDue = false) ∧ (s.may i .operate = true) ∧ (v.toNat % 4 = 0)) :=
  ⟨⟨w4 0 4 1 0 0 3 0, Iface.pcie, 0x00000000#32, test_at_4_0.1⟩,
   ⟨w4 0 4 1 0 0 3 0, Iface.pcie, 0x00000018#32, test_at_4_0.2.1⟩,
   ⟨w4 0 4 1 0 0 3 0, Iface.pcie, 0x00000008#32, test_at_4_0.2.2⟩⟩

/-- States for the statement PtpPortsAndHoldover. -/
def w5 (z x0 x1 x2 x3 x4 : Nat) : State :=
  let s := wBase z
  let p : Nat := x0
  let st := if x1 = 0 then PtpState.listening else if x1 = 1 then .uncalibrated else if x1 = 2 then .slave else if x1 = 3 then .master else .passive
  let k : Nat := x2
  let b : Nat := x3
  let w : Nat := x4
  let ds : PtpDataset := ⟨128, 6, 33, 20000, 128, 77, 1⟩
  let s := onAll s
  let s := { s with tm := { s.tm with runt := 2 ^ 70, time := s.tm.time + 2 ^ 70 } }
  let s := (List.range 4).foldl (fun (s : State) q => ((s.setF (Reg.ETH_P_CFG_ROLE q) 1).setLink q true).wr (Reg.TBU_P_CTL q) (b * (q % 8))) s
  let s := (((s.setF Reg.TBU_PTP_CTL_UDP 0).setF Reg.TBU_CTL_SRC (1 + b)).setF Reg.TBU_STAT_STATE k).setF Reg.TBU_STAT_FOLLOW p
  let s := s.setF (Reg.TBU_P_STAT_SUSPECT p) b
  let s := s.setF Reg.TBU_PTP_CTL_SLAVE_ONLY 0
  let s := s.setTbu fun u => { u with hoStart := if w = 0 then 2 ^ 70 else 5, ports := u.ports.map fun x => { x with st := st, best := if w = 1 then none else some ds, bestAt := 9, sender := 4, shiftAt := some 7, divBadAt := if w = 1 then 2 ^ 70 else 3, mpdBadAt := 3, ofsValid := decide (w = 2), mpdValid := decide (w = 2), sent := [] } }
  s

theorem test_at_5_0 :
    (((w5 1 1 3 2 0 2).shaped = true) ∧ ((w5 1 1 3 2 0 2).room 8 = true) ∧ (1 < 4) ∧ ((w5 1 1 3 2 0 2).ptpPort 1 = true)) ∧
    (((w5 1 1 3 2 0 2).shaped = true) ∧ ((w5 1 1 3 2 0 2).room 8 = true) ∧ (0 < 4) ∧ ((w5 1 1 3 2 0 2).ptpPort 0 = true) ∧ ((PtpKind.announce : PtpKind) = .sync ∨ (PtpKind.announce : PtpKind) = .announce) ∧ (((w5 1 1 3 2 0 2).pp 0).st = .master) ∧ (((w5 1 1 3 2 0 2).pp 0).sent = []) ∧ ((w5 1 1 3 2 0 2).txFree 0 2 = true)) ∧
    (((w5 1 1 3 2 0 2).shaped = true) ∧ ((w5 1 1 3 2 0 2).room 8 = true) ∧ (2 < 4) ∧ ((w5 1 1 3 2 0 2).ptpPort 2 = true) ∧ (((w5 1 1 3 2 0 2).pp 2).best.isSome = true ∨ ((w5 1 1 3 2 0 2).pp 2).st = .listening) ∧ ((w5 1 1 3 2 0 2).announceComes 2 = false) ∧ (((w5 1 1 3 2 0 2).pp 2).bestAt + (w5 1 1 3 2 0 2).getF Reg.TBU_PTP_INTV_ANN_TMO * (w5 1 1 3 2 0 2).ptpPer .announce ≤ (w5 1 1 3 2 0 2).tm.runt)) ∧
    (((w5 1 1 3 2 0 2).shaped = true) ∧ ((w5 1 1 3 2 0 2).room 8 = true) ∧ (1 < 4)) ∧
    (((w5 1 1 3 2 0 2).shaped = true) ∧ ((w5 1 1 3 2 0 2).room 8 = true) ∧ ((w5 1 1 3 2 0 2).on secTbu = true) ∧ ((w5 1 1 3 2 0 2).clk = clkLocked) ∧ ((w5 1 1 3 2 0 2).src ≠ 0) ∧ ((w5 1 1 3 2 0 2).tbu.hoStart + (w5 1 1 3 2 0 2).getF Reg.TBU_HO_T_N * (w5 1 1 3 2 0 2).syncPer ≤ (w5 1 1 3 2 0 2).tm.runt) ∧ ((w5 1 1 3 2 0 2).syncComes = false)) := by decide +kernel

theorem test_at_5_1 :
    (((w5 2 0 2 1 0 2).shaped = true) ∧ ((w5 2 0 2 1 0 2).room 8 = true) ∧ (0 < 4) ∧ ((w5 2 0 2 1 0 2).ptpPort 0 = true) ∧ (((w5 2 0 2 1 0 2).pp 0).slaved = true) ∧ ((w5 2 0 2 1 0 2).getF Reg.TBU_CTL_SRC = 1) ∧ ((w5 2 0 2 1 0 2).getF Reg.TBU_STAT_FOLLOW = 0)) := by decide +kernel

theorem test_met_PtpPortsAndHoldover :
    (∃ (s : State) (p : Nat) (m : PtpMsg), (s.shaped = true) ∧ (s.room 8 = true) ∧ (p < 4) ∧ (s.ptpPort p = true)) ∧
    (∃ (s : State) (p : Nat) (m : PtpMsg) (w : PtpMsg), (w = { m with unicast := false, kind := .sync, twoStep := true, hdr := { m.hdr with domain := s.getF Reg.TBU_PTP_CTL_DOMAIN, clock := (s.pp p).sender / 2 ^ 16, port := (s.pp p).sender % 2 ^ 16, via := if s.flag Reg.TBU_PTP_CTL_UDP then .udp4 else .l2 } }) ∧ (s.shaped = true) ∧ (s.room 8 = true) ∧ (p < 4) ∧ (s.ptpPort p = true) ∧ ((s.pp p).slaved = true) ∧ (s.getF Reg.TBU_CTL_SRC = 1) ∧ (s.getF Reg.TBU_STAT_FOLLOW = p)) ∧
    (∃ (s : State) (p : Nat) (k : PtpKind), (s.shaped = true) ∧ (s.room 8 = true) ∧ (p < 4) ∧ (s.ptpPort p = true) ∧ (k = .sync ∨ k = .announce) ∧ ((s.pp p).st = .master) ∧ ((s.pp p).sent = []) ∧ (s.txFree p 2 = true)) ∧
    (∃ (s : State) (p : Nat), (s.shaped = true) ∧ (s.room 8 = true) ∧ (p < 4) ∧ (s.ptpPort p = true) ∧ ((s.pp p).best.isSome = true ∨ (s.pp p).st = .listening) ∧ (s.announceComes p = false) ∧ ((s.pp p).bestAt + s.getF Reg.TBU_PTP_INTV_ANN_TMO * s.ptpPer .announce ≤ s.tm.runt)) ∧
    (∃ (s : State) (p : Nat), (s.shaped = true) ∧ (s.room 8 = true) ∧ (p < 4)) ∧
    (∃ (s : State), (s.shaped = true) ∧ (s.room 8 = true) ∧ (s.on secTbu = true) ∧ (s.clk = clkLocked) ∧ (s.src ≠ 0) ∧ (s.tbu.hoStart + s.getF Reg.TBU_HO_T_N * s.syncPer ≤ s.tm.runt) ∧ (s.syncComes = false)) :=
  ⟨⟨w5 1 1 3 2 0 2, 1, { kind := PtpKind.announce, hdr := { domain := 69, clock := 2, port := 5, reqClock := 44, reqPort := 1956119611194261379, via := PtpVia.udp6, tlv := false }, seqId := 2, twoStep := false, origin := 1, correction := 16, raw := 1, log := -1, dataset := { prio1 := 8, cls := 2905563041211438571, acc := 0, var := 3145800, prio2 := 4193908, gm := 33909, steps := 147 }, unicast := true }, test_at_5_0.1⟩,
   ⟨w5 2 0 2 1 0 2, 0, { kind := PtpKind.management, hdr := { domain := 8, clock := 45646, port := 4194538, reqClock := 5242888, reqPort := 1276786438, via := PtpVia.l2, tlv := true }, seqId := 1039, twoStep := false, origin := 26735, correction := 132, raw := 0, log := 15, dataset := { prio1 := 2230906992, cls := 1, acc := 3858320660, var := 16, prio2 := 210, gm := 1264, steps := 2147483648 }, unicast := true }, _, rfl, test_at_5_1⟩,
   ⟨w5 1 1 3 2 0 2, 0, PtpKind.announce, test_at_5_0.2.1⟩,
   ⟨w5 1 1 3 2 0 2, 2, test_at_5_0.2.2.1⟩,
   ⟨w5 1 1 3 2 0 2, 1, test_at_5_0.2.2.2.1⟩,
   ⟨w5 1 1 3 2 0 2, test_at_5_0.2.2.2.2⟩⟩

/-- States for the statement PpsAndTransmitStamps. -/
def w6 (z x0 x1 x2 x3 : Nat) : State :=
  let s := wBase z
  let k : Nat := x0
  let b : Nat := x1
  let o : Nat := x2
  let w : Nat := x3
  let s := onAll s
  let s := if w = 0 then s.setPart secTbu (fun p => { p with st := .off }) else s
  let s := (s.setF Reg.TBU_STAT_STATE k).setF Reg.TBU_CTL_SRC 0
  let s := ((s.setF Reg.TBU_PPS_CTL_FREE b).setF Reg.TBU_PPS_CTL_WIDTH 100).wr Reg.TBU_PPS_OUT_CMP 0xF00
  let s := { s with tm := { s.tm with runt := 2 ^ 70, time := 9 * sec32 - 15 * 2 ^ 32 + 5, prev := 9 * sec32 - 15 * 2 ^ 32 - (if o = 0 then 0 else 5), reach := 9 * sec32 - 15 * 2 ^ 32 - 4 }, tbu := { s.tbu with ppsHigh := decide (o = 1), ppsRise := 3, ports := s.tbu.ports.map fun p => { p with txq := if b = 0 then [] else [⟨0x20010005, 77, 3⟩, ⟨4, 5, 6⟩] } } }
  s

theorem test_at_6_0 :
    (((w6 0 2 1 2 1).shaped = true) ∧ ((w6 0 2 1 2 1).on secTbu = true) ∧ ((w6 0 2 1 2 1).tbu.ppsHigh = false) ∧ ((w6 0 2 1 2 1).tm.reach + (w6 0 2 1 2 1).rd Reg.TBU_PPS_OUT_CMP * 2 ^ 24 ≤ ((w6 0 2 1 2 1).tm.time + (w6 0 2 1 2 1).rd Reg.TBU_PPS_OUT_CMP * 2 ^ 24) / sec32 * sec32) ∧ (2 ≤ (w6 0 2 1 2 1).clk ∨ (w6 0 2 1 2 1).flag Reg.TBU_PPS_CTL_FREE = true)) ∧
    (((w6 0 2 1 2 1).shaped = true) ∧ ((w6 0 2 1 2 1).on secTbu = true) ∧ ((w6 0 2 1 2 1).src = 0) ∧ ((w6 0 2 1 2 1).rd Reg.TBU_PPS_IN_CMP * 256 ≤ (w6 0 2 1 2 1).tw)) ∧
    (((w6 0 2 1 2 1).shaped = true) ∧ ((w6 0 2 1 2 1).hostUp = true) ∧ ((w6 0 2 1 2 1).pwr.warmBusy = false) ∧ (0 < 4) ∧ (((w6 0 2 1 2 1).pp 0).txq.head? = some ({ id := 536936453, tw := 77, epoch := 3 } : TxStamp))) := by decide +kernel

theorem test_at_6_1 :
    (((w6 0 0 0 0 3).shaped = true) ∧ ((w6 0 0 0 0 3).on secTbu = true) ∧ ((w6 0 0 0 0 3).tbu.ppsHigh = false) ∧ ((w6 0 0 0 0 3).tm.reach + (w6 0 0 0 0 3).rd Reg.TBU_PPS_OUT_CMP * 2 ^ 24 ≤ ((w6 0 0 0 0 3).tm.time + (w6 0 0 0 0 3).rd Reg.TBU_PPS_OUT_CMP * 2 ^ 24) / sec32 * sec32) ∧ ((w6 0 0 0 0 3).clk < 2) ∧ ((w6 0 0 0 0 3).flag Reg.TBU_PPS_CTL_FREE = false)) := by decide +kernel

theorem test_at_6_2 :
    (((w6 2 0 0 1 0).shaped = true) ∧ ((w6 2 0 0 1 0).tbu.ppsHigh = true) ∧ ((w6 2 0 0 1 0).expired (w6 2 0 0 1 0).tbu.ppsRise ((w6 2 0 0 1 0).getF Reg.TBU_PPS_CTL_WIDTH * 1000000) = true)) ∧
    (((w6 2 0 0 1 0).shaped = true) ∧ ((w6 2 0 0 1 0).on secTbu = false)) ∧
    (((w6 2 0 0 1 0).shaped = true) ∧ ((w6 2 0 0 1 0).hostUp = true) ∧ ((w6 2 0 0 1 0).pwr.warmBusy = false) ∧ (3 < 4) ∧ (((w6 2 0 0 1 0).pp 3).txq = [])) := by decide +kernel

theorem test_met_PpsAndTransmitStamps :
    (∃ (s : State), (s.shaped = true) ∧ (s.on secTbu = true) ∧ (s.tbu.ppsHigh = false) ∧ (s.tm.reach + s.rd Reg.TBU_PPS_OUT_CMP * 2 ^ 24 ≤ (s.tm.time + s.rd Reg.TBU_PPS_OUT_CMP * 2 ^ 24) / sec32 * sec32) ∧ (2 ≤ s.clk ∨ s.flag Reg.TBU_PPS_CTL_FREE = true)) ∧
    (∃ (s : State), (s.shaped = true) ∧ (s.on secTbu = true) ∧ (s.tbu.ppsHigh = false) ∧ (s.tm.reach + s.rd Reg.TBU_PPS_OUT_CMP * 2 ^ 24 ≤ (s.tm.time + s.rd Reg.TBU_PPS_OUT_CMP * 2 ^ 24) / sec32 * sec32) ∧ (s.clk < 2) ∧ (s.flag Reg.TBU_PPS_CTL_FREE = false)) ∧
    (∃ (s : State), (s.shaped = true) ∧ (s.tbu.ppsHigh = true) ∧ (s.expired s.tbu.ppsRise (s.getF Reg.TBU_PPS_CTL_WIDTH * 1000000) = true)) ∧
    (∃ (s : State), (s.shaped = true) ∧ (s.on secTbu = false)) ∧
    (∃ (s : State), (s.shaped = true) ∧ (s.on secTbu = true) ∧ (s.src = 0) ∧ (s.rd Reg.TBU_PPS_IN_CMP * 256 ≤ s.tw)) ∧
    (∃ (s : State) (i : Iface) (p : Nat), (s.shaped = true) ∧ (s.hostUp = true) ∧ (s.pwr.warmBusy = false) ∧ (p < 4) ∧ ((s.pp p).txq = [])) ∧
    (∃ (s : State) (i : Iface) (p : Nat) (e : TxStamp), (s.shaped = true) ∧ (s.hostUp = true) ∧ (s.pwr.warmBusy = false) ∧ (p < 4) ∧ ((s.pp p).txq.head? = some e)) :=
  ⟨⟨w6 0 2 1 2 1, test_at_6_0.1⟩,
   ⟨w6 0 0 0 0 3, test_at_6_1⟩,
   ⟨w6 2 0 0 1 0, test_at_6_2.1⟩,
   ⟨w6 2 0 0 1 0, test_at_6_2.2.1⟩,
   ⟨w6 0 2 1 2 1, test_at_6_0.2.1⟩,
   ⟨w6 2 0 0 1 0, Iface.spi, 3, test_at_6_2.2.2⟩,
   ⟨w6 0 2 1 2 1, Iface.pcie, 0, { id := 536936453, tw := 77, epoch := 3 }, test_at_6_0.2.2⟩⟩

/-- States for the statement KilnTakesOneOperationAtATime. -/
def w7 (z x0 x1 x2 x3 x4 : Nat) : State :=
  let s := wBase z
  let b : Nat := x0
  let lv : Nat := x1
  let k : Nat := x2
  let o : Nat := [0, 1, 2, 3, 4, 5].getD x3 0
  let sl : Nat := x4
  let s := levels (wImaged s) (if lv = 0 then .operate else .engineer)
  let s := s.setF Reg.KLN_STAT_BUSY (if b = 0 then 1 else 0)
  let s := s.setF Reg.MTR_SEAL_STAT_OPEN sl
  let s := if k = 0 then s.wr Reg.KLN_SRC_LEN 0x1F8 else if k = 1 then { s with dram := Mem.wr s.dram 0x1180 0x55 } else s
  s

theorem test_at_7_0 :
    (((w7 3 0 1 2 1 1).hostUp = true) ∧ ((w7 3 0 1 2 1 1).level (Iface.pcie : Iface) = .engineer) ∧ ((w7 3 0 1 2 1 1).flag Reg.KLN_STAT_BUSY = true) ∧ (Instr.klnRevoke (Iface.pcie) 0x00000000#32 : Instr) ∈ [Instr.klnStore (Iface.pcie : Iface) (0x00000000#32 : Word), .klnRefire (Iface.pcie : Iface) (0x00000000#32 : Word), .klnJclear (Iface.pcie : Iface) (0x00000000#32 : Word), .klnRevoke (Iface.pcie : Iface) (0x00000000#32 : Word), .klnInvalidate (Iface.pcie : Iface) (0x00000000#32 : Word)]) := by decide +kernel

theorem test_at_7_1 :
    (((w7 0 1 1 0 3 1).hostUp = true) ∧ ((w7 0 1 1 0 3 1).level (Iface.pcie : Iface) = .engineer) ∧ ((w7 0 1 1 0 3 1).flag Reg.KLN_STAT_BUSY = false) ∧ (Instr.klnStore (Iface.pcie) 0x00000003#32 : Instr) ∈ [Instr.klnStore (Iface.pcie : Iface) (0x00000003#32 : Word), .klnRefire (Iface.pcie : Iface) (0x00000003#32 : Word)]) := by decide +kernel

theorem test_met_KilnTakesOneOperationAtATime :
    (∃ (s : State) (i : Iface) (v : Word) (c : Instr), (s.hostUp = true) ∧ (s.level i = .engineer) ∧ (s.flag Reg.KLN_STAT_BUSY = true) ∧ c ∈ [Instr.klnStore i v, .klnRefire i v, .klnJclear i v, .klnRevoke i v, .klnInvalidate i v]) ∧
    (∃ (s : State) (i : Iface) (v : Word) (c : Instr), (s.hostUp = true) ∧ (s.level i = .engineer) ∧ (s.flag Reg.KLN_STAT_BUSY = false) ∧ c ∈ [Instr.klnStore i v, .klnRefire i v]) :=
  ⟨⟨w7 3 0 1 2 1 1, Iface.pcie, 0x00000000#32, Instr.klnRevoke (Iface.pcie) 0x00000000#32, test_at_7_0⟩,
   ⟨w7 0 1 1 0 3 1, Iface.pcie, 0x00000003#32, Instr.klnStore (Iface.pcie) 0x00000003#32, test_at_7_1⟩⟩

/-- States for the statement KilnSlotsChangeOnlyAsCommanded. -/
def w8 (z x0 x1 x2 x3 x4 : Nat) : State :=
  let s := wBase z
  let b : Nat := x0
  let lv : Nat := x1
  let k : Nat := x2
  let o : Nat := [0, 1, 2, 3, 4, 5].getD x3 0
  let sl : Nat := x4
  let s := levels (wImaged s) (if lv = 0 then .operate else .engineer)
  let s := s.setF Reg.KLN_STAT_BUSY (if b = 0 then 1 else 0)
  let s := s.setF Reg.MTR_SEAL_STAT_OPEN sl
  let s := if k = 0 then s.wr Reg.KLN_SRC_LEN 0x1F8 else if k = 1 then { s with dram := Mem.wr s.dram 0x1180 0x55 } else s
  let s := s.setF Reg.KLN_STAT_BUSY 0
  let s := if b = 1 then { s with kln := { s.kln with op := some (.store sl), staged := wImage } } else s
  s

theorem test_at_8_0 :
    (((w8 1 1 1 3 4 1).hostUp = true) ∧ ((w8 1 1 1 3 4 1).level (Iface.spi : Iface) = .engineer) ∧ ((w8 1 1 1 3 4 1).flag Reg.KLN_STAT_BUSY = false) ∧ (1 < 2) ∧ (((w8 1 1 1 3 4 1).rd Reg.KLN_SRC_LEN) % 16 = 0) ∧ (((w8 1 1 1 3 4 1).rd Reg.KLN_SRC_LEN) ≤ slotMax) ∧ (((w8 1 1 1 3 4 1).rd Reg.KLN_SRC_ADDR) + ((w8 1 1 1 3 4 1).rd Reg.KLN_SRC_LEN) ≤ (w8 1 1 1 3 4 1).dramSize)) ∧
    (((w8 1 1 1 3 4 1).hostUp = true) ∧ ((w8 1 1 1 3 4 1).level (Iface.spi : Iface) = .engineer) ∧ ((w8 1 1 1 3 4 1).flag Reg.KLN_STAT_BUSY = false) ∧ (3 < 4)) ∧
    (((w8 1 1 1 3 4 1).hostUp = true) ∧ ((w8 1 1 1 3 4 1).level (Iface.pcie : Iface) = .engineer) ∧ ((w8 1 1 1 3 4 1).flag Reg.KLN_STAT_BUSY = false) ∧ (((w8 1 1 1 3 4 1).kln.journal.any fun e => e.cls == 2) = false)) ∧
    (((w8 1 1 1 3 4 1).hostUp = true) ∧ ((w8 1 1 1 3 4 1).level (Iface.spi : Iface) = .engineer) ∧ ((w8 1 1 1 3 4 1).flag Reg.KLN_STAT_BUSY = false) ∧ (3 < 4) ∧ ((w8 1 1 1 3 4 1).sealOpen = true) ∧ ((w8 1 1 1 3 4 1).getF Reg.KLN_STAT_FIRED < 3 → 3 ≠ (w8 1 1 1 3 4 1).kln.firedKey)) ∧
    ((1 < 2) ∧ ((w8 1 1 1 3 4 1).kln.op = some (.store 1))) := by decide +kernel

theorem test_at_8_1 :
    (((w8 0 1 2 0 4 0).hostUp = true) ∧ ((w8 0 1 2 0 4 0).level (Iface.spi : Iface) = .engineer) ∧ ((w8 0 1 2 0 4 0).flag Reg.KLN_STAT_BUSY = false) ∧ (3 < 4) ∧ ((w8 0 1 2 0 4 0).sealOpen = false)) := by decide +kernel

theorem test_met_KilnSlotsChangeOnlyAsCommanded :
    (∃ (s : State) (i : Iface) (u : Nat) (n : Nat) (a : Nat) (e : Nat), (n = s.rd Reg.KLN_SRC_LEN) ∧ (a = s.rd Reg.KLN_SRC_ADDR) ∧ (e = (s.judge (s.dramRd a n)).1) ∧ (s.hostUp = true) ∧ (s.level i = .engineer) ∧ (s.flag Reg.KLN_STAT_BUSY = false) ∧ (u < 2) ∧ (n % 16 = 0) ∧ (n ≤ slotMax) ∧ (a + n ≤ s.dramSize)) ∧
    (∃ (s : State) (i : Iface) (u : Nat), (s.hostUp = true) ∧ (s.level i = .engineer) ∧ (s.flag Reg.KLN_STAT_BUSY = false) ∧ (u < 4)) ∧
    (∃ (s : State) (i : Iface) (v : Word), (s.hostUp = true) ∧ (s.level i = .engineer) ∧ (s.flag Reg.KLN_STAT_BUSY = false) ∧ ((s.kln.journal.any fun e => e.cls == 2) = false)) ∧
    (∃ (s : State) (i : Iface) (k : Nat), (s.hostUp = true) ∧ (s.level i = .engineer) ∧ (s.flag Reg.KLN_STAT_BUSY = false) ∧ (k < 4) ∧ (s.sealOpen = true) ∧ (s.getF Reg.KLN_STAT_FIRED < 3 → k ≠ s.kln.firedKey)) ∧
    (∃ (s : State) (i : Iface) (k : Nat), (s.hostUp = true) ∧ (s.level i = .engineer) ∧ (s.flag Reg.KLN_STAT_BUSY = false) ∧ (k < 4) ∧ (s.sealOpen = false)) ∧
    (∃ (s : State) (u : Nat), (u < 2) ∧ (s.kln.op = some (.store u))) :=
  ⟨⟨w8 1 1 1 3 4 1, Iface.spi, 1, _, _, _, rfl, rfl, rfl, test_at_8_0.1⟩,
   ⟨w8 1 1 1 3 4 1, Iface.spi, 3, test_at_8_0.2.1⟩,
   ⟨w8 1 1 1 3 4 1, Iface.pcie, 0x00000000#32, test_at_8_0.2.2.1⟩,
   ⟨w8 1 1 1 3 4 1, Iface.spi, 3, test_at_8_0.2.2.2.1⟩,
   ⟨w8 0 1 2 0 4 0, Iface.spi, 3, test_at_8_1⟩,
   ⟨w8 1 1 1 3 4 1, 1, test_at_8_0.2.2.2.2⟩⟩

/-- States for the statement RefireFiresTheSlot. -/
def w9 (z x0 x1 x2 x3 x4 : Nat) : State :=
  let s := wBase z
  let b : Nat := x0
  let lv : Nat := x1
  let k : Nat := x2
  let o : Nat := [0, 1, 2, 3, 4, 5].getD x3 0
  let sl : Nat := x4
  let s := levels (wImaged s) (if lv = 0 then .operate else .engineer)
  let s := s.setF Reg.KLN_STAT_BUSY (if b = 0 then 1 else 0)
  let s := s.setF Reg.MTR_SEAL_STAT_OPEN sl
  let s := if k = 0 then s.wr Reg.KLN_SRC_LEN 0x1F8 else if k = 1 then { s with dram := Mem.wr s.dram 0x1180 0x55 } else s
  let s := s.setF Reg.KLN_STAT_BUSY 0
  let s := (s.setF Reg.WYT_STAT_STATE 0)
  let s := if o = 4 then { s with kln := { s.kln with u1 := Mem.wr s.kln.u1 0x1A0 0x77 } } else if o = 5 then { s with kln := { s.kln with u1 := [] } } else s
  let s := if b = 1 then s.klnBusy (some (.refire (o % 3) 0 2)) else s
  s

theorem test_at_9_0 :
    (((w9 0 2 2 1 5 1).shaped = true) ∧ ((w9 0 2 2 1 5 1).room 400 = true) ∧ ((w9 0 2 2 1 5 1).hostUp = true) ∧ ((w9 0 2 2 1 5 1).level (Iface.spi : Iface) = .engineer) ∧ ((w9 0 2 2 1 5 1).flag Reg.KLN_STAT_BUSY = false) ∧ (3 < 4)) := by decide +kernel

theorem test_at_9_1 :
    (((w9 0 1 1 0 3 1).shaped = true) ∧ ((w9 0 1 1 0 3 1).room 400 = true) ∧ (0 < 3) ∧ ((w9 0 1 1 0 3 1).kln.op = some (.refire 0 0 2)) ∧ ((w9 0 1 1 0 3 1).kln.refiring = []) ∧ ((w9 0 1 1 0 3 1).paired = false) ∧ ((w9 0 1 1 0 3 1).refireWaits = false)) := by decide +kernel

theorem test_met_RefireFiresTheSlot :
    (∃ (s : State) (i : Iface) (u : Nat), (s.shaped = true) ∧ (s.room 400 = true) ∧ (s.hostUp = true) ∧ (s.level i = .engineer) ∧ (s.flag Reg.KLN_STAT_BUSY = false) ∧ (u < 4)) ∧
    (∃ (s : State) (u : Nat), (s.shaped = true) ∧ (s.room 400 = true) ∧ (u < 3) ∧ (s.kln.op = some (.refire u 0 2)) ∧ (s.kln.refiring = []) ∧ (s.paired = false) ∧ (s.refireWaits = false)) :=
  ⟨⟨w9 0 2 2 1 5 1, Iface.spi, 3, test_at_9_0⟩,
   ⟨w9 0 1 1 0 3 1, 0, test_at_9_1⟩⟩

/-- States for the statement PatchJudgesEveryEntry. -/
def w10 (z x0 x1 x2 x3 x4 : Nat) : State :=
  let s := wBase z
  let b : Nat := x0
  let lv : Nat := x1
  let k : Nat := x2
  let o : Nat := [0, 1, 2, 3, 4, 5].getD x3 0
  let sl : Nat := x4
  let s := levels (wImaged s) (if lv = 0 then .operate else .engineer)
  let s := s.setF Reg.KLN_STAT_BUSY (if b = 0 then 1 else 0)
  let s := s.setF Reg.MTR_SEAL_STAT_OPEN sl
  let s := if k = 0 then s.wr Reg.KLN_SRC_LEN 0x1F8 else if k = 1 then { s with dram := Mem.wr s.dram 0x1180 0x55 } else s
  let s := s.setF Reg.KLN_STAT_BUSY 0
  let s := s.setF Reg.WYT_STAT_STATE 0
  let s := { s with crs := CrsSt.reset }
  let s := s.setF (Reg.CRS_PORT_QUOTA 8) 4
  let s := (s.setF Reg.KLN_PATCH_CTL_COUNT (if o = 0 then 0 else if o = 5 then 33 else 2)).setF Reg.KLN_PATCH_CTL_SCHED 0
  let s := (s.setF Reg.KLN_PATCH_CTL_LATE 0).wr (Reg.KLN_PATCH_IDX 0) 0x3000001
  let s := (s.wr (Reg.KLN_PATCH_VAL 0) (if b = 2 then 60 else 20)).wr (Reg.KLN_PATCH_IDX 1) (if o = 4 then 0x3000009 else 0x3000002)
  let s := s.wr (Reg.KLN_PATCH_VAL 1) 100
  s

theorem test_at_10_0 :
    (((w10 2 2 0 2 0 0).shaped = true) ∧ ((w10 2 2 0 2 0 0).hostUp = true) ∧ ((w10 2 2 0 2 0 0).may (Iface.spi : Iface) .operate = true) ∧ (((w10 2 2 0 2 0 0).getF Reg.KLN_PATCH_CTL_COUNT) = 0 ∨ 32 < ((w10 2 2 0 2 0 0).getF Reg.KLN_PATCH_CTL_COUNT))) := by decide +kernel

theorem test_at_10_1 :
    (((w10 3 0 0 0 2 0).shaped = true) ∧ ((w10 3 0 0 0 2 0).hostUp = true) ∧ ((w10 3 0 0 0 2 0).may (Iface.pcie : Iface) .operate = true) ∧ (0 < ((w10 3 0 0 0 2 0).getF Reg.KLN_PATCH_CTL_COUNT)) ∧ (((w10 3 0 0 0 2 0).getF Reg.KLN_PATCH_CTL_COUNT) ≤ 32) ∧ (((w10 3 0 0 0 2 0).patchEntries ((w10 3 0 0 0 2 0).getF Reg.KLN_PATCH_CTL_COUNT)).findIdx? (fun e => (w10 3 0 0 0 2 0).patchErr (Iface.pcie : Iface) e != 0) = some 1)) := by decide +kernel

theorem test_at_10_2 :
    (((w10 0 1 1 0 3 1).shaped = true) ∧ ((w10 0 1 1 0 3 1).hostUp = true) ∧ ((w10 0 1 1 0 3 1).may (Iface.spi : Iface) .operate = true) ∧ (0 < ((w10 0 1 1 0 3 1).getF Reg.KLN_PATCH_CTL_COUNT)) ∧ (((w10 0 1 1 0 3 1).getF Reg.KLN_PATCH_CTL_COUNT) ≤ 32) ∧ (((w10 0 1 1 0 3 1).patchEntries ((w10 0 1 1 0 3 1).getF Reg.KLN_PATCH_CTL_COUNT)).all (fun e => (w10 0 1 1 0 3 1).patchErr (Iface.spi : Iface) e == 0) = true) ∧ ((w10 0 1 1 0 3 1).kln.journal = []) ∧ ((w10 0 1 1 0 3 1).copiesOnly 8 = false) ∧ (((w10 0 1 1 0 3 1).patchEntries ((w10 0 1 1 0 3 1).getF Reg.KLN_PATCH_CTL_COUNT)).all (fun e => (((w10 0 1 1 0 3 1).patchDesc (e.1 / 65536) (e.1 % 4096)).map (·.cls)).getD 0 != 2) = true) ∧ ((w10 0 1 1 0 3 1).patchSched = .immediate) ∧ ((w10 0 1 1 0 3 1).refusal (reqOf 8 (w10 0 1 1 0 3 1).patchSched ((w10 0 1 1 0 3 1).getF Reg.KLN_PATCH_CTL_LATE) (((w10 0 1 1 0 3 1).patchEntries ((w10 0 1 1 0 3 1).getF Reg.KLN_PATCH_CTL_COUNT)).map fun e => ⟨10 * 2 ^ 28, e.1 / 65536 * 65536 + e.1 % 4096, e.2⟩) .none) = 0) ∧ (((w10 0 1 1 0 3 1).slot 0).st = .free) ∧ ((w10 0 1 1 0 3 1).paired = false)) := by decide +kernel

theorem test_met_PatchJudgesEveryEntry :
    (∃ (s : State) (i : Iface) (v : Word) (n : Nat), (n = s.getF Reg.KLN_PATCH_CTL_COUNT) ∧ (s.shaped = true) ∧ (s.hostUp = true) ∧ (s.may i .operate = true) ∧ (n = 0 ∨ 32 < n)) ∧
    (∃ (s : State) (i : Iface) (v : Word) (n : Nat) (k : Nat), (n = s.getF Reg.KLN_PATCH_CTL_COUNT) ∧ (s.shaped = true) ∧ (s.hostUp = true) ∧ (s.may i .operate = true) ∧ (0 < n) ∧ (n ≤ 32) ∧ ((s.patchEntries n).findIdx? (fun e => s.patchErr i e != 0) = some k)) ∧
    (∃ (s : State) (i : Iface) (v : Word) (n : Nat) (r : CReq), (n = s.getF Reg.KLN_PATCH_CTL_COUNT) ∧ (r = reqOf 8 s.patchSched (s.getF Reg.KLN_PATCH_CTL_LATE) ((s.patchEntries n).map fun e => ⟨10 * 2 ^ 28, e.1 / 65536 * 65536 + e.1 % 4096, e.2⟩) .none) ∧ (s.shaped = true) ∧ (s.hostUp = true) ∧ (s.may i .operate = true) ∧ (0 < n) ∧ (n ≤ 32) ∧ ((s.patchEntries n).all (fun e => s.patchErr i e == 0) = true) ∧ (s.kln.journal = []) ∧ (s.copiesOnly 8 = false) ∧ ((s.patchEntries n).all (fun e => ((s.patchDesc (e.1 / 65536) (e.1 % 4096)).map (·.cls)).getD 0 != 2) = true) ∧ (s.patchSched = .immediate) ∧ (s.refusal r = 0) ∧ ((s.slot 0).st = .free) ∧ (s.paired = false)) :=
  ⟨⟨w10 2 2 0 2 0 0, Iface.spi, 0x00000001#32, _, rfl, test_at_10_0⟩,
   ⟨w10 3 0 0 0 2 0, Iface.pcie, 0x00000000#32, _, 1, rfl, test_at_10_1⟩,
   ⟨w10 0 1 1 0 3 1, Iface.spi, 0x0000001a#32, _, _, rfl, rfl, test_at_10_2⟩⟩

/-- States for the statement ArmSubmitsTheStagedCourse. -/
def w11 (z x0 x1 x2 x3 x4 x5 x6 : Nat) : State :=
  let s := wBase z
  let b : Nat := x0
  let c : Nat := x1
  let d : Nat := x2
  let e : Nat := x3
  let s := levels (onAll s) (if e = 0 then .read else .operate)
  let s := { s with tm := { s.tm with fc := s.tm.fc + 100, runt := s.tm.runt + 2 ^ 60 }, pwr := { s.pwr with unpowered := false } }
  let s := ((s.setF Reg.WYT_STAT_STATE 0).setF Reg.ANG_STAT_SCHED_OK b)
  let s := s.setF (Reg.CRS_PORT_QUOTA 0) (if d = 0 then 0 else 64)
  let s := { s with pending := [], crs := CrsSt.reset }
  let a : Action := if c = 0 then ⟨7 * 2 ^ 28 + 0x1234, 77, 0x33005⟩ else if c = 1 then ⟨5 * 2 ^ 28 + 3, 0, 2⟩ else ⟨7 * 2 ^ 28, 1, 1⟩
  let s := ((s.wr (Reg.CRS_STG_ACT_0 0) a.w0).wr (Reg.CRS_STG_ACT_1 0) a.w1).wr (Reg.CRS_STG_ACT_2 0) a.w2
  let m : Nat := x4
  let s := (((s.setF Reg.CRS_STG_HDR_COUNT (if e = 4 then 0 else 1)).setF Reg.CRS_STG_HDR_SCHED m).setF Reg.CRS_STG_HDR_LATE 0).setF Reg.CRS_STG_HDR_RSET 0
  let s := s.wr96 Reg.CRS_STG_TGT_0 (if m = 1 then twPack (s.tw + (if b = 0 then 0 else 2 ^ 40)) else (s.pos + 2 ^ 40) % 2 ^ 64)
  let s := if d = 1 then { s with crs := { s.crs with slots := s.crs.slots.map fun (x : Slot) => { x with st := .pending, port := 3 } } } else s
  let i := if x5 = 0 then Iface.pcie else .spi
  let g : Nat := x6
  let s := if g = 2 then { s with crs := { s.crs with arms := [⟨i, decide (e ≠ 0), s.tm.fc⟩] } } else s
  s

theorem test_at_11_0 :
    (((w11 0 1 2 3 3 0 1 1).shaped = true) ∧ ((w11 0 1 2 3 3 0 1 1).hostUp = true) ∧ ((w11 0 1 2 3 3 0 1 1).crs.arms = []) ∧ ((0x00000fd8#32 : Word).toNat.testBit 1 = false)) := by decide +kernel

theorem test_at_11_1 :
    (((w11 0 1 1 3 0 2 0 2).shaped = true) ∧ ((w11 0 1 1 3 0 2 0 2).crs.arms.head? = some ({ ifc := Iface.pcie, ok := false, fc := 100 } : ArmReq)) ∧ ((w11 0 1 1 3 0 2 0 2).crs.arms.length = 1) ∧ ((w11 0 1 1 3 0 2 0 2).pending = []) ∧ ((w11 0 1 1 3 0 2 0 2).pwr.unpowered = false) ∧ ((w11 0 1 1 3 0 2 0 2).paired = false) ∧ ((w11 0 1 1 3 0 2 0 2).crs.decisions = []) ∧ ((w11 0 1 1 3 0 2 0 2).prt.jobs = []) ∧ (((w11 0 1 1 3 0 2 0 2).prt.comp.all fun x => x.rise.isNone) = true) ∧ (({ ifc := Iface.pcie, ok := false, fc := 100 } : ArmReq).ok = false)) := by decide +kernel

theorem test_at_11_2 :
    (((w11 0 0 1 0 4 0 0 2).shaped = true) ∧ ((w11 0 0 1 0 4 0 0 2).crs.arms.head? = some ({ ifc := Iface.pcie, ok := true, fc := 100 } : ArmReq)) ∧ ((w11 0 0 1 0 4 0 0 2).crs.arms.length = 1) ∧ ((w11 0 0 1 0 4 0 0 2).pending = []) ∧ ((w11 0 0 1 0 4 0 0 2).pwr.unpowered = false) ∧ ((w11 0 0 1 0 4 0 0 2).paired = false) ∧ ((w11 0 0 1 0 4 0 0 2).crs.decisions = []) ∧ ((w11 0 0 1 0 4 0 0 2).prt.jobs = []) ∧ (((w11 0 0 1 0 4 0 0 2).prt.comp.all fun x => x.rise.isNone) = true) ∧ (({ ifc := Iface.pcie, ok := true, fc := 100 } : ArmReq).ok = true) ∧ ((w11 0 0 1 0 4 0 0 2).refusal (w11 0 0 1 0 4 0 0 2).staged ≠ 0)) := by decide +kernel

theorem test_at_11_3 :
    (((w11 3 1 2 3 1 2 1 2).shaped = true) ∧ ((w11 3 1 2 3 1 2 1 2).crs.arms.head? = some ({ ifc := Iface.spi, ok := true, fc := 100 } : ArmReq)) ∧ ((w11 3 1 2 3 1 2 1 2).crs.arms.length = 1) ∧ ((w11 3 1 2 3 1 2 1 2).pending = []) ∧ ((w11 3 1 2 3 1 2 1 2).pwr.unpowered = false) ∧ ((w11 3 1 2 3 1 2 1 2).paired = false) ∧ ((w11 3 1 2 3 1 2 1 2).crs.decisions = []) ∧ ((w11 3 1 2 3 1 2 1 2).prt.jobs = []) ∧ (((w11 3 1 2 3 1 2 1 2).prt.comp.all fun x => x.rise.isNone) = true) ∧ (({ ifc := Iface.spi, ok := true, fc := 100 } : ArmReq).ok = true) ∧ ((w11 3 1 2 3 1 2 1 2).refusal (w11 3 1 2 3 1 2 1 2).staged = 0) ∧ ((w11 3 1 2 3 1 2 1 2).lateRule (w11 3 1 2 3 1 2 1 2).staged = some ((Sched.angle 1099511627776, none, false, false) : Sched × Option Nat × Bool × Bool)) ∧ (((w11 3 1 2 3 1 2 1 2).crs.slots.findIdx? fun c => c.st == .free) = some 0)) := by decide +kernel

theorem test_met_ArmSubmitsTheStagedCourse :
    (∃ (s : State) (i : Iface) (v : Word), (s.shaped = true) ∧ (s.hostUp = true) ∧ (s.crs.arms = []) ∧ (v.toNat.testBit 1 = false)) ∧
    (∃ (s : State) (r : ArmReq), (s.shaped = true) ∧ (s.crs.arms.head? = some r) ∧ (s.crs.arms.length = 1) ∧ (s.pending = []) ∧ (s.pwr.unpowered = false) ∧ (s.paired = false) ∧ (s.crs.decisions = []) ∧ (s.prt.jobs = []) ∧ ((s.prt.comp.all fun x => x.rise.isNone) = true) ∧ (r.ok = false)) ∧
    (∃ (s : State) (r : ArmReq), (s.shaped = true) ∧ (s.crs.arms.head? = some r) ∧ (s.crs.arms.length = 1) ∧ (s.pending = []) ∧ (s.pwr.unpowered = false) ∧ (s.paired = false) ∧ (s.crs.decisions = []) ∧ (s.prt.jobs = []) ∧ ((s.prt.comp.all fun x => x.rise.isNone) = true) ∧ (r.ok = true) ∧ (s.refusal s.staged ≠ 0)) ∧
    (∃ (s : State) (r : ArmReq) (q : Sched × Option Nat × Bool × Bool) (n : Nat), (s.shaped = true) ∧ (s.crs.arms.head? = some r) ∧ (s.crs.arms.length = 1) ∧ (s.pending = []) ∧ (s.pwr.unpowered = false) ∧ (s.paired = false) ∧ (s.crs.decisions = []) ∧ (s.prt.jobs = []) ∧ ((s.prt.comp.all fun x => x.rise.isNone) = true) ∧ (r.ok = true) ∧ (s.refusal s.staged = 0) ∧ (s.lateRule s.staged = some q) ∧ ((s.crs.slots.findIdx? fun c => c.st == .free) = some n)) :=
  ⟨⟨w11 0 1 2 3 3 0 1 1, Iface.spi, 0x00000fd8#32, test_at_11_0⟩,
   ⟨w11 0 1 1 3 0 2 0 2, { ifc := Iface.pcie, ok := false, fc := 100 }, test_at_11_1⟩,
   ⟨w11 0 0 1 0 4 0 0 2, { ifc := Iface.pcie, ok := true, fc := 100 }, test_at_11_2⟩,
   ⟨w11 3 1 2 3 1 2 1 2, { ifc := Iface.spi, ok := true, fc := 100 }, (Sched.angle 1099511627776, none, false, false), 0, test_at_11_3⟩⟩

/-- States for the statement CoursesSetOrAreDiscarded. -/
def w12 (z x0 x1 x2 x3 x4 x5 x6 x7 : Nat) : State :=
  let s := wBase z
  let b : Nat := x0
  let c : Nat := x1
  let d : Nat := x2
  let e : Nat := x3
  let s := levels (onAll s) (if e = 0 then .read else .operate)
  let s := { s with tm := { s.tm with fc := s.tm.fc + 100, runt := s.tm.runt + 2 ^ 60 }, pwr := { s.pwr with unpowered := false } }
  let s := ((s.setF Reg.WYT_STAT_STATE 0).setF Reg.ANG_STAT_SCHED_OK b)
  let s := s.setF (Reg.CRS_PORT_QUOTA 0) (if d = 0 then 0 else 64)
  let s := { s with pending := [], crs := CrsSt.reset }
  let a : Action := if c = 0 then ⟨7 * 2 ^ 28 + 0x1234, 77, 0x33005⟩ else if c = 1 then ⟨5 * 2 ^ 28 + 3, 0, 2⟩ else ⟨5 * 2 ^ 28 + 4, 0, 9⟩
  let st := if x4 = 0 then SlotSt.pending else if x4 = 1 then .pending else if x4 = 2 then .committed else if x4 = 3 then .discarded else .set
  let sc := if x5 = 0 then Sched.immediate else if x5 = 1 then .time s.tw else if x5 = 2 then .angle s.pos else .time (s.tw + 2 ^ 50)
  let ms : Nat := [0, 0, 2 ^ 60].getD x6 0
  let late := if x7 = 0 then false else true
  let s := { s with tm := { s.tm with fc := s.tm.fc + 5 }, crs := { s.crs with slots := s.crs.slots.mapIdx fun k (x : Slot) => if k % 2 = 0 then { x with st := st, sched := sc, acts := [a], accFc := 3, setFc := 5, lateFlag := late, evt := late, deadline := if b = 0 then none else some ms, port := if k = 4 then 2 else 0, seq := k, status := 1 } else x } }
  s

theorem test_at_12_0 :
    (((w12 0 0 1 0 4 1 0 2 0).shaped = true) ∧ ((w12 0 0 1 0 4 1 0 2 0).room 4 = true) ∧ (191 < 192) ∧ (((w12 0 0 1 0 4 1 0 2 0).slot 191).mirror = .no) ∧ (((w12 0 0 1 0 4 1 0 2 0).slot 191).tag = .none) ∧ (((w12 0 0 1 0 4 1 0 2 0).slot 191).srcId = 0) ∧ ((w12 0 0 1 0 4 1 0 2 0).courseDue ((w12 0 0 1 0 4 1 0 2 0).slot 191) = false)) ∧
    (((w12 0 0 1 0 4 1 0 2 0).shaped = true) ∧ ((w12 0 0 1 0 4 1 0 2 0).room 4 = true) ∧ (14 < 192) ∧ (((w12 0 0 1 0 4 1 0 2 0).slot 14).mirror = .no) ∧ (((w12 0 0 1 0 4 1 0 2 0).slot 14).tag = .none) ∧ (((w12 0 0 1 0 4 1 0 2 0).slot 14).srcId = 0) ∧ ((w12 0 0 1 0 4 1 0 2 0).courseDue ((w12 0 0 1 0 4 1 0 2 0).slot 14) = true) ∧ (((w12 0 0 1 0 4 1 0 2 0).slot 14).rset = false) ∧ (((w12 0 0 1 0 4 1 0 2 0).slot 14).st = .committed ∨ (w12 0 0 1 0 4 1 0 2 0).actsErr ((w12 0 0 1 0 4 1 0 2 0).slot 14).port ((w12 0 0 1 0 4 1 0 2 0).slot 14).acts = none)) := by decide +kernel

theorem test_at_12_1 :
    (((w12 3 1 2 3 0 0 1 1 0).shaped = true) ∧ ((w12 3 1 2 3 0 0 1 1 0).room 4 = true) ∧ (164 < 192) ∧ (((w12 3 1 2 3 0 0 1 1 0).slot 164).mirror = .no) ∧ (((w12 3 1 2 3 0 0 1 1 0).slot 164).tag = .none) ∧ (((w12 3 1 2 3 0 0 1 1 0).slot 164).srcId = 0) ∧ ((w12 3 1 2 3 0 0 1 1 0).courseDue ((w12 3 1 2 3 0 0 1 1 0).slot 164) = true) ∧ (((w12 3 1 2 3 0 0 1 1 0).slot 164).st = .pending) ∧ ((w12 3 1 2 3 0 0 1 1 0).actsErr ((w12 3 1 2 3 0 0 1 1 0).slot 164).port ((w12 3 1 2 3 0 0 1 1 0).slot 164).acts = some ((34, 0) : Nat × Nat))) := by decide +kernel

theorem test_at_12_2 :
    (((w12 3 1 1 3 1 0 3 0 1).shaped = true) ∧ ((w12 3 1 1 3 1 0 3 0 1).room 4 = true) ∧ (98 < 192) ∧ (((w12 3 1 1 3 1 0 3 0 1).slot 98).mirror = .no) ∧ (((w12 3 1 1 3 1 0 3 0 1).slot 98).tag = .none) ∧ (((w12 3 1 1 3 1 0 3 0 1).slot 98).srcId = 0) ∧ (((w12 3 1 1 3 1 0 3 0 1).slot 98).deadline = some 0) ∧ (0 ≤ (w12 3 1 1 3 1 0 3 0 1).tm.runt) ∧ (((w12 3 1 1 3 1 0 3 0 1).slot 98).st = .pending) ∧ ((w12 3 1 1 3 1 0 3 0 1).courseDue ((w12 3 1 1 3 1 0 3 0 1).slot 98) = false)) := by decide +kernel

theorem test_at_12_3 :
    (((w12 0 0 1 0 3 4 1 1 0).shaped = true) ∧ ((w12 0 0 1 0 3 4 1 1 0).room 4 = true) ∧ (28 < 192) ∧ (((w12 0 0 1 0 3 4 1 1 0).slot 28).mirror = .no) ∧ (((w12 0 0 1 0 3 4 1 1 0).slot 28).tag = .none) ∧ (((w12 0 0 1 0 3 4 1 1 0).slot 28).srcId = 0) ∧ (((w12 0 0 1 0 3 4 1 1 0).slot 28).setFc < (w12 0 0 1 0 3 4 1 1 0).tm.fc) ∧ (((w12 0 0 1 0 3 4 1 1 0).slot 28).st = .set ∨ ((w12 0 0 1 0 3 4 1 1 0).slot 28).st = .discarded)) := by decide +kernel

theorem test_met_CoursesSetOrAreDiscarded :
    (∃ (s : State) (n : Nat), (s.shaped = true) ∧ (s.room 4 = true) ∧ (n < 192) ∧ ((s.slot n).mirror = .no) ∧ ((s.slot n).tag = .none) ∧ ((s.slot n).srcId = 0) ∧ (s.courseDue (s.slot n) = false)) ∧
    (∃ (s : State) (n : Nat), (s.shaped = true) ∧ (s.room 4 = true) ∧ (n < 192) ∧ ((s.slot n).mirror = .no) ∧ ((s.slot n).tag = .none) ∧ ((s.slot n).srcId = 0) ∧ (s.courseDue (s.slot n) = true) ∧ ((s.slot n).rset = false) ∧ ((s.slot n).st = .committed ∨ s.actsErr (s.slot n).port (s.slot n).acts = none)) ∧
    (∃ (s : State) (n : Nat) (e : Nat × Nat), (s.shaped = true) ∧ (s.room 4 = true) ∧ (n < 192) ∧ ((s.slot n).mirror = .no) ∧ ((s.slot n).tag = .none) ∧ ((s.slot n).srcId = 0) ∧ (s.courseDue (s.slot n) = true) ∧ ((s.slot n).st = .pending) ∧ (s.actsErr (s.slot n).port (s.slot n).acts = some e)) ∧
    (∃ (s : State) (n : Nat) (d : Nat), (s.shaped = true) ∧ (s.room 4 = true) ∧ (n < 192) ∧ ((s.slot n).mirror = .no) ∧ ((s.slot n).tag = .none) ∧ ((s.slot n).srcId = 0) ∧ ((s.slot n).deadline = some d) ∧ (d ≤ s.tm.runt) ∧ ((s.slot n).st = .pending) ∧ (s.courseDue (s.slot n) = false)) ∧
    (∃ (s : State) (n : Nat), (s.shaped = true) ∧ (s.room 4 = true) ∧ (n < 192) ∧ ((s.slot n).mirror = .no) ∧ ((s.slot n).tag = .none) ∧ ((s.slot n).srcId = 0) ∧ ((s.slot n).setFc < s.tm.fc) ∧ ((s.slot n).st = .set ∨ (s.slot n).st = .discarded)) :=
  ⟨⟨w12 0 0 1 0 4 1 0 2 0, 191, test_at_12_0.1⟩,
   ⟨w12 0 0 1 0 4 1 0 2 0, 14, test_at_12_0.2⟩,
   ⟨w12 3 1 2 3 0 0 1 1 0, 164, (34, 0), test_at_12_1⟩,
   ⟨w12 3 1 1 3 1 0 3 0 1, 98, 0, test_at_12_2⟩,
   ⟨w12 0 0 1 0 3 4 1 1 0, 28, test_at_12_3⟩⟩

/-- States for the statement AbortDiscardsAPendingHostCourse. -/
def w13 (z x0 x1 x2 x3 x4 x5 x6 x7 : Nat) : State :=
  let s := wBase z
  let b : Nat := x0
  let c : Nat := x1
  let d : Nat := x2
  let e : Nat := x3
  let s := levels (onAll s) (if e = 0 then .read else .operate)
  let s := { s with tm := { s.tm with fc := s.tm.fc + 100, runt := s.tm.runt + 2 ^ 60 }, pwr := { s.pwr with unpowered := false } }
  let s := ((s.setF Reg.WYT_STAT_STATE 0).setF Reg.ANG_STAT_SCHED_OK b)
  let s := s.setF (Reg.CRS_PORT_QUOTA 0) (if d = 0 then 0 else 64)
  let s := { s with pending := [], crs := CrsSt.reset }
  let a : Action := if c = 0 then ⟨7 * 2 ^ 28 + 0x1234, 77, 0x33005⟩ else if c = 1 then ⟨5 * 2 ^ 28 + 3, 0, 2⟩ else ⟨5 * 2 ^ 28 + 4, 0, 9⟩
  let st := if x4 = 0 then SlotSt.pending else if x4 = 1 then .pending else if x4 = 2 then .committed else if x4 = 3 then .discarded else .set
  let sc := if x5 = 0 then Sched.immediate else if x5 = 1 then .time s.tw else if x5 = 2 then .angle s.pos else .time (s.tw + 2 ^ 50)
  let ms : Nat := [0, 0, 2 ^ 60].getD x6 0
  let late := if x7 = 0 then false else true
  let s := { s with tm := { s.tm with fc := s.tm.fc + 5 }, crs := { s.crs with slots := s.crs.slots.mapIdx fun k (x : Slot) => if k % 2 = 0 then { x with st := st, sched := sc, acts := [a], accFc := 3, setFc := 5, lateFlag := late, evt := late, deadline := if b = 0 then none else some ms, port := if k = 4 then 2 else 0, seq := k, status := 1 } else x } }
  s

theorem test_at_13_0 :
    (((w13 1 0 1 3 3 0 3 1 1).shaped = true) ∧ ((w13 1 0 1 3 3 0 3 1 1).room 1 = true) ∧ (14 < 192) ∧ ((w13 1 0 1 3 3 0 3 1 1).hostUp = true) ∧ ((w13 1 0 1 3 3 0 3 1 1).may (Iface.pcie : Iface) .operate = true) ∧ (((w13 1 0 1 3 3 0 3 1 1).slot 14).st = .pending) ∧ (((w13 1 0 1 3 3 0 3 1 1).slot 14).port = 0) ∧ ((w13 1 0 1 3 3 0 3 1 1).courseDue ((w13 1 0 1 3 3 0 3 1 1).slot 14) = false) ∧ (((w13 1 0 1 3 3 0 3 1 1).slot 14).tag = .none)) ∧
    (((w13 1 0 1 3 3 0 3 1 1).shaped = true) ∧ ((w13 1 0 1 3 3 0 3 1 1).room 1 = true) ∧ (27 < 192) ∧ ((w13 1 0 1 3 3 0 3 1 1).hostUp = true) ∧ ((w13 1 0 1 3 3 0 3 1 1).may (Iface.spi : Iface) .operate = true) ∧ (((w13 1 0 1 3 3 0 3 1 1).slot 27).st ≠ .pending ∨ ((w13 1 0 1 3 3 0 3 1 1).slot 27).port ≠ 0 ∨ (w13 1 0 1 3 3 0 3 1 1).courseDue ((w13 1 0 1 3 3 0 3 1 1).slot 27) = true)) := by decide +kernel

theorem test_met_AbortDiscardsAPendingHostCourse :
    (∃ (s : State) (n : Nat) (i : Iface) (v : BitVec 32), (v = BitVec.ofNat 32 (256 * n + 2)) ∧ (s.shaped = true) ∧ (s.room 1 = true) ∧ (n < 192) ∧ (s.hostUp = true) ∧ (s.may i .operate = true) ∧ ((s.slot n).st = .pending) ∧ ((s.slot n).port = 0) ∧ (s.courseDue (s.slot n) = false) ∧ ((s.slot n).tag = .none)) ∧
    (∃ (s : State) (n : Nat) (i : Iface) (v : BitVec 32), (v = BitVec.ofNat 32 (256 * n + 2)) ∧ (s.shaped = true) ∧ (s.room 1 = true) ∧ (n < 192) ∧ (s.hostUp = true) ∧ (s.may i .operate = true) ∧ ((s.slot n).st ≠ .pending ∨ (s.slot n).port ≠ 0 ∨ s.courseDue (s.slot n) = true)) :=
  ⟨⟨w13 1 0 1 3 3 0 3 1 1, 14, Iface.pcie, _, rfl, test_at_13_0.1⟩,
   ⟨w13 1 0 1 3 3 0 3 1 1, 27, Iface.spi, _, rfl, test_at_13_0.2⟩⟩

/-- States for the statement StandingCoursesSetAndRearm. -/
def w14 (z x0 x1 x2 x3 x4 x5 x6 x7 : Nat) : State :=
  let s := wBase z
  let b : Nat := x0
  let c : Nat := x1
  let d : Nat := x2
  let e : Nat := x3
  let s := levels (onAll s) (if e = 0 then .read else .operate)
  let s := { s with tm := { s.tm with fc := s.tm.fc + 100, runt := s.tm.runt + 2 ^ 60 }, pwr := { s.pwr with unpowered := false } }
  let s := ((s.setF Reg.WYT_STAT_STATE 0).setF Reg.ANG_STAT_SCHED_OK b)
  let s := s.setF (Reg.CRS_PORT_QUOTA 0) (if d = 0 then 0 else 64)
  let s := { s with pending := [], crs := CrsSt.reset }
  let s := { s with evt := { s.evt with raised := [] } }
  let so : Nat := [0x3001, 0x3002, 0x3045].getD x4 0
  let up : Nat := x5
  let a : Action := if c = 0 then ⟨2 * 2 ^ 28 + 2 ^ 24, 3, 0⟩ else if c = 1 then ⟨7 * 2 ^ 28 + 5, 6, 7⟩ else ⟨2 * 2 ^ 28 + 2 ^ 24, 0x8000, 0⟩
  let st := if x6 = 0 then SlotSt.standing else .set
  let ck := if x7 = 0 then none else if x7 = 1 then some none else if x7 = 2 then some (some 0) else some (some 3)
  let s := s.setF (Reg.PRT_F_STAT_REFIRE 1) (if up = 0 then 1 else 0)
  let s := s.setF (Reg.PRT_TRIPO_EN 0) 1
  let s := s.setF (Reg.PRT_TRIPO_EN 1) 1
  let s := (s.setF (Reg.DIO_CH_CFG_TYPE 0) 3).setF (Reg.DIO_CH_CFG_TYPE 1) 3
  let s := { s with tm := { s.tm with fc := s.tm.fc + 9 }, crs := { s.crs with decisions := [⟨so, 5, 4, some 41, 3, ck⟩, ⟨so + 1, 6, 5, some 42, 3, none⟩], slots := s.crs.slots.mapIdx fun k (x : Slot) => if k = 191 then { x with st := st, sched := .standing, acts := [a], setFc := 5, port := if so < 0x3040 then 5 else 6, srcId := so } else x } }
  s

theorem test_at_14_0 :
    (((w14 0 0 1 0 4 0 0 1 2).shaped = true) ∧ ((w14 0 0 1 0 4 0 0 1 2).room 8 = true) ∧ (191 < 192) ∧ (((w14 0 0 1 0 4 0 0 1 2).slot 191).srcId ≠ 0) ∧ (((w14 0 0 1 0 4 0 0 1 2).slot 191).st = .set) ∧ (((w14 0 0 1 0 4 0 0 1 2).slot 191).setFc < (w14 0 0 1 0 4 0 0 1 2).tm.fc)) := by decide +kernel

theorem test_met_StandingCoursesSetAndRearm :
    (∃ (s : State) (n : Nat) (d : Decision), (s.shaped = true) ∧ (s.room 8 = true) ∧ (n < 192) ∧ ((s.slot n).srcId ≠ 0) ∧ ((s.crs.decisions.find? fun d => d.src == (s.slot n).srcId && decide (d.due ≤ s.tm.fc)) = some d) ∧ ((s.slot n).st = .standing) ∧ ((s.slot n).port = 5) ∧ (s.flag (Reg.PRT_F_STAT_REFIRE ((s.slot n).srcId % 256)) = true)) ∧
    (∃ (s : State) (n : Nat) (d : Decision), (s.shaped = true) ∧ (s.room 8 = true) ∧ (n < 192) ∧ ((s.slot n).srcId ≠ 0) ∧ ((s.crs.decisions.find? fun d => d.src == (s.slot n).srcId && decide (d.due ≤ s.tm.fc)) = some d) ∧ ((s.slot n).st = .standing) ∧ ((s.slot n).port ≠ 5 ∨ s.flag (Reg.PRT_F_STAT_REFIRE ((s.slot n).srcId % 256)) = false) ∧ (s.decisionErr n d = none)) ∧
    (∃ (s : State) (n : Nat) (d : Decision) (e : Nat), (s.shaped = true) ∧ (s.room 8 = true) ∧ (n < 192) ∧ ((s.slot n).srcId ≠ 0) ∧ ((s.crs.decisions.find? fun d => d.src == (s.slot n).srcId && decide (d.due ≤ s.tm.fc)) = some d) ∧ ((s.slot n).st = .standing) ∧ ((s.slot n).port ≠ 5 ∨ s.flag (Reg.PRT_F_STAT_REFIRE ((s.slot n).srcId % 256)) = false) ∧ (s.decisionErr n d = some e)) ∧
    (∃ (s : State) (n : Nat), (s.shaped = true) ∧ (s.room 8 = true) ∧ (n < 192) ∧ ((s.slot n).srcId ≠ 0) ∧ ((s.slot n).st = .set) ∧ ((s.slot n).setFc < s.tm.fc)) :=
  ⟨⟨w14 2 1 0 0 0 0 0 0 0, 191, { src := 12289, due := 5, drawAt := 4, seq := some 41, mask := 3, check := none }, by decide +kernel⟩,
   ⟨w14 1 0 1 0 1 2 1 0 0, 191, { src := 12357, due := 5, drawAt := 4, seq := some 41, mask := 3, check := none }, by decide +kernel⟩,
   ⟨w14 2 0 2 3 1 0 1 0 3, 191, { src := 12289, due := 5, drawAt := 4, seq := some 41, mask := 3, check := some (some 3) }, 3, by decide +kernel⟩,
   ⟨w14 0 0 1 0 4 0 0 1 2, 191, test_at_14_0⟩⟩

/-- States for the statement MirroredCoursesFollowThePartner. -/
def w15 (z x0 x1 x2 x3 x4 x5 x6 : Nat) : State :=
  let s := wBase z
  let b : Nat := x0
  let c : Nat := x1
  let d : Nat := x2
  let e : Nat := x3
  let s := levels (onAll s) (if e = 0 then .read else .operate)
  let s := { s with tm := { s.tm with fc := s.tm.fc + 100, runt := s.tm.runt + 2 ^ 60 }, pwr := { s.pwr with unpowered := false } }
  let s := ((s.setF Reg.WYT_STAT_STATE 0).setF Reg.ANG_STAT_SCHED_OK b)
  let s := s.setF (Reg.CRS_PORT_QUOTA 0) (if d = 0 then 0 else 64)
  let s := { s with pending := [], crs := CrsSt.reset }
  let ro : Nat := [1, 2].getD x4 0
  let mi := if x5 = 0 then Mirror.waiting else if x5 = 1 then .accepted else .copy
  let st := if x6 = 0 then SlotSt.pending else .set
  let s := (((s.setF Reg.WYT_STAT_STATE 2).setF Reg.WYT_STAT_ROLE ro).setF Reg.ETH_W_STAT_LINK (if d = 3 then 0 else 1))
  let s := (s.setF (Reg.CRS_PORT_MIR 0) 1).setF (Reg.CRS_PORT_QUOTA 10) (if b = 0 then 0 else 9)
  let s := { s with crs := { s.crs with slots := s.crs.slots.mapIdx fun k (x : Slot) => if k = 2 then { x with st := st, sched := .time (s.tw + (if c = 0 then 0 else 2 ^ 50)), acts := [⟨7 * 2 ^ 28, 1, 1⟩], mirror := mi, mirSeq := b, seq := e % 2, status := 3, setFc := 5 } else x, told := [(0, 3), (1, 0x28), (7, 4)] } }
  s

theorem test_at_15_0 :
    (((w15 2 1 1 1 1 0 2 0).shaped = true) ∧ ((w15 2 1 1 1 1 0 2 0).room 8 = true) ∧ ((w15 2 1 1 1 1 0 2 0).wUp = false ∨ (w15 2 1 1 1 1 0 2 0).paired = false ∨ (w15 2 1 1 1 1 0 2 0).role ≠ 2)) ∧
    (((w15 2 1 1 1 1 0 2 0).shaped = true) ∧ ((w15 2 1 1 1 1 0 2 0).room 8 = true) ∧ ((w15 2 1 1 1 1 0 2 0).wUp = true) ∧ (((w15 2 1 1 1 1 0 2 0).slotOfSeq fun x => x.st == .pending && x.mirror == .copy && x.mirSeq == 1) = some 2)) := by decide +kernel

theorem test_at_15_1 :
    (((w15 1 0 0 0 2 1 0 0).shaped = true) ∧ ((w15 1 0 0 0 2 1 0 0).room 8 = true) ∧ ((w15 1 0 0 0 2 1 0 0).wUp = true) ∧ ((w15 1 0 0 0 2 1 0 0).paired = true) ∧ ((w15 1 0 0 0 2 1 0 0).role = 2)) ∧
    (((w15 1 0 0 0 2 1 0 0).shaped = true) ∧ ((w15 1 0 0 0 2 1 0 0).room 8 = true) ∧ ((w15 1 0 0 0 2 1 0 0).wUp = true) ∧ (((w15 1 0 0 0 2 1 0 0).slotOfSeq fun x => x.st == .pending && x.mirror == .waiting && x.seq == 0) = some 2) ∧ (143 ≠ 1)) ∧
    (((w15 1 0 0 0 2 1 0 0).shaped = true) ∧ ((w15 1 0 0 0 2 1 0 0).room 8 = true) ∧ ((w15 1 0 0 0 2 1 0 0).wUp = true) ∧ (((w15 1 0 0 0 2 1 0 0).slotOfSeq fun x => x.st == .pending && x.mirror == .waiting && x.seq == 2085240973) = none)) ∧
    (((w15 1 0 0 0 2 1 0 0).shaped = true) ∧ ((w15 1 0 0 0 2 1 0 0).room 8 = true) ∧ ((w15 1 0 0 0 2 1 0 0).wUp = true) ∧ (((w15 1 0 0 0 2 1 0 0).slotOfSeq fun x => x.st == .pending && x.mirror == .copy && x.mirSeq == 3) = none)) ∧
    (((w15 1 0 0 0 2 1 0 0).shaped = true) ∧ ((w15 1 0 0 0 2 1 0 0).room 8 = true) ∧ ((w15 1 0 0 0 2 1 0 0).wUp = true)) ∧
    (((w15 1 0 0 0 2 1 0 0).shaped = true) ∧ ((w15 1 0 0 0 2 1 0 0).room 8 = true) ∧ (2 < 192) ∧ (((w15 1 0 0 0 2 1 0 0).slot 2).st = .pending) ∧ (((w15 1 0 0 0 2 1 0 0).slot 2).mirror = .waiting) ∧ ((w15 1 0 0 0 2 1 0 0).instant ((w15 1 0 0 0 2 1 0 0).slot 2) = true) ∧ ((w15 1 0 0 0 2 1 0 0).pending = []) ∧ ((w15 1 0 0 0 2 1 0 0).wUp = true)) := by decide +kernel

theorem test_met_MirroredCoursesFollowThePartner :
    (∃ (s : State) (c : CourseCopy), (s.shaped = true) ∧ (s.room 8 = true) ∧ (s.wUp = false ∨ s.paired = false ∨ s.role ≠ 2)) ∧
    (∃ (s : State) (c : CourseCopy) (r : CReq), (r = copyReq c) ∧ (s.shaped = true) ∧ (s.room 8 = true) ∧ (s.wUp = true) ∧ (s.paired = true) ∧ (s.role = 2)) ∧
    (∃ (s : State) (seq : Nat) (n : Nat) (a : Nat), (s.shaped = true) ∧ (s.room 8 = true) ∧ (s.wUp = true) ∧ ((s.slotOfSeq fun x => x.st == .pending && x.mirror == .waiting && x.seq == seq) = some n) ∧ (a ≠ 1)) ∧
    (∃ (s : State) (seq : Nat) (a : Nat), (s.shaped = true) ∧ (s.room 8 = true) ∧ (s.wUp = true) ∧ ((s.slotOfSeq fun x => x.st == .pending && x.mirror == .waiting && x.seq == seq) = none)) ∧
    (∃ (s : State) (seq : Nat) (n : Nat), (s.shaped = true) ∧ (s.room 8 = true) ∧ (s.wUp = true) ∧ ((s.slotOfSeq fun x => x.st == .pending && x.mirror == .copy && x.mirSeq == seq) = some n)) ∧
    (∃ (s : State) (seq : Nat), (s.shaped = true) ∧ (s.room 8 = true) ∧ (s.wUp = true) ∧ ((s.slotOfSeq fun x => x.st == .pending && x.mirror == .copy && x.mirSeq == seq) = none)) ∧
    (∃ (s : State) (seq : Nat) (a : Nat), (s.shaped = true) ∧ (s.room 8 = true) ∧ (s.wUp = true)) ∧
    (∃ (s : State) (n : Nat), (s.shaped = true) ∧ (s.room 8 = true) ∧ (n < 192) ∧ ((s.slot n).st = .pending) ∧ ((s.slot n).mirror = .waiting) ∧ (s.instant (s.slot n) = true) ∧ (s.pending = []) ∧ (s.wUp = true)) :=
  ⟨⟨w15 2 1 1 1 1 0 2 0, { seq := 7406148, hdr := 0x00010101#32, tgt0 := 0x00100000#32, tgt1 := 0x0071014c#32, tgt2 := 0x003fff05#32, dl := 0x00000000#32, acts := [(0x00000046#32, 0x00000008#32, 0x263c1acc#32)], entries := [] }, test_at_15_0.1⟩,
   ⟨w15 1 0 0 0 2 1 0 0, { seq := 1912892177, hdr := 0x00010000#32, tgt0 := 0xd17dcb55#32, tgt1 := 0x00000007#32, tgt2 := 0x00000000#32, dl := 0x00000000#32, acts := [], entries := [] }, _, rfl, test_at_15_1.1⟩,
   ⟨w15 1 0 0 0 2 1 0 0, 0, 2, 143, test_at_15_1.2.1⟩,
   ⟨w15 1 0 0 0 2 1 0 0, 2085240973, 1, test_at_15_1.2.2.1⟩,
   ⟨w15 2 1 1 1 1 0 2 0, 1, 2, test_at_15_0.2⟩,
   ⟨w15 1 0 0 0 2 1 0 0, 3, test_at_15_1.2.2.2.1⟩,
   ⟨w15 1 0 0 0 2 1 0 0, 162, 713, test_at_15_1.2.2.2.2.1⟩,
   ⟨w15 1 0 0 0 2 1 0 0, 2, test_at_15_1.2.2.2.2.2⟩⟩

/-- States for the statement ConversionsGiveSampleWords. -/
def w16 (z x0 x1 x2 x3 x4 : Nat) : State :=
  let s := wBase z
  let g : Nat := x0
  let b : Nat := x1
  let c : Nat := x2
  let d : Nat := x3
  let e : Nat := x4
  let s := onAll s
  let s := { s with tm := { s.tm with fc := s.tm.fc + 9, runt := s.tm.runt + 2 ^ 62, nom := s.tm.nom + 2 ^ 62, time := s.tm.time + 2 ^ 62 } }
  let s := ([7] : List Nat).foldl (fun (s : State) g => ([0, 1, 2, 7] : List Nat).foldl (fun (s : State) k => (((s.setF (Reg.AFE_CH_CFG_MODE g k) (k % 4)).setF (Reg.AFE_CH_STAT_OOS g k) (if e = 0 then 1 else 0)).setF (Reg.AFE_CH_MATCH_G_G g k) (2 ^ 22)).setF (Reg.AFE_CH_STAT_FUSE_HI g k) b) s) s
  let s := ([7] : List Nat).foldl (fun (s : State) g => ((s.afeMap g).afeRoles g).setGrp g (fun x => { x with step := none, chs := x.chs.map fun y => { y with win := ⟨if d = 0 then 65530 else 65536, if c = 0 then 10 else 5000, 77, 99, if d = 1 then 1 else 3000000, 3010000⟩ } })) s
  let s := if d = 3 then s.setPart (secAfe g) (fun p => { p with st := .off, refire := decide (b = 0) }) else s
  s

theorem test_at_16_0 :
    (((w16 3 0 1 1 3 4).shaped = true) ∧ (5 < 64) ∧ ((w16 3 0 1 1 3 4).on (secAfe (5 / 8)) = false)) ∧
    (((w16 3 0 1 1 3 4).shaped = true) ∧ (63 < 64) ∧ ((w16 3 0 1 1 3 4).on (secAfe (63 / 8)) = true) ∧ ((w16 3 0 1 1 3 4).dark 63 = true)) ∧
    (((w16 3 0 1 1 3 4).shaped = true) ∧ (40 < 64) ∧ ((w16 3 0 1 1 3 4).dark 40 = false) ∧ ((w16 3 0 1 1 3 4).chMode 40 ≤ 1)) ∧
    (((w16 3 0 1 1 3 4).shaped = true) ∧ (58 < 64) ∧ ((w16 3 0 1 1 3 4).dark 58 = false) ∧ ((w16 3 0 1 1 3 4).chMode 58 = 2)) ∧
    (((w16 3 0 1 1 3 4).shaped = true) ∧ (63 < 64) ∧ (65536 ≤ ((w16 3 0 1 1 3 4).afeChan 63).win.n)) := by decide +kernel

theorem test_at_16_1 :
    (((w16 1 5 1 0 1 4).shaped = true) ∧ (57 < 64) ∧ ((w16 1 5 1 0 1 4).dark 57 = false) ∧ ((w16 1 5 1 0 1 4).chMode 57 = 1)) := by decide +kernel

theorem test_met_ConversionsGiveSampleWords :
    (∃ (s : State) (n : Nat) (g : Nat) (c : Nat) (rA : Nat) (rB : Nat) (rS : Nat) (age : Nat) (half : Bool), (g = n / 8) ∧ (c = n % 8) ∧ (s.shaped = true) ∧ (n < 64) ∧ (s.on (secAfe g) = false)) ∧
    (∃ (s : State) (n : Nat) (g : Nat) (c : Nat) (rA : Nat) (rB : Nat) (rS : Nat) (age : Nat), (g = n / 8) ∧ (c = n % 8) ∧ (s.shaped = true) ∧ (n < 64) ∧ (s.on (secAfe g) = true) ∧ (s.dark n = true)) ∧
    (∃ (s : State) (n : Nat) (g : Nat) (c : Nat) (rA : Nat) (rB : Nat) (rS : Nat) (age : Nat) (p : Int × Bool × State), (g = n / 8) ∧ (c = n % 8) ∧ (p = s.coded g (s.getF (Reg.AFE_CH_MAP_CV_A g c)) (rA % 4096)) ∧ (s.shaped = true) ∧ (n < 64) ∧ (s.dark n = false) ∧ (s.chMode n ≤ 1)) ∧
    (∃ (s : State) (n : Nat) (g : Nat) (c : Nat) (rA : Nat) (rB : Nat) (rS : Nat) (age : Nat) (p : Int × Bool × State) (q : Int), (g = n / 8) ∧ (c = n % 8) ∧ (p = s.coded g (s.getF (Reg.AFE_CH_MAP_CV_B g c)) (rB % 4096)) ∧ (q = Config.skewFir ((p.1 :: (s.afeChan n).bq).take 4) (toSigned 32 (s.wordAt g (Reg.AFE_CH_SKEW g c) (s.sampleInst true age)))) ∧ (s.shaped = true) ∧ (n < 64) ∧ (s.dark n = false) ∧ (s.chMode n = 1)) ∧
    (∃ (s : State) (n : Nat) (g : Nat) (c : Nat) (rA : Nat) (rB : Nat) (rS : Nat) (age : Nat) (a : Int × Bool × State) (b : Int × Bool × State) (hi : Bool), (g = n / 8) ∧ (c = n % 8) ∧ (a = s.coded g (s.getF (Reg.AFE_CH_MAP_CV_A g c)) (rA % 4096)) ∧ (b = a.2.2.coded g (s.getF (Reg.AFE_CH_MAP_CV_B g c)) (rB % 4096)) ∧ (hi = fuse (s.flag (Reg.AFE_CH_STAT_FUSE_HI g c)) (s.matched n a.1) (rB % 4096)) ∧ (s.shaped = true) ∧ (n < 64) ∧ (s.dark n = false) ∧ (s.chMode n = 2)) ∧
    (∃ (s : State) (n : Nat) (g : Nat) (c : Nat), (g = n / 8) ∧ (c = n % 8) ∧ (s.shaped = true) ∧ (n < 64) ∧ (65536 ≤ (s.afeChan n).win.n)) :=
  ⟨⟨w16 3 0 1 1 3 4, 5, _, _, 554767921, 14511, 8192, 14, false, rfl, rfl, test_at_16_0.1⟩,
   ⟨w16 3 0 1 1 3 4, 63, _, _, 1024, 2274710852201995381, 19078, 0, rfl, rfl, test_at_16_0.2.1⟩,
   ⟨w16 3 0 1 1 3 4, 40, _, _, 4194405, 41, 18, 24, _, rfl, rfl, rfl, test_at_16_0.2.2.1⟩,
   ⟨w16 1 5 1 0 1 4, 57, _, _, 131, 15940586124352418481, 7, 0, _, _, rfl, rfl, rfl, rfl, test_at_16_1⟩,
   ⟨w16 3 0 1 1 3 4, 58, _, _, 3104, 5649, 29, 0, _, _, _, rfl, rfl, rfl, rfl, rfl, test_at_16_0.2.2.2.1⟩,
   ⟨w16 3 0 1 1 3 4, 63, _, _, rfl, rfl, test_at_16_0.2.2.2.2⟩⟩

/-- States for the statement ConvertersTakeTurns. -/
def w17 (z x0 x1 x2 x3 x4 x5 : Nat) : State :=
  let s := wBase z
  let g : Nat := x0
  let b : Nat := x1
  let c : Nat := x2
  let d : Nat := x3
  let e : Nat := x4
  let s := onAll s
  let s := { s with tm := { s.tm with fc := s.tm.fc + 9, runt := s.tm.runt + 2 ^ 62, nom := s.tm.nom + 2 ^ 62, time := s.tm.time + 2 ^ 62 } }
  let s := ([7] : List Nat).foldl (fun (s : State) g => ((s.afeMap g).afeRoles g)) s
  let s := ([0, 1, 2, 63] : List Nat).foldl (fun (s : State) k => s.setF (Reg.AFE_CH_STAT_OOS (k / 8) (k % 8)) (if e = 0 then 1 else 0)) s
  let s := ([0, 1, 2, 63] : List Nat).foldl (fun (s : State) k => s.setF (Reg.AFE_CH_CTL_OOS (k / 8) (k % 8)) 0) s
  let s := ([7] : List Nat).foldl (fun (s : State) g => (((s.setF (Reg.AFE_RPT_CTL_EN g) (if d = 0 then 0 else 1)).setF (Reg.AFE_RPT_CTL_INTERVAL g) 100).setF (Reg.AFE_RPT_LIM_OFS g) 3000).setF (Reg.AFE_RPT_LIM_GAIN g) 500) s
  let s := ((s.setF Reg.PWR_STAT_PROFILE 0))
  let st : RptStep := ⟨3, 16, if d = 1 then 4096 else 300, if d = 1 then 200 else 256, 256000, if b = 0 then 256000 else 9999000, 256000000, 256000000, 990, 1010, if c = 2 then some (if e = 1 then none else some (1, 5)) else none⟩
  let hasStep : Nat := x5
  let s := ([7] : List Nat).foldl (fun (s : State) g => s.setGrp g (fun x => { x with step := if hasStep = 0 then none else some st, stepFrom := 3, dac := if b = 0 then none else some (.calib 4), dacWait := [], cvs := x.cvs.mapIdx fun k y => { y with quiet := if e = 2 then 3 else 16, calAt := k * 2 ^ 40, term := if k = 5 then some (1, 5, 100000) else none } })) s
  let s := ([7] : List Nat).foldl (fun (s : State) g => (s.setCvStat g 4 cvCalib 0 0 0).setF (Reg.AFE_CH_STAT_SUBST g 2) 1) s
  let s := ([7] : List Nat).foldl (fun (s : State) g => s.setF (Reg.AFE_RPT_STAT_NOSPARE g) 0) s
  s

theorem test_at_17_0 :
    (((w17 1 0 0 1 1 3 0).shaped = true) ∧ ((w17 1 0 0 1 1 3 0).room 8 = true) ∧ (7 < 8) ∧ (((w17 1 0 0 1 1 3 0).grp 7).cvs.length = 18) ∧ ((w17 1 0 0 1 1 3 0).rptTarget 7 = some 0) ∧ (((w17 1 0 0 1 1 3 0).cvsIn 7 cvSpare).head? = some 16) ∧ ((w17 1 0 0 1 1 3 0).rptRuns 7 = true) ∧ (((w17 1 0 0 1 1 3 0).grp 7).step = none) ∧ ((w17 1 0 0 1 1 3 0).expired ((w17 1 0 0 1 1 3 0).grp 7).stepFrom ((w17 1 0 0 1 1 3 0).getF (Reg.AFE_RPT_CTL_INTERVAL 7) * 1000000) = true)) ∧
    (((w17 1 0 0 1 1 3 0).shaped = true) ∧ ((w17 1 0 0 1 1 3 0).room 8 = true) ∧ (7 < 8) ∧ (((w17 1 0 0 1 1 3 0).grp 7).cvs.length = 18) ∧ (4 < 18) ∧ ((w17 1 0 0 1 1 3 0).cvState 7 4 = cvCalib) ∧ ((((w17 1 0 0 1 1 3 0).dacGrant 7).grp 7).dac = some (.calib 4) ∨ (((w17 1 0 0 1 1 3 0).dacGrant 7).grp 7).dac = none) ∧ (calPasses (3 : Int) 4194778 11 = true)) := by decide +kernel

theorem test_at_17_1 :
    (((w17 2 6 0 1 0 0 1).shaped = true) ∧ ((w17 2 6 0 1 0 0 1).room 8 = true) ∧ (7 < 8) ∧ (((w17 2 6 0 1 0 0 1).grp 7).cvs.length = 18) ∧ (((w17 2 6 0 1 0 0 1).grp 7).step = some ({ target := 3, spare := 16, edges := 300, pairs := 256, sT := 256000, sS := 256000, sSS := 256000000, sST := 256000000, lo := 990, hi := 1010, term := none } : RptStep)) ∧ (256 ≤ ({ target := 3, spare := 16, edges := 300, pairs := 256, sT := 256000, sS := 256000, sSS := 256000000, sST := 256000000, lo := 990, hi := 1010, term := none } : RptStep).pairs) ∧ (({ target := 3, spare := 16, edges := 300, pairs := 256, sT := 256000, sS := 256000, sSS := 256000000, sST := 256000000, lo := 990, hi := 1010, term := none } : RptStep).term = none)) ∧
    (((w17 2 6 0 1 0 0 1).shaped = true) ∧ ((w17 2 6 0 1 0 0 1).room 8 = true) ∧ (7 < 8) ∧ (((w17 2 6 0 1 0 0 1).grp 7).cvs.length = 18) ∧ (((w17 2 6 0 1 0 0 1).grp 7).step = some ({ target := 3, spare := 16, edges := 300, pairs := 256, sT := 256000, sS := 256000, sSS := 256000000, sST := 256000000, lo := 990, hi := 1010, term := none } : RptStep)) ∧ ((w17 2 6 0 1 0 0 1).flag (Reg.AFE_RPT_CTL_EN 7) = false ∨ (w17 2 6 0 1 0 0 1).govFull = false ∨ 4096 ≤ ({ target := 3, spare := 16, edges := 300, pairs := 256, sT := 256000, sS := 256000, sSS := 256000000, sST := 256000000, lo := 990, hi := 1010, term := none } : RptStep).edges ∧ ({ target := 3, spare := 16, edges := 300, pairs := 256, sT := 256000, sS := 256000, sSS := 256000000, sST := 256000000, lo := 990, hi := 1010, term := none } : RptStep).pairs < 256)) ∧
    (((w17 2 6 0 1 0 0 1).shaped = true) ∧ ((w17 2 6 0 1 0 0 1).room 8 = true) ∧ (7 < 8) ∧ (((w17 2 6 0 1 0 0 1).grp 7).cvs.length = 18) ∧ (5 < 18) ∧ (((w17 2 6 0 1 0 0 1).cv 7 5).term = some ((1, 5, 100000) : Rat × Rat × Nat)) ∧ ((w17 2 6 0 1 0 0 1).fadeLen 7 ≤ ((1, 5, 100000) : Rat × Rat × Nat).2.2)) ∧
    (((w17 2 6 0 1 0 0 1).shaped = true) ∧ ((w17 2 6 0 1 0 0 1).room 8 = true) ∧ (7 < 8) ∧ (((w17 2 6 0 1 0 0 1).grp 7).cvs.length = 18) ∧ (4 < 18) ∧ ((w17 2 6 0 1 0 0 1).cvState 7 4 = cvCalib) ∧ ((((w17 2 6 0 1 0 0 1).dacGrant 7).grp 7).dac = some (.calib 4) ∨ (((w17 2 6 0 1 0 0 1).dacGrant 7).grp 7).dac = none) ∧ (calPasses (0 : Int) 1 3252 = false)) := by decide +kernel

theorem test_at_17_2 :
    (((w17 1 3 1 2 3 2 1).shaped = true) ∧ ((w17 1 3 1 2 3 2 1).room 8 = true) ∧ (7 < 8) ∧ (((w17 1 3 1 2 3 2 1).grp 7).cvs.length = 18) ∧ (((w17 1 3 1 2 3 2 1).grp 7).step = some ({ target := 3, spare := 16, edges := 300, pairs := 256, sT := 256000, sS := 9999000, sSS := 256000000, sST := 256000000, lo := 990, hi := 1010, term := some (some (1, 5)) } : RptStep)) ∧ (({ target := 3, spare := 16, edges := 300, pairs := 256, sT := 256000, sS := 9999000, sSS := 256000000, sST := 256000000, lo := 990, hi := 1010, term := some (some (1, 5)) } : RptStep).term = some (some (1, 5) : Option (Rat × Rat))) ∧ (({ target := 3, spare := 16, edges := 300, pairs := 256, sT := 256000, sS := 9999000, sSS := 256000000, sST := 256000000, lo := 990, hi := 1010, term := some (some (1, 5)) } : RptStep).target < 18) ∧ (({ target := 3, spare := 16, edges := 300, pairs := 256, sT := 256000, sS := 9999000, sSS := 256000000, sST := 256000000, lo := 990, hi := 1010, term := some (some (1, 5)) } : RptStep).spare < 18) ∧ (({ target := 3, spare := 16, edges := 300, pairs := 256, sT := 256000, sS := 9999000, sSS := 256000000, sST := 256000000, lo := 990, hi := 1010, term := some (some (1, 5)) } : RptStep).target ≠ ({ target := 3, spare := 16, edges := 300, pairs := 256, sT := 256000, sS := 9999000, sSS := 256000000, sST := 256000000, lo := 990, hi := 1010, term := some (some (1, 5)) } : RptStep).spare) ∧ (((w17 1 3 1 2 3 2 1).getF (Reg.AFE_CV_STAT_CH 7 ({ target := 3, spare := 16, edges := 300, pairs := 256, sT := 256000, sS := 9999000, sSS := 256000000, sST := 256000000, lo := 990, hi := 1010, term := some (some (1, 5)) } : RptStep).target)) < 8) ∧ ((w17 1 3 1 2 3 2 1).flag (Reg.AFE_CH_STAT_OOS 7 ((w17 1 3 1 2 3 2 1).getF (Reg.AFE_CV_STAT_CH 7 ({ target := 3, spare := 16, edges := 300, pairs := 256, sT := 256000, sS := 9999000, sSS := 256000000, sST := 256000000, lo := 990, hi := 1010, term := some (some (1, 5)) } : RptStep).target))) = true ∨ (w17 1 3 1 2 3 2 1).flag (Reg.AFE_CH_CTL_OOS 7 ((w17 1 3 1 2 3 2 1).getF (Reg.AFE_CV_STAT_CH 7 ({ target := 3, spare := 16, edges := 300, pairs := 256, sT := 256000, sS := 9999000, sSS := 256000000, sST := 256000000, lo := 990, hi := 1010, term := some (some (1, 5)) } : RptStep).target))) = true ∨ (w17 1 3 1 2 3 2 1).on (secAfe 7) = false ∨ (w17 1 3 1 2 3 2 1).kln.refiring.contains (secAfe 7) = true ∨ ((w17 1 3 1 2 3 2 1).cv 7 ({ target := 3, spare := 16, edges := 300, pairs := 256, sT := 256000, sS := 9999000, sSS := 256000000, sST := 256000000, lo := 990, hi := 1010, term := some (some (1, 5)) } : RptStep).spare).quiet < 16)) := by decide +kernel

theorem test_at_17_3 :
    (((w17 3 2 0 2 2 0 1).shaped = true) ∧ ((w17 3 2 0 2 2 0 1).room 8 = true) ∧ (7 < 8) ∧ (((w17 3 2 0 2 2 0 1).grp 7).cvs.length = 18) ∧ (((w17 3 2 0 2 2 0 1).grp 7).step = some ({ target := 3, spare := 16, edges := 300, pairs := 256, sT := 256000, sS := 256000, sSS := 256000000, sST := 256000000, lo := 990, hi := 1010, term := some (some (1, 5)) } : RptStep)) ∧ (({ target := 3, spare := 16, edges := 300, pairs := 256, sT := 256000, sS := 256000, sSS := 256000000, sST := 256000000, lo := 990, hi := 1010, term := some (some (1, 5)) } : RptStep).term = some (some (1, 5) : Option (Rat × Rat))) ∧ (({ target := 3, spare := 16, edges := 300, pairs := 256, sT := 256000, sS := 256000, sSS := 256000000, sST := 256000000, lo := 990, hi := 1010, term := some (some (1, 5)) } : RptStep).target < 18) ∧ (({ target := 3, spare := 16, edges := 300, pairs := 256, sT := 256000, sS := 256000, sSS := 256000000, sST := 256000000, lo := 990, hi := 1010, term := some (some (1, 5)) } : RptStep).spare < 18) ∧ (({ target := 3, spare := 16, edges := 300, pairs := 256, sT := 256000, sS := 256000, sSS := 256000000, sST := 256000000, lo := 990, hi := 1010, term := some (some (1, 5)) } : RptStep).target ≠ ({ target := 3, spare := 16, edges := 300, pairs := 256, sT := 256000, sS := 256000, sSS := 256000000, sST := 256000000, lo := 990, hi := 1010, term := some (some (1, 5)) } : RptStep).spare) ∧ (((w17 3 2 0 2 2 0 1).getF (Reg.AFE_CV_STAT_CH 7 ({ target := 3, spare := 16, edges := 300, pairs := 256, sT := 256000, sS := 256000, sSS := 256000000, sST := 256000000, lo := 990, hi := 1010, term := some (some (1, 5)) } : RptStep).target)) < 8) ∧ ((w17 3 2 0 2 2 0 1).flag (Reg.AFE_CH_STAT_OOS 7 ((w17 3 2 0 2 2 0 1).getF (Reg.AFE_CV_STAT_CH 7 ({ target := 3, spare := 16, edges := 300, pairs := 256, sT := 256000, sS := 256000, sSS := 256000000, sST := 256000000, lo := 990, hi := 1010, term := some (some (1, 5)) } : RptStep).target))) = false) ∧ ((w17 3 2 0 2 2 0 1).flag (Reg.AFE_CH_CTL_OOS 7 ((w17 3 2 0 2 2 0 1).getF (Reg.AFE_CV_STAT_CH 7 ({ target := 3, spare := 16, edges := 300, pairs := 256, sT := 256000, sS := 256000, sSS := 256000000, sST := 256000000, lo := 990, hi := 1010, term := some (some (1, 5)) } : RptStep).target))) = false) ∧ ((w17 3 2 0 2 2 0 1).on (secAfe 7) = true) ∧ ((w17 3 2 0 2 2 0 1).kln.refiring.contains (secAfe 7) = false) ∧ (16 ≤ ((w17 3 2 0 2 2 0 1).cv 7 ({ target := 3, spare := 16, edges := 300, pairs := 256, sT := 256000, sS := 256000, sSS := 256000000, sST := 256000000, lo := 990, hi := 1010, term := some (some (1, 5)) } : RptStep).spare).quiet)) := by decide +kernel

theorem test_met_ConvertersTakeTurns :
    (∃ (s : State) (g : Nat) (v : Nat) (sp : Nat), (s.shaped = true) ∧ (s.room 8 = true) ∧ (g < 8) ∧ ((s.grp g).cvs.length = 18) ∧ (s.rptTarget g = some v) ∧ ((s.cvsIn g cvSpare).head? = some sp) ∧ (s.rptRuns g = true) ∧ ((s.grp g).step = none) ∧ (s.expired (s.grp g).stepFrom (s.getF (Reg.AFE_RPT_CTL_INTERVAL g) * 1000000) = true)) ∧
    (∃ (s : State) (g : Nat) (st : RptStep), (s.shaped = true) ∧ (s.room 8 = true) ∧ (g < 8) ∧ ((s.grp g).cvs.length = 18) ∧ ((s.grp g).step = some st) ∧ (256 ≤ st.pairs) ∧ (st.term = none)) ∧
    (∃ (s : State) (g : Nat) (st : RptStep), (s.shaped = true) ∧ (s.room 8 = true) ∧ (g < 8) ∧ ((s.grp g).cvs.length = 18) ∧ ((s.grp g).step = some st) ∧ (s.flag (Reg.AFE_RPT_CTL_EN g) = false ∨ s.govFull = false ∨ 4096 ≤ st.edges ∧ st.pairs < 256)) ∧
    (∃ (s : State) (g : Nat) (st : RptStep) (tm : Option (Rat × Rat)) (c : Nat), (c = s.getF (Reg.AFE_CV_STAT_CH g st.target)) ∧ (s.shaped = true) ∧ (s.room 8 = true) ∧ (g < 8) ∧ ((s.grp g).cvs.length = 18) ∧ ((s.grp g).step = some st) ∧ (st.term = some tm) ∧ (st.target < 18) ∧ (st.spare < 18) ∧ (st.target ≠ st.spare) ∧ (c < 8) ∧ (s.flag (Reg.AFE_CH_STAT_OOS g c) = true ∨ s.flag (Reg.AFE_CH_CTL_OOS g c) = true ∨ s.on (secAfe g) = false ∨ s.kln.refiring.contains (secAfe g) = true ∨ (s.cv g st.spare).quiet < 16)) ∧
    (∃ (s : State) (g : Nat) (st : RptStep) (tm : Option (Rat × Rat)) (c : Nat), (c = s.getF (Reg.AFE_CV_STAT_CH g st.target)) ∧ (s.shaped = true) ∧ (s.room 8 = true) ∧ (g < 8) ∧ ((s.grp g).cvs.length = 18) ∧ ((s.grp g).step = some st) ∧ (st.term = some tm) ∧ (st.target < 18) ∧ (st.spare < 18) ∧ (st.target ≠ st.spare) ∧ (c < 8) ∧ (s.flag (Reg.AFE_CH_STAT_OOS g c) = false) ∧ (s.flag (Reg.AFE_CH_CTL_OOS g c) = false) ∧ (s.on (secAfe g) = true) ∧ (s.kln.refiring.contains (secAfe g) = false) ∧ (16 ≤ (s.cv g st.spare).quiet)) ∧
    (∃ (s : State) (g : Nat) (v : Nat) (x : Rat × Rat × Nat), (s.shaped = true) ∧ (s.room 8 = true) ∧ (g < 8) ∧ ((s.grp g).cvs.length = 18) ∧ (v < 18) ∧ ((s.cv g v).term = some x) ∧ (s.fadeLen g ≤ x.2.2)) ∧
    (∃ (s : State) (g : Nat) (v : Nat) (u : State) (o : Int) (k : Nat) (r : Nat), (u = s.dacGrant g) ∧ (s.shaped = true) ∧ (s.room 8 = true) ∧ (g < 8) ∧ ((s.grp g).cvs.length = 18) ∧ (v < 18) ∧ (s.cvState g v = cvCalib) ∧ ((u.grp g).dac = some (.calib v) ∨ (u.grp g).dac = none) ∧ (calPasses o k r = true)) ∧
    (∃ (s : State) (g : Nat) (v : Nat) (u : State) (o : Int) (k : Nat) (r : Nat), (u = s.dacGrant g) ∧ (s.shaped = true) ∧ (s.room 8 = true) ∧ (g < 8) ∧ ((s.grp g).cvs.length = 18) ∧ (v < 18) ∧ (s.cvState g v = cvCalib) ∧ ((u.grp g).dac = some (.calib v) ∨ (u.grp g).dac = none) ∧ (calPasses o k r = false)) :=
  ⟨⟨w17 1 0 0 1 1 3 0, 7, 0, 16, test_at_17_0.1⟩,
   ⟨w17 2 6 0 1 0 0 1, 7, { target := 3, spare := 16, edges := 300, pairs := 256, sT := 256000, sS := 256000, sSS := 256000000, sST := 256000000, lo := 990, hi := 1010, term := none }, test_at_17_1.1⟩,
   ⟨w17 2 6 0 1 0 0 1, 7, { target := 3, spare := 16, edges := 300, pairs := 256, sT := 256000, sS := 256000, sSS := 256000000, sST := 256000000, lo := 990, hi := 1010, term := none }, test_at_17_1.2.1⟩,
   ⟨w17 1 3 1 2 3 2 1, 7, { target := 3, spare := 16, edges := 300, pairs := 256, sT := 256000, sS := 9999000, sSS := 256000000, sST := 256000000, lo := 990, hi := 1010, term := some (some (1, 5)) }, some (1, 5), _, rfl, test_at_17_2⟩,
   ⟨w17 3 2 0 2 2 0 1, 7, { target := 3, spare := 16, edges := 300, pairs := 256, sT := 256000, sS := 256000, sSS := 256000000, sST := 256000000, lo := 990, hi := 1010, term := some (some (1, 5)) }, some (1, 5), _, rfl, test_at_17_3⟩,
   ⟨w17 2 6 0 1 0 0 1, 7, 5, (1, 5, 100000), test_at_17_1.2.2.1⟩,
   ⟨w17 1 0 0 1 1 3 0, 7, 4, _, 3, 4194778, 11, rfl, test_at_17_0.2⟩,
   ⟨w17 2 6 0 1 0 0 1, 7, 4, _, 0, 1, 3252, rfl, test_at_17_1.2.2.2⟩⟩

/-- States for the statement ChannelsOutOfServiceAndProofTests. -/
def w18 (z x0 x1 x2 x3 x4 : Nat) : State :=
  let s := wBase z
  let g : Nat := x0
  let b : Nat := x1
  let c : Nat := x2
  let d : Nat := x3
  let e : Nat := x4
  let s := onAll s
  let s := { s with tm := { s.tm with fc := s.tm.fc + 9, runt := s.tm.runt + 2 ^ 62, nom := s.tm.nom + 2 ^ 62, time := s.tm.time + 2 ^ 62 } }
  let s := levels s .operate
  let s := ([0, 1, 2, 63] : List Nat).foldl (fun (s : State) k => (s.setF (Reg.AFE_CH_STAT_OOS (k / 8) (k % 8)) b).setF (Reg.AFE_CH_CTL_OOS (k / 8) (k % 8)) (if c = 0 then b else 1 - b)) s
  let s := ([7] : List Nat).foldl (fun (s : State) g => ((s.setF (Reg.AFE_PROOF_STAT_BUSY g) (if e < 2 then 0 else 1)).setF (Reg.AFE_PROOF_STAT_CH g) 3).setF (Reg.AFE_PROOF_CTL_TEST g) (d % 2)) s
  let s := ([7] : List Nat).foldl (fun (s : State) g => s.setGrp g (fun x => { x with dac := if e = 2 then some .proof else if e = 1 then some (.calib 4) else none, test := (d + c) % 2, dacWait := if e = 3 then [(2 ^ 90, .calib 2), (7, .proof), (7, .calib 5), (8, .calib 6)] else if e = 4 then [(2 ^ 90, .proof)] else [] })) s
  s

theorem test_at_18_0 :
    (((w18 2 1 0 2 0 2).shaped = true) ∧ ((w18 2 1 0 2 0 2).room 2 = true) ∧ (53 < 64) ∧ ((w18 2 1 0 2 0 2).hostUp = true) ∧ ((w18 2 1 0 2 0 2).may (Iface.pcie : Iface) .operate = true)) ∧
    (((w18 2 1 0 2 0 2).shaped = true) ∧ ((w18 2 1 0 2 0 2).room 2 = true) ∧ (63 < 64) ∧ ((w18 2 1 0 2 0 2).flag (Reg.AFE_CH_CTL_OOS (63 / 8) (63 % 8)) = true) ∧ ((w18 2 1 0 2 0 2).flag (Reg.AFE_CH_STAT_OOS (63 / 8) (63 % 8)) = false) ∧ ((w18 2 1 0 2 0 2).on (secAfe (63 / 8)) = true)) ∧
    (((w18 2 1 0 2 0 2).shaped = true) ∧ ((w18 2 1 0 2 0 2).room 2 = true) ∧ (4 < 8) ∧ ((w18 2 1 0 2 0 2).hostUp = true) ∧ ((w18 2 1 0 2 0 2).may (Iface.pcie : Iface) .operate = true) ∧ ((w18 2 1 0 2 0 2).flag (Reg.AFE_PROOF_STAT_BUSY 4) = false) ∧ ((w18 2 1 0 2 0 2).on (secAfe 4) = true) ∧ ((w18 2 1 0 2 0 2).hasAfe 4 = true) ∧ ((w18 2 1 0 2 0 2).unwritten = true)) ∧
    (((w18 2 1 0 2 0 2).shaped = true) ∧ ((w18 2 1 0 2 0 2).room 2 = true) ∧ (7 < 8) ∧ ((w18 2 1 0 2 0 2).flag (Reg.AFE_PROOF_STAT_BUSY 7) = true) ∧ (((w18 2 1 0 2 0 2).grp 7).dac = some .proof) ∧ ((w18 2 1 0 2 0 2).getF (Reg.AFE_PROOF_STAT_CH 7) < 8)) := by decide +kernel

theorem test_at_18_1 :
    (((w18 0 2 1 2 1 1).shaped = true) ∧ ((w18 0 2 1 2 1 1).room 2 = true) ∧ (63 < 64) ∧ ((w18 0 2 1 2 1 1).flag (Reg.AFE_CH_CTL_OOS (63 / 8) (63 % 8)) = false) ∧ ((w18 0 2 1 2 1 1).flag (Reg.AFE_CH_STAT_OOS (63 / 8) (63 % 8)) = true) ∧ ((w18 0 2 1 2 1 1).on (secAfe (63 / 8)) = true)) := by decide +kernel

theorem test_met_ChannelsOutOfServiceAndProofTests :
    (∃ (s : State) (n : Nat) (g : Nat) (c : Nat) (i : Iface) (v : Word), (g = n / 8) ∧ (c = n % 8) ∧ (s.shaped = true) ∧ (s.room 2 = true) ∧ (n < 64) ∧ (s.hostUp = true) ∧ (s.may i .operate = true)) ∧
    (∃ (s : State) (n : Nat) (g : Nat) (c : Nat), (g = n / 8) ∧ (c = n % 8) ∧ (s.shaped = true) ∧ (s.room 2 = true) ∧ (n < 64) ∧ (s.flag (Reg.AFE_CH_CTL_OOS g c) = true) ∧ (s.flag (Reg.AFE_CH_STAT_OOS g c) = false) ∧ (s.on (secAfe g) = true)) ∧
    (∃ (s : State) (n : Nat) (g : Nat) (c : Nat), (g = n / 8) ∧ (c = n % 8) ∧ (s.shaped = true) ∧ (s.room 2 = true) ∧ (n < 64) ∧ (s.flag (Reg.AFE_CH_CTL_OOS g c) = false) ∧ (s.flag (Reg.AFE_CH_STAT_OOS g c) = true) ∧ (s.on (secAfe g) = true)) ∧
    (∃ (s : State) (g : Nat) (i : Iface) (v : Word), (s.shaped = true) ∧ (s.room 2 = true) ∧ (g < 8) ∧ (s.hostUp = true) ∧ (s.may i .operate = true) ∧ (s.flag (Reg.AFE_PROOF_STAT_BUSY g) = false) ∧ (s.on (secAfe g) = true) ∧ (s.hasAfe g = true) ∧ (s.unwritten = true)) ∧
    (∃ (s : State) (g : Nat) (v : Int), (s.shaped = true) ∧ (s.room 2 = true) ∧ (g < 8) ∧ (s.flag (Reg.AFE_PROOF_STAT_BUSY g) = true) ∧ ((s.grp g).dac = some .proof) ∧ (s.getF (Reg.AFE_PROOF_STAT_CH g) < 8)) :=
  ⟨⟨w18 2 1 0 2 0 2, 53, _, _, Iface.pcie, 0x0000078e#32, rfl, rfl, test_at_18_0.1⟩,
   ⟨w18 2 1 0 2 0 2, 63, _, _, rfl, rfl, test_at_18_0.2.1⟩,
   ⟨w18 0 2 1 2 1 1, 63, _, _, rfl, rfl, test_at_18_1⟩,
   ⟨w18 2 1 0 2 0 2, 4, Iface.pcie, 0x02000000#32, test_at_18_0.2.2.1⟩,
   ⟨w18 2 1 0 2 0 2, 7, (-65536), test_at_18_0.2.2.2⟩⟩

/-- States for the statement HousekeepingConverterAndQueue. -/
def w19 (z x0 x1 x2 x3 x4 : Nat) : State :=
  let s := wBase z
  let g : Nat := x0
  let b : Nat := x1
  let c : Nat := x2
  let d : Nat := x3
  let e : Nat := x4
  let s := onAll s
  let s := { s with tm := { s.tm with fc := s.tm.fc + 9, runt := s.tm.runt + 2 ^ 62, nom := s.tm.nom + 2 ^ 62, time := s.tm.time + 2 ^ 62 } }
  let s := levels s .operate
  let s := (((s.setF Reg.HKC_STAT_CAL_BUSY (if e = 0 then 1 else 0)).setF Reg.HKC_STAT_CAL_FAIL b).setF Reg.HKC_CTL_CAL_INT d).setF Reg.HKC_CTL_THR 3
  let s := { s with pending := [], crs := { s.crs with arms := [], decisions := [] }, prt := { s.prt with jobs := [], comp := s.prt.comp.map fun (x : CompSt) => { x with rise := none } }, pwr := { s.pwr with unpowered := false } }
  let r : HkcReq := ⟨7, 5, 2, 3⟩
  let s := { s with hkc := { s.hkc with cur := if c = 0 then some ⟨r, 5, 77, 3⟩ else none, held := if d = 0 then [] else if d = 1 then List.replicate 8 r else [r, { r with seq := 8 }], q := if b = 0 then [] else List.replicate (if d ≥ 2 then 64 else 2) ⟨r, 3, true, false, 0x1234, 99⟩, calReq := if e = 1 then some s.tm.fc else if e = 2 then some 1 else none, lastCal := 4, freeFc := if e = 3 then s.tm.fc else 0, late := if d = 2 then some ⟨r, 3, true, false, 0x1234, 99⟩ else none } }
  s

theorem test_at_19_0 :
    (((w19 1 4 0 0 2 0).shaped = true) ∧ ((w19 1 4 0 0 2 0).room 1 = true) ∧ ((w19 1 4 0 0 2 0).on secHkc = true) ∧ ((w19 1 4 0 0 2 0).hostUp = true) ∧ ((w19 1 4 0 0 2 0).may (Iface.spi : Iface) .operate = true)) ∧
    (((w19 1 4 0 0 2 0).shaped = true) ∧ ((w19 1 4 0 0 2 0).room 1 = true) ∧ ((w19 1 4 0 0 2 0).on secHkc = true) ∧ ((w19 1 4 0 0 2 0).hostUp = true) ∧ ((w19 1 4 0 0 2 0).may (Iface.spi : Iface) .operate = true) ∧ ((0x00000001#32 : Word).toNat % 4 < 2)) ∧
    (((w19 1 4 0 0 2 0).shaped = true) ∧ ((w19 1 4 0 0 2 0).room 1 = true) ∧ ((w19 1 4 0 0 2 0).on secHkc = true) ∧ ((w19 1 4 0 0 2 0).hostUp = true) ∧ ((w19 1 4 0 0 2 0).may (Iface.spi : Iface) .operate = true) ∧ ((0x00000000#32 : Word).toNat % 2 = 0)) ∧
    (((w19 1 4 0 0 2 0).shaped = true) ∧ ((w19 1 4 0 0 2 0).room 1 = true) ∧ ((w19 1 4 0 0 2 0).on secHkc = true) ∧ ((w19 1 4 0 0 2 0).hostUp = true) ∧ ((w19 1 4 0 0 2 0).may (Iface.spi : Iface) .operate = true) ∧ ((w19 1 4 0 0 2 0).pwr.warmBusy = false) ∧ ((w19 1 4 0 0 2 0).hkc.q = [])) ∧
    (((w19 1 4 0 0 2 0).shaped = true) ∧ ((w19 1 4 0 0 2 0).room 1 = true) ∧ ((w19 1 4 0 0 2 0).on secHkc = true) ∧ ((w19 1 4 0 0 2 0).hkc.cur = some ({ req := { seq := 7, src := 5, n := 2, shift := 3 }, start := 5, inst := 77, node := 3 } : HkcCur)) ∧ ((w19 1 4 0 0 2 0).expired ({ req := { seq := 7, src := 5, n := 2, shift := 3 }, start := 5, inst := 77, node := 3 } : HkcCur).start (hkcSettle ({ req := { seq := 7, src := 5, n := 2, shift := 3 }, start := 5, inst := 77, node := 3 } : HkcCur).req.src + (({ req := { seq := 7, src := 5, n := 2, shift := 3 }, start := 5, inst := 77, node := 3 } : HkcCur).req.n + 1) * 1000) = true) ∧ (([1, 17, 6] : List Nat).length = ({ req := { seq := 7, src := 5, n := 2, shift := 3 }, start := 5, inst := 77, node := 3 } : HkcCur).req.n + 1)) ∧
    (((w19 1 4 0 0 2 0).shaped = true) ∧ ((w19 1 4 0 0 2 0).room 1 = true) ∧ ((w19 1 4 0 0 2 0).on secHkc = true) ∧ ((w19 1 4 0 0 2 0).flag Reg.HKC_STAT_CAL_BUSY = true)) := by decide +kernel

theorem test_at_19_1 :
    (((w19 0 5 1 2 1 4).shaped = true) ∧ ((w19 0 5 1 2 1 4).room 1 = true) ∧ ((w19 0 5 1 2 1 4).on secHkc = true) ∧ ((w19 0 5 1 2 1 4).hostUp = true) ∧ ((w19 0 5 1 2 1 4).may (Iface.spi : Iface) .operate = true) ∧ ((w19 0 5 1 2 1 4).pwr.warmBusy = false) ∧ ((w19 0 5 1 2 1 4).hkc.q.head? = some ({ req := { seq := 7, src := 5, n := 2, shift := 3 }, epoch := 3, ovr := true, calf := false, value := 4660, tw := 99 } : HkcEntry))) ∧
    (((w19 0 5 1 2 1 4).shaped = true) ∧ ((w19 0 5 1 2 1 4).room 1 = true) ∧ ((w19 0 5 1 2 1 4).on secHkc = true) ∧ ((w19 0 5 1 2 1 4).hkc.held.head? = some ({ seq := 7, src := 5, n := 2, shift := 3 } : HkcReq)) ∧ ((w19 0 5 1 2 1 4).hkc.cur = none) ∧ ((w19 0 5 1 2 1 4).hkc.calReq = none) ∧ ((w19 0 5 1 2 1 4).flag Reg.HKC_STAT_CAL_BUSY = false) ∧ ((w19 0 5 1 2 1 4).hkc.freeFc < (w19 0 5 1 2 1 4).tm.fc)) ∧
    (((w19 0 5 1 2 1 4).shaped = true) ∧ ((w19 0 5 1 2 1 4).room 1 = true) ∧ ((w19 0 5 1 2 1 4).on secHkc = true) ∧ ((w19 0 5 1 2 1 4).getF Reg.HKC_CTL_CAL_INT ≠ 0) ∧ ((w19 0 5 1 2 1 4).expired (w19 0 5 1 2 1 4).hkc.lastCal ((w19 0 5 1 2 1 4).getF Reg.HKC_CTL_CAL_INT * 1000000000) = true) ∧ ((w19 0 5 1 2 1 4).hkc.calReq = none) ∧ ((w19 0 5 1 2 1 4).flag Reg.HKC_STAT_CAL_BUSY = false)) := by decide +kernel

theorem test_at_19_2 :
    (((w19 1 4 0 0 2 0).shaped = true) ∧ ((w19 1 4 0 0 2 0).room 1 = true) ∧ ((w19 1 4 0 0 2 0).on secHkc = true) ∧ ((w19 1 4 0 0 2 0).hkc.late.isSome = true) ∧ ((w19 1 4 0 0 2 0).pending = []) ∧ ((w19 1 4 0 0 2 0).pwr.unpowered = false) ∧ ((w19 1 4 0 0 2 0).crs.arms = []) ∧ ((w19 1 4 0 0 2 0).crs.decisions = []) ∧ ((w19 1 4 0 0 2 0).prt.jobs = []) ∧ (((w19 1 4 0 0 2 0).prt.comp.all fun x => x.rise.isNone) = true)) := by decide +kernel

theorem test_at_19_3 :
    (((w19 0 2 1 2 1 1).shaped = true) ∧ ((w19 0 2 1 2 1 1).room 1 = true) ∧ ((w19 0 2 1 2 1 1).on secHkc = true) ∧ ((w19 0 2 1 2 1 1).hkc.calReq.isSome = true) ∧ ((w19 0 2 1 2 1 1).hkc.cur = none)) := by decide +kernel

theorem test_met_HousekeepingConverterAndQueue :
    (∃ (s : State) (i : Iface) (v : Word) (src : Nat), (src = v.toNat % 32) ∧ (s.shaped = true) ∧ (s.room 1 = true) ∧ (s.on secHkc = true) ∧ (s.hostUp = true) ∧ (s.may i .operate = true)) ∧
    (∃ (s : State) (i : Iface) (v : Word), (s.shaped = true) ∧ (s.room 1 = true) ∧ (s.on secHkc = true) ∧ (s.hostUp = true) ∧ (s.may i .operate = true) ∧ (v.toNat % 4 < 2)) ∧
    (∃ (s : State) (i : Iface) (v : Word), (s.shaped = true) ∧ (s.room 1 = true) ∧ (s.on secHkc = true) ∧ (s.hostUp = true) ∧ (s.may i .operate = true) ∧ (v.toNat % 2 = 0)) ∧
    (∃ (s : State) (i : Iface), (s.shaped = true) ∧ (s.room 1 = true) ∧ (s.on secHkc = true) ∧ (s.hostUp = true) ∧ (s.may i .operate = true) ∧ (s.pwr.warmBusy = false) ∧ (s.hkc.q = [])) ∧
    (∃ (s : State) (i : Iface) (e : HkcEntry), (s.shaped = true) ∧ (s.room 1 = true) ∧ (s.on secHkc = true) ∧ (s.hostUp = true) ∧ (s.may i .operate = true) ∧ (s.pwr.warmBusy = false) ∧ (s.hkc.q.head? = some e)) ∧
    (∃ (s : State) (r : HkcReq), (s.shaped = true) ∧ (s.room 1 = true) ∧ (s.on secHkc = true) ∧ (s.hkc.held.head? = some r) ∧ (s.hkc.cur = none) ∧ (s.hkc.calReq = none) ∧ (s.flag Reg.HKC_STAT_CAL_BUSY = false) ∧ (s.hkc.freeFc < s.tm.fc)) ∧
    (∃ (s : State) (c : HkcCur) (l : List Nat) (raw : List Nat) (e : HkcEntry), (raw = l.map (fun r => r % 4096)) ∧ (e = ⟨c.req, s.epochAt c.inst, raw.any fun r => r == 0 || r == 4095, s.flag Reg.HKC_STAT_CAL_FAIL, hkcValue c.req.shift ((raw.map s.hkcCorr).foldl (fun a b => a + b) 0), s.twAt c.inst⟩) ∧ (s.shaped = true) ∧ (s.room 1 = true) ∧ (s.on secHkc = true) ∧ (s.hkc.cur = some c) ∧ (s.expired c.start (hkcSettle c.req.src + (c.req.n + 1) * 1000) = true) ∧ (l.length = c.req.n + 1)) ∧
    (∃ (s : State), (s.shaped = true) ∧ (s.room 1 = true) ∧ (s.on secHkc = true) ∧ (s.hkc.late.isSome = true) ∧ (s.pending = []) ∧ (s.pwr.unpowered = false) ∧ (s.crs.arms = []) ∧ (s.crs.decisions = []) ∧ (s.prt.jobs = []) ∧ ((s.prt.comp.all fun x => x.rise.isNone) = true)) ∧
    (∃ (s : State), (s.shaped = true) ∧ (s.room 1 = true) ∧ (s.on secHkc = true) ∧ (s.getF Reg.HKC_CTL_CAL_INT ≠ 0) ∧ (s.expired s.hkc.lastCal (s.getF Reg.HKC_CTL_CAL_INT * 1000000000) = true) ∧ (s.hkc.calReq = none) ∧ (s.flag Reg.HKC_STAT_CAL_BUSY = false)) ∧
    (∃ (s : State), (s.shaped = true) ∧ (s.room 1 = true) ∧ (s.on secHkc = true) ∧ (s.hkc.calReq.isSome = true) ∧ (s.hkc.cur = none)) ∧
    (∃ (s : State) (o : Int) (k : Nat) (ok : Bool), (ok = (decide (o.natAbs ≤ 256) && decide (((k : Int) - 2 ^ 22).natAbs * 100 ≤ 2 ^ 22))) ∧ (s.shaped = true) ∧ (s.room 1 = true) ∧ (s.on secHkc = true) ∧ (s.flag Reg.HKC_STAT_CAL_BUSY = true)) :=
  ⟨⟨w19 1 4 0 0 2 0, Iface.spi, 0x00000004#32, _, rfl, test_at_19_0.1⟩,
   ⟨w19 1 4 0 0 2 0, Iface.spi, 0x00000001#32, test_at_19_0.2.1⟩,
   ⟨w19 1 4 0 0 2 0, Iface.spi, 0x00000000#32, test_at_19_0.2.2.1⟩,
   ⟨w19 1 4 0 0 2 0, Iface.spi, test_at_19_0.2.2.2.1⟩,
   ⟨w19 0 5 1 2 1 4, Iface.spi, { req := { seq := 7, src := 5, n := 2, shift := 3 }, epoch := 3, ovr := true, calf := false, value := 4660, tw := 99 }, test_at_19_1.1⟩,
   ⟨w19 0 5 1 2 1 4, { seq := 7, src := 5, n := 2, shift := 3 }, test_at_19_1.2.1⟩,
   ⟨w19 1 4 0 0 2 0, { req := { seq := 7, src := 5, n := 2, shift := 3 }, start := 5, inst := 77, node := 3 }, [1, 17, 6], _, _, rfl, rfl, test_at_19_0.2.2.2.2.1⟩,
   ⟨w19 1 4 0 0 2 0, test_at_19_2⟩,
   ⟨w19 0 5 1 2 1 4, test_at_19_1.2.2⟩,
   ⟨w19 0 2 1 2 1 1, test_at_19_3⟩,
   ⟨w19 1 4 0 0 2 0, 1599, 112, _, rfl, test_at_19_0.2.2.2.2.2⟩⟩

/-- States for the statement FilterOutputsBanksAndResets. -/
def w20 (z x0 x1 x2 x3 : Nat) : State :=
  let s := wBase z
  let b : Nat := x0
  let c : Nat := x1
  let d : Nat := x2
  let e : Nat := x3
  let s := levels (onAll s) .operate
  let s := { s with tm := { s.tm with nom := if c = 2 && d = 2 then 0 else 2 ^ 70 } }
  let smpl : Sample := ⟨5, 2, decide (d = 0), false, decide (d = 1), decide (d = 2)⟩
  let s := ([0, 1, 2, 63] : List Nat).foldl (fun (s : State) k => ((s.wr (Reg.AFE_CH_CFG (k / 8) (k % 8)) 0).setF (Reg.AFE_CH_CFG_PROF (k / 8) (k % 8)) (k % 16)).setF (Reg.AFE_CH_CFG_MODE (k / 8) (k % 8)) (if e = 0 then 3 else 0)) s
  let s := ([0, 1, 2, 63] : List Nat).foldl (fun (s : State) k => (s.setF (Reg.FLT_CH_STAT_REMAIN k) c).setF (Reg.FLT_CH_STAT_UNS k) (if c = 0 then 0 else 1)) s
  let s := ([0, 1, 2, 15] : List Nat).foldl (fun (s : State) p => (((s.setF (Reg.FLT_PROF_CFG_TAPS p) 3).setF (Reg.FLT_PROF_CFG_DSEL p) b).setF (Reg.FLT_PROF_STAT_ACTIVE p) (if p % 4 = 0 then 1 - b else b)).setF (Reg.FLT_PROF_XF_LEN p) 4) s
  let s := ([0, 1, 2, 63] : List Nat).foldl (fun (s : State) k => s.setF (Reg.AFE_CH_CFG_MODE (k / 8) (k % 8)) (if e = 0 then 3 else k % 3)) s
  let s := { s with pending := [], crs := { s.crs with arms := [], decisions := [] }, prt := { s.prt with jobs := [], comp := s.prt.comp.map fun (x : CompSt) => { x with rise := none } }, pwr := { s.pwr with unpowered := false }, flt := { s.flt with e0 := 0, k := 50, ch := s.flt.ch.map fun x => { x with aOut := [smpl, smpl, smpl, smpl, smpl], aUns := c, ins := [], bOut := [] }, kIl := 51, prof := s.flt.prof.mapIdx fun k (x : FltProf) => { x with next := if e = 4 then 60 else 48, target := if c = 0 then none else some (1 - b), queue := if d < 2 then none else if k % 4 = 2 then some (1 - b) else some b, j := 1, l := 4, start := 40, stopped := decide (e = 3), resume := false, reqs := if e = 2 ∧ k % 2 = 0 then [b] else [], early := if e = 1 then some (some [3, 4, 5]) else none } } }
  s

theorem test_at_20_0 :
    (((w20 2 0 0 2 2).shaped = true) ∧ ((w20 2 0 0 2 2).fltOn = true) ∧ (7 < 16) ∧ ((w20 2 0 0 2 2).stageBDue 7 = true) ∧ (((w20 2 0 0 2 2).fprof 7).resume = false)) ∧
    (((w20 2 0 0 2 2).shaped = true) ∧ ((w20 2 0 0 2 2).fltOn = true) ∧ (4 < 16) ∧ (((w20 2 0 0 2 2).fprof 4).reqs = [0]) ∧ ((w20 2 0 0 2 2).pending = []) ∧ ((w20 2 0 0 2 2).pwr.unpowered = false) ∧ ((w20 2 0 0 2 2).crs.arms = []) ∧ ((w20 2 0 0 2 2).crs.decisions = []) ∧ ((w20 2 0 0 2 2).prt.jobs = []) ∧ (((w20 2 0 0 2 2).prt.comp.all fun x => x.rise.isNone) = true)) ∧
    (((w20 2 0 0 2 2).shaped = true) ∧ ((w20 2 0 0 2 2).fltOn = true) ∧ ((w20 2 0 0 2 2).hostUp = true) ∧ ((w20 2 0 0 2 2).may (Iface.spi : Iface) .operate = true) ∧ (1 < 16) ∧ ((w20 2 0 0 2 2).on (secProf 1) = true)) ∧
    (((w20 2 0 0 2 2).shaped = true) ∧ ((w20 2 0 0 2 2).fltOn = true) ∧ ((w20 2 0 0 2 2).hostUp = true) ∧ ((w20 2 0 0 2 2).may (Iface.spi : Iface) .operate = true) ∧ (15 < 16)) := by decide +kernel

theorem test_met_FilterOutputsBanksAndResets :
    (∃ (s : State) (p : Nat) (i : Nat) (all : Bool), (i = (s.fprof p).next) ∧ (all = decide (i < s.winAll p)) ∧ (s.shaped = true) ∧ (s.fltOn = true) ∧ (p < 16) ∧ (s.stageBDue p = true) ∧ ((s.fprof p).resume = false)) ∧
    (∃ (s : State) (p : Nat) (b : Nat), (s.shaped = true) ∧ (s.fltOn = true) ∧ (p < 16) ∧ ((s.fprof p).reqs = [b]) ∧ (s.pending = []) ∧ (s.pwr.unpowered = false) ∧ (s.crs.arms = []) ∧ (s.crs.decisions = []) ∧ (s.prt.jobs = []) ∧ ((s.prt.comp.all fun x => x.rise.isNone) = true)) ∧
    (∃ (s : State) (i : Iface) (p : Nat) (v : Word), (s.shaped = true) ∧ (s.fltOn = true) ∧ (s.hostUp = true) ∧ (s.may i .operate = true) ∧ (p < 16) ∧ (s.on (secProf p) = true)) ∧
    (∃ (s : State) (i : Iface) (p : Nat), (s.shaped = true) ∧ (s.fltOn = true) ∧ (s.hostUp = true) ∧ (s.may i .operate = true) ∧ (p < 16)) :=
  ⟨⟨w20 2 0 0 2 2, 7, _, _, rfl, rfl, test_at_20_0.1⟩,
   ⟨w20 2 0 0 2 2, 4, 0, test_at_20_0.2.1⟩,
   ⟨w20 2 0 0 2 2, Iface.spi, 1, 0x00000035#32, test_at_20_0.2.2.1⟩,
   ⟨w20 2 0 0 2 2, Iface.spi, 15, test_at_20_0.2.2.2⟩⟩

/-- States for the statement UpdatesBreakerFailureAndPointOnWave. -/
def w21 (z x0 x1 x2 x3 : Nat) : State :=
  let s := wBase z
  let b : Nat := x0
  let c : Nat := x1
  let d : Nat := x2
  let e : Nat := x3
  let s := levels (onAll s) .operate
  let s := { s with tm := { s.tm with nom := 2 ^ 70, runt := 2 ^ 70 } }
  let s := ([0, 1, 2, 11] : List Nat).foldl (fun (s : State) f => (((s.setF (Reg.PRT_F_BLK_BLK f) (if c = 0 then 2 ^ 23 + 5 else 0)).setF (Reg.PRT_F_STAT_REFIRE f) (if e = 0 then 1 else 0)).setF (Reg.PRT_F_BF_TGT_FEEDERS f) (if b = 0 then 6 else 1)).setF (Reg.PRT_F_BF_TGT_TILES f) (if b = 0 then 8 else 0)) s
  let s := ([0, 1, 2, 11] : List Nat).foldl (fun (s : State) f => (((s.setF (Reg.PRT_F_SG_SG f) 0).setF (Reg.PRT_F_SG_E_CFG_EN f 1 23) (if d = 0 then 0 else 1)).setF (Reg.PRT_F_SG_E_CFG_TRIP f 1 23) b).wr (Reg.PRT_F_SG_E_TIME f 1 23) (if d = 1 then 100 else 0x640078)) s
  let s := ([0, 1, 2, 11] : List Nat).foldl (fun (s : State) f => (s.setF (Reg.PRT_F_E_STAT_RETRIP f 23) 0)) s
  let gs : GSample := ⟨31, 9, 77, 0x40000000, 3, 1, []⟩
  let s := ([0, 1, 2, 11] : List Nat).foldl (fun (s : State) f => (s.setF (Reg.ANG_GRID_CFG_NSEL f) 0).setF (Reg.PRT_F_SG_E_CFG_EN f 1 2) 1) s
  let s := { s with grids := s.grids.map fun _ => if e = 1 then [] else [gs], crs := { s.crs with decisions := [], slots := s.crs.slots.mapIdx fun k (x : Slot) => if k ≥ 190 then { x with st := .standing, srcId := if k = 191 then 0x3000 else 0x3001 } else { x with st := .free } }, prt := { s.prt with fdr := s.prt.fdr.map fun (x : FdrSt) => { x with upd := none, bfPick := decide (e ≠ 2), bfStart := if d = 2 then none else some 7, powClose := if c = 1 then some ⟨9, 5, none⟩ else none, powOpen := if c = 2 then some ⟨9, 5, none⟩ else none, elems := x.elems.map fun (y : Elem) => { y with op := false }, holdAt := if e = 0 then some 9 else none }, jobs := if e = 3 then [] else [⟨s.tm.fc + 1, 3, if c = 0 then none else some true, 0, [⟨4, 3, s.elemSet 3 4, ⟨[laneZero, { laneZero with pu := true }, laneZero], true⟩, false⟩, ⟨7, 2, s.elemSet 3 7, elemZero 7, false⟩]⟩] }, pending := [], pwr := { s.pwr with unpowered := false } }
  let s := { s with crs := { s.crs with arms := [] } }
  s

theorem test_at_21_0 :
    (((w21 1 1 1 3 2).shaped = true) ∧ ((w21 1 1 1 3 2).room 200 = true) ∧ (0 < 12) ∧ ((w21 1 1 1 3 2).updateDue 0 = some (({ k := 31, cycle := 9, tw := 77, angle := 1073741824, epoch := 3, trk := 1, vals := [] }, 15) : GSample × Nat)) ∧ ((w21 1 1 1 3 2).on (secFeeder 0) = true)) ∧
    (((w21 1 1 1 3 2).shaped = true) ∧ ((w21 1 1 1 3 2).room 200 = true) ∧ (3 < 12) ∧ ((w21 1 1 1 3 2).prt.jobs = [({ due := 1, f := 3, bf := some true, bfCause := 0, outs := [{ e := 4, cause := 3, st := { en := false, curve := 0, reset := false, half := false, dir := 0, src := 0, logic := 0, trip := false, bfi := false, pickup := 0, time := 0, aux := 0 }, x := { lanes := [{ pu := false, acc := 0, rst := 0, cnt := 0, m := 0, fwd := false, rev := false, mem := false }, { pu := true, acc := 0, rst := 0, cnt := 0, m := 0, fwd := false, rev := false, mem := false }, { pu := false, acc := 0, rst := 0, cnt := 0, m := 0, fwd := false, rev := false, mem := false }], op := true }, quiet := false }, { e := 7, cause := 2, st := { en := false, curve := 0, reset := false, half := false, dir := 0, src := 0, logic := 0, trip := false, bfi := false, pickup := 0, time := 0, aux := 0 }, x := { lanes := [{ pu := false, acc := 0, rst := 0, cnt := 0, m := 0, fwd := false, rev := false, mem := false }, { pu := false, acc := 0, rst := 0, cnt := 0, m := 0, fwd := false, rev := false, mem := false }, { pu := false, acc := 0, rst := 0, cnt := 0, m := 0, fwd := false, rev := false, mem := false }], op := false }, quiet := false }] } : ElemJob)]) ∧ (({ due := 1, f := 3, bf := some true, bfCause := 0, outs := [{ e := 4, cause := 3, st := { en := false, curve := 0, reset := false, half := false, dir := 0, src := 0, logic := 0, trip := false, bfi := false, pickup := 0, time := 0, aux := 0 }, x := { lanes := [{ pu := false, acc := 0, rst := 0, cnt := 0, m := 0, fwd := false, rev := false, mem := false }, { pu := true, acc := 0, rst := 0, cnt := 0, m := 0, fwd := false, rev := false, mem := false }, { pu := false, acc := 0, rst := 0, cnt := 0, m := 0, fwd := false, rev := false, mem := false }], op := true }, quiet := false }, { e := 7, cause := 2, st := { en := false, curve := 0, reset := false, half := false, dir := 0, src := 0, logic := 0, trip := false, bfi := false, pickup := 0, time := 0, aux := 0 }, x := { lanes := [{ pu := false, acc := 0, rst := 0, cnt := 0, m := 0, fwd := false, rev := false, mem := false }, { pu := false, acc := 0, rst := 0, cnt := 0, m := 0, fwd := false, rev := false, mem := false }, { pu := false, acc := 0, rst := 0, cnt := 0, m := 0, fwd := false, rev := false, mem := false }], op := false }, quiet := false }] } : ElemJob).due ≤ (w21 1 1 1 3 2).tm.fc + 1) ∧ (({ due := 1, f := 3, bf := some true, bfCause := 0, outs := [{ e := 4, cause := 3, st := { en := false, curve := 0, reset := false, half := false, dir := 0, src := 0, logic := 0, trip := false, bfi := false, pickup := 0, time := 0, aux := 0 }, x := { lanes := [{ pu := false, acc := 0, rst := 0, cnt := 0, m := 0, fwd := false, rev := false, mem := false }, { pu := true, acc := 0, rst := 0, cnt := 0, m := 0, fwd := false, rev := false, mem := false }, { pu := false, acc := 0, rst := 0, cnt := 0, m := 0, fwd := false, rev := false, mem := false }], op := true }, quiet := false }, { e := 7, cause := 2, st := { en := false, curve := 0, reset := false, half := false, dir := 0, src := 0, logic := 0, trip := false, bfi := false, pickup := 0, time := 0, aux := 0 }, x := { lanes := [{ pu := false, acc := 0, rst := 0, cnt := 0, m := 0, fwd := false, rev := false, mem := false }, { pu := false, acc := 0, rst := 0, cnt := 0, m := 0, fwd := false, rev := false, mem := false }, { pu := false, acc := 0, rst := 0, cnt := 0, m := 0, fwd := false, rev := false, mem := false }], op := false }, quiet := false }] } : ElemJob).f = 3) ∧ ((({ due := 1, f := 3, bf := some true, bfCause := 0, outs := [{ e := 4, cause := 3, st := { en := false, curve := 0, reset := false, half := false, dir := 0, src := 0, logic := 0, trip := false, bfi := false, pickup := 0, time := 0, aux := 0 }, x := { lanes := [{ pu := false, acc := 0, rst := 0, cnt := 0, m := 0, fwd := false, rev := false, mem := false }, { pu := true, acc := 0, rst := 0, cnt := 0, m := 0, fwd := false, rev := false, mem := false }, { pu := false, acc := 0, rst := 0, cnt := 0, m := 0, fwd := false, rev := false, mem := false }], op := true }, quiet := false }, { e := 7, cause := 2, st := { en := false, curve := 0, reset := false, half := false, dir := 0, src := 0, logic := 0, trip := false, bfi := false, pickup := 0, time := 0, aux := 0 }, x := { lanes := [{ pu := false, acc := 0, rst := 0, cnt := 0, m := 0, fwd := false, rev := false, mem := false }, { pu := false, acc := 0, rst := 0, cnt := 0, m := 0, fwd := false, rev := false, mem := false }, { pu := false, acc := 0, rst := 0, cnt := 0, m := 0, fwd := false, rev := false, mem := false }], op := false }, quiet := false }] } : ElemJob).outs.map (·.e)).Nodup) ∧ ((w21 1 1 1 3 2).pending = []) ∧ ((w21 1 1 1 3 2).pwr.unpowered = false) ∧ ((w21 1 1 1 3 2).crs.arms = []) ∧ ((w21 1 1 1 3 2).crs.decisions = [])) ∧
    (((w21 1 1 1 3 2).shaped = true) ∧ ((w21 1 1 1 3 2).room 200 = true) ∧ (6 < 12) ∧ ((w21 1 1 1 3 2).hostUp = true) ∧ ((w21 1 1 1 3 2).may (Iface.spi : Iface) .operate = true)) ∧
    (((w21 1 1 1 3 2).shaped = true) ∧ ((w21 1 1 1 3 2).room 200 = true) ∧ (0 < 12) ∧ ((w21 1 1 1 3 2).bfT1 0 ≠ 0) ∧ ((w21 1 1 1 3 2).bfDue 0 ((w21 1 1 1 3 2).bfT1 0) = true) ∧ ((w21 1 1 1 3 2).flag (Reg.PRT_F_E_STAT_RETRIP 0 23) = false)) ∧
    (((w21 1 1 1 3 2).shaped = true) ∧ ((w21 1 1 1 3 2).room 200 = true) ∧ (11 < 12) ∧ ((w21 1 1 1 3 2).bfDue 11 ((w21 1 1 1 3 2).bfT2 11) = true) ∧ (((w21 1 1 1 3 2).elem 11 23).op = false)) := by decide +kernel

theorem test_at_21_1 :
    (((w21 2 0 2 2 1).shaped = true) ∧ ((w21 2 0 2 2 1).room 200 = true) ∧ (9 < 12) ∧ ((w21 2 0 2 2 1).updateDue 9 = none ∨ (w21 2 0 2 2 1).on (secFeeder 9) = false)) ∧
    (((w21 2 0 2 2 1).shaped = true) ∧ ((w21 2 0 2 2 1).room 200 = true) ∧ (2 < 12) ∧ ((w21 2 0 2 2 1).hostUp = true) ∧ ((w21 2 0 2 2 1).may (Iface.pcie : Iface) .operate = true) ∧ ((0x00000001#32 : Word).toNat.testBit 0 = true) ∧ (((w21 2 0 2 2 1).fdr 2).bfStart = none)) := by decide +kernel

theorem test_at_21_2 :
    (((w21 1 1 1 3 2).shaped = true) ∧ ((w21 1 1 1 3 2).room 200 = true) ∧ (9 < 12) ∧ ((if false then ((w21 1 1 1 3 2).fdr 9).powOpen else ((w21 1 1 1 3 2).fdr 9).powClose) = some ({ tw := 9, runt := 5, below := none } : PowRun)) ∧ ((w21 1 1 1 3 2).expired ({ tw := 9, runt := 5, below := none } : PowRun).runt ((w21 1 1 1 3 2).getF (Reg.PRT_F_POW_LIM_MAXT 9) * 1000000) = true) ∧ ((w21 1 1 1 3 2).powComes 9 false = false)) := by decide +kernel

theorem test_met_UpdatesBreakerFailureAndPointOnWave :
    (∃ (s : State) (f : Nat) (x : GSample × Nat), (s.shaped = true) ∧ (s.room 200 = true) ∧ (f < 12) ∧ (s.updateDue f = some x) ∧ (s.on (secFeeder f) = true)) ∧
    (∃ (s : State) (f : Nat) (j : ElemJob), (s.shaped = true) ∧ (s.room 200 = true) ∧ (f < 12) ∧ (s.prt.jobs = [j]) ∧ (j.due ≤ s.tm.fc + 1) ∧ (j.f = f) ∧ (j.outs.map (·.e)).Nodup ∧ (s.pending = []) ∧ (s.pwr.unpowered = false) ∧ (s.crs.arms = []) ∧ (s.crs.decisions = [])) ∧
    (∃ (s : State) (f : Nat), (s.shaped = true) ∧ (s.room 200 = true) ∧ (f < 12) ∧ (s.updateDue f = none ∨ s.on (secFeeder f) = false)) ∧
    (∃ (s : State) (f : Nat) (i : Iface) (v : Word) (ok : Bool), (ok = ((s.elemSet f 23).en && (s.fdr f).bfPick && !(s.getF (Reg.PRT_F_BLK_BLK f)).testBit 23 && (s.fdr f).holdAt.isNone && s.getF (Reg.PRT_F_E_STAT_CAUSE f 23) != causeUns)) ∧ (s.shaped = true) ∧ (s.room 200 = true) ∧ (f < 12) ∧ (s.hostUp = true) ∧ (s.may i .operate = true) ∧ (v.toNat.testBit 0 = true) ∧ ((s.fdr f).bfStart = none)) ∧
    (∃ (s : State) (f : Nat) (i : Iface) (v : Word), (s.shaped = true) ∧ (s.room 200 = true) ∧ (f < 12) ∧ (s.hostUp = true) ∧ (s.may i .operate = true)) ∧
    (∃ (s : State) (f : Nat), (s.shaped = true) ∧ (s.room 200 = true) ∧ (f < 12) ∧ (s.bfT1 f ≠ 0) ∧ (s.bfDue f (s.bfT1 f) = true) ∧ (s.flag (Reg.PRT_F_E_STAT_RETRIP f 23) = false)) ∧
    (∃ (s : State) (f : Nat), (s.shaped = true) ∧ (s.room 200 = true) ∧ (f < 12) ∧ (s.bfDue f (s.bfT2 f) = true) ∧ ((s.elem f 23).op = false)) ∧
    (∃ (s : State) (f : Nat) (o : Bool) (r : PowRun), (s.shaped = true) ∧ (s.room 200 = true) ∧ (f < 12) ∧ ((if o then (s.fdr f).powOpen else (s.fdr f).powClose) = some r) ∧ (s.expired r.runt (s.getF (Reg.PRT_F_POW_LIM_MAXT f) * 1000000) = true) ∧ (s.powComes f o = false)) :=
  ⟨⟨w21 1 1 1 3 2, 0, ({ k := 31, cycle := 9, tw := 77, angle := 1073741824, epoch := 3, trk := 1, vals := [] }, 15), test_at_21_0.1⟩,
   ⟨w21 1 1 1 3 2, 3, { due := 1, f := 3, bf := some true, bfCause := 0, outs := [{ e := 4, cause := 3, st := { en := false, curve := 0, reset := false, half := false, dir := 0, src := 0, logic := 0, trip := false, bfi := false, pickup := 0, time := 0, aux := 0 }, x := { lanes := [{ pu := false, acc := 0, rst := 0, cnt := 0, m := 0, fwd := false, rev := false, mem := false }, { pu := true, acc := 0, rst := 0, cnt := 0, m := 0, fwd := false, rev := false, mem := false }, { pu := false, acc := 0, rst := 0, cnt := 0, m := 0, fwd := false, rev := false, mem := false }], op := true }, quiet := false }, { e := 7, cause := 2, st := { en := false, curve := 0, reset := false, half := false, dir := 0, src := 0, logic := 0, trip := false, bfi := false, pickup := 0, time := 0, aux := 0 }, x := { lanes := [{ pu := false, acc := 0, rst := 0, cnt := 0, m := 0, fwd := false, rev := false, mem := false }, { pu := false, acc := 0, rst := 0, cnt := 0, m := 0, fwd := false, rev := false, mem := false }, { pu := false, acc := 0, rst := 0, cnt := 0, m := 0, fwd := false, rev := false, mem := false }], op := false }, quiet := false }] }, test_at_21_0.2.1⟩,
   ⟨w21 2 0 2 2 1, 9, test_at_21_1.1⟩,
   ⟨w21 2 0 2 2 1, 2, Iface.pcie, 0x00000001#32, _, rfl, test_at_21_1.2⟩,
   ⟨w21 1 1 1 3 2, 6, Iface.spi, 0x002102a8#32, test_at_21_0.2.2.1⟩,
   ⟨w21 1 1 1 3 2, 0, test_at_21_0.2.2.2.1⟩,
   ⟨w21 1 1 1 3 2, 11, test_at_21_0.2.2.2.2⟩,
   ⟨w21 1 1 1 3 2, 9, false, { tw := 9, runt := 5, below := none }, test_at_21_2⟩⟩

/-- States for the statement CapturesArmTriggerAndEnd. -/
def w22 (z x0 x1 x2 x3 x4 : Nat) : State :=
  let s := wBase z
  let b : Nat := x0
  let c : Nat := x1
  let d : Nat := x2
  let e : Nat := x3
  let s := levels (onAll s) .operate
  let st : Nat := [0, 1, 2, 2, 3, 4].getD x4 0
  let s := { s with tm := { s.tm with nom := 2 ^ 70, time := 2 ^ 72, runt := 2 ^ 70 }, dram := [] }
  let s := s.setF Reg.ACQ_STAT_SHED (if e = 4 then 1 else 0)
  let s := ([0, 1, 2, 7] : List Nat).foldl (fun (s : State) j => ((((s.wr (Reg.ACQ_C_CFG j) (if e = 3 then 0 else 2 ^ 31 + (if c = 0 then 2 ^ 30 else 0) + 1 + d % 2 * 2 ^ 29)).wr (Reg.ACQ_C_CH_LO j) 3).wr (Reg.ACQ_C_CH_HI j) 0).wr (Reg.ACQ_C_BASE j) (0x10000 * j + 0x100000)).wr (Reg.ACQ_C_SIZE j) 0x4000) s
  let s := ([0, 1, 2, 7] : List Nat).foldl (fun (s : State) j => (((s.wr (Reg.ACQ_C_PRE j) 10).wr (Reg.ACQ_C_POST j) (if d = 3 then 5000 else 20)).wr (Reg.ACQ_C_TMASK j) 0xFF8021).wr (Reg.ACQ_C_STAT j) (st * 2 ^ 29 + b * 128)) s
  let s := ([0, 1, 2, 4] : List Nat).foldl (fun (s : State) k => s.wr (Reg.ACQ_RD_CFG k) 0) s
  let s := ([0, 1, 2, 15] : List Nat).foldl (fun (s : State) n => (((((s.wr (Reg.ACQ_TU_CFG n) (2 ^ 31 + (if n = 15 then 2 ^ 26 else 2 ^ 25))).wr (Reg.ACQ_TU_SRC n) (if n = 15 then 0 else 0x50000000)).wr (Reg.ACQ_TU_STAT n) (if b = 0 then 2 ^ 31 else 0)).wr (Reg.ACQ_TU_QUAL n) 0).wr (Reg.ACQ_TU_CNT n) 3)) s
  let fi : FeedIt := if d = 0 then .force 1 else .stageA false 5 (List.replicate 64 0x500)
  let s := s.wr Reg.ACQ_EVAL_DLY 0
  let s := { s with acq := { s.acq with feed := [⟨2 ^ 69, 7, 8, 9, 1, 1, fi⟩], tu := s.acq.tu.map fun (x : TuSt) => { x with cnt := 3, c := 4, pat := some true, hitAt := none, qual := 0, a := 1, b := 1 }, cap := s.acq.cap.map fun (x : RecSt) => { x with pre := 10, post := 20, seg := 0, frames := 50, insts := [⟨2 ^ 68, 4, 5⟩], trig := if st = 2 || b = 0 then some ⟨30, false, 1, 1, 0, 3, false, false, 7, 7, 7, 7, 0, 1⟩ else none, ovf := none, readTo := 0, ratios := [1, 2] } } }
  let s := s.acqSync
  s

theorem test_at_22_0 :
    (((w22 0 1 0 2 2 2).shaped = true) ∧ ((w22 0 1 0 2 2 2).room 64 = true) ∧ ((w22 0 1 0 2 2 2).hostUp = true) ∧ ((w22 0 1 0 2 2 2).may (Iface.spi : Iface) .operate = true) ∧ (7 < 8) ∧ ((w22 0 1 0 2 2 2).armFails 7 true = some ((5, 7) : Nat × Nat))) ∧
    (((w22 0 1 0 2 2 2).shaped = true) ∧ ((w22 0 1 0 2 2 2).room 64 = true) ∧ ((w22 0 1 0 2 2 2).hostUp = true) ∧ ((w22 0 1 0 2 2 2).may (Iface.spi : Iface) .operate = true) ∧ (6 < 8) ∧ ((w22 0 1 0 2 2 2).capLive 6 = false)) ∧
    (((w22 0 1 0 2 2 2).shaped = true) ∧ ((w22 0 1 0 2 2 2).room 64 = true) ∧ ((w22 0 1 0 2 2 2).hostUp = true) ∧ ((w22 0 1 0 2 2 2).may (Iface.spi : Iface) .operate = true) ∧ (7 < 8) ∧ ((w22 0 1 0 2 2 2).capLive 7 = true)) ∧
    (((w22 0 1 0 2 2 2).shaped = true) ∧ ((w22 0 1 0 2 2 2).room 64 = true) ∧ ((w22 0 1 0 2 2 2).hostUp = true) ∧ ((w22 0 1 0 2 2 2).may (Iface.pcie : Iface) .operate = true) ∧ (6 < 8) ∧ ((w22 0 1 0 2 2 2).getF (Reg.ACQ_C_STAT_HELD 6) = 0)) ∧
    (((w22 0 1 0 2 2 2).shaped = true) ∧ ((w22 0 1 0 2 2 2).room 64 = true) ∧ ((w22 0 1 0 2 2 2).hostUp = true) ∧ ((w22 0 1 0 2 2 2).may (Iface.pcie : Iface) .operate = true) ∧ (2 < 8) ∧ ((w22 0 1 0 2 2 2).getF (Reg.ACQ_C_STAT_HELD 2) = 1) ∧ ((w22 0 1 0 2 2 2).allEnded 2 = false)) ∧
    (((w22 0 1 0 2 2 2).shaped = true) ∧ ((w22 0 1 0 2 2 2).room 64 = true) ∧ ((w22 0 1 0 2 2 2).hostUp = true) ∧ ((w22 0 1 0 2 2 2).may (Iface.pcie : Iface) .operate = true) ∧ (7 < 8)) := by decide +kernel

theorem test_at_22_1 :
    (((w22 2 1 0 2 1 0).shaped = true) ∧ ((w22 2 1 0 2 1 0).room 64 = true) ∧ ((w22 2 1 0 2 1 0).hostUp = true) ∧ ((w22 2 1 0 2 1 0).may (Iface.spi : Iface) .operate = true) ∧ (7 < 8) ∧ ((w22 2 1 0 2 1 0).armFails 7 true = none)) ∧
    (((w22 2 1 0 2 1 0).shaped = true) ∧ ((w22 2 1 0 2 1 0).room 64 = true) ∧ ((w22 2 1 0 2 1 0).hostUp = true) ∧ ((w22 2 1 0 2 1 0).may (Iface.pcie : Iface) .operate = true) ∧ (7 < 8) ∧ (0 < (w22 2 1 0 2 1 0).getF (Reg.ACQ_C_STAT_HELD 7)) ∧ ((w22 2 1 0 2 1 0).getF (Reg.ACQ_C_STAT_HELD 7) = 1 → (w22 2 1 0 2 1 0).allEnded 7 = true)) := by decide +kernel

theorem test_at_22_2 :
    (((w22 0 1 0 2 2 2).shaped = true) ∧ ((w22 0 1 0 2 2 2).room 64 = true) ∧ ((w22 0 1 0 2 2 2).hostUp = true) ∧ ((w22 0 1 0 2 2 2).may (Iface.spi : Iface) .operate = true) ∧ (5 < 16)) ∧
    (((w22 0 1 0 2 2 2).shaped = true) ∧ ((w22 0 1 0 2 2 2).room 64 = true) ∧ (4 < 16) ∧ ((w22 0 1 0 2 2 2).timeoutDue 4 = false)) ∧
    (((w22 0 1 0 2 2 2).shaped = true) ∧ ((w22 0 1 0 2 2 2).room 64 = true) ∧ (15 < 16) ∧ ((w22 0 1 0 2 2 2).timeoutDue 15 = true) ∧ ((w22 0 1 0 2 2 2).dueItems.length = 1)) ∧
    (((w22 0 1 0 2 2 2).shaped = true) ∧ ((w22 0 1 0 2 2 2).room 64 = true) ∧ (7 < 8) ∧ ((w22 0 1 0 2 2 2).engines 7 = []) ∧ ((w22 0 1 0 2 2 2).capSt 7 = cTrig) ∧ (((w22 0 1 0 2 2 2).capOf 7).full = true) ∧ ((w22 0 1 0 2 2 2).flag (Reg.ACQ_C_CFG_AUTO 7) = false) ∧ ((w22 0 1 0 2 2 2).segAddr 7 ((w22 0 1 0 2 2 2).capOf 7).seg + 128 + 16 * 64 ≤ (w22 0 1 0 2 2 2).dramSize) ∧ (((w22 0 1 0 2 2 2).capOf 7).ovf = none) ∧ (((w22 0 1 0 2 2 2).capOf 7).again = none)) := by decide +kernel

theorem test_met_CapturesArmTriggerAndEnd :
    (∃ (s : State) (i : Iface) (j : Nat) (e : Nat × Nat), (s.shaped = true) ∧ (s.room 64 = true) ∧ (s.hostUp = true) ∧ (s.may i .operate = true) ∧ (j < 8) ∧ (s.armFails j true = some e)) ∧
    (∃ (s : State) (i : Iface) (j : Nat), (s.shaped = true) ∧ (s.room 64 = true) ∧ (s.hostUp = true) ∧ (s.may i .operate = true) ∧ (j < 8) ∧ (s.armFails j true = none)) ∧
    (∃ (s : State) (i : Iface) (j : Nat), (s.shaped = true) ∧ (s.room 64 = true) ∧ (s.hostUp = true) ∧ (s.may i .operate = true) ∧ (j < 8) ∧ (s.capLive j = false)) ∧
    (∃ (s : State) (i : Iface) (j : Nat), (s.shaped = true) ∧ (s.room 64 = true) ∧ (s.hostUp = true) ∧ (s.may i .operate = true) ∧ (j < 8) ∧ (s.capLive j = true)) ∧
    (∃ (s : State) (i : Iface) (j : Nat), (s.shaped = true) ∧ (s.room 64 = true) ∧ (s.hostUp = true) ∧ (s.may i .operate = true) ∧ (j < 8) ∧ (s.getF (Reg.ACQ_C_STAT_HELD j) = 0)) ∧
    (∃ (s : State) (i : Iface) (j : Nat), (s.shaped = true) ∧ (s.room 64 = true) ∧ (s.hostUp = true) ∧ (s.may i .operate = true) ∧ (j < 8) ∧ (s.getF (Reg.ACQ_C_STAT_HELD j) = 1) ∧ (s.allEnded j = false)) ∧
    (∃ (s : State) (i : Iface) (j : Nat), (s.shaped = true) ∧ (s.room 64 = true) ∧ (s.hostUp = true) ∧ (s.may i .operate = true) ∧ (j < 8) ∧ (0 < s.getF (Reg.ACQ_C_STAT_HELD j)) ∧ (s.getF (Reg.ACQ_C_STAT_HELD j) = 1 → s.allEnded j = true)) ∧
    (∃ (s : State) (i : Iface) (j : Nat) (v : Word), (s.shaped = true) ∧ (s.room 64 = true) ∧ (s.hostUp = true) ∧ (s.may i .operate = true) ∧ (j < 8)) ∧
    (∃ (s : State) (i : Iface) (n : Nat), (s.shaped = true) ∧ (s.room 64 = true) ∧ (s.hostUp = true) ∧ (s.may i .operate = true) ∧ (n < 16)) ∧
    (∃ (s : State) (n : Nat), (s.shaped = true) ∧ (s.room 64 = true) ∧ (n < 16) ∧ (s.timeoutDue n = false)) ∧
    (∃ (s : State) (n : Nat), (s.shaped = true) ∧ (s.room 64 = true) ∧ (n < 16) ∧ (s.timeoutDue n = true) ∧ (s.dueItems.length = 1)) ∧
    (∃ (s : State) (j : Nat), (s.shaped = true) ∧ (s.room 64 = true) ∧ (j < 8) ∧ (s.engines j = []) ∧ (s.capSt j = cTrig) ∧ ((s.capOf j).full = true) ∧ (s.flag (Reg.ACQ_C_CFG_AUTO j) = false) ∧ (s.segAddr j (s.capOf j).seg + 128 + 16 * 64 ≤ s.dramSize) ∧ ((s.capOf j).ovf = none) ∧ ((s.capOf j).again = none)) :=
  ⟨⟨w22 0 1 0 2 2 2, Iface.spi, 7, (5, 7), test_at_22_0.1⟩,
   ⟨w22 2 1 0 2 1 0, Iface.spi, 7, test_at_22_1.1⟩,
   ⟨w22 0 1 0 2 2 2, Iface.spi, 6, test_at_22_0.2.1⟩,
   ⟨w22 0 1 0 2 2 2, Iface.spi, 7, test_at_22_0.2.2.1⟩,
   ⟨w22 0 1 0 2 2 2, Iface.pcie, 6, test_at_22_0.2.2.2.1⟩,
   ⟨w22 0 1 0 2 2 2, Iface.pcie, 2, test_at_22_0.2.2.2.2.1⟩,
   ⟨w22 2 1 0 2 1 0, Iface.pcie, 7, test_at_22_1.2⟩,
   ⟨w22 0 1 0 2 2 2, Iface.pcie, 7, 0x00000000#32, test_at_22_0.2.2.2.2.2⟩,
   ⟨w22 0 1 0 2 2 2, Iface.spi, 5, test_at_22_2.1⟩,
   ⟨w22 0 1 0 2 2 2, 4, test_at_22_2.2.1⟩,
   ⟨w22 0 1 0 2 2 2, 15, test_at_22_2.2.2.1⟩,
   ⟨w22 0 1 0 2 2 2, 7, test_at_22_2.2.2.2⟩⟩

/-- States for the statement TriggerBusLinesAndTrc. -/
def w23 (z x0 x1 x2 x3 : Nat) : State :=
  let s := wBase z
  let b : Nat := x0
  let c : Nat := x1
  let d : Nat := x2
  let l : Nat := x3
  let s := onAll s
  let s := { s with tm := { s.tm with nom := 2 ^ 70, time := 2 ^ 72, runt := 2 ^ 70 } }
  let s := ((s.setF Reg.ACQ_BUS_CTL_TRC c).setF Reg.ACQ_BUS_STAT_TRC_OK b).setF Reg.ACQ_BUS_CTL_RXEN (if d = 0 then 0 else 255)
  let s := s.wr Reg.ACQ_BUS_LAT 100
  let s := ([0, 1, 2, 7] : List Nat).foldl (fun (s : State) j => (s.wr (Reg.ACQ_C_STAT j) (2 ^ 29 * (j % 3))).wr (Reg.ACQ_C_TMASK j) 0xF0000) s
  let s := { s with acq := { s.acq with lineDue := if d = 1 then [] else [(l, 5), (l + 1, 2 ^ 60)], lineAt := if d = 2 then [] else [(l, if b = 0 then 2 ^ 70 else 5)], edgeAt := if d = 3 then [(l, 2 ^ 70)] else if d = 2 then [(l, 4)] else [], trcAt := if c = 2 ∧ b = 1 then none else some (s.tw - (if b = 0 then 2 ^ 23 else 9)) } }
  s

theorem test_at_23_0 :
    (((w23 2 1 1 3 3).shaped = true) ∧ ((w23 2 1 1 3 3).room 8 = true) ∧ (7 < 8) ∧ (((w23 2 1 1 3 3).acq.lineDue.find? fun d => d.1 == 7 && decide (d.2 ≤ ((if (w23 2 1 1 3 3).getF Reg.ACQ_BUS_CTL_TRC = 1 ∧ (w23 2 1 1 3 3).flag Reg.ACQ_BUS_STAT_TRC_OK = true then (w23 2 1 1 3 3).acq.trcAt.getD 0 else (w23 2 1 1 3 3).tw)))) = none)) ∧
    (((w23 2 1 1 3 3).shaped = true) ∧ ((w23 2 1 1 3 3).room 8 = true) ∧ (7 < 8) ∧ ((w23 2 1 1 3 3).on secAcq = true) ∧ (((w23 2 1 1 3 3).getF Reg.ACQ_BUS_CTL_RXEN).testBit 7 = true) ∧ (((w23 2 1 1 3 3).acq.edgeAt.all fun x => x.1 != 7 || (w23 2 1 1 3 3).expired x.2 400) = true)) ∧
    (((w23 2 1 1 3 3).shaped = true) ∧ ((w23 2 1 1 3 3).room 8 = true) ∧ ((w23 2 1 1 3 3).getF Reg.ACQ_BUS_CTL_TRC = 1)) := by decide +kernel

theorem test_at_23_1 :
    (((w23 1 0 0 0 7).shaped = true) ∧ ((w23 1 0 0 0 7).room 8 = true) ∧ (7 < 8) ∧ (((w23 1 0 0 0 7).getF Reg.ACQ_BUS_CTL_RXEN).testBit 7 = false ∨ (w23 1 0 0 0 7).on secAcq = false)) ∧
    (((w23 1 0 0 0 7).shaped = true) ∧ ((w23 1 0 0 0 7).room 8 = true) ∧ ((w23 1 0 0 0 7).getF Reg.ACQ_BUS_CTL_TRC ≠ 1)) := by decide +kernel

theorem test_met_TriggerBusLinesAndTrc :
    (∃ (s : State) (l : Nat) (now : Nat), (now = (if s.getF Reg.ACQ_BUS_CTL_TRC = 1 ∧ s.flag Reg.ACQ_BUS_STAT_TRC_OK = true then s.acq.trcAt.getD 0 else s.tw)) ∧ (s.shaped = true) ∧ (s.room 8 = true) ∧ (l < 8) ∧ ((s.acq.lineDue.find? fun d => d.1 == l && decide (d.2 ≤ now)) = none)) ∧
    (∃ (s : State) (l : Nat) (now : Nat) (d : Nat × Nat), (now = (if s.getF Reg.ACQ_BUS_CTL_TRC = 1 ∧ s.flag Reg.ACQ_BUS_STAT_TRC_OK = true then s.acq.trcAt.getD 0 else s.tw)) ∧ (s.shaped = true) ∧ (s.room 8 = true) ∧ (l < 8) ∧ ((s.acq.lineDue.find? fun d => d.1 == l && decide (d.2 ≤ now)) = some d)) ∧
    (∃ (s : State) (l : Nat) (x : Nat × Nat), (s.shaped = true) ∧ (s.room 8 = true) ∧ (l < 8) ∧ ((s.acq.lineAt.find? fun x => x.1 == l) = some x) ∧ (s.expired x.2 400 = true)) ∧
    (∃ (s : State) (l : Nat) (x : Nat × Nat), (s.shaped = true) ∧ (s.room 8 = true) ∧ (l < 8) ∧ ((s.acq.lineAt.find? fun x => x.1 == l) = some x) ∧ (s.expired x.2 400 = false)) ∧
    (∃ (s : State) (l : Nat), (s.shaped = true) ∧ (s.room 8 = true) ∧ (l < 8) ∧ ((s.getF Reg.ACQ_BUS_CTL_RXEN).testBit l = false ∨ s.on secAcq = false)) ∧
    (∃ (s : State) (l : Nat) (x : Nat × Nat), (s.shaped = true) ∧ (s.room 8 = true) ∧ (l < 8) ∧ ((s.acq.edgeAt.find? fun x => x.1 == l) = some x) ∧ (s.expired x.2 400 = false)) ∧
    (∃ (s : State) (l : Nat), (s.shaped = true) ∧ (s.room 8 = true) ∧ (l < 8) ∧ (s.on secAcq = true) ∧ ((s.getF Reg.ACQ_BUS_CTL_RXEN).testBit l = true) ∧ ((s.acq.edgeAt.all fun x => x.1 != l || s.expired x.2 400) = true)) ∧
    (∃ (s : State), (s.shaped = true) ∧ (s.room 8 = true) ∧ (s.getF Reg.ACQ_BUS_CTL_TRC = 1)) ∧
    (∃ (s : State), (s.shaped = true) ∧ (s.room 8 = true) ∧ (s.getF Reg.ACQ_BUS_CTL_TRC ≠ 1)) :=
  ⟨⟨w23 2 1 1 3 3, 7, _, rfl, test_at_23_0.1⟩,
   ⟨w23 2 1 1 3 3, 3, _, (3, 5), rfl, by decide +kernel⟩,
   ⟨w23 2 1 1 3 3, 3, (3, 5), by decide +kernel⟩,
   ⟨w23 1 0 0 0 7, 7, (7, 1180591620717411303424), by decide +kernel⟩,
   ⟨w23 1 0 0 0 7, 7, test_at_23_1.1⟩,
   ⟨w23 2 1 1 3 3, 3, (3, 1180591620717411303424), by decide +kernel⟩,
   ⟨w23 2 1 1 3 3, 7, test_at_23_0.2.1⟩,
   ⟨w23 2 1 1 3 3, test_at_23_0.2.2⟩,
   ⟨w23 1 0 0 0 7, test_at_23_1.2⟩⟩

/-- States for the statement MeterWindowsAndCommits. -/
def w24 (z x0 x1 x2 x3 : Nat) : State :=
  let s := wBase z
  let b : Nat := x0
  let c : Nat := x1
  let d : Nat := x2
  let e : Nat := x3
  let s := levels (onAll s) (if e = 0 then .read else if e = 1 then .operate else .engineer)
  let s := { s with tm := { s.tm with runt := s.tm.runt + 2 ^ 66, fc := s.tm.fc + 9 }, pwr := { s.pwr with unpowered := false } }
  let s := (s.setF Reg.WYT_STAT_STATE 0).setF Reg.MTR_SEAL_STAT_OPEN (if d = 0 then 0 else 1)
  let s := ([0, 1, 2, 11] : List Nat).foldl (fun (s : State) f => ((s.setF (Reg.MTR_F_CFG_EN f) (if c = 2 then 0 else 1)).setF (Reg.MTR_F_STAT_ZERO f) b).wr (Reg.MTR_F_CREEP f) (if d = 1 then 2 ^ 31 else 0)) s
  let s := s.setF (Reg.CRS_PORT_QUOTA 7) (if e = 3 then 0 else 64)
  let s := s.setF Reg.MTR_TOT_SET_IDX_IDX (if e = 4 then 160 else 7)
  let rc : TotRec := ⟨5, s.tw, 1, 3, false, false, 8, 9, List.replicate 160 77⟩
  let ar : AuditRec := ⟨1, 2, 3, 9, 5, 8, 6, 7, 8, 9, 10, 11, b == 1⟩
  let s := { s with crs := CrsSt.reset, aud := { s.aud with next := if b = 0 then 1 else 50, recs := if c = 0 then List.replicate 2040 ar else [] }, mtr := { s.mtr with final := false, doneFc := if d = 3 then s.tm.fc else 2, want := if c = 1 then [⟨4, some (3, 9)⟩] else [], writing := if d = 2 then none else some rc, held := if b = 0 then none else some { rc with seq := 77 }, bankA := if c = 0 then none else some { rc with seq := c }, bankB := if e = 0 then none else some { rc with seq := e }, nextSeq := 2 ^ 32 - 1, fdr := s.mtr.fdr.map fun (x : MtrFdr) => { x with p := if b = 0 then 5 else -7, abs := 50, dt := 3, q := if d = 0 then 0 else 4000000, p1 := -9000000, dtq := if e = 2 then 0 else 2, win := if d = 0 then 2 ^ 40 else 3, since := [if c = 0 then some 0 else if d = 1 then some s.tm.runt else none, none, none] } } }
  let s := (if d = 2 && b = 1 then { s with crs := { s.crs with slots := s.crs.slots.map fun (x : Slot) => { x with st := .pending, port := 7 } } } else s)
  s

theorem test_at_24_0 :
    (((w24 0 0 1 2 2).shaped = true) ∧ ((w24 0 0 1 2 2).room 4 = true) ∧ (4 < 12) ∧ ((w24 0 0 1 2 2).windowDue 4 = false)) ∧
    (((w24 0 0 1 2 2).shaped = true) ∧ ((w24 0 0 1 2 2).room 4 = true) ∧ (1 < 12) ∧ ((w24 0 0 1 2 2).windowDue 1 = true)) ∧
    (((w24 0 0 1 2 2).shaped = true) ∧ ((w24 0 0 1 2 2).room 4 = true) ∧ (11 < 12) ∧ ((((w24 0 0 1 2 2).mf 11).since.all fun z => z.all fun x => !(w24 0 0 1 2 2).expired x 1000000000) = true)) ∧
    (((w24 0 0 1 2 2).shaped = true) ∧ ((w24 0 0 1 2 2).room 4 = true) ∧ ((w24 0 0 1 2 2).mtr.want.head? = some ({ cause := 4, preset := some (3, 9) } : CommitWish)) ∧ ((w24 0 0 1 2 2).on secMtr = true) ∧ ((w24 0 0 1 2 2).paired = false)) ∧
    (((w24 0 0 1 2 2).shaped = true) ∧ ((w24 0 0 1 2 2).room 4 = true) ∧ ((w24 0 0 1 2 2).mtr.writing = none)) ∧
    (((w24 0 0 1 2 2).shaped = true) ∧ ((w24 0 0 1 2 2).room 4 = true) ∧ ((w24 0 0 1 2 2).hostUp = true) ∧ ((0xaef54068#32 : Word).toNat % 8 = 0) ∧ ((w24 0 0 1 2 2).may (Iface.pcie : Iface) .operate = true)) ∧
    (((w24 0 0 1 2 2).shaped = true) ∧ ((w24 0 0 1 2 2).room 4 = true) ∧ ((w24 0 0 1 2 2).hostUp = true) ∧ ((0x952e4bc0#32 : Word).toNat % 8 = 0) ∧ ((w24 0 0 1 2 2).may (Iface.spi : Iface) .engineer = true) ∧ ((w24 0 0 1 2 2).sealOpen = true) ∧ (((w24 0 0 1 2 2).getF Reg.MTR_TOT_SET_IDX_IDX) < 160) ∧ ((w24 0 0 1 2 2).auditRoom 1 = true)) := by decide +kernel

theorem test_at_24_1 :
    (((w24 3 0 0 0 0).shaped = true) ∧ ((w24 3 0 0 0 0).room 4 = true) ∧ (11 < 12) ∧ (((w24 3 0 0 0 0).mf 11).since.getD 0 none = some 0) ∧ ((w24 3 0 0 0 0).expired 0 1000000000 = true) ∧ ((w24 3 0 0 0 0).meterOn 11 = true) ∧ ((w24 3 0 0 0 0).flag (Reg.MTR_F_STAT_ZERO 11) = false)) ∧
    (((w24 3 0 0 0 0).shaped = true) ∧ ((w24 3 0 0 0 0).room 4 = true) ∧ ((w24 3 0 0 0 0).on secMtr = true) ∧ ((w24 3 0 0 0 0).paired = false) ∧ ((w24 3 0 0 0 0).mtr.want = []) ∧ ((w24 3 0 0 0 0).commitInFlight = false) ∧ ((w24 3 0 0 0 0).mtr.doneFc < (w24 3 0 0 0 0).tm.fc)) ∧
    (((w24 3 0 0 0 0).shaped = true) ∧ ((w24 3 0 0 0 0).room 4 = true) ∧ ((w24 3 0 0 0 0).mtr.writing = some ({ seq := 5, tw := 0, epoch := 1, cause := 3, final := false, invalid := false, stamp := 8, runset := 9, values := [77, 77, 77, 77, 77, 77, 77, 77, 77, 77, 77, 77, 77, 77, 77, 77, 77, 77, 77, 77, 77, 77, 77, 77, 77, 77, 77, 77, 77, 77, 77, 77, 77, 77, 77, 77, 77, 77, 77, 77, 77, 77, 77, 77, 77, 77, 77, 77, 77, 77, 77, 77, 77, 77, 77, 77, 77, 77, 77, 77, 77, 77, 77, 77, 77, 77, 77, 77, 77, 77, 77, 77, 77, 77, 77, 77, 77, 77, 77, 77, 77, 77, 77, 77, 77, 77, 77, 77, 77, 77, 77, 77, 77, 77, 77, 77, 77, 77, 77, 77, 77, 77, 77, 77, 77, 77, 77, 77, 77, 77, 77, 77, 77, 77, 77, 77, 77, 77, 77, 77, 77, 77, 77, 77, 77, 77, 77, 77, 77, 77, 77, 77, 77, 77, 77, 77, 77, 77, 77, 77, 77, 77, 77, 77, 77, 77, 77, 77, 77, 77, 77, 77, 77, 77, 77, 77, 77, 77, 77, 77] } : TotRec)) ∧ ((w24 3 0 0 0 0).wy ≠ wyPaired)) ∧
    (((w24 3 0 0 0 0).shaped = true) ∧ ((w24 3 0 0 0 0).room 4 = true) ∧ ((w24 3 0 0 0 0).hostUp = true) ∧ ((0x00000000#32 : Word).toNat % 8 = 0) ∧ ((w24 3 0 0 0 0).may (Iface.pcie : Iface) .operate = false)) ∧
    (((w24 3 0 0 0 0).shaped = true) ∧ ((w24 3 0 0 0 0).room 4 = true) ∧ ((w24 3 0 0 0 0).hostUp = true) ∧ ((0x00060030#32 : Word).toNat % 8 = 0) ∧ ((w24 3 0 0 0 0).may (Iface.pcie : Iface) .engineer = false ∨ (w24 3 0 0 0 0).sealOpen = false)) := by decide +kernel

theorem test_at_24_2 :
    (((w24 0 1 0 3 2).shaped = true) ∧ ((w24 0 1 0 3 2).room 4 = true) ∧ ((w24 0 1 0 3 2).on secMtr = false ∨ ((w24 0 1 0 3 2).mtr.want = [] ∧ ((w24 0 1 0 3 2).commitInFlight = true ∨ (w24 0 1 0 3 2).tm.fc ≤ (w24 0 1 0 3 2).mtr.doneFc)))) ∧
    (((w24 0 1 0 3 2).shaped = true) ∧ ((w24 0 1 0 3 2).room 4 = true) ∧ ((w24 0 1 0 3 2).hostUp = true) ∧ ((0x00000000#32 : Word).toNat % 8 = 0) ∧ ((w24 0 1 0 3 2).may (Iface.spi : Iface) .engineer = true) ∧ ((w24 0 1 0 3 2).sealOpen = true) ∧ (((w24 0 1 0 3 2).getF Reg.MTR_TOT_SET_IDX_IDX) < 160) ∧ ((w24 0 1 0 3 2).auditRoom 1 = false)) := by decide +kernel

theorem test_at_24_3 :
    (((w24 0 0 1 2 2).shaped = true) ∧ ((w24 0 0 1 2 2).room 4 = true) ∧ ((w24 0 0 1 2 2).hostUp = true) ∧ ((0x00800000#32 : Word).toNat % 8 = 0) ∧ ((w24 0 0 1 2 2).may (Iface.pcie : Iface) .engineer = true) ∧ ((w24 0 0 1 2 2).sealOpen = true) ∧ ((w24 0 0 1 2 2).auditFree ≠ 0)) := by decide +kernel

theorem test_met_MeterWindowsAndCommits :
    (∃ (s : State) (f : Nat), (s.shaped = true) ∧ (s.room 4 = true) ∧ (f < 12) ∧ (s.windowDue f = false)) ∧
    (∃ (s : State) (f : Nat), (s.shaped = true) ∧ (s.room 4 = true) ∧ (f < 12) ∧ (s.windowDue f = true)) ∧
    (∃ (s : State) (f : Nat), (s.shaped = true) ∧ (s.room 4 = true) ∧ (f < 12) ∧ (((s.mf f).since.all fun z => z.all fun x => !s.expired x 1000000000) = true)) ∧
    (∃ (s : State) (f : Nat) (x : Nat), (s.shaped = true) ∧ (s.room 4 = true) ∧ (f < 12) ∧ ((s.mf f).since.getD 0 none = some x) ∧ (s.expired x 1000000000 = true) ∧ (s.meterOn f = true) ∧ (s.flag (Reg.MTR_F_STAT_ZERO f) = false)) ∧
    (∃ (s : State), (s.shaped = true) ∧ (s.room 4 = true) ∧ (s.on secMtr = false ∨ (s.mtr.want = [] ∧ (s.commitInFlight = true ∨ s.tm.fc ≤ s.mtr.doneFc)))) ∧
    (∃ (s : State), (s.shaped = true) ∧ (s.room 4 = true) ∧ (s.on secMtr = true) ∧ (s.paired = false) ∧ (s.mtr.want = []) ∧ (s.commitInFlight = false) ∧ (s.mtr.doneFc < s.tm.fc)) ∧
    (∃ (s : State) (w : CommitWish), (s.shaped = true) ∧ (s.room 4 = true) ∧ (s.mtr.want.head? = some w) ∧ (s.on secMtr = true) ∧ (s.paired = false)) ∧
    (∃ (s : State), (s.shaped = true) ∧ (s.room 4 = true) ∧ (s.mtr.writing = none)) ∧
    (∃ (s : State) (r : TotRec), (s.shaped = true) ∧ (s.room 4 = true) ∧ (s.mtr.writing = some r) ∧ (s.wy ≠ wyPaired)) ∧
    (∃ (s : State) (i : Iface) (v : Word), (s.shaped = true) ∧ (s.room 4 = true) ∧ (s.hostUp = true) ∧ (v.toNat % 8 = 0) ∧ (s.may i .operate = true)) ∧
    (∃ (s : State) (i : Iface) (v : Word), (s.shaped = true) ∧ (s.room 4 = true) ∧ (s.hostUp = true) ∧ (v.toNat % 8 = 0) ∧ (s.may i .operate = false)) ∧
    (∃ (s : State) (i : Iface) (v : Word), (s.shaped = true) ∧ (s.room 4 = true) ∧ (s.hostUp = true) ∧ (v.toNat % 8 = 0) ∧ (s.may i .engineer = false ∨ s.sealOpen = false)) ∧
    (∃ (s : State) (i : Iface) (v : Word) (n : Nat), (n = s.getF Reg.MTR_TOT_SET_IDX_IDX) ∧ (s.shaped = true) ∧ (s.room 4 = true) ∧ (s.hostUp = true) ∧ (v.toNat % 8 = 0) ∧ (s.may i .engineer = true) ∧ (s.sealOpen = true) ∧ (n < 160) ∧ (s.auditRoom 1 = true)) ∧
    (∃ (s : State) (i : Iface) (v : Word) (n : Nat), (n = s.getF Reg.MTR_TOT_SET_IDX_IDX) ∧ (s.shaped = true) ∧ (s.room 4 = true) ∧ (s.hostUp = true) ∧ (v.toNat % 8 = 0) ∧ (s.may i .engineer = true) ∧ (s.sealOpen = true) ∧ (n < 160) ∧ (s.auditRoom 1 = false)) ∧
    (∃ (s : State) (i : Iface) (v : Word), (s.shaped = true) ∧ (s.room 4 = true) ∧ (s.hostUp = true) ∧ (v.toNat % 8 = 0) ∧ (s.may i .engineer = true) ∧ (s.sealOpen = true) ∧ (s.auditFree ≠ 0)) :=
  ⟨⟨w24 0 0 1 2 2, 4, test_at_24_0.1⟩,
   ⟨w24 0 0 1 2 2, 1, test_at_24_0.2.1⟩,
   ⟨w24 0 0 1 2 2, 11, test_at_24_0.2.2.1⟩,
   ⟨w24 3 0 0 0 0, 11, 0, test_at_24_1.1⟩,
   ⟨w24 0 1 0 3 2, test_at_24_2.1⟩,
   ⟨w24 3 0 0 0 0, test_at_24_1.2.1⟩,
   ⟨w24 0 0 1 2 2, { cause := 4, preset := some (3, 9) }, test_at_24_0.2.2.2.1⟩,
   ⟨w24 0 0 1 2 2, test_at_24_0.2.2.2.2.1⟩,
   ⟨w24 3 0 0 0 0, { seq := 5, tw := 0, epoch := 1, cause := 3, final := false, invalid := false, stamp := 8, runset := 9, values := [77, 77, 77, 77, 77, 77, 77, 77, 77, 77, 77, 77, 77, 77, 77, 77, 77, 77, 77, 77, 77, 77, 77, 77, 77, 77, 77, 77, 77, 77, 77, 77, 77, 77, 77, 77, 77, 77, 77, 77, 77, 77, 77, 77, 77, 77, 77, 77, 77, 77, 77, 77, 77, 77, 77, 77, 77, 77, 77, 77, 77, 77, 77, 77, 77, 77, 77, 77, 77, 77, 77, 77, 77, 77, 77, 77, 77, 77, 77, 77, 77, 77, 77, 77, 77, 77, 77, 77, 77, 77, 77, 77, 77, 77, 77, 77, 77, 77, 77, 77, 77, 77, 77, 77, 77, 77, 77, 77, 77, 77, 77, 77, 77, 77, 77, 77, 77, 77, 77, 77, 77, 77, 77, 77, 77, 77, 77, 77, 77, 77, 77, 77, 77, 77, 77, 77, 77, 77, 77, 77, 77, 77, 77, 77, 77, 77, 77, 77, 77, 77, 77, 77, 77, 77, 77, 77, 77, 77, 77, 77] }, test_at_24_1.2.2.1⟩,
   ⟨w24 0 0 1 2 2, Iface.pcie, 0xaef54068#32, test_at_24_0.2.2.2.2.2.1⟩,
   ⟨w24 3 0 0 0 0, Iface.pcie, 0x00000000#32, test_at_24_1.2.2.2.1⟩,
   ⟨w24 3 0 0 0 0, Iface.pcie, 0x00060030#32, test_at_24_1.2.2.2.2⟩,
   ⟨w24 0 0 1 2 2, Iface.spi, 0x952e4bc0#32, _, rfl, test_at_24_0.2.2.2.2.2.2⟩,
   ⟨w24 0 1 0 3 2, Iface.spi, 0x00000000#32, _, rfl, test_at_24_2.2⟩,
   ⟨w24 0 0 1 2 2, Iface.pcie, 0x00800000#32, test_at_24_3⟩⟩

/-- States for the statement SealAndAuditLog. -/
def w25 (z x0 x1 x2 x3 : Nat) : State :=
  let s := wBase z
  let b : Nat := x0
  let c : Nat := x1
  let d : Nat := x2
  let e : Nat := x3
  let s := levels (onAll s) (if e = 0 then .operate else .engineer)
  let s := { s with pwr := { s.pwr with unpowered := decide (d = 0) } }
  let s := s.setF Reg.MTR_SEAL_STAT_OPEN b
  let s := ((s.wr Reg.MTR_AUD_SEL (if e = 3 then 999 else 11)).setF Reg.MTR_SEAL_STAT_OPENS (250 + e + c)).setF Reg.MTR_SEAL_STAT_TAMPERS (253 + c)
  let ar : Nat → AuditRec := fun n => ⟨n, 2, 3, 9, 5, 8, 6, 7, 8, 9, 10, 11, decide (c = 0 ∨ n < 12)⟩
  let s := { s with aud := { s.aud with closes := 255 - e, held := if c = 0 then List.replicate 4 ⟨5, 6, 7⟩ else [], next := if b = 0 then 1 else 50, recs := if e = 4 then List.replicate 2048 (ar 10) else if e = 2 then [] else [ar 10, ar 11, ar 12] } }
  s

theorem test_at_25_0 :
    (((w25 1 1 2 0 0).shaped = true) ∧ ((w25 1 1 2 0 0).room 4 = true) ∧ ((w25 1 1 2 0 0).sealOpen = true)) ∧
    (((w25 1 1 2 0 0).shaped = true) ∧ ((w25 1 1 2 0 0).room 4 = true) ∧ ((w25 1 1 2 0 0).hostUp = true) ∧ ((w25 1 1 2 0 0).may (Iface.spi : Iface) .engineer = false)) := by decide +kernel

theorem test_at_25_1 :
    (((w25 0 0 1 0 4).shaped = true) ∧ ((w25 0 0 1 0 4).room 4 = true) ∧ ((w25 0 0 1 0 4).sealOpen = false)) ∧
    (((w25 0 0 1 0 4).shaped = true) ∧ ((w25 0 0 1 0 4).room 4 = true)) ∧
    (((w25 0 0 1 0 4).shaped = true) ∧ ((w25 0 0 1 0 4).room 4 = true) ∧ ((w25 0 0 1 0 4).hostUp = true) ∧ (((w25 0 0 1 0 4).aud.recs.all fun r => r.seq != ((w25 0 0 1 0 4).rd Reg.MTR_AUD_SEL)) = true)) ∧
    (((w25 0 0 1 0 4).shaped = true) ∧ ((w25 0 0 1 0 4).room 4 = true) ∧ ((w25 0 0 1 0 4).hostUp = true) ∧ ((w25 0 0 1 0 4).may (Iface.pcie : Iface) .engineer = true)) := by decide +kernel

theorem test_met_SealAndAuditLog :
    (∃ (s : State) (link : Nat), (link = (if s.aud.next = 1 then 0 else digest8 (sha256 s.aud.last))) ∧ (s.shaped = true) ∧ (s.room 4 = true) ∧ (s.sealOpen = true)) ∧
    (∃ (s : State) (link : Nat) (n : Nat), (link = (if s.aud.next = 1 then 0 else digest8 (sha256 s.aud.last))) ∧ (n = s.getF Reg.MTR_SEAL_STAT_OPENS) ∧ (s.shaped = true) ∧ (s.room 4 = true) ∧ (s.sealOpen = false)) ∧
    (∃ (s : State) (link : Nat) (n : Nat), (link = (if s.aud.next = 1 then 0 else digest8 (sha256 s.aud.last))) ∧ (n = s.getF Reg.MTR_SEAL_STAT_TAMPERS) ∧ (s.shaped = true) ∧ (s.room 4 = true)) ∧
    (∃ (s : State) (link : Nat) (i : Iface) (n : Nat), (link = (if s.aud.next = 1 then 0 else digest8 (sha256 s.aud.last))) ∧ (n = s.rd Reg.MTR_AUD_SEL) ∧ (s.shaped = true) ∧ (s.room 4 = true) ∧ (s.hostUp = true) ∧ ((s.aud.recs.all fun r => r.seq != n) = true)) ∧
    (∃ (s : State) (link : Nat) (i : Iface) (r : AuditRec), (link = (if s.aud.next = 1 then 0 else digest8 (sha256 s.aud.last))) ∧ (s.shaped = true) ∧ (s.room 4 = true) ∧ (s.hostUp = true) ∧ ((s.aud.recs.find? fun r => r.seq == s.rd Reg.MTR_AUD_SEL) = some r)) ∧
    (∃ (s : State) (link : Nat) (i : Iface) (v : Word), (link = (if s.aud.next = 1 then 0 else digest8 (sha256 s.aud.last))) ∧ (s.shaped = true) ∧ (s.room 4 = true) ∧ (s.hostUp = true) ∧ (s.may i .engineer = false)) ∧
    (∃ (s : State) (link : Nat) (i : Iface) (v : Word) (due : List AuditRec) (gone : List AuditRec), (link = (if s.aud.next = 1 then 0 else digest8 (sha256 s.aud.last))) ∧ (due = (s.aud.recs.takeWhile fun r => decide (r.seq ≤ v.toNat))) ∧ (gone = (due.takeWhile fun r => r.read)) ∧ (s.shaped = true) ∧ (s.room 4 = true) ∧ (s.hostUp = true) ∧ (s.may i .engineer = true)) :=
  ⟨⟨w25 1 1 2 0 0, _, rfl, test_at_25_0.1⟩,
   ⟨w25 0 0 1 0 4, _, _, rfl, rfl, test_at_25_1.1⟩,
   ⟨w25 0 0 1 0 4, _, _, rfl, rfl, test_at_25_1.2.1⟩,
   ⟨w25 0 0 1 0 4, _, Iface.pcie, _, rfl, rfl, test_at_25_1.2.2.1⟩,
   ⟨w25 1 1 2 0 0, _, Iface.spi, { seq := 11, tw := 2, epoch := 3, kind := 9, access := 5, width := 8, target := 6, before := 7, after := 8, stamp := 9, chain := 10, crc := 11, read := true }, rfl, by decide +kernel⟩,
   ⟨w25 1 1 2 0 0, _, Iface.spi, 0x00000001#32, rfl, test_at_25_0.2⟩,
   ⟨w25 0 0 1 0 4, _, Iface.pcie, 0x0000000b#32, _, _, rfl, rfl, rfl, test_at_25_1.2.2.2⟩⟩

/-- States for the statement TaskCyclesFollowTheGrid. -/
def w26 (z x0 x1 x2 x3 x4 : Nat) : State :=
  let s := wBase z
  let b : Nat := x0
  let c : Nat := x1
  let d : Nat := x2
  let e : Nat := x3
  let h : Nat := x4
  let s := levels (onAll s) (if e = 0 then .read else if e = 1 then .operate else .engineer)
  let s := ((s.setF Reg.WYT_STAT_STATE 0).setF Reg.BLK_BASE_NSEL 4).setF Reg.KLN_STAT_BUSY 0
  let per := 500000 * 2 ^ 32
  let s := { s with tm := { s.tm with nom := 2 ^ 70, runt := 2 ^ 70, time := 4010 * per + (if d = 0 then per * 9 / 10 else per / 5), div := 1 }, pwr := { s.pwr with unpowered := false }, crs := { CrsSt.reset with slots := if d = 3 then CrsSt.reset.slots.map fun (x : Slot) => { x with st := .pending, port := 9 } else CrsSt.reset.slots } }
  let s := ([0, 1, 2, 15] : List Nat).foldl (fun (s : State) r => s.setF (Reg.MTR_M_CFG_EN r) 0) s
  let p0 := progInit wProg0
  let p0 := { p0 with data := p0.data.map fun (x : Byte) => x + 1, timers := p0.timers.map fun (x : TimerSt) => { x with et := 2, mem := true } }
  let st := if b = 0 then 2 else e
  let s := (List.range 4).foldl (fun (s : State) k => ((((s.wr (Reg.BLK_C_TASK k) (20 * 65536 + 3)).wr (Reg.BLK_C_LIM k) (64 * 65536 + 2)).wr (Reg.BLK_C_STAT k) (2 ^ 29 * st + 2 ^ 27 * c)).setF (Reg.CRS_PORT_QUOTA (1 + k)) 64).setF (Reg.BLK_C_EXEC_LAST_NS k) 5) s
  let ex : Option Exec := if h = 0 then none else if h = 1 then some ⟨4003, 2 ^ 70 - 2 ^ 42, 5, ⟨[], [], [], [], (0, 0), []⟩, [], 0, c == 0⟩ else some ⟨3983, 2 ^ 70 - 2 ^ 60, 5, ⟨[], [], [], [], (0, 0), []⟩, [], 1, c == 0⟩
  let s := { s with blk := { s.blk with op := none, core := s.blk.core.map fun (k : CoreSt) => { k with active := if d = 2 then none else some p0, shadow := if c = 2 then some (progInit wProg1) else none, loading := none, exec := ex, done := if e = 4 || d = 3 then 4005 else if h = 2 then 4002 else 3990, hold := if c = 0 then none else if d = 1 then some (3983, true) else none, vpDue := [], vpBuf := [], retain := false } } }
  s

theorem test_at_26_0 :
    (((w26 3 1 0 3 1 1).shaped = true) ∧ ((w26 3 1 0 3 1 1).room 8 = true) ∧ (0 < 4) ∧ ((w26 3 1 0 3 1 1).getF (Reg.BLK_C_TASK_PHASE 0) < (w26 3 1 0 3 1 1).taskK 0)) ∧
    (((w26 3 1 0 3 1 1).shaped = true) ∧ ((w26 3 1 0 3 1 1).room 8 = true) ∧ (1 < 4) ∧ ((w26 3 1 0 3 1 1).cycles 1 = false ∨ (w26 3 1 0 3 1 1).baseIdx < (w26 3 1 0 3 1 1).nextSync 1)) ∧
    (((w26 3 1 0 3 1 1).shaped = true) ∧ ((w26 3 1 0 3 1 1).room 8 = true) ∧ (3 < 4) ∧ (((w26 3 1 0 3 1 1).core 3).exec = some ({ idx := 4003, start := 1180591616319364792320, tw := 5, img := { ring := [], dio := [], ao := [], prt := [], ang := (0, 0), tot := [] }, runs := [], skipped := 0, late := true } : Exec)) ∧ (({ idx := 4003, start := 1180591616319364792320, tw := 5, img := { ring := [], dio := [], ao := [], prt := [], ang := (0, 0), tot := [] }, runs := [], skipped := 0, late := true } : Exec).runs = []) ∧ ((w26 3 1 0 3 1 1).copiesOnly (1 + 3) = false) ∧ ((w26 3 1 0 3 1 1).paired = false) ∧ (((w26 3 1 0 3 1 1).core 3).vpDue = []) ∧ (((w26 3 1 0 3 1 1).core 3).retain = false) ∧ ((w26 3 1 0 3 1 1).baseIdx < (w26 3 1 0 3 1 1).nextSync 3)) ∧
    (((w26 3 1 0 3 1 1).shaped = true) ∧ ((w26 3 1 0 3 1 1).room 8 = true) ∧ (2 < 4) ∧ ((((w26 3 1 0 3 1 1).core 2).exec.all fun x => x.late || !(w26 3 1 0 3 1 1).taskLate 2 x) = true)) ∧
    (((w26 3 1 0 3 1 1).shaped = true) ∧ ((w26 3 1 0 3 1 1).room 8 = true) ∧ (2 < 4) ∧ (((w26 3 1 0 3 1 1).core 2).exec = some ({ idx := 4003, start := 1180591616319364792320, tw := 5, img := { ring := [], dio := [], ao := [], prt := [], ang := (0, 0), tot := [] }, runs := [], skipped := 0, late := true } : Exec)) ∧ ((decide (({ idx := 4003, start := 1180591616319364792320, tw := 5, img := { ring := [], dio := [], ao := [], prt := [], ang := (0, 0), tot := [] }, runs := [], skipped := 0, late := true } : Exec).start + (w26 3 1 0 3 1 1).getF (Reg.BLK_C_LIM_XLIM 2) * (w26 3 1 0 3 1 1).taskNs 2 * 2 ^ 32 < (w26 3 1 0 3 1 1).tm.runt)) = false)) ∧
    (((w26 3 1 0 3 1 1).shaped = true) ∧ ((w26 3 1 0 3 1 1).room 8 = true) ∧ (3 < 4) ∧ ((w26 3 1 0 3 1 1).hostUp = true) ∧ ((w26 3 1 0 3 1 1).on (secCore 3) = true) ∧ ((w26 3 1 0 3 1 1).may (Iface.pcie : Iface) .operate = true) ∧ (((w26 3 1 0 3 1 1).core 3).active = some ({ image := [0x4b#8, 0x49#8, 0x4c#8, 0x4e#8, 0x01#8, 0x00#8, 0x02#8, 0x00#8, 0x60#8, 0x01#8, 0x00#8, 0x00#8, 0x01#8, 0x00#8, 0x00#8, 0x00#8, 0x00#8, 0x00#8, 0x00#8, 0x00#8, 0x00#8, 0x00#8, 0x00#8, 0x00#8, 0x00#8, 0x00#8, 0x00#8, 0x00#8, 0x00#8, 0x00#8, 0x00#8, 0x00#8, 0x00#8, 0x00#8, 0x00#8, 0x00#8, 0x00#8, 0x00#8, 0x00#8, 0x00#8, 0x00#8, 0x00#8, 0x00#8, 0x00#8, 0x00#8, 0x00#8, 0x00#8, 0x00#8, 0x00#8, 0x00#8, 0x00#8, 0x00#8, 0x00#8, 0x00#8, 0x00#8, 0x00#8, 0x00#8, 0x00#8, 0x00#8, 0x00#8, 0x00#8, 0x00#8, 0x00#8, 0x00#8, 0x00#8, 0x00#8, 0x00#8, 0x00#8, 0x00#8, 0x00#8, 0x00#8, 0x00#8, 0x00#8, 0x00#8, 0x00#8, 0x00#8, 0x00#8, 0x00#8, 0x00#8, 0x00#8, 0x00#8, 0x00#8, 0x00#8, 0x00#8, 0x00#8, 0x00#8, 0x00#8, 0x00#8, 0x00#8, 0x00#8, 0x00#8, 0x00#8, 0x00#8, 0x00#8, 0x00#8, 0x00#8, 0x00#8, 0x00#8, 0x00#8, 0x00#8, 0x00#8, 0x00#8, 0x00#8, 0x00#8, 0x00#8, 0x00#8, 0x00#8, 0x00#8, 0x00#8, 0x00#8, 0x00#8, 0x00#8, 0x00#8, 0x00#8, 0x00#8, 0x00#8, 0x00#8, 0x00#8, 0x00#8, 0x00#8, 0x00#8, 0x00#8, 0x00#8, 0x00#8, 0x00#8, 0x00#8, 0x00#8, 0x00#8, 0x00#8, 0x00#8, 0x00#8, 0x00#8, 0x00#8, 0x00#8, 0x00#8, 0x00#8, 0x00#8, 0x00#8, 0x00#8, 0x00#8, 0x00#8, 0x00#8, 0x00#8, 0x00#8, 0x00#8, 0x00#8, 0x00#8, 0x00#8, 0x00#8, 0x00#8, 0x00#8, 0x00#8, 0x00#8, 0x00#8, 0x00#8, 0x00#8, 0x00#8, 0x00#8, 0x00#8, 0x00#8, 0x00#8, 0x00#8, 0x00#8, 0x00#8, 0x00#8, 0x00#8, 0x00#8, 0x00#8, 0x00#8, 0x00#8, 0x00#8, 0x00#8, 0x00#8, 0x00#8, 0x00#8, 0x00#8, 0x00#8, 0x00#8, 0x00#8, 0x00#8, 0x00#8, 0x00#8, 0x00#8, 0x00#8, 0x00#8, 0x00#8, 0x00#8, 0x00#8, 0x00#8, 0x00#8, 0x00#8, 0x00#8, 0x00#8, 0x00#8, 0x00#8, 0x00#8, 0x00#8, 0x00#8, 0x00#8, 0x00#8, 0x00#8, 0x00#8, 0x00#8, 0x00#8, 0x00#8, 0x00#8, 0x00#8, 0x00#8, 0x00#8, 0x00#8, 0x00#8, 0x00#8, 0x00#8, 0x00#8, 0x00#8, 0x00#8, 0x00#8, 0x00#8, 0x00#8, 0x00#8, 0x00#8, 0x00#8, 0x00#8, 0x00#8, 0x00#8, 0x00#8, 0x00#8, 0x00#8, 0x00#8, 0x00#8, 0x00#8, 0x00#8, 0x00#8, 0x00#8, 0x00#8, 0x00#8, 0x00#8, 0x00#8, 0x00#8, 0x00#8, 0x00#8, 0x00#8, 0x00#8, 0x00#8, 0x00#8, 0x00#8, 0x00#8, 0x00#8, 0x00#8, 0x00#8, 0x00#8, 0x00#8, 0x00#8, 0x00#8, 0x00#8, 0x00#8, 0x04#8, 0x60#8, 0x00#8, 0x00#8, 0x00#8, 0x00#8, 0x00#8, 0x00#8, 0x40#8, 0x01#8, 0x00#8, 0x00#8, 0x20#8, 0x00#8, 0x00#8, 0x00#8, 0x00#8, 0x00#8, 0x00#8, 0x00#8, 0x00#8, 0x00#8, 0x00#8, 0x00#8, 0x00#8, 0x00#8, 0x00#8, 0x00#8, 0x00#8, 0x00#8, 0x00#8, 0x00#8, 0x00#8, 0x00#8, 0x00#8, 0x00#8, 0x00#8, 0x00#8, 0x00#8, 0x00#8, 0x00#8, 0x00#8, 0x00#8, 0x00#8, 0x00#8, 0x00#8, 0x00#8, 0x00#8, 0x00#8, 0x00#8, 0x00#8, 0x00#8, 0x00#8, 0x00#8, 0x00#8, 0x00#8, 0x00#8, 0x00#8, 0x00#8, 0x00#8, 0x00#8, 0x00#8, 0x00#8, 0x00#8, 0x01#8, 0x00#8, 0x04#8, 0x00#8, 0x04#8, 0x00#8, 0x00#8, 0x00#8, 0x0a#8, 0x00#8, 0x00#8, 0x00#8, 0xe8#8, 0x03#8, 0x00#8, 0x00#8, 0x02#8, 0x00#8, 0x02#8, 0x01#8, 0x08#8, 0x00#8, 0x00#8, 0x00#8, 0x00#8, 0x00#8, 0x00#8, 0x00#8, 0x32#8, 0x00#8, 0x00#8, 0x00#8], data := [], timers := [] } : Prog)) ∧ ((w26 3 1 0 3 1 1).task 3 = tkStopped)) := by decide +kernel

theorem test_at_26_1 :
    (((w26 3 1 1 0 2 2).shaped = true) ∧ ((w26 3 1 1 0 2 2).room 8 = true) ∧ (2 < 4) ∧ ((w26 3 1 1 0 2 2).cycles 2 = true) ∧ ((w26 3 1 1 0 2 2).nextSync 2 ≤ (w26 3 1 1 0 2 2).baseIdx) ∧ ((w26 3 1 1 0 2 2).copiesOnly (1 + 2) = false) ∧ ((w26 3 1 1 0 2 2).coreRuns 2 = [])) ∧
    (((w26 3 1 1 0 2 2).shaped = true) ∧ ((w26 3 1 1 0 2 2).room 8 = true) ∧ (1 < 4) ∧ (((w26 3 1 1 0 2 2).core 1).exec = some ({ idx := 3983, start := 1179438699212804456448, tw := 5, img := { ring := [], dio := [], ao := [], prt := [], ang := (0, 0), tot := [] }, runs := [], skipped := 1, late := false } : Exec)) ∧ (({ idx := 3983, start := 1179438699212804456448, tw := 5, img := { ring := [], dio := [], ao := [], prt := [], ang := (0, 0), tot := [] }, runs := [], skipped := 1, late := false } : Exec).late = false) ∧ ((w26 3 1 1 0 2 2).taskLate 1 ({ idx := 3983, start := 1179438699212804456448, tw := 5, img := { ring := [], dio := [], ao := [], prt := [], ang := (0, 0), tot := [] }, runs := [], skipped := 1, late := false } : Exec) = true)) ∧
    (((w26 3 1 1 0 2 2).shaped = true) ∧ ((w26 3 1 1 0 2 2).room 8 = true) ∧ (3 < 4) ∧ (((w26 3 1 1 0 2 2).core 3).exec = some ({ idx := 3983, start := 1179438699212804456448, tw := 5, img := { ring := [], dio := [], ao := [], prt := [], ang := (0, 0), tot := [] }, runs := [], skipped := 1, late := false } : Exec)) ∧ ((decide (({ idx := 3983, start := 1179438699212804456448, tw := 5, img := { ring := [], dio := [], ao := [], prt := [], ang := (0, 0), tot := [] }, runs := [], skipped := 1, late := false } : Exec).start + (w26 3 1 1 0 2 2).getF (Reg.BLK_C_LIM_XLIM 3) * (w26 3 1 1 0 2 2).taskNs 3 * 2 ^ 32 < (w26 3 1 1 0 2 2).tm.runt)) = true)) ∧
    (((w26 3 1 1 0 2 2).shaped = true) ∧ ((w26 3 1 1 0 2 2).room 8 = true) ∧ (1 < 4) ∧ ((w26 3 1 1 0 2 2).hostUp = true) ∧ ((w26 3 1 1 0 2 2).on (secCore 1) = true) ∧ ((w26 3 1 1 0 2 2).may (Iface.pcie : Iface) .operate = true) ∧ (((w26 3 1 1 0 2 2).core 1).active = some ({ image := [0x4b#8, 0x49#8, 0x4c#8, 0x4e#8, 0x01#8, 0x00#8, 0x02#8, 0x00#8, 0x60#8, 0x01#8, 0x00#8, 0x00#8, 0x01#8, 0x00#8, 0x00#8, 0x00#8, 0x00#8, 0x00#8, 0x00#8, 0x00#8, 0x00#8, 0x00#8, 0x00#8, 0x00#8, 0x00#8, 0x00#8, 0x00#8, 0x00#8, 0x00#8, 0x00#8, 0x00#8, 0x00#8, 0x00#8, 0x00#8, 0x00#8, 0x00#8, 0x00#8, 0x00#8, 0x00#8, 0x00#8, 0x00#8, 0x00#8, 0x00#8, 0x00#8, 0x00#8, 0x00#8, 0x00#8, 0x00#8, 0x00#8, 0x00#8, 0x00#8, 0x00#8, 0x00#8, 0x00#8, 0x00#8, 0x00#8, 0x00#8, 0x00#8, 0x00#8, 0x00#8, 0x00#8, 0x00#8, 0x00#8, 0x00#8, 0x00#8, 0x00#8, 0x00#8, 0x00#8, 0x00#8, 0x00#8, 0x00#8, 0x00#8, 0x00#8, 0x00#8, 0x00#8, 0x00#8, 0x00#8, 0x00#8, 0x00#8, 0x00#8, 0x00#8, 0x00#8, 0x00#8, 0x00#8, 0x00#8, 0x00#8, 0x00#8, 0x00#8, 0x00#8, 0x00#8, 0x00#8, 0x00#8, 0x00#8, 0x00#8, 0x00#8, 0x00#8, 0x00#8, 0x00#8, 0x00#8, 0x00#8, 0x00#8, 0x00#8, 0x00#8, 0x00#8, 0x00#8, 0x00#8, 0x00#8, 0x00#8, 0x00#8, 0x00#8, 0x00#8, 0x00#8, 0x00#8, 0x00#8, 0x00#8, 0x00#8, 0x00#8, 0x00#8, 0x00#8, 0x00#8, 0x00#8, 0x00#8, 0x00#8, 0x00#8, 0x00#8, 0x00#8, 0x00#8, 0x00#8, 0x00#8, 0x00#8, 0x00#8, 0x00#8, 0x00#8, 0x00#8, 0x00#8, 0x00#8, 0x00#8, 0x00#8, 0x00#8, 0x00#8, 0x00#8, 0x00#8, 0x00#8, 0x00#8, 0x00#8, 0x00#8, 0x00#8, 0x00#8, 0x00#8, 0x00#8, 0x00#8, 0x00#8, 0x00#8, 0x00#8, 0x00#8, 0x00#8, 0x00#8, 0x00#8, 0x00#8, 0x00#8, 0x00#8, 0x00#8, 0x00#8, 0x00#8, 0x00#8, 0x00#8, 0x00#8, 0x00#8, 0x00#8, 0x00#8, 0x00#8, 0x00#8, 0x00#8, 0x00#8, 0x00#8, 0x00#8, 0x00#8, 0x00#8, 0x00#8, 0x00#8, 0x00#8, 0x00#8, 0x00#8, 0x00#8, 0x00#8, 0x00#8, 0x00#8, 0x00#8, 0x00#8, 0x00#8, 0x00#8, 0x00#8, 0x00#8, 0x00#8, 0x00#8, 0x00#8, 0x00#8, 0x00#8, 0x00#8, 0x00#8, 0x00#8, 0x00#8, 0x00#8, 0x00#8, 0x00#8, 0x00#8, 0x00#8, 0x00#8, 0x00#8, 0x00#8, 0x00#8, 0x00#8, 0x00#8, 0x00#8, 0x00#8, 0x00#8, 0x00#8, 0x00#8, 0x00#8, 0x00#8, 0x00#8, 0x00#8, 0x00#8, 0x00#8, 0x00#8, 0x00#8, 0x00#8, 0x00#8, 0x00#8, 0x00#8, 0x00#8, 0x00#8, 0x00#8, 0x00#8, 0x00#8, 0x00#8, 0x00#8, 0x00#8, 0x00#8, 0x00#8, 0x00#8, 0x00#8, 0x00#8, 0x00#8, 0x00#8, 0x00#8, 0x00#8, 0x00#8, 0x00#8, 0x00#8, 0x00#8, 0x00#8, 0x00#8, 0x00#8, 0x00#8, 0x00#8, 0x04#8, 0x60#8, 0x00#8, 0x00#8, 0x00#8, 0x00#8, 0x00#8, 0x00#8, 0x40#8, 0x01#8, 0x00#8, 0x00#8, 0x20#8, 0x00#8, 0x00#8, 0x00#8, 0x00#8, 0x00#8, 0x00#8, 0x00#8, 0x00#8, 0x00#8, 0x00#8, 0x00#8, 0x00#8, 0x00#8, 0x00#8, 0x00#8, 0x00#8, 0x00#8, 0x00#8, 0x00#8, 0x00#8, 0x00#8, 0x00#8, 0x00#8, 0x00#8, 0x00#8, 0x00#8, 0x00#8, 0x00#8, 0x00#8, 0x00#8, 0x00#8, 0x00#8, 0x00#8, 0x00#8, 0x00#8, 0x00#8, 0x00#8, 0x00#8, 0x00#8, 0x00#8, 0x00#8, 0x00#8, 0x00#8, 0x00#8, 0x00#8, 0x00#8, 0x00#8, 0x00#8, 0x00#8, 0x00#8, 0x00#8, 0x01#8, 0x00#8, 0x04#8, 0x00#8, 0x04#8, 0x00#8, 0x00#8, 0x00#8, 0x0a#8, 0x00#8, 0x00#8, 0x00#8, 0xe8#8, 0x03#8, 0x00#8, 0x00#8, 0x02#8, 0x00#8, 0x02#8, 0x01#8, 0x08#8, 0x00#8, 0x00#8, 0x00#8, 0x00#8, 0x00#8, 0x00#8, 0x00#8, 0x32#8, 0x00#8, 0x00#8, 0x00#8], data := [], timers := [] } : Prog)) ∧ ((w26 3 1 1 0 2 2).task 1 = tkRunning)) ∧
    (((w26 3 1 1 0 2 2).shaped = true) ∧ ((w26 3 1 1 0 2 2).room 8 = true) ∧ (0 < 4) ∧ ((w26 3 1 1 0 2 2).hostUp = true) ∧ ((w26 3 1 1 0 2 2).on (secCore 0) = true) ∧ ((w26 3 1 1 0 2 2).may (Iface.pcie : Iface) .operate = true) ∧ ((w26 3 1 1 0 2 2).task 0 = tkRunning) ∧ (((w26 3 1 1 0 2 2).core 0).hold = none) ∧ (((w26 3 1 1 0 2 2).core 0).vpDue = [])) := by decide +kernel

theorem test_at_26_2 :
    (((w26 1 1 2 0 4 0).shaped = true) ∧ ((w26 1 1 2 0 4 0).room 8 = true) ∧ (2 < 4) ∧ (((w26 1 1 2 0 4 0).core 2).exec = none)) ∧
    (((w26 1 1 2 0 4 0).shaped = true) ∧ ((w26 1 1 2 0 4 0).room 8 = true) ∧ (2 < 4) ∧ ((w26 1 1 2 0 4 0).hostUp = true) ∧ ((w26 1 1 2 0 4 0).on (secCore 2) = true) ∧ ((w26 1 1 2 0 4 0).may (Iface.spi : Iface) .operate = true) ∧ (((w26 1 1 2 0 4 0).core 2).active = some ({ image := [0x4b#8, 0x49#8, 0x4c#8, 0x4e#8, 0x01#8, 0x00#8, 0x02#8, 0x00#8, 0x60#8, 0x01#8, 0x00#8, 0x00#8, 0x01#8, 0x00#8, 0x00#8, 0x00#8, 0x00#8, 0x00#8, 0x00#8, 0x00#8, 0x00#8, 0x00#8, 0x00#8, 0x00#8, 0x00#8, 0x00#8, 0x00#8, 0x00#8, 0x00#8, 0x00#8, 0x00#8, 0x00#8, 0x00#8, 0x00#8, 0x00#8, 0x00#8, 0x00#8, 0x00#8, 0x00#8, 0x00#8, 0x00#8, 0x00#8, 0x00#8, 0x00#8, 0x00#8, 0x00#8, 0x00#8, 0x00#8, 0x00#8, 0x00#8, 0x00#8, 0x00#8, 0x00#8, 0x00#8, 0x00#8, 0x00#8, 0x00#8, 0x00#8, 0x00#8, 0x00#8, 0x00#8, 0x00#8, 0x00#8, 0x00#8, 0x00#8, 0x00#8, 0x00#8, 0x00#8, 0x00#8, 0x00#8, 0x00#8, 0x00#8, 0x00#8, 0x00#8, 0x00#8, 0x00#8, 0x00#8, 0x00#8, 0x00#8, 0x00#8, 0x00#8, 0x00#8, 0x00#8, 0x00#8, 0x00#8, 0x00#8, 0x00#8, 0x00#8, 0x00#8, 0x00#8, 0x00#8, 0x00#8, 0x00#8, 0x00#8, 0x00#8, 0x00#8, 0x00#8, 0x00#8, 0x00#8, 0x00#8, 0x00#8, 0x00#8, 0x00#8, 0x00#8, 0x00#8, 0x00#8, 0x00#8, 0x00#8, 0x00#8, 0x00#8, 0x00#8, 0x00#8, 0x00#8, 0x00#8, 0x00#8, 0x00#8, 0x00#8, 0x00#8, 0x00#8, 0x00#8, 0x00#8, 0x00#8, 0x00#8, 0x00#8, 0x00#8, 0x00#8, 0x00#8, 0x00#8, 0x00#8, 0x00#8, 0x00#8, 0x00#8, 0x00#8, 0x00#8, 0x00#8, 0x00#8, 0x00#8, 0x00#8, 0x00#8, 0x00#8, 0x00#8, 0x00#8, 0x00#8, 0x00#8, 0x00#8, 0x00#8, 0x00#8, 0x00#8, 0x00#8, 0x00#8, 0x00#8, 0x00#8, 0x00#8, 0x00#8, 0x00#8, 0x00#8, 0x00#8, 0x00#8, 0x00#8, 0x00#8, 0x00#8, 0x00#8, 0x00#8, 0x00#8, 0x00#8, 0x00#8, 0x00#8, 0x00#8, 0x00#8, 0x00#8, 0x00#8, 0x00#8, 0x00#8, 0x00#8, 0x00#8, 0x00#8, 0x00#8, 0x00#8, 0x00#8, 0x00#8, 0x00#8, 0x00#8, 0x00#8, 0x00#8, 0x00#8, 0x00#8, 0x00#8, 0x00#8, 0x00#8, 0x00#8, 0x00#8, 0x00#8, 0x00#8, 0x00#8, 0x00#8, 0x00#8, 0x00#8, 0x00#8, 0x00#8, 0x00#8, 0x00#8, 0x00#8, 0x00#8, 0x00#8, 0x00#8, 0x00#8, 0x00#8, 0x00#8, 0x00#8, 0x00#8, 0x00#8, 0x00#8, 0x00#8, 0x00#8, 0x00#8, 0x00#8, 0x00#8, 0x00#8, 0x00#8, 0x00#8, 0x00#8, 0x00#8, 0x00#8, 0x00#8, 0x00#8, 0x00#8, 0x00#8, 0x00#8, 0x00#8, 0x00#8, 0x00#8, 0x00#8, 0x00#8, 0x00#8, 0x00#8, 0x00#8, 0x00#8, 0x00#8, 0x00#8, 0x00#8, 0x00#8, 0x00#8, 0x00#8, 0x00#8, 0x00#8, 0x00#8, 0x00#8, 0x00#8, 0x00#8, 0x00#8, 0x00#8, 0x00#8, 0x00#8, 0x00#8, 0x00#8, 0x00#8, 0x04#8, 0x60#8, 0x00#8, 0x00#8, 0x00#8, 0x00#8, 0x00#8, 0x00#8, 0x40#8, 0x01#8, 0x00#8, 0x00#8, 0x20#8, 0x00#8, 0x00#8, 0x00#8, 0x00#8, 0x00#8, 0x00#8, 0x00#8, 0x00#8, 0x00#8, 0x00#8, 0x00#8, 0x00#8, 0x00#8, 0x00#8, 0x00#8, 0x00#8, 0x00#8, 0x00#8, 0x00#8, 0x00#8, 0x00#8, 0x00#8, 0x00#8, 0x00#8, 0x00#8, 0x00#8, 0x00#8, 0x00#8, 0x00#8, 0x00#8, 0x00#8, 0x00#8, 0x00#8, 0x00#8, 0x00#8, 0x00#8, 0x00#8, 0x00#8, 0x00#8, 0x00#8, 0x00#8, 0x00#8, 0x00#8, 0x00#8, 0x00#8, 0x00#8, 0x00#8, 0x00#8, 0x00#8, 0x00#8, 0x00#8, 0x01#8, 0x00#8, 0x04#8, 0x00#8, 0x04#8, 0x00#8, 0x00#8, 0x00#8, 0x0a#8, 0x00#8, 0x00#8, 0x00#8, 0xe8#8, 0x03#8, 0x00#8, 0x00#8, 0x02#8, 0x00#8, 0x02#8, 0x01#8, 0x08#8, 0x00#8, 0x00#8, 0x00#8, 0x00#8, 0x00#8, 0x00#8, 0x00#8, 0x32#8, 0x00#8, 0x00#8, 0x00#8], data := [], timers := [] } : Prog)) ∧ ((w26 1 1 2 0 4 0).task 2 = tkFault)) := by decide +kernel

theorem test_at_26_3 :
    (((w26 3 0 2 2 0 2).shaped = true) ∧ ((w26 3 0 2 2 0 2).room 8 = true) ∧ (3 < 4) ∧ ((w26 3 0 2 2 0 2).hostUp = true) ∧ ((w26 3 0 2 2 0 2).on (secCore 3) = true) ∧ ((w26 3 0 2 2 0 2).may (Iface.spi : Iface) .operate = false)) := by decide +kernel

theorem test_at_26_4 :
    (((w26 3 1 0 3 1 1).shaped = true) ∧ ((w26 3 1 0 3 1 1).room 8 = true) ∧ (3 < 4) ∧ ((w26 3 1 0 3 1 1).hostUp = true) ∧ ((w26 3 1 0 3 1 1).on (secCore 3) = true) ∧ ((w26 3 1 0 3 1 1).may (Iface.spi : Iface) .operate = true) ∧ ((w26 3 1 0 3 1 1).task 3 ≠ tkRunning) ∧ ((w26 3 1 0 3 1 1).task 3 ≠ tkHold)) := by decide +kernel

theorem test_met_TaskCyclesFollowTheGrid :
    (∃ (s : State) (c : Nat), (s.shaped = true) ∧ (s.room 8 = true) ∧ (c < 4) ∧ (s.getF (Reg.BLK_C_TASK_PHASE c) < s.taskK c)) ∧
    (∃ (s : State) (c : Nat) (sc : List (Nat × Bool)), (s.shaped = true) ∧ (s.room 8 = true) ∧ (c < 4) ∧ (s.cycles c = false ∨ s.baseIdx < s.nextSync c)) ∧
    (∃ (s : State) (c : Nat) (sc : List (Nat × Bool)), (s.shaped = true) ∧ (s.room 8 = true) ∧ (c < 4) ∧ (s.cycles c = true) ∧ (s.nextSync c ≤ s.baseIdx) ∧ (s.copiesOnly (1 + c) = false) ∧ (s.coreRuns c = [])) ∧
    (∃ (s : State) (c : Nat) (dat : List (Nat × List Byte)) (outs : List (List Nat)), (s.shaped = true) ∧ (s.room 8 = true) ∧ (c < 4) ∧ ((s.core c).exec = none)) ∧
    (∃ (s : State) (c : Nat) (dat : List (Nat × List Byte)) (outs : List (List Nat)) (x : Exec), (s.shaped = true) ∧ (s.room 8 = true) ∧ (c < 4) ∧ ((s.core c).exec = some x) ∧ (x.runs = []) ∧ (s.copiesOnly (1 + c) = false) ∧ (s.paired = false) ∧ ((s.core c).vpDue = []) ∧ ((s.core c).retain = false) ∧ (s.baseIdx < s.nextSync c)) ∧
    (∃ (s : State) (c : Nat), (s.shaped = true) ∧ (s.room 8 = true) ∧ (c < 4) ∧ (((s.core c).exec.all fun x => x.late || !s.taskLate c x) = true)) ∧
    (∃ (s : State) (c : Nat) (x : Exec), (s.shaped = true) ∧ (s.room 8 = true) ∧ (c < 4) ∧ ((s.core c).exec = some x) ∧ (x.late = false) ∧ (s.taskLate c x = true)) ∧
    (∃ (s : State) (c : Nat) (x : Exec) (big : Bool), (big = decide (x.start + s.getF (Reg.BLK_C_LIM_XLIM c) * s.taskNs c * 2 ^ 32 < s.tm.runt)) ∧ (s.shaped = true) ∧ (s.room 8 = true) ∧ (c < 4) ∧ ((s.core c).exec = some x) ∧ (big = false)) ∧
    (∃ (s : State) (c : Nat) (x : Exec) (big : Bool), (big = decide (x.start + s.getF (Reg.BLK_C_LIM_XLIM c) * s.taskNs c * 2 ^ 32 < s.tm.runt)) ∧ (s.shaped = true) ∧ (s.room 8 = true) ∧ (c < 4) ∧ ((s.core c).exec = some x) ∧ (big = true)) ∧
    (∃ (s : State) (c : Nat) (i : Iface) (v : Word), (s.shaped = true) ∧ (s.room 8 = true) ∧ (c < 4) ∧ (s.hostUp = true) ∧ (s.on (secCore c) = true) ∧ (s.may i .operate = false)) ∧
    (∃ (s : State) (c : Nat) (i : Iface) (v : Word) (p : Prog), (s.shaped = true) ∧ (s.room 8 = true) ∧ (c < 4) ∧ (s.hostUp = true) ∧ (s.on (secCore c) = true) ∧ (s.may i .operate = true) ∧ ((s.core c).active = some p) ∧ (s.task c = tkStopped)) ∧
    (∃ (s : State) (c : Nat) (i : Iface) (v : Word) (p : Prog), (s.shaped = true) ∧ (s.room 8 = true) ∧ (c < 4) ∧ (s.hostUp = true) ∧ (s.on (secCore c) = true) ∧ (s.may i .operate = true) ∧ ((s.core c).active = some p) ∧ (s.task c = tkFault)) ∧
    (∃ (s : State) (c : Nat) (i : Iface) (v : Word) (p : Prog), (s.shaped = true) ∧ (s.room 8 = true) ∧ (c < 4) ∧ (s.hostUp = true) ∧ (s.on (secCore c) = true) ∧ (s.may i .operate = true) ∧ ((s.core c).active = some p) ∧ (s.task c = tkRunning)) ∧
    (∃ (s : State) (c : Nat) (i : Iface) (v : Word), (s.shaped = true) ∧ (s.room 8 = true) ∧ (c < 4) ∧ (s.hostUp = true) ∧ (s.on (secCore c) = true) ∧ (s.may i .operate = true) ∧ (s.task c ≠ tkRunning) ∧ (s.task c ≠ tkHold)) ∧
    (∃ (s : State) (c : Nat) (i : Iface) (v : Word), (s.shaped = true) ∧ (s.room 8 = true) ∧ (c < 4) ∧ (s.hostUp = true) ∧ (s.on (secCore c) = true) ∧ (s.may i .operate = true) ∧ (s.task c = tkRunning) ∧ ((s.core c).hold = none) ∧ ((s.core c).vpDue = [])) :=
  ⟨⟨w26 3 1 0 3 1 1, 0, test_at_26_0.1⟩,
   ⟨w26 3 1 0 3 1 1, 1, [(1, false), (3, false), (2669832784173717175, true)], test_at_26_0.2.1⟩,
   ⟨w26 3 1 1 0 2 2, 2, [(9437408, true), (196700, true), (0, false), (4, false), (16, true)], test_at_26_1.1⟩,
   ⟨w26 1 1 2 0 4 0, 2, [(17880089054800077483, [0x4f#8]), (30, [0xcc#8, 0x36#8]), (1, [0xf1#8])], [[1, 3857], [7], [1298, 4194245], [15, 2163172, 1963], [7911928769758789904, 43]], test_at_26_2.1⟩,
   ⟨w26 3 1 0 3 1 1, 3, [(4, [0x38#8, 0xc0#8, 0x00#8]), (9, [0xd7#8, 0x00#8, 0x06#8, 0x03#8])], [[], [12, 928, 2, 2], [2689, 79, 4194259], [0, 67108864, 63680, 42, 14068], [4193992, 131788, 0]], { idx := 4003, start := 1180591616319364792320, tw := 5, img := { ring := [], dio := [], ao := [], prt := [], ang := (0, 0), tot := [] }, runs := [], skipped := 0, late := true }, test_at_26_0.2.2.1⟩,
   ⟨w26 3 1 0 3 1 1, 2, test_at_26_0.2.2.2.1⟩,
   ⟨w26 3 1 1 0 2 2, 1, { idx := 3983, start := 1179438699212804456448, tw := 5, img := { ring := [], dio := [], ao := [], prt := [], ang := (0, 0), tot := [] }, runs := [], skipped := 1, late := false }, test_at_26_1.2.1⟩,
   ⟨w26 3 1 0 3 1 1, 2, { idx := 4003, start := 1180591616319364792320, tw := 5, img := { ring := [], dio := [], ao := [], prt := [], ang := (0, 0), tot := [] }, runs := [], skipped := 0, late := true }, _, rfl, test_at_26_0.2.2.2.2.1⟩,
   ⟨w26 3 1 1 0 2 2, 3, { idx := 3983, start := 1179438699212804456448, tw := 5, img := { ring := [], dio := [], ao := [], prt := [], ang := (0, 0), tot := [] }, runs := [], skipped := 1, late := false }, _, rfl, test_at_26_1.2.2.1⟩,
   ⟨w26 3 0 2 2 0 2, 3, Iface.spi, 0x00000003#32, test_at_26_3⟩,
   ⟨w26 3 1 0 3 1 1, 3, Iface.pcie, 0x00000000#32, { image := [0x4b#8, 0x49#8, 0x4c#8, 0x4e#8, 0x01#8, 0x00#8, 0x02#8, 0x00#8, 0x60#8, 0x01#8, 0x00#8, 0x00#8, 0x01#8, 0x00#8, 0x00#8, 0x00#8, 0x00#8, 0x00#8, 0x00#8, 0x00#8, 0x00#8, 0x00#8, 0x00#8, 0x00#8, 0x00#8, 0x00#8, 0x00#8, 0x00#8, 0x00#8, 0x00#8, 0x00#8, 0x00#8, 0x00#8, 0x00#8, 0x00#8, 0x00#8, 0x00#8, 0x00#8, 0x00#8, 0x00#8, 0x00#8, 0x00#8, 0x00#8, 0x00#8, 0x00#8, 0x00#8, 0x00#8, 0x00#8, 0x00#8, 0x00#8, 0x00#8, 0x00#8, 0x00#8, 0x00#8, 0x00#8, 0x00#8, 0x00#8, 0x00#8, 0x00#8, 0x00#8, 0x00#8, 0x00#8, 0x00#8, 0x00#8, 0x00#8, 0x00#8, 0x00#8, 0x00#8, 0x00#8, 0x00#8, 0x00#8, 0x00#8, 0x00#8, 0x00#8, 0x00#8, 0x00#8, 0x00#8, 0x00#8, 0x00#8, 0x00#8, 0x00#8, 0x00#8, 0x00#8, 0x00#8, 0x00#8, 0x00#8, 0x00#8, 0x00#8, 0x00#8, 0x00#8, 0x00#8, 0x00#8, 0x00#8, 0x00#8, 0x00#8, 0x00#8, 0x00#8, 0x00#8, 0x00#8, 0x00#8, 0x00#8, 0x00#8, 0x00#8, 0x00#8, 0x00#8, 0x00#8, 0x00#8, 0x00#8, 0x00#8, 0x00#8, 0x00#8, 0x00#8, 0x00#8, 0x00#8, 0x00#8, 0x00#8, 0x00#8, 0x00#8, 0x00#8, 0x00#8, 0x00#8, 0x00#8, 0x00#8, 0x00#8, 0x00#8, 0x00#8, 0x00#8, 0x00#8, 0x00#8, 0x00#8, 0x00#8, 0x00#8, 0x00#8, 0x00#8, 0x00#8, 0x00#8, 0x00#8, 0x00#8, 0x00#8, 0x00#8, 0x00#8, 0x00#8, 0x00#8, 0x00#8, 0x00#8, 0x00#8, 0x00#8, 0x00#8, 0x00#8, 0x00#8, 0x00#8, 0x00#8, 0x00#8, 0x00#8, 0x00#8, 0x00#8, 0x00#8, 0x00#8, 0x00#8, 0x00#8, 0x00#8, 0x00#8, 0x00#8, 0x00#8, 0x00#8, 0x00#8, 0x00#8, 0x00#8, 0x00#8, 0x00#8, 0x00#8, 0x00#8, 0x00#8, 0x00#8, 0x00#8, 0x00#8, 0x00#8, 0x00#8, 0x00#8, 0x00#8, 0x00#8, 0x00#8, 0x00#8, 0x00#8, 0x00#8, 0x00#8, 0x00#8, 0x00#8, 0x00#8, 0x00#8, 0x00#8, 0x00#8, 0x00#8, 0x00#8, 0x00#8, 0x00#8, 0x00#8, 0x00#8, 0x00#8, 0x00#8, 0x00#8, 0x00#8, 0x00#8, 0x00#8, 0x00#8, 0x00#8, 0x00#8, 0x00#8, 0x00#8, 0x00#8, 0x00#8, 0x00#8, 0x00#8, 0x00#8, 0x00#8, 0x00#8, 0x00#8, 0x00#8, 0x00#8, 0x00#8, 0x00#8, 0x00#8, 0x00#8, 0x00#8, 0x00#8, 0x00#8, 0x00#8, 0x00#8, 0x00#8, 0x00#8, 0x00#8, 0x00#8, 0x00#8, 0x00#8, 0x00#8, 0x00#8, 0x00#8, 0x00#8, 0x00#8, 0x00#8, 0x00#8, 0x00#8, 0x00#8, 0x00#8, 0x00#8, 0x00#8, 0x00#8, 0x00#8, 0x00#8, 0x00#8, 0x00#8, 0x00#8, 0x00#8, 0x00#8, 0x00#8, 0x00#8, 0x04#8, 0x60#8, 0x00#8, 0x00#8, 0x00#8, 0x00#8, 0x00#8, 0x00#8, 0x40#8, 0x01#8, 0x00#8, 0x00#8, 0x20#8, 0x00#8, 0x00#8, 0x00#8, 0x00#8, 0x00#8, 0x00#8, 0x00#8, 0x00#8, 0x00#8, 0x00#8, 0x00#8, 0x00#8, 0x00#8, 0x00#8, 0x00#8, 0x00#8, 0x00#8, 0x00#8, 0x00#8, 0x00#8, 0x00#8, 0x00#8, 0x00#8, 0x00#8, 0x00#8, 0x00#8, 0x00#8, 0x00#8, 0x00#8, 0x00#8, 0x00#8, 0x00#8, 0x00#8, 0x00#8, 0x00#8, 0x00#8, 0x00#8, 0x00#8, 0x00#8, 0x00#8, 0x00#8, 0x00#8, 0x00#8, 0x00#8, 0x00#8, 0x00#8, 0x00#8, 0x00#8, 0x00#8, 0x00#8, 0x00#8, 0x01#8, 0x00#8, 0x04#8, 0x00#8, 0x04#8, 0x00#8, 0x00#8, 0x00#8, 0x0a#8, 0x00#8, 0x00#8, 0x00#8, 0xe8#8, 0x03#8, 0x00#8, 0x00#8, 0x02#8, 0x00#8, 0x02#8, 0x01#8, 0x08#8, 0x00#8, 0x00#8, 0x00#8, 0x00#8, 0x00#8, 0x00#8, 0x00#8, 0x32#8, 0x00#8, 0x00#8, 0x00#8], data := [], timers := [] }, test_at_26_0.2.2.2.2.2⟩,
   ⟨w26 1 1 2 0 4 0, 2, Iface.spi, 0x4a096b68#32, { image := [0x4b#8, 0x49#8, 0x4c#8, 0x4e#8, 0x01#8, 0x00#8, 0x02#8, 0x00#8, 0x60#8, 0x01#8, 0x00#8, 0x00#8, 0x01#8, 0x00#8, 0x00#8, 0x00#8, 0x00#8, 0x00#8, 0x00#8, 0x00#8, 0x00#8, 0x00#8, 0x00#8, 0x00#8, 0x00#8, 0x00#8, 0x00#8, 0x00#8, 0x00#8, 0x00#8, 0x00#8, 0x00#8, 0x00#8, 0x00#8, 0x00#8, 0x00#8, 0x00#8, 0x00#8, 0x00#8, 0x00#8, 0x00#8, 0x00#8, 0x00#8, 0x00#8, 0x00#8, 0x00#8, 0x00#8, 0x00#8, 0x00#8, 0x00#8, 0x00#8, 0x00#8, 0x00#8, 0x00#8, 0x00#8, 0x00#8, 0x00#8, 0x00#8, 0x00#8, 0x00#8, 0x00#8, 0x00#8, 0x00#8, 0x00#8, 0x00#8, 0x00#8, 0x00#8, 0x00#8, 0x00#8, 0x00#8, 0x00#8, 0x00#8, 0x00#8, 0x00#8, 0x00#8, 0x00#8, 0x00#8, 0x00#8, 0x00#8, 0x00#8, 0x00#8, 0x00#8, 0x00#8, 0x00#8, 0x00#8, 0x00#8, 0x00#8, 0x00#8, 0x00#8, 0x00#8, 0x00#8, 0x00#8, 0x00#8, 0x00#8, 0x00#8, 0x00#8, 0x00#8, 0x00#8, 0x00#8, 0x00#8, 0x00#8, 0x00#8, 0x00#8, 0x00#8, 0x00#8, 0x00#8, 0x00#8, 0x00#8, 0x00#8, 0x00#8, 0x00#8, 0x00#8, 0x00#8, 0x00#8, 0x00#8, 0x00#8, 0x00#8, 0x00#8, 0x00#8, 0x00#8, 0x00#8, 0x00#8, 0x00#8, 0x00#8, 0x00#8, 0x00#8, 0x00#8, 0x00#8, 0x00#8, 0x00#8, 0x00#8, 0x00#8, 0x00#8, 0x00#8, 0x00#8, 0x00#8, 0x00#8, 0x00#8, 0x00#8, 0x00#8, 0x00#8, 0x00#8, 0x00#8, 0x00#8, 0x00#8, 0x00#8, 0x00#8, 0x00#8, 0x00#8, 0x00#8, 0x00#8, 0x00#8, 0x00#8, 0x00#8, 0x00#8, 0x00#8, 0x00#8, 0x00#8, 0x00#8, 0x00#8, 0x00#8, 0x00#8, 0x00#8, 0x00#8, 0x00#8, 0x00#8, 0x00#8, 0x00#8, 0x00#8, 0x00#8, 0x00#8, 0x00#8, 0x00#8, 0x00#8, 0x00#8, 0x00#8, 0x00#8, 0x00#8, 0x00#8, 0x00#8, 0x00#8, 0x00#8, 0x00#8, 0x00#8, 0x00#8, 0x00#8, 0x00#8, 0x00#8, 0x00#8, 0x00#8, 0x00#8, 0x00#8, 0x00#8, 0x00#8, 0x00#8, 0x00#8, 0x00#8, 0x00#8, 0x00#8, 0x00#8, 0x00#8, 0x00#8, 0x00#8, 0x00#8, 0x00#8, 0x00#8, 0x00#8, 0x00#8, 0x00#8, 0x00#8, 0x00#8, 0x00#8, 0x00#8, 0x00#8, 0x00#8, 0x00#8, 0x00#8, 0x00#8, 0x00#8, 0x00#8, 0x00#8, 0x00#8, 0x00#8, 0x00#8, 0x00#8, 0x00#8, 0x00#8, 0x00#8, 0x00#8, 0x00#8, 0x00#8, 0x00#8, 0x00#8, 0x00#8, 0x00#8, 0x00#8, 0x00#8, 0x00#8, 0x00#8, 0x00#8, 0x00#8, 0x00#8, 0x00#8, 0x00#8, 0x00#8, 0x00#8, 0x00#8, 0x00#8, 0x00#8, 0x00#8, 0x00#8, 0x00#8, 0x00#8, 0x00#8, 0x00#8, 0x00#8, 0x04#8, 0x60#8, 0x00#8, 0x00#8, 0x00#8, 0x00#8, 0x00#8, 0x00#8, 0x40#8, 0x01#8, 0x00#8, 0x00#8, 0x20#8, 0x00#8, 0x00#8, 0x00#8, 0x00#8, 0x00#8, 0x00#8, 0x00#8, 0x00#8, 0x00#8, 0x00#8, 0x00#8, 0x00#8, 0x00#8, 0x00#8, 0x00#8, 0x00#8, 0x00#8, 0x00#8, 0x00#8, 0x00#8, 0x00#8, 0x00#8, 0x00#8, 0x00#8, 0x00#8, 0x00#8, 0x00#8, 0x00#8, 0x00#8, 0x00#8, 0x00#8, 0x00#8, 0x00#8, 0x00#8, 0x00#8, 0x00#8, 0x00#8, 0x00#8, 0x00#8, 0x00#8, 0x00#8, 0x00#8, 0x00#8, 0x00#8, 0x00#8, 0x00#8, 0x00#8, 0x00#8, 0x00#8, 0x00#8, 0x00#8, 0x01#8, 0x00#8, 0x04#8, 0x00#8, 0x04#8, 0x00#8, 0x00#8, 0x00#8, 0x0a#8, 0x00#8, 0x00#8, 0x00#8, 0xe8#8, 0x03#8, 0x00#8, 0x00#8, 0x02#8, 0x00#8, 0x02#8, 0x01#8, 0x08#8, 0x00#8, 0x00#8, 0x00#8, 0x00#8, 0x00#8, 0x00#8, 0x00#8, 0x32#8, 0x00#8, 0x00#8, 0x00#8], data := [], timers := [] }, test_at_26_2.2⟩,
   ⟨w26 3 1 1 0 2 2, 1, Iface.pcie, 0x0000000b#32, { image := [0x4b#8, 0x49#8, 0x4c#8, 0x4e#8, 0x01#8, 0x00#8, 0x02#8, 0x00#8, 0x60#8, 0x01#8, 0x00#8, 0x00#8, 0x01#8, 0x00#8, 0x00#8, 0x00#8, 0x00#8, 0x00#8, 0x00#8, 0x00#8, 0x00#8, 0x00#8, 0x00#8, 0x00#8, 0x00#8, 0x00#8, 0x00#8, 0x00#8, 0x00#8, 0x00#8, 0x00#8, 0x00#8, 0x00#8, 0x00#8, 0x00#8, 0x00#8, 0x00#8, 0x00#8, 0x00#8, 0x00#8, 0x00#8, 0x00#8, 0x00#8, 0x00#8, 0x00#8, 0x00#8, 0x00#8, 0x00#8, 0x00#8, 0x00#8, 0x00#8, 0x00#8, 0x00#8, 0x00#8, 0x00#8, 0x00#8, 0x00#8, 0x00#8, 0x00#8, 0x00#8, 0x00#8, 0x00#8, 0x00#8, 0x00#8, 0x00#8, 0x00#8, 0x00#8, 0x00#8, 0x00#8, 0x00#8, 0x00#8, 0x00#8, 0x00#8, 0x00#8, 0x00#8, 0x00#8, 0x00#8, 0x00#8, 0x00#8, 0x00#8, 0x00#8, 0x00#8, 0x00#8, 0x00#8, 0x00#8, 0x00#8, 0x00#8, 0x00#8, 0x00#8, 0x00#8, 0x00#8, 0x00#8, 0x00#8, 0x00#8, 0x00#8, 0x00#8, 0x00#8, 0x00#8, 0x00#8, 0x00#8, 0x00#8, 0x00#8, 0x00#8, 0x00#8, 0x00#8, 0x00#8, 0x00#8, 0x00#8, 0x00#8, 0x00#8, 0x00#8, 0x00#8, 0x00#8, 0x00#8, 0x00#8, 0x00#8, 0x00#8, 0x00#8, 0x00#8, 0x00#8, 0x00#8, 0x00#8, 0x00#8, 0x00#8, 0x00#8, 0x00#8, 0x00#8, 0x00#8, 0x00#8, 0x00#8, 0x00#8, 0x00#8, 0x00#8, 0x00#8, 0x00#8, 0x00#8, 0x00#8, 0x00#8, 0x00#8, 0x00#8, 0x00#8, 0x00#8, 0x00#8, 0x00#8, 0x00#8, 0x00#8, 0x00#8, 0x00#8, 0x00#8, 0x00#8, 0x00#8, 0x00#8, 0x00#8, 0x00#8, 0x00#8, 0x00#8, 0x00#8, 0x00#8, 0x00#8, 0x00#8, 0x00#8, 0x00#8, 0x00#8, 0x00#8, 0x00#8, 0x00#8, 0x00#8, 0x00#8, 0x00#8, 0x00#8, 0x00#8, 0x00#8, 0x00#8, 0x00#8, 0x00#8, 0x00#8, 0x00#8, 0x00#8, 0x00#8, 0x00#8, 0x00#8, 0x00#8, 0x00#8, 0x00#8, 0x00#8, 0x00#8, 0x00#8, 0x00#8, 0x00#8, 0x00#8, 0x00#8, 0x00#8, 0x00#8, 0x00#8, 0x00#8, 0x00#8, 0x00#8, 0x00#8, 0x00#8, 0x00#8, 0x00#8, 0x00#8, 0x00#8, 0x00#8, 0x00#8, 0x00#8, 0x00#8, 0x00#8, 0x00#8, 0x00#8, 0x00#8, 0x00#8, 0x00#8, 0x00#8, 0x00#8, 0x00#8, 0x00#8, 0x00#8, 0x00#8, 0x00#8, 0x00#8, 0x00#8, 0x00#8, 0x00#8, 0x00#8, 0x00#8, 0x00#8, 0x00#8, 0x00#8, 0x00#8, 0x00#8, 0x00#8, 0x00#8, 0x00#8, 0x00#8, 0x00#8, 0x00#8, 0x00#8, 0x00#8, 0x00#8, 0x00#8, 0x00#8, 0x00#8, 0x00#8, 0x00#8, 0x00#8, 0x00#8, 0x00#8, 0x00#8, 0x00#8, 0x00#8, 0x00#8, 0x00#8, 0x00#8, 0x00#8, 0x00#8, 0x04#8, 0x60#8, 0x00#8, 0x00#8, 0x00#8, 0x00#8, 0x00#8, 0x00#8, 0x40#8, 0x01#8, 0x00#8, 0x00#8, 0x20#8, 0x00#8, 0x00#8, 0x00#8, 0x00#8, 0x00#8, 0x00#8, 0x00#8, 0x00#8, 0x00#8, 0x00#8, 0x00#8, 0x00#8, 0x00#8, 0x00#8, 0x00#8, 0x00#8, 0x00#8, 0x00#8, 0x00#8, 0x00#8, 0x00#8, 0x00#8, 0x00#8, 0x00#8, 0x00#8, 0x00#8, 0x00#8, 0x00#8, 0x00#8, 0x00#8, 0x00#8, 0x00#8, 0x00#8, 0x00#8, 0x00#8, 0x00#8, 0x00#8, 0x00#8, 0x00#8, 0x00#8, 0x00#8, 0x00#8, 0x00#8, 0x00#8, 0x00#8, 0x00#8, 0x00#8, 0x00#8, 0x00#8, 0x00#8, 0x00#8, 0x01#8, 0x00#8, 0x04#8, 0x00#8, 0x04#8, 0x00#8, 0x00#8, 0x00#8, 0x0a#8, 0x00#8, 0x00#8, 0x00#8, 0xe8#8, 0x03#8, 0x00#8, 0x00#8, 0x02#8, 0x00#8, 0x02#8, 0x01#8, 0x08#8, 0x00#8, 0x00#8, 0x00#8, 0x00#8, 0x00#8, 0x00#8, 0x00#8, 0x32#8, 0x00#8, 0x00#8, 0x00#8], data := [], timers := [] }, test_at_26_1.2.2.2.1⟩,
   ⟨w26 3 1 0 3 1 1, 3, Iface.spi, 0x00000001#32, test_at_26_4⟩,
   ⟨w26 3 1 1 0 2 2, 0, Iface.pcie, 0x00000800#32, test_at_26_1.2.2.2.2⟩⟩

/-- States for the statement ProgramsAreStoredLoadedPatchedExchanged. -/
def w27 (z x0 x1 x2 x3 x4 : Nat) : State :=
  let s := wBase z
  let b : Nat := x0
  let c : Nat := x1
  let d : Nat := x2
  let e : Nat := x3
  let h : Nat := x4
  let s := levels (onAll s) (if e = 0 then .read else if e = 1 then .operate else .engineer)
  let s := ((s.setF Reg.WYT_STAT_STATE 0).setF Reg.BLK_BASE_NSEL 4).setF Reg.KLN_STAT_BUSY 0
  let per := 500000 * 2 ^ 32
  let s := { s with tm := { s.tm with nom := 2 ^ 70, runt := 2 ^ 70, time := 4010 * per + (if d = 0 then per * 9 / 10 else per / 5), div := 1 }, pwr := { s.pwr with unpowered := false }, crs := { CrsSt.reset with slots := if d = 3 then CrsSt.reset.slots.map fun (x : Slot) => { x with st := .pending, port := 9 } else CrsSt.reset.slots } }
  let s := ([0, 1, 2, 15] : List Nat).foldl (fun (s : State) r => s.setF (Reg.MTR_M_CFG_EN r) 0) s
  let p0 := progInit wProg0
  let p0 := { p0 with data := p0.data.map fun (x : Byte) => x + 1, timers := p0.timers.map fun (x : TimerSt) => { x with et := 2, mem := true } }
  let st := if b = 0 then 2 else e
  let s := (List.range 4).foldl (fun (s : State) k => ((((s.wr (Reg.BLK_C_TASK k) (20 * 65536 + 3)).wr (Reg.BLK_C_LIM k) (64 * 65536 + 2)).wr (Reg.BLK_C_STAT k) (2 ^ 29 * st + 2 ^ 27 * c)).setF (Reg.CRS_PORT_QUOTA (1 + k)) 64).setF (Reg.BLK_C_EXEC_LAST_NS k) 5) s
  let s := if c == 2 && d == 0 then (List.range 4).foldl (fun (s : State) k => s.setF (Reg.BLK_C_STAT_STATE k) 3) s else s
  let s := (s.setF Reg.BLK_SRC_ADDR_ADDR (if d = 2 then 2 ^ 27 else 0x100)).wr Reg.BLK_SRC_LEN (if d = 1 then 24 else wProg0.length)
  let s := { s with dram := Mem.wrN [] 0x1000 (if h = 0 then wProg0.set 0 0 else wProg0), kln := { s.kln with otpProg := 1, otpRev := 0 } }
  let s := (List.range 4).foldl (fun (s : State) k => ((((s.wr (Reg.BLK_C_BOOT k) (2 ^ 31 + k)).setF (Reg.BLK_C_VP_CTL_COUNT k) (if d = 0 then 0 else if h = 0 then 65 else 2)).setF (Reg.BLK_C_VP_CTL_WHEN k) 0).setF (Reg.BLK_C_VP_IDX_VIDX k 0) 1).wr (Reg.BLK_C_VP_VAL k 0) (if h = 2 then 5 else 500)) s
  let s := (List.range 4).foldl (fun (s : State) k => (s.setF (Reg.BLK_C_VP_IDX_VIDX k 1) (if e = 3 then 7 else 1)).wr (Reg.BLK_C_VP_VAL k 1) 12) s
  let s := { s with blk := { s.blk with op := if e = 4 then some (3, wProg0) else none, store := s.blk.store.mapIdx fun k x => if k % 2 = 0 then some (if k = 4 then wProg1 else wProg0) else x, core := s.blk.core.map fun (k : CoreSt) => { k with active := if d = 2 then none else if d = 0 then some (progInit [1]) else some p0, shadow := if c = 2 then some (progInit [2]) else none, loading := if d = 1 then some (2 * h) else if d = 3 then some 1 else none, exec := none, done := 3990, hold := if c = 0 then none else if d = 1 then none else some (3983, h == 1), vpDue := [], vpBuf := [], retain := false } } }
  s

theorem test_at_27_0 :
    (((w27 3 0 2 3 1 2).shaped = true) ∧ ((w27 3 0 2 3 1 2).room 8 = true) ∧ ((w27 3 0 2 3 1 2).hostUp = true) ∧ ((w27 3 0 2 3 1 2).may (Iface.spi : Iface) .engineer = false) ∧ (2 < 4) ∧ ((w27 3 0 2 3 1 2).on (secCore 2) = true)) ∧
    (((w27 3 0 2 3 1 2).shaped = true) ∧ ((w27 3 0 2 3 1 2).room 8 = true) ∧ (3 < 4) ∧ ((w27 3 0 2 3 1 2).hostUp = true) ∧ ((w27 3 0 2 3 1 2).on (secCore 3) = true) ∧ ((w27 3 0 2 3 1 2).copiesOnly (1 + 3) = false) ∧ (0 < ((w27 3 0 2 3 1 2).getF (Reg.BLK_C_VP_CTL_COUNT 3))) ∧ (((w27 3 0 2 3 1 2).getF (Reg.BLK_C_VP_CTL_COUNT 3)) ≤ 64) ∧ ((w27 3 0 2 3 1 2).vpInFlight 3 = false) ∧ (((w27 3 0 2 3 1 2).core 3).active = some ({ image := [0x4b#8, 0x49#8, 0x4c#8, 0x4e#8, 0x01#8, 0x00#8, 0x02#8, 0x00#8, 0x60#8, 0x01#8, 0x00#8, 0x00#8, 0x01#8, 0x00#8, 0x00#8, 0x00#8, 0x00#8, 0x00#8, 0x00#8, 0x00#8, 0x00#8, 0x00#8, 0x00#8, 0x00#8, 0x00#8, 0x00#8, 0x00#8, 0x00#8, 0x00#8, 0x00#8, 0x00#8, 0x00#8, 0x00#8, 0x00#8, 0x00#8, 0x00#8, 0x00#8, 0x00#8, 0x00#8, 0x00#8, 0x00#8, 0x00#8, 0x00#8, 0x00#8, 0x00#8, 0x00#8, 0x00#8, 0x00#8, 0x00#8, 0x00#8, 0x00#8, 0x00#8, 0x00#8, 0x00#8, 0x00#8, 0x00#8, 0x00#8, 0x00#8, 0x00#8, 0x00#8, 0x00#8, 0x00#8, 0x00#8, 0x00#8, 0x00#8, 0x00#8, 0x00#8, 0x00#8, 0x00#8, 0x00#8, 0x00#8, 0x00#8, 0x00#8, 0x00#8, 0x00#8, 0x00#8, 0x00#8, 0x00#8, 0x00#8, 0x00#8, 0x00#8, 0x00#8, 0x00#8, 0x00#8, 0x00#8, 0x00#8, 0x00#8, 0x00#8, 0x00#8, 0x00#8, 0x00#8, 0x00#8, 0x00#8, 0x00#8, 0x00#8, 0x00#8, 0x00#8, 0x00#8, 0x00#8, 0x00#8, 0x00#8, 0x00#8, 0x00#8, 0x00#8, 0x00#8, 0x00#8, 0x00#8, 0x00#8, 0x00#8, 0x00#8, 0x00#8, 0x00#8, 0x00#8, 0x00#8, 0x00#8, 0x00#8, 0x00#8, 0x00#8, 0x00#8, 0x00#8, 0x00#8, 0x00#8, 0x00#8, 0x00#8, 0x00#8, 0x00#8, 0x00#8, 0x00#8, 0x00#8, 0x00#8, 0x00#8, 0x00#8, 0x00#8, 0x00#8, 0x00#8, 0x00#8, 0x00#8, 0x00#8, 0x00#8, 0x00#8, 0x00#8, 0x00#8, 0x00#8, 0x00#8, 0x00#8, 0x00#8, 0x00#8, 0x00#8, 0x00#8, 0x00#8, 0x00#8, 0x00#8, 0x00#8, 0x00#8, 0x00#8, 0x00#8, 0x00#8, 0x00#8, 0x00#8, 0x00#8, 0x00#8, 0x00#8, 0x00#8, 0x00#8, 0x00#8, 0x00#8, 0x00#8, 0x00#8, 0x00#8, 0x00#8, 0x00#8, 0x00#8, 0x00#8, 0x00#8, 0x00#8, 0x00#8, 0x00#8, 0x00#8, 0x00#8, 0x00#8, 0x00#8, 0x00#8, 0x00#8, 0x00#8, 0x00#8, 0x00#8, 0x00#8, 0x00#8, 0x00#8, 0x00#8, 0x00#8, 0x00#8, 0x00#8, 0x00#8, 0x00#8, 0x00#8, 0x00#8, 0x00#8, 0x00#8, 0x00#8, 0x00#8, 0x00#8, 0x00#8, 0x00#8, 0x00#8, 0x00#8, 0x00#8, 0x00#8, 0x00#8, 0x00#8, 0x00#8, 0x00#8, 0x00#8, 0x00#8, 0x00#8, 0x00#8, 0x00#8, 0x00#8, 0x00#8, 0x00#8, 0x00#8, 0x00#8, 0x00#8, 0x00#8, 0x00#8, 0x00#8, 0x00#8, 0x00#8, 0x00#8, 0x00#8, 0x00#8, 0x00#8, 0x00#8, 0x00#8, 0x00#8, 0x00#8, 0x00#8, 0x00#8, 0x00#8, 0x00#8, 0x00#8, 0x00#8, 0x00#8, 0x00#8, 0x00#8, 0x00#8, 0x00#8, 0x00#8, 0x00#8, 0x00#8, 0x00#8, 0x00#8, 0x00#8, 0x00#8, 0x00#8, 0x00#8, 0x04#8, 0x60#8, 0x00#8, 0x00#8, 0x00#8, 0x00#8, 0x00#8, 0x00#8, 0x40#8, 0x01#8, 0x00#8, 0x00#8, 0x20#8, 0x00#8, 0x00#8, 0x00#8, 0x00#8, 0x00#8, 0x00#8, 0x00#8, 0x00#8, 0x00#8, 0x00#8, 0x00#8, 0x00#8, 0x00#8, 0x00#8, 0x00#8, 0x00#8, 0x00#8, 0x00#8, 0x00#8, 0x00#8, 0x00#8, 0x00#8, 0x00#8, 0x00#8, 0x00#8, 0x00#8, 0x00#8, 0x00#8, 0x00#8, 0x00#8, 0x00#8, 0x00#8, 0x00#8, 0x00#8, 0x00#8, 0x00#8, 0x00#8, 0x00#8, 0x00#8, 0x00#8, 0x00#8, 0x00#8, 0x00#8, 0x00#8, 0x00#8, 0x00#8, 0x00#8, 0x00#8, 0x00#8, 0x00#8, 0x00#8, 0x01#8, 0x00#8, 0x04#8, 0x00#8, 0x04#8, 0x00#8, 0x00#8, 0x00#8, 0x0a#8, 0x00#8, 0x00#8, 0x00#8, 0xe8#8, 0x03#8, 0x00#8, 0x00#8, 0x02#8, 0x00#8, 0x02#8, 0x01#8, 0x08#8, 0x00#8, 0x00#8, 0x00#8, 0x00#8, 0x00#8, 0x00#8, 0x00#8, 0x32#8, 0x00#8, 0x00#8, 0x00#8], data := [], timers := [] } : Prog)) ∧ (((((List.range ((w27 3 0 2 3 1 2).getF (Reg.BLK_C_VP_CTL_COUNT 3))).map fun k => ((w27 3 0 2 3 1 2).getF (Reg.BLK_C_VP_IDX_VIDX 3 k), (w27 3 0 2 3 1 2).rd (Reg.BLK_C_VP_VAL 3 k)))).findIdx? fun x => entryErr ({ image := [0x4b#8, 0x49#8, 0x4c#8, 0x4e#8, 0x01#8, 0x00#8, 0x02#8, 0x00#8, 0x60#8, 0x01#8, 0x00#8, 0x00#8, 0x01#8, 0x00#8, 0x00#8, 0x00#8, 0x00#8, 0x00#8, 0x00#8, 0x00#8, 0x00#8, 0x00#8, 0x00#8, 0x00#8, 0x00#8, 0x00#8, 0x00#8, 0x00#8, 0x00#8, 0x00#8, 0x00#8, 0x00#8, 0x00#8, 0x00#8, 0x00#8, 0x00#8, 0x00#8, 0x00#8, 0x00#8, 0x00#8, 0x00#8, 0x00#8, 0x00#8, 0x00#8, 0x00#8, 0x00#8, 0x00#8, 0x00#8, 0x00#8, 0x00#8, 0x00#8, 0x00#8, 0x00#8, 0x00#8, 0x00#8, 0x00#8, 0x00#8, 0x00#8, 0x00#8, 0x00#8, 0x00#8, 0x00#8, 0x00#8, 0x00#8, 0x00#8, 0x00#8, 0x00#8, 0x00#8, 0x00#8, 0x00#8, 0x00#8, 0x00#8, 0x00#8, 0x00#8, 0x00#8, 0x00#8, 0x00#8, 0x00#8, 0x00#8, 0x00#8, 0x00#8, 0x00#8, 0x00#8, 0x00#8, 0x00#8, 0x00#8, 0x00#8, 0x00#8, 0x00#8, 0x00#8, 0x00#8, 0x00#8, 0x00#8, 0x00#8, 0x00#8, 0x00#8, 0x00#8, 0x00#8, 0x00#8, 0x00#8, 0x00#8, 0x00#8, 0x00#8, 0x00#8, 0x00#8, 0x00#8, 0x00#8, 0x00#8, 0x00#8, 0x00#8, 0x00#8, 0x00#8, 0x00#8, 0x00#8, 0x00#8, 0x00#8, 0x00#8, 0x00#8, 0x00#8, 0x00#8, 0x00#8, 0x00#8, 0x00#8, 0x00#8, 0x00#8, 0x00#8, 0x00#8, 0x00#8, 0x00#8, 0x00#8, 0x00#8, 0x00#8, 0x00#8, 0x00#8, 0x00#8, 0x00#8, 0x00#8, 0x00#8, 0x00#8, 0x00#8, 0x00#8, 0x00#8, 0x00#8, 0x00#8, 0x00#8, 0x00#8, 0x00#8, 0x00#8, 0x00#8, 0x00#8, 0x00#8, 0x00#8, 0x00#8, 0x00#8, 0x00#8, 0x00#8, 0x00#8, 0x00#8, 0x00#8, 0x00#8, 0x00#8, 0x00#8, 0x00#8, 0x00#8, 0x00#8, 0x00#8, 0x00#8, 0x00#8, 0x00#8, 0x00#8, 0x00#8, 0x00#8, 0x00#8, 0x00#8, 0x00#8, 0x00#8, 0x00#8, 0x00#8, 0x00#8, 0x00#8, 0x00#8, 0x00#8, 0x00#8, 0x00#8, 0x00#8, 0x00#8, 0x00#8, 0x00#8, 0x00#8, 0x00#8, 0x00#8, 0x00#8, 0x00#8, 0x00#8, 0x00#8, 0x00#8, 0x00#8, 0x00#8, 0x00#8, 0x00#8, 0x00#8, 0x00#8, 0x00#8, 0x00#8, 0x00#8, 0x00#8, 0x00#8, 0x00#8, 0x00#8, 0x00#8, 0x00#8, 0x00#8, 0x00#8, 0x00#8, 0x00#8, 0x00#8, 0x00#8, 0x00#8, 0x00#8, 0x00#8, 0x00#8, 0x00#8, 0x00#8, 0x00#8, 0x00#8, 0x00#8, 0x00#8, 0x00#8, 0x00#8, 0x00#8, 0x00#8, 0x00#8, 0x00#8, 0x00#8, 0x00#8, 0x00#8, 0x00#8, 0x00#8, 0x00#8, 0x00#8, 0x00#8, 0x00#8, 0x00#8, 0x00#8, 0x00#8, 0x00#8, 0x00#8, 0x00#8, 0x00#8, 0x00#8, 0x00#8, 0x00#8, 0x00#8, 0x00#8, 0x00#8, 0x00#8, 0x04#8, 0x60#8, 0x00#8, 0x00#8, 0x00#8, 0x00#8, 0x00#8, 0x00#8, 0x40#8, 0x01#8, 0x00#8, 0x00#8, 0x20#8, 0x00#8, 0x00#8, 0x00#8, 0x00#8, 0x00#8, 0x00#8, 0x00#8, 0x00#8, 0x00#8, 0x00#8, 0x00#8, 0x00#8, 0x00#8, 0x00#8, 0x00#8, 0x00#8, 0x00#8, 0x00#8, 0x00#8, 0x00#8, 0x00#8, 0x00#8, 0x00#8, 0x00#8, 0x00#8, 0x00#8, 0x00#8, 0x00#8, 0x00#8, 0x00#8, 0x00#8, 0x00#8, 0x00#8, 0x00#8, 0x00#8, 0x00#8, 0x00#8, 0x00#8, 0x00#8, 0x00#8, 0x00#8, 0x00#8, 0x00#8, 0x00#8, 0x00#8, 0x00#8, 0x00#8, 0x00#8, 0x00#8, 0x00#8, 0x00#8, 0x01#8, 0x00#8, 0x04#8, 0x00#8, 0x04#8, 0x00#8, 0x00#8, 0x00#8, 0x0a#8, 0x00#8, 0x00#8, 0x00#8, 0xe8#8, 0x03#8, 0x00#8, 0x00#8, 0x02#8, 0x00#8, 0x02#8, 0x01#8, 0x08#8, 0x00#8, 0x00#8, 0x00#8, 0x00#8, 0x00#8, 0x00#8, 0x00#8, 0x32#8, 0x00#8, 0x00#8, 0x00#8], data := [], timers := [] } : Prog).image ((w27 3 0 2 3 1 2).level (Iface.spi : Iface)) x != 0) = some 0)) := by decide +kernel

theorem test_at_27_1 :
    (((w27 1 1 0 1 4 1).shaped = true) ∧ ((w27 1 1 0 1 4 1).room 8 = true) ∧ ((w27 1 1 0 1 4 1).hostUp = true) ∧ ((w27 1 1 0 1 4 1).may (Iface.pcie : Iface) .engineer = true) ∧ ((w27 1 1 0 1 4 1).blk.op.isSome = true)) ∧
    (((w27 1 1 0 1 4 1).shaped = true) ∧ ((w27 1 1 0 1 4 1).room 8 = true) ∧ ((w27 1 1 0 1 4 1).hostUp = true) ∧ ((w27 1 1 0 1 4 1).may (Iface.pcie : Iface) .engineer = true) ∧ (3 < 4) ∧ ((w27 1 1 0 1 4 1).on (secCore 3) = true) ∧ (((w27 1 1 0 1 4 1).core 3).loading.isSome = true)) ∧
    (((w27 1 1 0 1 4 1).shaped = true) ∧ ((w27 1 1 0 1 4 1).room 8 = true) ∧ ((w27 1 1 0 1 4 1).blk.op = some ((3, [0x4b#8, 0x49#8, 0x4c#8, 0x4e#8, 0x01#8, 0x00#8, 0x02#8, 0x00#8, 0x60#8, 0x01#8, 0x00#8, 0x00#8, 0x01#8, 0x00#8, 0x00#8, 0x00#8, 0x00#8, 0x00#8, 0x00#8, 0x00#8, 0x00#8, 0x00#8, 0x00#8, 0x00#8, 0x00#8, 0x00#8, 0x00#8, 0x00#8, 0x00#8, 0x00#8, 0x00#8, 0x00#8, 0x00#8, 0x00#8, 0x00#8, 0x00#8, 0x00#8, 0x00#8, 0x00#8, 0x00#8, 0x00#8, 0x00#8, 0x00#8, 0x00#8, 0x00#8, 0x00#8, 0x00#8, 0x00#8, 0x00#8, 0x00#8, 0x00#8, 0x00#8, 0x00#8, 0x00#8, 0x00#8, 0x00#8, 0x00#8, 0x00#8, 0x00#8, 0x00#8, 0x00#8, 0x00#8, 0x00#8, 0x00#8, 0x00#8, 0x00#8, 0x00#8, 0x00#8, 0x00#8, 0x00#8, 0x00#8, 0x00#8, 0x00#8, 0x00#8, 0x00#8, 0x00#8, 0x00#8, 0x00#8, 0x00#8, 0x00#8, 0x00#8, 0x00#8, 0x00#8, 0x00#8, 0x00#8, 0x00#8, 0x00#8, 0x00#8, 0x00#8, 0x00#8, 0x00#8, 0x00#8, 0x00#8, 0x00#8, 0x00#8, 0x00#8, 0x00#8, 0x00#8, 0x00#8, 0x00#8, 0x00#8, 0x00#8, 0x00#8, 0x00#8, 0x00#8, 0x00#8, 0x00#8, 0x00#8, 0x00#8, 0x00#8, 0x00#8, 0x00#8, 0x00#8, 0x00#8, 0x00#8, 0x00#8, 0x00#8, 0x00#8, 0x00#8, 0x00#8, 0x00#8, 0x00#8, 0x00#8, 0x00#8, 0x00#8, 0x00#8, 0x00#8, 0x00#8, 0x00#8, 0x00#8, 0x00#8, 0x00#8, 0x00#8, 0x00#8, 0x00#8, 0x00#8, 0x00#8, 0x00#8, 0x00#8, 0x00#8, 0x00#8, 0x00#8, 0x00#8, 0x00#8, 0x00#8, 0x00#8, 0x00#8, 0x00#8, 0x00#8, 0x00#8, 0x00#8, 0x00#8, 0x00#8, 0x00#8, 0x00#8, 0x00#8, 0x00#8, 0x00#8, 0x00#8, 0x00#8, 0x00#8, 0x00#8, 0x00#8, 0x00#8, 0x00#8, 0x00#8, 0x00#8, 0x00#8, 0x00#8, 0x00#8, 0x00#8, 0x00#8, 0x00#8, 0x00#8, 0x00#8, 0x00#8, 0x00#8, 0x00#8, 0x00#8, 0x00#8, 0x00#8, 0x00#8, 0x00#8, 0x00#8, 0x00#8, 0x00#8, 0x00#8, 0x00#8, 0x00#8, 0x00#8, 0x00#8, 0x00#8, 0x00#8, 0x00#8, 0x00#8, 0x00#8, 0x00#8, 0x00#8, 0x00#8, 0x00#8, 0x00#8, 0x00#8, 0x00#8, 0x00#8, 0x00#8, 0x00#8, 0x00#8, 0x00#8, 0x00#8, 0x00#8, 0x00#8, 0x00#8, 0x00#8, 0x00#8, 0x00#8, 0x00#8, 0x00#8, 0x00#8, 0x00#8, 0x00#8, 0x00#8, 0x00#8, 0x00#8, 0x00#8, 0x00#8, 0x00#8, 0x00#8, 0x00#8, 0x00#8, 0x00#8, 0x00#8, 0x00#8, 0x00#8, 0x00#8, 0x00#8, 0x00#8, 0x00#8, 0x00#8, 0x00#8, 0x00#8, 0x00#8, 0x00#8, 0x00#8, 0x00#8, 0x00#8, 0x00#8, 0x00#8, 0x00#8, 0x00#8, 0x00#8, 0x00#8, 0x00#8, 0x00#8, 0x00#8, 0x00#8, 0x00#8, 0x04#8, 0x60#8, 0x00#8, 0x00#8, 0x00#8, 0x00#8, 0x00#8, 0x00#8, 0x40#8, 0x01#8, 0x00#8, 0x00#8, 0x20#8, 0x00#8, 0x00#8, 0x00#8, 0x00#8, 0x00#8, 0x00#8, 0x00#8, 0x00#8, 0x00#8, 0x00#8, 0x00#8, 0x00#8, 0x00#8, 0x00#8, 0x00#8, 0x00#8, 0x00#8, 0x00#8, 0x00#8, 0x00#8, 0x00#8, 0x00#8, 0x00#8, 0x00#8, 0x00#8, 0x00#8, 0x00#8, 0x00#8, 0x00#8, 0x00#8, 0x00#8, 0x00#8, 0x00#8, 0x00#8, 0x00#8, 0x00#8, 0x00#8, 0x00#8, 0x00#8, 0x00#8, 0x00#8, 0x00#8, 0x00#8, 0x00#8, 0x00#8, 0x00#8, 0x00#8, 0x00#8, 0x00#8, 0x00#8, 0x00#8, 0x01#8, 0x00#8, 0x04#8, 0x00#8, 0x04#8, 0x00#8, 0x00#8, 0x00#8, 0x0a#8, 0x00#8, 0x00#8, 0x00#8, 0xe8#8, 0x03#8, 0x00#8, 0x00#8, 0x02#8, 0x00#8, 0x02#8, 0x01#8, 0x08#8, 0x00#8, 0x00#8, 0x00#8, 0x00#8, 0x00#8, 0x00#8, 0x00#8, 0x32#8, 0x00#8, 0x00#8, 0x00#8]) : Nat × List Byte)) ∧ (((3, [0x4b#8, 0x49#8, 0x4c#8, 0x4e#8, 0x01#8, 0x00#8, 0x02#8, 0x00#8, 0x60#8, 0x01#8, 0x00#8, 0x00#8, 0x01#8, 0x00#8, 0x00#8, 0x00#8, 0x00#8, 0x00#8, 0x00#8, 0x00#8, 0x00#8, 0x00#8, 0x00#8, 0x00#8, 0x00#8, 0x00#8, 0x00#8, 0x00#8, 0x00#8, 0x00#8, 0x00#8, 0x00#8, 0x00#8, 0x00#8, 0x00#8, 0x00#8, 0x00#8, 0x00#8, 0x00#8, 0x00#8, 0x00#8, 0x00#8, 0x00#8, 0x00#8, 0x00#8, 0x00#8, 0x00#8, 0x00#8, 0x00#8, 0x00#8, 0x00#8, 0x00#8, 0x00#8, 0x00#8, 0x00#8, 0x00#8, 0x00#8, 0x00#8, 0x00#8, 0x00#8, 0x00#8, 0x00#8, 0x00#8, 0x00#8, 0x00#8, 0x00#8, 0x00#8, 0x00#8, 0x00#8, 0x00#8, 0x00#8, 0x00#8, 0x00#8, 0x00#8, 0x00#8, 0x00#8, 0x00#8, 0x00#8, 0x00#8, 0x00#8, 0x00#8, 0x00#8, 0x00#8, 0x00#8, 0x00#8, 0x00#8, 0x00#8, 0x00#8, 0x00#8, 0x00#8, 0x00#8, 0x00#8, 0x00#8, 0x00#8, 0x00#8, 0x00#8, 0x00#8, 0x00#8, 0x00#8, 0x00#8, 0x00#8, 0x00#8, 0x00#8, 0x00#8, 0x00#8, 0x00#8, 0x00#8, 0x00#8, 0x00#8, 0x00#8, 0x00#8, 0x00#8, 0x00#8, 0x00#8, 0x00#8, 0x00#8, 0x00#8, 0x00#8, 0x00#8, 0x00#8, 0x00#8, 0x00#8, 0x00#8, 0x00#8, 0x00#8, 0x00#8, 0x00#8, 0x00#8, 0x00#8, 0x00#8, 0x00#8, 0x00#8, 0x00#8, 0x00#8, 0x00#8, 0x00#8, 0x00#8, 0x00#8, 0x00#8, 0x00#8, 0x00#8, 0x00#8, 0x00#8, 0x00#8, 0x00#8, 0x00#8, 0x00#8, 0x00#8, 0x00#8, 0x00#8, 0x00#8, 0x00#8, 0x00#8, 0x00#8, 0x00#8, 0x00#8, 0x00#8, 0x00#8, 0x00#8, 0x00#8, 0x00#8, 0x00#8, 0x00#8, 0x00#8, 0x00#8, 0x00#8, 0x00#8, 0x00#8, 0x00#8, 0x00#8, 0x00#8, 0x00#8, 0x00#8, 0x00#8, 0x00#8, 0x00#8, 0x00#8, 0x00#8, 0x00#8, 0x00#8, 0x00#8, 0x00#8, 0x00#8, 0x00#8, 0x00#8, 0x00#8, 0x00#8, 0x00#8, 0x00#8, 0x00#8, 0x00#8, 0x00#8, 0x00#8, 0x00#8, 0x00#8, 0x00#8, 0x00#8, 0x00#8, 0x00#8, 0x00#8, 0x00#8, 0x00#8, 0x00#8, 0x00#8, 0x00#8, 0x00#8, 0x00#8, 0x00#8, 0x00#8, 0x00#8, 0x00#8, 0x00#8, 0x00#8, 0x00#8, 0x00#8, 0x00#8, 0x00#8, 0x00#8, 0x00#8, 0x00#8, 0x00#8, 0x00#8, 0x00#8, 0x00#8, 0x00#8, 0x00#8, 0x00#8, 0x00#8, 0x00#8, 0x00#8, 0x00#8, 0x00#8, 0x00#8, 0x00#8, 0x00#8, 0x00#8, 0x00#8, 0x00#8, 0x00#8, 0x00#8, 0x00#8, 0x00#8, 0x00#8, 0x00#8, 0x00#8, 0x00#8, 0x00#8, 0x00#8, 0x00#8, 0x00#8, 0x00#8, 0x00#8, 0x00#8, 0x00#8, 0x00#8, 0x00#8, 0x04#8, 0x60#8, 0x00#8, 0x00#8, 0x00#8, 0x00#8, 0x00#8, 0x00#8, 0x40#8, 0x01#8, 0x00#8, 0x00#8, 0x20#8, 0x00#8, 0x00#8, 0x00#8, 0x00#8, 0x00#8, 0x00#8, 0x00#8, 0x00#8, 0x00#8, 0x00#8, 0x00#8, 0x00#8, 0x00#8, 0x00#8, 0x00#8, 0x00#8, 0x00#8, 0x00#8, 0x00#8, 0x00#8, 0x00#8, 0x00#8, 0x00#8, 0x00#8, 0x00#8, 0x00#8, 0x00#8, 0x00#8, 0x00#8, 0x00#8, 0x00#8, 0x00#8, 0x00#8, 0x00#8, 0x00#8, 0x00#8, 0x00#8, 0x00#8, 0x00#8, 0x00#8, 0x00#8, 0x00#8, 0x00#8, 0x00#8, 0x00#8, 0x00#8, 0x00#8, 0x00#8, 0x00#8, 0x00#8, 0x00#8, 0x01#8, 0x00#8, 0x04#8, 0x00#8, 0x04#8, 0x00#8, 0x00#8, 0x00#8, 0x0a#8, 0x00#8, 0x00#8, 0x00#8, 0xe8#8, 0x03#8, 0x00#8, 0x00#8, 0x02#8, 0x00#8, 0x02#8, 0x01#8, 0x08#8, 0x00#8, 0x00#8, 0x00#8, 0x00#8, 0x00#8, 0x00#8, 0x00#8, 0x32#8, 0x00#8, 0x00#8, 0x00#8]) : Nat × List Byte).1 < 8)) ∧
    (((w27 1 1 0 1 4 1).shaped = true) ∧ ((w27 1 1 0 1 4 1).room 8 = true) ∧ (3 < 4) ∧ (((w27 1 1 0 1 4 1).core 3).loading = some 2)) ∧
    (((w27 1 1 0 1 4 1).shaped = true) ∧ ((w27 1 1 0 1 4 1).room 8 = true) ∧ (3 < 4) ∧ (((w27 1 1 0 1 4 1).core 3).hold = none)) := by decide +kernel

theorem test_at_27_2 :
    (((w27 2 0 0 2 3 2).shaped = true) ∧ ((w27 2 0 0 2 3 2).room 8 = true) ∧ ((w27 2 0 0 2 3 2).hostUp = true) ∧ ((w27 2 0 0 2 3 2).may (Iface.spi : Iface) .engineer = true) ∧ ((w27 2 0 0 2 3 2).blk.op = none) ∧ ((w27 2 0 0 2 3 2).dramSize < ((w27 2 0 0 2 3 2).getF Reg.BLK_SRC_ADDR_ADDR * 16) + ((w27 2 0 0 2 3 2).rd Reg.BLK_SRC_LEN) ∨ progMax < ((w27 2 0 0 2 3 2).rd Reg.BLK_SRC_LEN) ∨ ((w27 2 0 0 2 3 2).rd Reg.BLK_SRC_LEN) % 16 ≠ 0)) ∧
    (((w27 2 0 0 2 3 2).shaped = true) ∧ ((w27 2 0 0 2 3 2).room 8 = true) ∧ ((w27 2 0 0 2 3 2).hostUp = true) ∧ ((w27 2 0 0 2 3 2).may (Iface.spi : Iface) .engineer = true) ∧ (1 < 4) ∧ ((w27 2 0 0 2 3 2).on (secCore 1) = true) ∧ (((w27 2 0 0 2 3 2).core 1).loading = none) ∧ (((w27 2 0 0 2 3 2).core 1).hold = none)) := by decide +kernel

theorem test_at_27_3 :
    (((w27 0 0 2 0 3 2).shaped = true) ∧ ((w27 0 0 2 0 3 2).room 8 = true) ∧ ((w27 0 0 2 0 3 2).hostUp = true) ∧ ((w27 0 0 2 0 3 2).may (Iface.pcie : Iface) .engineer = true) ∧ ((w27 0 0 2 0 3 2).blk.op = none) ∧ (((w27 0 0 2 0 3 2).getF Reg.BLK_SRC_ADDR_ADDR * 16) + ((w27 0 0 2 0 3 2).rd Reg.BLK_SRC_LEN) ≤ (w27 0 0 2 0 3 2).dramSize) ∧ (((w27 0 0 2 0 3 2).rd Reg.BLK_SRC_LEN) ≤ progMax) ∧ (((w27 0 0 2 0 3 2).rd Reg.BLK_SRC_LEN) % 16 = 0)) ∧
    (((w27 0 0 2 0 3 2).shaped = true) ∧ ((w27 0 0 2 0 3 2).room 8 = true) ∧ ((w27 0 0 2 0 3 2).hostUp = true) ∧ ((w27 0 0 2 0 3 2).may (Iface.spi : Iface) .engineer = true) ∧ ((w27 0 0 2 0 3 2).blk.op = none) ∧ (((List.range 4).any fun c => (w27 0 0 2 0 3 2).bootWould c == some ((0x000000b0#32 : Word).toNat / 256 % 8)) = true)) ∧
    (((w27 0 0 2 0 3 2).shaped = true) ∧ ((w27 0 0 2 0 3 2).room 8 = true) ∧ ((w27 0 0 2 0 3 2).hostUp = true) ∧ ((w27 0 0 2 0 3 2).may (Iface.spi : Iface) .engineer = true) ∧ ((w27 0 0 2 0 3 2).blk.op = none) ∧ (((List.range 4).any fun c => (w27 0 0 2 0 3 2).bootWould c == some ((0x00000f0a#32 : Word).toNat / 256 % 8)) = false)) ∧
    (((w27 0 0 2 0 3 2).shaped = true) ∧ ((w27 0 0 2 0 3 2).room 8 = true) ∧ ((w27 0 0 2 0 3 2).hostUp = true) ∧ ((w27 0 0 2 0 3 2).may (Iface.spi : Iface) .engineer = true) ∧ (2 < 4) ∧ ((w27 0 0 2 0 3 2).on (secCore 2) = true) ∧ (((w27 0 0 2 0 3 2).core 2).loading = none) ∧ (((w27 0 0 2 0 3 2).core 2).hold.isSome = true)) ∧
    (((w27 0 0 2 0 3 2).shaped = true) ∧ ((w27 0 0 2 0 3 2).room 8 = true) ∧ ((w27 0 0 2 0 3 2).blk.op = none)) ∧
    (((w27 0 0 2 0 3 2).shaped = true) ∧ ((w27 0 0 2 0 3 2).room 8 = true) ∧ (3 < 4) ∧ (((w27 0 0 2 0 3 2).core 3).loading = none)) := by decide +kernel

theorem test_at_27_4 :
    (((w27 0 0 2 0 3 2).shaped = true) ∧ ((w27 0 0 2 0 3 2).room 8 = true) ∧ ((w27 0 0 2 0 3 2).hostUp = true) ∧ ((w27 0 0 2 0 3 2).may (Iface.spi : Iface) .engineer = true) ∧ (1 < 4) ∧ ((w27 0 0 2 0 3 2).on (secCore 1) = true) ∧ ((w27 0 0 2 0 3 2).paired = false) ∧ ((w27 0 0 2 0 3 2).copiesOnly (1 + 1) = false) ∧ ((w27 0 0 2 0 3 2).inUse (1 + 1) < (w27 0 0 2 0 3 2).getF (Reg.CRS_PORT_QUOTA (1 + 1))) ∧ ((w27 0 0 2 0 3 2).inFlight < 192)) ∧
    (((w27 0 0 2 0 3 2).shaped = true) ∧ ((w27 0 0 2 0 3 2).room 8 = true) ∧ (3 < 4) ∧ (((w27 0 0 2 0 3 2).core 3).hold = some ((3983, false) : Nat × Bool)) ∧ (((3983, false) : Nat × Bool).2 = false) ∧ (((w27 0 0 2 0 3 2).core 3).exec = none) ∧ ((w27 0 0 2 0 3 2).task 3 = tkHold) ∧ (((w27 0 0 2 0 3 2).core 3).active = some ({ image := [0x01#8], data := [], timers := [] } : Prog)) ∧ (((w27 0 0 2 0 3 2).core 3).shadow = some ({ image := [0x02#8], data := [], timers := [] } : Prog))) ∧
    (((w27 0 0 2 0 3 2).shaped = true) ∧ ((w27 0 0 2 0 3 2).room 8 = true) ∧ (2 < 4) ∧ ((w27 0 0 2 0 3 2).hostUp = true) ∧ ((w27 0 0 2 0 3 2).on (secCore 2) = true) ∧ ((w27 0 0 2 0 3 2).copiesOnly (1 + 2) = false) ∧ (((w27 0 0 2 0 3 2).getF (Reg.BLK_C_VP_CTL_COUNT 2)) = 0 ∨ 64 < ((w27 0 0 2 0 3 2).getF (Reg.BLK_C_VP_CTL_COUNT 2)))) := by decide +kernel

theorem test_at_27_5 :
    (((w27 1 1 0 1 4 1).shaped = true) ∧ ((w27 1 1 0 1 4 1).room 8 = true) ∧ (1 < 4) ∧ ((w27 1 1 0 1 4 1).hostUp = true) ∧ ((w27 1 1 0 1 4 1).on (secCore 1) = true) ∧ ((w27 1 1 0 1 4 1).copiesOnly (1 + 1) = false) ∧ (0 < ((w27 1 1 0 1 4 1).getF (Reg.BLK_C_VP_CTL_COUNT 1))) ∧ (((w27 1 1 0 1 4 1).getF (Reg.BLK_C_VP_CTL_COUNT 1)) ≤ 64) ∧ ((w27 1 1 0 1 4 1).vpInFlight 1 = false) ∧ (((w27 1 1 0 1 4 1).core 1).active = some ({ image := [0x4b#8, 0x49#8, 0x4c#8, 0x4e#8, 0x01#8, 0x00#8, 0x02#8, 0x00#8, 0x60#8, 0x01#8, 0x00#8, 0x00#8, 0x01#8, 0x00#8, 0x00#8, 0x00#8, 0x00#8, 0x00#8, 0x00#8, 0x00#8, 0x00#8, 0x00#8, 0x00#8, 0x00#8, 0x00#8, 0x00#8, 0x00#8, 0x00#8, 0x00#8, 0x00#8, 0x00#8, 0x00#8, 0x00#8, 0x00#8, 0x00#8, 0x00#8, 0x00#8, 0x00#8, 0x00#8, 0x00#8, 0x00#8, 0x00#8, 0x00#8, 0x00#8, 0x00#8, 0x00#8, 0x00#8, 0x00#8, 0x00#8, 0x00#8, 0x00#8, 0x00#8, 0x00#8, 0x00#8, 0x00#8, 0x00#8, 0x00#8, 0x00#8, 0x00#8, 0x00#8, 0x00#8, 0x00#8, 0x00#8, 0x00#8, 0x00#8, 0x00#8, 0x00#8, 0x00#8, 0x00#8, 0x00#8, 0x00#8, 0x00#8, 0x00#8, 0x00#8, 0x00#8, 0x00#8, 0x00#8, 0x00#8, 0x00#8, 0x00#8, 0x00#8, 0x00#8, 0x00#8, 0x00#8, 0x00#8, 0x00#8, 0x00#8, 0x00#8, 0x00#8, 0x00#8, 0x00#8, 0x00#8, 0x00#8, 0x00#8, 0x00#8, 0x00#8, 0x00#8, 0x00#8, 0x00#8, 0x00#8, 0x00#8, 0x00#8, 0x00#8, 0x00#8, 0x00#8, 0x00#8, 0x00#8, 0x00#8, 0x00#8, 0x00#8, 0x00#8, 0x00#8, 0x00#8, 0x00#8, 0x00#8, 0x00#8, 0x00#8, 0x00#8, 0x00#8, 0x00#8, 0x00#8, 0x00#8, 0x00#8, 0x00#8, 0x00#8, 0x00#8, 0x00#8, 0x00#8, 0x00#8, 0x00#8, 0x00#8, 0x00#8, 0x00#8, 0x00#8, 0x00#8, 0x00#8, 0x00#8, 0x00#8, 0x00#8, 0x00#8, 0x00#8, 0x00#8, 0x00#8, 0x00#8, 0x00#8, 0x00#8, 0x00#8, 0x00#8, 0x00#8, 0x00#8, 0x00#8, 0x00#8, 0x00#8, 0x00#8, 0x00#8, 0x00#8, 0x00#8, 0x00#8, 0x00#8, 0x00#8, 0x00#8, 0x00#8, 0x00#8, 0x00#8, 0x00#8, 0x00#8, 0x00#8, 0x00#8, 0x00#8, 0x00#8, 0x00#8, 0x00#8, 0x00#8, 0x00#8, 0x00#8, 0x00#8, 0x00#8, 0x00#8, 0x00#8, 0x00#8, 0x00#8, 0x00#8, 0x00#8, 0x00#8, 0x00#8, 0x00#8, 0x00#8, 0x00#8, 0x00#8, 0x00#8, 0x00#8, 0x00#8, 0x00#8, 0x00#8, 0x00#8, 0x00#8, 0x00#8, 0x00#8, 0x00#8, 0x00#8, 0x00#8, 0x00#8, 0x00#8, 0x00#8, 0x00#8, 0x00#8, 0x00#8, 0x00#8, 0x00#8, 0x00#8, 0x00#8, 0x00#8, 0x00#8, 0x00#8, 0x00#8, 0x00#8, 0x00#8, 0x00#8, 0x00#8, 0x00#8, 0x00#8, 0x00#8, 0x00#8, 0x00#8, 0x00#8, 0x00#8, 0x00#8, 0x00#8, 0x00#8, 0x00#8, 0x00#8, 0x00#8, 0x00#8, 0x00#8, 0x00#8, 0x00#8, 0x00#8, 0x00#8, 0x00#8, 0x00#8, 0x00#8, 0x00#8, 0x00#8, 0x00#8, 0x00#8, 0x00#8, 0x00#8, 0x00#8, 0x00#8, 0x00#8, 0x00#8, 0x00#8, 0x00#8, 0x00#8, 0x00#8, 0x00#8, 0x04#8, 0x60#8, 0x00#8, 0x00#8, 0x00#8, 0x00#8, 0x00#8, 0x00#8, 0x40#8, 0x01#8, 0x00#8, 0x00#8, 0x20#8, 0x00#8, 0x00#8, 0x00#8, 0x00#8, 0x00#8, 0x00#8, 0x00#8, 0x00#8, 0x00#8, 0x00#8, 0x00#8, 0x00#8, 0x00#8, 0x00#8, 0x00#8, 0x00#8, 0x00#8, 0x00#8, 0x00#8, 0x00#8, 0x00#8, 0x00#8, 0x00#8, 0x00#8, 0x00#8, 0x00#8, 0x00#8, 0x00#8, 0x00#8, 0x00#8, 0x00#8, 0x00#8, 0x00#8, 0x00#8, 0x00#8, 0x00#8, 0x00#8, 0x00#8, 0x00#8, 0x00#8, 0x00#8, 0x00#8, 0x00#8, 0x00#8, 0x00#8, 0x00#8, 0x00#8, 0x00#8, 0x00#8, 0x00#8, 0x00#8, 0x01#8, 0x00#8, 0x04#8, 0x00#8, 0x04#8, 0x00#8, 0x00#8, 0x00#8, 0x0a#8, 0x00#8, 0x00#8, 0x00#8, 0xe8#8, 0x03#8, 0x00#8, 0x00#8, 0x02#8, 0x00#8, 0x02#8, 0x01#8, 0x08#8, 0x00#8, 0x00#8, 0x00#8, 0x00#8, 0x00#8, 0x00#8, 0x00#8, 0x32#8, 0x00#8, 0x00#8, 0x00#8], data := [], timers := [] } : Prog)) ∧ ((w27 1 1 0 1 4 1).paired = false) ∧ (((((List.range ((w27 1 1 0 1 4 1).getF (Reg.BLK_C_VP_CTL_COUNT 1))).map fun k => ((w27 1 1 0 1 4 1).getF (Reg.BLK_C_VP_IDX_VIDX 1 k), (w27 1 1 0 1 4 1).rd (Reg.BLK_C_VP_VAL 1 k)))).all fun x => entryErr ({ image := [0x4b#8, 0x49#8, 0x4c#8, 0x4e#8, 0x01#8, 0x00#8, 0x02#8, 0x00#8, 0x60#8, 0x01#8, 0x00#8, 0x00#8, 0x01#8, 0x00#8, 0x00#8, 0x00#8, 0x00#8, 0x00#8, 0x00#8, 0x00#8, 0x00#8, 0x00#8, 0x00#8, 0x00#8, 0x00#8, 0x00#8, 0x00#8, 0x00#8, 0x00#8, 0x00#8, 0x00#8, 0x00#8, 0x00#8, 0x00#8, 0x00#8, 0x00#8, 0x00#8, 0x00#8, 0x00#8, 0x00#8, 0x00#8, 0x00#8, 0x00#8, 0x00#8, 0x00#8, 0x00#8, 0x00#8, 0x00#8, 0x00#8, 0x00#8, 0x00#8, 0x00#8, 0x00#8, 0x00#8, 0x00#8, 0x00#8, 0x00#8, 0x00#8, 0x00#8, 0x00#8, 0x00#8, 0x00#8, 0x00#8, 0x00#8, 0x00#8, 0x00#8, 0x00#8, 0x00#8, 0x00#8, 0x00#8, 0x00#8, 0x00#8, 0x00#8, 0x00#8, 0x00#8, 0x00#8, 0x00#8, 0x00#8, 0x00#8, 0x00#8, 0x00#8, 0x00#8, 0x00#8, 0x00#8, 0x00#8, 0x00#8, 0x00#8, 0x00#8, 0x00#8, 0x00#8, 0x00#8, 0x00#8, 0x00#8, 0x00#8, 0x00#8, 0x00#8, 0x00#8, 0x00#8, 0x00#8, 0x00#8, 0x00#8, 0x00#8, 0x00#8, 0x00#8, 0x00#8, 0x00#8, 0x00#8, 0x00#8, 0x00#8, 0x00#8, 0x00#8, 0x00#8, 0x00#8, 0x00#8, 0x00#8, 0x00#8, 0x00#8, 0x00#8, 0x00#8, 0x00#8, 0x00#8, 0x00#8, 0x00#8, 0x00#8, 0x00#8, 0x00#8, 0x00#8, 0x00#8, 0x00#8, 0x00#8, 0x00#8, 0x00#8, 0x00#8, 0x00#8, 0x00#8, 0x00#8, 0x00#8, 0x00#8, 0x00#8, 0x00#8, 0x00#8, 0x00#8, 0x00#8, 0x00#8, 0x00#8, 0x00#8, 0x00#8, 0x00#8, 0x00#8, 0x00#8, 0x00#8, 0x00#8, 0x00#8, 0x00#8, 0x00#8, 0x00#8, 0x00#8, 0x00#8, 0x00#8, 0x00#8, 0x00#8, 0x00#8, 0x00#8, 0x00#8, 0x00#8, 0x00#8, 0x00#8, 0x00#8, 0x00#8, 0x00#8, 0x00#8, 0x00#8, 0x00#8, 0x00#8, 0x00#8, 0x00#8, 0x00#8, 0x00#8, 0x00#8, 0x00#8, 0x00#8, 0x00#8, 0x00#8, 0x00#8, 0x00#8, 0x00#8, 0x00#8, 0x00#8, 0x00#8, 0x00#8, 0x00#8, 0x00#8, 0x00#8, 0x00#8, 0x00#8, 0x00#8, 0x00#8, 0x00#8, 0x00#8, 0x00#8, 0x00#8, 0x00#8, 0x00#8, 0x00#8, 0x00#8, 0x00#8, 0x00#8, 0x00#8, 0x00#8, 0x00#8, 0x00#8, 0x00#8, 0x00#8, 0x00#8, 0x00#8, 0x00#8, 0x00#8, 0x00#8, 0x00#8, 0x00#8, 0x00#8, 0x00#8, 0x00#8, 0x00#8, 0x00#8, 0x00#8, 0x00#8, 0x00#8, 0x00#8, 0x00#8, 0x00#8, 0x00#8, 0x00#8, 0x00#8, 0x00#8, 0x00#8, 0x00#8, 0x00#8, 0x00#8, 0x00#8, 0x00#8, 0x00#8, 0x00#8, 0x00#8, 0x00#8, 0x00#8, 0x00#8, 0x00#8, 0x00#8, 0x00#8, 0x00#8, 0x00#8, 0x00#8, 0x00#8, 0x00#8, 0x00#8, 0x04#8, 0x60#8, 0x00#8, 0x00#8, 0x00#8, 0x00#8, 0x00#8, 0x00#8, 0x40#8, 0x01#8, 0x00#8, 0x00#8, 0x20#8, 0x00#8, 0x00#8, 0x00#8, 0x00#8, 0x00#8, 0x00#8, 0x00#8, 0x00#8, 0x00#8, 0x00#8, 0x00#8, 0x00#8, 0x00#8, 0x00#8, 0x00#8, 0x00#8, 0x00#8, 0x00#8, 0x00#8, 0x00#8, 0x00#8, 0x00#8, 0x00#8, 0x00#8, 0x00#8, 0x00#8, 0x00#8, 0x00#8, 0x00#8, 0x00#8, 0x00#8, 0x00#8, 0x00#8, 0x00#8, 0x00#8, 0x00#8, 0x00#8, 0x00#8, 0x00#8, 0x00#8, 0x00#8, 0x00#8, 0x00#8, 0x00#8, 0x00#8, 0x00#8, 0x00#8, 0x00#8, 0x00#8, 0x00#8, 0x00#8, 0x01#8, 0x00#8, 0x04#8, 0x00#8, 0x04#8, 0x00#8, 0x00#8, 0x00#8, 0x0a#8, 0x00#8, 0x00#8, 0x00#8, 0xe8#8, 0x03#8, 0x00#8, 0x00#8, 0x02#8, 0x00#8, 0x02#8, 0x01#8, 0x08#8, 0x00#8, 0x00#8, 0x00#8, 0x00#8, 0x00#8, 0x00#8, 0x00#8, 0x32#8, 0x00#8, 0x00#8, 0x00#8], data := [], timers := [] } : Prog).image ((w27 1 1 0 1 4 1).level (Iface.spi : Iface)) x == 0) = true) ∧ ((w27 1 1 0 1 4 1).inUse (1 + 1) < (w27 1 1 0 1 4 1).getF (Reg.CRS_PORT_QUOTA (1 + 1))) ∧ ((w27 1 1 0 1 4 1).inFlight < 192)) := by decide +kernel

theorem test_met_ProgramsAreStoredLoadedPatchedExchanged :
    (∃ (s : State) (i : Iface) (v : Word) (n : Nat) (c : Nat), (n = v.toNat / 256 % 8) ∧ (s.shaped = true) ∧ (s.room 8 = true) ∧ (s.hostUp = true) ∧ (s.may i .engineer = false) ∧ (c < 4) ∧ (s.on (secCore c) = true)) ∧
    (∃ (s : State) (i : Iface) (v : Word) (n : Nat), (n = v.toNat / 256 % 8) ∧ (s.shaped = true) ∧ (s.room 8 = true) ∧ (s.hostUp = true) ∧ (s.may i .engineer = true) ∧ (s.blk.op.isSome = true)) ∧
    (∃ (s : State) (i : Iface) (v : Word) (n : Nat) (a : Nat) (len : Nat), (n = v.toNat / 256 % 8) ∧ (a = s.getF Reg.BLK_SRC_ADDR_ADDR * 16) ∧ (len = s.rd Reg.BLK_SRC_LEN) ∧ (s.shaped = true) ∧ (s.room 8 = true) ∧ (s.hostUp = true) ∧ (s.may i .engineer = true) ∧ (s.blk.op = none) ∧ (s.dramSize < a + len ∨ progMax < len ∨ len % 16 ≠ 0)) ∧
    (∃ (s : State) (i : Iface) (v : Word) (n : Nat) (a : Nat) (len : Nat) (im : List Byte), (n = v.toNat / 256 % 8) ∧ (a = s.getF Reg.BLK_SRC_ADDR_ADDR * 16) ∧ (len = s.rd Reg.BLK_SRC_LEN) ∧ (im = s.dramRd a len) ∧ (s.shaped = true) ∧ (s.room 8 = true) ∧ (s.hostUp = true) ∧ (s.may i .engineer = true) ∧ (s.blk.op = none) ∧ (a + len ≤ s.dramSize) ∧ (len ≤ progMax) ∧ (len % 16 = 0)) ∧
    (∃ (s : State) (i : Iface) (v : Word) (n : Nat), (n = v.toNat / 256 % 8) ∧ (s.shaped = true) ∧ (s.room 8 = true) ∧ (s.hostUp = true) ∧ (s.may i .engineer = true) ∧ (s.blk.op = none) ∧ (((List.range 4).any fun c => s.bootWould c == some n) = true)) ∧
    (∃ (s : State) (i : Iface) (v : Word) (n : Nat), (n = v.toNat / 256 % 8) ∧ (s.shaped = true) ∧ (s.room 8 = true) ∧ (s.hostUp = true) ∧ (s.may i .engineer = true) ∧ (s.blk.op = none) ∧ (((List.range 4).any fun c => s.bootWould c == some n) = false)) ∧
    (∃ (s : State) (i : Iface) (v : Word) (n : Nat) (c : Nat), (n = v.toNat / 256 % 8) ∧ (s.shaped = true) ∧ (s.room 8 = true) ∧ (s.hostUp = true) ∧ (s.may i .engineer = true) ∧ (c < 4) ∧ (s.on (secCore c) = true) ∧ ((s.core c).loading.isSome = true)) ∧
    (∃ (s : State) (i : Iface) (v : Word) (n : Nat) (c : Nat), (n = v.toNat / 256 % 8) ∧ (s.shaped = true) ∧ (s.room 8 = true) ∧ (s.hostUp = true) ∧ (s.may i .engineer = true) ∧ (c < 4) ∧ (s.on (secCore c) = true) ∧ ((s.core c).loading = none) ∧ ((s.core c).hold.isSome = true)) ∧
    (∃ (s : State) (i : Iface) (v : Word) (n : Nat) (c : Nat), (n = v.toNat / 256 % 8) ∧ (s.shaped = true) ∧ (s.room 8 = true) ∧ (s.hostUp = true) ∧ (s.may i .engineer = true) ∧ (c < 4) ∧ (s.on (secCore c) = true) ∧ ((s.core c).loading = none) ∧ ((s.core c).hold = none)) ∧
    (∃ (s : State) (i : Iface) (v : Word) (n : Nat) (c : Nat), (n = v.toNat / 256 % 8) ∧ (s.shaped = true) ∧ (s.room 8 = true) ∧ (s.hostUp = true) ∧ (s.may i .engineer = true) ∧ (c < 4) ∧ (s.on (secCore c) = true) ∧ (s.paired = false) ∧ (s.copiesOnly (1 + c) = false) ∧ (s.inUse (1 + c) < s.getF (Reg.CRS_PORT_QUOTA (1 + c))) ∧ (s.inFlight < 192)) ∧
    (∃ (s : State), (s.shaped = true) ∧ (s.room 8 = true) ∧ (s.blk.op = none)) ∧
    (∃ (s : State) (p : Nat × List Byte), (s.shaped = true) ∧ (s.room 8 = true) ∧ (s.blk.op = some p) ∧ (p.1 < 8)) ∧
    (∃ (s : State) (c : Nat), (s.shaped = true) ∧ (s.room 8 = true) ∧ (c < 4) ∧ ((s.core c).loading = none)) ∧
    (∃ (s : State) (c : Nat) (n : Nat), (s.shaped = true) ∧ (s.room 8 = true) ∧ (c < 4) ∧ ((s.core c).loading = some n)) ∧
    (∃ (s : State) (c : Nat) (q : Nat × Bool) (old : Prog) (new : Prog), (s.shaped = true) ∧ (s.room 8 = true) ∧ (c < 4) ∧ ((s.core c).hold = some q) ∧ (q.2 = false) ∧ ((s.core c).exec = none) ∧ (s.task c = tkHold) ∧ ((s.core c).active = some old) ∧ ((s.core c).shadow = some new)) ∧
    (∃ (s : State) (c : Nat), (s.shaped = true) ∧ (s.room 8 = true) ∧ (c < 4) ∧ ((s.core c).hold = none)) ∧
    (∃ (s : State) (c : Nat) (i : Iface) (v : Word) (n : Nat), (n = s.getF (Reg.BLK_C_VP_CTL_COUNT c)) ∧ (s.shaped = true) ∧ (s.room 8 = true) ∧ (c < 4) ∧ (s.hostUp = true) ∧ (s.on (secCore c) = true) ∧ (s.copiesOnly (1 + c) = false) ∧ (n = 0 ∨ 64 < n)) ∧
    (∃ (s : State) (c : Nat) (i : Iface) (v : Word) (n : Nat) (p : Prog) (es : List (Nat × Nat)) (k : Nat), (n = s.getF (Reg.BLK_C_VP_CTL_COUNT c)) ∧ (es = ((List.range n).map fun k => (s.getF (Reg.BLK_C_VP_IDX_VIDX c k), s.rd (Reg.BLK_C_VP_VAL c k)))) ∧ (s.shaped = true) ∧ (s.room 8 = true) ∧ (c < 4) ∧ (s.hostUp = true) ∧ (s.on (secCore c) = true) ∧ (s.copiesOnly (1 + c) = false) ∧ (0 < n) ∧ (n ≤ 64) ∧ (s.vpInFlight c = false) ∧ ((s.core c).active = some p) ∧ ((es.findIdx? fun x => entryErr p.image (s.level i) x != 0) = some k)) ∧
    (∃ (s : State) (c : Nat) (i : Iface) (v : Word) (n : Nat) (p : Prog) (es : List (Nat × Nat)), (n = s.getF (Reg.BLK_C_VP_CTL_COUNT c)) ∧ (es = ((List.range n).map fun k => (s.getF (Reg.BLK_C_VP_IDX_VIDX c k), s.rd (Reg.BLK_C_VP_VAL c k)))) ∧ (s.shaped = true) ∧ (s.room 8 = true) ∧ (c < 4) ∧ (s.hostUp = true) ∧ (s.on (secCore c) = true) ∧ (s.copiesOnly (1 + c) = false) ∧ (0 < n) ∧ (n ≤ 64) ∧ (s.vpInFlight c = false) ∧ ((s.core c).active = some p) ∧ (s.paired = false) ∧ ((es.all fun x => entryErr p.image (s.level i) x == 0) = true) ∧ (s.inUse (1 + c) < s.getF (Reg.CRS_PORT_QUOTA (1 + c))) ∧ (s.inFlight < 192)) :=
  ⟨⟨w27 3 0 2 3 1 2, Iface.spi, 0x00000019#32, _, 2, rfl, test_at_27_0.1⟩,
   ⟨w27 1 1 0 1 4 1, Iface.pcie, 0x80000000#32, _, rfl, test_at_27_1.1⟩,
   ⟨w27 2 0 0 2 3 2, Iface.spi, 0x057e38c8#32, _, _, _, rfl, rfl, rfl, test_at_27_2.1⟩,
   ⟨w27 0 0 2 0 3 2, Iface.pcie, 0x003fff57#32, _, _, _, _, rfl, rfl, rfl, rfl, test_at_27_3.1⟩,
   ⟨w27 0 0 2 0 3 2, Iface.spi, 0x000000b0#32, _, rfl, test_at_27_3.2.1⟩,
   ⟨w27 0 0 2 0 3 2, Iface.spi, 0x00000f0a#32, _, rfl, test_at_27_3.2.2.1⟩,
   ⟨w27 1 1 0 1 4 1, Iface.pcie, 0x00400058#32, _, 3, rfl, test_at_27_1.2.1⟩,
   ⟨w27 0 0 2 0 3 2, Iface.spi, 0x00000013#32, _, 2, rfl, test_at_27_3.2.2.2.1⟩,
   ⟨w27 2 0 0 2 3 2, Iface.spi, 0x6729f6e6#32, _, 1, rfl, test_at_27_2.2⟩,
   ⟨w27 0 0 2 0 3 2, Iface.spi, 0x00000000#32, _, 1, rfl, test_at_27_4.1⟩,
   ⟨w27 0 0 2 0 3 2, test_at_27_3.2.2.2.2.1⟩,
   ⟨w27 1 1 0 1 4 1, (3, [0x4b#8, 0x49#8, 0x4c#8, 0x4e#8, 0x01#8, 0x00#8, 0x02#8, 0x00#8, 0x60#8, 0x01#8, 0x00#8, 0x00#8, 0x01#8, 0x00#8, 0x00#8, 0x00#8, 0x00#8, 0x00#8, 0x00#8, 0x00#8, 0x00#8, 0x00#8, 0x00#8, 0x00#8, 0x00#8, 0x00#8, 0x00#8, 0x00#8, 0x00#8, 0x00#8, 0x00#8, 0x00#8, 0x00#8, 0x00#8, 0x00#8, 0x00#8, 0x00#8, 0x00#8, 0x00#8, 0x00#8, 0x00#8, 0x00#8, 0x00#8, 0x00#8, 0x00#8, 0x00#8, 0x00#8, 0x00#8, 0x00#8, 0x00#8, 0x00#8, 0x00#8, 0x00#8, 0x00#8, 0x00#8, 0x00#8, 0x00#8, 0x00#8, 0x00#8, 0x00#8, 0x00#8, 0x00#8, 0x00#8, 0x00#8, 0x00#8, 0x00#8, 0x00#8, 0x00#8, 0x00#8, 0x00#8, 0x00#8, 0x00#8, 0x00#8, 0x00#8, 0x00#8, 0x00#8, 0x00#8, 0x00#8, 0x00#8, 0x00#8, 0x00#8, 0x00#8, 0x00#8, 0x00#8, 0x00#8, 0x00#8, 0x00#8, 0x00#8, 0x00#8, 0x00#8, 0x00#8, 0x00#8, 0x00#8, 0x00#8, 0x00#8, 0x00#8, 0x00#8, 0x00#8, 0x00#8, 0x00#8, 0x00#8, 0x00#8, 0x00#8, 0x00#8, 0x00#8, 0x00#8, 0x00#8, 0x00#8, 0x00#8, 0x00#8, 0x00#8, 0x00#8, 0x00#8, 0x00#8, 0x00#8, 0x00#8, 0x00#8, 0x00#8, 0x00#8, 0x00#8, 0x00#8, 0x00#8, 0x00#8, 0x00#8, 0x00#8, 0x00#8, 0x00#8, 0x00#8, 0x00#8, 0x00#8, 0x00#8, 0x00#8, 0x00#8, 0x00#8, 0x00#8, 0x00#8, 0x00#8, 0x00#8, 0x00#8, 0x00#8, 0x00#8, 0x00#8, 0x00#8, 0x00#8, 0x00#8, 0x00#8, 0x00#8, 0x00#8, 0x00#8, 0x00#8, 0x00#8, 0x00#8, 0x00#8, 0x00#8, 0x00#8, 0x00#8, 0x00#8, 0x00#8, 0x00#8, 0x00#8, 0x00#8, 0x00#8, 0x00#8, 0x00#8, 0x00#8, 0x00#8, 0x00#8, 0x00#8, 0x00#8, 0x00#8, 0x00#8, 0x00#8, 0x00#8, 0x00#8, 0x00#8, 0x00#8, 0x00#8, 0x00#8, 0x00#8, 0x00#8, 0x00#8, 0x00#8, 0x00#8, 0x00#8, 0x00#8, 0x00#8, 0x00#8, 0x00#8, 0x00#8, 0x00#8, 0x00#8, 0x00#8, 0x00#8, 0x00#8, 0x00#8, 0x00#8, 0x00#8, 0x00#8, 0x00#8, 0x00#8, 0x00#8, 0x00#8, 0x00#8, 0x00#8, 0x00#8, 0x00#8, 0x00#8, 0x00#8, 0x00#8, 0x00#8, 0x00#8, 0x00#8, 0x00#8, 0x00#8, 0x00#8, 0x00#8, 0x00#8, 0x00#8, 0x00#8, 0x00#8, 0x00#8, 0x00#8, 0x00#8, 0x00#8, 0x00#8, 0x00#8, 0x00#8, 0x00#8, 0x00#8, 0x00#8, 0x00#8, 0x00#8, 0x00#8, 0x00#8, 0x00#8, 0x00#8, 0x00#8, 0x00#8, 0x00#8, 0x00#8, 0x00#8, 0x00#8, 0x00#8, 0x00#8, 0x00#8, 0x00#8, 0x00#8, 0x00#8, 0x00#8, 0x00#8, 0x00#8, 0x00#8, 0x00#8, 0x00#8, 0x00#8, 0x00#8, 0x04#8, 0x60#8, 0x00#8, 0x00#8, 0x00#8, 0x00#8, 0x00#8, 0x00#8, 0x40#8, 0x01#8, 0x00#8, 0x00#8, 0x20#8, 0x00#8, 0x00#8, 0x00#8, 0x00#8, 0x00#8, 0x00#8, 0x00#8, 0x00#8, 0x00#8, 0x00#8, 0x00#8, 0x00#8, 0x00#8, 0x00#8, 0x00#8, 0x00#8, 0x00#8, 0x00#8, 0x00#8, 0x00#8, 0x00#8, 0x00#8, 0x00#8, 0x00#8, 0x00#8, 0x00#8, 0x00#8, 0x00#8, 0x00#8, 0x00#8, 0x00#8, 0x00#8, 0x00#8, 0x00#8, 0x00#8, 0x00#8, 0x00#8, 0x00#8, 0x00#8, 0x00#8, 0x00#8, 0x00#8, 0x00#8, 0x00#8, 0x00#8, 0x00#8, 0x00#8, 0x00#8, 0x00#8, 0x00#8, 0x00#8, 0x01#8, 0x00#8, 0x04#8, 0x00#8, 0x04#8, 0x00#8, 0x00#8, 0x00#8, 0x0a#8, 0x00#8, 0x00#8, 0x00#8, 0xe8#8, 0x03#8, 0x00#8, 0x00#8, 0x02#8, 0x00#8, 0x02#8, 0x01#8, 0x08#8, 0x00#8, 0x00#8, 0x00#8, 0x00#8, 0x00#8, 0x00#8, 0x00#8, 0x32#8, 0x00#8, 0x00#8, 0x00#8]), test_at_27_1.2.2.1⟩,
   ⟨w27 0 0 2 0 3 2, 3, test_at_27_3.2.2.2.2.2⟩,
   ⟨w27 1 1 0 1 4 1, 3, 2, test_at_27_1.2.2.2.1⟩,
   ⟨w27 0 0 2 0 3 2, 3, (3983, false), { image := [0x01#8], data := [], timers := [] }, { image := [0x02#8], data := [], timers := [] }, test_at_27_4.2.1⟩,
   ⟨w27 1 1 0 1 4 1, 3, test_at_27_1.2.2.2.2⟩,
   ⟨w27 0 0 2 0 3 2, 2, Iface.spi, 0x0000e38f#32, _, rfl, test_at_27_4.2.2⟩,
   ⟨w27 3 0 2 3 1 2, 3, Iface.spi, 0x00000006#32, _, { image := [0x4b#8, 0x49#8, 0x4c#8, 0x4e#8, 0x01#8, 0x00#8, 0x02#8, 0x00#8, 0x60#8, 0x01#8, 0x00#8, 0x00#8, 0x01#8, 0x00#8, 0x00#8, 0x00#8, 0x00#8, 0x00#8, 0x00#8, 0x00#8, 0x00#8, 0x00#8, 0x00#8, 0x00#8, 0x00#8, 0x00#8, 0x00#8, 0x00#8, 0x00#8, 0x00#8, 0x00#8, 0x00#8, 0x00#8, 0x00#8, 0x00#8, 0x00#8, 0x00#8, 0x00#8, 0x00#8, 0x00#8, 0x00#8, 0x00#8, 0x00#8, 0x00#8, 0x00#8, 0x00#8, 0x00#8, 0x00#8, 0x00#8, 0x00#8, 0x00#8, 0x00#8, 0x00#8, 0x00#8, 0x00#8, 0x00#8, 0x00#8, 0x00#8, 0x00#8, 0x00#8, 0x00#8, 0x00#8, 0x00#8, 0x00#8, 0x00#8, 0x00#8, 0x00#8, 0x00#8, 0x00#8, 0x00#8, 0x00#8, 0x00#8, 0x00#8, 0x00#8, 0x00#8, 0x00#8, 0x00#8, 0x00#8, 0x00#8, 0x00#8, 0x00#8, 0x00#8, 0x00#8, 0x00#8, 0x00#8, 0x00#8, 0x00#8, 0x00#8, 0x00#8, 0x00#8, 0x00#8, 0x00#8, 0x00#8, 0x00#8, 0x00#8, 0x00#8, 0x00#8, 0x00#8, 0x00#8, 0x00#8, 0x00#8, 0x00#8, 0x00#8, 0x00#8, 0x00#8, 0x00#8, 0x00#8, 0x00#8, 0x00#8, 0x00#8, 0x00#8, 0x00#8, 0x00#8, 0x00#8, 0x00#8, 0x00#8, 0x00#8, 0x00#8, 0x00#8, 0x00#8, 0x00#8, 0x00#8, 0x00#8, 0x00#8, 0x00#8, 0x00#8, 0x00#8, 0x00#8, 0x00#8, 0x00#8, 0x00#8, 0x00#8, 0x00#8, 0x00#8, 0x00#8, 0x00#8, 0x00#8, 0x00#8, 0x00#8, 0x00#8, 0x00#8, 0x00#8, 0x00#8, 0x00#8, 0x00#8, 0x00#8, 0x00#8, 0x00#8, 0x00#8, 0x00#8, 0x00#8, 0x00#8, 0x00#8, 0x00#8, 0x00#8, 0x00#8, 0x00#8, 0x00#8, 0x00#8, 0x00#8, 0x00#8, 0x00#8, 0x00#8, 0x00#8, 0x00#8, 0x00#8, 0x00#8, 0x00#8, 0x00#8, 0x00#8, 0x00#8, 0x00#8, 0x00#8, 0x00#8, 0x00#8, 0x00#8, 0x00#8, 0x00#8, 0x00#8, 0x00#8, 0x00#8, 0x00#8, 0x00#8, 0x00#8, 0x00#8, 0x00#8, 0x00#8, 0x00#8, 0x00#8, 0x00#8, 0x00#8, 0x00#8, 0x00#8, 0x00#8, 0x00#8, 0x00#8, 0x00#8, 0x00#8, 0x00#8, 0x00#8, 0x00#8, 0x00#8, 0x00#8, 0x00#8, 0x00#8, 0x00#8, 0x00#8, 0x00#8, 0x00#8, 0x00#8, 0x00#8, 0x00#8, 0x00#8, 0x00#8, 0x00#8, 0x00#8, 0x00#8, 0x00#8, 0x00#8, 0x00#8, 0x00#8, 0x00#8, 0x00#8, 0x00#8, 0x00#8, 0x00#8, 0x00#8, 0x00#8, 0x00#8, 0x00#8, 0x00#8, 0x00#8, 0x00#8, 0x00#8, 0x00#8, 0x00#8, 0x00#8, 0x00#8, 0x00#8, 0x00#8, 0x00#8, 0x00#8, 0x00#8, 0x00#8, 0x00#8, 0x00#8, 0x00#8, 0x00#8, 0x00#8, 0x00#8, 0x00#8, 0x00#8, 0x00#8, 0x00#8, 0x00#8, 0x00#8, 0x04#8, 0x60#8, 0x00#8, 0x00#8, 0x00#8, 0x00#8, 0x00#8, 0x00#8, 0x40#8, 0x01#8, 0x00#8, 0x00#8, 0x20#8, 0x00#8, 0x00#8, 0x00#8, 0x00#8, 0x00#8, 0x00#8, 0x00#8, 0x00#8, 0x00#8, 0x00#8, 0x00#8, 0x00#8, 0x00#8, 0x00#8, 0x00#8, 0x00#8, 0x00#8, 0x00#8, 0x00#8, 0x00#8, 0x00#8, 0x00#8, 0x00#8, 0x00#8, 0x00#8, 0x00#8, 0x00#8, 0x00#8, 0x00#8, 0x00#8, 0x00#8, 0x00#8, 0x00#8, 0x00#8, 0x00#8, 0x00#8, 0x00#8, 0x00#8, 0x00#8, 0x00#8, 0x00#8, 0x00#8, 0x00#8, 0x00#8, 0x00#8, 0x00#8, 0x00#8, 0x00#8, 0x00#8, 0x00#8, 0x00#8, 0x01#8, 0x00#8, 0x04#8, 0x00#8, 0x04#8, 0x00#8, 0x00#8, 0x00#8, 0x0a#8, 0x00#8, 0x00#8, 0x00#8, 0xe8#8, 0x03#8, 0x00#8, 0x00#8, 0x02#8, 0x00#8, 0x02#8, 0x01#8, 0x08#8, 0x00#8, 0x00#8, 0x00#8, 0x00#8, 0x00#8, 0x00#8, 0x00#8, 0x32#8, 0x00#8, 0x00#8, 0x00#8], data := [], timers := [] }, _, 0, rfl, rfl, test_at_27_0.2⟩,
   ⟨w27 1 1 0 1 4 1, 1, Iface.spi, 0x00000001#32, _, { image := [0x4b#8, 0x49#8, 0x4c#8, 0x4e#8, 0x01#8, 0x00#8, 0x02#8, 0x00#8, 0x60#8, 0x01#8, 0x00#8, 0x00#8, 0x01#8, 0x00#8, 0x00#8, 0x00#8, 0x00#8, 0x00#8, 0x00#8, 0x00#8, 0x00#8, 0x00#8, 0x00#8, 0x00#8, 0x00#8, 0x00#8, 0x00#8, 0x00#8, 0x00#8, 0x00#8, 0x00#8, 0x00#8, 0x00#8, 0x00#8, 0x00#8, 0x00#8, 0x00#8, 0x00#8, 0x00#8, 0x00#8, 0x00#8, 0x00#8, 0x00#8, 0x00#8, 0x00#8, 0x00#8, 0x00#8, 0x00#8, 0x00#8, 0x00#8, 0x00#8, 0x00#8, 0x00#8, 0x00#8, 0x00#8, 0x00#8, 0x00#8, 0x00#8, 0x00#8, 0x00#8, 0x00#8, 0x00#8, 0x00#8, 0x00#8, 0x00#8, 0x00#8, 0x00#8, 0x00#8, 0x00#8, 0x00#8, 0x00#8, 0x00#8, 0x00#8, 0x00#8, 0x00#8, 0x00#8, 0x00#8, 0x00#8, 0x00#8, 0x00#8, 0x00#8, 0x00#8, 0x00#8, 0x00#8, 0x00#8, 0x00#8, 0x00#8, 0x00#8, 0x00#8, 0x00#8, 0x00#8, 0x00#8, 0x00#8, 0x00#8, 0x00#8, 0x00#8, 0x00#8, 0x00#8, 0x00#8, 0x00#8, 0x00#8, 0x00#8, 0x00#8, 0x00#8, 0x00#8, 0x00#8, 0x00#8, 0x00#8, 0x00#8, 0x00#8, 0x00#8, 0x00#8, 0x00#8, 0x00#8, 0x00#8, 0x00#8, 0x00#8, 0x00#8, 0x00#8, 0x00#8, 0x00#8, 0x00#8, 0x00#8, 0x00#8, 0x00#8, 0x00#8, 0x00#8, 0x00#8, 0x00#8, 0x00#8, 0x00#8, 0x00#8, 0x00#8, 0x00#8, 0x00#8, 0x00#8, 0x00#8, 0x00#8, 0x00#8, 0x00#8, 0x00#8, 0x00#8, 0x00#8, 0x00#8, 0x00#8, 0x00#8, 0x00#8, 0x00#8, 0x00#8, 0x00#8, 0x00#8, 0x00#8, 0x00#8, 0x00#8, 0x00#8, 0x00#8, 0x00#8, 0x00#8, 0x00#8, 0x00#8, 0x00#8, 0x00#8, 0x00#8, 0x00#8, 0x00#8, 0x00#8, 0x00#8, 0x00#8, 0x00#8, 0x00#8, 0x00#8, 0x00#8, 0x00#8, 0x00#8, 0x00#8, 0x00#8, 0x00#8, 0x00#8, 0x00#8, 0x00#8, 0x00#8, 0x00#8, 0x00#8, 0x00#8, 0x00#8, 0x00#8, 0x00#8, 0x00#8, 0x00#8, 0x00#8, 0x00#8, 0x00#8, 0x00#8, 0x00#8, 0x00#8, 0x00#8, 0x00#8, 0x00#8, 0x00#8, 0x00#8, 0x00#8, 0x00#8, 0x00#8, 0x00#8, 0x00#8, 0x00#8, 0x00#8, 0x00#8, 0x00#8, 0x00#8, 0x00#8, 0x00#8, 0x00#8, 0x00#8, 0x00#8, 0x00#8, 0x00#8, 0x00#8, 0x00#8, 0x00#8, 0x00#8, 0x00#8, 0x00#8, 0x00#8, 0x00#8, 0x00#8, 0x00#8, 0x00#8, 0x00#8, 0x00#8, 0x00#8, 0x00#8, 0x00#8, 0x00#8, 0x00#8, 0x00#8, 0x00#8, 0x00#8, 0x00#8, 0x00#8, 0x00#8, 0x00#8, 0x00#8, 0x00#8, 0x00#8, 0x00#8, 0x00#8, 0x00#8, 0x00#8, 0x00#8, 0x00#8, 0x00#8, 0x00#8, 0x00#8, 0x00#8, 0x00#8, 0x04#8, 0x60#8, 0x00#8, 0x00#8, 0x00#8, 0x00#8, 0x00#8, 0x00#8, 0x40#8, 0x01#8, 0x00#8, 0x00#8, 0x20#8, 0x00#8, 0x00#8, 0x00#8, 0x00#8, 0x00#8, 0x00#8, 0x00#8, 0x00#8, 0x00#8, 0x00#8, 0x00#8, 0x00#8, 0x00#8, 0x00#8, 0x00#8, 0x00#8, 0x00#8, 0x00#8, 0x00#8, 0x00#8, 0x00#8, 0x00#8, 0x00#8, 0x00#8, 0x00#8, 0x00#8, 0x00#8, 0x00#8, 0x00#8, 0x00#8, 0x00#8, 0x00#8, 0x00#8, 0x00#8, 0x00#8, 0x00#8, 0x00#8, 0x00#8, 0x00#8, 0x00#8, 0x00#8, 0x00#8, 0x00#8, 0x00#8, 0x00#8, 0x00#8, 0x00#8, 0x00#8, 0x00#8, 0x00#8, 0x00#8, 0x01#8, 0x00#8, 0x04#8, 0x00#8, 0x04#8, 0x00#8, 0x00#8, 0x00#8, 0x0a#8, 0x00#8, 0x00#8, 0x00#8, 0xe8#8, 0x03#8, 0x00#8, 0x00#8, 0x02#8, 0x00#8, 0x02#8, 0x01#8, 0x08#8, 0x00#8, 0x00#8, 0x00#8, 0x00#8, 0x00#8, 0x00#8, 0x00#8, 0x32#8, 0x00#8, 0x00#8, 0x00#8], data := [], timers := [] }, _, rfl, rfl, test_at_27_5⟩⟩

/-- States for the statement RingMasterRunsItsCycle. -/
def w28 (z x0 x1 x2 x3 x4 x5 : Nat) : State :=
  let s := wBase z
  let b : Nat := x0
  let c : Nat := x1
  let d : Nat := x2
  let e : Nat := x3
  let h : Nat := x4
  let st : Nat := [1, 2, 2, 3, 2, 3, 0].getD x5 0
  let s := levels (onAll s) (if e = 0 then .operate else .engineer)
  let s := (((s.setF Reg.WYT_CFG_EN 0).setF Reg.WYT_STAT_STATE 0).setF Reg.BLK_BASE_NSEL 4).setF Reg.PWR_STAT_PROFILE 0
  let s := (List.range 4).foldl (fun (s : State) p => (s.setF (Reg.ETH_P_STAT_LINK p) (if h = 0 then 1 else b)).setF (Reg.ETH_P_STAT_SHED p) 0) s
  let per := 500000 * 2 ^ 32
  let s := { s with tm := { s.tm with nom := 2 ^ 70, runt := 2 ^ 70, time := 4009 * per + (if d = 0 then per / 100 else per * 98 / 100), prev := 4008 * per, div := 1 }, pwr := { s.pwr with unpowered := false }, streams := [] }
  let s := ([0, 1, 2, 7] : List Nat).foldl (fun (s : State) k => ((s.wr (Reg.YUL_MAP_0 k) (2 ^ 31 + (if k % 2 = 0 then 2 ^ 30 else 0) + 2 ^ 24 * (k / 2) + 2 ^ 16 * (k % 4) + (if k = 6 then 0 else 4 * k))).wr (Reg.YUL_MAP_1 k) (if k % 3 = 0 then 2 ^ 29 else 0)).wr (Reg.YUL_PI k) (k * 7777777)) s
  let s := (s.setF Reg.YUL_STAT_STATE st).wr Reg.YUL_LEAD 20000
  let s := { s with pending := if e = 4 then [] else s.pending, prt := { s.prt with jobs := [], comp := s.prt.comp.map fun (x : CompSt) => { x with rise := none } } }
  let st := if e = 2 && d = 3 then 4 else st
  let s := s.setF Reg.YUL_STAT_STATE st
  let s := if e = 2 then { s with tm := { s.tm with time := 4010 * per + per / 2, prev := 4010 * per } } else s
  let s := (s.setF Reg.YUL_CTL_ROLE (if e = 4 && b = 1 then 2 else 1)).setF Reg.YUL_CTL_LOSS 3
  let s := (s.setF Reg.YUL_CTL_REJOIN 2).wr Reg.YUL_CNT c
  let s := ([0, 1, 2, 63] : List Nat).foldl (fun (s : State) k => if k < 4 then ((((s.wr (Reg.YUL_ST_CFG k) (if k = 3 then 0 else 2 ^ 31 + 32 * 65536 + 32)).setF (Reg.YUL_ST_STAT_STATE k) (if k = 0 then (if e = 4 then 0 else 1) else if k = 1 then c + 2 else (h + 1) * 2 % 5)).wr (Reg.YUL_ST_STAMP k) (k % 2)).wr (Reg.YUL_ST_RXSTAMP k) 77) else s.setF (Reg.YUL_ST_CFG_EN k) 0) s
  let g : RingTag := ⟨4, 2, [0]⟩
  let s := { s with crs := { CrsSt.reset with slots := CrsSt.reset.slots.mapIdx fun k (x : Slot) => if k < 12 then { x with st := .pending, port := 1, rset := decide (k % 2 = 0), ringFrame := if k % 4 = 2 then some 4010 else if k = 8 then some 3000 else if k = 4 then some 4009 else none, acts := [⟨4 * 2 ^ 28 + k % 2 * 2, 255, k⟩], seq := 100 - k } else x }, yul := { s.yul with next := 4010, sent := if c = 0 then none else some (if d = 0 then 4009 else 4010), sentAt := 2 ^ 70 - 2 ^ 45, ports := [2], back := if e = 1 then [2] else [], answered := if e = 2 then [0] else [], acks := if h = 2 then [(0, 4)] else [], tags := if b = 0 then [g] else [], committed := if b = 0 then [] else [g], scanCnt := if b = 0 then some (c % 2) else none, toLine := if e = 3 then some (st == 2) else none, turners := [], leaving := if e = 4 && d = 0 then some (⟨1, 2, 0, false, false, false, 0, 4009, 0, 0, [⟨2, false, List.replicate 32 0, []⟩], [], 0, 0, []⟩, [2 ^ 70]) else none, stn := s.yul.stn.mapIdx fun k (x : StnSt) => if k < 4 then ⟨(k + c) % 3, h, if d = 1 then some 5 else none, if e = 0 && b = 0 then some 9 else none⟩ else x } }
  s

theorem test_at_28_0 :
    (((w28 1 0 2 0 4 1 6).shaped = true) ∧ ((w28 1 0 2 0 4 1 6).room 80 = true) ∧ ((w28 1 0 2 0 4 1 6).paired = false) ∧ ((((w28 1 0 2 0 4 1 6).ringMaster && decide (1 ≤ (w28 1 0 2 0 4 1 6).ring ∧ (w28 1 0 2 0 4 1 6).ring ≤ 3) && decide ((w28 1 0 2 0 4 1 6).departs (w28 1 0 2 0 4 1 6).yul.next ≤ (w28 1 0 2 0 4 1 6).tw))) = false)) ∧
    (((w28 1 0 2 0 4 1 6).shaped = true) ∧ ((w28 1 0 2 0 4 1 6).room 80 = true) ∧ ((w28 1 0 2 0 4 1 6).paired = false) ∧ ((w28 1 0 2 0 4 1 6).yul.leaving = some (({ src := 1, etype := 2, ty := 0, line := false, turned := false, holdAll := false, commit := 0, cycle := 4009, applyDelta := 0, corr := 0, reqs := [{ stn := 2, hold := false, out := [0x00#8, 0x00#8, 0x00#8, 0x00#8, 0x00#8, 0x00#8, 0x00#8, 0x00#8, 0x00#8, 0x00#8, 0x00#8, 0x00#8, 0x00#8, 0x00#8, 0x00#8, 0x00#8, 0x00#8, 0x00#8, 0x00#8, 0x00#8, 0x00#8, 0x00#8, 0x00#8, 0x00#8, 0x00#8, 0x00#8, 0x00#8, 0x00#8, 0x00#8, 0x00#8, 0x00#8, 0x00#8], items := [] }], answers := [], period := 0, origin := 0, recs := [] } : RingFrame), [1180591620717411303424])) ∧ (({ src := 1, etype := 2, ty := 0, line := false, turned := false, holdAll := false, commit := 0, cycle := 4009, applyDelta := 0, corr := 0, reqs := [{ stn := 2, hold := false, out := [0x00#8, 0x00#8, 0x00#8, 0x00#8, 0x00#8, 0x00#8, 0x00#8, 0x00#8, 0x00#8, 0x00#8, 0x00#8, 0x00#8, 0x00#8, 0x00#8, 0x00#8, 0x00#8, 0x00#8, 0x00#8, 0x00#8, 0x00#8, 0x00#8, 0x00#8, 0x00#8, 0x00#8, 0x00#8, 0x00#8, 0x00#8, 0x00#8, 0x00#8, 0x00#8, 0x00#8, 0x00#8], items := [] }], answers := [], period := 0, origin := 0, recs := [] } : RingFrame).reqs.length = 1) ∧ (1180591620717411303424 ≤ (w28 1 0 2 0 4 1 6).tm.nom + incNominal * (w28 1 0 2 0 4 1 6).tm.div) ∧ ((w28 1 0 2 0 4 1 6).yul.ports = [2]) ∧ ((w28 1 0 2 0 4 1 6).pending = []) ∧ ((w28 1 0 2 0 4 1 6).pwr.unpowered = false) ∧ ((w28 1 0 2 0 4 1 6).crs.arms = []) ∧ ((w28 1 0 2 0 4 1 6).crs.decisions = []) ∧ ((w28 1 0 2 0 4 1 6).prt.jobs = []) ∧ (((w28 1 0 2 0 4 1 6).prt.comp.all fun x => x.rise.isNone) = true)) ∧
    (((w28 1 0 2 0 4 1 6).shaped = true) ∧ ((w28 1 0 2 0 4 1 6).room 80 = true) ∧ ((w28 1 0 2 0 4 1 6).paired = false) ∧ (3 < 4) ∧ ((w28 1 0 2 0 4 1 6).yul.sent = some 4009) ∧ ((w28 1 0 2 0 4 1 6).ringMaster = false ∨ 3 < 2 ∨ 1 < ({ src := 3925911004231344533, etype := 13020253284615614, ty := 2118, line := true, turned := true, holdAll := false, commit := 3642238955, cycle := 1, applyDelta := 48, corr := 52, reqs := [{ stn := 56, hold := true, out := [0x1d#8, 0x33#8, 0x31#8, 0x2d#8, 0x00#8], items := [{ ofs := 17, width := 4, tag := 8, mask := 10, value := 1 }, { ofs := 11, width := 2, tag := 5, mask := 391, value := 0 }, { ofs := 25, width := 4, tag := 1, mask := 1112, value := 1 }, { ofs := 4, width := 1, tag := 5, mask := 42, value := 38 }, { ofs := 23, width := 4, tag := 7, mask := 1991910460, value := 1 }] }], answers := [{ stn := 0, seen := false, safe := false, turn := true, applyFail := false, missed := true, ack := 1361, stamp := 1, input := [0x03#8, 0x00#8, 0x00#8, 0x66#8] }], period := 54700, origin := 28, recs := [{ index := 4194070, claimed := true, enabled := true, outLen := 1, inLen := 263, link := 8 }, { index := 224, claimed := true, enabled := true, outLen := 9437196, inLen := 0, link := 23 }] } : RingFrame).ty ∨ 4009 * (w28 1 0 2 0 4 1 6).base16 * 2 ^ 16 ≤ (w28 1 0 2 0 4 1 6).tm.prev)) ∧
    (((w28 1 0 2 0 4 1 6).shaped = true) ∧ ((w28 1 0 2 0 4 1 6).room 80 = true) ∧ ((w28 1 0 2 0 4 1 6).paired = false) ∧ (3 < 4) ∧ ((w28 1 0 2 0 4 1 6).yul.sent = some 4009) ∧ ((w28 1 0 2 0 4 1 6).ringMaster = true) ∧ (2 ≤ 3) ∧ ((w28 1 0 2 0 4 1 6).tm.prev < 4009 * (w28 1 0 2 0 4 1 6).base16 * 2 ^ 16) ∧ (({ src := 1, etype := 16749, ty := 2740539460, line := false, turned := true, holdAll := false, commit := 328104, cycle := 1951, applyDelta := 5791028189864658839, corr := 3, reqs := [{ stn := 9, hold := true, out := [0x02#8, 0xa0#8, 0x03#8, 0x04#8, 0x8b#8], items := [{ ofs := 6, width := 1, tag := 7, mask := 11571320439526140489, value := 4193947 }] }], answers := [{ stn := 17, seen := true, safe := false, turn := false, applyFail := true, missed := true, ack := 2, stamp := 3, input := [] }], period := 4193864, origin := 4194723, recs := [{ index := 3, claimed := true, enabled := false, outLen := 80, inLen := 2, link := 2097644 }, { index := 0, claimed := true, enabled := true, outLen := 3597587875381497997, inLen := 4194772, link := 6 }] } : RingFrame).etype ≠ (w28 1 0 2 0 4 1 6).getF Reg.YUL_CTL_ETYPE)) := by decide +kernel

theorem test_at_28_1 :
    (((w28 3 1 0 1 0 1 3).shaped = true) ∧ ((w28 3 1 0 1 0 1 3).room 80 = true) ∧ ((w28 3 1 0 1 0 1 3).paired = false) ∧ ((((w28 3 1 0 1 0 1 3).ringMaster && decide (1 ≤ (w28 3 1 0 1 0 1 3).ring ∧ (w28 3 1 0 1 0 1 3).ring ≤ 3) && decide ((w28 3 1 0 1 0 1 3).departs (w28 3 1 0 1 0 1 3).yul.next ≤ (w28 3 1 0 1 0 1 3).tw))) = true)) ∧
    (((w28 3 1 0 1 0 1 3).shaped = true) ∧ ((w28 3 1 0 1 0 1 3).room 80 = true) ∧ ((w28 3 1 0 1 0 1 3).paired = false) ∧ (2 < 4) ∧ ((w28 3 1 0 1 0 1 3).yul.sent = none)) ∧
    (((w28 3 1 0 1 0 1 3).shaped = true) ∧ ((w28 3 1 0 1 0 1 3).room 80 = true) ∧ ((w28 3 1 0 1 0 1 3).paired = false) ∧ ((w28 3 1 0 1 0 1 3).yul.sent = none)) ∧
    (((w28 3 1 0 1 0 1 3).shaped = true) ∧ ((w28 3 1 0 1 0 1 3).room 80 = true) ∧ ((w28 3 1 0 1 0 1 3).paired = false) ∧ ((w28 3 1 0 1 0 1 3).hostUp = true) ∧ ((w28 3 1 0 1 0 1 3).may (Iface.pcie : Iface) .engineer = false)) ∧
    (((w28 3 1 0 1 0 1 3).shaped = true) ∧ ((w28 3 1 0 1 0 1 3).room 80 = true) ∧ ((w28 3 1 0 1 0 1 3).paired = false) ∧ ((w28 3 1 0 1 0 1 3).hostUp = true) ∧ (36 < 64) ∧ ((w28 3 1 0 1 0 1 3).may (Iface.pcie : Iface) .engineer = false) ∧ ((w28 3 1 0 1 0 1 3).unwritten = true) ∧ ((w28 3 1 0 1 0 1 3).getF (Reg.YUL_ST_CTL_OVR 36) ≠ (0x00000001#32 : Word).toNat % 2)) := by decide +kernel

theorem test_at_28_2 :
    (((w28 1 0 2 0 4 1 6).shaped = true) ∧ ((w28 1 0 2 0 4 1 6).room 80 = true) ∧ ((w28 1 0 2 0 4 1 6).paired = false) ∧ (2 < 4) ∧ ((w28 1 0 2 0 4 1 6).yul.sent = some 4009) ∧ ((w28 1 0 2 0 4 1 6).ringMaster = true) ∧ (2 ≤ 2) ∧ ((w28 1 0 2 0 4 1 6).tm.prev < 4009 * (w28 1 0 2 0 4 1 6).base16 * 2 ^ 16) ∧ (({ ({ src := 0, etype := 26, ty := 1, line := true, turned := false, holdAll := false, commit := 42, cycle := 1, applyDelta := 37, corr := 33, reqs := [{ stn := 0, hold := false, out := [0xe1#8, 0x3f#8, 0x21#8, 0x03#8], items := [{ ofs := 1, width := 1, tag := 1, mask := 2951096664, value := 14 }, { ofs := 23, width := 4, tag := 4, mask := 2482, value := 17148020527321801102 }, { ofs := 20, width := 2, tag := 1, mask := 6292199638905835560, value := 0 }, { ofs := 39, width := 4, tag := 1, mask := 1, value := 7406192 }, { ofs := 0, width := 4, tag := 7, mask := 1, value := 10953279726410813779 }] }, { stn := 31, hold := false, out := [0x1c#8], items := [{ ofs := 15, width := 4, tag := 8, mask := 2, value := 7 }, { ofs := 33, width := 1, tag := 7, mask := 0, value := 161 }, { ofs := 1, width := 2, tag := 8, mask := 6445438694759714820, value := 67108864 }, { ofs := 17, width := 4, tag := 7, mask := 64, value := 7405864 }, { ofs := 38, width := 1, tag := 4, mask := 89, value := 0 }] }, { stn := 1034167123, hold := false, out := [0x1a#8], items := [{ ofs := 19, width := 1, tag := 8, mask := 0, value := 16 }] }], answers := [{ stn := 327728, seen := false, safe := true, turn := true, applyFail := false, missed := true, ack := 19, stamp := 2145491621, input := [0x73#8, 0xfc#8, 0x00#8] }, { stn := 207, seen := true, safe := false, turn := false, applyFail := true, missed := true, ack := 4194314, stamp := 1, input := [0x03#8] }], period := 49, origin := 1, recs := [{ index := 524, claimed := false, enabled := true, outLen := 0, inLen := 4, link := 4194097 }, { index := 0, claimed := true, enabled := false, outLen := 1, inLen := 42722, link := 262144 }, { index := 60176, claimed := true, enabled := true, outLen := 8909821514704511761, inLen := 59060, link := 1 }, { index := 4194011, claimed := false, enabled := false, outLen := 702216209, inLen := 1, link := 47741 }] } : RingFrame) with cycle := 4009 % 2 ^ 32, etype := (w28 1 0 2 0 4 1 6).getF Reg.YUL_CTL_ETYPE }).ty = 1)) ∧
    (((w28 1 0 2 0 4 1 6).shaped = true) ∧ ((w28 1 0 2 0 4 1 6).room 80 = true) ∧ ((w28 1 0 2 0 4 1 6).paired = false) ∧ (3 < 4) ∧ ((w28 1 0 2 0 4 1 6).yul.sent = some 4009) ∧ ((w28 1 0 2 0 4 1 6).ringMaster = true) ∧ (2 ≤ 3) ∧ ((w28 1 0 2 0 4 1 6).tm.prev < 4009 * (w28 1 0 2 0 4 1 6).base16 * 2 ^ 16) ∧ (2 < 3) ∧ ((w28 1 0 2 0 4 1 6).flag (Reg.YUL_ST_CFG_EN 2) = true) ∧ ((w28 1 0 2 0 4 1 6).stnState 2 ≠ stAbsent) ∧ ((w28 1 0 2 0 4 1 6).yul.answered.contains 2 = false)) ∧
    (((w28 1 0 2 0 4 1 6).shaped = true) ∧ ((w28 1 0 2 0 4 1 6).room 80 = true) ∧ ((w28 1 0 2 0 4 1 6).paired = false) ∧ ((w28 1 0 2 0 4 1 6).yul.sent = some 4009) ∧ ((w28 1 0 2 0 4 1 6).ringMaster = true) ∧ (4009 * (w28 1 0 2 0 4 1 6).base16 ≤ (w28 1 0 2 0 4 1 6).tw) ∧ (((w28 1 0 2 0 4 1 6).ringComes fun _ => true) = false)) ∧
    (((w28 1 0 2 0 4 1 6).shaped = true) ∧ ((w28 1 0 2 0 4 1 6).room 80 = true) ∧ ((w28 1 0 2 0 4 1 6).paired = false) ∧ ((w28 1 0 2 0 4 1 6).hostUp = true) ∧ ((w28 1 0 2 0 4 1 6).may (Iface.spi : Iface) .engineer = true) ∧ (((w28 1 0 2 0 4 1 6).ringMaster && (w28 1 0 2 0 4 1 6).govFull) = true)) := by decide +kernel

theorem test_at_28_3 :
    (((w28 3 1 2 1 4 1 3).shaped = true) ∧ ((w28 3 1 2 1 4 1 3).room 80 = true) ∧ ((w28 3 1 2 1 4 1 3).paired = false) ∧ ((w28 3 1 2 1 4 1 3).yul.sent = some 4010) ∧ ((w28 3 1 2 1 4 1 3).ringMaster = false ∨ (w28 3 1 2 1 4 1 3).tw < 4010 * (w28 3 1 2 1 4 1 3).base16 ∨ ((w28 3 1 2 1 4 1 3).ringComes fun _ => true) = true)) ∧
    (((w28 3 1 2 1 4 1 3).shaped = true) ∧ ((w28 3 1 2 1 4 1 3).room 80 = true) ∧ ((w28 3 1 2 1 4 1 3).paired = false) ∧ ((w28 3 1 2 1 4 1 3).hostUp = true) ∧ ((w28 3 1 2 1 4 1 3).may (Iface.spi : Iface) .engineer = true) ∧ (((w28 3 1 2 1 4 1 3).ringMaster && (w28 3 1 2 1 4 1 3).govFull) = false)) := by decide +kernel

theorem test_at_28_4 :
    (((w28 1 0 2 0 4 1 6).shaped = true) ∧ ((w28 1 0 2 0 4 1 6).room 80 = true) ∧ ((w28 1 0 2 0 4 1 6).paired = false) ∧ ((w28 1 0 2 0 4 1 6).hostUp = true) ∧ (2 < 64) ∧ ((w28 1 0 2 0 4 1 6).may (Iface.spi : Iface) .engineer = true) ∧ ((0x0000008f#32 : Word).toNat % 2 = 1) ∧ ((w28 1 0 2 0 4 1 6).stnState 2 = stHeld) ∧ (((w28 1 0 2 0 4 1 6).stn 2).ovr = none)) ∧
    (((w28 1 0 2 0 4 1 6).shaped = true) ∧ ((w28 1 0 2 0 4 1 6).room 80 = true) ∧ ((w28 1 0 2 0 4 1 6).paired = false) ∧ ((w28 1 0 2 0 4 1 6).hostUp = true) ∧ (55 < 64) ∧ ((w28 1 0 2 0 4 1 6).may (Iface.spi : Iface) .engineer = true) ∧ ((0x5b5607dc#32 : Word).toNat % 2 = 0)) := by decide +kernel

theorem test_met_RingMasterRunsItsCycle :
    (∃ (s : State) (due : Bool), (due = (s.ringMaster && decide (1 ≤ s.ring ∧ s.ring ≤ 3) && decide (s.departs s.yul.next ≤ s.tw))) ∧ (s.shaped = true) ∧ (s.room 80 = true) ∧ (s.paired = false) ∧ (due = false)) ∧
    (∃ (s : State) (due : Bool) (n : Nat), (due = (s.ringMaster && decide (1 ≤ s.ring ∧ s.ring ≤ 3) && decide (s.departs s.yul.next ≤ s.tw))) ∧ (n = s.yul.next) ∧ (s.shaped = true) ∧ (s.room 80 = true) ∧ (s.paired = false) ∧ (due = true)) ∧
    (∃ (s : State) (f : RingFrame) (d : Nat) (rs : List RingReq), (rs = (f.reqs.map fun r => { r with out := s.pack (s.stnEntries true r.stn) r.out.length })) ∧ (s.shaped = true) ∧ (s.room 80 = true) ∧ (s.paired = false) ∧ (s.yul.leaving = some (f, [d])) ∧ (f.reqs.length = 1) ∧ (d ≤ s.tm.nom + incNominal * s.tm.div) ∧ (s.yul.ports = [2]) ∧ (s.pending = []) ∧ (s.pwr.unpowered = false) ∧ (s.crs.arms = []) ∧ (s.crs.decisions = []) ∧ (s.prt.jobs = []) ∧ ((s.prt.comp.all fun x => x.rise.isNone) = true)) ∧
    (∃ (s : State) (p : Nat) (f : RingFrame), (s.shaped = true) ∧ (s.room 80 = true) ∧ (s.paired = false) ∧ (p < 4) ∧ (s.yul.sent = none)) ∧
    (∃ (s : State) (p : Nat) (f : RingFrame) (n : Nat) (g : RingFrame), (g = { f with cycle := n % 2 ^ 32, etype := s.getF Reg.YUL_CTL_ETYPE }) ∧ (s.shaped = true) ∧ (s.room 80 = true) ∧ (s.paired = false) ∧ (p < 4) ∧ (s.yul.sent = some n) ∧ (s.ringMaster = false ∨ p < 2 ∨ 1 < f.ty ∨ n * s.base16 * 2 ^ 16 ≤ s.tm.prev)) ∧
    (∃ (s : State) (p : Nat) (f : RingFrame) (n : Nat) (g : RingFrame), (g = { f with cycle := n % 2 ^ 32, etype := s.getF Reg.YUL_CTL_ETYPE }) ∧ (s.shaped = true) ∧ (s.room 80 = true) ∧ (s.paired = false) ∧ (p < 4) ∧ (s.yul.sent = some n) ∧ (s.ringMaster = true) ∧ (2 ≤ p) ∧ (s.tm.prev < n * s.base16 * 2 ^ 16) ∧ (f.etype ≠ s.getF Reg.YUL_CTL_ETYPE)) ∧
    (∃ (s : State) (p : Nat) (f : RingFrame) (n : Nat) (g : RingFrame), (g = { f with cycle := n % 2 ^ 32, etype := s.getF Reg.YUL_CTL_ETYPE }) ∧ (s.shaped = true) ∧ (s.room 80 = true) ∧ (s.paired = false) ∧ (p < 4) ∧ (s.yul.sent = some n) ∧ (s.ringMaster = true) ∧ (2 ≤ p) ∧ (s.tm.prev < n * s.base16 * 2 ^ 16) ∧ (g.ty = 1)) ∧
    (∃ (s : State) (p : Nat) (f : RingFrame) (n : Nat) (g : RingFrame) (w : RingAns) (i : Nat) (a : RingAns) (k : RingFrame), (g = { f with cycle := n % 2 ^ 32, etype := s.getF Reg.YUL_CTL_ETYPE }) ∧ (a = { w with stn := i, seen := true }) ∧ (k = { g with ty := 0, answers := [a] }) ∧ (s.shaped = true) ∧ (s.room 80 = true) ∧ (s.paired = false) ∧ (p < 4) ∧ (s.yul.sent = some n) ∧ (s.ringMaster = true) ∧ (2 ≤ p) ∧ (s.tm.prev < n * s.base16 * 2 ^ 16) ∧ (i < 3) ∧ (s.flag (Reg.YUL_ST_CFG_EN i) = true) ∧ (s.stnState i ≠ stAbsent) ∧ (s.yul.answered.contains i = false)) ∧
    (∃ (s : State), (s.shaped = true) ∧ (s.room 80 = true) ∧ (s.paired = false) ∧ (s.yul.sent = none)) ∧
    (∃ (s : State) (n : Nat), (s.shaped = true) ∧ (s.room 80 = true) ∧ (s.paired = false) ∧ (s.yul.sent = some n) ∧ (s.ringMaster = false ∨ s.tw < n * s.base16 ∨ (s.ringComes fun _ => true) = true)) ∧
    (∃ (s : State) (n : Nat), (s.shaped = true) ∧ (s.room 80 = true) ∧ (s.paired = false) ∧ (s.yul.sent = some n) ∧ (s.ringMaster = true) ∧ (n * s.base16 ≤ s.tw) ∧ ((s.ringComes fun _ => true) = false)) ∧
    (∃ (s : State) (i : Iface) (v : Word), (s.shaped = true) ∧ (s.room 80 = true) ∧ (s.paired = false) ∧ (s.hostUp = true) ∧ (s.may i .engineer = false)) ∧
    (∃ (s : State) (i : Iface) (v : Word), (s.shaped = true) ∧ (s.room 80 = true) ∧ (s.paired = false) ∧ (s.hostUp = true) ∧ (s.may i .engineer = true) ∧ ((s.ringMaster && s.govFull) = false)) ∧
    (∃ (s : State) (i : Iface) (v : Word), (s.shaped = true) ∧ (s.room 80 = true) ∧ (s.paired = false) ∧ (s.hostUp = true) ∧ (s.may i .engineer = true) ∧ ((s.ringMaster && s.govFull) = true)) ∧
    (∃ (s : State) (i : Iface) (v : Word) (n : Nat), (s.shaped = true) ∧ (s.room 80 = true) ∧ (s.paired = false) ∧ (s.hostUp = true) ∧ (n < 64) ∧ (s.may i .engineer = false) ∧ (s.unwritten = true) ∧ (s.getF (Reg.YUL_ST_CTL_OVR n) ≠ v.toNat % 2)) ∧
    (∃ (s : State) (i : Iface) (v : Word) (n : Nat), (s.shaped = true) ∧ (s.room 80 = true) ∧ (s.paired = false) ∧ (s.hostUp = true) ∧ (n < 64) ∧ (s.may i .engineer = true) ∧ (v.toNat % 2 = 1) ∧ (s.stnState n = stHeld) ∧ ((s.stn n).ovr = none)) ∧
    (∃ (s : State) (i : Iface) (v : Word) (n : Nat), (s.shaped = true) ∧ (s.room 80 = true) ∧ (s.paired = false) ∧ (s.hostUp = true) ∧ (n < 64) ∧ (s.may i .engineer = true) ∧ (v.toNat % 2 = 0)) :=
  ⟨⟨w28 1 0 2 0 4 1 6, _, rfl, test_at_28_0.1⟩,
   ⟨w28 3 1 0 1 0 1 3, _, _, rfl, rfl, test_at_28_1.1⟩,
   ⟨w28 1 0 2 0 4 1 6, { src := 1, etype := 2, ty := 0, line := false, turned := false, holdAll := false, commit := 0, cycle := 4009, applyDelta := 0, corr := 0, reqs := [{ stn := 2, hold := false, out := [0x00#8, 0x00#8, 0x00#8, 0x00#8, 0x00#8, 0x00#8, 0x00#8, 0x00#8, 0x00#8, 0x00#8, 0x00#8, 0x00#8, 0x00#8, 0x00#8, 0x00#8, 0x00#8, 0x00#8, 0x00#8, 0x00#8, 0x00#8, 0x00#8, 0x00#8, 0x00#8, 0x00#8, 0x00#8, 0x00#8, 0x00#8, 0x00#8, 0x00#8, 0x00#8, 0x00#8, 0x00#8], items := [] }], answers := [], period := 0, origin := 0, recs := [] }, 1180591620717411303424, _, rfl, test_at_28_0.2.1⟩,
   ⟨w28 3 1 0 1 0 1 3, 2, { src := 1186, etype := 1, ty := 0, line := false, turned := false, holdAll := false, commit := 2667167253, cycle := 1, applyDelta := 42, corr := 5, reqs := [{ stn := 2690, hold := false, out := [0x01#8, 0x01#8, 0xc4#8], items := [{ ofs := 6, width := 4, tag := 0, mask := 6, value := 1 }, { ofs := 11, width := 1, tag := 3, mask := 0, value := 43 }, { ofs := 26, width := 1, tag := 0, mask := 17113389169853486400, value := 13 }] }, { stn := 0, hold := true, out := [0x26#8, 0x00#8, 0x74#8], items := [{ ofs := 38, width := 4, tag := 6, mask := 3, value := 1227885449 }, { ofs := 35, width := 1, tag := 5, mask := 3, value := 87 }, { ofs := 27, width := 1, tag := 8, mask := 65536, value := 3041125290 }] }], answers := [{ stn := 8911, seen := false, safe := false, turn := false, applyFail := true, missed := true, ack := 2097152, stamp := 4, input := [0x05#8, 0x00#8] }, { stn := 1150153442, seen := false, safe := false, turn := true, applyFail := false, missed := false, ack := 2888, stamp := 128, input := [0x01#8, 0x94#8, 0xd0#8, 0x00#8] }, { stn := 2736435712, seen := false, safe := false, turn := false, applyFail := false, missed := true, ack := 1, stamp := 5, input := [0x00#8, 0x01#8, 0x00#8, 0x01#8, 0x01#8] }, { stn := 2833550857565839094, seen := false, safe := true, turn := true, applyFail := false, missed := false, ack := 6, stamp := 0, input := [0x01#8, 0x12#8, 0x00#8, 0x00#8, 0x1f#8] }, { stn := 2599232032, seen := true, safe := false, turn := false, applyFail := true, missed := false, ack := 5, stamp := 11534352, input := [] }], period := 0, origin := 5930890824215708431, recs := [{ index := 0, claimed := false, enabled := true, outLen := 0, inLen := 1780, link := 58258 }, { index := 584316507, claimed := true, enabled := false, outLen := 224, inLen := 119, link := 4194940 }, { index := 101, claimed := true, enabled := true, outLen := 308, inLen := 5, link := 32 }, { index := 15, claimed := false, enabled := true, outLen := 0, inLen := 2, link := 2162768 }] }, test_at_28_1.2.1⟩,
   ⟨w28 1 0 2 0 4 1 6, 3, { src := 3925911004231344533, etype := 13020253284615614, ty := 2118, line := true, turned := true, holdAll := false, commit := 3642238955, cycle := 1, applyDelta := 48, corr := 52, reqs := [{ stn := 56, hold := true, out := [0x1d#8, 0x33#8, 0x31#8, 0x2d#8, 0x00#8], items := [{ ofs := 17, width := 4, tag := 8, mask := 10, value := 1 }, { ofs := 11, width := 2, tag := 5, mask := 391, value := 0 }, { ofs := 25, width := 4, tag := 1, mask := 1112, value := 1 }, { ofs := 4, width := 1, tag := 5, mask := 42, value := 38 }, { ofs := 23, width := 4, tag := 7, mask := 1991910460, value := 1 }] }], answers := [{ stn := 0, seen := false, safe := false, turn := true, applyFail := false, missed := true, ack := 1361, stamp := 1, input := [0x03#8, 0x00#8, 0x00#8, 0x66#8] }], period := 54700, origin := 28, recs := [{ index := 4194070, claimed := true, enabled := true, outLen := 1, inLen := 263, link := 8 }, { index := 224, claimed := true, enabled := true, outLen := 9437196, inLen := 0, link := 23 }] }, 4009, _, rfl, test_at_28_0.2.2.1⟩,
   ⟨w28 1 0 2 0 4 1 6, 3, { src := 1, etype := 16749, ty := 2740539460, line := false, turned := true, holdAll := false, commit := 328104, cycle := 1951, applyDelta := 5791028189864658839, corr := 3, reqs := [{ stn := 9, hold := true, out := [0x02#8, 0xa0#8, 0x03#8, 0x04#8, 0x8b#8], items := [{ ofs := 6, width := 1, tag := 7, mask := 11571320439526140489, value := 4193947 }] }], answers := [{ stn := 17, seen := true, safe := false, turn := false, applyFail := true, missed := true, ack := 2, stamp := 3, input := [] }], period := 4193864, origin := 4194723, recs := [{ index := 3, claimed := true, enabled := false, outLen := 80, inLen := 2, link := 2097644 }, { index := 0, claimed := true, enabled := true, outLen := 3597587875381497997, inLen := 4194772, link := 6 }] }, 4009, _, rfl, test_at_28_0.2.2.2⟩,
   ⟨w28 1 0 2 0 4 1 6, 2, { src := 0, etype := 26, ty := 1, line := true, turned := false, holdAll := false, commit := 42, cycle := 1, applyDelta := 37, corr := 33, reqs := [{ stn := 0, hold := false, out := [0xe1#8, 0x3f#8, 0x21#8, 0x03#8], items := [{ ofs := 1, width := 1, tag := 1, mask := 2951096664, value := 14 }, { ofs := 23, width := 4, tag := 4, mask := 2482, value := 17148020527321801102 }, { ofs := 20, width := 2, tag := 1, mask := 6292199638905835560, value := 0 }, { ofs := 39, width := 4, tag := 1, mask := 1, value := 7406192 }, { ofs := 0, width := 4, tag := 7, mask := 1, value := 10953279726410813779 }] }, { stn := 31, hold := false, out := [0x1c#8], items := [{ ofs := 15, width := 4, tag := 8, mask := 2, value := 7 }, { ofs := 33, width := 1, tag := 7, mask := 0, value := 161 }, { ofs := 1, width := 2, tag := 8, mask := 6445438694759714820, value := 67108864 }, { ofs := 17, width := 4, tag := 7, mask := 64, value := 7405864 }, { ofs := 38, width := 1, tag := 4, mask := 89, value := 0 }] }, { stn := 1034167123, hold := false, out := [0x1a#8], items := [{ ofs := 19, width := 1, tag := 8, mask := 0, value := 16 }] }], answers := [{ stn := 327728, seen := false, safe := true, turn := true, applyFail := false, missed := true, ack := 19, stamp := 2145491621, input := [0x73#8, 0xfc#8, 0x00#8] }, { stn := 207, seen := true, safe := false, turn := false, applyFail := true, missed := true, ack := 4194314, stamp := 1, input := [0x03#8] }], period := 49, origin := 1, recs := [{ index := 524, claimed := false, enabled := true, outLen := 0, inLen := 4, link := 4194097 }, { index := 0, claimed := true, enabled := false, outLen := 1, inLen := 42722, link := 262144 }, { index := 60176, claimed := true, enabled := true, outLen := 8909821514704511761, inLen := 59060, link := 1 }, { index := 4194011, claimed := false, enabled := false, outLen := 702216209, inLen := 1, link := 47741 }] }, 4009, _, rfl, test_at_28_2.1⟩,
   ⟨w28 1 0 2 0 4 1 6, 3, { src := 417480421, etype := 4194696, ty := 9339127552520521949, line := true, turned := false, holdAll := true, commit := 3, cycle := 4194685, applyDelta := 3, corr := 3, reqs := [{ stn := 0, hold := true, out := [], items := [] }, { stn := 393, hold := false, out := [], items := [{ ofs := 1, width := 2, tag := 8, mask := 1, value := 966972018 }, { ofs := 9, width := 2, tag := 4, mask := 0, value := 27485 }] }, { stn := 196624, hold := false, out := [], items := [{ ofs := 32, width := 1, tag := 2, mask := 0, value := 26 }, { ofs := 32, width := 2, tag := 7, mask := 3, value := 131148 }, { ofs := 37, width := 1, tag := 1, mask := 0, value := 11 }] }], answers := [{ stn := 0, seen := true, safe := true, turn := true, applyFail := true, missed := true, ack := 1, stamp := 2, input := [0x95#8, 0x03#8, 0x00#8, 0x17#8, 0x33#8] }, { stn := 2692074822, seen := false, safe := false, turn := true, applyFail := true, missed := false, ack := 3, stamp := 9437420, input := [0x19#8, 0x05#8] }, { stn := 44, seen := false, safe := false, turn := true, applyFail := false, missed := true, ack := 1202473085, stamp := 1, input := [0x03#8, 0xcb#8, 0x81#8] }, { stn := 4194345, seen := true, safe := false, turn := false, applyFail := true, missed := false, ack := 43516, stamp := 51, input := [0x02#8, 0x01#8, 0xb2#8, 0x0f#8] }, { stn := 1804781744, seen := true, safe := true, turn := false, applyFail := false, missed := false, ack := 4194350, stamp := 7340384, input := [0x01#8, 0x5b#8, 0x02#8] }], period := 51, origin := 28, recs := [{ index := 37, claimed := false, enabled := true, outLen := 1572872, inLen := 0, link := 1 }, { index := 217, claimed := false, enabled := true, outLen := 2810672296, inLen := 26721, link := 1 }, { index := 1446, claimed := true, enabled := false, outLen := 5, inLen := 13, link := 6 }] }, 4009, _, { stn := 9, seen := true, safe := true, turn := true, applyFail := false, missed := true, ack := 157, stamp := 7829632850356573729, input := [0x04#8] }, 2, _, _, rfl, rfl, rfl, test_at_28_2.2.1⟩,
   ⟨w28 3 1 0 1 0 1 3, test_at_28_1.2.2.1⟩,
   ⟨w28 3 1 2 1 4 1 3, 4010, test_at_28_3.1⟩,
   ⟨w28 1 0 2 0 4 1 6, 4009, test_at_28_2.2.2.1⟩,
   ⟨w28 3 1 0 1 0 1 3, Iface.pcie, 0x00002000#32, test_at_28_1.2.2.2.1⟩,
   ⟨w28 3 1 2 1 4 1 3, Iface.spi, 0xe11c53ce#32, test_at_28_3.2⟩,
   ⟨w28 1 0 2 0 4 1 6, Iface.spi, 0x0040019b#32, test_at_28_2.2.2.2⟩,
   ⟨w28 3 1 0 1 0 1 3, Iface.pcie, 0x00000001#32, 36, test_at_28_1.2.2.2.2⟩,
   ⟨w28 1 0 2 0 4 1 6, Iface.spi, 0x0000008f#32, 2, test_at_28_4.1⟩,
   ⟨w28 1 0 2 0 4 1 6, Iface.spi, 0x5b5607dc#32, 55, test_at_28_4.2⟩⟩

/-- States for the statement StationAndShadowRing. -/
def w29 (z x0 x1 x2 x3 x4 x5 x6 : Nat) : State :=
  let s := wBase z
  let b : Nat := x0
  let c : Nat := x1
  let d : Nat := x2
  let e : Nat := x3
  let h : Nat := x4
  let st : Nat := [1, 2, 2, 3, 2, 3, 0].getD x5 0
  let s := levels (onAll s) (if e = 0 then .operate else .engineer)
  let s := (((s.setF Reg.WYT_CFG_EN 0).setF Reg.WYT_STAT_STATE 0).setF Reg.BLK_BASE_NSEL 4).setF Reg.PWR_STAT_PROFILE 0
  let s := (List.range 4).foldl (fun (s : State) p => (s.setF (Reg.ETH_P_STAT_LINK p) (if h = 0 then 1 else b)).setF (Reg.ETH_P_STAT_SHED p) 0) s
  let per := 500000 * 2 ^ 32
  let s := { s with tm := { s.tm with nom := 2 ^ 70, runt := 2 ^ 70, time := 4009 * per + (if d = 0 then per / 100 else per * 98 / 100), prev := 4008 * per, div := 1 }, pwr := { s.pwr with unpowered := false }, streams := [] }
  let s := ([0, 1, 2, 7] : List Nat).foldl (fun (s : State) k => ((s.wr (Reg.YUL_MAP_0 k) (2 ^ 31 + (if k % 2 = 0 then 2 ^ 30 else 0) + 2 ^ 24 * (k / 2) + 2 ^ 16 * (k % 4) + (if k = 6 then 0 else 4 * k))).wr (Reg.YUL_MAP_1 k) (if k % 3 = 0 then 2 ^ 29 else 0)).wr (Reg.YUL_PI k) (k * 7777777)) s
  let s := (s.setF Reg.YUL_STAT_STATE st).wr Reg.YUL_LEAD 20000
  let role : Nat := [2, 2, 3, 1].getD x6 0
  let s := ((s.setF Reg.YUL_CTL_ROLE role).setF Reg.YUL_STA_STAT_INDEX 2).setF Reg.WYT_CFG_EN (if role = 1 then 1 else 0)
  let s := ((s.setF Reg.WYT_STAT_ROLE 2).setF Reg.WYT_STAT_RINGABS (c + d)).wr Reg.YUL_STA_WDT 1000
  let s := s.setF Reg.WYT_STAT_STATE (if role = 1 then (if e = 0 then 1 else if e = 1 then 2 else 3) else 0)
  let s := (List.range 4).foldl (fun (s : State) k => s.wr (Reg.YUL_ST_CFG k) (2 ^ 31 + 32 * 65536 + 32)) s
  let s := { s with crs := CrsSt.reset, wyt := { s.wyt with hbAt := if b = 0 then none else some (if c = 0 then 0 else 2 ^ 70) }, yul := { s.yul with cyc := if h = 0 then some 7 else none, kept := [], snap := [1, 2, 3], applyAt := if c = 0 then none else some (if d = 1 then s.tw + 2 ^ 40 else s.tw - 5, 7, 0), ackedIn := if b = 0 then none else some 7, safe := decide (e = 1), validAt := if e = 2 then 2 ^ 70 else 0, staOut := 32, staIn := 32, staLink := 5, checked := if d = 3 then 4009 else 4007, seen := if h = 1 then [4008] else [] } }
  s

theorem test_at_29_0 :
    (((w29 2 0 2 3 3 2 4 1).shaped = true) ∧ ((w29 2 0 2 3 3 2 4 1).room 80 = true) ∧ ((w29 2 0 2 3 3 2 4 1).crs.slots.any (fun c => c.st == .free) = true) ∧ (0 < 4) ∧ ((w29 2 0 2 3 3 2 4 1).isStation = false ∨ 0 < 2)) ∧
    (((w29 2 0 2 3 3 2 4 1).shaped = true) ∧ ((w29 2 0 2 3 3 2 4 1).room 80 = true) ∧ ((w29 2 0 2 3 3 2 4 1).crs.slots.any (fun c => c.st == .free) = true) ∧ (2 < 4) ∧ ((w29 2 0 2 3 3 2 4 1).isStation = true) ∧ (2 ≤ 2) ∧ (1 < ({ src := 446, etype := 536870912, ty := 7, line := true, turned := false, holdAll := true, commit := 4194585, cycle := 640, applyDelta := 1, corr := 1, reqs := [{ stn := 41922, hold := true, out := [0x57#8], items := [{ ofs := 0, width := 2, tag := 8, mask := 17751810111332028147, value := 2471 }, { ofs := 21, width := 2, tag := 1, mask := 3590390973, value := 1 }, { ofs := 4, width := 1, tag := 3, mask := 8388608, value := 0 }, { ofs := 36, width := 4, tag := 0, mask := 0, value := 328160 }] }, { stn := 1000963108, hold := true, out := [0x00#8, 0x80#8, 0x00#8, 0x02#8], items := [{ ofs := 7, width := 4, tag := 3, mask := 2, value := 1 }] }, { stn := 2378892352, hold := false, out := [0x00#8, 0x38#8, 0x00#8], items := [{ ofs := 35, width := 1, tag := 4, mask := 1, value := 1564 }, { ofs := 30, width := 2, tag := 0, mask := 4194685, value := 0 }, { ofs := 29, width := 2, tag := 5, mask := 0, value := 1 }, { ofs := 33, width := 2, tag := 6, mask := 690, value := 1 }, { ofs := 30, width := 2, tag := 0, mask := 84, value := 9 }] }, { stn := 10, hold := false, out := [0x8c#8, 0x04#8, 0x10#8], items := [] }], answers := [{ stn := 3, seen := true, safe := true, turn := false, applyFail := true, missed := false, ack := 3, stamp := 10, input := [0x01#8, 0x76#8, 0x02#8, 0x00#8, 0xb5#8] }, { stn := 3450081412, seen := false, safe := false, turn := true, applyFail := true, missed := true, ack := 60288, stamp := 7, input := [0x1b#8, 0x31#8, 0x9d#8] }, { stn := 3190, seen := false, safe := true, turn := true, applyFail := false, missed := false, ack := 1, stamp := 17287, input := [0x00#8, 0xf0#8, 0x01#8, 0xf8#8] }], period := 0, origin := 24, recs := [{ index := 998239604637095789, claimed := false, enabled := false, outLen := 678, inLen := 3387934933, link := 1 }, { index := 2787762955902965004, claimed := false, enabled := false, outLen := 29, inLen := 16777216, link := 2 }] } : RingFrame).ty)) ∧
    (((w29 2 0 2 3 3 2 4 1).shaped = true) ∧ ((w29 2 0 2 3 3 2 4 1).room 80 = true) ∧ ((w29 2 0 2 3 3 2 4 1).crs.slots.any (fun c => c.st == .free) = true) ∧ (2 < 4) ∧ ((w29 2 0 2 3 3 2 4 1).isStation = true) ∧ (2 ≤ 2) ∧ (({ src := 3385, etype := 21, ty := 1, line := true, turned := true, holdAll := false, commit := 4, cycle := 3290, applyDelta := 0, corr := 3183, reqs := [{ stn := 9437216, hold := false, out := [0x00#8, 0x01#8, 0xd4#8, 0x78#8], items := [{ ofs := 24, width := 1, tag := 4, mask := 61349, value := 2097832 }, { ofs := 1, width := 1, tag := 2, mask := 10, value := 1088931090 }, { ofs := 3, width := 1, tag := 8, mask := 25, value := 1 }] }, { stn := 2300621344, hold := false, out := [0xe4#8, 0x80#8], items := [{ ofs := 32, width := 4, tag := 2, mask := 4194163, value := 1904693788 }, { ofs := 27, width := 4, tag := 7, mask := 7406160, value := 20 }, { ofs := 11, width := 4, tag := 0, mask := 212, value := 0 }, { ofs := 20, width := 2, tag := 0, mask := 57, value := 1 }, { ofs := 26, width := 4, tag := 6, mask := 65536, value := 18 }] }, { stn := 3, hold := true, out := [0x03#8, 0x88#8, 0x00#8, 0x00#8, 0x14#8], items := [] }, { stn := 65596, hold := false, out := [0x00#8, 0x09#8, 0x00#8], items := [{ ofs := 23, width := 1, tag := 7, mask := 65808, value := 6 }, { ofs := 16, width := 4, tag := 7, mask := 4194666, value := 17196830205038535563 }, { ofs := 21, width := 1, tag := 0, mask := 2005486420, value := 16106466910001415019 }] }], answers := [{ stn := 3, seen := false, safe := false, turn := false, applyFail := false, missed := false, ack := 233, stamp := 37373, input := [0x90#8, 0x0f#8, 0x90#8, 0xe9#8] }], period := 0, origin := 516, recs := [] } : RingFrame).ty = 1) ∧ ((w29 2 0 2 3 3 2 4 1).yul.cyc ≠ some ({ src := 3385, etype := 21, ty := 1, line := true, turned := true, holdAll := false, commit := 4, cycle := 3290, applyDelta := 0, corr := 3183, reqs := [{ stn := 9437216, hold := false, out := [0x00#8, 0x01#8, 0xd4#8, 0x78#8], items := [{ ofs := 24, width := 1, tag := 4, mask := 61349, value := 2097832 }, { ofs := 1, width := 1, tag := 2, mask := 10, value := 1088931090 }, { ofs := 3, width := 1, tag := 8, mask := 25, value := 1 }] }, { stn := 2300621344, hold := false, out := [0xe4#8, 0x80#8], items := [{ ofs := 32, width := 4, tag := 2, mask := 4194163, value := 1904693788 }, { ofs := 27, width := 4, tag := 7, mask := 7406160, value := 20 }, { ofs := 11, width := 4, tag := 0, mask := 212, value := 0 }, { ofs := 20, width := 2, tag := 0, mask := 57, value := 1 }, { ofs := 26, width := 4, tag := 6, mask := 65536, value := 18 }] }, { stn := 3, hold := true, out := [0x03#8, 0x88#8, 0x00#8, 0x00#8, 0x14#8], items := [] }, { stn := 65596, hold := false, out := [0x00#8, 0x09#8, 0x00#8], items := [{ ofs := 23, width := 1, tag := 7, mask := 65808, value := 6 }, { ofs := 16, width := 4, tag := 7, mask := 4194666, value := 17196830205038535563 }, { ofs := 21, width := 1, tag := 0, mask := 2005486420, value := 16106466910001415019 }] }], answers := [{ stn := 3, seen := false, safe := false, turn := false, applyFail := false, missed := false, ack := 233, stamp := 37373, input := [0x90#8, 0x0f#8, 0x90#8, 0xe9#8] }], period := 0, origin := 516, recs := [] } : RingFrame).cycle) ∧ ((({ src := 3385, etype := 21, ty := 1, line := true, turned := true, holdAll := false, commit := 4, cycle := 3290, applyDelta := 0, corr := 3183, reqs := [{ stn := 9437216, hold := false, out := [0x00#8, 0x01#8, 0xd4#8, 0x78#8], items := [{ ofs := 24, width := 1, tag := 4, mask := 61349, value := 2097832 }, { ofs := 1, width := 1, tag := 2, mask := 10, value := 1088931090 }, { ofs := 3, width := 1, tag := 8, mask := 25, value := 1 }] }, { stn := 2300621344, hold := false, out := [0xe4#8, 0x80#8], items := [{ ofs := 32, width := 4, tag := 2, mask := 4194163, value := 1904693788 }, { ofs := 27, width := 4, tag := 7, mask := 7406160, value := 20 }, { ofs := 11, width := 4, tag := 0, mask := 212, value := 0 }, { ofs := 20, width := 2, tag := 0, mask := 57, value := 1 }, { ofs := 26, width := 4, tag := 6, mask := 65536, value := 18 }] }, { stn := 3, hold := true, out := [0x03#8, 0x88#8, 0x00#8, 0x00#8, 0x14#8], items := [] }, { stn := 65596, hold := false, out := [0x00#8, 0x09#8, 0x00#8], items := [{ ofs := 23, width := 1, tag := 7, mask := 65808, value := 6 }, { ofs := 16, width := 4, tag := 7, mask := 4194666, value := 17196830205038535563 }, { ofs := 21, width := 1, tag := 0, mask := 2005486420, value := 16106466910001415019 }] }], answers := [{ stn := 3, seen := false, safe := false, turn := false, applyFail := false, missed := false, ack := 233, stamp := 37373, input := [0x90#8, 0x0f#8, 0x90#8, 0xe9#8] }], period := 0, origin := 516, recs := [] } : RingFrame).recs.all fun r => r.claimed) = true)) ∧
    (((w29 2 0 2 3 3 2 4 1).shaped = true) ∧ ((w29 2 0 2 3 3 2 4 1).room 80 = true) ∧ ((w29 2 0 2 3 3 2 4 1).crs.slots.any (fun c => c.st == .free) = true) ∧ (3 < 4) ∧ ((w29 2 0 2 3 3 2 4 1).isStation = true) ∧ (2 ≤ 3) ∧ ((w29 2 0 2 3 3 2 4 1).yul.cyc ≠ some ({ ({ src := 124, etype := 0, ty := 262144, line := false, turned := true, holdAll := false, commit := 55, cycle := 1, applyDelta := 6, corr := 175647080, reqs := [{ stn := 44, hold := false, out := [0x01#8], items := [{ ofs := 6, width := 2, tag := 7, mask := 1, value := 11031130539395801987 }] }], answers := [], period := 145, origin := 14, recs := [] } : RingFrame) with ty := 0, reqs := [{ ({ stn := 166, hold := false, out := [0x02#8, 0x07#8, 0x01#8, 0x05#8, 0x07#8], items := [{ ofs := 28, width := 1, tag := 5, mask := 25860, value := 1 }, { ofs := 2, width := 2, tag := 7, mask := 7405664, value := 4194240 }, { ofs := 0, width := 1, tag := 0, mask := 0, value := 15 }] } : RingReq) with stn := (w29 2 0 2 3 3 2 4 1).getF Reg.YUL_STA_STAT_INDEX, items := [] }] }).cycle)) ∧
    (((w29 2 0 2 3 3 2 4 1).shaped = true) ∧ ((w29 2 0 2 3 3 2 4 1).room 80 = true) ∧ ((w29 2 0 2 3 3 2 4 1).crs.slots.any (fun c => c.st == .free) = true) ∧ ((w29 2 0 2 3 3 2 4 1).isStation = true) ∧ ((w29 2 0 2 3 3 2 4 1).yul.applyAt = some ((131399024639995, 7, 0) : Nat × Nat × Nat)) ∧ (((131399024639995, 7, 0) : Nat × Nat × Nat).2.2 = 0) ∧ (((131399024639995, 7, 0) : Nat × Nat × Nat).1 ≤ (w29 2 0 2 3 3 2 4 1).tw) ∧ ((w29 2 0 2 3 3 2 4 1).yul.cyc ≠ some ((131399024639995, 7, 0) : Nat × Nat × Nat).2.1) ∧ (((w29 2 0 2 3 3 2 4 1).stationComes fun f => !f.scan && f.cycle == ((131399024639995, 7, 0) : Nat × Nat × Nat).2.1) = false)) := by decide +kernel

theorem test_at_29_1 :
    (((w29 3 1 1 2 1 0 4 1).shaped = true) ∧ ((w29 3 1 1 2 1 0 4 1).room 80 = true) ∧ ((w29 3 1 1 2 1 0 4 1).crs.slots.any (fun c => c.st == .free) = true) ∧ (3 < 4) ∧ ((w29 3 1 1 2 1 0 4 1).isStation = true) ∧ (2 ≤ 3) ∧ (({ src := 4194577, etype := 9, ty := 1, line := true, turned := false, holdAll := true, commit := 4, cycle := 7, applyDelta := 12848852729928640701, corr := 3, reqs := [{ stn := 4194054, hold := false, out := [0x39#8], items := [{ ofs := 31, width := 2, tag := 4, mask := 7098758083240257820, value := 0 }, { ofs := 36, width := 4, tag := 1, mask := 6853, value := 3877 }, { ofs := 9, width := 2, tag := 3, mask := 4187133235757304016, value := 15 }] }, { stn := 21, hold := true, out := [0x0d#8, 0x89#8, 0x00#8], items := [{ ofs := 15, width := 4, tag := 6, mask := 4194288, value := 18 }, { ofs := 2, width := 4, tag := 7, mask := 9814841751772447213, value := 3399924821 }, { ofs := 9, width := 2, tag := 5, mask := 4, value := 3416885593 }, { ofs := 4, width := 4, tag := 7, mask := 16695627006878502136, value := 1 }] }], answers := [{ stn := 28, seen := false, safe := false, turn := false, applyFail := false, missed := true, ack := 14, stamp := 181, input := [] }, { stn := 0, seen := false, safe := true, turn := false, applyFail := false, missed := true, ack := 0, stamp := 3, input := [0x0b#8] }, { stn := 16384, seen := true, safe := true, turn := true, applyFail := false, missed := false, ack := 20, stamp := 4, input := [0x4d#8, 0x14#8, 0x7b#8] }, { stn := 3, seen := false, safe := true, turn := true, applyFail := true, missed := false, ack := 3903296438, stamp := 18, input := [0x01#8] }], period := 15, origin := 14, recs := [{ index := 3503, claimed := true, enabled := true, outLen := 4, inLen := 0, link := 19704 }, { index := 219, claimed := false, enabled := true, outLen := 2398, inLen := 163, link := 0 }, { index := 14764784538721095380, claimed := true, enabled := false, outLen := 1927, inLen := 1, link := 2496360467398564194 }] } : RingFrame).ty ≤ 1) ∧ ((w29 3 1 1 2 1 0 4 1).yul.cyc = some ({ src := 4194577, etype := 9, ty := 1, line := true, turned := false, holdAll := true, commit := 4, cycle := 7, applyDelta := 12848852729928640701, corr := 3, reqs := [{ stn := 4194054, hold := false, out := [0x39#8], items := [{ ofs := 31, width := 2, tag := 4, mask := 7098758083240257820, value := 0 }, { ofs := 36, width := 4, tag := 1, mask := 6853, value := 3877 }, { ofs := 9, width := 2, tag := 3, mask := 4187133235757304016, value := 15 }] }, { stn := 21, hold := true, out := [0x0d#8, 0x89#8, 0x00#8], items := [{ ofs := 15, width := 4, tag := 6, mask := 4194288, value := 18 }, { ofs := 2, width := 4, tag := 7, mask := 9814841751772447213, value := 3399924821 }, { ofs := 9, width := 2, tag := 5, mask := 4, value := 3416885593 }, { ofs := 4, width := 4, tag := 7, mask := 16695627006878502136, value := 1 }] }], answers := [{ stn := 28, seen := false, safe := false, turn := false, applyFail := false, missed := true, ack := 14, stamp := 181, input := [] }, { stn := 0, seen := false, safe := true, turn := false, applyFail := false, missed := true, ack := 0, stamp := 3, input := [0x0b#8] }, { stn := 16384, seen := true, safe := true, turn := true, applyFail := false, missed := false, ack := 20, stamp := 4, input := [0x4d#8, 0x14#8, 0x7b#8] }, { stn := 3, seen := false, safe := true, turn := true, applyFail := true, missed := false, ack := 3903296438, stamp := 18, input := [0x01#8] }], period := 15, origin := 14, recs := [{ index := 3503, claimed := true, enabled := true, outLen := 4, inLen := 0, link := 19704 }, { index := 219, claimed := false, enabled := true, outLen := 2398, inLen := 163, link := 0 }, { index := 14764784538721095380, claimed := true, enabled := false, outLen := 1927, inLen := 1, link := 2496360467398564194 }] } : RingFrame).cycle)) ∧
    (((w29 3 1 1 2 1 0 4 1).shaped = true) ∧ ((w29 3 1 1 2 1 0 4 1).room 80 = true) ∧ ((w29 3 1 1 2 1 0 4 1).crs.slots.any (fun c => c.st == .free) = true) ∧ ((w29 3 1 1 2 1 0 4 1).isStation = true) ∧ ((w29 3 1 1 2 1 0 4 1).yul.applyAt = some ((131399024639995, 7, 0) : Nat × Nat × Nat)) ∧ (((131399024639995, 7, 0) : Nat × Nat × Nat).2.2 = 0) ∧ (((131399024639995, 7, 0) : Nat × Nat × Nat).1 ≤ (w29 3 1 1 2 1 0 4 1).tw) ∧ ((w29 3 1 1 2 1 0 4 1).yul.cyc = some ((131399024639995, 7, 0) : Nat × Nat × Nat).2.1)) := by decide +kernel

theorem test_at_29_2 :
    (((w29 0 0 1 0 4 0 2 3).shaped = true) ∧ ((w29 0 0 1 0 4 0 2 3).room 80 = true) ∧ ((w29 0 0 1 0 4 0 2 3).crs.slots.any (fun c => c.st == .free) = true) ∧ ((w29 0 0 1 0 4 0 2 3).isStation = false ∨ (w29 0 0 1 0 4 0 2 3).yul.applyAt = none)) ∧
    (((w29 0 0 1 0 4 0 2 3).shaped = true) ∧ ((w29 0 0 1 0 4 0 2 3).room 80 = true) ∧ ((w29 0 0 1 0 4 0 2 3).crs.slots.any (fun c => c.st == .free) = true) ∧ ((((w29 0 0 1 0 4 0 2 3).isStation && !(w29 0 0 1 0 4 0 2 3).yul.safe && (w29 0 0 1 0 4 0 2 3).expired (w29 0 0 1 0 4 0 2 3).yul.validAt ((w29 0 0 1 0 4 0 2 3).rd Reg.YUL_STA_WDT * 1000) && !(w29 0 0 1 0 4 0 2 3).stationComes (fun _ => true))) = false)) ∧
    (((w29 0 0 1 0 4 0 2 3).shaped = true) ∧ ((w29 0 0 1 0 4 0 2 3).room 80 = true) ∧ ((w29 0 0 1 0 4 0 2 3).crs.slots.any (fun c => c.st == .free) = true) ∧ (3 < 4) ∧ ((w29 0 0 1 0 4 0 2 3).role3 = true) ∧ (2 ≤ 3) ∧ (({ src := 23, etype := 4194115, ty := 1206, line := false, turned := true, holdAll := false, commit := 3, cycle := 1, applyDelta := 15, corr := 11, reqs := [{ stn := 4194621, hold := true, out := [0x3d#8, 0x10#8, 0x01#8], items := [{ ofs := 9, width := 1, tag := 4, mask := 32, value := 8103022428391583328 }, { ofs := 8, width := 2, tag := 7, mask := 1888, value := 0 }, { ofs := 25, width := 2, tag := 0, mask := 1, value := 4194773 }, { ofs := 8, width := 4, tag := 8, mask := 97853277, value := 64959 }] }, { stn := 2441269763, hold := false, out := [0x03#8], items := [{ ofs := 7, width := 2, tag := 2, mask := 2585677171, value := 1 }] }], answers := [{ stn := 2471628141, seen := true, safe := false, turn := true, applyFail := false, missed := false, ack := 1114918823, stamp := 4194470, input := [0x30#8, 0x26#8, 0x01#8, 0x24#8, 0x3e#8] }, { stn := 26, seen := false, safe := true, turn := false, applyFail := false, missed := true, ack := 4194534, stamp := 2568, input := [] }, { stn := 8, seen := false, safe := true, turn := false, applyFail := false, missed := false, ack := 9, stamp := 4, input := [0x06#8] }, { stn := 14425242401635046431, seen := true, safe := false, turn := true, applyFail := true, missed := false, ack := 5, stamp := 2412, input := [0x00#8, 0x94#8, 0x11#8, 0x59#8] }, { stn := 50512, seen := true, safe := true, turn := false, applyFail := false, missed := false, ack := 0, stamp := 1, input := [0x36#8, 0x01#8, 0x74#8] }], period := 0, origin := 3, recs := [] } : RingFrame).ty ≠ 0)) ∧
    (((w29 0 0 1 0 4 0 2 3).shaped = true) ∧ ((w29 0 0 1 0 4 0 2 3).room 80 = true) ∧ ((w29 0 0 1 0 4 0 2 3).crs.slots.any (fun c => c.st == .free) = true) ∧ (3 < 4) ∧ ((w29 0 0 1 0 4 0 2 3).role3 = true) ∧ (2 ≤ 3) ∧ (({ src := 47, etype := 3, ty := 0, line := true, turned := false, holdAll := true, commit := 3, cycle := 87, applyDelta := 4195008, corr := 4194757, reqs := [{ stn := 3041125290, hold := true, out := [0x02#8, 0x00#8, 0x01#8], items := [{ ofs := 28, width := 1, tag := 6, mask := 4194304, value := 5 }, { ofs := 10, width := 2, tag := 5, mask := 10, value := 0 }, { ofs := 8, width := 4, tag := 6, mask := 128, value := 224 }, { ofs := 8, width := 1, tag := 0, mask := 208, value := 0 }, { ofs := 20, width := 1, tag := 1, mask := 4, value := 1063 }] }, { stn := 1, hold := false, out := [0x5f#8, 0x00#8, 0x00#8], items := [{ ofs := 33, width := 2, tag := 1, mask := 2833550857565839094, value := 1 }, { ofs := 9, width := 2, tag := 2, mask := 18, value := 393340 }, { ofs := 27, width := 2, tag := 8, mask := 11, value := 0 }, { ofs := 12, width := 1, tag := 1, mask := 3220524131, value := 7340400 }, { ofs := 19, width := 1, tag := 5, mask := 31582, value := 0 }] }, { stn := 0, hold := true, out := [0xee#8, 0x00#8, 0x09#8, 0x00#8, 0xf4#8], items := [] }, { stn := 9, hold := false, out := [0x7e#8, 0x4d#8, 0x11#8], items := [] }], answers := [{ stn := 3, seen := true, safe := false, turn := true, applyFail := true, missed := true, ack := 32, stamp := 15, input := [] }, { stn := 4, seen := false, safe := true, turn := false, applyFail := true, missed := true, ack := 7104, stamp := 1073741824, input := [0x1e#8, 0x1b#8, 0x01#8] }, { stn := 212, seen := true, safe := false, turn := true, applyFail := true, missed := true, ack := 3131939151, stamp := 0, input := [0x4c#8, 0x1f#8, 0x06#8, 0x07#8, 0x06#8] }, { stn := 1, seen := false, safe := false, turn := false, applyFail := true, missed := false, ack := 15, stamp := 2878528873, input := [0x00#8, 0x00#8] }], period := 327748, origin := 2, recs := [{ index := 1, claimed := true, enabled := false, outLen := 173, inLen := 3, link := 3 }, { index := 2, claimed := false, enabled := false, outLen := 7676779036213366092, inLen := 29, link := 3443251643 }, { index := 13967141103445933799, claimed := true, enabled := false, outLen := 55873, inLen := 609782422, link := 1 }, { index := 5681473068697299526, claimed := false, enabled := false, outLen := 3450, inLen := 21, link := 131688 }] } : RingFrame).ty = 0)) ∧
    (((w29 0 0 1 0 4 0 2 3).shaped = true) ∧ ((w29 0 0 1 0 4 0 2 3).room 80 = true) ∧ ((w29 0 0 1 0 4 0 2 3).crs.slots.any (fun c => c.st == .free) = true) ∧ ((w29 0 0 1 0 4 0 2 3).on secWyt = true) ∧ ((w29 0 0 1 0 4 0 2 3).standby = true) ∧ (((w29 0 0 1 0 4 0 2 3).yul.checked + 1) ≤ (w29 0 0 1 0 4 0 2 3).baseIdx) ∧ ((w29 0 0 1 0 4 0 2 3).on secYul = true) ∧ ((w29 0 0 1 0 4 0 2 3).getF Reg.YUL_CTL_ROLE = 1)) := by decide +kernel

theorem test_at_29_3 :
    (((w29 2 0 2 1 2 1 4 1).shaped = true) ∧ ((w29 2 0 2 1 2 1 4 1).room 80 = true) ∧ ((w29 2 0 2 1 2 1 4 1).crs.slots.any (fun c => c.st == .free) = true) ∧ ((w29 2 0 2 1 2 1 4 1).isStation = true) ∧ ((w29 2 0 2 1 2 1 4 1).yul.applyAt = some ((132498536267776, 7, 0) : Nat × Nat × Nat)) ∧ (((132498536267776, 7, 0) : Nat × Nat × Nat).2.2 = 0) ∧ ((w29 2 0 2 1 2 1 4 1).tw < ((132498536267776, 7, 0) : Nat × Nat × Nat).1)) := by decide +kernel

theorem test_at_29_4 :
    (((w29 2 0 2 3 3 2 4 1).shaped = true) ∧ ((w29 2 0 2 3 3 2 4 1).room 80 = true) ∧ ((w29 2 0 2 3 3 2 4 1).crs.slots.any (fun c => c.st == .free) = true) ∧ ((((w29 2 0 2 3 3 2 4 1).isStation && !(w29 2 0 2 3 3 2 4 1).yul.safe && (w29 2 0 2 3 3 2 4 1).expired (w29 2 0 2 3 3 2 4 1).yul.validAt ((w29 2 0 2 3 3 2 4 1).rd Reg.YUL_STA_WDT * 1000) && !(w29 2 0 2 3 3 2 4 1).stationComes (fun _ => true))) = true)) ∧
    (((w29 2 0 2 3 3 2 4 1).shaped = true) ∧ ((w29 2 0 2 3 3 2 4 1).room 80 = true) ∧ ((w29 2 0 2 3 3 2 4 1).crs.slots.any (fun c => c.st == .free) = true) ∧ (2 < 4) ∧ ((w29 2 0 2 3 3 2 4 1).role3 = false ∨ 2 < 2)) ∧
    (((w29 2 0 2 3 3 2 4 1).shaped = true) ∧ ((w29 2 0 2 3 3 2 4 1).room 80 = true) ∧ ((w29 2 0 2 3 3 2 4 1).crs.slots.any (fun c => c.st == .free) = true) ∧ ((w29 2 0 2 3 3 2 4 1).on secWyt = false ∨ (w29 2 0 2 3 3 2 4 1).standby = false ∨ (w29 2 0 2 3 3 2 4 1).baseIdx < ((w29 2 0 2 3 3 2 4 1).yul.checked + 1))) := by decide +kernel

theorem test_met_StationAndShadowRing :
    (∃ (s : State) (p : Nat) (rx : Nat) (f : RingFrame), (s.shaped = true) ∧ (s.room 80 = true) ∧ (s.crs.slots.any (fun c => c.st == .free) = true) ∧ (p < 4) ∧ (s.isStation = false ∨ p < 2)) ∧
    (∃ (s : State) (p : Nat) (rx : Nat) (f : RingFrame), (s.shaped = true) ∧ (s.room 80 = true) ∧ (s.crs.slots.any (fun c => c.st == .free) = true) ∧ (p < 4) ∧ (s.isStation = true) ∧ (2 ≤ p) ∧ (1 < f.ty)) ∧
    (∃ (s : State) (p : Nat) (rx : Nat) (f : RingFrame), (s.shaped = true) ∧ (s.room 80 = true) ∧ (s.crs.slots.any (fun c => c.st == .free) = true) ∧ (p < 4) ∧ (s.isStation = true) ∧ (2 ≤ p) ∧ (f.ty ≤ 1) ∧ (s.yul.cyc = some f.cycle)) ∧
    (∃ (s : State) (p : Nat) (rx : Nat) (f : RingFrame), (s.shaped = true) ∧ (s.room 80 = true) ∧ (s.crs.slots.any (fun c => c.st == .free) = true) ∧ (p < 4) ∧ (s.isStation = true) ∧ (2 ≤ p) ∧ (f.ty = 1) ∧ (s.yul.cyc ≠ some f.cycle) ∧ ((f.recs.all fun r => r.claimed) = true)) ∧
    (∃ (s : State) (p : Nat) (rx : Nat) (f : RingFrame) (k : Nat) (r : ScanRec), (s.shaped = true) ∧ (s.room 80 = true) ∧ (s.crs.slots.any (fun c => c.st == .free) = true) ∧ (p < 4) ∧ (s.isStation = true) ∧ (2 ≤ p) ∧ (f.ty = 1) ∧ (s.yul.cyc ≠ some f.cycle) ∧ ((f.recs.findIdx? fun r => !r.claimed) = some k) ∧ (f.recs[k]? = some r)) ∧
    (∃ (s : State) (p : Nat) (rx : Nat) (f : RingFrame) (q : RingReq) (g : RingFrame), (g = { f with ty := 0, reqs := [{ q with stn := s.getF Reg.YUL_STA_STAT_INDEX, items := [] }] }) ∧ (s.shaped = true) ∧ (s.room 80 = true) ∧ (s.crs.slots.any (fun c => c.st == .free) = true) ∧ (p < 4) ∧ (s.isStation = true) ∧ (2 ≤ p) ∧ (s.yul.cyc ≠ some g.cycle)) ∧
    (∃ (s : State), (s.shaped = true) ∧ (s.room 80 = true) ∧ (s.crs.slots.any (fun c => c.st == .free) = true) ∧ (s.isStation = false ∨ s.yul.applyAt = none)) ∧
    (∃ (s : State) (a : Nat × Nat × Nat), (s.shaped = true) ∧ (s.room 80 = true) ∧ (s.crs.slots.any (fun c => c.st == .free) = true) ∧ (s.isStation = true) ∧ (s.yul.applyAt = some a) ∧ (a.2.2 = 0) ∧ (s.tw < a.1)) ∧
    (∃ (s : State) (a : Nat × Nat × Nat), (s.shaped = true) ∧ (s.room 80 = true) ∧ (s.crs.slots.any (fun c => c.st == .free) = true) ∧ (s.isStation = true) ∧ (s.yul.applyAt = some a) ∧ (a.2.2 = 0) ∧ (a.1 ≤ s.tw) ∧ (s.yul.cyc = some a.2.1)) ∧
    (∃ (s : State) (a : Nat × Nat × Nat), (s.shaped = true) ∧ (s.room 80 = true) ∧ (s.crs.slots.any (fun c => c.st == .free) = true) ∧ (s.isStation = true) ∧ (s.yul.applyAt = some a) ∧ (a.2.2 = 0) ∧ (a.1 ≤ s.tw) ∧ (s.yul.cyc ≠ some a.2.1) ∧ ((s.stationComes fun f => !f.scan && f.cycle == a.2.1) = false)) ∧
    (∃ (s : State) (due : Bool), (due = (s.isStation && !s.yul.safe && s.expired s.yul.validAt (s.rd Reg.YUL_STA_WDT * 1000) && !s.stationComes (fun _ => true))) ∧ (s.shaped = true) ∧ (s.room 80 = true) ∧ (s.crs.slots.any (fun c => c.st == .free) = true) ∧ (due = false)) ∧
    (∃ (s : State) (due : Bool), (due = (s.isStation && !s.yul.safe && s.expired s.yul.validAt (s.rd Reg.YUL_STA_WDT * 1000) && !s.stationComes (fun _ => true))) ∧ (s.shaped = true) ∧ (s.room 80 = true) ∧ (s.crs.slots.any (fun c => c.st == .free) = true) ∧ (due = true)) ∧
    (∃ (s : State) (p : Nat) (f : RingFrame), (s.shaped = true) ∧ (s.room 80 = true) ∧ (s.crs.slots.any (fun c => c.st == .free) = true) ∧ (p < 4) ∧ (s.role3 = false ∨ p < 2)) ∧
    (∃ (s : State) (p : Nat) (f : RingFrame), (s.shaped = true) ∧ (s.room 80 = true) ∧ (s.crs.slots.any (fun c => c.st == .free) = true) ∧ (p < 4) ∧ (s.role3 = true) ∧ (2 ≤ p) ∧ (f.ty ≠ 0)) ∧
    (∃ (s : State) (p : Nat) (f : RingFrame), (s.shaped = true) ∧ (s.room 80 = true) ∧ (s.crs.slots.any (fun c => c.st == .free) = true) ∧ (p < 4) ∧ (s.role3 = true) ∧ (2 ≤ p) ∧ (f.ty = 0)) ∧
    (∃ (s : State) (k : Nat), (k = s.yul.checked + 1) ∧ (s.shaped = true) ∧ (s.room 80 = true) ∧ (s.crs.slots.any (fun c => c.st == .free) = true) ∧ (s.on secWyt = false ∨ s.standby = false ∨ s.baseIdx < k)) ∧
    (∃ (s : State) (k : Nat), (k = s.yul.checked + 1) ∧ (s.shaped = true) ∧ (s.room 80 = true) ∧ (s.crs.slots.any (fun c => c.st == .free) = true) ∧ (s.on secWyt = true) ∧ (s.standby = true) ∧ (k ≤ s.baseIdx) ∧ (s.on secYul = true) ∧ (s.getF Reg.YUL_CTL_ROLE = 1)) :=
  ⟨⟨w29 2 0 2 3 3 2 4 1, 0, 24380, { src := 0, etype := 8, ty := 4, line := true, turned := false, holdAll := false, commit := 2441, cycle := 20, applyDelta := 3, corr := 1, reqs := [{ stn := 1392, hold := false, out := [], items := [] }, { stn := 14, hold := true, out := [0x4d#8, 0x06#8, 0xe5#8], items := [{ ofs := 9, width := 1, tag := 5, mask := 0, value := 393844 }, { ofs := 4, width := 4, tag := 1, mask := 2060, value := 203 }] }, { stn := 1, hold := false, out := [], items := [{ ofs := 25, width := 4, tag := 5, mask := 15, value := 1115 }, { ofs := 5, width := 4, tag := 1, mask := 1, value := 24 }, { ofs := 30, width := 2, tag := 6, mask := 13, value := 24 }, { ofs := 21, width := 2, tag := 4, mask := 1714, value := 28 }, { ofs := 33, width := 4, tag := 0, mask := 4193994, value := 8583276222418480616 }] }, { stn := 80, hold := true, out := [0x9c#8, 0x04#8], items := [{ ofs := 25, width := 2, tag := 5, mask := 5805, value := 4194408 }, { ofs := 1, width := 1, tag := 3, mask := 268435456, value := 0 }, { ofs := 0, width := 4, tag := 6, mask := 31, value := 134 }] }, { stn := 3, hold := true, out := [0x04#8, 0x64#8, 0xa9#8, 0x00#8], items := [{ ofs := 20, width := 2, tag := 0, mask := 3837098380, value := 1 }, { ofs := 23, width := 4, tag := 5, mask := 8, value := 32768 }, { ofs := 26, width := 1, tag := 6, mask := 37, value := 14 }, { ofs := 22, width := 4, tag := 6, mask := 22, value := 68 }, { ofs := 21, width := 2, tag := 4, mask := 2, value := 3119 }] }], answers := [{ stn := 49, seen := false, safe := true, turn := false, applyFail := true, missed := false, ack := 16, stamp := 1, input := [0x0a#8, 0x0a#8] }], period := 4096, origin := 1, recs := [{ index := 5, claimed := false, enabled := true, outLen := 13027832727962017477, inLen := 1751734479000823519, link := 3 }] }, test_at_29_0.1⟩,
   ⟨w29 2 0 2 3 3 2 4 1, 2, 1, { src := 446, etype := 536870912, ty := 7, line := true, turned := false, holdAll := true, commit := 4194585, cycle := 640, applyDelta := 1, corr := 1, reqs := [{ stn := 41922, hold := true, out := [0x57#8], items := [{ ofs := 0, width := 2, tag := 8, mask := 17751810111332028147, value := 2471 }, { ofs := 21, width := 2, tag := 1, mask := 3590390973, value := 1 }, { ofs := 4, width := 1, tag := 3, mask := 8388608, value := 0 }, { ofs := 36, width := 4, tag := 0, mask := 0, value := 328160 }] }, { stn := 1000963108, hold := true, out := [0x00#8, 0x80#8, 0x00#8, 0x02#8], items := [{ ofs := 7, width := 4, tag := 3, mask := 2, value := 1 }] }, { stn := 2378892352, hold := false, out := [0x00#8, 0x38#8, 0x00#8], items := [{ ofs := 35, width := 1, tag := 4, mask := 1, value := 1564 }, { ofs := 30, width := 2, tag := 0, mask := 4194685, value := 0 }, { ofs := 29, width := 2, tag := 5, mask := 0, value := 1 }, { ofs := 33, width := 2, tag := 6, mask := 690, value := 1 }, { ofs := 30, width := 2, tag := 0, mask := 84, value := 9 }] }, { stn := 10, hold := false, out := [0x8c#8, 0x04#8, 0x10#8], items := [] }], answers := [{ stn := 3, seen := true, safe := true, turn := false, applyFail := true, missed := false, ack := 3, stamp := 10, input := [0x01#8, 0x76#8, 0x02#8, 0x00#8, 0xb5#8] }, { stn := 3450081412, seen := false, safe := false, turn := true, applyFail := true, missed := true, ack := 60288, stamp := 7, input := [0x1b#8, 0x31#8, 0x9d#8] }, { stn := 3190, seen := false, safe := true, turn := true, applyFail := false, missed := false, ack := 1, stamp := 17287, input := [0x00#8, 0xf0#8, 0x01#8, 0xf8#8] }], period := 0, origin := 24, recs := [{ index := 998239604637095789, claimed := false, enabled := false, outLen := 678, inLen := 3387934933, link := 1 }, { index := 2787762955902965004, claimed := false, enabled := false, outLen := 29, inLen := 16777216, link := 2 }] }, test_at_29_0.2.1⟩,
   ⟨w29 3 1 1 2 1 0 4 1, 3, 5, { src := 4194577, etype := 9, ty := 1, line := true, turned := false, holdAll := true, commit := 4, cycle := 7, applyDelta := 12848852729928640701, corr := 3, reqs := [{ stn := 4194054, hold := false, out := [0x39#8], items := [{ ofs := 31, width := 2, tag := 4, mask := 7098758083240257820, value := 0 }, { ofs := 36, width := 4, tag := 1, mask := 6853, value := 3877 }, { ofs := 9, width := 2, tag := 3, mask := 4187133235757304016, value := 15 }] }, { stn := 21, hold := true, out := [0x0d#8, 0x89#8, 0x00#8], items := [{ ofs := 15, width := 4, tag := 6, mask := 4194288, value := 18 }, { ofs := 2, width := 4, tag := 7, mask := 9814841751772447213, value := 3399924821 }, { ofs := 9, width := 2, tag := 5, mask := 4, value := 3416885593 }, { ofs := 4, width := 4, tag := 7, mask := 16695627006878502136, value := 1 }] }], answers := [{ stn := 28, seen := false, safe := false, turn := false, applyFail := false, missed := true, ack := 14, stamp := 181, input := [] }, { stn := 0, seen := false, safe := true, turn := false, applyFail := false, missed := true, ack := 0, stamp := 3, input := [0x0b#8] }, { stn := 16384, seen := true, safe := true, turn := true, applyFail := false, missed := false, ack := 20, stamp := 4, input := [0x4d#8, 0x14#8, 0x7b#8] }, { stn := 3, seen := false, safe := true, turn := true, applyFail := true, missed := false, ack := 3903296438, stamp := 18, input := [0x01#8] }], period := 15, origin := 14, recs := [{ index := 3503, claimed := true, enabled := true, outLen := 4, inLen := 0, link := 19704 }, { index := 219, claimed := false, enabled := true, outLen := 2398, inLen := 163, link := 0 }, { index := 14764784538721095380, claimed := true, enabled := false, outLen := 1927, inLen := 1, link := 2496360467398564194 }] }, test_at_29_1.1⟩,
   ⟨w29 2 0 2 3 3 2 4 1, 2, 4123610855, { src := 3385, etype := 21, ty := 1, line := true, turned := true, holdAll := false, commit := 4, cycle := 3290, applyDelta := 0, corr := 3183, reqs := [{ stn := 9437216, hold := false, out := [0x00#8, 0x01#8, 0xd4#8, 0x78#8], items := [{ ofs := 24, width := 1, tag := 4, mask := 61349, value := 2097832 }, { ofs := 1, width := 1, tag := 2, mask := 10, value := 1088931090 }, { ofs := 3, width := 1, tag := 8, mask := 25, value := 1 }] }, { stn := 2300621344, hold := false, out := [0xe4#8, 0x80#8], items := [{ ofs := 32, width := 4, tag := 2, mask := 4194163, value := 1904693788 }, { ofs := 27, width := 4, tag := 7, mask := 7406160, value := 20 }, { ofs := 11, width := 4, tag := 0, mask := 212, value := 0 }, { ofs := 20, width := 2, tag := 0, mask := 57, value := 1 }, { ofs := 26, width := 4, tag := 6, mask := 65536, value := 18 }] }, { stn := 3, hold := true, out := [0x03#8, 0x88#8, 0x00#8, 0x00#8, 0x14#8], items := [] }, { stn := 65596, hold := false, out := [0x00#8, 0x09#8, 0x00#8], items := [{ ofs := 23, width := 1, tag := 7, mask := 65808, value := 6 }, { ofs := 16, width := 4, tag := 7, mask := 4194666, value := 17196830205038535563 }, { ofs := 21, width := 1, tag := 0, mask := 2005486420, value := 16106466910001415019 }] }], answers := [{ stn := 3, seen := false, safe := false, turn := false, applyFail := false, missed := false, ack := 233, stamp := 37373, input := [0x90#8, 0x0f#8, 0x90#8, 0xe9#8] }], period := 0, origin := 516, recs := [] }, test_at_29_0.2.2.1⟩,
   ⟨w29 2 0 2 3 3 2 4 1, 3, 4193944, { src := 3, etype := 0, ty := 1, line := true, turned := true, holdAll := true, commit := 1070992234176772166, cycle := 0, applyDelta := 12, corr := 102, reqs := [{ stn := 590, hold := true, out := [0x6a#8, 0x54#8, 0x60#8], items := [{ ofs := 37, width := 1, tag := 8, mask := 2237, value := 2163188 }, { ofs := 4, width := 1, tag := 5, mask := 6, value := 3214344709 }, { ofs := 4, width := 1, tag := 7, mask := 3, value := 2 }] }], answers := [], period := 0, origin := 0, recs := [{ index := 7405952, claimed := false, enabled := false, outLen := 928, inLen := 34428, link := 1 }, { index := 143, claimed := true, enabled := false, outLen := 4194304, inLen := 162, link := 4194082 }] }, 0, { index := 7405952, claimed := false, enabled := false, outLen := 928, inLen := 34428, link := 1 }, by decide +kernel⟩,
   ⟨w29 2 0 2 3 3 2 4 1, 3, 11, { src := 124, etype := 0, ty := 262144, line := false, turned := true, holdAll := false, commit := 55, cycle := 1, applyDelta := 6, corr := 175647080, reqs := [{ stn := 44, hold := false, out := [0x01#8], items := [{ ofs := 6, width := 2, tag := 7, mask := 1, value := 11031130539395801987 }] }], answers := [], period := 145, origin := 14, recs := [] }, { stn := 166, hold := false, out := [0x02#8, 0x07#8, 0x01#8, 0x05#8, 0x07#8], items := [{ ofs := 28, width := 1, tag := 5, mask := 25860, value := 1 }, { ofs := 2, width := 2, tag := 7, mask := 7405664, value := 4194240 }, { ofs := 0, width := 1, tag := 0, mask := 0, value := 15 }] }, _, rfl, test_at_29_0.2.2.2.1⟩,
   ⟨w29 0 0 1 0 4 0 2 3, test_at_29_2.1⟩,
   ⟨w29 2 0 2 1 2 1 4 1, (132498536267776, 7, 0), test_at_29_3⟩,
   ⟨w29 3 1 1 2 1 0 4 1, (131399024639995, 7, 0), test_at_29_1.2⟩,
   ⟨w29 2 0 2 3 3 2 4 1, (131399024639995, 7, 0), test_at_29_0.2.2.2.2⟩,
   ⟨w29 0 0 1 0 4 0 2 3, _, rfl, test_at_29_2.2.1⟩,
   ⟨w29 2 0 2 3 3 2 4 1, _, rfl, test_at_29_4.1⟩,
   ⟨w29 2 0 2 3 3 2 4 1, 2, { src := 12092115383892831427, etype := 0, ty := 16, line := false, turned := true, holdAll := true, commit := 3, cycle := 1048576, applyDelta := 3, corr := 87, reqs := [{ stn := 0, hold := false, out := [0xa3#8, 0x04#8, 0x97#8, 0xea#8], items := [{ ofs := 22, width := 4, tag := 6, mask := 3878296061, value := 1 }, { ofs := 19, width := 4, tag := 0, mask := 9, value := 32 }, { ofs := 13, width := 1, tag := 8, mask := 0, value := 4194087 }] }, { stn := 49940, hold := false, out := [0x79#8, 0xf1#8, 0x07#8, 0x06#8], items := [{ ofs := 36, width := 4, tag := 0, mask := 10713, value := 27640 }, { ofs := 8, width := 4, tag := 4, mask := 6, value := 3239 }, { ofs := 36, width := 2, tag := 1, mask := 253, value := 4194270 }] }, { stn := 7340340, hold := true, out := [0x03#8, 0x0b#8], items := [{ ofs := 16, width := 1, tag := 2, mask := 1017, value := 0 }, { ofs := 33, width := 4, tag := 8, mask := 2, value := 0 }] }, { stn := 7405980, hold := true, out := [0xec#8, 0xbc#8, 0x33#8, 0x09#8], items := [{ ofs := 11, width := 2, tag := 8, mask := 0, value := 4194471 }, { ofs := 29, width := 4, tag := 8, mask := 0, value := 3569 }, { ofs := 14, width := 1, tag := 6, mask := 4194171, value := 26 }] }], answers := [{ stn := 128, seen := true, safe := false, turn := true, applyFail := true, missed := false, ack := 2119, stamp := 12028, input := [0xcb#8] }, { stn := 10, seen := false, safe := true, turn := false, applyFail := false, missed := false, ack := 1509869414, stamp := 3, input := [0x1a#8] }, { stn := 147, seen := false, safe := true, turn := true, applyFail := true, missed := false, ack := 15, stamp := 4194644, input := [0xd0#8] }, { stn := 4193814, seen := true, safe := true, turn := false, applyFail := false, missed := true, ack := 65536, stamp := 8, input := [0xe8#8, 0x48#8] }], period := 56998, origin := 0, recs := [{ index := 1737640869, claimed := true, enabled := true, outLen := 128, inLen := 35679, link := 4194192 }, { index := 199, claimed := true, enabled := true, outLen := 34720, inLen := 0, link := 6 }, { index := 3640, claimed := true, enabled := true, outLen := 38, inLen := 2163024, link := 9155407561959590570 }, { index := 3, claimed := true, enabled := false, outLen := 33932, inLen := 4194600, link := 2 }, { index := 28, claimed := true, enabled := true, outLen := 6607, inLen := 1, link := 0 }] }, test_at_29_4.2.1⟩,
   ⟨w29 0 0 1 0 4 0 2 3, 3, { src := 23, etype := 4194115, ty := 1206, line := false, turned := true, holdAll := false, commit := 3, cycle := 1, applyDelta := 15, corr := 11, reqs := [{ stn := 4194621, hold := true, out := [0x3d#8, 0x10#8, 0x01#8], items := [{ ofs := 9, width := 1, tag := 4, mask := 32, value := 8103022428391583328 }, { ofs := 8, width := 2, tag := 7, mask := 1888, value := 0 }, { ofs := 25, width := 2, tag := 0, mask := 1, value := 4194773 }, { ofs := 8, width := 4, tag := 8, mask := 97853277, value := 64959 }] }, { stn := 2441269763, hold := false, out := [0x03#8], items := [{ ofs := 7, width := 2, tag := 2, mask := 2585677171, value := 1 }] }], answers := [{ stn := 2471628141, seen := true, safe := false, turn := true, applyFail := false, missed := false, ack := 1114918823, stamp := 4194470, input := [0x30#8, 0x26#8, 0x01#8, 0x24#8, 0x3e#8] }, { stn := 26, seen := false, safe := true, turn := false, applyFail := false, missed := true, ack := 4194534, stamp := 2568, input := [] }, { stn := 8, seen := false, safe := true, turn := false, applyFail := false, missed := false, ack := 9, stamp := 4, input := [0x06#8] }, { stn := 14425242401635046431, seen := true, safe := false, turn := true, applyFail := true, missed := false, ack := 5, stamp := 2412, input := [0x00#8, 0x94#8, 0x11#8, 0x59#8] }, { stn := 50512, seen := true, safe := true, turn := false, applyFail := false, missed := false, ack := 0, stamp := 1, input := [0x36#8, 0x01#8, 0x74#8] }], period := 0, origin := 3, recs := [] }, test_at_29_2.2.2.1⟩,
   ⟨w29 0 0 1 0 4 0 2 3, 3, { src := 47, etype := 3, ty := 0, line := true, turned := false, holdAll := true, commit := 3, cycle := 87, applyDelta := 4195008, corr := 4194757, reqs := [{ stn := 3041125290, hold := true, out := [0x02#8, 0x00#8, 0x01#8], items := [{ ofs := 28, width := 1, tag := 6, mask := 4194304, value := 5 }, { ofs := 10, width := 2, tag := 5, mask := 10, value := 0 }, { ofs := 8, width := 4, tag := 6, mask := 128, value := 224 }, { ofs := 8, width := 1, tag := 0, mask := 208, value := 0 }, { ofs := 20, width := 1, tag := 1, mask := 4, value := 1063 }] }, { stn := 1, hold := false, out := [0x5f#8, 0x00#8, 0x00#8], items := [{ ofs := 33, width := 2, tag := 1, mask := 2833550857565839094, value := 1 }, { ofs := 9, width := 2, tag := 2, mask := 18, value := 393340 }, { ofs := 27, width := 2, tag := 8, mask := 11, value := 0 }, { ofs := 12, width := 1, tag := 1, mask := 3220524131, value := 7340400 }, { ofs := 19, width := 1, tag := 5, mask := 31582, value := 0 }] }, { stn := 0, hold := true, out := [0xee#8, 0x00#8, 0x09#8, 0x00#8, 0xf4#8], items := [] }, { stn := 9, hold := false, out := [0x7e#8, 0x4d#8, 0x11#8], items := [] }], answers := [{ stn := 3, seen := true, safe := false, turn := true, applyFail := true, missed := true, ack := 32, stamp := 15, input := [] }, { stn := 4, seen := false, safe := true, turn := false, applyFail := true, missed := true, ack := 7104, stamp := 1073741824, input := [0x1e#8, 0x1b#8, 0x01#8] }, { stn := 212, seen := true, safe := false, turn := true, applyFail := true, missed := true, ack := 3131939151, stamp := 0, input := [0x4c#8, 0x1f#8, 0x06#8, 0x07#8, 0x06#8] }, { stn := 1, seen := false, safe := false, turn := false, applyFail := true, missed := false, ack := 15, stamp := 2878528873, input := [0x00#8, 0x00#8] }], period := 327748, origin := 2, recs := [{ index := 1, claimed := true, enabled := false, outLen := 173, inLen := 3, link := 3 }, { index := 2, claimed := false, enabled := false, outLen := 7676779036213366092, inLen := 29, link := 3443251643 }, { index := 13967141103445933799, claimed := true, enabled := false, outLen := 55873, inLen := 609782422, link := 1 }, { index := 5681473068697299526, claimed := false, enabled := false, outLen := 3450, inLen := 21, link := 131688 }] }, test_at_29_2.2.2.2.1⟩,
   ⟨w29 2 0 2 3 3 2 4 1, _, rfl, test_at_29_4.2.2⟩,
   ⟨w29 0 0 1 0 4 0 2 3, _, rfl, test_at_29_2.2.2.2.2⟩⟩

/-- States for the statement StationPortsTakeAndSendFrames. -/
def w30 (z x0 x1 x2 x3 x4 x5 : Nat) : State :=
  let s := wBase z
  let b : Nat := x0
  let c : Nat := x1
  let d : Nat := x2
  let e : Nat := x3
  let h : Nat := x4
  let s := levels (onAll s) .operate
  let s := { s with tm := { s.tm with nom := 2 ^ 70, runt := 2 ^ 70, time := 2 ^ 75 + 2 ^ 62 * d }, pwr := { s.pwr with unpowered := false }, streams := [] }
  let role : Nat := [1, 2, 3, 0].getD x5 0
  let s := (List.range 4).foldl (fun (s : State) p => (((s.setF (Reg.ETH_P_STAT_LINK p) (if e = 0 && p = d then 0 else 1)).setF (Reg.ETH_P_STAT_SHED p) 0).setF (Reg.ETH_P_CFG_ROLE p) (if p < 2 then role else 1)).setF (Reg.ETH_P_CFG_GPASS p) 0) s
  let s := (s.setF Reg.WYT_CFG_EN (if e = 3 then 1 else 0)).setF Reg.WYT_STAT_ROLE 2
  let s := { s with regs := (List.range 4).foldl (fun (l : List (Nat × Word)) k => Sparse.ins (Sparse.ins l (Reg.ETH_P_MAC_0 k) (BitVec.ofNat 32 (5 + k))) (Reg.ETH_P_MAC_1 k) 0x0200) s.regs }
  let s := (List.range 4).foldl (fun (s : State) k => ((s.wr (Reg.HST_DMA_CTL k) (if d = 0 then 0 else 2 ^ 31)).setF (Reg.HST_DMA_HEAD_IDX k) 1).setF (Reg.HST_DMA_TAIL_IDX k) 3) s
  let s := (List.range 4).foldl (fun (s : State) k => (((s.setF (Reg.HST_DMA_CTL_EN k) (if d = 0 then 0 else 1)).setF (Reg.HST_DMA_SIZE_N k) 8).wr (Reg.HST_DMA_RING_LO k) 0x1000).wr (Reg.HST_DMA_RING_HI k) 0) s
  let s := { s with eth := { s.eth with superv := if h = 0 then 0 else 2 ^ 70, ptx := (List.range 4).map fun (p : Nat) => ⟨if b = 0 then [] else [⟨5, 3, 0, .prpSupervision, none, none⟩, ⟨if c = 0 then 1 else 3, 4, 2, .prpSupervision, none, none⟩, ⟨if c = 0 then 1 else 3, 4, 1, .forward [1, 2], none, none⟩], if d = 0 then none else some (⟨if e = 0 then 2 else 2 + p, 3, 0, .prpSupervision, none, none⟩, if h = 0 then 5 else 2 ^ 70 + 9, none)⟩, dup := [DupEnt.mk 0 0 (if c = 0 then 2 ^ 70 else 0), DupEnt.mk 1 0 (2 ^ 70)] ++ (if c = 1 then List.replicate 1022 (DupEnt.mk 5 5 (2 ^ 70)) else []) } }
  let s := s.wr Reg.ETH_PRP_CNT (if b = 0 then 0 else 0xFFFFFFFF)
  let s := { s with pending := [], crs := { s.crs with arms := [], decisions := [] }, prt := { s.prt with jobs := [], comp := s.prt.comp.map fun (x : CompSt) => { x with rise := none } } }
  s

theorem test_at_30_0 :
    (((w30 1 1 1 2 0 0 2).shaped = true) ∧ ((w30 1 1 1 2 0 0 2).room 40 = true) ∧ (2 < 4) ∧ ((w30 1 1 1 2 0 0 2).lanPort 2 = false)) ∧
    (((w30 1 1 1 2 0 0 2).shaped = true) ∧ ((w30 1 1 1 2 0 0 2).room 40 = true) ∧ (3 < 4) ∧ ((w30 1 1 1 2 0 0 2).lanPort 3 = true) ∧ ((w30 1 1 1 2 0 0 2).pairPort 3 = false)) ∧
    (((w30 1 1 1 2 0 0 2).shaped = true) ∧ ((w30 1 1 1 2 0 0 2).room 40 = true) ∧ (1 < 4) ∧ ((w30 1 1 1 2 0 0 2).lanPort 1 = true) ∧ ((w30 1 1 1 2 0 0 2).pairPort 1 = true) ∧ (((w30 1 1 1 2 0 0 2).eth.dup.any fun e => e.mac == 8 && e.seq == 10 && !(w30 1 1 1 2 0 0 2).expired e.at_ 400000000) = false)) ∧
    (((w30 1 1 1 2 0 0 2).shaped = true) ∧ ((w30 1 1 1 2 0 0 2).room 40 = true) ∧ (3 < 4) ∧ ((w30 1 1 1 2 0 0 2).lanPort 3 = true) ∧ ((w30 1 1 1 2 0 0 2).hostDst 3 36125 = false)) ∧
    (((w30 1 1 1 2 0 0 2).shaped = true) ∧ ((w30 1 1 1 2 0 0 2).room 40 = true) ∧ (3 < 4) ∧ ((w30 1 1 1 2 0 0 2).lanPort 3 = true) ∧ ((w30 1 1 1 2 0 0 2).dmaRuns 2 = true) ∧ (([0x41#8, 0x34#8] : List Byte).length ≤ 2048)) ∧
    (((w30 1 1 1 2 0 0 2).shaped = true) ∧ ((w30 1 1 1 2 0 0 2).room 40 = true) ∧ (2 < 4) ∧ ((w30 1 1 1 2 0 0 2).lanPort 2 = false ∨ (w30 1 1 1 2 0 0 2).getF (Reg.ETH_P_CFG_ROLE 2) ≠ 3 ∨ (w30 1 1 1 2 0 0 2).lanPort (1 - 2) = false ∨ 605 = (w30 1 1 1 2 0 0 2).portMac 0 ∨ 605 = (w30 1 1 1 2 0 0 2).portMac 1 ∨ beNat (([0x03#8] : List Byte).take 6) = (w30 1 1 1 2 0 0 2).portMac 2)) ∧
    (((w30 1 1 1 2 0 0 2).shaped = true) ∧ ((w30 1 1 1 2 0 0 2).room 40 = true) ∧ (2 < 4) ∧ ((w30 1 1 1 2 0 0 2).linkBit 2 = false)) := by decide +kernel

theorem test_at_30_1 :
    (((w30 0 1 0 3 2 1 2).shaped = true) ∧ ((w30 0 1 0 3 2 1 2).room 40 = true) ∧ (1 < 4) ∧ ((w30 0 1 0 3 2 1 2).lanPort 1 = true) ∧ ((w30 0 1 0 3 2 1 2).pairPort 1 = true) ∧ (((w30 0 1 0 3 2 1 2).eth.dup.any fun e => e.mac == 0 && e.seq == 0 && !(w30 0 1 0 3 2 1 2).expired e.at_ 400000000) = true)) ∧
    (((w30 0 1 0 3 2 1 2).shaped = true) ∧ ((w30 0 1 0 3 2 1 2).room 40 = true) ∧ (((((w30 0 1 0 3 2 1 2).txPorts 0).filter fun p => (w30 0 1 0 3 2 1 2).pairPort p)) = [] ∨ (w30 0 1 0 3 2 1 2).tm.runt < (w30 0 1 0 3 2 1 2).eth.superv + 2000 * ms32)) ∧
    (((w30 0 1 0 3 2 1 2).shaped = true) ∧ ((w30 0 1 0 3 2 1 2).room 40 = true) ∧ (0 < 4) ∧ ((w30 0 1 0 3 2 1 2).lanPort 0 = true) ∧ ((w30 0 1 0 3 2 1 2).pending = []) ∧ ((w30 0 1 0 3 2 1 2).pwr.unpowered = false) ∧ ((w30 0 1 0 3 2 1 2).crs.arms = []) ∧ ((w30 0 1 0 3 2 1 2).crs.decisions = []) ∧ ((w30 0 1 0 3 2 1 2).prt.jobs = []) ∧ (((w30 0 1 0 3 2 1 2).prt.comp.all fun x => x.rise.isNone) = true) ∧ (txNext ((w30 0 1 0 3 2 1 2).ptx 0).wait = some (({ prio := 1, fc := 4, k := 1, what := TxFrame.forward [0x01#8, 0x02#8], tag := none, stamp := none } : TxWait), ([{ prio := 5, fc := 3, k := 0, what := TxFrame.prpSupervision, tag := none, stamp := none }, { prio := 1, fc := 4, k := 2, what := TxFrame.prpSupervision, tag := none, stamp := none }] : List TxWait))) ∧ (((w30 0 1 0 3 2 1 2).ptx 0).cur = some (({ prio := 2, fc := 3, k := 0, what := TxFrame.prpSupervision, tag := none, stamp := none }, 1180591620717411303433, none) : TxWait × Nat × Option TxStamp)) ∧ ((w30 0 1 0 3 2 1 2).tm.nom < (({ prio := 2, fc := 3, k := 0, what := TxFrame.prpSupervision, tag := none, stamp := none }, 1180591620717411303433, none) : TxWait × Nat × Option TxStamp).2.1) ∧ (({ prio := 1, fc := 4, k := 1, what := TxFrame.forward [0x01#8, 0x02#8], tag := none, stamp := none } : TxWait).prio ≠ 1 ∨ (({ prio := 2, fc := 3, k := 0, what := TxFrame.prpSupervision, tag := none, stamp := none }, 1180591620717411303433, none) : TxWait × Nat × Option TxStamp).1.prio < 3)) := by decide +kernel

theorem test_at_30_2 :
    (((w30 0 0 1 0 4 0 0).shaped = true) ∧ ((w30 0 0 1 0 4 0 0).room 40 = true) ∧ (2 < 4) ∧ ((w30 0 0 1 0 4 0 0).lanPort 2 = true) ∧ ((w30 0 0 1 0 4 0 0).dmaRuns 2 = false)) ∧
    (((w30 0 0 1 0 4 0 0).shaped = true) ∧ ((w30 0 0 1 0 4 0 0).room 40 = true) ∧ ((w30 0 0 1 0 4 0 0).dmaRuns 3 = false)) := by decide +kernel

theorem test_at_30_3 :
    (((w30 1 1 1 2 0 0 2).shaped = true) ∧ ((w30 1 1 1 2 0 0 2).room 40 = true) ∧ (1 < 4) ∧ (1 < 2) ∧ ((w30 1 1 1 2 0 0 2).lanPort 1 = true) ∧ ((w30 1 1 1 2 0 0 2).getF (Reg.ETH_P_CFG_ROLE 1) = 3) ∧ ((w30 1 1 1 2 0 0 2).lanPort (1 - 1) = true) ∧ (1 ≠ (w30 1 1 1 2 0 0 2).portMac 0) ∧ (1 ≠ (w30 1 1 1 2 0 0 2).portMac 1) ∧ (beNat (([0x03#8, 0x01#8, 0x00#8] : List Byte).take 6) ≠ (w30 1 1 1 2 0 0 2).portMac 1)) ∧
    (((w30 1 1 1 2 0 0 2).shaped = true) ∧ ((w30 1 1 1 2 0 0 2).room 40 = true) ∧ (1 < 4) ∧ ((w30 1 1 1 2 0 0 2).linkBit 1 = true)) ∧
    (((w30 1 1 1 2 0 0 2).shaped = true) ∧ ((w30 1 1 1 2 0 0 2).room 40 = true) ∧ (2 < 4) ∧ ((w30 1 1 1 2 0 0 2).getF (Reg.ETH_P_CFG_ROLE 2) ≠ 0) ∧ ((w30 1 1 1 2 0 0 2).flag (Reg.ETH_P_STAT_SHED 2) = false) ∧ ((w30 1 1 1 2 0 0 2).on (secEth 2) = true) ∧ ((w30 1 1 1 2 0 0 2).linkBit 2 = false)) ∧
    (((w30 1 1 1 2 0 0 2).shaped = true) ∧ ((w30 1 1 1 2 0 0 2).room 40 = true) ∧ (((((w30 1 1 1 2 0 0 2).txPorts 0).filter fun p => (w30 1 1 1 2 0 0 2).pairPort p)) ≠ []) ∧ ((w30 1 1 1 2 0 0 2).eth.superv + 2000 * ms32 ≤ (w30 1 1 1 2 0 0 2).tm.runt)) ∧
    (((w30 1 1 1 2 0 0 2).shaped = true) ∧ ((w30 1 1 1 2 0 0 2).room 40 = true) ∧ (1 < 4) ∧ ((w30 1 1 1 2 0 0 2).lanPort 1 = true) ∧ ((w30 1 1 1 2 0 0 2).pending = []) ∧ ((w30 1 1 1 2 0 0 2).pwr.unpowered = false) ∧ ((w30 1 1 1 2 0 0 2).crs.arms = []) ∧ ((w30 1 1 1 2 0 0 2).crs.decisions = []) ∧ ((w30 1 1 1 2 0 0 2).prt.jobs = []) ∧ (((w30 1 1 1 2 0 0 2).prt.comp.all fun x => x.rise.isNone) = true) ∧ (txNext ((w30 1 1 1 2 0 0 2).ptx 1).wait = some (({ prio := 3, fc := 4, k := 1, what := TxFrame.forward [0x01#8, 0x02#8], tag := none, stamp := none } : TxWait), ([{ prio := 5, fc := 3, k := 0, what := TxFrame.prpSupervision, tag := none, stamp := none }, { prio := 3, fc := 4, k := 2, what := TxFrame.prpSupervision, tag := none, stamp := none }] : List TxWait))) ∧ ((((w30 1 1 1 2 0 0 2).ptx 1).cur.all fun c => decide (c.2.1 ≤ (w30 1 1 1 2 0 0 2).tm.nom)) = true)) := by decide +kernel

theorem test_at_30_4 :
    (((w30 0 1 0 3 2 1 2).shaped = true) ∧ ((w30 0 1 0 3 2 1 2).room 40 = true) ∧ (3 < 4) ∧ ((w30 0 1 0 3 2 1 2).lanPort 3 = true) ∧ ((w30 0 1 0 3 2 1 2).pending = []) ∧ ((w30 0 1 0 3 2 1 2).pwr.unpowered = false) ∧ ((w30 0 1 0 3 2 1 2).crs.arms = []) ∧ ((w30 0 1 0 3 2 1 2).crs.decisions = []) ∧ ((w30 0 1 0 3 2 1 2).prt.jobs = []) ∧ (((w30 0 1 0 3 2 1 2).prt.comp.all fun x => x.rise.isNone) = true) ∧ (txNext ((w30 0 1 0 3 2 1 2).ptx 3).wait = some (({ prio := 1, fc := 4, k := 1, what := TxFrame.forward [0x01#8, 0x02#8], tag := none, stamp := none } : TxWait), ([{ prio := 5, fc := 3, k := 0, what := TxFrame.prpSupervision, tag := none, stamp := none }, { prio := 1, fc := 4, k := 2, what := TxFrame.prpSupervision, tag := none, stamp := none }] : List TxWait))) ∧ (((w30 0 1 0 3 2 1 2).ptx 3).cur = some (({ prio := 5, fc := 3, k := 0, what := TxFrame.prpSupervision, tag := none, stamp := none }, 1180591620717411303433, none) : TxWait × Nat × Option TxStamp)) ∧ ((w30 0 1 0 3 2 1 2).tm.nom < (({ prio := 5, fc := 3, k := 0, what := TxFrame.prpSupervision, tag := none, stamp := none }, 1180591620717411303433, none) : TxWait × Nat × Option TxStamp).2.1) ∧ (({ prio := 1, fc := 4, k := 1, what := TxFrame.forward [0x01#8, 0x02#8], tag := none, stamp := none } : TxWait).prio = 1) ∧ (3 ≤ (({ prio := 5, fc := 3, k := 0, what := TxFrame.prpSupervision, tag := none, stamp := none }, 1180591620717411303433, none) : TxWait × Nat × Option TxStamp).1.prio)) := by decide +kernel

theorem test_at_30_5 :
    (((w30 1 1 1 2 0 0 2).shaped = true) ∧ ((w30 1 1 1 2 0 0 2).room 40 = true) ∧ (60 ≤ 372) ∧ (372 ≤ 1518) ∧ ((w30 1 1 1 2 0 0 2).dmaRuns 3 = true) ∧ (bits ({ ctl := 0xc0000004#32, host := 308, modul := 0x64000020#32, data := [0x01#8, 0x40#8, 0xf8#8, 0x00#8], hostErr := false } : Descriptor).modul.toNat 2 0 ≤ 3)) := by decide +kernel

theorem test_met_StationPortsTakeAndSendFrames :
    (∃ (s : State) (p : Nat) (m : Nat) (q : Nat) (g : Option (Nat × Nat)), (s.shaped = true) ∧ (s.room 40 = true) ∧ (p < 4) ∧ (s.lanPort p = false)) ∧
    (∃ (s : State) (p : Nat) (m : Nat) (q : Nat), (s.shaped = true) ∧ (s.room 40 = true) ∧ (p < 4) ∧ (s.lanPort p = true) ∧ (s.pairPort p = false)) ∧
    (∃ (s : State) (p : Nat) (m : Nat) (q : Nat), (s.shaped = true) ∧ (s.room 40 = true) ∧ (p < 4) ∧ (s.lanPort p = true) ∧ (s.pairPort p = true) ∧ ((s.eth.dup.any fun e => e.mac == m && e.seq == q && !s.expired e.at_ 400000000) = true)) ∧
    (∃ (s : State) (p : Nat) (m : Nat) (q : Nat), (s.shaped = true) ∧ (s.room 40 = true) ∧ (p < 4) ∧ (s.lanPort p = true) ∧ (s.pairPort p = true) ∧ ((s.eth.dup.any fun e => e.mac == m && e.seq == q && !s.expired e.at_ 400000000) = false)) ∧
    (∃ (s : State) (p : Nat) (m : Nat) (q : Nat) (raw : Nat) (bs : List Byte) (d : Descriptor) (dst : Nat), (s.shaped = true) ∧ (s.room 40 = true) ∧ (p < 4) ∧ (s.lanPort p = true) ∧ (s.hostDst p dst = false)) ∧
    (∃ (s : State) (p : Nat) (m : Nat) (q : Nat) (raw : Nat) (bs : List Byte) (d : Descriptor), (s.shaped = true) ∧ (s.room 40 = true) ∧ (p < 4) ∧ (s.lanPort p = true) ∧ (s.dmaRuns 2 = false)) ∧
    (∃ (s : State) (p : Nat) (m : Nat) (q : Nat) (raw : Nat) (bs : List Byte) (d : Descriptor) (x : Descriptor), (x = { d with ctl := BitVec.ofNat 32 (2 ^ 31 + 2048), hostErr := false, host := d.host / 4 * 4 }) ∧ (s.shaped = true) ∧ (s.room 40 = true) ∧ (p < 4) ∧ (s.lanPort p = true) ∧ (s.dmaRuns 2 = true) ∧ (bs.length ≤ 2048)) ∧
    (∃ (s : State) (p : Nat) (m : Nat) (q : Nat) (bs : List Byte) (src : Nat), (s.shaped = true) ∧ (s.room 40 = true) ∧ (p < 4) ∧ (s.lanPort p = false ∨ s.getF (Reg.ETH_P_CFG_ROLE p) ≠ 3 ∨ s.lanPort (1 - p) = false ∨ src = s.portMac 0 ∨ src = s.portMac 1 ∨ beNat (bs.take 6) = s.portMac p)) ∧
    (∃ (s : State) (p : Nat) (m : Nat) (q : Nat) (bs : List Byte) (src : Nat), (s.shaped = true) ∧ (s.room 40 = true) ∧ (p < 4) ∧ (p < 2) ∧ (s.lanPort p = true) ∧ (s.getF (Reg.ETH_P_CFG_ROLE p) = 3) ∧ (s.lanPort (1 - p) = true) ∧ (src ≠ s.portMac 0) ∧ (src ≠ s.portMac 1) ∧ (beNat (bs.take 6) ≠ s.portMac p)) ∧
    (∃ (s : State) (p : Nat) (m : Nat) (q : Nat), (s.shaped = true) ∧ (s.room 40 = true) ∧ (p < 4) ∧ (s.linkBit p = false)) ∧
    (∃ (s : State) (p : Nat) (m : Nat) (q : Nat), (s.shaped = true) ∧ (s.room 40 = true) ∧ (p < 4) ∧ (s.linkBit p = true)) ∧
    (∃ (s : State) (p : Nat) (m : Nat) (q : Nat), (s.shaped = true) ∧ (s.room 40 = true) ∧ (p < 4) ∧ (s.getF (Reg.ETH_P_CFG_ROLE p) ≠ 0) ∧ (s.flag (Reg.ETH_P_STAT_SHED p) = false) ∧ (s.on (secEth p) = true) ∧ (s.linkBit p = false)) ∧
    (∃ (s : State) (ps : List Nat), (ps = ((s.txPorts 0).filter fun p => s.pairPort p)) ∧ (s.shaped = true) ∧ (s.room 40 = true) ∧ (ps = [] ∨ s.tm.runt < s.eth.superv + 2000 * ms32)) ∧
    (∃ (s : State) (ps : List Nat), (ps = ((s.txPorts 0).filter fun p => s.pairPort p)) ∧ (s.shaped = true) ∧ (s.room 40 = true) ∧ (ps ≠ []) ∧ (s.eth.superv + 2000 * ms32 ≤ s.tm.runt)) ∧
    (∃ (s : State) (p : Nat) (w : TxWait) (r : List TxWait), (s.shaped = true) ∧ (s.room 40 = true) ∧ (p < 4) ∧ (s.lanPort p = true) ∧ (s.pending = []) ∧ (s.pwr.unpowered = false) ∧ (s.crs.arms = []) ∧ (s.crs.decisions = []) ∧ (s.prt.jobs = []) ∧ ((s.prt.comp.all fun x => x.rise.isNone) = true) ∧ (txNext (s.ptx p).wait = some (w, r)) ∧ (((s.ptx p).cur.all fun c => decide (c.2.1 ≤ s.tm.nom)) = true)) ∧
    (∃ (s : State) (p : Nat) (w : TxWait) (r : List TxWait) (c : TxWait × Nat × Option TxStamp), (s.shaped = true) ∧ (s.room 40 = true) ∧ (p < 4) ∧ (s.lanPort p = true) ∧ (s.pending = []) ∧ (s.pwr.unpowered = false) ∧ (s.crs.arms = []) ∧ (s.crs.decisions = []) ∧ (s.prt.jobs = []) ∧ ((s.prt.comp.all fun x => x.rise.isNone) = true) ∧ (txNext (s.ptx p).wait = some (w, r)) ∧ ((s.ptx p).cur = some c) ∧ (s.tm.nom < c.2.1) ∧ (w.prio ≠ 1 ∨ c.1.prio < 3)) ∧
    (∃ (s : State) (p : Nat) (w : TxWait) (r : List TxWait) (c : TxWait × Nat × Option TxStamp), (s.shaped = true) ∧ (s.room 40 = true) ∧ (p < 4) ∧ (s.lanPort p = true) ∧ (s.pending = []) ∧ (s.pwr.unpowered = false) ∧ (s.crs.arms = []) ∧ (s.crs.decisions = []) ∧ (s.prt.jobs = []) ∧ ((s.prt.comp.all fun x => x.rise.isNone) = true) ∧ (txNext (s.ptx p).wait = some (w, r)) ∧ ((s.ptx p).cur = some c) ∧ (s.tm.nom < c.2.1) ∧ (w.prio = 1) ∧ (3 ≤ c.1.prio)) ∧
    (∃ (s : State) (d : Descriptor), (s.shaped = true) ∧ (s.room 40 = true) ∧ (s.dmaRuns 3 = false)) ∧
    (∃ (s : State) (d : Descriptor) (n : Nat) (x : Descriptor) (ps : List Nat), (x = { d with ctl := BitVec.ofNat 32 (2 ^ 31 + n), host := d.host / 4 * 4, hostErr := false }) ∧ (ps = s.txPorts (bits d.modul.toNat 2 0)) ∧ (s.shaped = true) ∧ (s.room 40 = true) ∧ (60 ≤ n) ∧ (n ≤ 1518) ∧ (s.dmaRuns 3 = true) ∧ (bits d.modul.toNat 2 0 ≤ 3)) :=
  ⟨⟨w30 1 1 1 2 0 0 2, 2, 4194588, 15, some (13088, 16384), test_at_30_0.1⟩,
   ⟨w30 1 1 1 2 0 0 2, 3, 2162992, 16, test_at_30_0.2.1⟩,
   ⟨w30 0 1 0 3 2 1 2, 1, 0, 0, test_at_30_1.1⟩,
   ⟨w30 1 1 1 2 0 0 2, 1, 8, 10, test_at_30_0.2.2.1⟩,
   ⟨w30 1 1 1 2 0 0 2, 3, 3883042144, 11142428484013612674, 166, [0x36#8, 0x07#8, 0x00#8, 0x01#8, 0x01#8], { ctl := 0x90000008#32, host := 2964, modul := 0x6400000c#32, data := [0x8d#8, 0x00#8, 0x01#8, 0x01#8, 0x9f#8, 0xe0#8, 0x00#8, 0x00#8], hostErr := false }, 36125, test_at_30_0.2.2.2.1⟩,
   ⟨w30 0 0 1 0 4 0 0, 2, 1584078049, 0, 0, [0x20#8, 0x14#8], { ctl := 0xd000000c#32, host := 328, modul := 0x64000034#32, data := [0x02#8, 0x01#8, 0x00#8, 0x00#8, 0x03#8, 0xaf#8, 0x49#8, 0x03#8, 0x08#8, 0x14#8, 0x04#8, 0x03#8], hostErr := false }, test_at_30_2.1⟩,
   ⟨w30 1 1 1 2 0 0 2, 3, 134217728, 3635, 9, [0x41#8, 0x34#8], { ctl := 0x00000040#32, host := 26606, modul := 0x0000003f#32, data := [0x05#8, 0xf7#8], hostErr := false }, _, rfl, test_at_30_0.2.2.2.2.1⟩,
   ⟨w30 1 1 1 2 0 0 2, 2, 30, 1049312, [0x03#8], 605, test_at_30_0.2.2.2.2.2.1⟩,
   ⟨w30 1 1 1 2 0 0 2, 1, 4745849316296047779, 0, [0x03#8, 0x01#8, 0x00#8], 1, test_at_30_3.1⟩,
   ⟨w30 1 1 1 2 0 0 2, 2, 0, 4194005, test_at_30_0.2.2.2.2.2.2⟩,
   ⟨w30 1 1 1 2 0 0 2, 1, 1, 44, test_at_30_3.2.1⟩,
   ⟨w30 1 1 1 2 0 0 2, 2, 4194731, 11, test_at_30_3.2.2.1⟩,
   ⟨w30 0 1 0 3 2 1 2, _, rfl, test_at_30_1.2.1⟩,
   ⟨w30 1 1 1 2 0 0 2, _, rfl, test_at_30_3.2.2.2.1⟩,
   ⟨w30 1 1 1 2 0 0 2, 1, { prio := 3, fc := 4, k := 1, what := TxFrame.forward [0x01#8, 0x02#8], tag := none, stamp := none }, [{ prio := 5, fc := 3, k := 0, what := TxFrame.prpSupervision, tag := none, stamp := none }, { prio := 3, fc := 4, k := 2, what := TxFrame.prpSupervision, tag := none, stamp := none }], test_at_30_3.2.2.2.2⟩,
   ⟨w30 0 1 0 3 2 1 2, 0, { prio := 1, fc := 4, k := 1, what := TxFrame.forward [0x01#8, 0x02#8], tag := none, stamp := none }, [{ prio := 5, fc := 3, k := 0, what := TxFrame.prpSupervision, tag := none, stamp := none }, { prio := 1, fc := 4, k := 2, what := TxFrame.prpSupervision, tag := none, stamp := none }], ({ prio := 2, fc := 3, k := 0, what := TxFrame.prpSupervision, tag := none, stamp := none }, 1180591620717411303433, none), test_at_30_1.2.2⟩,
   ⟨w30 0 1 0 3 2 1 2, 3, { prio := 1, fc := 4, k := 1, what := TxFrame.forward [0x01#8, 0x02#8], tag := none, stamp := none }, [{ prio := 5, fc := 3, k := 0, what := TxFrame.prpSupervision, tag := none, stamp := none }, { prio := 1, fc := 4, k := 2, what := TxFrame.prpSupervision, tag := none, stamp := none }], ({ prio := 5, fc := 3, k := 0, what := TxFrame.prpSupervision, tag := none, stamp := none }, 1180591620717411303433, none), test_at_30_4⟩,
   ⟨w30 0 0 1 0 4 0 0, { ctl := 0x9000000c#32, host := 2160, modul := 0x64000004#32, data := [0x28#8, 0x06#8, 0x2a#8, 0x01#8, 0x0a#8, 0x62#8, 0x08#8, 0xc0#8, 0x05#8, 0xdc#8, 0xa8#8, 0x00#8], hostErr := false }, test_at_30_2.2⟩,
   ⟨w30 1 1 1 2 0 0 2, { ctl := 0xc0000004#32, host := 308, modul := 0x64000020#32, data := [0x01#8, 0x40#8, 0xf8#8, 0x00#8], hostErr := false }, 372, _, _, rfl, rfl, test_at_30_5⟩⟩

/-- States for the statement GooseAndSampledValues. -/
def w31 (z x0 x1 x2 x3 x4 x5 : Nat) : State :=
  let s := wBase z
  let b : Nat := x0
  let c : Nat := x1
  let d : Nat := x2
  let e : Nat := x3
  let h : Nat := x4
  let s := levels (onAll s) .operate
  let s := { s with tm := { s.tm with nom := 2 ^ 70, runt := 2 ^ 70, time := 2 ^ 75 + 2 ^ 62 * d }, pwr := { s.pwr with unpowered := false }, streams := [] }
  let role : Nat := [1, 2, 3, 0].getD x5 0
  let s := (List.range 4).foldl (fun (s : State) p => (((s.setF (Reg.ETH_P_STAT_LINK p) (if e = 0 && p = d then 0 else 1)).setF (Reg.ETH_P_STAT_SHED p) 0).setF (Reg.ETH_P_CFG_ROLE p) (if p < 2 then role else 1)).setF (Reg.ETH_P_CFG_GPASS p) 0) s
  let s := (s.setF Reg.WYT_CFG_EN (if e = 3 then 1 else 0)).setF Reg.WYT_STAT_ROLE 2
  let s := ([0, 1, 2, 31] : List Nat).foldl (fun (s : State) k => ((((s.wr (Reg.ETH_GP_CFG k) ((if c = 0 then 0 else 2 ^ 31) + (if b = 0 then 2 ^ 29 else 0) + 0x0805)).setF (Reg.ETH_GP_INT_TMIN k) 5).setF (Reg.ETH_GP_INT_TMAX k) 100).wr (Reg.ETH_GP_SQ k) (if d = 0 then 2 ^ 32 - 1 else d))) s
  let s := ([0, 1, 2, 127] : List Nat).foldl (fun (s : State) k => ((s.wr (Reg.ETH_GS_CFG k) ((if c = 0 then 0 else 2 ^ 31) + (if b = 0 then 2 ^ 29 else 0) + (if h = 0 then 2 ^ 30 else 0))).wr (Reg.ETH_GS_CONFREV k) (d % 2)).wr (Reg.ETH_GS_STAT k) (if h = 1 then 0xFFFFFFFF else 0)) s
  let s := ([0, 1, 2, 7] : List Nat).foldl (fun (s : State) k => (((((s.wr (Reg.ETH_SVS_CFG k) ((if c = 0 then 0 else 2 ^ 31) + (if b = 0 then 2 ^ 30 else 0))).wr (Reg.ETH_SVS_DLY k) (if h = 0 then 0 else 1000000)).wr (Reg.ETH_SVS_STAT k) 5).wr (Reg.ETH_SVP_CFG k) ((if c = 0 then 0 else 2 ^ 31) + (if b = 0 then 2 ^ 30 else 0) + 5)).wr (Reg.ETH_SVP_SRC_0 k) 0x01000100).wr (Reg.ETH_SVP_SRC_0 k + 4) 0) s
  let rate := svRate (b == 0)
  let now := s.tw * rate / sec16
  let s := { s with flt := { s.flt with ch := s.flt.ch.map fun (x : FltCh) => { x with bOut := if e = 2 then [] else (List.range 6).map fun i => (2 ^ 100 - i, (⟨5, 0, false, i == 3, false, false⟩ : Sample)) } }, eth := { s.eth with dup := [], gs := s.eth.gs.mapIdx fun _ (_ : GsSt) => GsSt.mk (if d = 1 then 2 ^ 70 else 0) 100 0 0 (d != 2), gp := s.eth.gp.map fun (_ : GpSt) => GpSt.mk 77 (2 ^ 50) 3 (if d = 3 then none else some (if e = 1 then 2 ^ 71 else 2 ^ 69)) 64 [], svp := s.eth.svp.map fun _ => if d = 2 then now + 50 else now - 10, svs := s.eth.svs.map fun _ => if d = 0 then none else if d = 1 then some (now - 3) else some (now / rate * rate) } }
  s

theorem test_at_31_0 :
    (((w31 3 1 2 1 4 0 0).shaped = true) ∧ ((w31 3 1 2 1 4 0 0).room 40 = true) ∧ (18 < 32) ∧ (((w31 3 1 2 1 4 0 0).gp 18).next = none ∨ (w31 3 1 2 1 4 0 0).flag (Reg.ETH_GP_CFG_EN 18) = false ∨ (w31 3 1 2 1 4 0 0).standby = true)) ∧
    (((w31 3 1 2 1 4 0 0).shaped = true) ∧ ((w31 3 1 2 1 4 0 0).room 40 = true) ∧ (31 < 32) ∧ (((w31 3 1 2 1 4 0 0).gp 31).next = some 590295810358705651712) ∧ (590295810358705651712 ≤ (w31 3 1 2 1 4 0 0).tm.runt) ∧ ((w31 3 1 2 1 4 0 0).flag (Reg.ETH_GP_CFG_EN 31) = true) ∧ ((w31 3 1 2 1 4 0 0).standby = false) ∧ ((w31 3 1 2 1 4 0 0).ethOn = true)) ∧
    (((w31 3 1 2 1 4 0 0).shaped = true) ∧ ((w31 3 1 2 1 4 0 0).room 40 = true) ∧ (2 < 4) ∧ (77 < 128) ∧ ((w31 3 1 2 1 4 0 0).flag (Reg.ETH_GS_CFG_EN 77) = false ∨ (w31 3 1 2 1 4 0 0).lanPort 2 = false)) ∧
    (((w31 3 1 2 1 4 0 0).shaped = true) ∧ ((w31 3 1 2 1 4 0 0).room 40 = true) ∧ (1 < 4) ∧ (127 < 128) ∧ ((w31 3 1 2 1 4 0 0).flag (Reg.ETH_GS_CFG_EN 127) = true) ∧ ((w31 3 1 2 1 4 0 0).lanPort 1 = true) ∧ ((w31 3 1 2 1 4 0 0).flag (Reg.ETH_P_CFG_GPASS 1) = false) ∧ ((w31 3 1 2 1 4 0 0).rd (Reg.ETH_GS_CONFREV 127) ≠ ({ sub := 327868060, confRev := 0, simulation := false, stNum := 1, sqNum := 0, ttl := 10, members := 1 } : GooseFrame).confRev)) ∧
    (((w31 3 1 2 1 4 0 0).shaped = true) ∧ ((w31 3 1 2 1 4 0 0).room 40 = true) ∧ (3 < 4) ∧ (127 < 128) ∧ ((w31 3 1 2 1 4 0 0).flag (Reg.ETH_GS_CFG_EN 127) = true) ∧ ((w31 3 1 2 1 4 0 0).lanPort 3 = true) ∧ ((w31 3 1 2 1 4 0 0).flag (Reg.ETH_P_CFG_GPASS 3) = false) ∧ ((w31 3 1 2 1 4 0 0).rd (Reg.ETH_GS_CONFREV 127) = ({ sub := 65856, confRev := 1, simulation := false, stNum := 0, sqNum := 0, ttl := 164, members := 3207931285 } : GooseFrame).confRev) ∧ (({ sub := 65856, confRev := 1, simulation := false, stNum := 0, sqNum := 0, ttl := 164, members := 3207931285 } : GooseFrame).simulation = false ∨ (w31 3 1 2 1 4 0 0).flag (Reg.ETH_GS_CFG_SIM 127) = true) ∧ (((w31 3 1 2 1 4 0 0).gs 127).heard = true) ∧ (((w31 3 1 2 1 4 0 0).gs 127).st = ({ sub := 65856, confRev := 1, simulation := false, stNum := 0, sqNum := 0, ttl := 164, members := 3207931285 } : GooseFrame).stNum) ∧ (((w31 3 1 2 1 4 0 0).gs 127).sq = ({ sub := 65856, confRev := 1, simulation := false, stNum := 0, sqNum := 0, ttl := 164, members := 3207931285 } : GooseFrame).sqNum)) := by decide +kernel

theorem test_at_31_1 :
    (((w31 1 0 2 0 1 2 0).shaped = true) ∧ ((w31 1 0 2 0 1 2 0).room 40 = true) ∧ (15 < 32) ∧ (((w31 1 0 2 0 1 2 0).gp 15).next = some 2361183241434822606848) ∧ ((w31 1 0 2 0 1 2 0).tm.runt < 2361183241434822606848)) ∧
    (((w31 1 0 2 0 1 2 0).shaped = true) ∧ ((w31 1 0 2 0 1 2 0).room 40 = true) ∧ (3 < 4) ∧ (127 < 128) ∧ ((w31 1 0 2 0 1 2 0).flag (Reg.ETH_GS_CFG_EN 127) = true) ∧ ((w31 1 0 2 0 1 2 0).lanPort 3 = true) ∧ ((w31 1 0 2 0 1 2 0).flag (Reg.ETH_P_CFG_GPASS 3) = false) ∧ ((w31 1 0 2 0 1 2 0).rd (Reg.ETH_GS_CONFREV 127) = ({ sub := 1, confRev := 0, simulation := true, stNum := 0, sqNum := 0, ttl := 273, members := 3 } : GooseFrame).confRev) ∧ (({ sub := 1, confRev := 0, simulation := true, stNum := 0, sqNum := 0, ttl := 273, members := 3 } : GooseFrame).simulation = true) ∧ ((w31 1 0 2 0 1 2 0).flag (Reg.ETH_GS_CFG_SIM 127) = false)) ∧
    (((w31 1 0 2 0 1 2 0).shaped = true) ∧ ((w31 1 0 2 0 1 2 0).room 40 = true) ∧ (127 < 128) ∧ (((((w31 1 0 2 0 1 2 0).gs 127).heard && (w31 1 0 2 0 1 2 0).ethOn && (w31 1 0 2 0 1 2 0).flag (Reg.ETH_GS_CFG_EN 127) && !(w31 1 0 2 0 1 2 0).flag (Reg.ETH_GS_STAT_STALE 127) && (w31 1 0 2 0 1 2 0).expired ((w31 1 0 2 0 1 2 0).gs 127).at_ (((w31 1 0 2 0 1 2 0).gs 127).ttl * 1000000) && !(w31 1 0 2 0 1 2 0).gooseComes 127)) = true)) ∧
    (((w31 1 0 2 0 1 2 0).shaped = true) ∧ ((w31 1 0 2 0 1 2 0).room 40 = true) ∧ (3 < 8) ∧ ((w31 1 0 2 0 1 2 0).eth.svs.getD 3 none = none)) := by decide +kernel

theorem test_at_31_2 :
    (((w31 3 1 2 1 4 0 0).shaped = true) ∧ ((w31 3 1 2 1 4 0 0).room 40 = true) ∧ (3 < 4) ∧ (127 < 128) ∧ ((w31 3 1 2 1 4 0 0).flag (Reg.ETH_GS_CFG_EN 127) = true) ∧ ((w31 3 1 2 1 4 0 0).lanPort 3 = true) ∧ ((w31 3 1 2 1 4 0 0).flag (Reg.ETH_P_CFG_GPASS 3) = false) ∧ ((w31 3 1 2 1 4 0 0).rd (Reg.ETH_GS_CONFREV 127) = ({ sub := 54995, confRev := 1, simulation := true, stNum := 1, sqNum := 1, ttl := 59, members := 1 } : GooseFrame).confRev) ∧ (({ sub := 54995, confRev := 1, simulation := true, stNum := 1, sqNum := 1, ttl := 59, members := 1 } : GooseFrame).simulation = false ∨ (w31 3 1 2 1 4 0 0).flag (Reg.ETH_GS_CFG_SIM 127) = true) ∧ (((w31 3 1 2 1 4 0 0).gs 127).heard = false ∨ ((w31 3 1 2 1 4 0 0).gs 127).st ≠ ({ sub := 54995, confRev := 1, simulation := true, stNum := 1, sqNum := 1, ttl := 59, members := 1 } : GooseFrame).stNum ∨ ((w31 3 1 2 1 4 0 0).gs 127).sq ≠ ({ sub := 54995, confRev := 1, simulation := true, stNum := 1, sqNum := 1, ttl := 59, members := 1 } : GooseFrame).sqNum)) ∧
    (((w31 3 1 2 1 4 0 0).shaped = true) ∧ ((w31 3 1 2 1 4 0 0).room 40 = true) ∧ (36 < 128) ∧ (((((w31 3 1 2 1 4 0 0).gs 36).heard && (w31 3 1 2 1 4 0 0).ethOn && (w31 3 1 2 1 4 0 0).flag (Reg.ETH_GS_CFG_EN 36) && !(w31 3 1 2 1 4 0 0).flag (Reg.ETH_GS_STAT_STALE 36) && (w31 3 1 2 1 4 0 0).expired ((w31 3 1 2 1 4 0 0).gs 36).at_ (((w31 3 1 2 1 4 0 0).gs 36).ttl * 1000000) && !(w31 3 1 2 1 4 0 0).gooseComes 36)) = false)) ∧
    (((w31 3 1 2 1 4 0 0).shaped = true) ∧ ((w31 3 1 2 1 4 0 0).room 40 = true) ∧ (6 < 8) ∧ ((w31 3 1 2 1 4 0 0).flag (Reg.ETH_SVP_CFG_EN 6) = false ∨ (w31 3 1 2 1 4 0 0).tw < (svTime (svRate ((w31 3 1 2 1 4 0 0).flag (Reg.ETH_SVP_CFG_RATE 6))) (((w31 3 1 2 1 4 0 0).eth.svp.getD 6 0) + svAsdus ((w31 3 1 2 1 4 0 0).flag (Reg.ETH_SVP_CFG_RATE 6)) - 1)) ∨ (((w31 3 1 2 1 4 0 0).svChs 6).all fun c => fourAfter ((w31 3 1 2 1 4 0 0).fch c).bOut ((w31 3 1 2 1 4 0 0).instOf (svTime (svRate ((w31 3 1 2 1 4 0 0).flag (Reg.ETH_SVP_CFG_RATE 6))) (((w31 3 1 2 1 4 0 0).eth.svp.getD 6 0) + svAsdus ((w31 3 1 2 1 4 0 0).flag (Reg.ETH_SVP_CFG_RATE 6)) - 1)))) = false)) ∧
    (((w31 3 1 2 1 4 0 0).shaped = true) ∧ ((w31 3 1 2 1 4 0 0).room 40 = true) ∧ (7 < 8) ∧ ((w31 3 1 2 1 4 0 0).flag (Reg.ETH_SVP_CFG_EN 7) = true) ∧ ((w31 3 1 2 1 4 0 0).ethOn = true) ∧ ((svTime (svRate ((w31 3 1 2 1 4 0 0).flag (Reg.ETH_SVP_CFG_RATE 7))) (((w31 3 1 2 1 4 0 0).eth.svp.getD 7 0) + svAsdus ((w31 3 1 2 1 4 0 0).flag (Reg.ETH_SVP_CFG_RATE 7)) - 1)) ≤ (w31 3 1 2 1 4 0 0).tw) ∧ ((((w31 3 1 2 1 4 0 0).svChs 7).all fun c => fourAfter ((w31 3 1 2 1 4 0 0).fch c).bOut ((w31 3 1 2 1 4 0 0).instOf (svTime (svRate ((w31 3 1 2 1 4 0 0).flag (Reg.ETH_SVP_CFG_RATE 7))) (((w31 3 1 2 1 4 0 0).eth.svp.getD 7 0) + svAsdus ((w31 3 1 2 1 4 0 0).flag (Reg.ETH_SVP_CFG_RATE 7)) - 1)))) = true)) ∧
    (((w31 3 1 2 1 4 0 0).shaped = true) ∧ ((w31 3 1 2 1 4 0 0).room 40 = true) ∧ (6 < 8) ∧ (334 < 4800) ∧ (3 < 4) ∧ ((w31 3 1 2 1 4 0 0).flag (Reg.ETH_SVS_CFG_EN 6) = false ∨ (w31 3 1 2 1 4 0 0).lanPort 3 = false)) ∧
    (((w31 3 1 2 1 4 0 0).shaped = true) ∧ ((w31 3 1 2 1 4 0 0).room 40 = true) ∧ (3 < 8) ∧ ((w31 3 1 2 1 4 0 0).eth.svs.getD 3 none = some 42226397) ∧ ((((w31 3 1 2 1 4 0 0).flag (Reg.ETH_SVS_CFG_EN 3) && (w31 3 1 2 1 4 0 0).ethOn && decide (svTime (svRate ((w31 3 1 2 1 4 0 0).flag (Reg.ETH_SVS_CFG_RATE 3))) 42226397 + (w31 3 1 2 1 4 0 0).rd (Reg.ETH_SVS_DLY 3) * 2 ^ 16 < (w31 3 1 2 1 4 0 0).tw))) = false)) := by decide +kernel

theorem test_at_31_3 :
    (((w31 3 1 2 1 4 0 0).shaped = true) ∧ ((w31 3 1 2 1 4 0 0).room 40 = true) ∧ (7 < 8) ∧ (4799 < 4800) ∧ (3 < 4) ∧ ((w31 3 1 2 1 4 0 0).flag (Reg.ETH_SVS_CFG_EN 7) = true) ∧ ((w31 3 1 2 1 4 0 0).lanPort 3 = true) ∧ ((w31 3 1 2 1 4 0 0).eth.svs.getD 7 none = some 42226397) ∧ (((w31 3 1 2 1 4 0 0).svIndex (svRate ((w31 3 1 2 1 4 0 0).flag (Reg.ETH_SVS_CFG_RATE 7))) 4799) < 42226397)) ∧
    (((w31 3 1 2 1 4 0 0).shaped = true) ∧ ((w31 3 1 2 1 4 0 0).room 40 = true) ∧ (2 < 8) ∧ (1547 < 4800) ∧ (1 < 4) ∧ ((w31 3 1 2 1 4 0 0).flag (Reg.ETH_SVS_CFG_EN 2) = true) ∧ ((w31 3 1 2 1 4 0 0).lanPort 1 = true) ∧ ((w31 3 1 2 1 4 0 0).eth.svs.getD 2 none = some 42226397) ∧ (42226397 ≤ ((w31 3 1 2 1 4 0 0).svIndex (svRate ((w31 3 1 2 1 4 0 0).flag (Reg.ETH_SVS_CFG_RATE 2))) 1547))) ∧
    (((w31 3 1 2 1 4 0 0).shaped = true) ∧ ((w31 3 1 2 1 4 0 0).room 40 = true) ∧ (1 < 8) ∧ ((w31 3 1 2 1 4 0 0).eth.svs.getD 1 none = some 42226397) ∧ ((((w31 3 1 2 1 4 0 0).flag (Reg.ETH_SVS_CFG_EN 1) && (w31 3 1 2 1 4 0 0).ethOn && decide (svTime (svRate ((w31 3 1 2 1 4 0 0).flag (Reg.ETH_SVS_CFG_RATE 1))) 42226397 + (w31 3 1 2 1 4 0 0).rd (Reg.ETH_SVS_DLY 1) * 2 ^ 16 < (w31 3 1 2 1 4 0 0).tw))) = true)) := by decide +kernel

theorem test_met_GooseAndSampledValues :
    (∃ (s : State) (k : Nat), (s.shaped = true) ∧ (s.room 40 = true) ∧ (k < 32) ∧ ((s.gp k).next = none ∨ s.flag (Reg.ETH_GP_CFG_EN k) = false ∨ s.standby = true)) ∧
    (∃ (s : State) (k : Nat) (x : Nat), (s.shaped = true) ∧ (s.room 40 = true) ∧ (k < 32) ∧ ((s.gp k).next = some x) ∧ (s.tm.runt < x)) ∧
    (∃ (s : State) (k : Nat) (x : Nat) (i : Nat) (q : Nat), (i = min (2 * (s.gp k).interval) (s.getF (Reg.ETH_GP_INT_TMAX k))) ∧ (q = (if s.rd (Reg.ETH_GP_SQ k) = 2 ^ 32 - 1 then 1 else s.rd (Reg.ETH_GP_SQ k) + 1)) ∧ (s.shaped = true) ∧ (s.room 40 = true) ∧ (k < 32) ∧ ((s.gp k).next = some x) ∧ (x ≤ s.tm.runt) ∧ (s.flag (Reg.ETH_GP_CFG_EN k) = true) ∧ (s.standby = false) ∧ (s.ethOn = true)) ∧
    (∃ (s : State) (p : Nat) (f : GooseFrame) (k : Nat) (raw : Nat) (bs : List Byte) (d : Descriptor) (g : GooseFrame), (g = { f with sub := k }) ∧ (s.shaped = true) ∧ (s.room 40 = true) ∧ (p < 4) ∧ (k < 128) ∧ (s.flag (Reg.ETH_GS_CFG_EN k) = false ∨ s.lanPort p = false)) ∧
    (∃ (s : State) (p : Nat) (f : GooseFrame) (k : Nat) (raw : Nat) (bs : List Byte) (d : Descriptor) (g : GooseFrame), (g = { f with sub := k }) ∧ (s.shaped = true) ∧ (s.room 40 = true) ∧ (p < 4) ∧ (k < 128) ∧ (s.flag (Reg.ETH_GS_CFG_EN k) = true) ∧ (s.lanPort p = true) ∧ (s.flag (Reg.ETH_P_CFG_GPASS p) = false) ∧ (s.rd (Reg.ETH_GS_CONFREV k) ≠ f.confRev)) ∧
    (∃ (s : State) (p : Nat) (f : GooseFrame) (k : Nat) (raw : Nat) (bs : List Byte) (d : Descriptor) (g : GooseFrame), (g = { f with sub := k }) ∧ (s.shaped = true) ∧ (s.room 40 = true) ∧ (p < 4) ∧ (k < 128) ∧ (s.flag (Reg.ETH_GS_CFG_EN k) = true) ∧ (s.lanPort p = true) ∧ (s.flag (Reg.ETH_P_CFG_GPASS p) = false) ∧ (s.rd (Reg.ETH_GS_CONFREV k) = f.confRev) ∧ (f.simulation = true) ∧ (s.flag (Reg.ETH_GS_CFG_SIM k) = false)) ∧
    (∃ (s : State) (p : Nat) (f : GooseFrame) (k : Nat) (raw : Nat) (bs : List Byte) (d : Descriptor) (g : GooseFrame), (g = { f with sub := k }) ∧ (s.shaped = true) ∧ (s.room 40 = true) ∧ (p < 4) ∧ (k < 128) ∧ (s.flag (Reg.ETH_GS_CFG_EN k) = true) ∧ (s.lanPort p = true) ∧ (s.flag (Reg.ETH_P_CFG_GPASS p) = false) ∧ (s.rd (Reg.ETH_GS_CONFREV k) = f.confRev) ∧ (f.simulation = false ∨ s.flag (Reg.ETH_GS_CFG_SIM k) = true) ∧ ((s.gs k).heard = true) ∧ ((s.gs k).st = f.stNum) ∧ ((s.gs k).sq = f.sqNum)) ∧
    (∃ (s : State) (p : Nat) (f : GooseFrame) (k : Nat) (raw : Nat) (bs : List Byte) (d : Descriptor) (g : GooseFrame), (g = { f with sub := k }) ∧ (s.shaped = true) ∧ (s.room 40 = true) ∧ (p < 4) ∧ (k < 128) ∧ (s.flag (Reg.ETH_GS_CFG_EN k) = true) ∧ (s.lanPort p = true) ∧ (s.flag (Reg.ETH_P_CFG_GPASS p) = false) ∧ (s.rd (Reg.ETH_GS_CONFREV k) = f.confRev) ∧ (f.simulation = false ∨ s.flag (Reg.ETH_GS_CFG_SIM k) = true) ∧ ((s.gs k).heard = false ∨ (s.gs k).st ≠ f.stNum ∨ (s.gs k).sq ≠ f.sqNum)) ∧
    (∃ (s : State) (k : Nat) (due : Bool), (due = ((s.gs k).heard && s.ethOn && s.flag (Reg.ETH_GS_CFG_EN k) && !s.flag (Reg.ETH_GS_STAT_STALE k) && s.expired (s.gs k).at_ ((s.gs k).ttl * 1000000) && !s.gooseComes k)) ∧ (s.shaped = true) ∧ (s.room 40 = true) ∧ (k < 128) ∧ (due = false)) ∧
    (∃ (s : State) (k : Nat) (due : Bool), (due = ((s.gs k).heard && s.ethOn && s.flag (Reg.ETH_GS_CFG_EN k) && !s.flag (Reg.ETH_GS_STAT_STALE k) && s.expired (s.gs k).at_ ((s.gs k).ttl * 1000000) && !s.gooseComes k)) ∧ (s.shaped = true) ∧ (s.room 40 = true) ∧ (k < 128) ∧ (due = true)) ∧
    (∃ (s : State) (k : Nat) (fast : Bool) (i : Nat) (last : Nat), (fast = s.flag (Reg.ETH_SVP_CFG_RATE k)) ∧ (i = s.eth.svp.getD k 0) ∧ (last = svTime (svRate fast) (i + svAsdus fast - 1)) ∧ (s.shaped = true) ∧ (s.room 40 = true) ∧ (k < 8) ∧ (s.flag (Reg.ETH_SVP_CFG_EN k) = false ∨ s.tw < last ∨ ((s.svChs k).all fun c => fourAfter (s.fch c).bOut (s.instOf last)) = false)) ∧
    (∃ (s : State) (k : Nat) (fast : Bool) (i : Nat) (last : Nat), (fast = s.flag (Reg.ETH_SVP_CFG_RATE k)) ∧ (i = s.eth.svp.getD k 0) ∧ (last = svTime (svRate fast) (i + svAsdus fast - 1)) ∧ (s.shaped = true) ∧ (s.room 40 = true) ∧ (k < 8) ∧ (s.flag (Reg.ETH_SVP_CFG_EN k) = true) ∧ (s.ethOn = true) ∧ (last ≤ s.tw) ∧ (((s.svChs k).all fun c => fourAfter (s.fch c).bOut (s.instOf last)) = true)) ∧
    (∃ (s : State) (k : Nat) (f : SvFrame) (n : Nat) (vs : List SvValue) (g : SvFrame) (p : Nat), (g = { f with stream := k, samples := [(n, vs)] }) ∧ (s.shaped = true) ∧ (s.room 40 = true) ∧ (k < 8) ∧ (n < 4800) ∧ (p < 4) ∧ (s.flag (Reg.ETH_SVS_CFG_EN k) = false ∨ s.lanPort p = false)) ∧
    (∃ (s : State) (k : Nat) (f : SvFrame) (n : Nat) (vs : List SvValue) (g : SvFrame) (p : Nat) (e : Nat) (idx : Nat) (late : Bool), (g = { f with stream := k, samples := [(n, vs)] }) ∧ (idx = s.svIndex (svRate (s.flag (Reg.ETH_SVS_CFG_RATE k))) n) ∧ (late = decide (svTime (svRate (s.flag (Reg.ETH_SVS_CFG_RATE k))) idx + s.rd (Reg.ETH_SVS_DLY k) * 2 ^ 16 < s.tw)) ∧ (s.shaped = true) ∧ (s.room 40 = true) ∧ (k < 8) ∧ (n < 4800) ∧ (p < 4) ∧ (s.flag (Reg.ETH_SVS_CFG_EN k) = true) ∧ (s.lanPort p = true) ∧ (s.eth.svs.getD k none = some e) ∧ (idx < e)) ∧
    (∃ (s : State) (k : Nat) (f : SvFrame) (n : Nat) (vs : List SvValue) (g : SvFrame) (p : Nat) (e : Nat) (idx : Nat) (late : Bool), (g = { f with stream := k, samples := [(n, vs)] }) ∧ (idx = s.svIndex (svRate (s.flag (Reg.ETH_SVS_CFG_RATE k))) n) ∧ (late = decide (svTime (svRate (s.flag (Reg.ETH_SVS_CFG_RATE k))) idx + s.rd (Reg.ETH_SVS_DLY k) * 2 ^ 16 < s.tw)) ∧ (s.shaped = true) ∧ (s.room 40 = true) ∧ (k < 8) ∧ (n < 4800) ∧ (p < 4) ∧ (s.flag (Reg.ETH_SVS_CFG_EN k) = true) ∧ (s.lanPort p = true) ∧ (s.eth.svs.getD k none = some e) ∧ (e ≤ idx)) ∧
    (∃ (s : State) (k : Nat), (s.shaped = true) ∧ (s.room 40 = true) ∧ (k < 8) ∧ (s.eth.svs.getD k none = none)) ∧
    (∃ (s : State) (k : Nat) (e : Nat) (due : Bool), (due = (s.flag (Reg.ETH_SVS_CFG_EN k) && s.ethOn && decide (svTime (svRate (s.flag (Reg.ETH_SVS_CFG_RATE k))) e + s.rd (Reg.ETH_SVS_DLY k) * 2 ^ 16 < s.tw))) ∧ (s.shaped = true) ∧ (s.room 40 = true) ∧ (k < 8) ∧ (s.eth.svs.getD k none = some e) ∧ (due = false)) ∧
    (∃ (s : State) (k : Nat) (e : Nat) (due : Bool), (due = (s.flag (Reg.ETH_SVS_CFG_EN k) && s.ethOn && decide (svTime (svRate (s.flag (Reg.ETH_SVS_CFG_RATE k))) e + s.rd (Reg.ETH_SVS_DLY k) * 2 ^ 16 < s.tw))) ∧ (s.shaped = true) ∧ (s.room 40 = true) ∧ (k < 8) ∧ (s.eth.svs.getD k none = some e) ∧ (due = true)) :=
  ⟨⟨w31 3 1 2 1 4 0 0, 18, test_at_31_0.1⟩,
   ⟨w31 1 0 2 0 1 2 0, 15, 2361183241434822606848, test_at_31_1.1⟩,
   ⟨w31 3 1 2 1 4 0 0, 31, 590295810358705651712, _, _, rfl, rfl, test_at_31_0.2.1⟩,
   ⟨w31 3 1 2 1 4 0 0, 2, { sub := 174, confRev := 0, simulation := false, stNum := 0, sqNum := 1, ttl := 83, members := 241 }, 77, 3, [0x07#8, 0x00#8, 0x0a#8], { ctl := 0xbc9d0360#32, host := 10, modul := 0x00000d8c#32, data := [0x03#8, 0x18#8, 0x00#8], hostErr := true }, _, rfl, test_at_31_0.2.2.1⟩,
   ⟨w31 3 1 2 1 4 0 0, 1, { sub := 327868060, confRev := 0, simulation := false, stNum := 1, sqNum := 0, ttl := 10, members := 1 }, 127, 3, [0x6c#8, 0x00#8, 0x0c#8, 0xb8#8], { ctl := 0x003ffed2#32, host := 15, modul := 0x00000008#32, data := [], hostErr := false }, _, rfl, test_at_31_0.2.2.2.1⟩,
   ⟨w31 1 0 2 0 1 2 0, 3, { sub := 1, confRev := 0, simulation := true, stNum := 0, sqNum := 0, ttl := 273, members := 3 }, 127, 11, [0x2d#8, 0x01#8], { ctl := 0xd5daea4e#32, host := 4194509, modul := 0xa349c20e#32, data := [], hostErr := true }, _, rfl, test_at_31_1.2.1⟩,
   ⟨w31 3 1 2 1 4 0 0, 3, { sub := 65856, confRev := 1, simulation := false, stNum := 0, sqNum := 0, ttl := 164, members := 3207931285 }, 127, 18372570251632604378, [0x8e#8, 0x00#8, 0x97#8, 0x6d#8], { ctl := 0x004001d2#32, host := 0, modul := 0x0000001e#32, data := [], hostErr := true }, _, rfl, test_at_31_0.2.2.2.2⟩,
   ⟨w31 3 1 2 1 4 0 0, 3, { sub := 54995, confRev := 1, simulation := true, stNum := 1, sqNum := 1, ttl := 59, members := 1 }, 127, 1, [0x0e#8, 0x6c#8], { ctl := 0x80000014#32, host := 3160, modul := 0x64000004#32, data := [0x0b#8, 0x04#8, 0x01#8, 0x32#8, 0x00#8, 0x00#8, 0xed#8, 0x01#8, 0x01#8, 0xcc#8, 0x00#8, 0x11#8, 0xec#8, 0x2a#8, 0xd7#8, 0x01#8, 0x00#8, 0x97#8, 0x06#8, 0x00#8], hostErr := false }, _, rfl, test_at_31_2.1⟩,
   ⟨w31 3 1 2 1 4 0 0, 36, _, rfl, test_at_31_2.2.1⟩,
   ⟨w31 1 0 2 0 1 2 0, 127, _, rfl, test_at_31_1.2.2.1⟩,
   ⟨w31 3 1 2 1 4 0 0, 6, _, _, _, rfl, rfl, rfl, test_at_31_2.2.2.1⟩,
   ⟨w31 3 1 2 1 4 0 0, 7, _, _, _, rfl, rfl, rfl, test_at_31_2.2.2.2.1⟩,
   ⟨w31 3 1 2 1 4 0 0, 6, { stream := 5242892, smpSynch := 6, samples := [(25, [])] }, 334, [{ value := -45, invalid := true, overflow := false, test := true }, { value := 51, invalid := true, overflow := false, test := true }, { value := 10810182548851232648, invalid := true, overflow := false, test := true }, { value := 3255399844, invalid := false, overflow := false, test := true }], _, 3, rfl, test_at_31_2.2.2.2.2.1⟩,
   ⟨w31 3 1 2 1 4 0 0, 7, { stream := 5, smpSynch := 44861, samples := [(1, []), (4194096, [{ value := -4194404, invalid := true, overflow := false, test := false }, { value := -5, invalid := true, overflow := false, test := false }, { value := -1, invalid := false, overflow := false, test := false }]), (25792, [{ value := -178, invalid := false, overflow := false, test := true }]), (14, [{ value := -1, invalid := true, overflow := false, test := false }, { value := -1, invalid := true, overflow := true, test := true }, { value := 17, invalid := true, overflow := false, test := false }, { value := 15079595095608551978, invalid := true, overflow := false, test := false }, { value := 0, invalid := true, overflow := true, test := true }]), (0, [{ value := 15, invalid := false, overflow := true, test := true }, { value := 393708, invalid := false, overflow := true, test := true }, { value := 39596, invalid := true, overflow := false, test := true }, { value := 3, invalid := true, overflow := false, test := false }, { value := -11, invalid := false, overflow := true, test := true }])] }, 4799, [{ value := 24, invalid := true, overflow := true, test := true }, { value := 10, invalid := true, overflow := true, test := true }, { value := 1, invalid := true, overflow := false, test := true }, { value := 4194354, invalid := false, overflow := false, test := true }, { value := 3467423938, invalid := false, overflow := false, test := true }], _, 3, 42226397, _, _, rfl, rfl, rfl, test_at_31_3.1⟩,
   ⟨w31 3 1 2 1 4 0 0, 2, { stream := 2957261206, smpSynch := 1, samples := [(1, [{ value := 3655662131068348992, invalid := true, overflow := false, test := false }, { value := -12582980, invalid := true, overflow := true, test := true }]), (1, [{ value := 33554432, invalid := false, overflow := true, test := true }]), (60, [{ value := 0, invalid := true, overflow := true, test := false }, { value := -4, invalid := false, overflow := true, test := true }, { value := 9, invalid := false, overflow := false, test := true }])] }, 1547, [{ value := 3, invalid := false, overflow := true, test := true }, { value := -13, invalid := false, overflow := true, test := false }, { value := 31, invalid := true, overflow := true, test := false }, { value := -2097152, invalid := false, overflow := false, test := false }, { value := -30, invalid := false, overflow := true, test := true }], _, 1, 42226397, _, _, rfl, rfl, rfl, test_at_31_3.2.1⟩,
   ⟨w31 1 0 2 0 1 2 0, 3, test_at_31_1.2.2.2⟩,
   ⟨w31 3 1 2 1 4 0 0, 3, 42226397, _, rfl, test_at_31_2.2.2.2.2.2⟩,
   ⟨w31 3 1 2 1 4 0 0, 1, 42226397, _, rfl, test_at_31_3.2.2⟩⟩

/-- States for the statement EventsAreTakenInAndDelivered. -/
def w32 (z x0 x1 x2 : Nat) : State :=
  let s := wBase z
  let c : Nat := x0
  let v : Nat := x1
  let q : Nat := x2
  let s := (List.range 4).foldl (fun (s : State) p => s.setF (Reg.EVT_P_CFG_CLASSES p) 15) (onAll s)
  let s := { s with dram := [], tm := { s.tm with runt := 2 ^ 70 }, evt := { s.evt with raised := [⟨7, ⟨v, 3, 0x3005, 0x3001, 0, 0, false, 2, v, 0⟩⟩], hq := if q = 0 then [] else s.evt.hq ++ [⟨v, 3, 0x3005, 0x3001, 0, 0, false, 2, v, 0⟩], refusedNow := c, windowIdx := 0, grouts := (if c = 0 then [] else [⟨1, 2, 5, 0, 6, 7, 8, 9⟩, ⟨0, 2, 5, 0, 6, 7, 8, 9⟩, ⟨2, 3, 5, 0, 6, 7, 8, 9⟩]) } }
  s

theorem test_at_32_0 :
    (((w32 0 1 41 2).shaped = true) ∧ ((w32 0 1 41 2).room 2 = true) ∧ ((w32 0 1 41 2).evt.raised.head? = some ({ fc := 7, ev := { tw := 41, angle := 3, src := 12293, code := 12289, cls := 0, dye := 0, grout := false, epoch := 2, value := 41, seq := 0 } } : EvRaised)) ∧ ((w32 0 1 41 2).evt.raised.length = 1) ∧ (({ fc := 7, ev := { tw := 41, angle := 3, src := 12293, code := 12289, cls := 0, dye := 0, grout := false, epoch := 2, value := 41, seq := 0 } } : EvRaised).ev.cls = 0) ∧ (({ fc := 7, ev := { tw := 41, angle := 3, src := 12293, code := 12289, cls := 0, dye := 0, grout := false, epoch := 2, value := 41, seq := 0 } } : EvRaised).ev.code ≠ 0x9002) ∧ (∀ p, p < 3 → ((w32 0 1 41 2).getF (Reg.EVT_P_CFG_CLASSES p)).testBit 0 = true) ∧ ((w32 0 1 41 2).evt.soe0.length < 4095) ∧ ((w32 0 1 41 2).evt.hq.length < 1024) ∧ ((w32 0 1 41 2).traceBase + (w32 0 1 41 2).rd Reg.EVT_TRC_WRPTR + 32 ≤ (w32 0 1 41 2).dramSize)) ∧
    (((w32 0 1 41 2).shaped = true) ∧ ((w32 0 1 41 2).room 2 = true) ∧ ((w32 0 1 41 2).evt.windowIdx < (w32 0 1 41 2).runNs / windowNs) ∧ ((w32 0 1 41 2).on secEvt = true) ∧ ((w32 0 1 41 2).pwr.unpowered = false)) ∧
    (((w32 0 1 41 2).shaped = true) ∧ ((w32 0 1 41 2).room 2 = true) ∧ ((w32 0 1 41 2).hostUp = true) ∧ ((w32 0 1 41 2).evt.hq.head? = some ({ tw := 41, angle := 3, src := 12293, code := 12289, cls := 0, dye := 0, grout := false, epoch := 2, value := 41, seq := 0 } : EvRec))) := by decide +kernel

theorem test_at_32_1 :
    (((w32 2 2 94 0).shaped = true) ∧ ((w32 2 2 94 0).room 2 = true) ∧ ((w32 2 2 94 0).hostUp = true) ∧ ((w32 2 2 94 0).evt.hq = [])) := by decide +kernel

theorem test_met_EventsAreTakenInAndDelivered :
    (∃ (s : State) (r : EvRaised), (s.shaped = true) ∧ (s.room 2 = true) ∧ (s.evt.raised.head? = some r) ∧ (s.evt.raised.length = 1) ∧ (r.ev.cls = 0) ∧ (r.ev.code ≠ 0x9002) ∧ (∀ p, p < 3 → (s.getF (Reg.EVT_P_CFG_CLASSES p)).testBit 0 = true) ∧ (s.evt.soe0.length < 4095) ∧ (s.evt.hq.length < 1024) ∧ (s.traceBase + s.rd Reg.EVT_TRC_WRPTR + 32 ≤ s.dramSize)) ∧
    (∃ (s : State), (s.shaped = true) ∧ (s.room 2 = true) ∧ (s.evt.windowIdx < s.runNs / windowNs) ∧ (s.on secEvt = true) ∧ (s.pwr.unpowered = false)) ∧
    (∃ (s : State) (i : Iface), (s.shaped = true) ∧ (s.room 2 = true) ∧ (s.hostUp = true) ∧ (s.evt.hq = [])) ∧
    (∃ (s : State) (i : Iface) (e : EvRec), (s.shaped = true) ∧ (s.room 2 = true) ∧ (s.hostUp = true) ∧ (s.evt.hq.head? = some e)) :=
  ⟨⟨w32 0 1 41 2, { fc := 7, ev := { tw := 41, angle := 3, src := 12293, code := 12289, cls := 0, dye := 0, grout := false, epoch := 2, value := 41, seq := 0 } }, test_at_32_0.1⟩,
   ⟨w32 0 1 41 2, test_at_32_0.2.1⟩,
   ⟨w32 2 2 94 0, Iface.pcie, test_at_32_1⟩,
   ⟨w32 0 1 41 2, Iface.pcie, { tw := 41, angle := 3, src := 12293, code := 12289, cls := 0, dye := 0, grout := false, epoch := 2, value := 41, seq := 0 }, test_at_32_0.2.2⟩⟩

/-- States for the statement SoeCommandsCopyAndFree. -/
def w33 (z x0 x1 x2 x3 : Nat) : State :=
  let s := wBase z
  let n : Nat := x0
  let c : Nat := x1
  let ix : Nat := x2
  let rg : Nat := x3
  let e : EvRec := ⟨5, 6, 0x3001, 0x3005, 7, 0, false, 2, 9, 0⟩
  let s := levels (onAll s) .operate
  let recs := (List.range n).map fun k => (⟨{ e with seq := k }, decide (k < c)⟩ : SoeRec)
  let s := (s.setF Reg.EVT_SOE_ARG_INDEX ix).setF Reg.EVT_SOE_ARG_COUNT c
  let s := { s with dram := [(5, 1)], evt := { s.evt with soe0 := recs, soeGen := [(0, ⟨e, false⟩), (2, ⟨e, true⟩)], dump := if n = 0 then none else some ⟨rg, ix, c, 0x64000000⟩ } }
  s

theorem test_at_33_0 :
    (((w33 0 2 1 2 1).shaped = true) ∧ ((w33 0 2 1 2 1).room 2 = true) ∧ ((w33 0 2 1 2 1).hostUp = true)) ∧
    (((w33 0 2 1 2 1).shaped = true) ∧ ((w33 0 2 1 2 1).room 2 = true) ∧ ((w33 0 2 1 2 1).hostUp = true) ∧ ((w33 0 2 1 2 1).may (Iface.spi : Iface) .operate = true)) ∧
    (((w33 0 2 1 2 1).shaped = true) ∧ ((w33 0 2 1 2 1).room 2 = true) ∧ ((w33 0 2 1 2 1).evt.dump = some ({ region := 1, index := 2, count := 1, addr := 1677721600 } : SoeDump)) ∧ (({ region := 1, index := 2, count := 1, addr := 1677721600 } : SoeDump).addr + 32 * ({ region := 1, index := 2, count := 1, addr := 1677721600 } : SoeDump).count ≤ (w33 0 2 1 2 1).dramSize)) ∧
    (((w33 0 2 1 2 1).shaped = true) ∧ ((w33 0 2 1 2 1).room 2 = true) ∧ ((w33 0 2 1 2 1).hostUp = true) ∧ ((w33 0 2 1 2 1).may (Iface.spi : Iface) .operate = true)) := by decide +kernel

theorem test_met_SoeCommandsCopyAndFree :
    (∃ (s : State) (i : Iface) (v : Word) (g : Nat) (k : Nat), (g = bits v.toNat 8 8) ∧ (k = s.getF Reg.EVT_SOE_ARG_INDEX) ∧ (s.shaped = true) ∧ (s.room 2 = true) ∧ (s.hostUp = true)) ∧
    (∃ (s : State) (i : Iface) (v : Word), (s.shaped = true) ∧ (s.room 2 = true) ∧ (s.hostUp = true) ∧ (s.may i .operate = true)) ∧
    (∃ (s : State) (d : SoeDump), (s.shaped = true) ∧ (s.room 2 = true) ∧ (s.evt.dump = some d) ∧ (d.addr + 32 * d.count ≤ s.dramSize)) ∧
    (∃ (s : State) (i : Iface) (v : Word) (n : Nat), (n = ((s.evt.soe0.take (s.getF Reg.EVT_SOE_ARG_COUNT)).takeWhile fun r => r.copied).length) ∧ (s.shaped = true) ∧ (s.room 2 = true) ∧ (s.hostUp = true) ∧ (s.may i .operate = true)) :=
  ⟨⟨w33 0 2 1 2 1, Iface.pcie, 0x00000003#32, _, _, rfl, rfl, test_at_33_0.1⟩,
   ⟨w33 0 2 1 2 1, Iface.spi, 0x00000004#32, test_at_33_0.2.1⟩,
   ⟨w33 0 2 1 2 1, { region := 1, index := 2, count := 1, addr := 1677721600 }, test_at_33_0.2.2.1⟩,
   ⟨w33 0 2 1 2 1, Iface.spi, 0x00080000#32, _, rfl, test_at_33_0.2.2.2⟩⟩

/-- States for the statement FieldInputsFollowThePin. -/
def w34 (z x0 x1 x2 : Nat) : State :=
  let s := wBase z
  let f : Nat := x0
  let l : Nat := x1
  let b : Nat := x2
  let s := { (onAll s) with tm := { s.tm with runt := 2 ^ 70 } }
  let s := ([0, 1, 2, 31] : List Nat).foldl (fun (s : State) n => (((s.setF (Reg.DIO_CH_CFG_TYPE n) 1).setF (Reg.DIO_CH_CFG_FUNC n) f).setF (Reg.DIO_CH_FLT_L n) l).setF (Reg.DIO_CH_FLT_TICK n) 7 |>.setDch n fun c => { c with tickAt := 5, edges := 3 * b, edgeFirst := some 5, edgeLast := 2 ^ 60 }) s
  s

theorem test_at_34_0 :
    (((w34 1 3 1 1).shaped = true) ∧ (0 < 32) ∧ ((w34 1 3 1 1).isIn 0 = true) ∧ ((w34 1 3 1 1).dioOn (0 / 16) = true)) ∧
    (((w34 1 3 1 1).shaped = true) ∧ (3 < 32) ∧ ((w34 1 3 1 1).isIn 3 = true) ∧ ((w34 1 3 1 1).dioOn (3 / 16) = true) ∧ ((w34 1 3 1 1).tickDue 3 = true) ∧ ((w34 1 3 1 1).getF (Reg.DIO_CH_CFG_FUNC 3) ≠ 2)) ∧
    (((w34 1 3 1 1).shaped = true) ∧ (31 < 32) ∧ ((w34 1 3 1 1).isIn 31 = true) ∧ ((w34 1 3 1 1).dioOn (31 / 16) = true) ∧ ((w34 1 3 1 1).getF (Reg.DIO_CH_CFG_FUNC 31) = 3) ∧ ((w34 1 3 1 1).expired ((w34 1 3 1 1).dch 31).gateStart ((w34 1 3 1 1).getF (Reg.DIO_CH_FLT_GATE 31) * 1000000) = true) ∧ (2 ≤ ((w34 1 3 1 1).dch 31).edges)) ∧
    (((w34 1 3 1 1).shaped = true) ∧ (31 < 32) ∧ ((w34 1 3 1 1).isIn 31 = true) ∧ ((w34 1 3 1 1).dioOn (31 / 16) = true) ∧ ((w34 1 3 1 1).getF (Reg.DIO_CH_CFG_FUNC 31) = 3) ∧ ((w34 1 3 1 1).expired ((w34 1 3 1 1).dch 31).yRise 20000000000 = true) ∧ (((w34 1 3 1 1).comes fun c => match c with | .dioInputTick _ => true | _ => false) = false)) := by decide +kernel

theorem test_met_FieldInputsFollowThePin :
    (∃ (s : State) (n : Nat) (z : PinZone), (s.shaped = true) ∧ (n < 32) ∧ (s.isIn n = true) ∧ (s.dioOn (n / 16) = true)) ∧
    (∃ (s : State) (n : Nat) (i : Nat) (l : Nat), (i = s.getF (Reg.DIO_CH_STAT_INTEG n)) ∧ (l = s.getF (Reg.DIO_CH_FLT_L n)) ∧ (s.shaped = true) ∧ (n < 32) ∧ (s.isIn n = true) ∧ (s.dioOn (n / 16) = true) ∧ (s.tickDue n = true) ∧ (s.getF (Reg.DIO_CH_CFG_FUNC n) ≠ 2)) ∧
    (∃ (s : State) (n : Nat), (s.shaped = true) ∧ (n < 32) ∧ (s.isIn n = true) ∧ (s.dioOn (n / 16) = true) ∧ (s.getF (Reg.DIO_CH_CFG_FUNC n) = 3) ∧ (s.expired (s.dch n).gateStart (s.getF (Reg.DIO_CH_FLT_GATE n) * 1000000) = true) ∧ (2 ≤ (s.dch n).edges)) ∧
    (∃ (s : State) (n : Nat), (s.shaped = true) ∧ (n < 32) ∧ (s.isIn n = true) ∧ (s.dioOn (n / 16) = true) ∧ (s.getF (Reg.DIO_CH_CFG_FUNC n) = 3) ∧ (s.expired (s.dch n).yRise 20000000000 = true) ∧ ((s.comes fun c => match c with | .dioInputTick _ => true | _ => false) = false)) :=
  ⟨⟨w34 1 3 1 1, 0, PinZone.between, test_at_34_0.1⟩,
   ⟨w34 1 3 1 1, 3, _, _, rfl, rfl, test_at_34_0.2.1⟩,
   ⟨w34 1 3 1 1, 31, test_at_34_0.2.2.1⟩,
   ⟨w34 1 3 1 1, 31, test_at_34_0.2.2.2⟩⟩

/-- States for the statement FieldSupplyPassesItsStates. -/
def w35 (z x0 x1 x2 : Nat) : State :=
  let s := wBase z
  let vb : Nat := x0
  let s := if vb = 0 then { s with variant := .b } else s
  let st : Nat := x1
  let sl : Nat := x2
  let s := { (onAll s) with tm := { s.tm with runt := 2 ^ 70 } }
  let s := (List.range 2).foldl (fun (s : State) g => (s.setF (Reg.DIO_G_SUP_STATE g) st).setDgrp g fun d => { d with slot := sl, trouble := s.tm.runt - 2 ^ 40 }) s
  let s := ([0, 1, 2, 31] : List Nat).foldl (fun (s : State) n => s.setF (Reg.DIO_CH_CFG_TYPE n) (if n % 16 < 9 then 3 else 1)) s
  s

theorem test_at_35_0 :
    (((w35 2 0 1 3).shaped = true) ∧ ((w35 2 0 1 3).room 2 = true) ∧ (1 < 2) ∧ ((w35 2 0 1 3).hasDioGrp 1 = false) ∧ (Instr.fieldSupplyRestoring 1 : Instr) ∈ [Instr.fieldSupplyLow 1 132, .fieldSupplyRecover 1, .fieldSupplyMissing 1, .fieldSupplyRestoring 1, .restoreSlot 1, .fieldSupplyHigh 1 false]) ∧
    (((w35 2 0 1 3).shaped = true) ∧ ((w35 2 0 1 3).room 2 = true) ∧ (0 < 2) ∧ ((w35 2 0 1 3).hasDioGrp 0 = true) ∧ ((w35 2 0 1 3).supply 0 = supLow)) ∧
    (((w35 2 0 1 3).shaped = true) ∧ ((w35 2 0 1 3).room 2 = true) ∧ (0 < 2) ∧ ((w35 2 0 1 3).hasDioGrp 0 = true) ∧ ((w35 2 0 1 3).supply 0 ≠ supMissing)) ∧
    (((w35 2 0 1 3).shaped = true) ∧ ((w35 2 0 1 3).room 2 = true) ∧ (0 < 2) ∧ ((w35 2 0 1 3).hasDioGrp 0 = true)) := by decide +kernel

theorem test_at_35_1 :
    (((w35 2 1 0 1).shaped = true) ∧ ((w35 2 1 0 1).room 2 = true) ∧ (1 < 2) ∧ ((w35 2 1 0 1).hasDioGrp 1 = true) ∧ ((w35 2 1 0 1).supply 1 = supPresent)) := by decide +kernel

theorem test_at_35_2 :
    (((w35 1 0 2 3).shaped = true) ∧ ((w35 1 0 2 3).room 2 = true) ∧ (0 < 2) ∧ ((w35 1 0 2 3).hasDioGrp 0 = true) ∧ ((w35 1 0 2 3).supply 0 = supMissing)) := by decide +kernel

theorem test_at_35_3 :
    (((w35 1 1 3 1).shaped = true) ∧ ((w35 1 1 3 1).room 2 = true) ∧ (1 < 2) ∧ ((w35 1 1 3 1).hasDioGrp 1 = true) ∧ ((w35 1 1 3 1).supply 1 = supRestoring) ∧ ((w35 1 1 3 1).expired ((w35 1 1 3 1).dgrp 1).restore (((w35 1 1 3 1).dgrp 1).slot * 1000000) = true)) := by decide +kernel

theorem test_met_FieldSupplyPassesItsStates :
    (∃ (s : State) (g : Nat) (mv : Nat) (h : Bool) (c : Instr), (s.shaped = true) ∧ (s.room 2 = true) ∧ (g < 2) ∧ (s.hasDioGrp g = false) ∧ c ∈ [Instr.fieldSupplyLow g mv, .fieldSupplyRecover g, .fieldSupplyMissing g, .fieldSupplyRestoring g, .restoreSlot g, .fieldSupplyHigh g h]) ∧
    (∃ (s : State) (g : Nat) (mv : Nat), (s.shaped = true) ∧ (s.room 2 = true) ∧ (g < 2) ∧ (s.hasDioGrp g = true) ∧ (s.supply g = supPresent)) ∧
    (∃ (s : State) (g : Nat), (s.shaped = true) ∧ (s.room 2 = true) ∧ (g < 2) ∧ (s.hasDioGrp g = true) ∧ (s.supply g = supLow)) ∧
    (∃ (s : State) (g : Nat), (s.shaped = true) ∧ (s.room 2 = true) ∧ (g < 2) ∧ (s.hasDioGrp g = true) ∧ (s.supply g ≠ supMissing)) ∧
    (∃ (s : State) (g : Nat), (s.shaped = true) ∧ (s.room 2 = true) ∧ (g < 2) ∧ (s.hasDioGrp g = true) ∧ (s.supply g = supMissing)) ∧
    (∃ (s : State) (g : Nat) (outs : List Nat) (k : Nat), (outs = (grpChans g).filter s.isOut) ∧ (k = (s.dgrp g).slot) ∧ (s.shaped = true) ∧ (s.room 2 = true) ∧ (g < 2) ∧ (s.hasDioGrp g = true) ∧ (s.supply g = supRestoring) ∧ (s.expired (s.dgrp g).restore ((s.dgrp g).slot * 1000000) = true)) ∧
    (∃ (s : State) (g : Nat) (h : Bool), (s.shaped = true) ∧ (s.room 2 = true) ∧ (g < 2) ∧ (s.hasDioGrp g = true)) :=
  ⟨⟨w35 2 0 1 3, 1, 132, false, Instr.fieldSupplyRestoring 1, test_at_35_0.1⟩,
   ⟨w35 2 1 0 1, 1, 0, test_at_35_1⟩,
   ⟨w35 2 0 1 3, 0, test_at_35_0.2.1⟩,
   ⟨w35 2 0 1 3, 0, test_at_35_0.2.2.1⟩,
   ⟨w35 1 0 2 3, 0, test_at_35_2⟩,
   ⟨w35 1 1 3 1, 1, _, _, rfl, rfl, test_at_35_3⟩,
   ⟨w35 2 0 1 3, 0, true, test_at_35_0.2.2.2⟩⟩

/-- States for the statement OutputDiagnosticsRiseAndClear. -/
def w36 (z x0 x1 : Nat) : State :=
  let s := wBase z
  let b : Nat := x0
  let r : Nat := x1
  let s := { (onAll s) with tm := { s.tm with runt := 2 ^ 70 } }
  let s := (List.range 2).foldl (fun (s : State) g => s.setF (Reg.DIO_G_SUP_STATE g) 0) s
  let s := s.wr Reg.DIO_LATCH (if b = 0 then 0 else 0xFFFFFFFF)
  let s := { s with dio := { s.dio with gate2 := 0xFFFFFFFF } }
  let s := ([0, 1, 2, 31] : List Nat).foldl (fun (s : State) n => (((s.setF (Reg.DIO_CH_CFG_TYPE n) 3).wr (Reg.DIO_CH_STAT n) 0).setF (Reg.DIO_CH_CFG_RETRY n) r).setF (Reg.DIO_CH_CFG_OPEN_OFF n) 1 |>.setDch n fun c => { c with ovlOff := decide (b = 1 ∧ n % 2 = 0) }) s
  s

theorem test_at_36_0 :
    (((w36 0 0 1).shaped = true) ∧ ((w36 0 0 1).room 2 = true) ∧ (31 < 32) ∧ ((w36 0 0 1).diagOn 31 = true) ∧ ((w36 0 0 1).driver 31 = true) ∧ ((w36 0 0 1).flag (Reg.DIO_CH_STAT_OVL 31) = false) ∧ (((w36 0 0 1).comes fun c => match c with | .fieldSupplyMissing g => g == 31 / 16 | .dioOvertemp m => m == 31 | _ => false) = false)) ∧
    (((w36 0 0 1).shaped = true) ∧ ((w36 0 0 1).room 2 = true) ∧ (31 < 32) ∧ ((w36 0 0 1).diagOn 31 = true) ∧ ((w36 0 0 1).flag (Reg.DIO_CH_STAT_OPEN 31) = false) ∧ ((w36 0 0 1).driver 31 = true ∨ (w36 0 0 1).dioBit Reg.DIO_LATCH 31 = false ∧ (w36 0 0 1).flag (Reg.DIO_CH_CFG_OPEN_OFF 31) = true)) ∧
    (((w36 0 0 1).shaped = true) ∧ ((w36 0 0 1).room 2 = true) ∧ (31 < 32) ∧ ((w36 0 0 1).diagOn 31 = true) ∧ ((w36 0 0 1).flag (Reg.DIO_CH_STAT_OTEMP 31) = false)) ∧
    (((w36 0 0 1).shaped = true) ∧ ((w36 0 0 1).room 2 = true) ∧ (31 < 32) ∧ ((w36 0 0 1).diagOn 31 = true) ∧ ((w36 0 0 1).dioBit Reg.DIO_LATCH 31 = false) ∧ ((w36 0 0 1).flag (Reg.DIO_CH_STAT_EXT 31) = false)) := by decide +kernel

theorem test_at_36_1 :
    (((w36 3 1 1).shaped = true) ∧ ((w36 3 1 1).room 2 = true) ∧ (2 < 32) ∧ ((w36 3 1 1).diagOn 2 = true) ∧ ((w36 3 1 1).flag (Reg.DIO_CH_CFG_RETRY 2) = true) ∧ (((w36 3 1 1).dch 2).ovlOff = true) ∧ ((w36 3 1 1).expired ((w36 3 1 1).dch 2).retryAt 100000000 = true)) := by decide +kernel

theorem test_met_OutputDiagnosticsRiseAndClear :
    (∃ (s : State) (n : Nat), (s.shaped = true) ∧ (s.room 2 = true) ∧ (n < 32) ∧ (s.diagOn n = true) ∧ (s.driver n = true) ∧ (s.flag (Reg.DIO_CH_STAT_OVL n) = false) ∧ ((s.comes fun c => match c with | .fieldSupplyMissing g => g == n / 16 | .dioOvertemp m => m == n | _ => false) = false)) ∧
    (∃ (s : State) (n : Nat) (p : Bool), (s.shaped = true) ∧ (s.room 2 = true) ∧ (n < 32) ∧ (s.diagOn n = true) ∧ (s.flag (Reg.DIO_CH_CFG_RETRY n) = true) ∧ ((s.dch n).ovlOff = true) ∧ (s.expired (s.dch n).retryAt 100000000 = true)) ∧
    (∃ (s : State) (n : Nat), (s.shaped = true) ∧ (s.room 2 = true) ∧ (n < 32) ∧ (s.diagOn n = true) ∧ (s.flag (Reg.DIO_CH_STAT_OPEN n) = false) ∧ (s.driver n = true ∨ s.dioBit Reg.DIO_LATCH n = false ∧ s.flag (Reg.DIO_CH_CFG_OPEN_OFF n) = true)) ∧
    (∃ (s : State) (n : Nat), (s.shaped = true) ∧ (s.room 2 = true) ∧ (n < 32) ∧ (s.diagOn n = true) ∧ (s.flag (Reg.DIO_CH_STAT_OTEMP n) = false)) ∧
    (∃ (s : State) (n : Nat), (s.shaped = true) ∧ (s.room 2 = true) ∧ (n < 32) ∧ (s.diagOn n = true) ∧ (s.dioBit Reg.DIO_LATCH n = false) ∧ (s.flag (Reg.DIO_CH_STAT_EXT n) = false)) :=
  ⟨⟨w36 0 0 1, 31, test_at_36_0.1⟩,
   ⟨w36 3 1 1, 2, false, test_at_36_1⟩,
   ⟨w36 0 0 1, 31, test_at_36_0.2.1⟩,
   ⟨w36 0 0 1, 31, test_at_36_0.2.2.1⟩,
   ⟨w36 0 0 1, 31, test_at_36_0.2.2.2⟩⟩

/-- States for the statement DioWatchdogMakesSafe. -/
def w37 (z x0 x1 x2 x3 x4 x5 x6 : Nat) : State :=
  let s := wBase z
  let vb : Nat := x0
  let s := if vb = 0 then { s with variant := .b } else s
  let b : Nat := x1
  let r : Nat := x2
  let h : Nat := x3
  let ru : Nat := x4
  let s := levels { (onAll s) with tm := { s.tm with runt := 2 ^ 70 } } .operate
  let s := (List.range 2).foldl (fun (s : State) g => (((s.setF (Reg.DIO_G_WDT_EN g) 1).setF (Reg.DIO_G_WST_SAFE g) b).setF (Reg.DIO_G_WST_REFRESHED g) r).setDgrp g fun d => { d with wdRun := decide (ru = 0), wdStart := 2 ^ 68 }) s
  let s := ([0, 1, 2, 31] : List Nat).foldl (fun (s : State) n => (s.setF (Reg.DIO_CH_CFG_TYPE n) 3).setDch n fun c => { c with holdStart := 2 ^ 66 }) s
  let s := ([0, 1, 2, 15] : List Nat).foldl (fun (s : State) n => s.setF (Reg.PRT_TRIPO_HOLDING n) (b2n (n % 4 == h))) s
  let v : Nat := x5
  let w : Nat := x6
  let s := (s.wr Reg.DIO_LATCH v).wr Reg.DIO_CMDST w
  s

theorem test_at_37_0 :
    (((w37 2 0 1 0 2 1 2172393898 4227240187).shaped = true) ∧ ((w37 2 0 1 0 2 1 2172393898 4227240187).room 2 = true) ∧ (1 < 2) ∧ ((w37 2 0 1 0 2 1 2172393898 4227240187).hasDioGrp 1 = false) ∧ (Instr.dioWatchdogExpiry 1 : Instr) ∈ [Instr.dioWatchdogExpiry 1, .dioKick (Iface.spi : Iface) 1 (0x70d65d17#32 : Word), .dioRearm (Iface.spi : Iface) 1 (0x70d65d17#32 : Word)]) ∧
    (((w37 2 0 1 0 2 1 2172393898 4227240187).shaped = true) ∧ ((w37 2 0 1 0 2 1 2172393898 4227240187).room 2 = true) ∧ (0 < 2) ∧ ((w37 2 0 1 0 2 1 2172393898 4227240187).hasDioGrp 0 = true) ∧ ((w37 2 0 1 0 2 1 2172393898 4227240187).hostUp = true) ∧ ((w37 2 0 1 0 2 1 2172393898 4227240187).may (Iface.spi : Iface) .operate = true) ∧ ((w37 2 0 1 0 2 1 2172393898 4227240187).dioOn 0 = true) ∧ ((0x858a4a61#32 : Word).toNat % 4 = 1)) ∧
    (((w37 2 0 1 0 2 1 2172393898 4227240187).shaped = true) ∧ ((w37 2 0 1 0 2 1 2172393898 4227240187).room 2 = true) ∧ (0 < 2) ∧ ((w37 2 0 1 0 2 1 2172393898 4227240187).hasDioGrp 0 = true) ∧ ((w37 2 0 1 0 2 1 2172393898 4227240187).hostUp = true) ∧ ((w37 2 0 1 0 2 1 2172393898 4227240187).may (Iface.pcie : Iface) .operate = true) ∧ ((w37 2 0 1 0 2 1 2172393898 4227240187).flag (Reg.DIO_G_WST_SAFE 0) = true) ∧ ((0x4843dcd2#32 : Word).toNat % 4 = 2) ∧ ((w37 2 0 1 0 2 1 2172393898 4227240187).dioDue 0 = false)) ∧
    (((w37 2 0 1 0 2 1 2172393898 4227240187).shaped = true) ∧ ((w37 2 0 1 0 2 1 2172393898 4227240187).room 2 = true) ∧ (1 < 2) ∧ (2 < 16) ∧ ((w37 2 0 1 0 2 1 2172393898 4227240187).isOut 2 = true) ∧ ((w37 2 0 1 0 2 1 2172393898 4227240187).holding 2 = true) ∧ ((w37 2 0 1 0 2 1 2172393898 4227240187).expired ((w37 2 0 1 0 2 1 2172393898 4227240187).dch 2).holdStart ((w37 2 0 1 0 2 1 2172393898 4227240187).getF (Reg.PRT_TRIPO_HOLD 2) * 1000000) = true)) := by decide +kernel

theorem test_at_37_1 :
    (((w37 1 2 1 0 2 0 2023557770 4084436782).shaped = true) ∧ ((w37 1 2 1 0 2 0 2023557770 4084436782).room 2 = true) ∧ (1 < 2) ∧ ((w37 1 2 1 0 2 0 2023557770 4084436782).hasDioGrp 1 = true) ∧ ((w37 1 2 1 0 2 0 2023557770 4084436782).flag (Reg.DIO_G_WDT_EN 1) = true) ∧ (((w37 1 2 1 0 2 0 2023557770 4084436782).dgrp 1).wdRun = true) ∧ ((w37 1 2 1 0 2 0 2023557770 4084436782).expired ((w37 1 2 1 0 2 0 2023557770 4084436782).dgrp 1).wdStart ((w37 1 2 1 0 2 0 2023557770 4084436782).getF (Reg.DIO_G_WDT_US 1) * 1000) = true) ∧ ((w37 1 2 1 0 2 0 2023557770 4084436782).dioComes 1 = false)) := by decide +kernel

theorem test_met_DioWatchdogMakesSafe :
    (∃ (s : State) (g : Nat) (i : Iface) (v : Word) (c : Instr), (s.shaped = true) ∧ (s.room 2 = true) ∧ (g < 2) ∧ (s.hasDioGrp g = false) ∧ c ∈ [Instr.dioWatchdogExpiry g, .dioKick i g v, .dioRearm i g v]) ∧
    (∃ (s : State) (g : Nat), (s.shaped = true) ∧ (s.room 2 = true) ∧ (g < 2) ∧ (s.hasDioGrp g = true) ∧ (s.flag (Reg.DIO_G_WDT_EN g) = true) ∧ ((s.dgrp g).wdRun = true) ∧ (s.expired (s.dgrp g).wdStart (s.getF (Reg.DIO_G_WDT_US g) * 1000) = true) ∧ (s.dioComes g = false)) ∧
    (∃ (s : State) (g : Nat) (i : Iface) (v : Word), (s.shaped = true) ∧ (s.room 2 = true) ∧ (g < 2) ∧ (s.hasDioGrp g = true) ∧ (s.hostUp = true) ∧ (s.may i .operate = true) ∧ (s.dioOn g = true) ∧ (v.toNat % 4 = 1)) ∧
    (∃ (s : State) (g : Nat) (i : Iface) (v : Word), (s.shaped = true) ∧ (s.room 2 = true) ∧ (g < 2) ∧ (s.hasDioGrp g = true) ∧ (s.hostUp = true) ∧ (s.may i .operate = true) ∧ (s.flag (Reg.DIO_G_WST_SAFE g) = true) ∧ (v.toNat % 4 = 2) ∧ (s.dioDue g = false)) ∧
    (∃ (s : State) (g : Nat) (n : Nat), (s.shaped = true) ∧ (s.room 2 = true) ∧ (g < 2) ∧ (n < 16) ∧ (s.isOut n = true) ∧ (s.holding n = true) ∧ (s.expired (s.dch n).holdStart (s.getF (Reg.PRT_TRIPO_HOLD n) * 1000000) = true)) :=
  ⟨⟨w37 2 0 1 0 2 1 2172393898 4227240187, 1, Iface.spi, 0x70d65d17#32, Instr.dioWatchdogExpiry 1, test_at_37_0.1⟩,
   ⟨w37 1 2 1 0 2 0 2023557770 4084436782, 1, test_at_37_1⟩,
   ⟨w37 2 0 1 0 2 1 2172393898 4227240187, 0, Iface.spi, 0x858a4a61#32, test_at_37_0.2.1⟩,
   ⟨w37 2 0 1 0 2 1 2172393898 4227240187, 0, Iface.pcie, 0x4843dcd2#32, test_at_37_0.2.2.1⟩,
   ⟨w37 2 0 1 0 2 1 2172393898 4227240187, 1, 2, test_at_37_0.2.2.2⟩⟩

/-- States for the statement LoopReadbackAndCompliance. -/
def w38 (z x0 x1 x2 x3 : Nat) : State :=
  let s := wBase z
  let b : Nat := x0
  let a : Nat := x1
  let sh : Nat := x2
  let m : Nat := x3
  let s := { (onAll s) with tm := { s.tm with runt := 2 ^ 70 } }
  let s := ([0, 1, 2, 7] : List Nat).foldl (fun (s : State) n => ((s.setF (Reg.AO_CH_CFG_MODE n) (1 + m)).setF (Reg.AO_CH_STAT_COMPLIANCE n) b).setAch n fun c => { c with short := if sh = 0 then none else some (2 ^ 69), okSince := 2 ^ 69, complSince := 2 ^ 68, alarmed := decide (a = 1) }) s
  s

theorem test_at_38_0 :
    (((w38 0 1 0 0 0).shaped = true) ∧ ((w38 0 1 0 0 0).room 2 = true) ∧ ((w38 0 1 0 0 0).on secAo = true) ∧ (3 < 8) ∧ ((w38 0 1 0 0 0).flag (Reg.AO_CH_CFG_MODE 3) = true)) ∧
    (((w38 0 1 0 0 0).shaped = true) ∧ ((w38 0 1 0 0 0).room 2 = true) ∧ ((w38 0 1 0 0 0).on secAo = true) ∧ (7 < 8) ∧ ((w38 0 1 0 0 0).flag (Reg.AO_CH_CFG_MODE 7) = true) ∧ ((w38 0 1 0 0 0).flag (Reg.AO_CH_STAT_COMPLIANCE 7) = true) ∧ (((w38 0 1 0 0 0).ach 7).alarmed = false) ∧ ((w38 0 1 0 0 0).expired ((w38 0 1 0 0 0).ach 7).complSince 1000000000 = true)) ∧
    (((w38 0 1 0 0 0).shaped = true) ∧ ((w38 0 1 0 0 0).room 2 = true) ∧ ((w38 0 1 0 0 0).on secAo = true) ∧ (7 < 8) ∧ ((w38 0 1 0 0 0).flag (Reg.AO_CH_CFG_MODE 7) = true) ∧ ((w38 0 1 0 0 0).flag (Reg.AO_CH_STAT_COMPLIANCE 7) = true) ∧ (((w38 0 1 0 0 0).ach 7).short = none) ∧ ((w38 0 1 0 0 0).expired ((w38 0 1 0 0 0).ach 7).okSince 100000000 = true)) ∧
    (((w38 0 1 0 0 0).shaped = true) ∧ ((w38 0 1 0 0 0).room 2 = true) ∧ ((w38 0 1 0 0 0).on secAo = true) ∧ (1 < 8) ∧ ((w38 0 1 0 0 0).flag (Reg.AO_CH_CFG_MODE 1) = true)) := by decide +kernel

theorem test_at_38_1 :
    (((w38 2 0 1 1 1).shaped = true) ∧ ((w38 2 0 1 1 1).room 2 = true) ∧ ((w38 2 0 1 1 1).on secAo = true) ∧ (7 < 8) ∧ ((w38 2 0 1 1 1).flag (Reg.AO_CH_CFG_MODE 7) = true) ∧ (((w38 2 0 1 1 1).ach 7).short.any (fun c => (w38 2 0 1 1 1).expired c 10000000) = true) ∧ ((w38 2 0 1 1 1).getF (Reg.AO_CH_CFG_MODE 7) = 1 ∨ (w38 2 0 1 1 1).getF (Reg.AO_CH_RB_V 7) < 4000) ∧ ((w38 2 0 1 1 1).flag (Reg.AO_CH_STAT_COMPLIANCE 7) = false)) := by decide +kernel

theorem test_met_LoopReadbackAndCompliance :
    (∃ (s : State) (n : Nat) (i : Nat) (u : Nat) (d : Int), (s.shaped = true) ∧ (s.room 2 = true) ∧ (s.on secAo = true) ∧ (n < 8) ∧ (s.flag (Reg.AO_CH_CFG_MODE n) = true)) ∧
    (∃ (s : State) (n : Nat), (s.shaped = true) ∧ (s.room 2 = true) ∧ (s.on secAo = true) ∧ (n < 8) ∧ (s.flag (Reg.AO_CH_CFG_MODE n) = true) ∧ ((s.ach n).short.any (fun c => s.expired c 10000000) = true) ∧ (s.getF (Reg.AO_CH_CFG_MODE n) = 1 ∨ s.getF (Reg.AO_CH_RB_V n) < 4000) ∧ (s.flag (Reg.AO_CH_STAT_COMPLIANCE n) = false)) ∧
    (∃ (s : State) (n : Nat), (s.shaped = true) ∧ (s.room 2 = true) ∧ (s.on secAo = true) ∧ (n < 8) ∧ (s.flag (Reg.AO_CH_CFG_MODE n) = true) ∧ (s.flag (Reg.AO_CH_STAT_COMPLIANCE n) = true) ∧ ((s.ach n).alarmed = false) ∧ (s.expired (s.ach n).complSince 1000000000 = true)) ∧
    (∃ (s : State) (n : Nat), (s.shaped = true) ∧ (s.room 2 = true) ∧ (s.on secAo = true) ∧ (n < 8) ∧ (s.flag (Reg.AO_CH_CFG_MODE n) = true) ∧ (s.flag (Reg.AO_CH_STAT_COMPLIANCE n) = true) ∧ ((s.ach n).short = none) ∧ (s.expired (s.ach n).okSince 100000000 = true)) ∧
    (∃ (s : State) (n : Nat) (b : Bool), (s.shaped = true) ∧ (s.room 2 = true) ∧ (s.on secAo = true) ∧ (n < 8) ∧ (s.flag (Reg.AO_CH_CFG_MODE n) = true)) :=
  ⟨⟨w38 0 1 0 0 0, 3, 1, 0, (-22), test_at_38_0.1⟩,
   ⟨w38 2 0 1 1 1, 7, test_at_38_1⟩,
   ⟨w38 0 1 0 0 0, 7, test_at_38_0.2.1⟩,
   ⟨w38 0 1 0 0 0, 7, test_at_38_0.2.2.1⟩,
   ⟨w38 0 1 0 0 0, 1, true, test_at_38_0.2.2.2⟩⟩

/-- States for the statement LoopThermalStates. -/
def w39 (z x0 x1 : Nat) : State :=
  let s := wBase z
  let b : Nat := x0
  let a : Nat := x1
  let s := ([0, 1, 2, 7] : List Nat).foldl (fun (s : State) n => (s.setF (Reg.AO_CH_STAT_CUT n) b).setF (Reg.AO_CH_STAT_THERMAL n) a) (onAll s)
  s

theorem test_at_39_0 :
    (((w39 3 1 0).shaped = true) ∧ ((w39 3 1 0).room 2 = true) ∧ (3 < 8) ∧ (1400 < (4194304 : Int)) ∧ ((w39 3 1 0).flag (Reg.AO_CH_STAT_CUT 3) = false) ∧ ((w39 3 1 0).flag (Reg.AO_CH_STAT_THERMAL 3) = false)) ∧
    (((w39 3 1 0).shaped = true) ∧ ((w39 3 1 0).room 2 = true) ∧ (7 < 8) ∧ (1550 < (18545 : Int)) ∧ ((w39 3 1 0).flag (Reg.AO_CH_STAT_CUT 7) = true) ∧ ((w39 3 1 0).flag (Reg.AO_CH_STAT_THERMAL 7) = false)) ∧
    (((w39 3 1 0).shaped = true) ∧ ((w39 3 1 0).room 2 = true) ∧ (7 < 8) ∧ ((1 : Int) < 1250) ∧ ((w39 3 1 0).flag (Reg.AO_CH_STAT_CUT 7) = true ∨ (w39 3 1 0).flag (Reg.AO_CH_STAT_THERMAL 7) = true)) := by decide +kernel

theorem test_met_LoopThermalStates :
    (∃ (s : State) (n : Nat) (d : Int), (s.shaped = true) ∧ (s.room 2 = true) ∧ (n < 8) ∧ (1400 < d) ∧ (s.flag (Reg.AO_CH_STAT_CUT n) = false) ∧ (s.flag (Reg.AO_CH_STAT_THERMAL n) = false)) ∧
    (∃ (s : State) (n : Nat) (d : Int), (s.shaped = true) ∧ (s.room 2 = true) ∧ (n < 8) ∧ (1550 < d) ∧ (s.flag (Reg.AO_CH_STAT_CUT n) = true) ∧ (s.flag (Reg.AO_CH_STAT_THERMAL n) = false)) ∧
    (∃ (s : State) (n : Nat) (d : Int), (s.shaped = true) ∧ (s.room 2 = true) ∧ (n < 8) ∧ (d < 1250) ∧ (s.flag (Reg.AO_CH_STAT_CUT n) = true ∨ s.flag (Reg.AO_CH_STAT_THERMAL n) = true)) :=
  ⟨⟨w39 3 1 0, 3, 4194304, test_at_39_0.1⟩,
   ⟨w39 3 1 0, 7, 18545, test_at_39_0.2.1⟩,
   ⟨w39 3 1 0, 7, 1, test_at_39_0.2.2⟩⟩

/-- States for the statement LoopWatchdogMakesSafe. -/
def w40 (z x0 x1 x2 : Nat) : State :=
  let s := wBase z
  let b : Nat := x0
  let r : Nat := x1
  let ru : Nat := x2
  let s := levels { (onAll s) with tm := { s.tm with runt := 2 ^ 70 } } .operate
  let s := ((s.setF Reg.AO_WDT_EN 1).setF Reg.AO_WST_SAFE b).setF Reg.AO_WST_REFRESHED r
  let s := { s with ao := { s.ao with wdRun := decide (ru = 0), wdStart := 2 ^ 68 } }
  s

theorem test_at_40_0 :
    (((w40 0 0 1 0).shaped = true) ∧ ((w40 0 0 1 0).room 2 = true) ∧ ((w40 0 0 1 0).flag Reg.AO_WDT_EN = true) ∧ ((w40 0 0 1 0).ao.wdRun = true) ∧ ((w40 0 0 1 0).expired (w40 0 0 1 0).ao.wdStart ((w40 0 0 1 0).getF Reg.AO_WDT_US * 1000) = true) ∧ ((w40 0 0 1 0).aoComes = false)) ∧
    (((w40 0 0 1 0).shaped = true) ∧ ((w40 0 0 1 0).room 2 = true) ∧ ((w40 0 0 1 0).hostUp = true) ∧ ((w40 0 0 1 0).may (Iface.spi : Iface) .operate = true) ∧ ((w40 0 0 1 0).on secAo = true) ∧ ((0x00000001#32 : Word).toNat % 4 = 1)) := by decide +kernel

theorem test_at_40_1 :
    (((w40 2 1 1 1).shaped = true) ∧ ((w40 2 1 1 1).room 2 = true) ∧ ((w40 2 1 1 1).hostUp = true) ∧ ((w40 2 1 1 1).may (Iface.pcie : Iface) .operate = true) ∧ ((0x00000006#32 : Word).toNat % 4 = 2) ∧ ((w40 2 1 1 1).aoDue = false) ∧ ((w40 2 1 1 1).flag Reg.AO_WST_SAFE = true ∨ ∃ n ∈ List.range 8, (w40 2 1 1 1).flag (Reg.AO_CH_STAT_RSAFE n) = true) ∧ ((w40 2 1 1 1).flag Reg.AO_WST_REFRESHED = true ∨ (w40 2 1 1 1).aoComes = true)) := by decide +kernel

theorem test_at_40_2 :
    (((w40 1 0 0 1).shaped = true) ∧ ((w40 1 0 0 1).room 2 = true) ∧ ((w40 1 0 0 1).hostUp = true) ∧ ((w40 1 0 0 1).may (Iface.spi : Iface) .operate = true) ∧ ((0x003fff42#32 : Word).toNat % 4 = 2) ∧ ((w40 1 0 0 1).aoDue = false) ∧ ((w40 1 0 0 1).flag Reg.AO_WST_REFRESHED = false) ∧ ((w40 1 0 0 1).aoComes = false)) := by decide +kernel

theorem test_met_LoopWatchdogMakesSafe :
    (∃ (s : State), (s.shaped = true) ∧ (s.room 2 = true) ∧ (s.flag Reg.AO_WDT_EN = true) ∧ (s.ao.wdRun = true) ∧ (s.expired s.ao.wdStart (s.getF Reg.AO_WDT_US * 1000) = true) ∧ (s.aoComes = false)) ∧
    (∃ (s : State) (i : Iface) (v : Word), (s.shaped = true) ∧ (s.room 2 = true) ∧ (s.hostUp = true) ∧ (s.may i .operate = true) ∧ (s.on secAo = true) ∧ (v.toNat % 4 = 1)) ∧
    (∃ (s : State) (i : Iface) (v : Word), (s.shaped = true) ∧ (s.room 2 = true) ∧ (s.hostUp = true) ∧ (s.may i .operate = true) ∧ (v.toNat % 4 = 2) ∧ (s.aoDue = false) ∧ (s.flag Reg.AO_WST_SAFE = true ∨ ∃ n ∈ List.range 8, s.flag (Reg.AO_CH_STAT_RSAFE n) = true) ∧ (s.flag Reg.AO_WST_REFRESHED = true ∨ s.aoComes = true)) ∧
    (∃ (s : State) (i : Iface) (v : Word), (s.shaped = true) ∧ (s.room 2 = true) ∧ (s.hostUp = true) ∧ (s.may i .operate = true) ∧ (v.toNat % 4 = 2) ∧ (s.aoDue = false) ∧ (s.flag Reg.AO_WST_REFRESHED = false) ∧ (s.aoComes = false)) :=
  ⟨⟨w40 0 0 1 0, test_at_40_0.1⟩,
   ⟨w40 0 0 1 0, Iface.spi, 0x00000001#32, test_at_40_0.2⟩,
   ⟨w40 2 1 1 1, Iface.pcie, 0x00000006#32, test_at_40_1⟩,
   ⟨w40 1 0 0 1, Iface.spi, 0x003fff42#32, test_at_40_2⟩⟩

/-- States for the statement LoopTrimFromTwoPoints. -/
def w41 (z x0 x1 x2 : Nat) : State :=
  let s := wBase z
  let vb : Nat := x0
  let s := if vb = 0 then { s with variant := .b } else s
  let b : Nat := x1
  let m : Nat := x2
  let s := levels (onAll s) .engineer
  let s := ([0, 1, 2, 7] : List Nat).foldl (fun (s : State) n => ((((((s.setF (Reg.AO_CH_CFG_SEALED n) 0).setF (Reg.AO_CH_TCTL_TRIM n) b).setF (Reg.AO_CH_TRAW_R1 n) 9830).setF (Reg.AO_CH_TRAW_R2 n) 57344).wr (Reg.AO_CH_TMEAS_1 n) 3600000).wr (Reg.AO_CH_TMEAS_2 n) 21010000).setAch n fun c => { c with seen1 := decide (m ≠ 0), seen2 := decide (m ≠ 0) }) s
  s

theorem test_at_41_0 :
    (((w41 3 0 1 0).shaped = true) ∧ ((w41 3 0 1 0).hostUp = true) ∧ ((w41 3 0 1 0).room 2 = true) ∧ (7 < 8) ∧ ((w41 3 0 1 0).flag (Reg.AO_CH_CFG_SEALED 7) = false) ∧ ((w41 3 0 1 0).level (Iface.spi : Iface) = .engineer) ∧ ((w41 3 0 1 0).hasAo 7 = false) ∧ (Instr.aoTrimMeasure (Iface.spi) 7 28 0x00000000#32 : Instr) ∈ [Instr.aoTrimControl (Iface.spi : Iface) 7 (0x00000000#32 : Word), .aoTrimMeasure (Iface.spi : Iface) 7 28 (0x00000000#32 : Word), .aoTrimApply (Iface.spi : Iface) 7 (0x00000000#32 : Word)]) ∧
    (((w41 3 0 1 0).shaped = true) ∧ ((w41 3 0 1 0).hostUp = true) ∧ ((w41 3 0 1 0).room 2 = true) ∧ (3 < 8) ∧ ((w41 3 0 1 0).flag (Reg.AO_CH_CFG_SEALED 3) = false) ∧ ((w41 3 0 1 0).level (Iface.pcie : Iface) = .engineer) ∧ ((w41 3 0 1 0).hasAo 3 = true) ∧ ((w41 3 0 1 0).unwritten = true) ∧ ((w41 3 0 1 0).flag (Reg.AO_CH_TCTL_TRIM 3) = false) ∧ ((0xbf7a6731#32 : Word).toNat.testBit 31 = true) ∧ ((0xbf7a6731#32 : Word).toNat.testBit 30 = false)) ∧
    (((w41 3 0 1 0).shaped = true) ∧ ((w41 3 0 1 0).hostUp = true) ∧ ((w41 3 0 1 0).room 2 = true) ∧ (1 < 8) ∧ ((w41 3 0 1 0).flag (Reg.AO_CH_CFG_SEALED 1) = false) ∧ ((w41 3 0 1 0).level (Iface.pcie : Iface) = .engineer) ∧ ((w41 3 0 1 0).hasAo 1 = true) ∧ ((w41 3 0 1 0).unwritten = true) ∧ ((w41 3 0 1 0).flag (Reg.AO_CH_TCTL_TRIM 1) = true) ∧ ((0x8b3f163c#32 : Word).toNat.testBit 31 = true) ∧ (((w41 3 0 1 0).ach 1).seen1 = false ∨ ((w41 3 0 1 0).ach 1).seen2 = false)) := by decide +kernel

theorem test_at_41_1 :
    (((w41 1 0 1 1).shaped = true) ∧ ((w41 1 0 1 1).hostUp = true) ∧ ((w41 1 0 1 1).room 2 = true) ∧ (1 < 8) ∧ ((w41 1 0 1 1).flag (Reg.AO_CH_CFG_SEALED 1) = false) ∧ ((w41 1 0 1 1).level (Iface.spi : Iface) = .engineer) ∧ ((w41 1 0 1 1).hasAo 1 = true) ∧ ((w41 1 0 1 1).unwritten = true) ∧ ((w41 1 0 1 1).flag (Reg.AO_CH_TCTL_TRIM 1) = true) ∧ ((0xd5f69adc#32 : Word).toNat.testBit 31 = true) ∧ (((w41 1 0 1 1).ach 1).seen1 = true) ∧ (((w41 1 0 1 1).ach 1).seen2 = true) ∧ ((((w41 1 0 1 1).getF (Reg.AO_CH_TRAW_R1 1) : Int)) + 32768 ≤ (((w41 1 0 1 1).getF (Reg.AO_CH_TRAW_R2 1) : Int))) ∧ ((((w41 1 0 1 1).rd (Reg.AO_CH_TMEAS_1 1) : Int)) < (((w41 1 0 1 1).rd (Reg.AO_CH_TMEAS_2 1) : Int))) ∧ (50 * ((roundAway (1536000000 * ((((w41 1 0 1 1).getF (Reg.AO_CH_TRAW_R2 1) : Int)) - (((w41 1 0 1 1).getF (Reg.AO_CH_TRAW_R1 1) : Int)))) ((((w41 1 0 1 1).rd (Reg.AO_CH_TMEAS_2 1) : Int)) - (((w41 1 0 1 1).rd (Reg.AO_CH_TMEAS_1 1) : Int))).toNat) - 2 ^ 22).natAbs ≤ 2 ^ 22) ∧ ((roundAway (256 * ((((w41 1 0 1 1).getF (Reg.AO_CH_TRAW_R1 1) : Int)) * ((((w41 1 0 1 1).rd (Reg.AO_CH_TMEAS_2 1) : Int)) - (((w41 1 0 1 1).rd (Reg.AO_CH_TMEAS_1 1) : Int))) - (((w41 1 0 1 1).rd (Reg.AO_CH_TMEAS_1 1) : Int)) * ((((w41 1 0 1 1).getF (Reg.AO_CH_TRAW_R2 1) : Int)) - (((w41 1 0 1 1).getF (Reg.AO_CH_TRAW_R1 1) : Int))))) ((((w41 1 0 1 1).rd (Reg.AO_CH_TMEAS_2 1) : Int)) - (((w41 1 0 1 1).rd (Reg.AO_CH_TMEAS_1 1) : Int))).toNat).natAbs ≤ 512 * 256)) := by decide +kernel

theorem test_met_LoopTrimFromTwoPoints :
    (∃ (s : State) (n : Nat) (i : Iface) (v : Word) (p : Nat) (c : Instr), (s.shaped = true) ∧ (s.hostUp = true) ∧ (s.room 2 = true) ∧ (n < 8) ∧ (s.flag (Reg.AO_CH_CFG_SEALED n) = false) ∧ (s.level i = .engineer) ∧ (s.hasAo n = false) ∧ c ∈ [Instr.aoTrimControl i n v, .aoTrimMeasure i n p v, .aoTrimApply i n v]) ∧
    (∃ (s : State) (n : Nat) (i : Iface) (v : Word), (s.shaped = true) ∧ (s.hostUp = true) ∧ (s.room 2 = true) ∧ (n < 8) ∧ (s.flag (Reg.AO_CH_CFG_SEALED n) = false) ∧ (s.level i = .engineer) ∧ (s.hasAo n = true) ∧ (s.unwritten = true) ∧ (s.flag (Reg.AO_CH_TCTL_TRIM n) = false) ∧ (v.toNat.testBit 31 = true) ∧ (v.toNat.testBit 30 = false)) ∧
    (∃ (s : State) (n : Nat) (i : Iface) (v : Word) (r1 : Int) (r2 : Int) (m1 : Int) (m2 : Int) (g : Int) (o : Int), (r1 = (s.getF (Reg.AO_CH_TRAW_R1 n) : Int)) ∧ (r2 = (s.getF (Reg.AO_CH_TRAW_R2 n) : Int)) ∧ (m1 = (s.rd (Reg.AO_CH_TMEAS_1 n) : Int)) ∧ (m2 = (s.rd (Reg.AO_CH_TMEAS_2 n) : Int)) ∧ (g = roundAway (1536000000 * (r2 - r1)) (m2 - m1).toNat) ∧ (o = roundAway (256 * (r1 * (m2 - m1) - m1 * (r2 - r1))) (m2 - m1).toNat) ∧ (s.shaped = true) ∧ (s.hostUp = true) ∧ (s.room 2 = true) ∧ (n < 8) ∧ (s.flag (Reg.AO_CH_CFG_SEALED n) = false) ∧ (s.level i = .engineer) ∧ (s.hasAo n = true) ∧ (s.unwritten = true) ∧ (s.flag (Reg.AO_CH_TCTL_TRIM n) = true) ∧ (v.toNat.testBit 31 = true) ∧ ((s.ach n).seen1 = true) ∧ ((s.ach n).seen2 = true) ∧ (r1 + 32768 ≤ r2) ∧ (m1 < m2) ∧ (50 * (g - 2 ^ 22).natAbs ≤ 2 ^ 22) ∧ (o.natAbs ≤ 512 * 256)) ∧
    (∃ (s : State) (n : Nat) (i : Iface) (v : Word) (r1 : Int) (r2 : Int) (m1 : Int) (m2 : Int), (r1 = (s.getF (Reg.AO_CH_TRAW_R1 n) : Int)) ∧ (r2 = (s.getF (Reg.AO_CH_TRAW_R2 n) : Int)) ∧ (m1 = (s.rd (Reg.AO_CH_TMEAS_1 n) : Int)) ∧ (m2 = (s.rd (Reg.AO_CH_TMEAS_2 n) : Int)) ∧ (s.shaped = true) ∧ (s.hostUp = true) ∧ (s.room 2 = true) ∧ (n < 8) ∧ (s.flag (Reg.AO_CH_CFG_SEALED n) = false) ∧ (s.level i = .engineer) ∧ (s.hasAo n = true) ∧ (s.unwritten = true) ∧ (s.flag (Reg.AO_CH_TCTL_TRIM n) = true) ∧ (v.toNat.testBit 31 = true) ∧ ((s.ach n).seen1 = false ∨ (s.ach n).seen2 = false)) :=
  ⟨⟨w41 3 0 1 0, 7, Iface.spi, 0x00000000#32, 28, Instr.aoTrimMeasure (Iface.spi) 7 28 0x00000000#32, test_at_41_0.1⟩,
   ⟨w41 3 0 1 0, 3, Iface.pcie, 0xbf7a6731#32, test_at_41_0.2.1⟩,
   ⟨w41 1 0 1 1, 1, Iface.spi, 0xd5f69adc#32, _, _, _, _, _, _, rfl, rfl, rfl, rfl, rfl, rfl, test_at_41_1⟩,
   ⟨w41 3 0 1 0, 1, Iface.pcie, 0x8b3f163c#32, _, _, _, _, rfl, rfl, rfl, rfl, test_at_41_0.2.2⟩⟩

/-- States for the statement RideThroughFollowsTheEnergy. -/
def w42 (z x0 x1 x2 x3 x4 : Nat) : State :=
  let s := wBase z
  let cap : Nat := x0
  let pr : Nat := x1
  let b : Nat := x2
  let s := levels (onAll s) .engineer
  let s := { s with tm := { s.tm with runt := 2 ^ 70 }, pwr := { s.pwr with unpowered := false, endSeq := none, warmBusy := false, vinGoodAt := 2 ^ 69, heldReset := none } }
  let s := ((((s.wr Reg.PWR_HOLD_CAP cap).wr Reg.PWR_HOLD_VMIN 20000).wr Reg.PWR_GOV_THR_F 16000).wr Reg.PWR_GOV_THR_L 10000).wr Reg.PWR_GOV_THR_S 200
  let s := (s.setF Reg.PWR_STAT_PROFILE pr).wr Reg.PWR_HOLD_VSET 48000
  let v : Nat := [0, 1, 1, 1].getD x3 0
  let hc : Nat := x4
  let s := if hc = 0 then s else s.wr Reg.PWR_HOLD_CAP 2000000000
  let s := (s.setF Reg.PWR_STAT_VIN_OK v).setF Reg.PWR_STAT_RIDE b
  let s := { s with pwr := { s.pwr with clockPending := if b = 1 then some 2 else none } }
  s

theorem test_at_42_0 :
    (((w42 0 95962 1 0 1 1).shaped = true) ∧ ((w42 0 95962 1 0 1 1).room 100 = true) ∧ ((w42 0 95962 1 0 1 1).powered = true) ∧ ((w42 0 95962 1 0 1 1).flag Reg.PWR_STAT_VIN_OK = true) ∧ ((w42 0 95962 1 0 1 1).flag Reg.PWR_STAT_RIDE = false) ∧ ((w42 0 95962 1 0 1 1).rd Reg.PWR_GOV_THR_S < (w42 0 95962 1 0 1 1).holdE 1155890719 % 2 ^ 32)) ∧
    (((w42 0 95962 1 0 1 1).shaped = true) ∧ ((w42 0 95962 1 0 1 1).room 100 = true) ∧ ((w42 0 95962 1 0 1 1).powered = true) ∧ ((w42 0 95962 1 0 1 1).flag Reg.PWR_STAT_VIN_OK = true)) := by decide +kernel

theorem test_at_42_1 :
    (((w42 1 21651 0 1 0 1).shaped = true) ∧ ((w42 1 21651 0 1 0 1).room 100 = true) ∧ ((w42 1 21651 0 1 0 1).powered = true) ∧ ((w42 1 21651 0 1 0 1).flag Reg.PWR_STAT_RIDE = true) ∧ ((w42 1 21651 0 1 0 1).flag Reg.PWR_STAT_VIN_OK = false) ∧ ((w42 1 21651 0 1 0 1).expired (w42 1 21651 0 1 0 1).pwr.sampleAt 100000 = true) ∧ ((w42 1 21651 0 1 0 1).rd Reg.PWR_GOV_THR_S < (w42 1 21651 0 1 0 1).holdE 2097712 % 2 ^ 32)) ∧
    (((w42 1 21651 0 1 0 1).shaped = true) ∧ ((w42 1 21651 0 1 0 1).room 100 = true) ∧ ((w42 1 21651 0 1 0 1).powered = true) ∧ ((w42 1 21651 0 1 0 1).flag Reg.PWR_STAT_RIDE = true) ∧ ((w42 1 21651 0 1 0 1).flag Reg.PWR_STAT_VIN_OK = false) ∧ ((w42 1 21651 0 1 0 1).expired (w42 1 21651 0 1 0 1).pwr.sampleAt 100000 = true) ∧ ((w42 1 21651 0 1 0 1).holdE 3281 % 2 ^ 32 ≤ (w42 1 21651 0 1 0 1).rd Reg.PWR_GOV_THR_S)) ∧
    (((w42 1 21651 0 1 0 1).shaped = true) ∧ ((w42 1 21651 0 1 0 1).room 100 = true) ∧ ((w42 1 21651 0 1 0 1).powered = true) ∧ ((w42 1 21651 0 1 0 1).pwr.clockPending = some 2) ∧ (((w42 1 21651 0 1 0 1).pwr.parts.any fun p => (p.st == .stopping && p.shedAfter) || (p.st == .shed && p.since == (w42 1 21651 0 1 0 1).tm.runt && (w42 1 21651 0 1 0 1).tm.runt != 0)) = false)) := by decide +kernel

theorem test_at_42_2 :
    (((w42 0 2024 0 1 1 1).shaped = true) ∧ ((w42 0 2024 0 1 1 1).room 100 = true) ∧ ((w42 0 2024 0 1 1 1).powered = true) ∧ ((w42 0 2024 0 1 1 1).flag Reg.PWR_STAT_RIDE = true) ∧ ((w42 0 2024 0 1 1 1).flag Reg.PWR_STAT_VIN_OK = true) ∧ ((w42 0 2024 0 1 1 1).expired (w42 0 2024 0 1 1 1).pwr.vinGoodAt 20000000 = true) ∧ ((w42 0 2024 0 1 1 1).pwr.heldReset = none)) := by decide +kernel

theorem test_met_RideThroughFollowsTheEnergy :
    (∃ (s : State) (h : Nat), (s.shaped = true) ∧ (s.room 100 = true) ∧ (s.powered = true) ∧ (s.flag Reg.PWR_STAT_VIN_OK = true) ∧ (s.flag Reg.PWR_STAT_RIDE = false) ∧ (s.rd Reg.PWR_GOV_THR_S < s.holdE h % 2 ^ 32)) ∧
    (∃ (s : State) (h : Nat), (s.shaped = true) ∧ (s.room 100 = true) ∧ (s.powered = true) ∧ (s.flag Reg.PWR_STAT_RIDE = true) ∧ (s.flag Reg.PWR_STAT_VIN_OK = false) ∧ (s.expired s.pwr.sampleAt 100000 = true) ∧ (s.rd Reg.PWR_GOV_THR_S < s.holdE h % 2 ^ 32)) ∧
    (∃ (s : State) (h : Nat), (s.shaped = true) ∧ (s.room 100 = true) ∧ (s.powered = true) ∧ (s.flag Reg.PWR_STAT_RIDE = true) ∧ (s.flag Reg.PWR_STAT_VIN_OK = false) ∧ (s.expired s.pwr.sampleAt 100000 = true) ∧ (s.holdE h % 2 ^ 32 ≤ s.rd Reg.PWR_GOV_THR_S)) ∧
    (∃ (s : State), (s.shaped = true) ∧ (s.room 100 = true) ∧ (s.powered = true) ∧ (s.flag Reg.PWR_STAT_RIDE = true) ∧ (s.flag Reg.PWR_STAT_VIN_OK = true) ∧ (s.expired s.pwr.vinGoodAt 20000000 = true) ∧ (s.pwr.heldReset = none)) ∧
    (∃ (s : State) (d : Nat), (s.shaped = true) ∧ (s.room 100 = true) ∧ (s.powered = true) ∧ (s.pwr.clockPending = some d) ∧ ((s.pwr.parts.any fun p => (p.st == .stopping && p.shedAfter) || (p.st == .shed && p.since == s.tm.runt && s.tm.runt != 0)) = false)) ∧
    (∃ (s : State) (h : Nat) (v : Nat), (s.shaped = true) ∧ (s.room 100 = true) ∧ (s.powered = true) ∧ (s.flag Reg.PWR_STAT_VIN_OK = true)) :=
  ⟨⟨w42 0 95962 1 0 1 1, 1155890719, test_at_42_0.1⟩,
   ⟨w42 1 21651 0 1 0 1, 2097712, test_at_42_1.1⟩,
   ⟨w42 1 21651 0 1 0 1, 3281, test_at_42_1.2.1⟩,
   ⟨w42 0 2024 0 1 1 1, test_at_42_2⟩,
   ⟨w42 1 21651 0 1 0 1, 2, test_at_42_1.2.2⟩,
   ⟨w42 0 95962 1 0 1 1, 2, 4194564, test_at_42_0.2⟩⟩

/-- States for the statement UnitsPassTheirStates. -/
def w43 (z x0 x1 x2 x3 x4 x5 x6 x7 x8 : Nat) : State :=
  let s := wBase z
  let cap : Nat := x0
  let pr : Nat := x1
  let b : Nat := x2
  let s := levels (onAll s) .engineer
  let s := { s with tm := { s.tm with runt := 2 ^ 70 }, pwr := { s.pwr with unpowered := false, endSeq := none, warmBusy := false, vinGoodAt := 2 ^ 69, heldReset := none } }
  let s := ((((s.wr Reg.PWR_HOLD_CAP cap).wr Reg.PWR_HOLD_VMIN 20000).wr Reg.PWR_GOV_THR_F 16000).wr Reg.PWR_GOV_THR_L 10000).wr Reg.PWR_GOV_THR_S 200
  let s := (s.setF Reg.PWR_STAT_PROFILE pr).wr Reg.PWR_HOLD_VSET 48000
  let idn : Nat := x3
  let id := partIds.getD idn 0
  let st := if x4 = 0 then PartState.off else if x4 = 1 then .waiting else if x4 = 2 then .starting else if x4 = 3 then .on else if x4 = 4 then .stopping else .shed
  let slot : Nat := x5
  let dn : Nat := x6
  let f : Nat := x7
  let all : Nat := x8
  let s := s.setPart id fun p => { p with st := st, since := 5, conf := decide (f ≠ 0) }
  let s := if all = 0 then { s with pwr := { s.pwr with parts := s.pwr.parts.map fun p => { p with st := .waiting } } } else s
  let s := { s with pwr := { s.pwr with nextSlot := slot, slotShift := 0, lastStart := 3 } }
  let s := (s.setF Reg.PWR_STAT_STAG_DONE dn).setF Reg.PWR_STAT_PROFILE 0
  let s := Blk.all.foldl (fun (s : State) b => s.setF (Reg.UNIT_CTL_ENABLE b) dn) s
  s

theorem test_at_43_0 :
    (((w43 0 66550 1 1 23 4 18 1 2 2).shaped = true) ∧ ((w43 0 66550 1 1 23 4 18 1 2 2).room 100 = true) ∧ ((w43 0 66550 1 1 23 4 18 1 2 2).powered = true) ∧ ((w43 0 66550 1 1 23 4 18 1 2 2).profile = 0) ∧ (((w43 0 66550 1 1 23 4 18 1 2 2).pwr.parts.all fun p => !p.refire && p.heldEnable.isNone) = true) ∧ (((w43 0 66550 1 1 23 4 18 1 2 2).pwr.nextSlot) < 25) ∧ ((w43 0 66550 1 1 23 4 18 1 2 2).slotAt ((w43 0 66550 1 1 23 4 18 1 2 2).pwr.nextSlot) ≤ (w43 0 66550 1 1 23 4 18 1 2 2).tm.runt) ∧ (((w43 0 66550 1 1 23 4 18 1 2 2).pwr.nextSlot) = 0 ∨ (w43 0 66550 1 1 23 4 18 1 2 2).settled (((w43 0 66550 1 1 23 4 18 1 2 2).pwr.nextSlot) - 1) = true)) ∧
    (((w43 0 66550 1 1 23 4 18 1 2 2).shaped = true) ∧ ((w43 0 66550 1 1 23 4 18 1 2 2).room 100 = true) ∧ ((w43 0 66550 1 1 23 4 18 1 2 2).powered = true) ∧ ((w43 0 66550 1 1 23 4 18 1 2 2).profile = 0) ∧ (((w43 0 66550 1 1 23 4 18 1 2 2).pwr.parts.all fun p => !p.refire && p.heldEnable.isNone) = true) ∧ (Blk.evt : Blk) ∈ Blk.all ∧ (alwaysOn (Blk.evt : Blk) = false) ∧ ((w43 0 66550 1 1 23 4 18 1 2 2).hostUp = true) ∧ ((w43 0 66550 1 1 23 4 18 1 2 2).level (Iface.spi : Iface) = .engineer) ∧ ((0x00000004#32 : Word).toNat % 2 = 0) ∧ ((w43 0 66550 1 1 23 4 18 1 2 2).flag (Reg.UNIT_CTL_ENABLE (Blk.evt : Blk)) = true)) ∧
    (((w43 0 66550 1 1 23 4 18 1 2 2).shaped = true) ∧ ((w43 0 66550 1 1 23 4 18 1 2 2).room 100 = true) ∧ ((w43 0 66550 1 1 23 4 18 1 2 2).powered = true) ∧ ((w43 0 66550 1 1 23 4 18 1 2 2).profile = 0) ∧ (((w43 0 66550 1 1 23 4 18 1 2 2).pwr.parts.all fun p => !p.refire && p.heldEnable.isNone) = true) ∧ 8200 ∈ partIds ∧ ((w43 0 66550 1 1 23 4 18 1 2 2).partSt 8200 = .stopping) ∧ (((w43 0 66550 1 1 23 4 18 1 2 2).part 8200).any (fun p => !p.shedAfter) = true)) := by decide +kernel

theorem test_at_43_1 :
    (((w43 2 99072 2 1 43 2 22 0 2 2).shaped = true) ∧ ((w43 2 99072 2 1 43 2 22 0 2 2).room 100 = true) ∧ ((w43 2 99072 2 1 43 2 22 0 2 2).powered = true) ∧ ((w43 2 99072 2 1 43 2 22 0 2 2).profile = 0) ∧ (((w43 2 99072 2 1 43 2 22 0 2 2).pwr.parts.all fun p => !p.refire && p.heldEnable.isNone) = true) ∧ 12352 ∈ partIds ∧ (12352 ≠ secKln) ∧ (isFeeder 12352 = false) ∧ ((w43 2 99072 2 1 43 2 22 0 2 2).partSt 12352 = .starting)) ∧
    (((w43 2 99072 2 1 43 2 22 0 2 2).shaped = true) ∧ ((w43 2 99072 2 1 43 2 22 0 2 2).room 100 = true) ∧ ((w43 2 99072 2 1 43 2 22 0 2 2).powered = true) ∧ ((w43 2 99072 2 1 43 2 22 0 2 2).profile = 0) ∧ (((w43 2 99072 2 1 43 2 22 0 2 2).pwr.parts.all fun p => !p.refire && p.heldEnable.isNone) = true) ∧ (Blk.hkc : Blk) ∈ Blk.all ∧ (alwaysOn (Blk.hkc : Blk) = false) ∧ ((w43 2 99072 2 1 43 2 22 0 2 2).hostUp = true) ∧ ((w43 2 99072 2 1 43 2 22 0 2 2).level (Iface.pcie : Iface) = .engineer) ∧ ((0x00000001#32 : Word).toNat % 2 = 1) ∧ ((w43 2 99072 2 1 43 2 22 0 2 2).flag (Reg.UNIT_CTL_ENABLE (Blk.hkc : Blk)) = false)) := by decide +kernel

theorem test_at_43_2 :
    (((w43 2 93346 0 0 13 2 11 1 3 2).shaped = true) ∧ ((w43 2 93346 0 0 13 2 11 1 3 2).room 100 = true) ∧ ((w43 2 93346 0 0 13 2 11 1 3 2).powered = true) ∧ ((w43 2 93346 0 0 13 2 11 1 3 2).profile = 0) ∧ (((w43 2 93346 0 0 13 2 11 1 3 2).pwr.parts.all fun p => !p.refire && p.heldEnable.isNone) = true) ∧ 4103 ∈ partIds ∧ ((w43 2 93346 0 0 13 2 11 1 3 2).partSt 4103 = .starting) ∧ (((w43 2 93346 0 0 13 2 11 1 3 2).part 4103).any (fun p => !p.failed && (w43 2 93346 0 0 13 2 11 1 3 2).expired p.since (4 * (w43 2 93346 0 0 13 2 11 1 3 2).startNs 4103)) = true)) := by decide +kernel

theorem test_at_43_3 :
    (((w43 2 23262 0 1 0 0 13 1 3 0).shaped = true) ∧ ((w43 2 23262 0 1 0 0 13 1 3 0).room 100 = true) ∧ ((w43 2 23262 0 1 0 0 13 1 3 0).powered = true) ∧ ((w43 2 23262 0 1 0 0 13 1 3 0).profile = 0) ∧ (((w43 2 23262 0 1 0 0 13 1 3 0).pwr.parts.all fun p => !p.refire && p.heldEnable.isNone) = true) ∧ ((((w43 2 23262 0 1 0 0 13 1 3 0).startable.map fun p => (w43 2 23262 0 1 0 0 13 1 3 0).slotOf p.id).foldl min 25) < 25) ∧ ((w43 2 23262 0 1 0 0 13 1 3 0).flag Reg.PWR_STAT_STAG_DONE = true) ∧ ((w43 2 23262 0 1 0 0 13 1 3 0).expired (w43 2 23262 0 1 0 0 13 1 3 0).pwr.lastStart ((w43 2 23262 0 1 0 0 13 1 3 0).getF Reg.PWR_STAG_GAP * 1000000) = true)) := by decide +kernel

theorem test_met_UnitsPassTheirStates :
    (∃ (s : State) (u : Nat), (u = s.pwr.nextSlot) ∧ (s.shaped = true) ∧ (s.room 100 = true) ∧ (s.powered = true) ∧ (s.profile = 0) ∧ ((s.pwr.parts.all fun p => !p.refire && p.heldEnable.isNone) = true) ∧ (u < 25) ∧ (s.slotAt u ≤ s.tm.runt) ∧ (u = 0 ∨ s.settled (u - 1) = true)) ∧
    (∃ (s : State) (id : Nat) (cal : List (Int × Nat)), (s.shaped = true) ∧ (s.room 100 = true) ∧ (s.powered = true) ∧ (s.profile = 0) ∧ ((s.pwr.parts.all fun p => !p.refire && p.heldEnable.isNone) = true) ∧ id ∈ partIds ∧ (id ≠ secKln) ∧ (isFeeder id = false) ∧ (s.partSt id = .starting)) ∧
    (∃ (s : State) (id : Nat), (s.shaped = true) ∧ (s.room 100 = true) ∧ (s.powered = true) ∧ (s.profile = 0) ∧ ((s.pwr.parts.all fun p => !p.refire && p.heldEnable.isNone) = true) ∧ id ∈ partIds ∧ (s.partSt id = .starting) ∧ ((s.part id).any (fun p => !p.failed && s.expired p.since (4 * s.startNs id)) = true)) ∧
    (∃ (s : State) (i : Iface) (v : Word) (b : Blk), (s.shaped = true) ∧ (s.room 100 = true) ∧ (s.powered = true) ∧ (s.profile = 0) ∧ ((s.pwr.parts.all fun p => !p.refire && p.heldEnable.isNone) = true) ∧ b ∈ Blk.all ∧ (alwaysOn b = false) ∧ (s.hostUp = true) ∧ (s.level i = .engineer) ∧ (v.toNat % 2 = 1) ∧ (s.flag (Reg.UNIT_CTL_ENABLE b) = false)) ∧
    (∃ (s : State) (i : Iface) (v : Word) (b : Blk), (s.shaped = true) ∧ (s.room 100 = true) ∧ (s.powered = true) ∧ (s.profile = 0) ∧ ((s.pwr.parts.all fun p => !p.refire && p.heldEnable.isNone) = true) ∧ b ∈ Blk.all ∧ (alwaysOn b = false) ∧ (s.hostUp = true) ∧ (s.level i = .engineer) ∧ (v.toNat % 2 = 0) ∧ (s.flag (Reg.UNIT_CTL_ENABLE b) = true)) ∧
    (∃ (s : State) (id : Nat), (s.shaped = true) ∧ (s.room 100 = true) ∧ (s.powered = true) ∧ (s.profile = 0) ∧ ((s.pwr.parts.all fun p => !p.refire && p.heldEnable.isNone) = true) ∧ id ∈ partIds ∧ (s.partSt id = .stopping) ∧ ((s.part id).any (fun p => !p.shedAfter) = true)) ∧
    (∃ (s : State) (u : Nat), (u = (s.startable.map fun p => s.slotOf p.id).foldl min 25) ∧ (s.shaped = true) ∧ (s.room 100 = true) ∧ (s.powered = true) ∧ (s.profile = 0) ∧ ((s.pwr.parts.all fun p => !p.refire && p.heldEnable.isNone) = true) ∧ (u < 25) ∧ (s.flag Reg.PWR_STAT_STAG_DONE = true) ∧ (s.expired s.pwr.lastStart (s.getF Reg.PWR_STAG_GAP * 1000000) = true)) :=
  ⟨⟨w43 0 66550 1 1 23 4 18 1 2 2, _, rfl, test_at_43_0.1⟩,
   ⟨w43 2 99072 2 1 43 2 22 0 2 2, 12352, [(412, 4293438289), (1, 30), (-9437384, 17), (6, 2), (112, 8892891477217235336)], test_at_43_1.1⟩,
   ⟨w43 2 93346 0 0 13 2 11 1 3 2, 4103, test_at_43_2⟩,
   ⟨w43 2 99072 2 1 43 2 22 0 2 2, Iface.pcie, 0x00000001#32, Blk.hkc, test_at_43_1.2⟩,
   ⟨w43 0 66550 1 1 23 4 18 1 2 2, Iface.spi, 0x00000004#32, Blk.evt, test_at_43_0.2.1⟩,
   ⟨w43 0 66550 1 1 23 4 18 1 2 2, 8200, test_at_43_0.2.2⟩,
   ⟨w43 2 23262 0 1 0 0 13 1 3 0, _, rfl, test_at_43_3⟩⟩

/-- States for the statement ResetsKeepWhatTheyMust. -/
def w44 (z x0 x1 x2 x3 x4 x5 x6 x7 : Nat) : State :=
  let s := wBase z
  let cap : Nat := x0
  let pr : Nat := x1
  let b : Nat := x2
  let s := levels (onAll s) .engineer
  let s := { s with tm := { s.tm with runt := 2 ^ 70 }, pwr := { s.pwr with unpowered := false, endSeq := none, warmBusy := false, vinGoodAt := 2 ^ 69, heldReset := none } }
  let s := ((((s.wr Reg.PWR_HOLD_CAP cap).wr Reg.PWR_HOLD_VMIN 20000).wr Reg.PWR_GOV_THR_F 16000).wr Reg.PWR_GOV_THR_L 10000).wr Reg.PWR_GOV_THR_S 200
  let s := (s.setF Reg.PWR_STAT_PROFILE pr).wr Reg.PWR_HOLD_VSET 48000
  let un : Nat := x3
  let es := if x4 = 0 then none else if x4 = 1 then some EndCause.ride else if x4 = 2 then some EndCause.cold else some EndCause.standby
  let w : Nat := x5
  let v : Nat := x6
  let hr := if x7 = 0 then none else if x7 = 1 then some (false, 1) else some (true, 0)
  let s := ((s.setF Reg.PWR_STAT_RIDE (if b = 1 then 1 else 0)).setF Reg.PWR_STAT_VIN_OK v).setF Reg.KLN_STAT_BUSY (if w = 1 then (if cap % 5 = 0 then 1 else 0) else 0)
  let s := { s with pwr := { s.pwr with unpowered := decide (un = 1), standby := decide (w = 1), endSeq := if un = 1 || cap % 3 = 0 then es else none, warmBusy := decide (cap % 7 = 1 ∧ un = 0), heldReset := hr } }
  s

theorem test_at_44_0 :
    (((w44 1 82960 2 0 0 3 1 0 1).shaped = true) ∧ ((w44 1 82960 2 0 0 3 1 0 1).room 100 = true) ∧ (0 < 99999) ∧ ((w44 1 82960 2 0 0 3 1 0 1).powered = true) ∧ ((w44 1 82960 2 0 0 3 1 0 1).rideHeld = false) ∧ (99999 < 100000) ∧ ((w44 1 82960 2 0 0 3 1 0 1).warmHeld = false) ∧ ((w44 1 82960 2 0 0 3 1 0 1).pwr.warmBusy = false)) ∧
    (((w44 1 82960 2 0 0 3 1 0 1).shaped = true) ∧ ((w44 1 82960 2 0 0 3 1 0 1).room 100 = true) ∧ (0 < 9437448) ∧ ((w44 1 82960 2 0 0 3 1 0 1).powered = true) ∧ ((w44 1 82960 2 0 0 3 1 0 1).rideHeld = false) ∧ (100000 ≤ 9437448)) ∧
    (((w44 1 82960 2 0 0 3 1 0 1).shaped = true) ∧ ((w44 1 82960 2 0 0 3 1 0 1).room 100 = true) ∧ ((w44 1 82960 2 0 0 3 1 0 1).hostUp = true) ∧ ((w44 1 82960 2 0 0 3 1 0 1).level (Iface.spi : Iface) = .engineer) ∧ ((w44 1 82960 2 0 0 3 1 0 1).powered = true) ∧ ((0x00000001#32 : Word).toNat % 8 < 2) ∧ ((w44 1 82960 2 0 0 3 1 0 1).rideHeld = false) ∧ ((w44 1 82960 2 0 0 3 1 0 1).warmHeld = false)) ∧
    (((w44 1 82960 2 0 0 3 1 0 1).shaped = true) ∧ ((w44 1 82960 2 0 0 3 1 0 1).room 100 = true) ∧ ((w44 1 82960 2 0 0 3 1 0 1).hostUp = true) ∧ ((w44 1 82960 2 0 0 3 1 0 1).level (Iface.pcie : Iface) = .engineer) ∧ ((w44 1 82960 2 0 0 3 1 0 1).powered = true) ∧ ((0x00000001#32 : Word).toNat % 8 < 4) ∧ ((w44 1 82960 2 0 0 3 1 0 1).rideHeld = false)) ∧
    (((w44 1 82960 2 0 0 3 1 0 1).shaped = true) ∧ ((w44 1 82960 2 0 0 3 1 0 1).room 100 = true) ∧ ((w44 1 82960 2 0 0 3 1 0 1).pwr.heldReset = some ((false, 1) : Bool × Nat)) ∧ (((false, 1) : Bool × Nat).1 = false) ∧ ((w44 1 82960 2 0 0 3 1 0 1).powered = true) ∧ ((w44 1 82960 2 0 0 3 1 0 1).rideHeld = false) ∧ ((w44 1 82960 2 0 0 3 1 0 1).warmHeld = false) ∧ ((w44 1 82960 2 0 0 3 1 0 1).pwr.warmBusy = false)) := by decide +kernel

theorem test_at_44_1 :
    (((w44 2 87398 0 1 0 1 0 0 0).shaped = true) ∧ ((w44 2 87398 0 1 0 1 0 0 0).room 100 = true) ∧ ((w44 2 87398 0 1 0 1 0 0 0).hostUp = true) ∧ ((w44 2 87398 0 1 0 1 0 0 0).level (Iface.spi : Iface) = .engineer) ∧ ((w44 2 87398 0 1 0 1 0 0 0).powered = true) ∧ ((0x00000959#32 : Word).toNat % 8 < 2) ∧ ((w44 2 87398 0 1 0 1 0 0 0).rideHeld = true ∨ (w44 2 87398 0 1 0 1 0 0 0).warmHeld = true) ∧ ((w44 2 87398 0 1 0 1 0 0 0).pwr.heldReset.all (fun h => !h.1) = true)) := by decide +kernel

theorem test_at_44_2 :
    (((w44 0 66984 0 0 0 2 0 0 2).shaped = true) ∧ ((w44 0 66984 0 0 0 2 0 0 2).room 100 = true) ∧ ((w44 0 66984 0 0 0 2 0 0 2).pwr.warmBusy = true)) ∧
    (((w44 0 66984 0 0 0 2 0 0 2).shaped = true) ∧ ((w44 0 66984 0 0 0 2 0 0 2).room 100 = true) ∧ ((w44 0 66984 0 0 0 2 0 0 2).pwr.endSeq = some (EndCause.cold : EndCause)) ∧ ((w44 0 66984 0 0 0 2 0 0 2).pwr.unpowered = false)) := by decide +kernel

theorem test_at_44_3 :
    (((w44 1 15904 0 0 1 0 0 0 0).shaped = true) ∧ ((w44 1 15904 0 0 1 0 0 0 0).room 100 = true) ∧ ((w44 1 15904 0 0 1 0 0 0 0).flag Reg.PWR_STAT_VIN_OK = false) ∧ ((w44 1 15904 0 0 1 0 0 0 0).pwr.unpowered = true)) := by decide +kernel

theorem test_at_44_4 :
    (((w44 1 23380 1 0 0 1 0 0 2).shaped = true) ∧ ((w44 1 23380 1 0 0 1 0 0 2).room 100 = true) ∧ ((w44 1 23380 1 0 0 1 0 0 2).pwr.heldReset = some ((true, 0) : Bool × Nat)) ∧ (((true, 0) : Bool × Nat).1 = true) ∧ ((w44 1 23380 1 0 0 1 0 0 2).flag Reg.PWR_STAT_VIN_OK = false) ∧ ((w44 1 23380 1 0 0 1 0 0 2).powered = true)) := by decide +kernel

theorem test_at_44_5 :
    (((w44 1 82960 2 0 0 3 1 0 1).shaped = true) ∧ ((w44 1 82960 2 0 0 3 1 0 1).room 100 = true) ∧ ((w44 1 82960 2 0 0 3 1 0 1).flag Reg.PWR_STAT_VIN_OK = false) ∧ ((w44 1 82960 2 0 0 3 1 0 1).pwr.unpowered = false) ∧ ((w44 1 82960 2 0 0 3 1 0 1).pwr.heldReset.all (fun h => !h.1) = true)) := by decide +kernel

theorem test_at_44_6 :
    (((w44 2 22148 0 0 1 0 1 1 1).shaped = true) ∧ ((w44 2 22148 0 0 1 0 1 1 1).room 100 = true) ∧ ((w44 2 22148 0 0 1 0 1 1 1).pwr.unpowered = true) ∧ ((w44 2 22148 0 0 1 0 1 1 1).pwr.standby = true) ∧ ((w44 2 22148 0 0 1 0 1 1 1).flag Reg.PWR_STAT_VIN_OK = true)) := by decide +kernel

theorem test_met_ResetsKeepWhatTheyMust :
    (∃ (s : State) (us : Nat), (s.shaped = true) ∧ (s.room 100 = true) ∧ (0 < us) ∧ (s.powered = true) ∧ (s.rideHeld = false) ∧ (us < 100000) ∧ (s.warmHeld = false) ∧ (s.pwr.warmBusy = false)) ∧
    (∃ (s : State) (us : Nat), (s.shaped = true) ∧ (s.room 100 = true) ∧ (0 < us) ∧ (s.powered = true) ∧ (s.rideHeld = false) ∧ (100000 ≤ us)) ∧
    (∃ (s : State) (i : Iface) (v : Word), (s.shaped = true) ∧ (s.room 100 = true) ∧ (s.hostUp = true) ∧ (s.level i = .engineer) ∧ (s.powered = true) ∧ (v.toNat % 8 < 2) ∧ (s.rideHeld = true ∨ s.warmHeld = true) ∧ (s.pwr.heldReset.all (fun h => !h.1) = true)) ∧
    (∃ (s : State) (i : Iface) (v : Word), (s.shaped = true) ∧ (s.room 100 = true) ∧ (s.hostUp = true) ∧ (s.level i = .engineer) ∧ (s.powered = true) ∧ (v.toNat % 8 < 2) ∧ (s.rideHeld = false) ∧ (s.warmHeld = false)) ∧
    (∃ (s : State) (i : Iface) (v : Word), (s.shaped = true) ∧ (s.room 100 = true) ∧ (s.hostUp = true) ∧ (s.level i = .engineer) ∧ (s.powered = true) ∧ (v.toNat % 8 < 4) ∧ (s.rideHeld = false)) ∧
    (∃ (s : State) (h : Bool × Nat), (s.shaped = true) ∧ (s.room 100 = true) ∧ (s.pwr.heldReset = some h) ∧ (h.1 = false) ∧ (s.powered = true) ∧ (s.rideHeld = false) ∧ (s.warmHeld = false) ∧ (s.pwr.warmBusy = false)) ∧
    (∃ (s : State), (s.shaped = true) ∧ (s.room 100 = true) ∧ (s.pwr.warmBusy = true)) ∧
    (∃ (s : State) (c : EndCause), (s.shaped = true) ∧ (s.room 100 = true) ∧ (s.pwr.endSeq = some c) ∧ (s.pwr.unpowered = false)) ∧
    (∃ (s : State), (s.shaped = true) ∧ (s.room 100 = true) ∧ (s.flag Reg.PWR_STAT_VIN_OK = false) ∧ (s.pwr.unpowered = true)) ∧
    (∃ (s : State) (h : Bool × Nat), (s.shaped = true) ∧ (s.room 100 = true) ∧ (s.pwr.heldReset = some h) ∧ (h.1 = true) ∧ (s.flag Reg.PWR_STAT_VIN_OK = false) ∧ (s.powered = true)) ∧
    (∃ (s : State), (s.shaped = true) ∧ (s.room 100 = true) ∧ (s.flag Reg.PWR_STAT_VIN_OK = false) ∧ (s.pwr.unpowered = false) ∧ (s.pwr.heldReset.all (fun h => !h.1) = true)) ∧
    (∃ (s : State), (s.shaped = true) ∧ (s.room 100 = true) ∧ (s.pwr.unpowered = true) ∧ (s.pwr.standby = true) ∧ (s.flag Reg.PWR_STAT_VIN_OK = true)) :=
  ⟨⟨w44 1 82960 2 0 0 3 1 0 1, 99999, test_at_44_0.1⟩,
   ⟨w44 1 82960 2 0 0 3 1 0 1, 9437448, test_at_44_0.2.1⟩,
   ⟨w44 2 87398 0 1 0 1 0 0 0, Iface.spi, 0x00000959#32, test_at_44_1⟩,
   ⟨w44 1 82960 2 0 0 3 1 0 1, Iface.spi, 0x00000001#32, test_at_44_0.2.2.1⟩,
   ⟨w44 1 82960 2 0 0 3 1 0 1, Iface.pcie, 0x00000001#32, test_at_44_0.2.2.2.1⟩,
   ⟨w44 1 82960 2 0 0 3 1 0 1, (false, 1), test_at_44_0.2.2.2.2⟩,
   ⟨w44 0 66984 0 0 0 2 0 0 2, test_at_44_2.1⟩,
   ⟨w44 0 66984 0 0 0 2 0 0 2, EndCause.cold, test_at_44_2.2⟩,
   ⟨w44 1 15904 0 0 1 0 0 0 0, test_at_44_3⟩,
   ⟨w44 1 23380 1 0 0 1 0 0 2, (true, 0), test_at_44_4⟩,
   ⟨w44 1 82960 2 0 0 3 1 0 1, test_at_44_5⟩,
   ⟨w44 2 22148 0 0 1 0 1 1 1, test_at_44_6⟩⟩

/-- States for the statement ForcedProfilesClockAndBattery. -/
def w45 (z x0 x1 x2 x3 x4 x5 : Nat) : State :=
  let s := wBase z
  let cap : Nat := x0
  let pr : Nat := x1
  let b : Nat := x2
  let s := levels (onAll s) .engineer
  let s := { s with tm := { s.tm with runt := 2 ^ 70 }, pwr := { s.pwr with unpowered := false, endSeq := none, warmBusy := false, vinGoodAt := 2 ^ 69, heldReset := none } }
  let s := ((((s.wr Reg.PWR_HOLD_CAP cap).wr Reg.PWR_HOLD_VMIN 20000).wr Reg.PWR_GOV_THR_F 16000).wr Reg.PWR_GOV_THR_L 10000).wr Reg.PWR_GOV_THR_S 200
  let s := (s.setF Reg.PWR_STAT_PROFILE pr).wr Reg.PWR_HOLD_VSET 48000
  let v : Nat := [1, 1, 1, 0].getD x3 0
  let l : Nat := x4
  let k : Nat := [clkLocked, clkHold, 0].getD x5 0
  let s := ((s.setF Reg.PWR_STAT_RIDE 0).setF Reg.PWR_STAT_VIN_OK v).setF Reg.PWR_VBAT_LOW l
  let s := s.setF Reg.TBU_STAT_STATE k
  let s := { s with tm := { s.tm with time := 7 * sec32 + 5, prev := (if b = 0 then 7 * sec32 else 7 * sec32 - 1) }, pwr := { s.pwr with vbatAt := if b = 0 then none else some 0 } }
  s

theorem test_at_45_0 :
    (((w45 0 99563 2 1 0 0 1).shaped = true) ∧ ((w45 0 99563 2 1 0 0 1).room 100 = true) ∧ ((w45 0 99563 2 1 0 0 1).powered = true) ∧ ((w45 0 99563 2 1 0 0 1).flag Reg.PWR_STAT_VIN_OK = true) ∧ ((w45 0 99563 2 1 0 0 1).hostUp = true) ∧ ((w45 0 99563 2 1 0 0 1).level (Iface.spi : Iface) = .engineer) ∧ ((w45 0 99563 2 1 0 0 1).flag Reg.PWR_STAT_RIDE = false) ∧ ((0x00008dd2#32 : Word).toNat % 4 ≠ 3)) ∧
    (((w45 0 99563 2 1 0 0 1).shaped = true) ∧ ((w45 0 99563 2 1 0 0 1).room 100 = true) ∧ ((w45 0 99563 2 1 0 0 1).powered = true) ∧ ((w45 0 99563 2 1 0 0 1).flag Reg.PWR_STAT_VIN_OK = true) ∧ ((w45 0 99563 2 1 0 0 1).clk = clkLocked ∨ (w45 0 99563 2 1 0 0 1).clk = clkHold) ∧ ((w45 0 99563 2 1 0 0 1).tm.prev / sec32 < (w45 0 99563 2 1 0 0 1).tm.time / sec32)) ∧
    (((w45 0 99563 2 1 0 0 1).shaped = true) ∧ ((w45 0 99563 2 1 0 0 1).room 100 = true) ∧ ((w45 0 99563 2 1 0 0 1).powered = true) ∧ ((w45 0 99563 2 1 0 0 1).flag Reg.PWR_STAT_VIN_OK = true) ∧ ((w45 0 99563 2 1 0 0 1).on secEvt = true) ∧ ((w45 0 99563 2 1 0 0 1).pwr.vbatAt.all (fun c => (w45 0 99563 2 1 0 0 1).expired c 1000000000) = true)) := by decide +kernel

theorem test_met_ForcedProfilesClockAndBattery :
    (∃ (s : State) (i : Iface) (v : Word), (s.shaped = true) ∧ (s.room 100 = true) ∧ (s.powered = true) ∧ (s.flag Reg.PWR_STAT_VIN_OK = true) ∧ (s.hostUp = true) ∧ (s.level i = .engineer) ∧ (s.flag Reg.PWR_STAT_RIDE = false) ∧ (v.toNat % 4 ≠ 3)) ∧
    (∃ (s : State), (s.shaped = true) ∧ (s.room 100 = true) ∧ (s.powered = true) ∧ (s.flag Reg.PWR_STAT_VIN_OK = true) ∧ (s.clk = clkLocked ∨ s.clk = clkHold) ∧ (s.tm.prev / sec32 < s.tm.time / sec32)) ∧
    (∃ (s : State) (mv : Nat), (s.shaped = true) ∧ (s.room 100 = true) ∧ (s.powered = true) ∧ (s.flag Reg.PWR_STAT_VIN_OK = true) ∧ (s.on secEvt = true) ∧ (s.pwr.vbatAt.all (fun c => s.expired c 1000000000) = true)) :=
  ⟨⟨w45 0 99563 2 1 0 0 1, Iface.spi, 0x00008dd2#32, test_at_45_0.1⟩,
   ⟨w45 0 99563 2 1 0 0 1, test_at_45_0.2.1⟩,
   ⟨w45 0 99563 2 1 0 0 1, 4194644, test_at_45_0.2.2⟩⟩

/-- States for the statement PairStatesFollowHeartbeats. -/
def w46 (z x0 x1 x2 x3 x4 x5 : Nat) : State :=
  let s := wBase z
  let b : Nat := x0
  let c : Nat := x1
  let d : Nat := x2
  let e : Nat := x3
  let h : Nat := x4
  let st : Nat := [1, 1, 2, 2, 3, 4, 5, 0].getD x5 0
  let s := levels (onAll s) (if e = 0 then .operate else .engineer)
  let s := { s with tm := { s.tm with nom := 2 ^ 70, runt := 2 ^ 70, time := 2 ^ 75 }, pwr := { s.pwr with unpowered := false } }
  let s := (((s.setF Reg.WYT_CFG_EN 1).setF Reg.WYT_STAT_STATE st).setF Reg.WYT_STAT_ROLE c).setF Reg.WYT_CFG_FORM (if b = 0 then 1 else 3)
  let s := ((s.setF Reg.WYT_CFG_LOSS 4).setF Reg.WYT_CFG_WAIT 100).setF Reg.ETH_W_STAT_LINK (if e = 1 then 0 else 1)
  let s := (s.setF Reg.WYT_STAT_RINGABS d).setF Reg.YUL_CTL_ROLE 0
  let s := if e = 4 && d = 2 then { s with pwr := { s.pwr with parts := s.pwr.parts.map fun (p : Part) => if p.id = secEth 4 then { p with st := .off } else p } } else s
  let s := if h = 0 then s.wr64 Reg.KLN_MSTAMP_0 0 else s.wr64 Reg.KLN_MSTAMP_0 (2 ^ 32)
  let rf : PairRefire := ⟨1, if b = 0 then 3 else 4, if h = 0 then s.tw + 1 else s.tw - 1, decide (e = 2), decide (e = 2 ∨ e = 3), if d = 0 then none else some (d == 2)⟩
  let s := { s with wyt := { s.wyt with hbAt := if d = 1 then none else some (if c = 0 then 2 ^ 70 else 0), readyAt := if h = 1 then 2 ^ 70 else 0, same := h, differ := c, sameSide := d % 3, ringHeard := b == 1, trips := [(0, 5), (1, 5)], refire := if c = 2 then none else some rf, pRefiring := false, pStamp := if h = 2 then s.shortStamp else 99, calmAt := if b = 0 then none else some (if e = 4 then 2 ^ 70 else 0), hbIdx := if e = 3 then 2 ^ 60 else 4, hbSeen := d == 3, lost := e == 4, frames := 2 ^ 32 - 1 } }
  let s := s.setF Reg.KLN_STAT_REFIRING 0
  s

theorem test_at_46_0 :
    (((w46 2 1 2 3 3 1 3).shaped = true) ∧ ((w46 2 1 2 3 3 1 3).room 40 = true) ∧ ((w46 2 1 2 3 3 1 3).on secWyt = false ∨ (w46 2 1 2 3 3 1 3).tm.time / hbPer ≤ (w46 2 1 2 3 3 1 3).wyt.hbIdx)) ∧
    (((w46 2 1 2 3 3 1 3).shaped = true) ∧ ((w46 2 1 2 3 3 1 3).room 40 = true) ∧ ((((w46 2 1 2 3 3 1 3).on secWyt && (w46 2 1 2 3 3 1 3).wyt.hbAt.isSome && !(w46 2 1 2 3 3 1 3).wyt.lost && (w46 2 1 2 3 3 1 3).silent && !(w46 2 1 2 3 3 1 3).hbComes fun _ => true)) = true)) ∧
    (((w46 2 1 2 3 3 1 3).shaped = true) ∧ ((w46 2 1 2 3 3 1 3).room 40 = true) ∧ ((w46 2 1 2 3 3 1 3).wyt.calmAt = some 0) ∧ ((((w46 2 1 2 3 3 1 3).wy == wyTransit && (w46 2 1 2 3 3 1 3).calm && (w46 2 1 2 3 3 1 3).expired 0 100000000 && (w46 2 1 2 3 3 1 3).wyt.pStamp != (w46 2 1 2 3 3 1 3).shortStamp && !(w46 2 1 2 3 3 1 3).hbComes fun h => h.stamp == (w46 2 1 2 3 3 1 3).shortStamp)) = false)) ∧
    (((w46 2 1 2 3 3 1 3).shaped = true) ∧ ((w46 2 1 2 3 3 1 3).room 40 = true) ∧ (((w46 2 1 2 3 3 1 3).wUp && (w46 2 1 2 3 3 1 3).paired) = true)) ∧
    (((w46 2 1 2 3 3 1 3).shaped = true) ∧ ((w46 2 1 2 3 3 1 3).room 40 = true) ∧ ((w46 2 1 2 3 3 1 3).wyt.refire = none)) := by decide +kernel

theorem test_at_46_1 :
    (((w46 0 0 1 0 4 0 4).shaped = true) ∧ ((w46 0 0 1 0 4 0 4).room 40 = true) ∧ ((w46 0 0 1 0 4 0 4).on secWyt = true) ∧ ((w46 0 0 1 0 4 0 4).wyt.hbIdx < (w46 0 0 1 0 4 0 4).tm.time / hbPer)) ∧
    (((w46 0 0 1 0 4 0 4).shaped = true) ∧ ((w46 0 0 1 0 4 0 4).room 40 = true) ∧ ((w46 0 0 1 0 4 0 4).on secWyt = true) ∧ ((w46 0 0 1 0 4 0 4).on (secEth 4) = true)) ∧
    (((w46 0 0 1 0 4 0 4).shaped = true) ∧ ((w46 0 0 1 0 4 0 4).room 40 = true) ∧ ((((w46 0 0 1 0 4 0 4).on secWyt && (w46 0 0 1 0 4 0 4).wyt.hbAt.isSome && !(w46 0 0 1 0 4 0 4).wyt.lost && (w46 0 0 1 0 4 0 4).silent && !(w46 0 0 1 0 4 0 4).hbComes fun _ => true)) = false)) ∧
    (((w46 0 0 1 0 4 0 4).shaped = true) ∧ ((w46 0 0 1 0 4 0 4).room 40 = true) ∧ ((((w46 0 0 1 0 4 0 4).wy == wySeek && (w46 0 0 1 0 4 0 4).wyt.hbAt.isNone && (w46 0 0 1 0 4 0 4).expired (w46 0 0 1 0 4 0 4).wyt.readyAt ((w46 0 0 1 0 4 0 4).getF Reg.WYT_CFG_WAIT * 1000000) && !(w46 0 0 1 0 4 0 4).hbComes fun _ => true)) = false)) ∧
    (((w46 0 0 1 0 4 0 4).shaped = true) ∧ ((w46 0 0 1 0 4 0 4).room 40 = true) ∧ ((w46 0 0 1 0 4 0 4).wyt.calmAt = none)) ∧
    (((w46 0 0 1 0 4 0 4).shaped = true) ∧ ((w46 0 0 1 0 4 0 4).room 40 = true) ∧ ((((w46 0 0 1 0 4 0 4).on (secEth 4) && (w46 0 0 1 0 4 0 4).flag Reg.ETH_W_STAT_LINK)) = true)) ∧
    (((w46 0 0 1 0 4 0 4).shaped = true) ∧ ((w46 0 0 1 0 4 0 4).room 40 = true) ∧ (((w46 0 0 1 0 4 0 4).wUp && (w46 0 0 1 0 4 0 4).paired) = false)) ∧
    (((w46 0 0 1 0 4 0 4).shaped = true) ∧ ((w46 0 0 1 0 4 0 4).room 40 = true) ∧ ((w46 0 0 1 0 4 0 4).wyt.refire = some ({ slot := 1, stamp := 3, at_ := 576460752303423489, mine := false, done := false, partner := none } : PairRefire)) ∧ (({ slot := 1, stamp := 3, at_ := 576460752303423489, mine := false, done := false, partner := none } : PairRefire).done = false) ∧ ((w46 0 0 1 0 4 0 4).tw < ({ slot := 1, stamp := 3, at_ := 576460752303423489, mine := false, done := false, partner := none } : PairRefire).at_)) := by decide +kernel

theorem test_at_46_2 :
    (((w46 1 1 0 2 4 1 4).shaped = true) ∧ ((w46 1 1 0 2 4 1 4).room 40 = true) ∧ ((w46 1 1 0 2 4 1 4).on secWyt = false ∨ (w46 1 1 0 2 4 1 4).on (secEth 4) = false)) ∧
    (((w46 1 1 0 2 4 1 4).shaped = true) ∧ ((w46 1 1 0 2 4 1 4).room 40 = true) ∧ ((((w46 1 1 0 2 4 1 4).on (secEth 4) && (w46 1 1 0 2 4 1 4).flag Reg.ETH_W_STAT_LINK)) = false)) ∧
    (((w46 1 1 0 2 4 1 4).shaped = true) ∧ ((w46 1 1 0 2 4 1 4).room 40 = true) ∧ ((w46 1 1 0 2 4 1 4).wyt.refire = some ({ slot := 1, stamp := 4, at_ := 576460752303423487, mine := false, done := false, partner := some true } : PairRefire)) ∧ (({ slot := 1, stamp := 4, at_ := 576460752303423487, mine := false, done := false, partner := some true } : PairRefire).done = false) ∧ (({ slot := 1, stamp := 4, at_ := 576460752303423487, mine := false, done := false, partner := some true } : PairRefire).at_ ≤ (w46 1 1 0 2 4 1 4).tw) ∧ (({ slot := 1, stamp := 4, at_ := 576460752303423487, mine := false, done := false, partner := some true } : PairRefire).mine = false) ∧ ((w46 1 1 0 2 4 1 4).stampOfSlot ({ slot := 1, stamp := 4, at_ := 576460752303423487, mine := false, done := false, partner := some true } : PairRefire).slot ≠ ({ slot := 1, stamp := 4, at_ := 576460752303423487, mine := false, done := false, partner := some true } : PairRefire).stamp)) := by decide +kernel

theorem test_at_46_3 :
    (((w46 2 1 0 1 3 2 1).shaped = true) ∧ ((w46 2 1 0 1 3 2 1).room 40 = true) ∧ ((((w46 2 1 0 1 3 2 1).wy == wySeek && (w46 2 1 0 1 3 2 1).wyt.hbAt.isNone && (w46 2 1 0 1 3 2 1).expired (w46 2 1 0 1 3 2 1).wyt.readyAt ((w46 2 1 0 1 3 2 1).getF Reg.WYT_CFG_WAIT * 1000000) && !(w46 2 1 0 1 3 2 1).hbComes fun _ => true)) = true)) := by decide +kernel

theorem test_at_46_4 :
    (((w46 1 1 0 3 2 0 6).shaped = true) ∧ ((w46 1 1 0 3 2 0 6).room 40 = true) ∧ ((w46 1 1 0 3 2 0 6).wyt.calmAt = some 0) ∧ ((((w46 1 1 0 3 2 0 6).wy == wyTransit && (w46 1 1 0 3 2 0 6).calm && (w46 1 1 0 3 2 0 6).expired 0 100000000 && (w46 1 1 0 3 2 0 6).wyt.pStamp != (w46 1 1 0 3 2 0 6).shortStamp && !(w46 1 1 0 3 2 0 6).hbComes fun h => h.stamp == (w46 1 1 0 3 2 0 6).shortStamp)) = true)) ∧
    (((w46 1 1 0 3 2 0 6).shaped = true) ∧ ((w46 1 1 0 3 2 0 6).room 40 = true) ∧ ((w46 1 1 0 3 2 0 6).wyt.refire = some ({ slot := 1, stamp := 4, at_ := 576460752303423489, mine := true, done := true, partner := some false } : PairRefire)) ∧ (({ slot := 1, stamp := 4, at_ := 576460752303423489, mine := true, done := true, partner := some false } : PairRefire).mine = true) ∧ (({ slot := 1, stamp := 4, at_ := 576460752303423489, mine := true, done := true, partner := some false } : PairRefire).done = true) ∧ (({ slot := 1, stamp := 4, at_ := 576460752303423489, mine := true, done := true, partner := some false } : PairRefire).partner = some false)) := by decide +kernel

theorem test_met_PairStatesFollowHeartbeats :
    (∃ (s : State), (s.shaped = true) ∧ (s.room 40 = true) ∧ (s.on secWyt = false ∨ s.tm.time / hbPer ≤ s.wyt.hbIdx)) ∧
    (∃ (s : State), (s.shaped = true) ∧ (s.room 40 = true) ∧ (s.on secWyt = true) ∧ (s.wyt.hbIdx < s.tm.time / hbPer)) ∧
    (∃ (s : State) (w : Heartbeat), (s.shaped = true) ∧ (s.room 40 = true) ∧ (s.on secWyt = false ∨ s.on (secEth 4) = false)) ∧
    (∃ (s : State) (w : Heartbeat), (s.shaped = true) ∧ (s.room 40 = true) ∧ (s.on secWyt = true) ∧ (s.on (secEth 4) = true)) ∧
    (∃ (s : State) (due : Bool), (due = (s.on secWyt && s.wyt.hbAt.isSome && !s.wyt.lost && s.silent && !s.hbComes fun _ => true)) ∧ (s.shaped = true) ∧ (s.room 40 = true) ∧ (due = false)) ∧
    (∃ (s : State) (due : Bool), (due = (s.on secWyt && s.wyt.hbAt.isSome && !s.wyt.lost && s.silent && !s.hbComes fun _ => true)) ∧ (s.shaped = true) ∧ (s.room 40 = true) ∧ (due = true)) ∧
    (∃ (s : State) (due : Bool), (due = (s.wy == wySeek && s.wyt.hbAt.isNone && s.expired s.wyt.readyAt (s.getF Reg.WYT_CFG_WAIT * 1000000) && !s.hbComes fun _ => true)) ∧ (s.shaped = true) ∧ (s.room 40 = true) ∧ (due = false)) ∧
    (∃ (s : State) (due : Bool), (due = (s.wy == wySeek && s.wyt.hbAt.isNone && s.expired s.wyt.readyAt (s.getF Reg.WYT_CFG_WAIT * 1000000) && !s.hbComes fun _ => true)) ∧ (s.shaped = true) ∧ (s.room 40 = true) ∧ (due = true)) ∧
    (∃ (s : State), (s.shaped = true) ∧ (s.room 40 = true) ∧ (s.wyt.calmAt = none)) ∧
    (∃ (s : State) (x : Nat) (due : Bool), (due = (s.wy == wyTransit && s.calm && s.expired x 100000000 && s.wyt.pStamp != s.shortStamp && !s.hbComes fun h => h.stamp == s.shortStamp)) ∧ (s.shaped = true) ∧ (s.room 40 = true) ∧ (s.wyt.calmAt = some x) ∧ (due = false)) ∧
    (∃ (s : State) (x : Nat) (due : Bool), (due = (s.wy == wyTransit && s.calm && s.expired x 100000000 && s.wyt.pStamp != s.shortStamp && !s.hbComes fun h => h.stamp == s.shortStamp)) ∧ (s.shaped = true) ∧ (s.room 40 = true) ∧ (s.wyt.calmAt = some x) ∧ (due = true)) ∧
    (∃ (s : State) (up : Bool), (up = (s.on (secEth 4) && s.flag Reg.ETH_W_STAT_LINK)) ∧ (s.shaped = true) ∧ (s.room 40 = true) ∧ (up = false)) ∧
    (∃ (s : State) (up : Bool), (up = (s.on (secEth 4) && s.flag Reg.ETH_W_STAT_LINK)) ∧ (s.shaped = true) ∧ (s.room 40 = true) ∧ (up = true)) ∧
    (∃ (s : State) (n : Nat) (k : Nat) (r : Nat), (s.shaped = true) ∧ (s.room 40 = true) ∧ ((s.wUp && s.paired) = false)) ∧
    (∃ (s : State) (n : Nat) (k : Nat) (r : Nat), (s.shaped = true) ∧ (s.room 40 = true) ∧ ((s.wUp && s.paired) = true)) ∧
    (∃ (s : State), (s.shaped = true) ∧ (s.room 40 = true) ∧ (s.wyt.refire = none)) ∧
    (∃ (s : State) (r : PairRefire), (s.shaped = true) ∧ (s.room 40 = true) ∧ (s.wyt.refire = some r) ∧ (r.done = false) ∧ (s.tw < r.at_)) ∧
    (∃ (s : State) (r : PairRefire), (s.shaped = true) ∧ (s.room 40 = true) ∧ (s.wyt.refire = some r) ∧ (r.done = false) ∧ (r.at_ ≤ s.tw) ∧ (r.mine = false) ∧ (s.stampOfSlot r.slot ≠ r.stamp)) ∧
    (∃ (s : State) (r : PairRefire), (s.shaped = true) ∧ (s.room 40 = true) ∧ (s.wyt.refire = some r) ∧ (r.mine = true) ∧ (r.done = true) ∧ (r.partner = some false)) :=
  ⟨⟨w46 2 1 2 3 3 1 3, test_at_46_0.1⟩,
   ⟨w46 0 0 1 0 4 0 4, test_at_46_1.1⟩,
   ⟨w46 1 1 0 2 4 1 4, { tw := 4194582, stamp := 6023, state := 9159, role := 94, side := 1, profile := 2048, refiring := false, ringMaster := true, epoch := 60, tripf := 92158152, cycle := 1 }, test_at_46_2.1⟩,
   ⟨w46 0 0 1 0 4 0 4, { tw := 512, stamp := 4193931, state := 7, role := 17, side := 34, profile := 64816, refiring := false, ringMaster := true, epoch := 3066, tripf := 7624, cycle := 1572864 }, test_at_46_1.2.1⟩,
   ⟨w46 0 0 1 0 4 0 4, _, rfl, test_at_46_1.2.2.1⟩,
   ⟨w46 2 1 2 3 3 1 3, _, rfl, test_at_46_0.2.1⟩,
   ⟨w46 0 0 1 0 4 0 4, _, rfl, test_at_46_1.2.2.2.1⟩,
   ⟨w46 2 1 0 1 3 2 1, _, rfl, test_at_46_3⟩,
   ⟨w46 0 0 1 0 4 0 4, test_at_46_1.2.2.2.2.1⟩,
   ⟨w46 2 1 2 3 3 1 3, 0, _, rfl, test_at_46_0.2.2.1⟩,
   ⟨w46 1 1 0 3 2 0 6, 0, _, rfl, test_at_46_4.1⟩,
   ⟨w46 1 1 0 2 4 1 4, _, rfl, test_at_46_2.2.1⟩,
   ⟨w46 0 0 1 0 4 0 4, _, rfl, test_at_46_1.2.2.2.2.2.1⟩,
   ⟨w46 0 0 1 0 4 0 4, 21, 1, 15, test_at_46_1.2.2.2.2.2.2.1⟩,
   ⟨w46 2 1 2 3 3 1 3, 3, 0, 4, test_at_46_0.2.2.2.1⟩,
   ⟨w46 2 1 2 3 3 1 3, test_at_46_0.2.2.2.2⟩,
   ⟨w46 0 0 1 0 4 0 4, { slot := 1, stamp := 3, at_ := 576460752303423489, mine := false, done := false, partner := none }, test_at_46_1.2.2.2.2.2.2.2⟩,
   ⟨w46 1 1 0 2 4 1 4, { slot := 1, stamp := 4, at_ := 576460752303423487, mine := false, done := false, partner := some true }, test_at_46_2.2.2⟩,
   ⟨w46 1 1 0 3 2 0 6, { slot := 1, stamp := 4, at_ := 576460752303423489, mine := true, done := true, partner := some false }, test_at_46_4.2⟩⟩

/-- States for the statement PairComparesTripsAndTotals. -/
def w47 (z x0 x1 x2 x3 x4 x5 : Nat) : State :=
  let s := wBase z
  let b : Nat := x0
  let c : Nat := x1
  let d : Nat := x2
  let e : Nat := x3
  let h : Nat := x4
  let st : Nat := [1, 1, 2, 2, 3, 4, 5, 0].getD x5 0
  let s := levels (onAll s) (if e = 0 then .operate else .engineer)
  let s := { s with tm := { s.tm with nom := 2 ^ 70, runt := 2 ^ 70, time := 2 ^ 75 }, pwr := { s.pwr with unpowered := false } }
  let s := (((s.setF Reg.WYT_CFG_EN 1).setF Reg.WYT_STAT_STATE st).setF Reg.WYT_STAT_ROLE c).setF Reg.WYT_CFG_FORM (if b = 0 then 1 else 3)
  let s := ((s.setF Reg.WYT_CFG_LOSS 4).setF Reg.WYT_CFG_WAIT 100).setF Reg.ETH_W_STAT_LINK (if e = 1 then 0 else 1)
  let s := (s.setF Reg.WYT_STAT_RINGABS d).setF Reg.YUL_CTL_ROLE 0
  let s := if e = 4 && d = 2 then { s with pwr := { s.pwr with parts := s.pwr.parts.map fun (p : Part) => if p.id = secEth 4 then { p with st := .off } else p } } else s
  let s := if h = 0 then s.wr64 Reg.KLN_MSTAMP_0 0 else s.wr64 Reg.KLN_MSTAMP_0 (2 ^ 32)
  let v : Nat → List Nat := fun k => (List.range 160).map fun n => 1000 + k * n
  let s := ((s.setF Reg.WYT_TRIP_WIN 5).setF Reg.WYT_TOT_TOL_ABS (if d = 0 then 0 else 40)).setF Reg.WYT_TOT_TOL_PPM (if d = 1 then 1000 else 0)
  let s := ([0, 1, 2, 4] : List Nat).foldl (fun (s : State) m => s.wr (Reg.WYT_TOT_MAP m) (if e = 2 then 0xF0F0 else 0)) s
  let s := { s with wyt := { s.wyt with trips := if b = 0 then [(3, 5), (14, 2 ^ 70)] else [(14, 5)], own := [PairRec.mk 0 (v 3) (if c = 0 then 2 ^ 70 else 0), PairRec.mk 1 (v 4) 0], theirs := [PairRec.mk 9 (v 1) (if d = 0 then 0 else 2 ^ 70)], base := if h = 0 then none else some ((List.range 160).map fun (n : Nat) => (n : Int), List.replicate 160 7) } }
  s

theorem test_at_47_0 :
    (((w47 2 1 1 2 3 0 2).shaped = true) ∧ ((w47 2 1 1 2 3 0 2).room 400 = true)) ∧
    (((w47 2 1 1 2 3 0 2).shaped = true) ∧ ((w47 2 1 1 2 3 0 2).room 400 = true) ∧ ((w47 2 1 1 2 3 0 2).wy = wyPaired) ∧ ((w47 2 1 1 2 3 0 2).role = 1) ∧ (((w47 2 1 1 2 3 0 2).wyt.own.all fun r => r.tw != 37537) = true)) ∧
    (((w47 2 1 1 2 3 0 2).shaped = true) ∧ ((w47 2 1 1 2 3 0 2).room 400 = true)) ∧
    (((w47 2 1 1 2 3 0 2).shaped = true) ∧ ((w47 2 1 1 2 3 0 2).room 400 = true) ∧ ((w47 2 1 1 2 3 0 2).hostUp = true) ∧ ((w47 2 1 1 2 3 0 2).may (Iface.pcie : Iface) .engineer = true)) := by decide +kernel

theorem test_at_47_1 :
    (((w47 2 0 2 0 0 0 7).shaped = true) ∧ ((w47 2 0 2 0 0 0 7).room 400 = true) ∧ ((w47 2 0 2 0 0 0 7).wy ≠ wyPaired ∨ (w47 2 0 2 0 0 0 7).role ≠ 1)) ∧
    (((w47 2 0 2 0 0 0 7).shaped = true) ∧ ((w47 2 0 2 0 0 0 7).room 400 = true) ∧ ((w47 2 0 2 0 0 0 7).hostUp = true) ∧ ((w47 2 0 2 0 0 0 7).may (Iface.spi : Iface) .engineer = false)) := by decide +kernel

theorem test_met_PairComparesTripsAndTotals :
    (∃ (s : State) (due : List (Nat × Nat)), (due = s.wyt.trips.filter ((fun x => s.expired x.2 (s.getF Reg.WYT_TRIP_WIN * 1000000) && !s.hbComes fun h => h.tripf.testBit x.1))) ∧ (s.shaped = true) ∧ (s.room 400 = true)) ∧
    (∃ (s : State) (w : Nat) (vs : List Nat) (xs : List Nat), (xs = (vs ++ List.replicate 160 0).take 160) ∧ (s.shaped = true) ∧ (s.room 400 = true) ∧ (s.wy ≠ wyPaired ∨ s.role ≠ 1)) ∧
    (∃ (s : State) (w : Nat) (vs : List Nat) (xs : List Nat), (xs = (vs ++ List.replicate 160 0).take 160) ∧ (s.shaped = true) ∧ (s.room 400 = true) ∧ (s.wy = wyPaired) ∧ (s.role = 1) ∧ ((s.wyt.own.all fun r => r.tw != w) = true)) ∧
    (∃ (s : State) (w : Nat) (vs : List Nat) (xs : List Nat) (r : PairRec), (xs = (vs ++ List.replicate 160 0).take 160) ∧ (s.shaped = true) ∧ (s.room 400 = true) ∧ (s.wy = wyPaired) ∧ (s.role = 1) ∧ ((s.wyt.own.find? fun r => r.tw == w) = some r) ∧ (r.values.length = 160)) ∧
    (∃ (s : State), (s.shaped = true) ∧ (s.room 400 = true)) ∧
    (∃ (s : State) (i : Iface) (v : Word), (s.shaped = true) ∧ (s.room 400 = true) ∧ (s.hostUp = true) ∧ (s.may i .engineer = false)) ∧
    (∃ (s : State) (i : Iface) (v : Word), (s.shaped = true) ∧ (s.room 400 = true) ∧ (s.hostUp = true) ∧ (s.may i .engineer = true)) :=
  ⟨⟨w47 2 1 1 2 3 0 2, _, rfl, test_at_47_0.1⟩,
   ⟨w47 2 0 2 0 0 0 7, 7, [2], _, rfl, test_at_47_1.1⟩,
   ⟨w47 2 1 1 2 3 0 2, 37537, [4194075, 1, 2973], _, rfl, test_at_47_0.2.1⟩,
   ⟨w47 2 1 1 2 3 0 2, 1, [15894778402176589313, 2153034692], _, { tw := 1, values := [1000, 1004, 1008, 1012, 1016, 1020, 1024, 1028, 1032, 1036, 1040, 1044, 1048, 1052, 1056, 1060, 1064, 1068, 1072, 1076, 1080, 1084, 1088, 1092, 1096, 1100, 1104, 1108, 1112, 1116, 1120, 1124, 1128, 1132, 1136, 1140, 1144, 1148, 1152, 1156, 1160, 1164, 1168, 1172, 1176, 1180, 1184, 1188, 1192, 1196, 1200, 1204, 1208, 1212, 1216, 1220, 1224, 1228, 1232, 1236, 1240, 1244, 1248, 1252, 1256, 1260, 1264, 1268, 1272, 1276, 1280, 1284, 1288, 1292, 1296, 1300, 1304, 1308, 1312, 1316, 1320, 1324, 1328, 1332, 1336, 1340, 1344, 1348, 1352, 1356, 1360, 1364, 1368, 1372, 1376, 1380, 1384, 1388, 1392, 1396, 1400, 1404, 1408, 1412, 1416, 1420, 1424, 1428, 1432, 1436, 1440, 1444, 1448, 1452, 1456, 1460, 1464, 1468, 1472, 1476, 1480, 1484, 1488, 1492, 1496, 1500, 1504, 1508, 1512, 1516, 1520, 1524, 1528, 1532, 1536, 1540, 1544, 1548, 1552, 1556, 1560, 1564, 1568, 1572, 1576, 1580, 1584, 1588, 1592, 1596, 1600, 1604, 1608, 1612, 1616, 1620, 1624, 1628, 1632, 1636], at_ := 0 }, rfl, by decide +kernel⟩,
   ⟨w47 2 1 1 2 3 0 2, test_at_47_0.2.2.1⟩,
   ⟨w47 2 0 2 0 0 0 7, Iface.spi, 0x00000000#32, test_at_47_1.2⟩,
   ⟨w47 2 1 1 2 3 0 2, Iface.pcie, 0x0000001c#32, test_at_47_0.2.2.2⟩⟩

/-- States for the statement QueueFrontIsRun. -/
def w48 (z : Nat) : State :=
  let s := wBase z
  s


theorem test_met_QueueFrontIsRun : ∃ (s : State) (c : Instr) (rest : List Instr), s.pending = c :: rest :=
  ⟨{ State.reset with pending := [.wake, .vinGood] }, .wake, [.vinGood], rfl⟩

/-- States for the statement AccessLevelFollowsThePassphrase. -/
def w49 (z x0 x1 : Nat) : State :=
  let s := wBase z
  let f : Nat := [3, 4, 5, 9].getD x0 0
  let b : Nat := x1
  let s := { s with hst := { s.hst with pw := (if b == 0 then List.replicate 8 0 else [5,0,0,0,0,0,0,0]), acc := s.hst.acc.map fun a => { a with fails := f, lockFrom := none } } }
  s

theorem test_at_49_0 :
    (((w49 2 3 1).hostUp = true) ∧ ((w49 2 3 1).shaped = true) ∧ ((w49 2 3 1).room 2 = true) ∧ ((0x00004071#32 : Word).toNat % 8 = 1 ∧ (Level.operate : Level) = .operate ∨ (0x00004071#32 : Word).toNat % 8 = 2 ∧ (Level.operate : Level) = .engineer) ∧ (((w49 2 3 1).accOf (Iface.pcie : Iface)).lockFrom = none)) := by decide +kernel

theorem test_met_AccessLevelFollowsThePassphrase : (∃ (s : State) (i : Iface) (l : Level) (v : Word), (s.hostUp = true) ∧ (s.shaped = true) ∧ (s.room 2 = true) ∧ (v.toNat % 8 = 1 ∧ l = .operate ∨ v.toNat % 8 = 2 ∧ l = .engineer) ∧ ((s.accOf i).lockFrom = none)) :=
  ⟨w49 2 3 1, Iface.pcie, Level.operate, 0x00004071#32, test_at_49_0⟩

/-- States for the statement AccessLevelEnds. -/
def w50 (z x0 : Nat) : State :=
  let s := wBase z
  let f : Nat := x0
  let s := { s with hst := { s.hst with acc := s.hst.acc.map fun a => { a with fails := f, used := 0, level := .operate, lockFrom := some 5 } }, tm := { s.tm with runt := 2 ^ 80 } }
  s

theorem test_at_50_0 :
    (((w50 1 3).shaped = true) ∧ ((w50 1 3).room 2 = true) ∧ ((w50 1 3).hostUp = true) ∧ (0x00000003#32 : Word).toNat % 4 ∈ [0, 3] ∧ ((w50 1 3).level (Iface.pcie : Iface) ≠ .read)) ∧
    (((w50 1 3).shaped = true) ∧ ((w50 1 3).room 2 = true) ∧ ((w50 1 3).level (Iface.spi : Iface) ≠ .read) ∧ ((w50 1 3).expired ((w50 1 3).accOf (Iface.spi : Iface)).used ((w50 1 3).getF Reg.HST_ACC_TMO_S * 1000000000) = true) ∧ ((w50 1 3).usesComes (Iface.spi : Iface) = false)) ∧
    (((w50 1 3).shaped = true) ∧ ((w50 1 3).room 2 = true) ∧ (((w50 1 3).accOf (Iface.spi : Iface)).lockFrom = some 5) ∧ ((w50 1 3).expired 5 60000000000 = true)) := by decide +kernel

theorem test_met_AccessLevelEnds :
    (∃ (s : State) (i : Iface) (v : Word), (s.shaped = true) ∧ (s.room 2 = true) ∧ (s.hostUp = true) ∧ v.toNat % 4 ∈ [0, 3] ∧ (s.level i ≠ .read)) ∧
    (∃ (s : State) (i : Iface), (s.shaped = true) ∧ (s.room 2 = true) ∧ (s.level i ≠ .read) ∧ (s.expired (s.accOf i).used (s.getF Reg.HST_ACC_TMO_S * 1000000000) = true) ∧ (s.usesComes i = false)) ∧
    (∃ (s : State) (i : Iface) (c : Nat), (s.shaped = true) ∧ (s.room 2 = true) ∧ ((s.accOf i).lockFrom = some c) ∧ (s.expired c 60000000000 = true)) :=
  ⟨⟨w50 1 3, Iface.pcie, 0x00000003#32, test_at_50_0.1⟩,
   ⟨w50 1 3, Iface.spi, test_at_50_0.2.1⟩,
   ⟨w50 1 3, Iface.spi, 5, test_at_50_0.2.2⟩⟩

/-- States for the statement RegisterWritesAreJudged. -/
def w51 (z : Nat) : State :=
  let s := wBase z
  s

theorem test_at_51_0 :
    (((w51 3).hostUp = true) ∧ ((w51 3).shaped = true) ∧ (3 < 16) ∧ ((w51 3).may (Iface.spi : Iface) .operate = true) ∧ ((w51 3).unwritten = true)) ∧
    (((w51 3).hostUp = true) ∧ ((w51 3).shaped = true) ∧ (9543220 % 4 = 0) ∧ (9543220 < 0x4000000) ∧ ((0x1#4 : BitVec 4) ≠ 15)) ∧
    (((w51 3).hostUp = true) ∧ ((w51 3).shaped = true) ∧ (33317832 % 4 = 0) ∧ (33317832 < 0x4000000) ∧ (inMap 33317832 = false)) := by decide +kernel

theorem test_at_51_1 :
    (((w51 1).hostUp = true) ∧ ((w51 1).shaped = true) ∧ (15 < 16) ∧ ((w51 1).level (Iface.pcie : Iface) = .read) ∧ ((0x0000bff7#32 : Word).toNat % 2 ^ 16 ≠ (w51 1).getF (Reg.FLT_PROF_XF_LEN 15))) := by decide +kernel

theorem test_met_RegisterWritesAreJudged :
    (∃ (s : State) (i : Iface) (v : Word) (p : Nat), (s.hostUp = true) ∧ (s.shaped = true) ∧ (p < 16) ∧ (s.may i .operate = true) ∧ (s.unwritten = true)) ∧
    (∃ (s : State) (i : Iface) (v : Word) (p : Nat), (s.hostUp = true) ∧ (s.shaped = true) ∧ (p < 16) ∧ (s.level i = .read) ∧ (v.toNat % 2 ^ 16 ≠ s.getF (Reg.FLT_PROF_XF_LEN p))) ∧
    (∃ (s : State) (i : Iface) (v : Word) (off : Nat) (be : BitVec 4), (s.hostUp = true) ∧ (s.shaped = true) ∧ (off % 4 = 0) ∧ (off < 0x4000000) ∧ (be ≠ 15)) ∧
    (∃ (s : State) (i : Iface) (v : Word) (off : Nat), (s.hostUp = true) ∧ (s.shaped = true) ∧ (off % 4 = 0) ∧ (off < 0x4000000) ∧ (inMap off = false)) :=
  ⟨⟨w51 3, Iface.spi, 0x00000001#32, 3, test_at_51_0.1⟩,
   ⟨w51 1, Iface.pcie, 0x0000bff7#32, 15, test_at_51_1⟩,
   ⟨w51 3, Iface.spi, 0x002102a8#32, 9543220, 0x1#4, test_at_51_0.2.1⟩,
   ⟨w51 3, Iface.spi, 0x0000000e#32, 33317832, test_at_51_0.2.2⟩⟩

/-- States for the statement SealedFieldsNeedTheOpenSeal. -/
def w52 (z x0 : Nat) : State :=
  let s := wBase z
  let s := levels (onAll s) .engineer
  let op : Nat := x0
  let s := if op == 0 then s.setF Reg.MTR_SEAL_STAT_OPEN 1 else s
  let s := ([0, 1, 2, 7] : List Nat).foldl (fun (s : State) n => s.setF (Reg.AO_CH_CFG_SEALED n) 1) s
  s

theorem test_at_52_0 :
    (((w52 0 0).hostUp = true) ∧ ((w52 0 0).shaped = true) ∧ (7 < 8) ∧ ((w52 0 0).level (Iface.pcie : Iface) = .engineer) ∧ ((w52 0 0).flag (Reg.AO_CH_CFG_SEALED 7) = true) ∧ ((0x000020a3#32 : Word).toNat ≠ (w52 0 0).rd (Reg.AO_CH_TRIM_G 7)) ∧ ((w52 0 0).sealOpen = true) ∧ ((w52 0 0).auditRoom 1 = true) ∧ ((w52 0 0).unwritten = true)) := by decide +kernel

theorem test_at_52_1 :
    (((w52 1 1).hostUp = true) ∧ ((w52 1 1).shaped = true) ∧ (7 < 8) ∧ ((w52 1 1).level (Iface.pcie : Iface) = .engineer) ∧ ((w52 1 1).flag (Reg.AO_CH_CFG_SEALED 7) = true) ∧ ((0x00000000#32 : Word).toNat ≠ (w52 1 1).rd (Reg.AO_CH_TRIM_G 7)) ∧ ((w52 1 1).sealOpen = false) ∧ ((w52 1 1).unwritten = true)) := by decide +kernel

theorem test_met_SealedFieldsNeedTheOpenSeal :
    (∃ (s : State) (i : Iface) (n : Nat) (v : Word), (s.hostUp = true) ∧ (s.shaped = true) ∧ (n < 8) ∧ (s.level i = .engineer) ∧ (s.flag (Reg.AO_CH_CFG_SEALED n) = true) ∧ (v.toNat ≠ s.rd (Reg.AO_CH_TRIM_G n)) ∧ (s.sealOpen = true) ∧ (s.auditRoom 1 = true) ∧ (s.unwritten = true)) ∧
    (∃ (s : State) (i : Iface) (n : Nat) (v : Word), (s.hostUp = true) ∧ (s.shaped = true) ∧ (n < 8) ∧ (s.level i = .engineer) ∧ (s.flag (Reg.AO_CH_CFG_SEALED n) = true) ∧ (v.toNat ≠ s.rd (Reg.AO_CH_TRIM_G n)) ∧ (s.sealOpen = false) ∧ (s.unwritten = true)) :=
  ⟨⟨w52 0 0, Iface.pcie, 7, 0x000020a3#32, test_at_52_0⟩,
   ⟨w52 1 1, Iface.pcie, 7, 0x00000000#32, test_at_52_1⟩⟩

/-- States for the statement HostReadsAnswerOneFc. -/
def w53 (z x0 : Nat) : State :=
  let s := wBase z
  let sn : Nat := x0
  let s := if sn == 0 then s else (s.setSnap .pcie Reg.TBU_TIME_0 [1,2,3,4]).setSnap .spi Reg.TBU_TIME_0 [5,6,7,8]
  s

theorem test_at_53_0 :
    (((w53 2 1).hostUp = true) ∧ ((w53 2 1).shaped = true) ∧ (6294228 % 4 = 0) ∧ (6294228 < 0x4000000) ∧ (inMap 6294228 = true) ∧ (groupOf 6294228 = none)) ∧
    (((w53 2 1).hostUp = true) ∧ ((w53 2 1).shaped = true) ∧ ((w53 2 1).snapOf (Iface.spi : Iface) Reg.TBU_TIME_0 = some ([5, 6, 7, 8] : List Nat)) ∧ (([5, 6, 7, 8] : List Nat).length = 4)) ∧
    (((w53 2 1).hostUp = true) ∧ ((w53 2 1).shaped = true) ∧ (11546652 % 4 = 0) ∧ (11546652 < 0x4000000) ∧ (inMap 11546652 = true) ∧ (groupOf 11546652 = none)) ∧
    (((w53 2 1).hostUp = true) ∧ ((w53 2 1).shaped = true) ∧ ((0x000002d6#32 : Word).toNat % 4 ≠ 0) ∧ ((w53 2 1).hst.spiStat < 16)) := by decide +kernel

theorem test_at_53_1 :
    (((w53 1 0).hostUp = true) ∧ ((w53 1 0).shaped = true) ∧ ((w53 1 0).snapOf (Iface.pcie : Iface) Reg.TBU_TIME_0 = none)) := by decide +kernel

theorem test_met_HostReadsAnswerOneFc :
    (∃ (s : State) (i : Iface) (off : Nat), (s.hostUp = true) ∧ (s.shaped = true) ∧ (off % 4 = 0) ∧ (off < 0x4000000) ∧ (inMap off = true) ∧ (groupOf off = none)) ∧
    (∃ (s : State) (i : Iface) (ws : List Nat), (s.hostUp = true) ∧ (s.shaped = true) ∧ (s.snapOf i Reg.TBU_TIME_0 = some ws) ∧ (ws.length = 4)) ∧
    (∃ (s : State) (i : Iface), (s.hostUp = true) ∧ (s.shaped = true) ∧ (s.snapOf i Reg.TBU_TIME_0 = none)) ∧
    (∃ (s : State) (i : Iface) (off : Nat), (s.hostUp = true) ∧ (s.shaped = true) ∧ (off % 4 = 0) ∧ (off < 0x4000000) ∧ (inMap off = true) ∧ (groupOf off = none)) ∧
    (∃ (s : State) (i : Iface) (hdr : Word), (s.hostUp = true) ∧ (s.shaped = true) ∧ (hdr.toNat % 4 ≠ 0) ∧ (s.hst.spiStat < 16)) :=
  ⟨⟨w53 2 1, Iface.pcie, 6294228, test_at_53_0.1⟩,
   ⟨w53 2 1, Iface.spi, [5, 6, 7, 8], test_at_53_0.2.1⟩,
   ⟨w53 1 0, Iface.pcie, test_at_53_1⟩,
   ⟨w53 2 1, Iface.pcie, 11546652, test_at_53_0.2.2.1⟩,
   ⟨w53 2 1, Iface.spi, 0x000002d6#32, test_at_53_0.2.2.2⟩⟩

/-- States for the statement WindowWritesReachTheHostArea. -/
def w54 (z : Nat) : State :=
  let s := wBase z
  s

theorem test_at_54_0 :
    (((w54 1).hostUp = true) ∧ (0 + ([0x17#8, 0xac#8, 0x02#8] : List Byte).length ≤ 0x10000000) ∧ (([0x17#8, 0xac#8, 0x02#8] : List Byte) ≠ []) ∧ (((w54 1).getF Reg.HST_WIN_BASE * 2 ^ 28 + 0) + ([0x17#8, 0xac#8, 0x02#8] : List Byte).length ≤ (w54 1).hostArea ∨ (w54 1).superMem ≤ ((w54 1).getF Reg.HST_WIN_BASE * 2 ^ 28 + 0))) := by decide +kernel

theorem test_met_WindowWritesReachTheHostArea :
    (∃ (s : State) (off : Nat) (bytes : List Byte) (a : Nat), (a = s.getF Reg.HST_WIN_BASE * 2 ^ 28 + off) ∧ (s.hostUp = true) ∧ (off + bytes.length ≤ 0x10000000) ∧ (bytes ≠ []) ∧ (a + bytes.length ≤ s.hostArea ∨ s.superMem ≤ a)) ∧
    (∃ (s : State) (off : Nat) (bytes : List Byte) (a : Nat), s.hostUp = true ∧ (off + bytes.length ≤ 0x10000000) ∧ (bytes ≠ []) ∧ (a = s.getF Reg.HST_WIN_BASE * 2 ^ 28 + off) ∧ s.hostArea ≤ a ∧ (a + bytes.length ≤ s.superMem)) :=
  ⟨⟨w54 1, 0, [0x17#8, 0xac#8, 0x02#8], _, rfl, test_at_54_0⟩,
   ⟨(wBase 2).setF Reg.HST_WIN_BASE 6, 0x4000000, [1], 0x64000000, by decide +kernel⟩⟩

/-- States for the statement VectorsAreRaisedAndSent. -/
def w55 (z x0 : Nat) : State :=
  let s := wBase z
  let v : Nat := x0
  let s := { s with hst := { s.hst with vpend := v, msix := s.hst.msix.map fun x => x / 2 * 2, vlast := s.hst.vlast.map fun _ => if v % 2 == 0 then none else some 0 } }
  s

theorem test_at_55_0 :
    (((w55 3 3197810924).shaped = true) ∧ ((w55 3 3197810924).hostUp = true) ∧ ((w55 3 3197810924).may (Iface.spi : Iface) .operate = true)) ∧
    (((w55 3 3197810924).shaped = true) ∧ (29 < 32) ∧ ((w55 3 3197810924).on secHst = true) ∧ ((w55 3 3197810924).hst.vpend.testBit 29 = true) ∧ ((w55 3 3197810924).msixWord 29 3 % 2 = 0) ∧ (((w55 3 3197810924).hst.vlast.getD 29 none).all (fun c => (w55 3 3197810924).expired c ((w55 3 3197810924).getF (Reg.HST_VMOD_US 29) * 1000)) = true)) := by decide +kernel

theorem test_met_VectorsAreRaisedAndSent :
    (∃ (s : State) (i : Iface) (v : Word), (s.shaped = true) ∧ (s.hostUp = true) ∧ (s.may i .operate = true)) ∧
    (∃ (s : State) (v : Nat), (s.shaped = true) ∧ (v < 32) ∧ (s.on secHst = true) ∧ (s.hst.vpend.testBit v = true) ∧ (s.msixWord v 3 % 2 = 0) ∧ ((s.hst.vlast.getD v none).all (fun c => s.expired c (s.getF (Reg.HST_VMOD_US v) * 1000)) = true)) :=
  ⟨⟨w55 3 3197810924, Iface.spi, 0x00000002#32, test_at_55_0.1⟩,
   ⟨w55 3 3197810924, 29, test_at_55_0.2⟩⟩

/-- States for the statement DmaWorksThroughItsRing. -/
def w56 (z x0 : Nat) : State :=
  let s := wBase z
  let b : Nat := x0
  let s := levels (onAll s) .operate
  let s := (List.range 4).foldl (fun (s : State) c => ((s.setF (Reg.HST_DMA_CTL_EN c) b).wr (Reg.HST_DMA_SIZE c) 64).setF (Reg.HST_DMA_HEAD_IDX c) 63) s
  s

theorem test_at_56_0 :
    (((w56 0 0).shaped = true) ∧ ((w56 0 0).hostUp = true) ∧ (3 < 4) ∧ ((w56 0 0).may (Iface.pcie : Iface) .operate = true) ∧ ((w56 0 0).unwritten = true)) ∧
    (((w56 0 0).shaped = true) ∧ ((w56 0 0).hostUp = true) ∧ (1 < 4) ∧ ((w56 0 0).may (Iface.pcie : Iface) .operate = true) ∧ ((w56 0 0).dmaRuns 1 = false)) ∧
    (((w56 0 0).shaped = true) ∧ ((w56 0 0).hostUp = true) ∧ ((w56 0 0).pwr.unpowered = false)) := by decide +kernel

theorem test_at_56_1 :
    (((w56 2 1).shaped = true) ∧ ((w56 2 1).hostUp = true) ∧ (1 < 2) ∧ ((w56 2 1).dmaRuns 1 = true) ∧ (descOwn ({ ctl := 0x80000010#32, host := 1140, modul := 0x64000048#32, data := [0x32#8, 0x01#8, 0x01#8, 0x7c#8, 0x01#8, 0x43#8, 0x01#8, 0x00#8, 0x16#8, 0x91#8, 0x00#8, 0x00#8, 0x02#8, 0xd2#8, 0x05#8, 0x1c#8], hostErr := false } : Descriptor) = true) ∧ (descSpace ({ ctl := 0x80000010#32, host := 1140, modul := 0x64000048#32, data := [0x32#8, 0x01#8, 0x01#8, 0x7c#8, 0x01#8, 0x43#8, 0x01#8, 0x00#8, 0x16#8, 0x91#8, 0x00#8, 0x00#8, 0x02#8, 0xd2#8, 0x05#8, 0x1c#8], hostErr := false } : Descriptor) = false) ∧ (descIrq ({ ctl := 0x80000010#32, host := 1140, modul := 0x64000048#32, data := [0x32#8, 0x01#8, 0x01#8, 0x7c#8, 0x01#8, 0x43#8, 0x01#8, 0x00#8, 0x16#8, 0x91#8, 0x00#8, 0x00#8, 0x02#8, 0xd2#8, 0x05#8, 0x1c#8], hostErr := false } : Descriptor) = false) ∧ (({ ctl := 0x80000010#32, host := 1140, modul := 0x64000048#32, data := [0x32#8, 0x01#8, 0x01#8, 0x7c#8, 0x01#8, 0x43#8, 0x01#8, 0x00#8, 0x16#8, 0x91#8, 0x00#8, 0x00#8, 0x02#8, 0xd2#8, 0x05#8, 0x1c#8], hostErr := false } : Descriptor).hostErr = false) ∧ (({ ctl := 0x80000010#32, host := 1140, modul := 0x64000048#32, data := [0x32#8, 0x01#8, 0x01#8, 0x7c#8, 0x01#8, 0x43#8, 0x01#8, 0x00#8, 0x16#8, 0x91#8, 0x00#8, 0x00#8, 0x02#8, 0xd2#8, 0x05#8, 0x1c#8], hostErr := false } : Descriptor).host % 4 = 0) ∧ (({ ctl := 0x80000010#32, host := 1140, modul := 0x64000048#32, data := [0x32#8, 0x01#8, 0x01#8, 0x7c#8, 0x01#8, 0x43#8, 0x01#8, 0x00#8, 0x16#8, 0x91#8, 0x00#8, 0x00#8, 0x02#8, 0xd2#8, 0x05#8, 0x1c#8], hostErr := false } : Descriptor).modul.toNat % 4 = 0) ∧ (descLen ({ ctl := 0x80000010#32, host := 1140, modul := 0x64000048#32, data := [0x32#8, 0x01#8, 0x01#8, 0x7c#8, 0x01#8, 0x43#8, 0x01#8, 0x00#8, 0x16#8, 0x91#8, 0x00#8, 0x00#8, 0x02#8, 0xd2#8, 0x05#8, 0x1c#8], hostErr := false } : Descriptor) % 4 = 0) ∧ (descLen ({ ctl := 0x80000010#32, host := 1140, modul := 0x64000048#32, data := [0x32#8, 0x01#8, 0x01#8, 0x7c#8, 0x01#8, 0x43#8, 0x01#8, 0x00#8, 0x16#8, 0x91#8, 0x00#8, 0x00#8, 0x02#8, 0xd2#8, 0x05#8, 0x1c#8], hostErr := false } : Descriptor) ≠ 0) ∧ (({ ctl := 0x80000010#32, host := 1140, modul := 0x64000048#32, data := [0x32#8, 0x01#8, 0x01#8, 0x7c#8, 0x01#8, 0x43#8, 0x01#8, 0x00#8, 0x16#8, 0x91#8, 0x00#8, 0x00#8, 0x02#8, 0xd2#8, 0x05#8, 0x1c#8], hostErr := false } : Descriptor).data.length = descLen ({ ctl := 0x80000010#32, host := 1140, modul := 0x64000048#32, data := [0x32#8, 0x01#8, 0x01#8, 0x7c#8, 0x01#8, 0x43#8, 0x01#8, 0x00#8, 0x16#8, 0x91#8, 0x00#8, 0x00#8, 0x02#8, 0xd2#8, 0x05#8, 0x1c#8], hostErr := false } : Descriptor)) ∧ ((w56 2 1).hostArea ≤ ({ ctl := 0x80000010#32, host := 1140, modul := 0x64000048#32, data := [0x32#8, 0x01#8, 0x01#8, 0x7c#8, 0x01#8, 0x43#8, 0x01#8, 0x00#8, 0x16#8, 0x91#8, 0x00#8, 0x00#8, 0x02#8, 0xd2#8, 0x05#8, 0x1c#8], hostErr := false } : Descriptor).modul.toNat) ∧ (({ ctl := 0x80000010#32, host := 1140, modul := 0x64000048#32, data := [0x32#8, 0x01#8, 0x01#8, 0x7c#8, 0x01#8, 0x43#8, 0x01#8, 0x00#8, 0x16#8, 0x91#8, 0x00#8, 0x00#8, 0x02#8, 0xd2#8, 0x05#8, 0x1c#8], hostErr := false } : Descriptor).modul.toNat + descLen ({ ctl := 0x80000010#32, host := 1140, modul := 0x64000048#32, data := [0x32#8, 0x01#8, 0x01#8, 0x7c#8, 0x01#8, 0x43#8, 0x01#8, 0x00#8, 0x16#8, 0x91#8, 0x00#8, 0x00#8, 0x02#8, 0xd2#8, 0x05#8, 0x1c#8], hostErr := false } : Descriptor) ≤ (w56 2 1).superMem)) := by decide +kernel

theorem test_met_DmaWorksThroughItsRing :
    (∃ (s : State) (i : Iface) (c : Nat) (v : Word), (s.shaped = true) ∧ (s.hostUp = true) ∧ (c < 4) ∧ (s.may i .operate = true) ∧ (s.unwritten = true)) ∧
    (∃ (s : State) (c : Nat) (d : Descriptor), (s.shaped = true) ∧ (s.hostUp = true) ∧ (c < 2) ∧ (s.dmaRuns c = true) ∧ (descOwn d = true) ∧ (descSpace d = false) ∧ (descIrq d = false) ∧ (d.hostErr = false) ∧ (d.host % 4 = 0) ∧ (d.modul.toNat % 4 = 0) ∧ (descLen d % 4 = 0) ∧ (descLen d ≠ 0) ∧ (d.data.length = descLen d) ∧ (s.hostArea ≤ d.modul.toNat) ∧ (d.modul.toNat + descLen d ≤ s.superMem)) ∧
    (∃ (s : State) (i : Iface) (c : Nat) (v : Word), (s.shaped = true) ∧ (s.hostUp = true) ∧ (c < 4) ∧ (s.may i .operate = true) ∧ (s.dmaRuns c = false)) ∧
    (∃ (s : State), (s.shaped = true) ∧ (s.hostUp = true) ∧ (s.pwr.unpowered = false)) :=
  ⟨⟨w56 0 0, Iface.pcie, 3, 0x000020a3#32, test_at_56_0.1⟩,
   ⟨w56 2 1, 1, { ctl := 0x80000010#32, host := 1140, modul := 0x64000048#32, data := [0x32#8, 0x01#8, 0x01#8, 0x7c#8, 0x01#8, 0x43#8, 0x01#8, 0x00#8, 0x16#8, 0x91#8, 0x00#8, 0x00#8, 0x02#8, 0xd2#8, 0x05#8, 0x1c#8], hostErr := false }, test_at_56_1⟩,
   ⟨w56 0 0, Iface.pcie, 1, 0x00000003#32, test_at_56_0.2.1⟩,
   ⟨w56 0 0, test_at_56_0.2.2⟩⟩

/-- States for the statement EveryStepKeepsStoresCanonical. -/
def w59 (z : Nat) : State :=
  let s := wBase z
  s


theorem test_met_EveryStepKeepsStoresCanonical : ∃ (s t : State), s.memOk = true ∧ s.regsOk = true ∧ Steps s t :=
  ⟨{ State.reset with pending := [.wake] }, State.reset, by decide +kernel, by decide +kernel, rfl⟩

/-- States for the statement EveryStepKeepsTheShape. -/
def w60 (z : Nat) : State :=
  let s := wBase z
  s


theorem test_met_EveryStepKeepsTheShape : ∃ (s t : State), s.shaped = true ∧ Steps s t :=
  ⟨{ State.reset with pending := [.wake] }, State.reset, by decide +kernel, rfl⟩

/-! ### Well-formed commands: for each check of WellFormed.lean the last operands it takes and the first it refuses -/

def aPtp : PtpMsg :=
  ⟨.sync, ⟨0, 0, 0, 0, 0, .l2, false⟩, 0, false, 0, 0, 0, 0, ⟨0, 0, 0, 0, 0, 0, 0⟩, false⟩
def aRing : RingFrame := ⟨0, 0, 0, false, false, false, 0, 0, 0, 0, [], [], 0, 0, []⟩
def aCopy : CourseCopy := ⟨0, 0, 0, 0, 0, 0, [], []⟩
def aGoose : GooseFrame := ⟨0, 0, false, 0, 0, 0, 0⟩
def aSv : SvFrame := ⟨0, 0, []⟩
def aDesc : Descriptor := ⟨0, 0, 0, [], false⟩

/-! The last operands of each range are taken. -/

theorem test_wf_accepts_0 :
    ([.registerWrite .pcie 0x3FFFFFC 0 0, .snapshotRead .pcie 0x3FFFFFC 1, .snapshotRead .pcie 0 32, .sealFieldWrite .pcie 0x3FFFFFC 0,
     .gridSample 15, .ptpMessageRx 3 aPtp, .pathStableTimeout 3, .announceReceiptTimeout 3,
     .ptpMessageTx 3 .sync, .txqIdRead .pcie 3, .courseSet 191, .standingCourseSet 191,
     .courseSlotRelease 191, .standingCourseRearm 191, .courseDeadline 191, .wCopyRx ({ aCopy with acts := List.replicate 32 (0, 0, 0) }),
     .wCopyRx ({ aCopy with acts := [(0, 0, 0)] }), .mirrorAnswerTimeout 191, .converterResult 63 0 0 0 false 0, .matchWindowClose 63,
     .repointStepStart 7, .repointMismatch 7, .repointAbandon 7, .substitutionCourse 7,
     .repointFadeEnd 7, .converterCalibDone 7 17 0 0 0, .ageLimit 7, .afeOosWrite .pcie 63 0,
     .channelOutOfService 63, .channelReturnToService 63, .proofStart .pcie 7 0, .proofDacGrant 7,
     .proofTestDone 7 0, .hkcEntryWrite (List.replicate 256 0), .stageBOutput 15, .fltBankRequest .pcie 15 0,
     .phasorUpdate 11, .bfInitWrite .pcie 11 0, .bfT1Expiry 11, .bfT2Expiry 11,
     .tripHoldEnd 15, .powTimeout 11 false, .powTargetArm .pcie 11 0, .triggerTimeout 15,
     .captureRecordEnd 7] : List Instr).all (fun i => i.wf) = true := by decide +kernel

theorem test_wf_accepts_1 :
    ([.acqRelease .pcie 7 0, .acqRdptrWrite .pcie 7 0, .triggerBusAssert 7, .triggerBusRelease 7,
     .triggerBusEdge 7, .meterWindowClose 11, .meterGap 11, .taskSync 3 [],
     .taskExecutionComplete 3 [] [], .taskOverrun 3, .taskFault 3, .blkStart .pcie 3 0,
     .blkStop .pcie 3 0, .blkLoad .pcie 3 0, .blkLoadDone 3, .blkExch .pcie 3 0,
     .blkVpatch .pcie 3 0, .exchCopyDone 3, .ringFrameReturn 2 aRing, .ringFrameReturn 3 aRing,
     .yulStationOverride .pcie 63 0, .stationFrameRx 2 0 aRing, .stationFrameRx 3 0 aRing, .shadowRingFrameRx 2 aRing,
     .shadowRingFrameRx 3 aRing, .gooseFrameRx 3 ({ aGoose with sub := 127 }) 0 [] none aDesc, .svFrameRx 3 ({ aSv with stream := 7 }) none, .hostFrameRx 3 0 false 0 [] none aDesc,
     .hsrFrameForward 3 0 [], .unmatchedFrameRx 3 none, .gooseTimeout 127, .gooseRetransmit 31,
     .svPublish 7, .svSampleDeadline 7, .linkDown 4, .linkUp 4,
     .dioPinTransition 31 .above, .dioInputTick 31, .dioFreqGateEnd 31, .dioFreqTimeout 31,
     .fieldSupplyLow 1 0, .fieldSupplyRecover 1, .fieldSupplyMissing 1, .fieldSupplyRestoring 1,
     .restoreSlot 1] : List Instr).all (fun i => i.wf) = true := by decide +kernel

theorem test_wf_accepts_2 :
    ([.fieldSupplyHigh 1 false, .dioOverload 31, .dioOverloadRetry 31 false, .dioOpen 31,
     .dioOpenClear 31, .dioOvertemp 31, .dioOvertempClear 31, .dioExtDrive 31,
     .dioExtDriveClear 31, .dioWatchdogExpiry 1, .dioKick .pcie 1 0, .dioRearm .pcie 1 0,
     .aoReadback 7 0 0 0, .aoComplianceSet 7, .aoComplianceAlarm 7, .aoComplianceClear 7,
     .aoThermalCut 7 0, .aoThermalFold 7 0, .aoThermalNormal 7 0, .aoTrimControl .pcie 7 0,
     .aoTrimMeasure .pcie 7 1 0, .aoTrimMeasure .pcie 0 2 0, .aoTrimApply .pcie 7 0, .staggerSlotStart 24,
     .unitEnableWrite .pcie 0x64008 0, .unitStartAfterGap 24, .spiTransaction 0 (List.replicate 32 0) false, .bar2Write 0xFFFFFFF ([0]),
     .msixMessageSend 31, .dmaTailWrite .pcie 3 0, .dmaDescriptorComplete 3 aDesc, .dmaStop .pcie 3 0] : List Instr).all (fun i => i.wf) = true := by decide +kernel

/-! The first operand beyond each range is refused. -/

theorem test_wf_refuses_0 :
    ([.registerWrite .pcie 2 0 0, .registerWrite .pcie 0x4000000 0 0, .snapshotRead .pcie 2 1, .snapshotRead .pcie 0 0,
     .snapshotRead .pcie 0 33, .snapshotRead .pcie 0x3FFFFFC 2, .sealFieldWrite .pcie 2 0, .sealFieldWrite .pcie 0x4000000 0,
     .gridSample 16, .ptpMessageRx 4 aPtp, .pathStableTimeout 4, .announceReceiptTimeout 4,
     .ptpMessageTx 4 .sync, .txqIdRead .pcie 4, .courseSet 192, .standingCourseSet 192,
     .courseSlotRelease 192, .standingCourseRearm 192, .courseDeadline 192, .wCopyRx aCopy,
     .wCopyRx ({ aCopy with acts := List.replicate 33 (0, 0, 0) }), .mirrorAnswerTimeout 192, .converterResult 64 0 0 0 false 0, .matchWindowClose 64,
     .repointStepStart 8, .repointMismatch 8, .repointAbandon 8, .substitutionCourse 8,
     .repointFadeEnd 8, .converterCalibDone 8 0 0 0 0, .converterCalibDone 0 18 0 0 0, .ageLimit 8,
     .afeOosWrite .pcie 64 0, .channelOutOfService 64, .channelReturnToService 64, .proofStart .pcie 8 0,
     .proofDacGrant 8, .proofTestDone 8 0, .hkcEntryWrite (List.replicate 257 0), .stageBOutput 16,
     .fltBankRequest .pcie 16 0, .phasorUpdate 12, .bfInitWrite .pcie 12 0, .bfT1Expiry 12,
     .bfT2Expiry 12] : List Instr).all (fun i => !i.wf) = true := by decide +kernel

theorem test_wf_refuses_1 :
    ([.tripHoldEnd 16, .powTimeout 12 false, .powTargetArm .pcie 12 0, .triggerTimeout 16,
     .captureRecordEnd 8, .acqRelease .pcie 8 0, .acqRdptrWrite .pcie 8 0, .triggerBusAssert 8,
     .triggerBusRelease 8, .triggerBusEdge 8, .meterWindowClose 12, .meterGap 12,
     .taskSync 4 [], .taskExecutionComplete 4 [] [], .taskOverrun 4, .taskFault 4,
     .blkStart .pcie 4 0, .blkStop .pcie 4 0, .blkLoad .pcie 4 0, .blkLoadDone 4,
     .blkExch .pcie 4 0, .blkVpatch .pcie 4 0, .exchCopyDone 4, .ringFrameReturn 1 aRing,
     .ringFrameReturn 4 aRing, .yulStationOverride .pcie 64 0, .stationFrameRx 1 0 aRing, .stationFrameRx 4 0 aRing,
     .shadowRingFrameRx 1 aRing, .shadowRingFrameRx 4 aRing, .gooseFrameRx 4 aGoose 0 [] none aDesc, .gooseFrameRx 0 ({ aGoose with sub := 128 }) 0 [] none aDesc,
     .svFrameRx 4 aSv none, .svFrameRx 0 ({ aSv with stream := 8 }) none, .hostFrameRx 4 0 false 0 [] none aDesc, .hsrFrameForward 4 0 [],
     .unmatchedFrameRx 4 none, .gooseTimeout 128, .gooseRetransmit 32, .svPublish 8,
     .svSampleDeadline 8, .linkDown 5, .linkUp 5, .dioPinTransition 32 .above,
     .dioInputTick 32] : List Instr).all (fun i => !i.wf) = true := by decide +kernel

theorem test_wf_refuses_2 :
    ([.dioFreqGateEnd 32, .dioFreqTimeout 32, .fieldSupplyLow 2 0, .fieldSupplyRecover 2,
     .fieldSupplyMissing 2, .fieldSupplyRestoring 2, .restoreSlot 2, .fieldSupplyHigh 2 false,
     .dioOverload 32, .dioOverloadRetry 32 false, .dioOpen 32, .dioOpenClear 32,
     .dioOvertemp 32, .dioOvertempClear 32, .dioExtDrive 32, .dioExtDriveClear 32,
     .dioWatchdogExpiry 2, .dioKick .pcie 2 0, .dioRearm .pcie 2 0, .aoReadback 8 0 0 0,
     .aoComplianceSet 8, .aoComplianceAlarm 8, .aoComplianceClear 8, .aoThermalCut 8 0,
     .aoThermalFold 8 0, .aoThermalNormal 8 0, .aoTrimControl .pcie 8 0, .aoTrimMeasure .pcie 8 1 0,
     .aoTrimMeasure .pcie 0 0 0, .aoTrimMeasure .pcie 0 3 0, .aoTrimApply .pcie 8 0, .staggerSlotStart 25,
     .unitEnableWrite .pcie 0x6400C 0, .unitStartAfterGap 25, .spiTransaction 0 (List.replicate 33 0) false, .bar2Write 0x10000000 ([0]),
     .msixMessageSend 32, .dmaTailWrite .pcie 4 0, .dmaDescriptorComplete 4 aDesc, .dmaStop .pcie 4 0] : List Instr).all (fun i => !i.wf) = true := by decide +kernel

/-! ### Worked examples of the spec -/

/-- The tuple of the example of 02_time_and_angle.md: 90.000°, cycle 1,000,000, 49.984375 Hz, and the target two cycles on at 270.000°
has the predicted time word seconds 1,893,456,037, ns 462,515,629, fraction 0xE264 (R63). -/
theorem test_target_to_time :
    { State.reset with ang := { State.reset.ang with tup :=
        { pos := 1000000 * 2 ^ 32 + 0x40000000, tw := (1893456037 * 1000000000 + 412500000) * 2 ^ 16, freq := 838598656 } } }.twOfPos
      (1000002 * 2 ^ 32 + 0xC0000000) = (1893456037 * 1000000000 + 462515629) * 2 ^ 16 + 0xE264 := by decide +kernel

end Sys2Proof.Tests
end

section
/-!
Seal field writes of a channel that the variant lacks (R2), and the statement SealedFieldsNeedTheOpenSeal.
-/
namespace Sys2Proof.Machine

/-! ### Host writes to an absent register (R2) -/

/-- R2: a host write to a register of an absent unit or channel is ignored. -/
theorem State.hostWrite_of_absent {s : State} {off : Nat} (i : Iface) (v : Nat) (hmap : inMap off = true) (habs : s.absent off = true) :
    s.hostWrite i off v = s := by
  simp [State.hostWrite, hmap, habs]

/-- A command on PCI Express that answers the state it finds leaves it as it is, taken in or dropped (R637). -/
theorem State.hostRow_pcie_self (s : State) : s.hostRow .pcie (.next s) = .next s := by
  unfold State.hostRow
  split <;> rfl

/-- A seal field write over PCI Express to a register of an absent channel has no effect, whatever the seal and the level. -/
theorem exec_sealFieldWrite_pcie_of_absent {s : State} {off : Nat} (v : Word) (hmap : inMap off = true) (habs : s.absent off = true) :
    exec (.sealFieldWrite .pcie off v) s = .next s := by
  change execSealFieldWrite .pcie off v s = .next s
  unfold execSealFieldWrite
  split
  · rw [State.hostWrite_of_absent .pcie v.toNat hmap habs, State.hostRow_pcie_self]
  · rfl

/-! ### An AK960-B whose register file marks channel 7 as sealed -/

/-- A running AK960-B at engineer level with the seal open. AO channel 7, which this variant lacks (R1), has SEALED = 1 in the
register file; the premises of SealedFieldsNeedTheOpenSeal ask for no more. -/
def sealedUnfittedAo : State :=
  let pwr := { State.reset.pwr with parts := State.reset.pwr.parts.map (fun p => { p with st := .on }) }
  let hst := { State.reset.hst with acc := State.reset.hst.acc.map (fun a => { a with level := .engineer }) }
  let s := { State.reset with variant := .b, pwr := pwr, hst := hst }
  (s.setF Reg.MTR_SEAL_STAT_OPEN 1).setF (Reg.AO_CH_CFG_SEALED 7) 1

/-- The state meets what the statement asks of every write. -/
theorem sealedUnfittedAo_writable :
    sealedUnfittedAo.hostUp = true ∧ sealedUnfittedAo.shaped = true ∧ sealedUnfittedAo.level .pcie = .engineer ∧
      sealedUnfittedAo.flag (Reg.AO_CH_CFG_SEALED 7) = true ∧ (0 : Word).toNat ≠ sealedUnfittedAo.rd (Reg.AO_CH_TRIM_G 7) := by
  decide +kernel

/-- The state meets what the statement asks of a write with the seal open. -/
theorem sealedUnfittedAo_open :
    sealedUnfittedAo.sealOpen = true ∧ sealedUnfittedAo.auditRoom 1 = true ∧ sealedUnfittedAo.unwritten = true := by
  decide +kernel

/-- TRIM_G of channel 7 is a register of BAR0, and absent. -/
theorem sealedUnfittedAo_absent :
    inMap (Reg.AO_CH_TRIM_G 7) = true ∧ sealedUnfittedAo.absent (Reg.AO_CH_TRIM_G 7) = true := by
  decide +kernel

/-- Refutes O52: the statement does not ask that the channel is fitted. On an AK960-B a write of 0 to TRIM_G of AO channel 7 is
ignored (R2), so the register does not take the value, though SEALED = 1 stands in the register file and the seal is open. -/
theorem not_sealedFieldsNeedTheOpenSeal : ¬ Obligations.SealedFieldsNeedTheOpenSeal := by
  intro h
  obtain ⟨hup, hshape, hlevel, hsealed, hother⟩ := sealedUnfittedAo_writable
  obtain ⟨hopen, hroom, hunwritten⟩ := sealedUnfittedAo_open
  obtain ⟨hmap, habs⟩ := sealedUnfittedAo_absent
  obtain ⟨hwrite, -⟩ := h sealedUnfittedAo .pcie 7 0 hup hshape (by decide) hlevel hsealed hother
  obtain ⟨t, hexec, htakes, -⟩ := hwrite hopen hroom hunwritten
  rw [exec_sealFieldWrite_pcie_of_absent 0 hmap habs] at hexec
  obtain rfl : sealedUnfittedAo = t := Host.Outcome.next.inj hexec
  exact hother htakes.symm

end Sys2Proof.Machine
end

section
/-!
What the end and the start of a fc leave alone, and the statement IdleStepIsOneFc. `State.fcView` collects it: every field that the
statement speaks of, and the words of some chosen registers. Each operation that the end and the start of a fc use keeps the
view, so the folds over ports, profiles, slots and engines keep it too, and only `State.tick` moves time and angle. A lemma proved
by `(rfl)` is one that `simp` cites as it stands: the kernel then never compares the states around it by unfolding them.
-/
namespace Sys2Proof.Machine

/-! ### The view of a state across a fc boundary -/

/-- What only `State.tick` may change at a fc boundary, and the words of some registers. -/
structure FcView where
  variant : Variant
  dram : List Host.Cell
  tm : TimeSt
  ang : AngSt
  pwr : PwrSt
  kln : KlnSt
  aud : AudSt
  pending : List Instr
  wrNow : List (Nat × Nat × Bool)
  slewAsym : Bool
  words : List Nat

/-- The view of a state with the registers at some offsets. -/
def State.fcView (s : State) (offs : List Nat) : FcView :=
  ⟨s.variant, s.dram, s.tm, s.ang, s.pwr, s.kln, s.aud, s.pending, s.hst.wrNow, s.tbu.slewAsym, offs.map s.rd⟩

/-- States of one view agree in every field it holds. -/
theorem State.fields_of_fcView {s t : State} {offs : List Nat} (h : t.fcView offs = s.fcView offs) :
    t.variant = s.variant ∧ t.dram = s.dram ∧ t.tm = s.tm ∧ t.ang = s.ang ∧ t.pwr = s.pwr ∧ t.kln = s.kln ∧ t.aud = s.aud ∧
      t.pending = s.pending ∧ t.hst.wrNow = s.hst.wrNow ∧ t.tbu.slewAsym = s.tbu.slewAsym ∧ offs.map t.rd = offs.map s.rd := by
  simpa only [State.fcView, FcView.mk.injEq] using h

/-- The registers that `State.tick` takes the increment limit, the tracker state and the angle increment from. -/
def tickRegs : List Nat := [Reg.ANG_STAT, Reg.ANG_PINC, Reg.TBU_SLEW_MAX, Reg.TBU_PTP_ASYM]

/-- The offsets of these registers. -/
theorem mem_tickRegs {o : Nat} : o ∈ tickRegs ↔ o = 0x30034 ∨ o = 0x30040 ∨ o = 0x20034 ∨ o = 0x20074 := by
  simp [tickRegs]

/-- A fold of steps that keep a view of the state keeps it. -/
theorem foldl_keeps {σ α γ : Type} (view : σ → γ) (step : σ → α → σ) (l : List α) (s : σ)
    (h : ∀ s, ∀ a ∈ l, view (step s a) = view s) : view (l.foldl step s) = view s :=
  List.foldlRecOn (motive := fun t => view t = view s) l step rfl fun t ht a ha => (h t a ha).trans ht

variable {offs : List Nat}

/-! ### Shared operations -/

@[simp] theorem State.fcView_wr (s : State) {o : Nat} (v : Nat) (h : o ∉ offs) : (s.wr o v).fcView offs = s.fcView offs := by
  have hwords : offs.map (s.wr o v).rd = offs.map s.rd :=
    List.map_congr_left fun x hx => State.rd_wr_ne s v (ne_of_mem_of_not_mem hx h)
  simp only [State.fcView, hwords, State.wr_variant, State.wr_dram, State.wr_tm, State.wr_ang, State.wr_pwr, State.wr_kln,
    State.wr_aud, State.wr_pending, State.wr_hst, State.wr_tbu]

@[simp] theorem State.fcView_setF (s : State) {f : Fld} (v : Nat) (h : f.off ∉ offs) :
    (s.setF f v).fcView offs = s.fcView offs :=
  State.fcView_wr s _ h

@[simp] theorem State.fcView_setB (s : State) {f : Fld} (b : Bool) (h : f.off ∉ offs) :
    (s.setB f b).fcView offs = s.fcView offs :=
  State.fcView_wr s _ h

@[simp] theorem State.fcView_incF (s : State) {f : Fld} (n : Nat) (h : f.off ∉ offs) :
    (s.incF f n).fcView offs = s.fcView offs :=
  State.fcView_wr s _ h

@[simp] theorem State.fcView_setBit (s : State) {f : Fld} (i : Nat) (b : Bool) (h : f.off ∉ offs) :
    (s.setBit f i b).fcView offs = s.fcView offs :=
  State.fcView_wr s _ h

@[simp] theorem State.fcView_mark (s : State) (o m : Nat) : (s.mark o m).fcView offs = s.fcView offs := (rfl)

@[simp] theorem State.fcView_bump (s : State) : s.bump.fcView offs = s.fcView offs := (rfl)

@[simp] theorem State.fcView_out (s : State) (t : TxItem) : (s.out t).fcView offs = s.fcView offs := (rfl)

@[simp] theorem State.fcView_rise (s : State) (was : Bool) (i : Nat) : (s.rise was i).fcView offs = s.fcView offs := by
  unfold State.rise
  split <;> rfl

@[simp] theorem State.fcView_raise (s : State) {f : Fld} (h : f.off ∉ offs) : (s.raise f).fcView offs = s.fcView offs := by
  simp [State.raise, h]

@[simp] theorem State.fcView_count (s : State) {f : Fld} (n : Nat) (h : f.off ∉ offs) :
    (s.count f n).fcView offs = s.fcView offs := by
  simp [State.count, State.tally, h]

@[simp] theorem State.fcView_irq (s : State) {b : Blk} (i : Nat) (h : Reg.UNIT_IRQ b ∉ offs) :
    (s.irq b i).fcView offs = s.fcView offs := by
  simp [State.irq, State.raiseBit, h]

/-- Raising an event writes at most the two registers that count a lost one (R519). -/
@[simp] theorem State.fcView_emit (s : State) (src code cls value : Nat) (hcount : Reg.EVT_INTAKE_LOST ∉ offs)
    (hstat : Reg.EVT_STAT ∉ offs) : (s.emit src code cls value).fcView offs = s.fcView offs := by
  unfold State.emit State.emitAt
  split
  · simp [hcount, hstat]
  · rfl

/-! ### The end of a fc: ARMs (R164) -/

@[simp] theorem State.fcView_setSlot (s : State) (n : Nat) (f : Slot → Slot) : (s.setSlot n f).fcView offs = s.fcView offs := (rfl)

/-- A change of a slot of the table reads back. -/
theorem State.slot_setSlot_same (s : State) {n : Nat} (f : Slot → Slot) (h : n < s.crs.slots.length) :
    (s.setSlot n f).slot n = f (s.slot n) := by
  simp [State.slot, State.setSlot, upd, h]

@[simp] theorem State.length_setSlot (s : State) (n : Nat) (f : Slot → Slot) :
    (s.setSlot n f).crs.slots.length = s.crs.slots.length := by
  simp [State.setSlot, upd]

@[simp] theorem State.fcView_crsRecord (s : State) (n status : Nat) :
    (s.crsRecord n status).fcView tickRegs = s.fcView tickRegs := by
  unfold State.crsRecord
  dsimp only
  split
  · rw [State.fcView_emit _ _ _ _ _ (by decide) (by decide), State.fcView_setSlot]
  · exact State.fcView_setSlot ..

/-- The record of a course keeps what its slot says of where it came from. -/
theorem State.crsRecord_slot_tag (s : State) {n : Nat} (status : Nat) (h : n < s.crs.slots.length) :
    ((s.crsRecord n status).slot n).tag = (s.slot n).tag := by
  have hemit (t : State) (a b c d : Nat) : (t.emit a b c d).slot n = t.slot n := by simp [State.slot]
  unfold State.crsRecord
  dsimp only
  split
  · rw [hemit, State.slot_setSlot_same _ _ h]
  · rw [State.slot_setSlot_same _ _ h]

/-- A discarded course that no unit prepared changes nothing of the view: its slot, its record, its event, its interrupt. -/
theorem State.fcView_discard (s : State) {n : Nat} (status act : Nat) (h : n < s.crs.slots.length)
    (htag : (s.slot n).tag = .none) : (s.discard n status act).fcView tickRegs = s.fcView tickRegs := by
  unfold State.discard
  extract_lets r c r1 r2
  have hc : c.tag = .none := by
    rw [State.crsRecord_slot_tag _ _ (by simpa using h), State.slot_setSlot_same _ _ h, htag]
  have hhook : r2.discardHook c = r2 := by simp [State.discardHook, hc]
  have h1 : r1.fcView tickRegs = r.fcView tickRegs := by
    unfold r1
    split
    · exact State.fcView_irq _ _ (by decide)
    · rfl
  have h2 : r2.fcView tickRegs = r1.fcView tickRegs := by
    unfold r2
    split
    · exact State.fcView_incF _ _ (by decide)
    · rfl
  rw [hhook, h2, h1, State.fcView_crsRecord, State.fcView_setSlot]

@[simp] theorem State.fcView_wSend (s : State) (f : WFrame) : (s.wSend f).fcView offs = s.fcView offs := by
  unfold State.wSend
  split <;> rfl

/-- A course that no unit prepared is submitted without a change of the view, taken or refused. -/
theorem State.fcView_submit (s : State) {r : CReq} (htag : r.tag = .none) :
    (s.submit r).1.fcView tickRegs = s.fcView tickRegs := by
  unfold State.submit
  extract_lets e
  split
  · rw [State.fcView_irq _ _ (by decide), State.fcView_count _ _ (by decide)]
  split
  · rfl
  split
  · rfl
  next n hfree =>
    extract_lets c _ _ t u v
    have hn : n < s.crs.slots.length := by
      obtain ⟨hlt, -⟩ := List.findIdx?_eq_some_iff_getElem.1 hfree
      exact hlt
    have hu : u.fcView tickRegs = s.fcView tickRegs := State.fcView_setF t _ (by decide)
    have hcrs : u.crs.slots = (s.setSlot n fun _ => c).crs.slots :=
      (congrArg CrsSt.slots (show u.crs = t.crs from State.setF_crs t _ _) :)
    have hslot : (u.slot n).tag = .none := by
      have : u.slot n = (s.setSlot n fun _ => c).slot n := by simp only [State.slot, hcrs]
      rw [this, State.slot_setSlot_same _ _ hn]; exact htag
    have hlen : n < u.crs.slots.length := by rw [hcrs, State.length_setSlot]; exact hn
    split
    · rw [State.fcView_discard u _ _ hlen hslot, hu]
    split
    · rw [State.fcView_discard u _ _ hlen hslot, hu]
    · unfold v
      split
      · rw [State.fcView_wSend, hu]
      · exact hu

@[simp] theorem State.fcView_crsRes (s : State) (status gen course : Nat) :
    (s.crsRes status gen course).fcView tickRegs = s.fcView tickRegs := by
  have hres : Reg.CRS_RES ∉ tickRegs := by decide
  simp [State.crsRes, hres]

@[simp] theorem State.fcView_armAccept (s : State) (r : ArmReq) : (s.armAccept r).fcView tickRegs = s.fcView tickRegs := by
  have hsubmit : (s.submit s.staged).1.fcView tickRegs = s.fcView tickRegs := State.fcView_submit s rfl
  unfold State.armAccept
  split
  · exact State.fcView_crsRes ..
  split
  · rw [State.fcView_bump, State.fcView_crsRes]
  · dsimp only
    split <;> rw [State.fcView_crsRes, hsubmit]

@[simp] theorem State.fcView_armsAccept (s : State) : s.armsAccept.fcView tickRegs = s.fcView tickRegs := by
  unfold State.armsAccept
  split
  · rfl
  · exact foldl_keeps (State.fcView · tickRegs) _ _ _ fun t r _ => State.fcView_armAccept t r

/-! ### The end of a fc: bank requests, the tagged queue, current loops, standing courses (R263, R243, R566, R173) -/

@[simp] theorem State.fcView_setFprof (s : State) (p : Nat) (f : FltProf → FltProf) :
    (s.setFprof p f).fcView offs = s.fcView offs := (rfl)

/-- The registers of a profile lie outside those of the tick. -/
theorem fltProf_notMem_tickRegs (p : Nat) : Reg.FLT_PROF_STAT p ∉ tickRegs ∧ Reg.FLT_PROF_CNT p ∉ tickRegs := by
  simp only [mem_tickRegs, Reg.FLT_PROF_STAT, Reg.FLT_PROF_CNT]
  omega

@[simp] theorem State.fcView_setQueue (s : State) (p : Nat) (q : Option Nat) :
    (s.setQueue p q).fcView tickRegs = s.fcView tickRegs := by
  obtain ⟨hstat, -⟩ := fltProf_notMem_tickRegs p
  simp [State.setQueue, hstat]

@[simp] theorem State.fcView_bankRequest (s : State) (p b : Nat) :
    (s.bankRequest p b).fcView tickRegs = s.fcView tickRegs := by
  obtain ⟨-, hcnt⟩ := fltProf_notMem_tickRegs p
  unfold State.bankRequest
  dsimp only
  split
  case h_1 => split <;> rfl
  case h_2 =>
    split
    case h_1 => split <;> simp
    case h_2 =>
      split
      · rfl
      · rw [State.fcView_irq _ _ (by decide), State.fcView_incF _ _ hcnt, State.fcView_raise _ (by decide),
          State.fcView_setQueue]

@[simp] theorem State.fcView_fltEnd (s : State) : s.fltEnd.fcView tickRegs = s.fcView tickRegs := by
  refine foldl_keeps (State.fcView · tickRegs) _ _ _ fun t p _ => ?_
  dsimp only
  split
  · rfl
  · exact foldl_keeps (State.fcView · tickRegs) _ _ _ fun u b _ => State.fcView_bankRequest u p b

@[simp] theorem State.fcView_hkcEnd (s : State) : s.hkcEnd.fcView tickRegs = s.fcView tickRegs := by
  unfold State.hkcEnd
  split
  · rfl
  · rw [State.fcView_irq _ _ (by decide), State.fcView_count _ _ (by decide), State.fcView_raise _ (by decide)]
    rfl

@[simp] theorem State.fcView_aoEnd (s : State) : s.aoEnd.fcView offs = s.fcView offs :=
  foldl_keeps (State.fcView · offs) _ _ _ fun _ _ _ => rfl

@[simp] theorem State.fcView_checkNext (s : State) : s.checkNext.fcView offs = s.fcView offs := (rfl)

@[simp] theorem State.fcView_gateTick (s : State) : s.gateTick.fcView offs = s.fcView offs := (rfl)

/-! ### The end of a fc: the station ports (R497, R498, R511) -/

@[simp] theorem State.fcView_setPtx (s : State) (p : Nat) (f : PortTx → PortTx) :
    (s.setPtx p f).fcView offs = s.fcView offs := (rfl)

@[simp] theorem State.fcView_setPp (s : State) (p : Nat) (f : PtpPort → PtpPort) :
    (s.setPp p f).fcView offs = s.fcView offs := (rfl)

@[simp] theorem State.fcView_txBegin (s : State) (p : Nat) (w : TxWait) (rest : List TxWait) :
    (s.txBegin p w rest).fcView offs = s.fcView offs := (rfl)

/-- The registers of a station port lie outside those of the tick. -/
theorem port_notMem_tickRegs (p : Nat) :
    Reg.TBU_P_STAT p ∉ tickRegs ∧ Reg.TBU_P_TXQ_LOST p ∉ tickRegs ∧ Reg.ETH_P_CNT p ∉ tickRegs := by
  simp only [mem_tickRegs, Reg.TBU_P_STAT, Reg.TBU_P_TXQ_LOST, Reg.ETH_P_CNT]
  omega

@[simp] theorem State.fcView_txqAdd (s : State) (p : Nat) (e : TxStamp) :
    (s.txqAdd p e).fcView tickRegs = s.fcView tickRegs := by
  obtain ⟨hstat, hlost, -⟩ := port_notMem_tickRegs p
  unfold State.txqAdd
  split
  · rw [State.fcView_irq _ _ (by decide), State.fcView_count _ _ hlost, State.fcView_raise _ hstat]
  · exact State.fcView_setPp ..

@[simp] theorem State.fcView_txDone (s : State) (p : Nat) : (s.txDone p).fcView tickRegs = s.fcView tickRegs := by
  unfold State.txDone
  split
  · split
    · rfl
    · dsimp only
      split
      · rw [State.fcView_txqAdd, State.fcView_setPtx]
      · rfl
  · rfl

@[simp] theorem State.fcView_portTick (s : State) (p : Nat) : (s.portTick p).fcView tickRegs = s.fcView tickRegs := by
  obtain ⟨-, -, hcnt⟩ := port_notMem_tickRegs p
  unfold State.portTick
  split
  · rfl
  · dsimp only
    split
    · rw [State.fcView_txBegin, State.fcView_txDone]
    · split
      · rw [State.fcView_txBegin, State.fcView_out, State.fcView_count _ _ hcnt, State.fcView_txDone]
      · exact State.fcView_txDone ..
    · exact State.fcView_txDone ..

@[simp] theorem State.fcView_txTick (s : State) : s.txTick.fcView tickRegs = s.fcView tickRegs :=
  foldl_keeps (State.fcView · tickRegs) _ _ _ fun t p _ => State.fcView_portTick t p

/-- The end of a fc leaves what the tick works on as it is. -/
theorem State.fcView_fcEnd (s : State) : s.fcEnd.fcView tickRegs = s.fcView tickRegs := by
  unfold State.fcEnd
  split
  · rfl
  · simp

/-! ### The start of a fc: sequence numbers, comparators, elements (R173, R27, R305) -/

@[simp] theorem State.fcView_drawSeqs (s : State) : s.drawSeqs.fcView offs = s.fcView offs := (rfl)

@[simp] theorem State.fcView_setComp (s : State) (t i : Nat) (f : CompSt → CompSt) :
    (s.setComp t i f).fcView offs = s.fcView offs := (rfl)

@[simp] theorem State.fcView_setFdr (s : State) (f : Nat) (g : FdrSt → FdrSt) :
    (s.setFdr f g).fcView offs = s.fcView offs := (rfl)

@[simp] theorem State.fcView_setElem (s : State) (f e : Nat) (x : Elem) :
    (s.setElem f e x).fcView offs = s.fcView offs := (rfl)

@[simp] theorem State.fcView_compRise (s : State) : s.compRise.fcView [] = s.fcView [] := by
  refine foldl_keeps (State.fcView · []) _ _ _ fun t k _ => ?_
  split <;> simp

@[simp] theorem State.fcView_causeIrq (s : State) (old new : Nat) : (s.causeIrq old new).fcView [] = s.fcView [] := by
  unfold State.causeIrq
  split <;> simp

@[simp] theorem State.fcView_elemRegs (s : State) (f e cause : Nat) (x : Elem) :
    (s.elemRegs f e cause x).fcView [] = s.fcView [] := by
  unfold State.elemRegs
  dsimp only
  split <;> simp

@[simp] theorem State.fcView_decideOne (s : State) (src at_ wait mask : Nat) :
    (s.decideOne src at_ wait mask).fcView offs = s.fcView offs := by
  unfold State.decideOne
  split
  · rfl
  · split <;> rfl

@[simp] theorem State.fcView_decideFeeder (s : State) (f at_ : Nat) :
    (s.decideFeeder f at_).fcView offs = s.fcView offs := by
  unfold State.decideFeeder
  dsimp only
  rw [foldl_keeps (State.fcView · offs) _ _ _ fun t k _ => State.fcView_decideOne t ..]
  exact State.fcView_decideOne ..

@[simp] theorem State.fcView_bfStart (s : State) (f : Nat) : (s.bfStart f).fcView [] = s.fcView [] := by
  unfold State.bfStart
  dsimp only
  split <;> simp

@[simp] theorem State.fcView_bfCause (s : State) (f cause : Nat) : (s.bfCause f cause).fcView [] = s.fcView [] := by
  simp [State.bfCause]

@[simp] theorem State.fcView_bfClear (s : State) (f cause : Nat) : (s.bfClear f cause).fcView [] = s.fcView [] := by
  unfold State.bfClear
  dsimp only
  split <;> simp

@[simp] theorem State.fcView_bfDone (s : State) (f : Nat) (bf : Option Bool) (cause : Nat) :
    (s.bfDone f bf cause).fcView [] = s.fcView [] := by
  unfold State.bfDone
  dsimp only
  split <;> simp

@[simp] theorem State.fcView_elemDone (s : State) (f e cause : Nat) (st : ElemSet) (x : Elem) (quiet : Bool) :
    (s.elemDone f e cause st x quiet).fcView [] = s.fcView [] := by
  unfold State.elemDone
  extract_lets old oldCause s1 s2 s3 s4 s5
  have h1 : s1.fcView [] = s.fcView [] := by simp [s1]
  have h2 : s2.fcView [] = s1.fcView [] := by unfold s2; split <;> simp
  have h3 : s3.fcView [] = s2.fcView [] := by unfold s3; split <;> simp
  have h5 : s5.fcView [] = s3.fcView [] := by unfold s5; split <;> simp [s4]
  split
  · exact h1
  split
  · split
    · rw [State.fcView_bfStart, h5, h3, h2, h1]
    · rw [h5, h3, h2, h1]
  · rw [h3, h2, h1]

@[simp] theorem State.fcView_jobDone (s : State) (j : ElemJob) : (s.jobDone j).fcView [] = s.fcView [] := by
  unfold State.jobDone
  rw [foldl_keeps (State.fcView · []) _ _ _ fun t o _ => State.fcView_elemDone t .., State.fcView_bfDone]

@[simp] theorem State.fcView_jobsRun (s : State) (p : ElemJob → Bool) : (s.jobsRun p).fcView [] = s.fcView [] :=
  foldl_keeps (State.fcView · []) _ _ _ fun t j _ => State.fcView_jobDone t j

/-! ### The start of a fc: output latches (R27, R332, R557) -/

@[simp] theorem State.fcView_setDch (s : State) (n : Nat) (f : DioCh → DioCh) :
    (s.setDch n f).fcView offs = s.fcView offs := (rfl)

@[simp] theorem State.fcView_setLatch (s : State) (mask vals : Nat) : (s.setLatch mask vals).fcView [] = s.fcView [] := by
  unfold State.setLatch
  dsimp only
  rw [foldl_keeps (State.fcView · [])]
  · simp
  · intro t n _
    split
    · split <;> simp
    · rfl

@[simp] theorem State.fcView_latchSafe (s : State) (chs : List Nat) : (s.latchSafe chs).fcView [] = s.fcView [] := by
  refine foldl_keeps (State.fcView · []) _ _ _ fun t n _ => ?_
  split <;> simp

@[simp] theorem State.fcView_powStart (s : State) (f : Nat) (opn : Bool) : (s.powStart f opn).fcView offs = s.fcView offs := (rfl)

theorem State.fcView_latching (s : State) {f : State → State} (hf : (f s).fcView [] = s.fcView []) :
    (s.latching f).fcView [] = s.fcView [] := by
  unfold State.latching
  dsimp only
  split
  · exact hf
  · rw [foldl_keeps (State.fcView · []), hf]
    intro t k _
    split
    · split <;> split <;> simp
    · rfl

@[simp] theorem State.fcView_latchOne (s : State) (o : LatchOp) : (s.latchOne o).fcView [] = s.fcView [] := by
  unfold State.latchOne
  dsimp only
  split
  · rw [State.fcView_latchSafe, State.fcView_latching _ (State.fcView_setLatch ..)]
  · exact State.fcView_latching _ (State.fcView_setLatch ..)

@[simp] theorem State.fcView_latchTick (s : State) : s.latchTick.fcView [] = s.fcView [] :=
  foldl_keeps (State.fcView · []) _ _ _ fun t o _ => State.fcView_latchOne t o

/-! ### The start of a fc: captures re-arm, the blocks of a ring frame leave (R357, R358, R465) -/

@[simp] theorem State.fcView_setCap (s : State) (j : Nat) (f : RecSt → RecSt) :
    (s.setCap j f).fcView offs = s.fcView offs := (rfl)

@[simp] theorem State.fcView_setRd (s : State) (k : Nat) (f : RecSt → RecSt) :
    (s.setRd k f).fcView offs = s.fcView offs := (rfl)

@[simp] theorem State.fcView_setTu (s : State) (n : Nat) (f : TuSt → TuSt) :
    (s.setTu n f).fcView offs = s.fcView offs := (rfl)

@[simp] theorem State.fcView_acqSync (s : State) : s.acqSync.fcView [] = s.fcView [] := by
  simp [State.acqSync]

@[simp] theorem State.fcView_tuSync (s : State) : s.tuSync.fcView [] = s.fcView [] := by
  refine foldl_keeps (State.fcView · []) _ _ _ fun t n _ => ?_
  dsimp only
  split
  · rfl
  · split <;> simp

@[simp] theorem State.fcView_armStart (s : State) (j : Nat) : (s.armStart j).fcView [] = s.fcView [] := by
  unfold State.armStart
  dsimp only
  rw [State.fcView_tuSync, State.fcView_acqSync, foldl_keeps (State.fcView · [])]
  · simp
  · intro t k _
    simp

@[simp] theorem State.fcView_arm (s : State) (j : Nat) (state : Bool) : (s.arm j state).fcView [] = s.fcView [] := by
  unfold State.arm
  split <;> simp

@[simp] theorem State.fcView_rearmTick (s : State) : s.rearmTick.fcView [] = s.fcView [] := by
  refine foldl_keeps (State.fcView · []) _ _ _ fun t j _ => ?_
  dsimp only
  split
  · split
    · rfl
    · split <;> simp
  · rfl

@[simp] theorem State.fcView_setYul (s : State) (f : YulSt → YulSt) : (s.setYul f).fcView offs = s.fcView offs := (rfl)

@[simp] theorem State.fcView_ringTick (s : State) : s.ringTick.fcView offs = s.fcView offs := by
  unfold State.ringTick
  split
  · rfl
  · dsimp only
    split
    · exact State.fcView_setYul ..
    · rw [foldl_keeps (State.fcView · offs) _ _ _ fun t p _ => State.fcView_out .., State.fcView_setYul]

/-- The start of a fc leaves time, angle, memory, the image, the audit log and the queue alone, and marks no host write. -/
theorem State.fcView_fcBegin (s : State) : s.fcBegin.fcView [] = s.fcView [] := by
  unfold State.fcBegin
  split
  · rfl
  · simp

/-! ### The tick itself (R33, R36, R39, R41) -/

/-- The tick works on what the view with `tickRegs` holds. -/
theorem State.tickInputs_of_fcView {s t : State} (h : t.fcView tickRegs = s.fcView tickRegs) :
    t.incOf = s.incOf ∧ t.trk = s.trk ∧ t.rd Reg.ANG_PINC = s.rd Reg.ANG_PINC := by
  obtain ⟨-, -, htm, -, -, -, -, -, -, hasym, hwords⟩ := State.fields_of_fcView h
  simp only [tickRegs, List.map_cons, List.map_nil, List.cons.injEq, and_true] at hwords
  obtain ⟨hstat, hpinc, hslew, hptp⟩ := hwords
  refine ⟨?_, ?_, hpinc⟩
  · simp only [State.incOf, State.slewLimit, State.getF, htm, hasym, hslew, hptp]
  · simp only [State.trk, State.getF, hstat]

/-- A fc begins a stretch of the time word's past at most: nothing but the list of stretches changes. -/
theorem State.segKeep_eq (s : State) : s.segKeep = { s with tm := { s.tm with segs := s.segKeep.tm.segs } } := by
  unfold State.segKeep
  dsimp only
  split
  · split <;> rfl
  · rfl

@[simp] theorem State.fcView_digKeep (s : State) : s.digKeep.fcView offs = s.fcView offs := by
  unfold State.digKeep
  dsimp only
  split
  · rfl
  · split <;> rfl

/-- The angle's part of a fc changes nothing but the angle. -/
theorem State.angTick_frame (s : State) :
    s.angTick.variant = s.variant ∧ s.angTick.dram = s.dram ∧ s.angTick.tm = s.tm ∧ s.angTick.kln = s.kln ∧
      s.angTick.aud = s.aud ∧ s.angTick.pending = s.pending ∧ s.angTick.hst = s.hst := by
  unfold State.angTick
  split <;> exact ⟨rfl, rfl, rfl, rfl, rfl, rfl, rfl⟩

/-- A STOPPED tracker's angle stands. -/
theorem State.angTick_ang_of_stopped {s : State} (h : s.trk = trkStopped) : s.angTick.ang = s.ang := by
  simp [State.angTick, h]

/-- Otherwise the accumulator advances by ANG_PINC, and the cycle count with a wrap of the angle word. -/
theorem State.angTick_ang_of_running {s : State} (h : s.trk ≠ trkStopped) :
    s.angTick.ang.acc = (s.ang.acc + s.rd Reg.ANG_PINC) % 2 ^ 48 ∧ s.angTick.ang.prev = s.ang.acc ∧
      s.angTick.ang.cycle =
        (if 0xFFFFF000 ≤ s.angle ∧ s.angTick.angle < 0x1000 then (s.ang.cycle + 1) % 2 ^ 32 else s.ang.cycle) := by
  simp [State.angTick, h, State.setAng, State.angle]

/-- A state after d of time and n of oscillator time, as the angle's part of a fc finds it: the marks of the past fc are gone. -/
def State.timePassed (s : State) (d n : Nat) (segs : List TimeSeg) : State :=
  { s with
    tm := { s.tm with time := s.tm.time + d, prev := s.tm.time, reach := s.tm.time + 1, runt := s.tm.runt + d,
                      nom := s.tm.nom + n, fc := s.tm.fc + 1, segs := segs },
    hst := { s.hst with setNow := [], wrNow := [] } }

/-- The state as the angle's part of a fc finds it, at the increment and the divider in force (R72). -/
def State.fcTime (s : State) : State :=
  s.timePassed (s.incOf * s.tm.div) (incNominal * s.tm.div) s.segKeep.tm.segs

theorem State.timePassed_ang (s : State) (d n : Nat) (segs : List TimeSeg) : (s.timePassed d n segs).ang = s.ang := (rfl)

theorem State.timePassed_rd (s : State) (d n : Nat) (segs : List TimeSeg) (off : Nat) :
    (s.timePassed d n segs).rd off = s.rd off := (rfl)

theorem State.timePassed_trk (s : State) (d n : Nat) (segs : List TimeSeg) : (s.timePassed d n segs).trk = s.trk := (rfl)

theorem State.timePassed_tm (s : State) (d n : Nat) (segs : List TimeSeg) :
    (s.timePassed d n segs).tm.time = s.tm.time + d ∧ (s.timePassed d n segs).tm.runt = s.tm.runt + d ∧
      (s.timePassed d n segs).tm.fc = s.tm.fc + 1 ∧ (s.timePassed d n segs).tm.div = s.tm.div :=
  ⟨rfl, rfl, rfl, rfl⟩

theorem State.timePassed_frame (s : State) (d n : Nat) (segs : List TimeSeg) :
    (s.timePassed d n segs).variant = s.variant ∧ (s.timePassed d n segs).dram = s.dram ∧
      (s.timePassed d n segs).kln = s.kln ∧ (s.timePassed d n segs).aud = s.aud ∧
      (s.timePassed d n segs).pending = s.pending ∧ (s.timePassed d n segs).hst.wrNow = [] :=
  ⟨rfl, rfl, rfl, rfl, rfl, rfl⟩

/-- One fc of a powered module: time, then the angle, then the record of digital words. -/
theorem State.tick_eq {s : State} (h : s.pwr.unpowered = false) : s.tick = s.fcTime.angTick.digKeep := by
  simp only [State.tick, h, Bool.false_eq_true, if_false]
  rw [State.segKeep_eq s]
  rfl

/-! ### The step on an empty queue -/

/-- An unpowered module has no fc (R602). -/
theorem step_of_unpowered {s : State} (hq : s.pending = []) (h : s.pwr.unpowered = true) : step s = .next s := by
  have hend : s.fcEnd = s := by simp [State.fcEnd, h]
  have htick : s.tick = s := by simp [State.tick, h]
  have hbegin : s.fcBegin = s := by simp [State.fcBegin, h]
  simp only [step, hq, hend, htick, hbegin]

section WholeFc

/-! A whole fc of a powered module from s to t: e is the state at its end, and the tick leads to the next fc, whose start gives t. -/

variable {s e t : State} (hon : s.pwr.unpowered = false) (hend : e.fcView tickRegs = s.fcView tickRegs)
  (hbegin : t.fcView [] = e.tick.fcView [])
include hon hend hbegin

/-- The view after a whole fc is that of the time passed and the angle advanced. -/
theorem State.fcView_wholeFc : t.fcView [] = e.fcTime.angTick.fcView [] := by
  obtain ⟨-, -, -, -, hpwr, -⟩ := State.fields_of_fcView hend
  rw [hbegin, State.tick_eq (hpwr ▸ hon), State.fcView_digKeep]

/-- Time word and run time advance by the increment in force at the divider in force, and the fc is counted. -/
theorem State.wholeFc_tm :
    t.tm.time = s.tm.time + s.incOf * s.tm.div ∧ t.tm.runt = s.tm.runt + s.incOf * s.tm.div ∧
      t.tm.fc = s.tm.fc + 1 ∧ t.tm.div = s.tm.div := by
  obtain ⟨-, -, hfc, -⟩ := State.fields_of_fcView (State.fcView_wholeFc hon hend hbegin)
  obtain ⟨-, -, hang, -⟩ := e.fcTime.angTick_frame
  obtain ⟨-, -, htm, -⟩ := State.fields_of_fcView hend
  obtain ⟨hinc, -, -⟩ := State.tickInputs_of_fcView hend
  rw [hfc, hang, ← hinc, ← htm, State.fcTime]
  exact State.timePassed_tm ..

/-- The angle of a STOPPED tracker stands. -/
theorem State.wholeFc_ang_of_stopped (hstop : s.trk = trkStopped) : t.ang = s.ang := by
  obtain ⟨-, -, -, hfc, -⟩ := State.fields_of_fcView (State.fcView_wholeFc hon hend hbegin)
  obtain ⟨-, -, -, hang, -⟩ := State.fields_of_fcView hend
  obtain ⟨-, htrk, -⟩ := State.tickInputs_of_fcView hend
  have hstop' : e.fcTime.trk = trkStopped := by rw [State.fcTime, State.timePassed_trk, htrk, hstop]
  rw [hfc, State.angTick_ang_of_stopped hstop', State.fcTime, State.timePassed_ang, hang]

/-- Otherwise the accumulator advances by ANG_PINC as it stood before the fc's end. -/
theorem State.wholeFc_ang_of_running (hrun : s.trk ≠ trkStopped) :
    t.ang.acc = (s.ang.acc + s.rd Reg.ANG_PINC) % 2 ^ 48 ∧ t.ang.prev = s.ang.acc ∧
      t.ang.cycle = (if 0xFFFFF000 ≤ s.angle ∧ t.angle < 0x1000 then (s.ang.cycle + 1) % 2 ^ 32 else s.ang.cycle) := by
  obtain ⟨-, -, -, hfc, -⟩ := State.fields_of_fcView (State.fcView_wholeFc hon hend hbegin)
  obtain ⟨-, -, -, hang, -⟩ := State.fields_of_fcView hend
  obtain ⟨-, htrk, hpinc⟩ := State.tickInputs_of_fcView hend
  have hrun' : e.fcTime.trk ≠ trkStopped := by rwa [State.fcTime, State.timePassed_trk, htrk]
  simpa only [State.angle, hfc, State.fcTime, State.timePassed_ang, State.timePassed_rd, hang, hpinc] using
    State.angTick_ang_of_running hrun'

/-- Memory, kiln, audit log and variant stand, the queue is the one before, and no host write is marked. -/
theorem State.wholeFc_frame :
    t.pending = s.pending ∧ t.hst.wrNow = [] ∧ s.memKept t ∧ t.kln = s.kln ∧ t.aud = s.aud ∧ t.variant = s.variant := by
  obtain ⟨hv, hd, -, -, -, hk, ha, hp, hw, -⟩ := State.fields_of_fcView (State.fcView_wholeFc hon hend hbegin)
  obtain ⟨hv₁, hd₁, -, hk₁, ha₁, hp₁, hh₁⟩ := e.fcTime.angTick_frame
  obtain ⟨hv₂, hd₂, hk₂, ha₂, hp₂, hw₂⟩ := e.timePassed_frame (e.incOf * e.tm.div) (incNominal * e.tm.div) e.segKeep.tm.segs
  obtain ⟨hv₃, hd₃, -, -, -, hk₃, ha₃, hp₃, -⟩ := State.fields_of_fcView hend
  have hdram : t.dram = s.dram := by rw [hd, hd₁, State.fcTime, hd₂, hd₃]
  have hkln : t.kln = s.kln := by rw [hk, hk₁, State.fcTime, hk₂, hk₃]
  have hmem : s.memKept t := fun a => by rw [hdram, hkln]; exact ⟨rfl, rfl, rfl⟩
  refine ⟨?_, ?_, hmem, hkln, ?_, ?_⟩
  · rw [hp, hp₁, State.fcTime, hp₂, hp₃]
  · rw [hw, hh₁, State.fcTime, hw₂]
  · rw [ha, ha₁, State.fcTime, ha₂, ha₃]
  · rw [hv, hv₁, State.fcTime, hv₂, hv₃]

end WholeFc

/-- Settles O3: only the tick moves time and angle, and what it reads at the end of the fc is what stood before the step. -/
theorem idleStepIsOneFc : Obligations.IdleStepIsOneFc := by
  intro s hq
  refine ⟨fun hoff => ⟨s, step_of_unpowered hq hoff, rfl⟩, fun hon => ?_⟩
  have hend := s.fcView_fcEnd
  have hbegin := s.fcEnd.tick.fcView_fcBegin
  obtain ⟨htime, hrunt, hcount, hdiv⟩ := State.wholeFc_tm hon hend hbegin
  obtain ⟨hpending, hwrNow, hmem, hkln, haud, hvariant⟩ := State.wholeFc_frame hon hend hbegin
  exact ⟨s.fcEnd.tick.fcBegin, by simp only [step, hq], htime, hrunt, hcount, hdiv, hpending.trans hq,
    State.wholeFc_ang_of_stopped hon hend hbegin, State.wholeFc_ang_of_running hon hend hbegin, hwrNow, hmem, hkln, haud,
    hvariant⟩

end Sys2Proof.Machine
end

section
/-!
The sample of a grid slot that stands for its crossing (R58–R60), and the statement GridSamplesStandForTheirCrossing.
-/
namespace Sys2Proof.Machine

/-! ### What a crossing becomes -/

/-- The sample of a local channel at a crossing. -/
def State.gridVal (s : State) (c : Cross) (n : Nat) : Sample :=
  if s.dark n then staleSample (s.chDye n) else gridSample (s.fch n).bOut c.inst (s.chDye n)

/-- The samples of the local channels of a slot at a crossing. -/
def State.gridLocal (s : State) (g : Nat) (c : Cross) : List (Nat × Sample) := (s.gridChs g).map fun n => (n, s.gridVal c n)

/-- The samples of the streams of a slot at a crossing. -/
def State.gridRemote (s : State) (g : Nat) (c : Cross) : List (Nat × Sample) :=
  (s.gridStreams g).map fun k => (k, if fourAfter (s.stream k) c.inst then
    gridSample (s.stream k) c.inst (((s.stream k).head?.map fun x => x.2.dye).getD 0) else staleSample 0)

/-- The grid sample of a crossing. -/
def State.gridOf (s : State) (g : Nat) (c : Cross) : GSample :=
  ⟨c.k, c.cycle, c.tw, gridAngle (s.gridN g) c.k, c.epoch, c.trk, s.gridLocal g c ++ s.gridRemote g c⟩

/-- The state in which the crossings `rest` of a slot wait and the sample of `c` is in front, before capture takes it in. -/
def State.gridPut (s : State) (g : Nat) (c : Cross) (rest : List Cross) : State :=
  { s.setAng (fun a => { a with cross := a.cross.set g rest }) with
    grids := upd s.grids g fun l => (s.gridOf g c :: l).take 512 }

/-- GRID_SAMPLE when the samples of the oldest crossing are there. -/
theorem exec_gridSample_of_ready {s : State} {g : Nat} {c : Cross} {rest : List Cross} (hg : g < 16)
    (hc : s.ang.cross.getD g [] = c :: rest) (hready : s.crossReady g c = true) :
    exec (.gridSample g) s = .next ((s.gridPut g c rest).feedAt 2 c.inst c.tw (s.gridOf g c).angle c.cycle c.epoch c.trk
      (.grid g c.k ((s.gridLocal g c).map fun v => (v.1, v.2.word)))) := by
  change execGridSample g s = _
  simp only [execGridSample, State.only, hg, decide_true, if_true, hc, hready]
  rfl

/-- Capture takes an item in; nothing else changes. -/
theorem State.feedAt_frame (s : State) (kind inst tw angle cycle epoch trk : Nat) (it : FeedIt) :
    s.feedAt kind inst tw angle cycle epoch trk it = { s with acq := (s.feedAt kind inst tw angle cycle epoch trk it).acq } := by
  unfold State.feedAt
  split <;> rfl

/-! ### The samples of a channel -/

/-- The first value of a key in a list that gives each of `l` its value is that value. -/
theorem find_map_key_of_mem {α : Type} (f : Nat → α) {l : List Nat} {n : Nat} (h : n ∈ l) (r : List (Nat × α)) :
    ((l.map fun m => (m, f m)) ++ r).find? (fun v => v.1 == n) = some (n, f n) := by
  induction l with
  | nil => simp at h
  | cons m t ih =>
    by_cases hm : m = n
    · simp [hm]
    · have hn : n ∈ t := (List.mem_cons.1 h).resolve_left (Ne.symm hm)
      simpa [hm] using ih hn

/-- A grid sample is STALE when one of the four samples before or the four after its crossing is (R60). -/
theorem gridSample_stale (l : List (Nat × Sample)) (inst dye : Nat) :
    (gridSample l inst dye).stale = (((l.filter fun y => decide (y.1 ≤ inst)).take 4).any (·.2.stale) ||
      ((l.filter fun y => decide (inst < y.1)).reverse.take 4).any (·.2.stale)) := by
  simp only [gridSample, List.any_append, List.any_reverse]

/-- The sample of a channel that gives samples is STALE when one of its 8 input samples is. -/
theorem State.stale_of_gridVal {s : State} {n : Nat} (c : Cross) (hd : s.dark n = false) :
    (s.gridVal c n).stale = ((((s.fch n).bOut.filter fun y => decide (y.1 ≤ c.inst)).take 4).any (·.2.stale) ||
      (((s.fch n).bOut.filter fun y => decide (c.inst < y.1)).reverse.take 4).any (·.2.stale)) := by
  have hval : s.gridVal c n = gridSample (s.fch n).bOut c.inst (s.chDye n) := if_neg (by rw [hd]; exact Bool.false_ne_true)
  rw [hval]
  exact gridSample_stale ..

/-- The entry of a local channel in a grid sample. -/
theorem State.find_gridOf {s : State} {g n : Nat} (c : Cross) (hn : n ∈ s.gridChs g) :
    ((s.gridOf g c).vals.find? fun v => v.1 == n) = some (n, s.gridVal c n) :=
  find_map_key_of_mem (s.gridVal c) hn (s.gridRemote g c)

/-- The keys of a list that gives each of `l` a value are `l`. -/
theorem map_fst_map_key {α : Type} (f : Nat → α) (l : List Nat) : (l.map fun m => (m, f m)).map Prod.fst = l := by
  simp [Function.comp_def]

/-- A grid sample has one entry for every channel of the slot, then one for every stream. -/
theorem State.keys_of_gridOf (s : State) (g : Nat) (c : Cross) :
    (s.gridOf g c).vals.map Prod.fst = s.gridChs g ++ s.gridStreams g := by
  rw [State.gridOf, List.map_append, State.gridLocal, State.gridRemote, map_fst_map_key, map_fst_map_key]

/-! ### The slots of the grids -/

/-- The new sample stands in front of its slot. -/
theorem State.head_of_gridPut {s : State} {g : Nat} (c : Cross) (rest : List Cross) (h : g < s.grids.length) :
    ((s.gridPut g c rest).grids.getD g []).head? = some (s.gridOf g c) := by
  simp [State.gridPut, upd, h]

/-- The other slots keep their samples. -/
theorem State.grids_of_gridPut_ne (s : State) {g j : Nat} (c : Cross) (rest : List Cross) (h : j ≠ g) :
    (s.gridPut g c rest).grids.getD j [] = s.grids.getD j [] := by
  simp [State.gridPut, upd, h.symm]

/-- The crossing has left the queue of its slot. -/
theorem State.cross_of_gridPut {s : State} {g : Nat} (c : Cross) (rest : List Cross) (h : g < s.ang.cross.length) :
    (s.gridPut g c rest).ang.cross.getD g [] = rest := by
  simp [State.gridPut, State.setAng, h]

/-- A state whose lists have their lengths has 16 queues of crossings and 16 grid slots. -/
theorem State.grid_lengths_of_shaped {s : State} (h : s.shaped = true) : s.ang.cross.length = 16 ∧ s.grids.length = 16 := by
  simp only [State.shaped, Bool.and_eq_true, decide_eq_true_eq] at h
  tauto

/-- Settles O2: the sample that the command puts in front is the one of its crossing, and capture changes nothing else. -/
theorem gridSamplesStandForTheirCrossing : Obligations.GridSamplesStandForTheirCrossing := by
  intro s hs g hg c hc hready
  obtain ⟨rest, hq⟩ := List.head?_eq_some_iff.1 hc
  obtain ⟨hcross, hgrids⟩ := s.grid_lengths_of_shaped hs
  refine ⟨_, exec_gridSample_of_ready hg hq hready, ?_⟩
  rw [State.feedAt_frame]
  refine ⟨?_, ⟨s.gridOf g c, State.head_of_gridPut c rest (by omega), rfl, rfl, rfl, rfl, rfl, rfl, s.keys_of_gridOf g c,
    fun n hn hd => by rw [State.find_gridOf c hn, Option.map_some, State.stale_of_gridVal c hd]⟩,
    fun j _ hj => s.grids_of_gridPut_ne c rest hj, rfl⟩
  rw [hq]
  exact State.cross_of_gridPut c rest (by omega)

end Sys2Proof.Machine
end

section
/-!
A host write of a reference register keeps the word's reserved bits, and the statement TrackerUpdatesPublishAndMove.
-/
namespace Sys2Proof.Machine

/-- A command on PCI Express is taken in while the host interface is up. -/
theorem exec_angReferenceWrite_pcie {s : State} (alt : Bool) (v : Word) (hup : s.hostUp = true) :
    exec (.angReferenceWrite .pcie alt v) s = .next (s.angRef .pcie alt v.toNat) := by
  change execAngReferenceWrite .pcie alt v s = _
  simp only [execAngReferenceWrite, State.hostRow, hup, if_true, State.spiEnd]

/-! ### A reference register with a reserved bit set -/

/-- A running module at operate level, its tracker in SEARCH. Bit 6 of ANG_REF_PRI, which is reserved, is set in the register file. -/
def reservedRefBit : State :=
  let pwr := { State.reset.pwr with parts := State.reset.pwr.parts.map (fun p => { p with st := .on }) }
  let hst := { State.reset.hst with acc := State.reset.hst.acc.map (fun a => { a with level := .operate }) }
  (({ State.reset with pwr := pwr, hst := hst }).setF Reg.ANG_STAT_STATE trkSearch).wr Reg.ANG_REF_PRI 0x40

/-- The state meets what the statement asks of the tracker. -/
theorem reservedRefBit_tracker :
    reservedRefBit.ang.acc < 2 ^ 48 ∧ reservedRefBit.trk ≠ trkStopped ∧
      reservedRefBit.flag Reg.ANG_STAT_SCHED_OK = decide (reservedRefBit.trk ≠ trkSearch) ∧
      (reservedRefBit.flag Reg.ANG_STAT_PULLING = true → reservedRefBit.trk = trkLocked) := by
  decide +kernel

/-- The state meets what the statement asks of a host write. -/
theorem reservedRefBit_writable :
    reservedRefBit.hostUp = true ∧ reservedRefBit.unwritten = true ∧ reservedRefBit.may .pcie .operate = true := by
  decide +kernel

/-- A write of 0 clears every field of the register, and its reserved bit stays. -/
theorem reservedRefBit_kept : (reservedRefBit.angRef .pcie false (0 : Word).toNat).rd Reg.ANG_REF_PRI = 0x40 := by
  decide +kernel

/-- The word that the statement gives for a write of 0 to the register: MODE 0, no channel, no reserved bit. -/
theorem wordOf_zero_write (old : Nat) :
    (0 : Word).toNat % 64 + bits (0 : Word).toNat 13 8 * 2 ^ 8 + bits (0 : Word).toNat 21 16 * 2 ^ 16 +
      (if bits (0 : Word).toNat 25 24 = 3 then bits old 25 24 else bits (0 : Word).toNat 25 24) * 2 ^ 24 = 0 := by
  simp [bits]

/-- Refutes O1: the statement says of a host write to ANG_REF_PRI that the register then holds its four fields and nothing else, and
asks nothing of the word before. A host write changes the fields alone, so a reserved bit that stands in the register file stays
there. R6 has reserved bits read as zero; the statement holds no such premise. -/
theorem not_trackerUpdatesPublishAndMove : ¬ Obligations.TrackerUpdatesPublishAndMove := by
  intro h
  obtain ⟨hacc, htrk, hsched, hpull⟩ := reservedRefBit_tracker
  obtain ⟨hup, hunwritten, hmay⟩ := reservedRefBit_writable
  obtain ⟨-, hwrites, -⟩ := h reservedRefBit hacc htrk hsched hpull
  obtain ⟨-, href, -⟩ := hwrites .pcie hup hunwritten hmay
  obtain ⟨t, hexec, hword, -⟩ := href false 0 Reg.ANG_REF_PRI rfl
  rw [exec_angReferenceWrite_pcie false 0 hup] at hexec
  obtain rfl := Host.Outcome.next.inj hexec
  rw [wordOf_zero_write, reservedRefBit_kept] at hword
  exact absurd hword (by decide)

end Sys2Proof.Machine
end

section
/-!
The lines of the trigger bus and its TRC edges (R368–R371), and the statement TriggerBusLinesAndTrc.
-/
namespace Sys2Proof.Machine

/-! ### Bits of a field -/

/-- A bit just put reads as put, the others as before. -/
theorem testBit_putBit (v i j : Nat) (b : Bool) : (putBit v i b).testBit j = if j = i then b else v.testBit j := by
  cases b with
  | true =>
    simp only [putBit, if_true, Nat.testBit_or, Nat.testBit_two_pow]
    rcases eq_or_ne j i with rfl | h
    · simp
    · simp [h, h.symm]
  | false =>
    simp only [putBit, Bool.false_eq_true, if_false]
    split
    next hi =>
      have hsub : 2 ^ i &&& v = 2 ^ i := by
        rw [Nat.two_pow_and, hi]; simp
      rw [testBit_sub_of_and_eq v (2 ^ i) j hsub, Nat.testBit_two_pow]
      rcases eq_or_ne j i with rfl | h
      · simp
      · simp [h, h.symm]
    next hi =>
      by_cases h : j = i
      · simpa [h] using hi
      · simp [h]

/-- A bit of a field just put reads as put. -/
theorem State.testBit_getF_setBit (s : State) {f : Fld} {i : Nat} (b : Bool) (hf : f.ok = true) (hi : i < f.hi - f.lo + 1) :
    ((s.setBit f i b).getF f).testBit i = b := by
  rw [State.setBit, State.getF_setF s f _ hf, Nat.testBit_mod_two_pow, testBit_putBit]
  simp [hi]

/-- Hardware sets a bit of a W1C field. -/
theorem State.testBit_getF_raiseBit (s : State) {f : Fld} {i : Nat} (hf : f.ok = true) (hi : i < f.hi - f.lo + 1) :
    ((s.raiseBit f i).getF f).testBit i = true := by
  rw [State.getF, State.raiseBit, State.rd_mark, ← State.getF, State.testBit_getF_setBit s true hf hi]

theorem State.rd_out (s : State) (x : TxItem) (o : Nat) : (s.out x).rd o = s.rd o := (rfl)

theorem State.getF_out (s : State) (x : TxItem) (f : Fld) : (s.out x).getF f = s.getF f := (rfl)

/-- What the module put out at the end is what it sent. -/
theorem State.sent_out {s t : State} (x : TxItem) (h : t.tx = s.tx) : s.sent (t.out x) = [x] := by
  simp [State.sent, State.out, h]

/-! ### A line driven and released (R368, R369) -/

/-- The instant up to which lines are due: with TRC received, that of the last TRC edge. -/
def State.busNow (s : State) : Nat :=
  if s.getF Reg.ACQ_BUS_CTL_TRC = 1 ∧ s.flag Reg.ACQ_BUS_STAT_TRC_OK = true then s.acq.trcAt.getD 0 else s.tw

/-- The state in which a due assertion d of line l has been made. -/
def State.busDriven (s : State) (l : Nat) (d : Nat × Nat) : State :=
  (State.setBit { s with acq := { s.acq with lineDue := s.acq.lineDue.erase d,
                                              lineAt := s.acq.lineAt.filter (fun (x : Nat × Nat) => x.1 != l) ++ [(l, s.tm.runt)] } }
    Reg.ACQ_BUS_STAT_DRV l true).out (.busLine l true)

/-- The state in which line l has been released. -/
def State.busReleased (s : State) (l : Nat) : State :=
  (State.setBit { s with acq := { s.acq with lineAt := s.acq.lineAt.filter fun (x : Nat × Nat) => x.1 != l } }
    Reg.ACQ_BUS_STAT_DRV l false).out (.busLine l false)

/-- TRIGGER_BUS_ASSERT with no assertion due. -/
theorem exec_triggerBusAssert_of_none {s : State} {l : Nat} (hl : l < 8)
    (h : (s.acq.lineDue.find? fun d => d.1 == l && decide (d.2 ≤ s.busNow)) = none) : exec (.triggerBusAssert l) s = .next s := by
  change execTriggerBusAssert l s = _
  unfold State.busNow at h
  simp only [execTriggerBusAssert, State.only, hl, decide_true, if_true, h]

/-- TRIGGER_BUS_ASSERT with an assertion due. -/
theorem exec_triggerBusAssert_of_some {s : State} {l : Nat} {d : Nat × Nat} (hl : l < 8)
    (h : (s.acq.lineDue.find? fun d => d.1 == l && decide (d.2 ≤ s.busNow)) = some d) :
    exec (.triggerBusAssert l) s = .next (s.busDriven l d) := by
  change execTriggerBusAssert l s = _
  unfold State.busNow at h
  simp only [execTriggerBusAssert, State.only, hl, decide_true, if_true, h]
  rfl

/-- TRIGGER_BUS_RELEASE of a line that has been driven. -/
theorem exec_triggerBusRelease {s : State} {l : Nat} {x : Nat × Nat} (hl : l < 8)
    (h : (s.acq.lineAt.find? fun x => x.1 == l) = some x) :
    exec (.triggerBusRelease l) s = .next (if s.expired x.2 400 = true then s.busReleased l else s) := by
  change execTriggerBusRelease l s = _
  simp only [execTriggerBusRelease, State.only, hl, decide_true, if_true, h]
  split <;> rfl

/-- Driving a line changes registers, the unit's own state and what is put out, nothing else. -/
theorem State.busDriven_frame (s : State) (l : Nat) (d : Nat × Nat) :
    s.busDriven l d = { s with regs := (s.busDriven l d).regs, acq := (s.busDriven l d).acq, tx := (s.busDriven l d).tx } := rfl

/-- Releasing a line changes registers, the unit's own state and what is put out, nothing else. -/
theorem State.busReleased_frame (s : State) (l : Nat) :
    s.busReleased l = { s with regs := (s.busReleased l).regs, acq := (s.busReleased l).acq, tx := (s.busReleased l).tx } := rfl

/-! ### What the trigger of a capture leaves alone (R351–R353) -/

/-- What the trigger of one capture must leave to another: one register, the last edges of the bus lines, a capture's entry. -/
def State.trigView (s : State) (o j : Nat) : Nat × List (Nat × Nat) × RecSt := (s.rd o, s.acq.edgeAt, s.capOf j)

/-- The registers that the trigger of capture a writes beside its own status: its read pointer, the unit's, the events' and those of
the engines. -/
def trigRegs (a : Nat) : List Nat :=
  [Reg.ACQ_C_RDPTR a, Reg.ACQ_STAT, Reg.ACQ_BW, Reg.EVT_INTAKE_LOST, Reg.EVT_STAT] ++ (List.range 5).map Reg.ACQ_RD_STAT

/-- A register outside the list is none of those in it. -/
theorem ne_of_notMem_trigRegs {a o : Nat} (h : o ∉ trigRegs a) :
    (o ≠ Reg.ACQ_C_RDPTR a ∧ o ≠ Reg.ACQ_STAT ∧ o ≠ Reg.ACQ_BW ∧ o ≠ Reg.EVT_INTAKE_LOST ∧ o ≠ Reg.EVT_STAT) ∧
      ∀ k < 5, o ≠ Reg.ACQ_RD_STAT k := by
  rw [trigRegs, List.mem_append, not_or] at h
  refine ⟨by simpa using h.1, fun k hk hne => h.2 ?_⟩
  exact List.mem_map.2 ⟨k, List.mem_range.2 hk, hne.symm⟩

section View
variable {o j : Nat}

theorem State.trigView_wr (s : State) {x : Nat} (v : Nat) (h : o ≠ x) : (s.wr x v).trigView o j = s.trigView o j := by
  simp only [State.trigView, State.rd_wr_ne s v h, State.wr_acq, State.capOf]

theorem State.trigView_setF (s : State) {f : Fld} (v : Nat) (h : o ≠ f.off) : (s.setF f v).trigView o j = s.trigView o j :=
  State.trigView_wr s _ h

theorem State.trigView_setB (s : State) {f : Fld} (b : Bool) (h : o ≠ f.off) : (s.setB f b).trigView o j = s.trigView o j :=
  State.trigView_wr s _ h

theorem State.trigView_irq (s : State) (b : Blk) (i : Nat) (h : o ≠ Reg.UNIT_IRQ b) : (s.irq b i).trigView o j = s.trigView o j := by
  simp only [State.trigView, State.rd_irq_ne s b i h, State.irq_acq, State.capOf]

theorem State.trigView_emitAt (s : State) (a b c d e f g k : Nat) (h₁ : o ≠ Reg.EVT_INTAKE_LOST) (h₂ : o ≠ Reg.EVT_STAT) :
    (s.emitAt a b c d e f g k).trigView o j = s.trigView o j := by
  simp only [State.trigView, State.rd_emitAt_ne s a b c d e f g k h₁ h₂, State.emitAt_acq, State.capOf]

theorem State.trigView_dramWr (s : State) (a : Nat) (bs : List Byte) : (s.dramWr a bs).trigView o j = s.trigView o j := (rfl)

theorem State.trigView_setRd (s : State) (k : Nat) (f : RecSt → RecSt) : (s.setRd k f).trigView o j = s.trigView o j := (rfl)

theorem State.trigView_setCap (s : State) {a : Nat} (f : RecSt → RecSt) (h : j ≠ a) :
    (s.setCap a f).trigView o j = s.trigView o j := by
  have hcap : (s.setCap a f).capOf j = s.capOf j := by simp [State.capOf, State.setCap, upd, h.symm]
  simp only [State.trigView, hcap]
  rfl

theorem State.trigView_acqSync (s : State) (h₁ : o ≠ Reg.ACQ_STAT) (h₂ : o ≠ Reg.ACQ_BW) :
    s.acqSync.trigView o j = s.trigView o j := by
  unfold State.acqSync
  dsimp only
  rw [State.trigView_wr _ _ h₂, State.trigView_setF _ _ h₁, State.trigView_setF _ _ h₁, State.trigView_setF _ _ h₁]

/-- The headers and blocks of a record are bytes of DRAM. -/
theorem State.trigView_rdReindex (s : State) (k : Nat) : (s.rdReindex k).trigView o j = s.trigView o j := by
  unfold State.rdReindex
  split
  · rfl
  · exact foldl_keeps (State.trigView · o j) _ _ _ fun s _ _ => rfl

/-- A trigger unit that passes to armed or back writes its own status alone (R344). -/
theorem State.trigView_tuSync (s : State) (h : ∀ n < 16, o ≠ Reg.ACQ_TU_STAT n) : s.tuSync.trigView o j = s.trigView o j := by
  refine foldl_keeps (State.trigView · o j) _ _ _ fun s n hn => ?_
  have hne := h n (List.mem_range.1 hn)
  dsimp only
  split
  · rfl
  · split
    · exact State.trigView_wr _ _ hne
    · exact State.trigView_setF _ _ hne

end View

/-! ### The trigger of a capture, in four parts -/

/-- The first part: the record takes its trigger. -/
def State.trigTaken (s : State) (a : Nat) (t : TrigRec) : State :=
  let grid := s.capKind a == 2
  let cap := max 1 (s.capacity a)
  s.setCap a fun r =>
    { r with trig := some { t with frame := r.trigFrame cap t.inst grid, early := r.trigEarly t.inst }, seq := (r.seq + 1) % 2 ^ 32 }

/-- The second part: the status of a capture whose record is r. -/
def State.trigFlagged (s : State) (a : Nat) (t : TrigRec) (cap : Nat) (r : RecSt) : State :=
  let s := (s.setF (Reg.ACQ_C_STAT_STATE a) cTrig).setB (Reg.ACQ_C_STAT_FORCED a) t.forced
  (s.setB (Reg.ACQ_C_STAT_BUS a) t.bus).setB (Reg.ACQ_C_STAT_PRE_SHORT a) (r.preShort cap)

/-- An engine takes the trigger of its capture, whose record has the number seq and the trigger frame fr. -/
def State.trigEngine (t : TrigRec) (fr seq : Nat) (s : State) (k : Nat) : State :=
  let rf := max 1 (s.rd (Reg.ACQ_RD_FACT k))
  let s := s.setRd k fun x =>
    { x with trig := some { t with frame := max (x.oldest (s.rdCapacity k)) (fr / rf), early := decide (fr / rf < x.oldest (s.rdCapacity k)) },
             seq := seq }
  let s := s.setF (Reg.ACQ_RD_STAT_STATE k) cTrig
  (s.rdReindex k).rdHdr k false false false false

/-- The third part: the read pointer of a stream, the header in DRAM, the engines. -/
def State.trigStored (s : State) (a : Nat) (t : TrigRec) (cap : Nat) (r : RecSt) : State :=
  let s := if s.isStream a then
      let f0 := r.frame0 cap
      (s.wr (Reg.ACQ_C_RDPTR a) (f0 % cap * s.frameBytes a)).setCap a fun r => { r with readTo := f0 * s.frameBytes a }
    else s
  let s := s.capHdr a false false false false
  (s.engines a).foldl (State.trigEngine t ((r.trig.map (·.frame)).getD 0) r.seq) s

/-- A capture with a bus line asks for its assertion (R368). -/
def State.lineAsked (s : State) (a : Nat) (t : TrigRec) : State :=
  if s.flag (Reg.ACQ_C_CFG_BOEN a) && !t.bus then
    { s with acq := { s.acq with lineDue := s.acq.lineDue ++ [(s.getF (Reg.ACQ_C_CFG_BOLINE a), s.lineInstant t.tw)] } }
  else s

/-- The fourth part: the interrupt, the event, the line of the bus, the summary. -/
def State.trigReported (s : State) (a : Nat) (t : TrigRec) : State :=
  let s := (s.irq .acq 0).emitAt s.tw s.angle s.epoch (capSrc a) 0x4002 2 (Config.evValue [t.fired, t.primary]) t.hdrDye
  (s.lineAsked a t).acqSync

/-- The trigger of a capture is its four parts in order. -/
theorem State.capTrigger_eq (s : State) (a : Nat) (t : TrigRec) :
    s.capTrigger a t =
      (((s.trigTaken a t).trigFlagged a t (max 1 (s.capacity a)) ((s.trigTaken a t).capOf a)).trigStored a t (max 1 (s.capacity a))
        ((s.trigTaken a t).capOf a)).trigReported a t := (rfl)

section Keeps
variable {o j a : Nat}

theorem State.trigView_trigTaken (s : State) (t : TrigRec) (hj : j ≠ a) : (s.trigTaken a t).trigView o j = s.trigView o j :=
  State.trigView_setCap s _ hj

theorem State.trigView_trigFlagged (s : State) (t : TrigRec) (cap : Nat) (r : RecSt) (ho : o ≠ Reg.ACQ_C_STAT a) :
    (s.trigFlagged a t cap r).trigView o j = s.trigView o j := by
  unfold State.trigFlagged
  dsimp only
  rw [State.trigView_setB _ _ ho, State.trigView_setB _ _ ho, State.trigView_setB _ _ ho, State.trigView_setF _ _ ho]

theorem State.trigView_trigEngine (s : State) (t : TrigRec) (fr seq : Nat) {k : Nat} (ho : o ≠ Reg.ACQ_RD_STAT k) :
    (State.trigEngine t fr seq s k).trigView o j = s.trigView o j := by
  unfold State.trigEngine State.rdHdr State.putHdr
  dsimp only
  rw [State.trigView_dramWr, State.trigView_rdReindex, State.trigView_setF _ _ ho, State.trigView_setRd]

/-- The engines of a capture are among the five. -/
theorem State.lt_of_mem_engines {s : State} {k : Nat} (h : k ∈ s.engines a) : k < 5 :=
  List.mem_range.1 (List.mem_of_mem_filter h)

theorem State.trigView_trigStored (s : State) (t : TrigRec) (cap : Nat) (r : RecSt) (hj : j ≠ a) (ho : o ∉ trigRegs a) :
    (s.trigStored a t cap r).trigView o j = s.trigView o j := by
  obtain ⟨⟨hptr, -⟩, hrd⟩ := ne_of_notMem_trigRegs ho
  unfold State.trigStored State.capHdr State.putHdr
  dsimp only
  rw [foldl_keeps (State.trigView · o j) _ _ _ fun s k hk =>
    s.trigView_trigEngine t _ _ (hrd k (State.lt_of_mem_engines hk)), State.trigView_dramWr]
  split
  · rw [State.trigView_setCap _ _ hj, State.trigView_wr _ _ hptr]
  · rfl

theorem State.trigView_lineAsked (s : State) (t : TrigRec) : (s.lineAsked a t).trigView o j = s.trigView o j := by
  unfold State.lineAsked
  split <;> rfl

/-- Beside the interrupt register the last part changes no register but the unit's and the events', and no capture's entry. -/
theorem State.trigView_trigReported (s : State) (t : TrigRec) (ho : o ∉ trigRegs a) (hirq : o ≠ Reg.UNIT_IRQ .acq) :
    (s.trigReported a t).trigView o j = s.trigView o j := by
  obtain ⟨⟨-, hstat, hbw, hlost, hev⟩, -⟩ := ne_of_notMem_trigRegs ho
  unfold State.trigReported
  dsimp only
  rw [State.trigView_acqSync _ hstat hbw, State.trigView_lineAsked, State.trigView_emitAt _ _ _ _ _ _ _ _ _ hlost hev,
    State.trigView_irq _ _ _ hirq]

/-- The trigger of one capture leaves the others alone. -/
theorem State.trigView_capTrigger (s : State) (t : TrigRec) (hj : j ≠ a) (ho : o ∉ trigRegs a) (hstat : o ≠ Reg.ACQ_C_STAT a)
    (hirq : o ≠ Reg.UNIT_IRQ .acq) : (s.capTrigger a t).trigView o j = s.trigView o j := by
  rw [State.capTrigger_eq, State.trigView_trigReported _ _ ho hirq, State.trigView_trigStored _ _ _ _ hj ho,
    State.trigView_trigFlagged _ _ _ _ hstat, State.trigView_trigTaken _ _ hj]

end Keeps

/-- States of one view have one word in its register. -/
theorem State.rd_of_trigView {s t : State} {o : Nat} (j : Nat) (h : t.trigView o j = s.trigView o j) : t.rd o = s.rd o :=
  congrArg Prod.fst h

/-- A one-bit field is set when its bit is. -/
theorem State.flag_bit (s : State) (o n : Nat) : s.flag ⟨o, n, n⟩ = (s.rd o).testBit n := by
  simp [State.flag, State.getF, bits, Nat.testBit, Nat.one_and_eq_mod_two]

/-- Setting an interrupt bit sets it alone. -/
theorem State.testBit_rd_irq (s : State) (b : Blk) (i n : Nat) (hn : n < 32) :
    ((s.irq b i).rd (Reg.UNIT_IRQ b)).testBit n = (decide (n = i) || (s.rd (Reg.UNIT_IRQ b)).testBit n) := by
  have hn' : n ≤ 31 := by omega
  simp only [State.irq, State.rd_rise, State.raiseBit, State.rd_mark, State.setBit]
  rw [State.testBit_rd_setF s (Reg.UNIT_IRQ_IRQ b) _ n rfl]
  simp only [Nat.zero_le, hn', and_self, if_true, Nat.sub_zero, testBit_putBit, State.getF, testBit_bits]
  by_cases h : n = i <;> simp [h, hn]

/-! ### A capture and a rising edge (R370) -/

/-- A fold over different entries, each step of which leaves what the others see alone, does to one entry what its own step does. -/
theorem foldl_reaches {σ α γ : Type} (view : σ → γ) (step : σ → α → σ) (Q : γ → Prop) {l : List α} {a : α} (s : σ)
    (hmem : a ∈ l) (hnodup : l.Nodup) (hother : ∀ s, ∀ b ∈ l, b ≠ a → view (step s b) = view s)
    (hself : ∀ t, view t = view s → Q (view (step t a))) : Q (view (l.foldl step s)) := by
  obtain ⟨pre, post, rfl⟩ := List.append_of_mem hmem
  have hne : ∀ b ∈ pre ++ post, b ≠ a := by
    rintro b hb rfl
    exact (List.nodup_middle.1 hnodup).notMem hb
  rw [List.foldl_append, List.foldl_cons, foldl_keeps view step post _ fun s b hb =>
    hother s b (by simp [hb]) (hne b (by simp [hb]))]
  exact hself _ (foldl_keeps view step pre s fun s b hb => hother s b (by simp [hb]) (hne b (by simp [hb])))

/-- The trigger record of a bus trigger of line l at an instant and position. -/
def State.busRecord (s : State) (l tw p : Nat) : TrigRec :=
  ⟨0, false, 0, 0, 0x10 + l, 0xF, false, true, s.instOf tw, tw, p % 2 ^ 32, p / 2 ^ 32, s.epoch, s.getF Reg.ANG_STAT_STATE⟩

/-- The records that are open note the line. -/
def State.busNoted (s : State) (l a : Nat) : State :=
  let add := fun (r : RecSt) => { r with busin := r.busin ||| 2 ^ l }
  let s := if s.capLive a then s.setCap a add else s
  ((s.engines a).filter fun k => s.rdSt k == cArmed || s.rdSt k == cTrig).foldl (fun (s : State) k => s.setRd k add) s

/-- What an edge on line l does at a capture. -/
def State.busTake (l tw p : Nat) (s : State) (a : Nat) : State :=
  if !(s.getF (Reg.ACQ_C_TMASK_LINES a)).testBit l then s
  else if (s.busNoted l a).capSt a == cArmed then (s.busNoted l a).capTrigger a ((s.busNoted l a).busRecord l tw p)
  else s.busNoted l a

/-- The state in which an edge on line l has been seen. -/
def State.edgeSeen (s : State) (l : Nat) : State :=
  State.irq (State.raiseBit { s with acq := { s.acq with
    edgeAt := s.acq.edgeAt.filter (fun (x : Nat × Nat) => x.1 != l) ++ [(l, s.tm.runt)] } } Reg.ACQ_BUS_STAT_SEEN l) .acq 5

/-- The instant that an edge on line l stands for (R370). -/
def State.edgeTw (s : State) (l : Nat) : Nat := s.edgeStamp - s.rd Reg.ACQ_BUS_LAT * 2 ^ 16 - s.rd (Reg.ACQ_TRG_DLY l) * 2 ^ 8

/-- The state in which the captures have taken an edge on line l. -/
def State.edgeTriggered (s : State) (l : Nat) : State :=
  let s := s.edgeSeen l
  (List.range 8).foldl (State.busTake l (s.edgeTw l) (s.posAt (s.edgeTw l))) s

/-- The state after an accepted edge on line l. -/
def State.edgeTaken (s : State) (l : Nat) : State := (s.edgeTriggered l).tuSync

/-- An edge on line l less than 400 ns ago. -/
def State.edgeRecent (s : State) (l : Nat) : Bool :=
  match s.acq.edgeAt.find? fun x => x.1 == l with
  | some x => !s.expired x.2 400
  | none => false

/-- TRIGGER_BUS_EDGE takes an edge of a received line that is not recent, while the unit is READY. -/
theorem exec_triggerBusEdge (s : State) (l : Nat) :
    exec (.triggerBusEdge l) s =
      if (decide (l < 8) && s.on secAcq && (s.getF Reg.ACQ_BUS_CTL_RXEN).testBit l && !s.edgeRecent l) = true then
        .next (s.edgeTaken l) else .next s := (rfl)

/-- A register that an edge leaves alone when it triggers capture a: one below the engines' that is none of those it writes. -/
def offTrig (a o : Nat) : Prop :=
  o < 0x40061c ∧ o ≠ Reg.ACQ_STAT ∧ o ≠ Reg.ACQ_BW ∧ o ≠ Reg.ACQ_C_RDPTR a

theorem offTrig.notMem {a o : Nat} (h : offTrig a o) : o ∉ trigRegs a := by
  obtain ⟨hlt, hstat, hbw, hptr⟩ := h
  simp only [trigRegs, Reg.EVT_INTAKE_LOST, Reg.EVT_STAT, List.mem_append, List.mem_cons, List.not_mem_nil, or_false, List.mem_map,
    List.mem_range, not_or]
  refine ⟨⟨hptr, hstat, hbw, by omega, by omega⟩, ?_⟩
  rintro ⟨k, -, hk⟩
  simp only [Reg.ACQ_RD_STAT] at hk
  omega

/-- The interrupt register of the unit lies among them. -/
theorem offTrig_irq (a : Nat) : offTrig a (Reg.UNIT_IRQ .acq) := by
  simp only [offTrig, Reg.UNIT_IRQ, Blk.base, Reg.ACQ_STAT, Reg.ACQ_BW, Reg.ACQ_C_RDPTR]
  omega

theorem offTrig_cStat {a j : Nat} (hj : j < 8) : offTrig a (Reg.ACQ_C_STAT j) := by
  simp only [offTrig, Reg.ACQ_C_STAT, Reg.ACQ_STAT, Reg.ACQ_BW, Reg.ACQ_C_RDPTR]
  omega

theorem offTrig_cTmask {a j : Nat} (hj : j < 8) : offTrig a (Reg.ACQ_C_TMASK j) := by
  simp only [offTrig, Reg.ACQ_C_TMASK, Reg.ACQ_STAT, Reg.ACQ_BW, Reg.ACQ_C_RDPTR]
  omega

theorem offTrig_busStat (a : Nat) : offTrig a Reg.ACQ_BUS_STAT := by
  simp only [offTrig, Reg.ACQ_BUS_STAT, Reg.ACQ_STAT, Reg.ACQ_BW, Reg.ACQ_C_RDPTR]
  omega

section Take
variable {o j a : Nat}

/-- The note at one capture and its engines leaves the entries of the others alone, and every register. -/
theorem State.trigView_busNoted (s : State) (l : Nat) (hj : j ≠ a) : (s.busNoted l a).trigView o j = s.trigView o j := by
  unfold State.busNoted
  dsimp only
  rw [foldl_keeps (State.trigView · o j) _ _ _ fun s k _ => s.trigView_setRd k _]
  split
  · exact State.trigView_setCap _ _ hj
  · rfl

/-- An edge does nothing at a capture that does not name its line. -/
theorem State.busTake_of_unnamed {s : State} {l : Nat} (tw p : Nat)
    (h : (s.getF (Reg.ACQ_C_TMASK_LINES a)).testBit l = false) : State.busTake l tw p s a = s := by
  rw [State.busTake, h]
  rfl

/-- What an edge does at one capture leaves the others alone. -/
theorem State.trigView_busTake (s : State) (l tw p : Nat) (hj : j ≠ a) (ho : offTrig a o) (hstat : o ≠ Reg.ACQ_C_STAT a)
    (hirq : o ≠ Reg.UNIT_IRQ .acq) : (State.busTake l tw p s a).trigView o j = s.trigView o j := by
  unfold State.busTake
  split
  · rfl
  · split
    · rw [State.trigView_capTrigger _ _ hj ho.notMem hstat hirq, State.trigView_busNoted _ _ hj]
    · exact State.trigView_busNoted _ _ hj

/-- The status of a capture that triggers: TRIGGERED, and BUS for a bus trigger. -/
theorem State.status_capTrigger (s : State) (t : TrigRec) (ha : a < 8) :
    (s.capTrigger a t).capSt a = cTrig ∧ (s.capTrigger a t).flag (Reg.ACQ_C_STAT_BUS a) = t.bus := by
  have ho := (offTrig_cStat (a := a) ha).notMem
  have hirq : Reg.ACQ_C_STAT a ≠ Reg.UNIT_IRQ .acq := by
    change 0x400424 + 0x40 * a ≠ 0x400010
    omega
  have hrd : (s.capTrigger a t).rd (Reg.ACQ_C_STAT a) = ((s.trigTaken a t).trigFlagged a t (max 1 (s.capacity a))
      ((s.trigTaken a t).capOf a)).rd (Reg.ACQ_C_STAT a) := by
    refine State.rd_of_trigView (a + 1) ?_
    rw [State.capTrigger_eq, State.trigView_trigReported _ _ ho hirq, State.trigView_trigStored _ _ _ _ (by omega) ho]
  constructor
  · rw [State.capSt, State.getF, hrd]
    change State.getF _ (Reg.ACQ_C_STAT_STATE a) = cTrig
    unfold State.trigFlagged
    dsimp only
    rw [State.setB, State.getF_setF_beside _ _ rfl rfl (by simp), State.setB, State.getF_setF_beside _ _ rfl rfl (by simp),
      State.setB, State.getF_setF_beside _ _ rfl rfl (by simp), State.getF_setF _ _ _ rfl]
    rfl
  · rw [State.flag, State.getF, hrd]
    change State.flag _ (Reg.ACQ_C_STAT_BUS a) = t.bus
    unfold State.trigFlagged
    dsimp only
    rw [State.flag, State.setB, State.getF_setF_beside _ _ rfl rfl (by simp)]
    exact State.flag_setB _ _ _ rfl rfl

/-- An armed capture that names the line triggers, marked as a bus trigger. -/
theorem State.status_busTake {s : State} {l : Nat} (tw p : Nat) (ha : a < 8)
    (hline : (s.getF (Reg.ACQ_C_TMASK_LINES a)).testBit l = true) (harmed : s.capSt a = cArmed) :
    (State.busTake l tw p s a).capSt a = cTrig ∧ (State.busTake l tw p s a).flag (Reg.ACQ_C_STAT_BUS a) = true := by
  have hst : (s.busNoted l a).capSt a = cArmed := by
    rw [← harmed, State.capSt, State.getF, State.rd_of_trigView (a + 1) (s.trigView_busNoted l (by omega))]
    rfl
  have htake : State.busTake l tw p s a = (s.busNoted l a).capTrigger a ((s.busNoted l a).busRecord l tw p) := by
    rw [State.busTake, hline, hst]
    rfl
  rw [htake]
  exact State.status_capTrigger _ _ ha

/-- The trigger of a capture leaves an interrupt bit set that is. -/
theorem State.irq_capTrigger {s : State} (t : TrigRec) {n : Nat} (hn : n < 32) (h : (s.rd (Reg.UNIT_IRQ .acq)).testBit n = true) :
    ((s.capTrigger a t).rd (Reg.UNIT_IRQ .acq)).testBit n = true := by
  have ho := (offTrig_irq a).notMem
  obtain ⟨⟨-, hstat, hbw, hlost, hev⟩, -⟩ := ne_of_notMem_trigRegs ho
  have hself : Reg.UNIT_IRQ .acq ≠ Reg.ACQ_C_STAT a := by
    change 0x400010 ≠ 0x400424 + 0x40 * a
    omega
  have hreport : ∀ u : State, (u.trigReported a t).rd (Reg.UNIT_IRQ .acq) = (u.irq .acq 0).rd (Reg.UNIT_IRQ .acq) := by
    intro u
    refine State.rd_of_trigView (a + 1) ?_
    unfold State.trigReported
    dsimp only
    rw [State.trigView_acqSync _ hstat hbw, State.trigView_lineAsked, State.trigView_emitAt _ _ _ _ _ _ _ _ _ hlost hev]
  have hbefore := State.rd_of_trigView (a + 1) (((s.trigTaken a t).trigFlagged a t (max 1 (s.capacity a))
    ((s.trigTaken a t).capOf a)).trigView_trigStored t (max 1 (s.capacity a)) ((s.trigTaken a t).capOf a) (by omega) ho)
  rw [State.capTrigger_eq, hreport, State.testBit_rd_irq _ _ _ _ hn, hbefore,
    State.rd_of_trigView (a + 1) ((s.trigTaken a t).trigView_trigFlagged t _ _ hself),
    State.rd_of_trigView (a + 1) (s.trigView_trigTaken t (by omega)), h, Bool.or_true]

/-- What an edge does at a capture leaves an interrupt bit set that is. -/
theorem State.irq_busTake {s : State} (l tw p : Nat) {n : Nat} (hn : n < 32) (h : (s.rd (Reg.UNIT_IRQ .acq)).testBit n = true) :
    ((State.busTake l tw p s a).rd (Reg.UNIT_IRQ .acq)).testBit n = true := by
  have hnoted : ((s.busNoted l a).rd (Reg.UNIT_IRQ .acq)).testBit n = true := by
    rw [State.rd_of_trigView (a + 1) (s.trigView_busNoted l (by omega)), h]
  unfold State.busTake
  split
  · exact h
  · split
    · exact State.irq_capTrigger _ hn hnoted
    · exact hnoted

end Take

/-! ### An accepted edge (R370) -/

/-- The state with the edge seen: SEEN, the interrupt and the instant of the edge are set. -/
theorem State.edgeSeen_sets (s : State) {l : Nat} (hl : l < 8) :
    ((s.edgeSeen l).getF Reg.ACQ_BUS_STAT_SEEN).testBit l = true ∧ (s.edgeSeen l).acq.edgeAt.getLast? = some (l, s.tm.runt) ∧
      ((s.edgeSeen l).rd (Reg.UNIT_IRQ .acq)).testBit 5 = true := by
  refine ⟨?_, ?_, ?_⟩
  · rw [State.getF, State.edgeSeen, State.rd_irq_ne _ _ _ (by decide), ← State.getF,
      State.testBit_getF_raiseBit _ rfl (by simpa using hl)]
  · simp only [State.edgeSeen, State.irq_acq, State.raiseBit_acq, List.getLast?_concat]
  · rw [State.edgeSeen, State.testBit_rd_irq _ _ _ _ (by decide), decide_eq_true rfl, Bool.true_or]

/-- Seeing an edge writes the status of the bus and the interrupt register, and no capture's entry. -/
theorem State.edgeSeen_keeps (s : State) (l j : Nat) {o : Nat} (hstat : o ≠ Reg.ACQ_BUS_STAT) (hirq : o ≠ Reg.UNIT_IRQ .acq) :
    (s.edgeSeen l).rd o = s.rd o ∧ (s.edgeSeen l).capOf j = s.capOf j := by
  refine ⟨?_, ?_⟩
  · rw [State.edgeSeen, State.rd_irq_ne _ _ _ hirq, State.rd_raiseBit_ne _ _ _ hstat]
    rfl
  · simp only [State.capOf, State.edgeSeen, State.irq_acq, State.raiseBit_acq]

/-- The registers of trigger units lie below those of the captures. -/
theorem ne_tuStat_of_le {o : Nat} (h : 0x400400 ≤ o ∨ o < 0x400118) : ∀ n < 16, o ≠ Reg.ACQ_TU_STAT n := by
  intro n hn
  simp only [Reg.ACQ_TU_STAT]
  omega

/-- The captures leave the interrupt bit of the edge set. -/
theorem State.edgeTriggered_irq (s : State) {l : Nat} (hl : l < 8) :
    ((s.edgeTriggered l).rd (Reg.UNIT_IRQ .acq)).testBit 5 = true :=
  List.foldlRecOn (motive := fun (u : State) => (u.rd (Reg.UNIT_IRQ .acq)).testBit 5 = true) _ _ (s.edgeSeen_sets hl).2.2
    fun _ hu _ _ => State.irq_busTake _ _ _ (by decide) hu

/-- The captures leave the status of the bus and the instants of its edges alone. -/
theorem State.edgeTriggered_bus (s : State) (l : Nat) :
    (s.edgeTriggered l).trigView Reg.ACQ_BUS_STAT 8 = (s.edgeSeen l).trigView Reg.ACQ_BUS_STAT 8 := by
  refine foldl_keeps (State.trigView · Reg.ACQ_BUS_STAT 8) _ _ _ fun u a ha => ?_
  have ha := List.mem_range.1 ha
  refine u.trigView_busTake l _ _ (by omega) (offTrig_busStat a) ?_ (by decide)
  simp only [Reg.ACQ_BUS_STAT, Reg.ACQ_C_STAT]
  omega

/-- What an accepted edge sets on the bus. -/
theorem State.edgeTaken_bus (s : State) {l : Nat} (hl : l < 8) :
    ((s.edgeTaken l).getF Reg.ACQ_BUS_STAT_SEEN).testBit l = true ∧ (s.edgeTaken l).acq.edgeAt.getLast? = some (l, s.tm.runt) ∧
      (s.edgeTaken l).flag ⟨Reg.UNIT_IRQ .acq, 5, 5⟩ = true := by
  obtain ⟨hseen, hedge, -⟩ := s.edgeSeen_sets hl
  have hview : (s.edgeTaken l).trigView Reg.ACQ_BUS_STAT 8 = (s.edgeSeen l).trigView Reg.ACQ_BUS_STAT 8 :=
    (State.trigView_tuSync _ (ne_tuStat_of_le (.inr (by decide)))).trans (s.edgeTriggered_bus l)
  have hirq : (s.edgeTaken l).rd (Reg.UNIT_IRQ .acq) = (s.edgeTriggered l).rd (Reg.UNIT_IRQ .acq) :=
    State.rd_of_trigView 8 (State.trigView_tuSync _ (ne_tuStat_of_le (.inr (by decide))))
  refine ⟨?_, ?_, ?_⟩
  · rw [State.getF, State.rd_of_trigView 8 hview]
    exact hseen
  · rw [show (s.edgeTaken l).acq.edgeAt = (s.edgeSeen l).acq.edgeAt from congrArg (fun v => v.2.1) hview, hedge]
  · rw [State.flag_bit, hirq, s.edgeTriggered_irq hl]

section Captures
variable {s : State} {l j : Nat}

/-- The status and the lines of capture j, which the other captures leave alone. -/
def State.lineView (j : Nat) (s : State) : Nat × Nat := (s.rd (Reg.ACQ_C_STAT j), s.rd (Reg.ACQ_C_TMASK j))

/-- What an edge does at another capture leaves status, lines and entry of capture j alone. -/
theorem State.busTake_other (s : State) (l tw p : Nat) {a : Nat} (hj : j < 8) (hne : j ≠ a) :
    (State.busTake l tw p s a).lineView j = s.lineView j ∧ (State.busTake l tw p s a).capOf j = s.capOf j := by
  have hstat := s.trigView_busTake (o := Reg.ACQ_C_STAT j) l tw p hne (offTrig_cStat hj)
    (by simp only [Reg.ACQ_C_STAT]; omega) (by simp only [Reg.ACQ_C_STAT, Reg.UNIT_IRQ, Blk.base]; omega)
  have hmask := s.trigView_busTake (o := Reg.ACQ_C_TMASK j) l tw p hne (offTrig_cTmask hj)
    (by simp only [Reg.ACQ_C_TMASK, Reg.ACQ_C_STAT]; omega) (by simp only [Reg.ACQ_C_TMASK, Reg.UNIT_IRQ, Blk.base]; omega)
  exact ⟨Prod.ext (State.rd_of_trigView j hstat) (State.rd_of_trigView j hmask), congrArg (fun v => v.2.2) hstat⟩

/-- The units that pass to armed or back leave status, lines and entry of capture j alone. -/
theorem State.tuSync_keeps_capture (s : State) (j : Nat) :
    s.tuSync.lineView j = s.lineView j ∧ s.tuSync.capOf j = s.capOf j := by
  have hstat := s.trigView_tuSync (o := Reg.ACQ_C_STAT j) (j := j) (ne_tuStat_of_le (.inl (by simp only [Reg.ACQ_C_STAT]; omega)))
  have hmask := s.trigView_tuSync (o := Reg.ACQ_C_TMASK j) (j := j) (ne_tuStat_of_le (.inl (by simp only [Reg.ACQ_C_TMASK]; omega)))
  exact ⟨Prod.ext (State.rd_of_trigView j hstat) (State.rd_of_trigView j hmask), congrArg (fun v => v.2.2) hstat⟩

/-- Seeing the edge leaves status, lines and entry of capture j alone. -/
theorem State.edgeSeen_keeps_capture (s : State) (l j : Nat) :
    (s.edgeSeen l).lineView j = s.lineView j ∧ (s.edgeSeen l).capOf j = s.capOf j := by
  obtain ⟨hstat, hcap⟩ := s.edgeSeen_keeps l j (o := Reg.ACQ_C_STAT j)
    (by simp only [Reg.ACQ_C_STAT, Reg.ACQ_BUS_STAT]; omega) (by simp only [Reg.ACQ_C_STAT, Reg.UNIT_IRQ, Blk.base]; omega)
  obtain ⟨hmask, -⟩ := s.edgeSeen_keeps l j (o := Reg.ACQ_C_TMASK j)
    (by simp only [Reg.ACQ_C_TMASK, Reg.ACQ_BUS_STAT]; omega) (by simp only [Reg.ACQ_C_TMASK, Reg.UNIT_IRQ, Blk.base]; omega)
  exact ⟨Prod.ext hstat hmask, hcap⟩

/-- Status and lines of a capture, read off its view. -/
theorem State.capSt_eq (s : State) (j : Nat) : s.capSt j = bits (s.lineView j).1 31 29 := rfl
theorem State.bus_eq (s : State) (j : Nat) : s.flag (Reg.ACQ_C_STAT_BUS j) = (bits (s.lineView j).1 24 24 != 0) := rfl
theorem State.lines_eq (s : State) (j : Nat) : s.getF (Reg.ACQ_C_TMASK_LINES j) = bits (s.lineView j).2 23 16 := rfl

/-- Every armed capture that names the line triggers (R370). -/
theorem State.edgeTaken_triggers (hj : j < 8) (hline : (s.getF (Reg.ACQ_C_TMASK_LINES j)).testBit l = true)
    (harmed : s.capSt j = cArmed) :
    (s.edgeTaken l).capSt j = cTrig ∧ (s.edgeTaken l).flag (Reg.ACQ_C_STAT_BUS j) = true := by
  obtain ⟨hseen, -⟩ := s.edgeSeen_keeps_capture l j
  rw [State.capSt_eq, State.bus_eq, State.edgeTaken, ((s.edgeTriggered l).tuSync_keeps_capture j).1]
  refine foldl_reaches (State.lineView j) _ (fun v => bits v.1 31 29 = cTrig ∧ (bits v.1 24 24 != 0) = true) _
    (List.mem_range.2 hj) List.nodup_range
    (fun u _ _ hne => (u.busTake_other l _ _ hj hne.symm).1) fun u hu => ?_
  refine State.status_busTake _ _ hj ?_ ?_
  · rw [State.lines_eq, hu, hseen, ← State.lines_eq, hline]
  · rw [State.capSt_eq, hu, hseen, ← State.capSt_eq, harmed]

/-- A capture that does not name the line keeps its state and its entry. -/
theorem State.edgeTaken_unnamed (hj : j < 8) (hline : (s.getF (Reg.ACQ_C_TMASK_LINES j)).testBit l = false) :
    (s.edgeTaken l).capSt j = s.capSt j ∧ (s.edgeTaken l).capOf j = s.capOf j := by
  have hfold : (s.edgeTriggered l).lineView j = s.lineView j ∧ (s.edgeTriggered l).capOf j = s.capOf j := by
    refine List.foldlRecOn (motive := fun (u : State) => u.lineView j = s.lineView j ∧ u.capOf j = s.capOf j) _ _
      (s.edgeSeen_keeps_capture l j) fun u hu a ha => ?_
    obtain rfl | hne := eq_or_ne j a
    · rw [State.busTake_of_unnamed _ _ (by rw [State.lines_eq, hu.1, ← State.lines_eq, hline])]
      exact hu
    · obtain ⟨hview, hcap⟩ := u.busTake_other l _ _ hj hne
      exact ⟨hview.trans hu.1, hcap.trans hu.2⟩
  obtain ⟨hview, hcap⟩ := (s.edgeTriggered l).tuSync_keeps_capture j
  refine ⟨?_, hcap.trans hfold.2⟩
  rw [State.capSt_eq, State.edgeTaken, hview, hfold.1, State.capSt_eq]

/-- An edge within 400 ns of the last on its line. -/
theorem State.edgeRecent_of_find {x : Nat × Nat} (h : (s.acq.edgeAt.find? fun x => x.1 == l) = some x)
    (hexp : s.expired x.2 400 = false) : s.edgeRecent l = true := by
  simp only [State.edgeRecent, h, hexp, Bool.not_false]

/-- No edge on the line within 400 ns. -/
theorem State.edgeRecent_of_all (h : (s.acq.edgeAt.all fun x => x.1 != l || s.expired x.2 400) = true) : s.edgeRecent l = false := by
  unfold State.edgeRecent
  split
  next x hx =>
    have hkey : x.1 = l := by simpa using List.find?_some hx
    have hexp := List.all_eq_true.1 h x (List.mem_of_find?_eq_some hx)
    simp only [hkey, bne_self_eq_false, Bool.false_or] at hexp
    rw [hexp, Bool.not_true]
  next => rfl

end Captures

/-! ### TRC (R371) -/

/-- The state after a TRC edge. -/
def State.trcEdge (s : State) : State :=
  State.setB { s with acq := { s.acq with trcAt := some s.tw } } Reg.ACQ_BUS_STAT_TRC_OK
    (s.acq.trcAt.any fun a => decide (s.tw ≤ a + 110 * 2 ^ 16))

/-- TRC_EDGE_RX while TRC is received. -/
theorem exec_trcEdgeRx_of_received {s : State} (h : s.getF Reg.ACQ_BUS_CTL_TRC = 1) : exec .trcEdgeRx s = .next s.trcEdge := by
  change execTrcEdgeRx s = _
  rw [execTrcEdgeRx, if_pos h, State.trcEdge]
  cases s.acq.trcAt <;> rfl

/-- TRC_EDGE_RX while TRC is not received. -/
theorem exec_trcEdgeRx_of_ne {s : State} (h : s.getF Reg.ACQ_BUS_CTL_TRC ≠ 1) : exec .trcEdgeRx s = .next s := by
  change execTrcEdgeRx s = _
  rw [execTrcEdgeRx, if_neg h]

/-- TRC_TIMEOUT clears TRC_OK, or leaves the state as it is. -/
theorem exec_trcTimeout (s : State) :
    exec .trcTimeout s = .next (if (s.acq.trcAt.any (fun a => decide (s.tw ≤ a + 110 * 2 ^ 16)) ||
      s.acq.trcAt.isSome && s.comes fun c => c == .trcEdgeRx) = true then s else s.setF Reg.ACQ_BUS_STAT_TRC_OK 0) := by
  change execTrcTimeout s = _
  unfold execTrcTimeout
  cases s.acq.trcAt with
  | none => rfl
  | some a =>
    simp only [Option.any_some, Option.isSome_some, Bool.true_and]
    by_cases hlate : s.tw ≤ a + 110 * 2 ^ 16
    · rw [if_neg (fun h => absurd h.1 (by omega)), decide_eq_true hlate, Bool.true_or, if_pos rfl]
    · rw [decide_eq_false hlate, Bool.false_or]
      cases s.comes fun c => c == .trcEdgeRx with
      | true => rw [if_neg (fun h => absurd h.2 (by decide)), if_pos rfl]
      | false => rw [if_pos ⟨by omega, rfl⟩, if_neg (by decide)]

/-- A field write changes the register file alone. -/
theorem State.setF_frame (s : State) (f : Fld) (v : Nat) : s.setF f v = { s with regs := (s.setF f v).regs } := (rfl)

/-- A one-bit field that 0 has been put into is clear. -/
theorem State.flag_setF_zero (s : State) (f : Fld) (h : f.ok = true) : (s.setF f 0).flag f = false := by
  rw [State.flag, State.getF_setF _ _ _ h]
  simp

/-! ### The statement -/

section Lines
variable {s : State} {l : Nat}

/-- Assertion of a line (R368, R369). -/
theorem triggerBusAssert_drives (hl : l < 8) (d : Nat × Nat)
    (h : (s.acq.lineDue.find? fun d => d.1 == l && decide (d.2 ≤ s.busNow)) = some d) :
    ∃ t, exec (.triggerBusAssert l) s = .next t ∧ (t.getF Reg.ACQ_BUS_STAT_DRV).testBit l = true ∧ s.sent t = [.busLine l true] ∧
      t.acq = { s.acq with lineDue := s.acq.lineDue.erase d, lineAt := t.acq.lineAt } ∧ t.acq.lineAt.getLast? = some (l, s.tm.runt) ∧
      s.regsKept [Reg.ACQ_BUS_STAT] t ∧ t = { s with regs := t.regs, acq := t.acq, tx := t.tx } := by
  refine ⟨s.busDriven l d, exec_triggerBusAssert_of_some hl h, ?_, State.sent_out _ (State.setBit_tx ..), ?_, ?_, fun o ho => ?_,
    s.busDriven_frame l d⟩
  · rw [State.busDriven, State.getF_out, State.testBit_getF_setBit _ true rfl (by simpa using hl)]
  · simp only [State.busDriven, State.out_acq, State.setBit_acq]
  · simp only [State.busDriven, State.out_acq, State.setBit_acq, List.getLast?_concat]
  · rw [State.busDriven, State.rd_out, State.rd_setBit_ne _ _ _ _ (by simpa using ho)]
    rfl

/-- Release of a line 400 ns after its assertion (R368). -/
theorem triggerBusRelease_releases (hl : l < 8) (x : Nat × Nat) (h : (s.acq.lineAt.find? fun x => x.1 == l) = some x)
    (hexp : s.expired x.2 400 = true) :
    ∃ t, exec (.triggerBusRelease l) s = .next t ∧ (t.getF Reg.ACQ_BUS_STAT_DRV).testBit l = false ∧
      s.sent t = [.busLine l false] ∧ s.regsKept [Reg.ACQ_BUS_STAT] t ∧ t = { s with regs := t.regs, acq := t.acq, tx := t.tx } := by
  refine ⟨s.busReleased l, by rw [exec_triggerBusRelease hl h, if_pos hexp], ?_, State.sent_out _ (State.setBit_tx ..),
    fun o ho => ?_, s.busReleased_frame l⟩
  · rw [State.busReleased, State.getF_out, State.testBit_getF_setBit _ false rfl (by simpa using hl)]
  · rw [State.busReleased, State.rd_out, State.rd_setBit_ne _ _ _ _ (by simpa using ho)]
    rfl

end Lines

/-- TRC_EDGE_RX says whether the last two edges lie within 110 ns (R371). -/
theorem trcEdge_sets (s : State) : s.trcEdge.acq.trcAt = some s.tw ∧
    s.trcEdge.flag Reg.ACQ_BUS_STAT_TRC_OK = s.acq.trcAt.any (fun a => decide (s.tw ≤ a + 110 * 2 ^ 16)) ∧
    s.regsKept [Reg.ACQ_BUS_STAT] s.trcEdge ∧ s.trcEdge = { s with regs := s.trcEdge.regs, acq := s.trcEdge.acq } := by
  refine ⟨?_, State.flag_setB _ _ _ rfl rfl, fun o ho => ?_, rfl⟩
  · rw [State.trcEdge, State.setB_acq]
  · rw [State.trcEdge, State.rd_setB_ne _ _ _ (by simpa using ho)]
    rfl

/-- TRC_OK clears when no edge comes for 110 ns; an edge of the same fc wins (R66, R371). -/
theorem trcTimeout_clears (s : State) : ∃ t, exec .trcTimeout s = .next t ∧
    ((s.acq.trcAt = none ∨ s.comes (fun c => c == .trcEdgeRx) = false ∧
      s.acq.trcAt.all (fun a => decide (a + 110 * 2 ^ 16 < s.tw)) = true) → t.flag Reg.ACQ_BUS_STAT_TRC_OK = false) ∧
    ((s.acq.trcAt.any (fun a => decide (s.tw ≤ a + 110 * 2 ^ 16)) = true ∨
      s.acq.trcAt.isSome = true ∧ s.comes (fun c => c == .trcEdgeRx) = true) → t = s) ∧ s.regsKept [Reg.ACQ_BUS_STAT] t ∧
    t = { s with regs := t.regs } := by
  refine ⟨_, exec_trcTimeout s, fun h => ?_, fun h => if_pos (by simpa using h), ?_, ?_⟩
  · rw [if_neg]
    · exact State.flag_setF_zero _ _ rfl
    · obtain hnone | ⟨hcome, hlate⟩ := h
      · simp [hnone]
      · cases hat : s.acq.trcAt with
        | none => simp
        | some a =>
          rw [hat, Option.all_some, decide_eq_true_eq] at hlate
          rw [hcome, Option.any_some, decide_eq_false (by omega)]
          simp
  · intro o ho
    split
    · rfl
    · exact State.rd_setF_ne _ _ _ (by simpa using ho)
  · split
    · rfl
    · exact State.setF_frame ..

/-- Settles O23: an accepted edge goes through the captures one by one, and what it does at one leaves the others alone. -/
theorem triggerBusLinesAndTrc : Obligations.TriggerBusLinesAndTrc := by
  intro s _ _
  refine ⟨fun l hl => ⟨?_, ?_, ?_, ?_, ?_⟩, ?_, ?_, trcTimeout_clears s⟩
  · rintro now rfl
    exact ⟨fun h => ⟨s, exec_triggerBusAssert_of_none hl h, rfl⟩, triggerBusAssert_drives hl⟩
  · exact fun x hx => ⟨triggerBusRelease_releases hl x hx,
      fun hexp => ⟨s, by rw [exec_triggerBusRelease hl hx, hexp, if_neg Bool.false_ne_true], rfl⟩⟩
  · intro h
    refine ⟨s, ?_, rfl⟩
    rw [exec_triggerBusEdge, if_neg]
    obtain h | h := h <;> simp [h]
  · intro x hx hexp
    exact ⟨s, by rw [exec_triggerBusEdge, State.edgeRecent_of_find hx hexp, if_neg (by simp)], rfl⟩
  · intro hon hrx hquiet
    obtain ⟨hseen, hedge, hirq⟩ := s.edgeTaken_bus hl
    refine ⟨s.edgeTaken l, ?_, hseen, hedge, hirq, fun j hj => State.edgeTaken_triggers hj, fun j hj => State.edgeTaken_unnamed hj⟩
    rw [exec_triggerBusEdge, State.edgeRecent_of_all hquiet, hon, hrx, decide_eq_true hl]
    rfl
  · exact fun h => ⟨s.trcEdge, exec_trcEdgeRx_of_received h, trcEdge_sets s⟩
  · exact fun h => ⟨s, exec_trcEdgeRx_of_ne h, rfl⟩

end Sys2Proof.Machine
end

section
/-!
PPS_OUT, PPS_IN and the transmit time-stamp queues (R104, R107–R109), and the statement PpsAndTransmitStamps.
-/
namespace Sys2Proof.Machine

/-! ### Time words in three registers (R12, R35) -/

/-- The packed form of a time word takes 96 bits. -/
theorem twPack_lt (t : Nat) : twPack t < 2 ^ 96 := by
  have hsec := Nat.mod_lt (t / sec16) (Nat.two_pow_pos 48)
  have hsub : t % sec16 < 2 ^ 48 := lt_trans (Nat.mod_lt t (by decide)) (by decide)
  rw [twPack]
  omega

/-- Packing a time word keeps it up to the range of its seconds. -/
theorem twUnpack_twPack (t : Nat) : twUnpack (twPack t) = t % (2 ^ 48 * sec16) := by
  have hsub : t % sec16 < 2 ^ 48 := lt_trans (Nat.mod_lt t (by decide)) (by decide)
  have hdiv : twPack t / 2 ^ 48 = t / sec16 % 2 ^ 48 := by rw [twPack]; omega
  have hmod : twPack t % 2 ^ 48 = t % sec16 := by rw [twPack]; omega
  rw [twUnpack, hdiv, hmod, Nat.mul_comm (2 ^ 48), Nat.mod_mul, Nat.mul_comm sec16, Nat.add_comm]

/-- A value of 96 bits put into three registers reads back. -/
theorem State.rd96_wr96 (s : State) (o : Nat) {v : Nat} (hv : v < 2 ^ 96) : (s.wr96 o v).rd96 o = v := by
  have h₀ : (s.wr96 o v).rd o = v % 2 ^ 32 := by
    rw [State.wr96, State.rd_wr_ne _ _ (by omega), State.rd_wr_ne _ _ (by omega), State.rd_wr_same]
  have h₁ : (s.wr96 o v).rd (o + 4) = v / 2 ^ 32 % 2 ^ 32 := by
    rw [State.wr96, State.rd_wr_ne _ _ (by omega), State.rd_wr_same]
  have h₂ : (s.wr96 o v).rd (o + 8) = v / 2 ^ 64 % 2 ^ 32 := by rw [State.wr96, State.rd_wr_same]
  rw [State.rd96, h₀, h₁, h₂]
  omega

/-- Putting a time word into three registers leaves the others alone. -/
theorem State.rd_wrTw_ne (s : State) {o x : Nat} (t : Nat) (h₀ : x ≠ o) (h₁ : x ≠ o + 4) (h₂ : x ≠ o + 8) :
    (s.wrTw o t).rd x = s.rd x := by
  rw [State.wrTw, State.wr96, State.rd_wr_ne _ _ h₂, State.rd_wr_ne _ _ h₁, State.rd_wr_ne _ _ h₀]

/-- The 96-bit value of three registers that read as before is as before. -/
theorem State.rd96_congr {s t : State} {o : Nat} (h₀ : t.rd o = s.rd o) (h₁ : t.rd (o + 4) = s.rd (o + 4))
    (h₂ : t.rd (o + 8) = s.rd (o + 8)) : t.rd96 o = s.rd96 o := by
  rw [State.rd96, State.rd96, h₀, h₁, h₂]

/-- A flag that hardware raises is set. -/
theorem State.flag_raise (s : State) {f : Fld} (h : f.ok = true) : (s.raise f).flag f = true := by
  have hget : (s.raise f).getF f = 1 := by
    rw [State.getF, State.raise, State.rd_mark, ← State.getF, State.getF_setF s f 1 h]
    exact Nat.mod_eq_of_lt (Nat.one_lt_two_pow (by omega))
  rw [State.flag, hget]
  rfl

/-- A state without its register file: what no register write changes. -/
def State.sansRegs (s : State) : State := { s with regs := [] }

@[simp] theorem State.sansRegs_wr (s : State) (o v : Nat) : (s.wr o v).sansRegs = s.sansRegs := (rfl)

/-- States that agree without their register files differ in those alone. -/
theorem State.frame_of_sansRegs {s t : State} (h : t.sansRegs = s.sansRegs) : t = { s with regs := t.regs } :=
  congrArg (fun (u : State) => { u with regs := t.regs }) h

/-- Putting a time word changes registers alone. -/
@[simp] theorem State.sansRegs_wrTw (s : State) (o t : Nat) : (s.wrTw o t).sansRegs = s.sansRegs := by
  simp only [State.wrTw, State.wr96, State.sansRegs_wr]

/-- Raising a flag after register writes changes registers and the mark of what hardware set in this fc. -/
theorem State.raise_frame {s r : State} (f : Fld) (h : r.sansRegs = s.sansRegs) :
    r.raise f = { s with regs := (r.raise f).regs, hst := s.marks (r.raise f) } :=
  congrArg (fun (u : State) => { u with regs := (r.raise f).regs, hst := u.marks (r.raise f) }) h

/-! ### PPS_OUT (R81, R107) -/

/-- PPS_OUT_PULSE at a boundary while PPS_OUT is low: the pulse goes out when the clock's state or FREE allows it. -/
theorem exec_ppsOutPulse_of_reached {s : State} (hon : s.on secTbu = true) (hlow : s.tbu.ppsHigh = false)
    (hreach : s.tm.reach + s.rd Reg.TBU_PPS_OUT_CMP * 2 ^ 24 ≤
      (s.tm.time + s.rd Reg.TBU_PPS_OUT_CMP * 2 ^ 24) / sec32 * sec32) :
    exec .ppsOutPulse s =
      .next (if (decide (2 ≤ s.clk) || s.flag Reg.TBU_PPS_CTL_FREE) = true then s.ppsSet true else s) := by
  change execPpsOutPulse s = _
  simp only [execPpsOutPulse, hon, hlow, hreach, clkLocked, ge_iff_le, Bool.true_and, Bool.false_and, Bool.not_false,
    Bool.and_true, decide_true]
  split <;> rfl

/-- PPS_OUT_WIDTH_END at the end of the pulse's width. -/
theorem exec_ppsOutWidthEnd_of_expired {s : State} (hhigh : s.tbu.ppsHigh = true)
    (hexp : s.expired s.tbu.ppsRise (s.getF Reg.TBU_PPS_CTL_WIDTH * 1000000) = true) :
    exec .ppsOutWidthEnd s = .next (s.ppsSet false) := by
  change execPpsOutWidthEnd s = _
  rw [execPpsOutWidthEnd, hhigh, hexp]
  rfl

/-- A change of PPS_OUT is put out; the unit keeps its level, and the instant of a rise. -/
theorem State.ppsSet_sets (s : State) (up : Bool) :
    (s.ppsSet up).tbu.ppsHigh = up ∧ (s.ppsSet up).tbu.ppsRise = (if up then s.tm.runt else s.tbu.ppsRise) ∧
      s.sent (s.ppsSet up) = [.ppsOut up] ∧ s.ppsSet up = { s with tbu := (s.ppsSet up).tbu, tx := (s.ppsSet up).tx } :=
  ⟨rfl, rfl, State.sent_out _ rfl, rfl⟩

/-! ### PPS_IN (R108) -/

/-- The stamp of a PPS_IN edge in the present fc. -/
def State.ppsStamp (s : State) : Nat := s.tw - s.rd Reg.TBU_PPS_IN_CMP * 256

/-- The state in which the stamp stands in TBU_PPS_IN_TS and PPS_SEEN is set. -/
def State.ppsStamped (s : State) : State := (s.wrTw Reg.TBU_PPS_IN_TS_0 s.ppsStamp).raise Reg.TBU_STAT_PPS_SEEN

/-- The registers that a PPS_IN edge writes under SRC 0. -/
def ppsInRegs : List Nat :=
  [Reg.TBU_STAT, Reg.TBU_PPS_IN_TS_0, Reg.TBU_PPS_IN_TS_0 + 4, Reg.TBU_PPS_IN_TS_0 + 8]

/-- The stamp and PPS_SEEN are all that changes. -/
theorem State.regsKept_ppsStamped (s : State) : s.regsKept ppsInRegs s.ppsStamped := by
  intro o ho
  simp only [ppsInRegs, List.mem_cons, List.not_mem_nil, or_false, not_or] at ho
  obtain ⟨hstat, h₀, h₁, h₂⟩ := ho
  rw [State.ppsStamped, State.rd_raise_ne _ _ hstat, State.rd_wrTw_ne _ _ h₀ h₁ h₂]

/-- TBU_PPS_IN_TS holds the stamp. -/
theorem State.rd96_ppsStamped (s : State) : s.ppsStamped.rd96 Reg.TBU_PPS_IN_TS_0 = twPack s.ppsStamp := by
  rw [← State.rd96_wr96 s Reg.TBU_PPS_IN_TS_0 (twPack_lt s.ppsStamp)]
  exact State.rd96_congr (State.rd_raise_ne _ _ (by decide)) (State.rd_raise_ne _ _ (by decide))
    (State.rd_raise_ne _ _ (by decide))

/-- Beside registers only the mark of the raised flag changes. -/
theorem State.ppsStamped_frame (s : State) :
    s.ppsStamped = { s with regs := s.ppsStamped.regs, hst := s.marks s.ppsStamped } :=
  State.raise_frame _ (State.sansRegs_wrTw ..)

/-- PPS_IN_EDGE while the timebase unit is not READY (R109). -/
theorem exec_ppsInEdge_of_off {s : State} (h : s.on secTbu = false) : exec .ppsInEdge s = .next s := by
  change execPpsInEdge s = _
  simp only [execPpsInEdge, h, Bool.not_false, if_true]

/-- PPS_IN_EDGE under SRC 0. -/
theorem exec_ppsInEdge_of_free {s : State} (hon : s.on secTbu = true) (hsrc : s.src = 0) :
    exec .ppsInEdge s = .next s.ppsStamped := by
  have hkept : s.ppsStamped.rd Reg.TBU_CTL = s.rd Reg.TBU_CTL := s.regsKept_ppsStamped _ (by decide)
  have hfree : s.ppsStamped.src ≠ 2 := by
    have hsame : s.ppsStamped.src = s.src := by unfold State.src State.getF; rw [hkept]
    rw [hsame, hsrc]
    decide
  change execPpsInEdge s = _
  simp only [execPpsInEdge, hon, Bool.not_true, Bool.false_eq_true, if_false]
  exact if_pos (.inl hfree)

/-! ### The queues of transmit time stamps (R104) -/

/-- TXQ_ID_READ while the host interface takes commands in. -/
theorem exec_txqIdRead {s : State} {i : Iface} {p : Nat} (hup : s.hostUp = true) (hwarm : s.pwr.warmBusy = false) (hp : p < 4) :
    exec (.txqIdRead i p) s =
      .next (((s.txqRead i p).1.answer i (Reg.TBU_P_TXQ_ID p) (s.txqRead i p).2).spiEnd i) := by
  change execTxqIdRead i p s = _
  simp only [execTxqIdRead, State.readRow, hwarm, State.hostRow, hup, hp, Bool.false_eq_true, if_false, if_true]

/-- The end of an SPI transaction touches the host interface's own state, and no copy of a group. -/
theorem State.spiEnd_frame (s : State) (i : Iface) :
    s.spiEnd i = { s with hst := (s.spiEnd i).hst } ∧ (s.spiEnd i).hst.snaps = s.hst.snaps := by
  cases i <;> exact ⟨rfl, rfl⟩

/-- An answer that ends a transaction is all that is put out. -/
theorem State.sent_answer {s r : State} (i : Iface) (off v : Nat) (h : r.tx = s.tx) :
    s.sent ((r.answer i off v).spiEnd i) = [.readData i off v] := by
  rw [((r.answer i off v).spiEnd_frame i).1]
  exact State.sent_out _ h

/-- An answer that ends a transaction changes the host interface's own state and what is put out. -/
theorem State.answer_frame (r : State) (i : Iface) (off v : Nat) :
    (r.answer i off v).spiEnd i =
      { r with hst := ((r.answer i off v).spiEnd i).hst, tx := ((r.answer i off v).spiEnd i).tx } := by
  cases i <;> rfl

/-- A copy just taken is the one that the interface has of the group. -/
theorem State.snapOf_setSnap (s : State) (i : Iface) (base : Nat) (ws : List Nat) :
    (s.setSnap i base ws).snapOf i base = some ws := by
  have hnone : (s.hst.snaps.filter fun c => !(c.ifc == i && c.base == base)).find? (fun c => c.ifc == i && c.base == base) =
      none := by
    rw [List.find?_eq_none]
    intro c hc
    simpa only [Bool.not_eq_true', Bool.not_eq_true] using (List.mem_filter.1 hc).2
  simp only [State.snapOf, State.setSnap, List.find?_append, hnone, Option.none_or]
  simp

/-- A change of a PTP port reads back. -/
theorem State.pp_setPp_same (s : State) {p : Nat} (f : PtpPort → PtpPort) (h : p < s.tbu.ports.length) :
    (s.setPp p f).pp p = f (s.pp p) := by
  simp [State.pp, State.setPp, State.setTbu, upd, h]

/-- A state whose lists have their lengths has four PTP ports. -/
theorem State.ports_length_of_shaped {s : State} (h : s.shaped = true) : s.tbu.ports.length = 4 := by
  simp only [State.shaped, Bool.and_eq_true, decide_eq_true_eq] at h
  tauto

section Read
variable {s : State} {i : Iface} {p : Nat} (hup : s.hostUp = true) (hwarm : s.pwr.warmBusy = false) (hp : p < 4)
include hup hwarm hp

/-- A read of an empty queue answers all ones (R104). -/
theorem txqIdRead_of_empty (hq : (s.pp p).txq = []) :
    ∃ t, exec (.txqIdRead i p) s = .next t ∧ s.sent t = [.readData i (Reg.TBU_P_TXQ_ID p) 0xFFFFFFFF] ∧
      t = { s with hst := t.hst, tx := t.tx } := by
  have hread : s.txqRead i p = (s, 0xFFFFFFFF) := by rw [State.txqRead, hq]
  refine ⟨_, exec_txqIdRead hup hwarm hp, ?_⟩
  rw [hread]
  exact ⟨State.sent_answer _ _ _ rfl, State.answer_frame ..⟩

/-- A read takes the oldest entry from the queue and latches it (R104). -/
theorem txqIdRead_of_head (hshape : s.shaped = true) (e : TxStamp) (hq : (s.pp p).txq.head? = some e) :
    ∃ t, exec (.txqIdRead i p) s = .next t ∧ (t.pp p).txq = (s.pp p).txq.tail ∧
      s.sent t = [.readData i (Reg.TBU_P_TXQ_ID p) e.id] ∧
      t.snapOf i (Reg.TBU_P_TXQ_ID p) = some (e.id :: (wordsOf (leBytes 12 (twPack e.tw)) ++ [e.epoch])) ∧
      t = { s with tbu := t.tbu, hst := t.hst, tx := t.tx } := by
  obtain ⟨rest, hrest⟩ := List.head?_eq_some_iff.1 hq
  have hports : p < s.tbu.ports.length := by rw [s.ports_length_of_shaped hshape]; exact hp
  have hread : s.txqRead i p = ((s.setPp p fun x => { x with txq := rest }).setSnap i (Reg.TBU_P_TXQ_ID p)
      (e.id :: (wordsOf (leBytes 12 (twPack e.tw)) ++ [e.epoch])), e.id) := by rw [State.txqRead, hrest]
  refine ⟨_, exec_txqIdRead hup hwarm hp, ?_⟩
  rw [hread, hrest]
  refine ⟨?_, State.sent_answer _ _ _ rfl, ?_, ?_⟩
  · rw [State.answer_frame]
    exact congrArg PtpPort.txq (s.pp_setPp_same _ hports)
  · rw [State.snapOf, (State.spiEnd_frame _ i).2]
    exact State.snapOf_setSnap ..
  · rw [State.answer_frame]
    rfl

end Read

/-! ### The statement -/

/-- Settles O6: each command leads to a state that says what changed, and a stamp packed into three registers unpacks to itself. -/
theorem ppsAndTransmitStamps : Obligations.PpsAndTransmitStamps := by
  intro s hshape
  refine ⟨fun hon hlow hreach => ⟨fun hactive => ?_, fun hclk hfree => ⟨s, ?_, rfl⟩⟩, fun hhigh hexp => ?_,
    fun hoff => ⟨s, exec_ppsInEdge_of_off hoff, rfl⟩, fun hon hsrc _ => ?_,
    fun i hup hwarm p hp => ⟨txqIdRead_of_empty hup hwarm hp, txqIdRead_of_head hup hwarm hp hshape⟩⟩
  · refine ⟨s.ppsSet true, ?_, s.ppsSet_sets true⟩
    rw [exec_ppsOutPulse_of_reached hon hlow hreach, if_pos (by simpa using hactive)]
  · rw [exec_ppsOutPulse_of_reached hon hlow hreach, hfree, decide_eq_false (by omega)]
    rfl
  · obtain ⟨hfall, -, hsent, hframe⟩ := s.ppsSet_sets false
    exact ⟨_, exec_ppsOutWidthEnd_of_expired hhigh hexp, hfall, hsent, hframe⟩
  · refine ⟨_, exec_ppsInEdge_of_free hon hsrc, ?_, ?_, s.regsKept_ppsStamped, s.ppsStamped_frame⟩
    · rw [State.rd96_ppsStamped, twUnpack_twPack, State.ppsStamp]
    · exact State.flag_raise _ rfl

end Sys2Proof.Machine
end

section
/-!
What the state decisions of the PTP engine leave alone (R90, R100). `State.clockView` collects it: the state with the register file
and what a decision may change of a port taken out, the state of the clock, STEPPED, and every register outside a list. Each
operation that the decisions use keeps the view, so that their folds over the ports keep it too.
-/
namespace Sys2Proof.Machine

/-! ### The view -/

/-- A port without what a state decision may change: its state, an exchange under way, whether its offset is valid. -/
def PtpPort.heard (x : PtpPort) : PtpPort := { x with st := .listening, lastSync := none, syncRx := none, ofsValid := false }

/-- The timebase unit without what a state decision may change: that of its ports, the slew limit of R100 and its cause. -/
def TbuSt.heard (t : TbuSt) : TbuSt := { t with ports := t.ports.map PtpPort.heard, slewAsym := false, lone := false }

/-- What a state decision leaves alone. -/
structure ClockView where
  rest : State
  state : Nat
  stepped : Bool
  words : Nat → Nat

/-- The view of a state with the registers outside a list. -/
def State.clockView (s : State) (offs : List Nat) : ClockView :=
  ⟨{ s with regs := [], tbu := s.tbu.heard }, s.clk, s.flag Reg.TBU_STAT_STEPPED, fun o => if o ∈ offs then 0 else s.rd o⟩

/-- The registers that a change of the port followed writes: FOLLOW, ASYM_UNCERTAIN and the increment. -/
def slewRegs : List Nat := [Reg.TBU_STAT, Reg.TBU_INC_0, Reg.TBU_INC_1]

/-- The registers that a state decision writes. -/
def clockRegs : List Nat := slewRegs ++ (List.range 4).map Reg.TBU_P_STAT

theorem slewRegs_subset : slewRegs ⊆ clockRegs := List.subset_append_left ..

/-- Their offsets. -/
theorem mem_clockRegs {o : Nat} :
    o ∈ clockRegs ↔ o = 0x20024 ∨ o = 0x2002c ∨ o = 0x20030 ∨ o = 0x20204 ∨ o = 0x20244 ∨ o = 0x20284 ∨
      o = 0x202c4 := by
  have hlist : clockRegs = [0x20024, 0x2002c, 0x20030, 0x20204, 0x20244, 0x20284, 0x202c4] := by decide
  simp [hlist]

/-- The status of a port is among them. -/
theorem ptpStat_mem_clockRegs {p : Nat} (hp : p < 4) : Reg.TBU_P_STAT p ∈ clockRegs := by
  simp only [mem_clockRegs, Reg.TBU_P_STAT]
  omega

/-- The status of a port is not that of the clock. -/
theorem ptpStat_ne (p : Nat) : Reg.TBU_P_STAT p ≠ Reg.TBU_STAT := by
  simp only [Reg.TBU_P_STAT, Reg.TBU_STAT]
  omega

section View
variable {s t : State} {offs : List Nat}

/-! ### What states of one view agree in -/

/-- States of one view differ in registers and the timebase unit alone. -/
theorem State.frame_of_clockView (h : t.clockView offs = s.clockView offs) : t = { s with regs := t.regs, tbu := t.tbu } :=
  congrArg (fun (v : ClockView) => { v.rest with regs := t.regs, tbu := t.tbu }) h

/-- States of one view agree in the timebase unit up to what a decision may change. -/
theorem State.heard_of_clockView (h : t.clockView offs = s.clockView offs) : t.tbu.heard = s.tbu.heard :=
  congrArg (fun v => v.rest.tbu) h

theorem State.clk_of_clockView (h : t.clockView offs = s.clockView offs) : t.clk = s.clk := congrArg ClockView.state h

theorem State.stepped_of_clockView (h : t.clockView offs = s.clockView offs) :
    t.flag Reg.TBU_STAT_STEPPED = s.flag Reg.TBU_STAT_STEPPED := congrArg ClockView.stepped h

theorem State.regsKept_of_clockView (h : t.clockView offs = s.clockView offs) : s.regsKept offs t := by
  intro o ho
  simpa only [State.clockView, ho, if_false] using congrFun (congrArg ClockView.words h) o

/-- States of one view have as many PTP ports. -/
theorem State.ports_length_of_clockView (h : t.clockView offs = s.clockView offs) :
    t.tbu.ports.length = s.tbu.ports.length := by
  simpa only [TbuSt.heard, List.length_map] using congrArg (fun x => x.ports.length) (State.heard_of_clockView h)

/-- A port in the view is the port up to what a decision may change. -/
theorem State.heard_pp (s : State) (p : Nat) : (s.pp p).heard = s.tbu.heard.ports.getD p ptpPortZero.heard := by
  simp only [State.pp, TbuSt.heard, List.getD_eq_getElem?_getD, List.getElem?_map]
  cases s.tbu.ports[p]? <;> rfl

/-- States of one view agree in each port up to what a decision may change. -/
theorem State.heard_pp_of_clockView (h : t.clockView offs = s.clockView offs) (p : Nat) : (t.pp p).heard = (s.pp p).heard := by
  rw [State.heard_pp, State.heard_pp, State.heard_of_clockView h]

/-- A longer list leaves out more. -/
theorem State.clockView_mono {more : List Nat} (hsub : offs ⊆ more) (h : t.clockView offs = s.clockView offs) :
    t.clockView more = s.clockView more := by
  have hkept := State.regsKept_of_clockView h
  have hwords : (fun o => if o ∈ more then 0 else t.rd o) = fun o => if o ∈ more then 0 else s.rd o := by
    funext o
    by_cases ho : o ∈ more
    · rw [if_pos ho, if_pos ho]
    · rw [if_neg ho, if_neg ho, hkept o fun hmem => ho (hsub hmem)]
  simp only [State.clockView, ClockView.mk.injEq] at h ⊢
  exact ⟨h.1, h.2.1, h.2.2.1, hwords⟩

/-! ### Operations that keep it -/

/-- A write of a listed register keeps the view when it spares the state of the clock and STEPPED. -/
theorem State.clockView_wr_of_spared (s : State) {o : Nat} (v : Nat) (hmem : o ∈ offs) (hclk : (s.wr o v).clk = s.clk)
    (hstep : (s.wr o v).flag Reg.TBU_STAT_STEPPED = s.flag Reg.TBU_STAT_STEPPED) :
    (s.wr o v).clockView offs = s.clockView offs := by
  have hwords : (fun x => if x ∈ offs then 0 else (s.wr o v).rd x) = fun x => if x ∈ offs then 0 else s.rd x := by
    funext x
    by_cases hx : x ∈ offs
    · rw [if_pos hx, if_pos hx]
    · rw [if_neg hx, if_neg hx, State.rd_wr_ne s v (ne_of_mem_of_not_mem hmem hx).symm]
  simp only [State.clockView, hclk, hstep, hwords]
  rfl

theorem State.clockView_wr (s : State) {o : Nat} (v : Nat) (hmem : o ∈ offs) (hne : o ≠ Reg.TBU_STAT) :
    (s.wr o v).clockView offs = s.clockView offs := by
  have hrd : (s.wr o v).rd Reg.TBU_STAT = s.rd Reg.TBU_STAT := State.rd_wr_ne _ _ hne.symm
  refine s.clockView_wr_of_spared v hmem ?_ ?_
  · unfold State.clk State.getF; rw [hrd]
  · unfold State.flag State.getF; rw [hrd]

theorem State.clockView_setF (s : State) {f : Fld} (v : Nat) (hmem : f.off ∈ offs) (hne : f.off ≠ Reg.TBU_STAT) :
    (s.setF f v).clockView offs = s.clockView offs :=
  s.clockView_wr _ hmem hne

/-- A field beside STATE and STEPPED spares them. -/
theorem State.clockView_setF_beside (s : State) {f : Fld} (v : Nat) (hmem : f.off ∈ offs) (hf : f.ok = true) (hlo : 1 < f.lo)
    (hstep : f.hi < 6 ∨ 6 < f.lo) : (s.setF f v).clockView offs = s.clockView offs := by
  refine s.clockView_wr_of_spared _ hmem ?_ ?_
  · exact s.getF_setF_beside v hf (g := Reg.TBU_STAT_STATE) rfl (.inl hlo)
  · exact congrArg (· != 0) (s.getF_setF_beside v hf (g := Reg.TBU_STAT_STEPPED) rfl hstep.symm)

theorem State.clockView_setTbu (s : State) {f : TbuSt → TbuSt} (h : (f s.tbu).heard = s.tbu.heard) :
    (s.setTbu f).clockView offs = s.clockView offs := by
  have hrest : ({ s.setTbu f with regs := [], tbu := (s.setTbu f).tbu.heard } : State) =
      { s with regs := [], tbu := s.tbu.heard } := congrArg (fun x => ({ s with regs := [], tbu := x } : State)) h
  rw [State.clockView, hrest]
  rfl

/-- A change of an entry that a projection does not see leaves the projections of the list as they are. -/
theorem map_upd_of_unseen {α β : Type} {g : α → β} {f : α → α} (l : List α) (i : Nat) (h : ∀ x, g (f x) = g x) :
    (upd l i f).map g = l.map g := by
  refine List.ext_getElem? fun k => ?_
  rw [List.getElem?_map, List.getElem?_map, upd, List.getElem?_modify]
  split
  · cases l[k]? <;> simp [h]
  · simp

theorem State.clockView_setPp (s : State) (p : Nat) {f : PtpPort → PtpPort} (h : ∀ x, (f x).heard = x.heard) :
    (s.setPp p f).clockView offs = s.clockView offs :=
  s.clockView_setTbu (by simp only [TbuSt.heard, map_upd_of_unseen _ _ h])

/-! ### The port followed (R100, R102) -/

theorem State.clockView_incShow (s : State) : s.incShow.clockView slewRegs = s.clockView slewRegs := by
  rw [State.incShow, State.clockView_wr _ _ (by decide) (by decide), State.clockView_wr _ _ (by decide) (by decide)]

theorem State.clockView_setSlew (s : State) (on : Bool) : (s.setSlew on).clockView slewRegs = s.clockView slewRegs := by
  have hset : (s.setTbu fun t => { t with slewAsym := on }).clockView slewRegs = s.clockView slewRegs :=
    s.clockView_setTbu rfl
  rw [State.setSlew, State.limitMoved]
  split
  · exact hset
  · rw [State.clockView_incShow, hset]

theorem State.clockView_setAsym (s : State) (on : Bool) : (s.setAsym on).clockView slewRegs = s.clockView slewRegs := by
  rw [State.setAsym, State.clockView_setSlew]
  exact s.clockView_setF_beside _ (by decide) rfl (by decide) (by decide)

theorem State.clockView_setFollow (s : State) (p : Nat) :
    (s.setF Reg.TBU_STAT_FOLLOW p).clockView slewRegs = s.clockView slewRegs :=
  s.clockView_setF_beside _ (by decide) rfl (by decide) (by decide)

/-- Choosing the port to follow writes FOLLOW, and ASYM_UNCERTAIN with its slew limit. -/
theorem State.clockView_follow (s : State) : s.follow.clockView slewRegs = s.clockView slewRegs := by
  unfold State.follow
  extract_lets vs ok pref lone chosen t
  have hchosen : chosen.clockView slewRegs = s.clockView slewRegs := by
    clear_value ok vs
    unfold chosen
    rcases ok with - | ⟨p, rest⟩
    · rcases vs with - | ⟨p, rest⟩
      · rfl
      · dsimp only
        split
        · rfl
        · exact s.clockView_setFollow _
    · exact s.clockView_setFollow _
  have ht : t.clockView slewRegs = s.clockView slewRegs := (chosen.clockView_setTbu rfl).trans hchosen
  split
  · rw [State.clockView_setAsym, ht]
  · exact ht

end View

/-! ### The state decisions (R90, R99) -/

/-- A port leaves the state of a follower, or passes between the others. -/
def State.unslave (s : State) (p : Nat) (st : PtpState) : State := (s.setPtpSt p st).setPp p fun x => { x with ofsValid := false }

/-- The decision of a port: it stays, takes another state, or follows its master, from MASTER by way of LISTENING. -/
theorem State.bmcaPort_cases (s : State) (p : Nat) :
    s.bmcaPort p = s ∨ (∃ st, s.bmcaPort p = s.unslave p st) ∨ s.bmcaPort p = s.startSlave p ∨
      s.bmcaPort p = (s.unslave p .listening).startSlave p := by
  unfold State.bmcaPort
  dsimp only
  split
  · split
    · split
      · exact .inr (.inr (.inr rfl))
      · exact .inr (.inr (.inl rfl))
    split
    · split <;> exact .inr (.inl ⟨_, rfl⟩)
    split
    · exact .inr (.inl ⟨_, rfl⟩)
    split
    · exact .inr (.inr (.inl rfl))
    · exact .inr (.inl ⟨_, rfl⟩)
  · split
    · exact .inl rfl
    · split <;> exact .inr (.inl ⟨_, rfl⟩)
  · exact .inl rfl

/-- A property that a change of state of the port and the start of following keep is kept by its decision. -/
theorem State.bmcaPort_keeps {γ : Type} (view : State → γ) {p : Nat} (hleave : ∀ s st, view (s.unslave p st) = view s)
    (hstart : ∀ s, view (s.startSlave p) = view s) (s : State) : view (s.bmcaPort p) = view s := by
  obtain h | ⟨st, h⟩ | h | h := s.bmcaPort_cases p
  · rw [h]
  · rw [h, hleave]
  · rw [h, hstart]
  · rw [h, hstart, hleave]

section Port
variable {p : Nat} (hp : p < 4)
include hp

theorem State.clockView_setPtpSt (s : State) (st : PtpState) : (s.setPtpSt p st).clockView clockRegs = s.clockView clockRegs := by
  rw [State.setPtpSt, State.setB, State.clockView_setF _ _ (ptpStat_mem_clockRegs hp) (ptpStat_ne p)]
  exact s.clockView_setPp p fun _ => rfl

theorem State.clockView_unslave (s : State) (st : PtpState) : (s.unslave p st).clockView clockRegs = s.clockView clockRegs := by
  rw [State.unslave, State.clockView_setPp, State.clockView_setPtpSt hp]
  exact fun _ => rfl

theorem State.clockView_startSlave (s : State) : (s.startSlave p).clockView clockRegs = s.clockView clockRegs := by
  unfold State.startSlave
  split
  · rfl
  · dsimp only
    rw [State.clockView_setPp, State.clockView_setPtpSt hp]
    exact fun _ => rfl

theorem State.clockView_bmcaPort (s : State) : (s.bmcaPort p).clockView clockRegs = s.clockView clockRegs :=
  State.bmcaPort_keeps (State.clockView · clockRegs) (State.clockView_unslave hp) (State.clockView_startSlave hp) s

end Port

/-- The decision of a port that carries PTP. -/
def State.bmcaStep (s : State) (p : Nat) : State := if s.ptpPort p then s.bmcaPort p else s

theorem State.bmca_eq (s : State) : s.bmca = ((List.range 4).foldl State.bmcaStep s).follow := (rfl)

theorem State.clockView_bmcaStep (s : State) {p : Nat} (hp : p < 4) :
    (s.bmcaStep p).clockView clockRegs = s.clockView clockRegs := by
  unfold State.bmcaStep
  split
  · exact State.clockView_bmcaPort hp s
  · rfl

/-- The state decisions write no register outside the list, and spare the state of the clock and STEPPED. -/
theorem State.clockView_bmca (s : State) : s.bmca.clockView clockRegs = s.clockView clockRegs := by
  rw [State.bmca_eq, State.clockView_mono slewRegs_subset (State.clockView_follow _)]
  exact foldl_keeps (State.clockView · clockRegs) _ _ _ fun s _ hp => s.clockView_bmcaStep (List.mem_range.1 hp)

end Sys2Proof.Machine
end

section
/-!
The timeouts of the PTP ports and of the clock: Announce receipt, path stability, entry to HOLDOVER (R86, R90, R93, R100, R101).
-/
namespace Sys2Proof.Machine

/-! ### Ports and registers -/

/-- A change of a port that a projection does not see leaves the projection of every port as it is. -/
theorem State.pp_setPp_of_unseen {β : Type} (s : State) (p q : Nat) {g : PtpPort → β} {f : PtpPort → PtpPort}
    (h : ∀ x, g (f x) = g x) : g ((s.setPp p f).pp q) = g (s.pp q) := by
  simp only [State.pp, State.setPp, State.setTbu, upd, List.getD_eq_getElem?_getD, List.getElem?_modify]
  split
  · cases s.tbu.ports[q]? <;> simp [h]
  · simp

/-- A change of a port leaves the others alone. -/
theorem State.pp_setPp_ne (s : State) {p q : Nat} (f : PtpPort → PtpPort) (h : q ≠ p) : (s.setPp p f).pp q = s.pp q := by
  simp [State.pp, State.setPp, State.setTbu, upd, h.symm]

theorem State.setPp_tm (s : State) (p : Nat) (f : PtpPort → PtpPort) : (s.setPp p f).tm = s.tm := (rfl)

theorem State.length_setPp (s : State) (p : Nat) (f : PtpPort → PtpPort) :
    (s.setPp p f).tbu.ports.length = s.tbu.ports.length := by
  simp [State.setPp, State.setTbu, upd]

/-- Which ports carry PTP is not kept with them. -/
theorem State.ptpPort_setPp (s : State) (p : Nat) (f : PtpPort → PtpPort) (q : Nat) : (s.setPp p f).ptpPort q = s.ptpPort q := (rfl)

/-- A write of a field leaves the ports alone. -/
theorem State.pp_setF (s : State) (f : Fld) (v p : Nat) : (s.setF f v).pp p = s.pp p := by
  rw [State.pp, State.setF_tbu, State.pp]

/-- Which ports carry PTP hangs on the units that are READY and on registers that no state decision writes (R88). -/
theorem State.ptpPort_congr {s t : State} (hpwr : t.pwr = s.pwr) (hkept : s.regsKept clockRegs t) (p : Nat) :
    t.ptpPort p = s.ptpPort p := by
  have hon (id : Nat) : t.on id = s.on id := by unfold State.on State.partSt State.part; rw [hpwr]
  have hctl : t.rd Reg.TBU_PTP_CTL = s.rd Reg.TBU_PTP_CTL := hkept _ (by decide)
  have hcfg : t.rd (Reg.ETH_P_CFG p) = s.rd (Reg.ETH_P_CFG p) :=
    hkept _ (by simp only [mem_clockRegs, Reg.ETH_P_CFG]; omega)
  have hstat : t.rd (Reg.ETH_P_STAT p) = s.rd (Reg.ETH_P_STAT p) :=
    hkept _ (by simp only [mem_clockRegs, Reg.ETH_P_STAT]; omega)
  unfold State.ptpPort State.lanPort State.linkUp State.flag State.getF
  rw [hon, hon, hctl, hcfg, hstat]

theorem State.pwr_of_clockView {s t : State} {offs : List Nat} (h : t.clockView offs = s.clockView offs) : t.pwr = s.pwr :=
  congrArg (fun v => v.rest.pwr) h

theorem State.ptpPort_of_clockView {s t : State} (h : t.clockView clockRegs = s.clockView clockRegs) (p : Nat) :
    t.ptpPort p = s.ptpPort p :=
  State.ptpPort_congr (State.pwr_of_clockView h) (State.regsKept_of_clockView h) p

/-- Ports alike up to what a decision may change have heard one Announce, of one sender, and had their path shift at one instant. -/
theorem PtpPort.fields_of_heard {x y : PtpPort} (h : x.heard = y.heard) :
    x.best = y.best ∧ x.sender = y.sender ∧ x.shiftAt = y.shiftAt := by
  simp only [PtpPort.heard, PtpPort.mk.injEq] at h
  tauto

theorem TbuSt.hoEntry_of_heard {x y : TbuSt} (h : x.heard = y.heard) : x.hoEntry = y.hoEntry := by
  simp only [TbuSt.heard, TbuSt.mk.injEq] at h
  tauto

/-- A field reads as before when its register does. -/
theorem State.getF_congr {s t : State} {f : Fld} (h : t.rd f.off = s.rd f.off) : t.getF f = s.getF f := by
  rw [State.getF, State.getF, h]

theorem State.flag_congr {s t : State} {f : Fld} (h : t.rd f.off = s.rd f.off) : t.flag f = s.flag f := by
  rw [State.flag, State.flag, State.getF_congr h]

/-! ### Announce receipt (R90) -/

/-- What a port has heard is forgotten; a LISTENING one passes to the decision as PASSIVE. -/
def State.masterLost (s : State) (p : Nat) : State :=
  let lost := s.setPp p fun x => { x with best := none, sender := 0, syncRx := none, lastSync := none, bestAt := s.tm.runt }
  if (s.pp p).st = .listening then lost.setPtpSt p .passive else lost

/-- ANNOUNCE_RECEIPT_TIMEOUT when it has expired and no Announce comes. -/
theorem exec_announceReceiptTimeout_of_due {s : State} {p : Nat} (hp : p < 4) (hport : s.ptpPort p = true)
    (hawait : (s.pp p).best.isSome = true ∨ (s.pp p).st = .listening) (hcome : s.announceComes p = false)
    (hdue : (s.pp p).bestAt + s.getF Reg.TBU_PTP_INTV_ANN_TMO * s.ptpPer .announce ≤ s.tm.runt) :
    exec (.announceReceiptTimeout p) s = .next (s.masterLost p).bmca := by
  have hawait' : ((s.pp p).best.isSome || (s.pp p).st == .listening) = true := by simpa using hawait
  simp only [State.ptpPer] at hdue
  change execAnnounceReceiptTimeout p s = _
  simp only [execAnnounceReceiptTimeout, State.only, hp, hport, hcome, hawait', hdue, decide_true, Bool.not_false,
    Bool.and_true, if_true]
  rfl

/-- Without an Announce a port leaves the followers, if it is one. -/
theorem State.bmcaPort_of_none {s : State} {p : Nat} (h : (s.pp p).best = none) :
    s.bmcaPort p = s ∧ (s.pp p).st = .listening ∨ ∃ st, s.bmcaPort p = s.unslave p st ∧ st ∈ [.listening, .master] := by
  have hcand : s.candOf p = none := by rw [State.candOf, h]; rfl
  unfold State.bmcaPort
  rw [hcand]
  dsimp only
  split
  next hst => exact .inl ⟨rfl, hst⟩
  · split <;> exact .inr ⟨_, rfl, by decide⟩

/-- The state a port takes is the one it is given. -/
theorem State.st_unslave {s : State} {p : Nat} (st : PtpState) (h : p < s.tbu.ports.length) : ((s.unslave p st).pp p).st = st := by
  have hseen : ((s.unslave p st).pp p).st = ((s.setPtpSt p st).pp p).st := State.pp_setPp_of_unseen _ p p fun _ => rfl
  rw [hseen, State.setPtpSt, State.setB, State.pp_setF, State.pp_setPp_same _ _ h]

/-- A port that has heard no Announce follows no master after its decision. -/
theorem State.not_slaved_of_none {s : State} {p : Nat} (h : (s.pp p).best = none) (hlen : p < s.tbu.ports.length) :
    ((s.bmcaPort p).pp p).slaved = false := by
  obtain ⟨hsame, hst⟩ | ⟨st, hleave, hst⟩ := State.bmcaPort_of_none h
  · rw [hsame, PtpPort.slaved, hst]
    rfl
  · rw [hleave, PtpPort.slaved, State.st_unslave st hlen]
    simp only [List.mem_cons, List.not_mem_nil, or_false] at hst
    obtain rfl | rfl := hst <;> rfl

/-- The decision of a port leaves the other ports alone. -/
theorem State.pp_bmcaPort_ne (s : State) {p q : Nat} (h : p ≠ q) : (s.bmcaPort q).pp p = s.pp p := by
  have hset (u : State) (st : PtpState) : (u.setPtpSt q st).pp p = u.pp p := by
    rw [State.setPtpSt, State.setB, State.pp_setF, State.pp_setPp_ne _ _ h]
  refine State.bmcaPort_keeps (State.pp · p) (fun u st => ?_) (fun u => ?_) s
  · rw [State.unslave, State.pp_setPp_ne _ _ h, hset]
  · unfold State.startSlave
    split
    · rfl
    · dsimp only
      rw [State.pp_setPp_ne _ _ h, hset]

theorem State.tbu_incShow (s : State) : s.incShow.tbu = s.tbu := by rw [State.incShow, State.wr_tbu, State.wr_tbu]

/-- ASYM_UNCERTAIN and its slew limit leave the ports alone. -/
theorem State.ports_setAsym (s : State) (on : Bool) : (s.setAsym on).tbu.ports = s.tbu.ports := by
  rw [State.setAsym, State.setSlew, State.limitMoved]
  split
  · rfl
  · rw [State.tbu_incShow]
    rfl

/-- Choosing the port to follow leaves the ports alone. -/
theorem State.ports_follow (s : State) : s.follow.tbu.ports = s.tbu.ports := by
  unfold State.follow
  extract_lets vs ok pref lone chosen t
  have hchosen : chosen.tbu = s.tbu := by
    clear_value ok vs
    unfold chosen
    rcases ok with - | ⟨p, rest⟩
    · rcases vs with - | ⟨p, rest⟩
      · rfl
      · dsimp only
        split
        · rfl
        · exact State.setF_tbu ..
    · exact State.setF_tbu ..
  have ht : t.tbu.ports = s.tbu.ports := by
    rw [← hchosen]
    rfl
  split
  · rw [State.ports_setAsym, ht]
  · exact ht

theorem State.pp_follow (s : State) (p : Nat) : s.follow.pp p = s.pp p := by rw [State.pp, State.ports_follow, State.pp]

/-- What the decision of one port must leave to another: the port, and what decides which ports carry PTP. -/
def State.portView (p : Nat) (s : State) : PtpPort × ClockView := (s.pp p, s.clockView clockRegs)

theorem State.portView_bmcaStep_ne (s : State) {p q : Nat} (hq : q < 4) (h : p ≠ q) :
    (s.bmcaStep q).portView p = s.portView p := by
  have hpp : (s.bmcaStep q).pp p = s.pp p := by
    unfold State.bmcaStep
    split
    · exact s.pp_bmcaPort_ne h
    · rfl
  rw [State.portView, hpp, s.clockView_bmcaStep hq, State.portView]

/-- A port that carries PTP and has heard no Announce follows no master after the state decisions. -/
theorem State.not_slaved_bmca {s : State} {p : Nat} (hp : p < 4) (hport : s.ptpPort p = true) (h : (s.pp p).best = none)
    (hlen : p < s.tbu.ports.length) : (s.bmca.pp p).slaved = false := by
  have hself (u : State) (hu : u.portView p = s.portView p) : ((u.bmcaStep p).portView p).1.slaved = false := by
    obtain ⟨hpp, hview⟩ := Prod.mk.inj hu
    rw [State.bmcaStep, State.ptpPort_of_clockView hview, if_pos hport]
    exact State.not_slaved_of_none (by rw [hpp, h]) (by rw [State.ports_length_of_clockView hview]; exact hlen)
  have hfold : (((List.range 4).foldl State.bmcaStep s).portView p).1.slaved = false :=
    foldl_reaches (State.portView p) State.bmcaStep (fun v => v.1.slaved = false) s (List.mem_range.2 hp) List.nodup_range
      (fun u q hq hne => u.portView_bmcaStep_ne (List.mem_range.1 hq) hne.symm) hself
  rw [State.bmca_eq]
  generalize (List.range 4).foldl State.bmcaStep s = u at hfold ⊢
  rw [State.pp_follow]
  exact hfold

/-- The lost master's Announce and identity are gone; registers and the timebase unit alone have changed. -/
theorem State.masterLost_forgets {s : State} {p : Nat} (hlen : p < s.tbu.ports.length) :
    ((s.masterLost p).pp p).best = none ∧ ((s.masterLost p).pp p).sender = 0 ∧
      (s.masterLost p).tbu.ports.length = s.tbu.ports.length ∧
      s.masterLost p = { s with regs := (s.masterLost p).regs, tbu := (s.masterLost p).tbu } := by
  have hlost := s.pp_setPp_same (fun x =>
    { x with best := none, sender := 0, syncRx := none, lastSync := none, bestAt := s.tm.runt }) hlen
  unfold State.masterLost
  extract_lets lost
  split
  · have hseen : ((lost.setPtpSt p .passive).pp p).heard = (lost.pp p).heard := by
      rw [State.setPtpSt, State.setB, State.pp_setF]
      exact State.pp_setPp_of_unseen _ p p fun _ => rfl
    obtain ⟨hbest, hsender, -⟩ := PtpPort.fields_of_heard hseen
    refine ⟨?_, ?_, ?_, rfl⟩
    · rw [hbest, hlost]
    · rw [hsender, hlost]
    · rw [State.setPtpSt, State.setB, State.setF_tbu, State.length_setPp, State.length_setPp]
  · exact ⟨by rw [hlost], by rw [hlost], s.length_setPp .., rfl⟩

/-- Losing its master leaves a port's part in PTP as it is. -/
theorem State.ptpPort_masterLost {s : State} {p : Nat} (hp : p < 4) (q : Nat) : (s.masterLost p).ptpPort q = s.ptpPort q := by
  unfold State.masterLost
  extract_lets lost
  split
  · exact State.ptpPort_of_clockView (lost.clockView_setPtpSt hp _) q
  · rfl

/-- The Announce receipt timeout forgets the port master (R90). -/
theorem announceReceiptTimeout_forgets {s : State} {p : Nat} (hshape : s.shaped = true) (hp : p < 4) (hport : s.ptpPort p = true)
    (hawait : (s.pp p).best.isSome = true ∨ (s.pp p).st = .listening) (hcome : s.announceComes p = false)
    (hdue : (s.pp p).bestAt + s.getF Reg.TBU_PTP_INTV_ANN_TMO * s.ptpPer .announce ≤ s.tm.runt) :
    ∃ t, exec (.announceReceiptTimeout p) s = .next t ∧ (t.pp p).best = none ∧ (t.pp p).sender = 0 ∧
      (t.pp p).slaved = false ∧ t = { s with regs := t.regs, tbu := t.tbu } := by
  have hlen : p < s.tbu.ports.length := by rw [s.ports_length_of_shaped hshape]; exact hp
  obtain ⟨hbest, hsender, hcount, hframe⟩ := State.masterLost_forgets hlen
  have hview := (s.masterLost p).clockView_bmca
  obtain ⟨hbest', hsender', -⟩ := PtpPort.fields_of_heard (State.heard_pp_of_clockView hview p)
  refine ⟨_, exec_announceReceiptTimeout_of_due hp hport hawait hcome hdue, ?_, ?_, ?_, ?_⟩
  · exact hbest'.trans hbest
  · exact hsender'.trans hsender
  · exact State.not_slaved_bmca hp ((State.ptpPort_masterLost hp p).trans hport) hbest (hcount ▸ hlen)
  · rw [State.frame_of_clockView hview, hframe]

/-! ### Stable paths (R99–R101) -/

/-- The status of a port is not among the registers of the port followed. -/
theorem ptpStat_notMem_slewRegs (p : Nat) : Reg.TBU_P_STAT p ∉ slewRegs := by
  simp only [slewRegs, Reg.TBU_P_STAT, Reg.TBU_STAT, Reg.TBU_INC_0, Reg.TBU_INC_1, List.mem_cons, List.not_mem_nil, or_false]
  omega

/-- The first part of PATH_STABLE_TIMEOUT: PATH_SHIFT clears T ns after the shift of a port that is not SUSPECT. -/
def State.shiftEnded (s : State) (p T : Nat) : State :=
  match (s.pp p).shiftAt with
  | some a =>
    if s.expired a T && !s.flag (Reg.TBU_P_STAT_SUSPECT p) then
      (s.setF (Reg.TBU_P_STAT_PATH_SHIFT p) 0).setPp p fun x => { x with shiftAt := none, single := false }
    else s
  | none => s

/-- The second part: SUSPECT clears T ns after the last divergence, while two paths are compared. -/
def State.suspectEnded (s : State) (p T badAt : Nat) : State :=
  if s.flag (Reg.TBU_P_STAT_SUSPECT p) && (s.pathOf p).isSome && s.expired badAt T then s.setF (Reg.TBU_P_STAT_SUSPECT p) 0 else s

/-- The third part: ASYM_UNCERTAIN clears T ns after the last change of the path delay of the port followed. -/
def State.asymEnded (s : State) (p T badAt : Nat) : State :=
  if s.getF Reg.TBU_STAT_FOLLOW = p ∧ s.flag Reg.TBU_STAT_ASYM_UNCERTAIN ∧ s.expired badAt T then s.setAsym false else s

/-- PATH_STABLE_TIMEOUT is its three parts in order and the choice of the port to follow. -/
theorem exec_pathStableTimeout {s : State} {p : Nat} (hp : p < 4) :
    exec (.pathStableTimeout p) s = .next (((s.shiftEnded p s.stableNs).suspectEnded p s.stableNs (s.pp p).divBadAt).asymEnded p
      s.stableNs (s.pp p).mpdBadAt).follow := by
  change execPathStableTimeout p s = _
  simp only [execPathStableTimeout, State.only, hp, decide_true, if_true]
  rfl

/-- The other path of a port hangs on which ports carry PTP, their states, offsets and grandmasters (R99). -/
theorem State.pathOf_congr {s t : State} (hport : ∀ q, t.ptpPort q = s.ptpPort q)
    (hpp : ∀ q, (t.pp q).best = (s.pp q).best ∧ (t.pp q).st = (s.pp q).st ∧ (t.pp q).ofsValid = (s.pp q).ofsValid) (p : Nat) :
    t.pathOf p = s.pathOf p := by
  have hvalid (q : Nat) : t.ptpValid q = s.ptpValid q := by
    obtain ⟨-, hst, hofs⟩ := hpp q
    rw [State.ptpValid, State.ptpValid, PtpPort.slaved, PtpPort.slaved, hport, hst, hofs]
  have hbest (q : Nat) : (t.pp q).best = (s.pp q).best := (hpp q).1
  simp only [State.pathOf, hvalid, hbest]

/-- A change of a port that spares these keeps the other path. -/
theorem State.pathOf_setPp (s : State) (p q : Nat) {f : PtpPort → PtpPort}
    (h : ∀ x, ((f x).best, (f x).st, (f x).ofsValid) = (x.best, x.st, x.ofsValid)) : (s.setPp q f).pathOf p = s.pathOf p := by
  refine State.pathOf_congr (s.ptpPort_setPp q f) (fun r => ?_) p
  simpa only [Prod.mk.injEq] using s.pp_setPp_of_unseen q r (g := fun x => (x.best, x.st, x.ofsValid)) h

/-- A write of the status of a port keeps the other path. -/
theorem State.pathOf_setF (s : State) {f : Fld} (v p : Nat) (h : f.off ∈ clockRegs) : (s.setF f v).pathOf p = s.pathOf p := by
  have hkept : s.regsKept clockRegs (s.setF f v) := fun o ho => State.rd_setF_ne _ _ _ fun heq => ho (heq ▸ h)
  refine State.pathOf_congr (State.ptpPort_congr (State.setF_pwr ..) hkept) (fun q => ?_) p
  rw [State.pp_setF]
  exact ⟨rfl, rfl, rfl⟩

section Stable
variable (s : State) {p : Nat} (T badAt : Nat)

/-- The first part writes PATH_SHIFT of the port and when it began, and so keeps SUSPECT and the paths. -/
theorem State.shiftEnded_keeps (hp : p < 4) :
    (s.shiftEnded p T).flag (Reg.TBU_P_STAT_SUSPECT p) = s.flag (Reg.TBU_P_STAT_SUSPECT p) ∧
      (s.shiftEnded p T).pathOf p = s.pathOf p ∧ (s.shiftEnded p T).tm = s.tm ∧
      s.regsKept [Reg.TBU_P_STAT p] (s.shiftEnded p T) ∧
      s.shiftEnded p T = { s with regs := (s.shiftEnded p T).regs, tbu := (s.shiftEnded p T).tbu } := by
  unfold State.shiftEnded
  split
  · split
    · have hkept : s.regsKept [Reg.TBU_P_STAT p] (s.setF (Reg.TBU_P_STAT_PATH_SHIFT p) 0) := fun o ho =>
        State.rd_setF_ne _ _ _ (by simpa using ho)
      refine ⟨?_, ?_, by rw [State.setPp_tm, State.setF_tm], hkept, rfl⟩
      · exact congrArg (· != 0) (s.getF_setF_beside 0 rfl rfl (.inr (show 1 < 2 by decide)))
      · rw [State.pathOf_setPp, State.pathOf_setF _ _ _ (ptpStat_mem_clockRegs hp)]
        exact fun _ => rfl
    · exact ⟨rfl, rfl, rfl, fun _ _ => rfl, rfl⟩
  · exact ⟨rfl, rfl, rfl, fun _ _ => rfl, rfl⟩

/-- T ns after the shift of a port that is not SUSPECT, PATH_SHIFT is clear. -/
theorem State.shiftEnded_clears {s : State} {T a : Nat} (hlen : p < s.tbu.ports.length) (hat : (s.pp p).shiftAt = some a)
    (hexp : s.expired a T = true) (hfree : s.flag (Reg.TBU_P_STAT_SUSPECT p) = false) :
    (s.shiftEnded p T).flag (Reg.TBU_P_STAT_PATH_SHIFT p) = false ∧ ((s.shiftEnded p T).pp p).shiftAt = none := by
  have hended : s.shiftEnded p T =
      (s.setF (Reg.TBU_P_STAT_PATH_SHIFT p) 0).setPp p fun x => { x with shiftAt := none, single := false } := by
    rw [State.shiftEnded, hat]
    exact if_pos (by rw [hexp, hfree]; rfl)
  rw [hended]
  refine ⟨State.flag_setF_zero s _ rfl, ?_⟩
  rw [State.pp_setPp_same _ _ (by rwa [State.setF_tbu])]

/-- The second part: SUSPECT stays unless two paths are compared and T ns have passed. -/
theorem State.flag_suspectEnded :
    (s.suspectEnded p T badAt).flag (Reg.TBU_P_STAT_SUSPECT p) =
      (s.flag (Reg.TBU_P_STAT_SUSPECT p) && !((s.pathOf p).isSome && s.expired badAt T)) := by
  unfold State.suspectEnded
  split
  next h =>
    simp only [Bool.and_eq_true] at h
    obtain ⟨⟨-, hpath⟩, hexp⟩ := h
    rw [State.flag_setF_zero _ _ rfl, hpath, hexp, Bool.and_self, Bool.not_true, Bool.and_false]
  next h =>
    rw [Bool.and_assoc, Bool.not_eq_true] at h
    cases hs : s.flag (Reg.TBU_P_STAT_SUSPECT p) with
    | false => rfl
    | true => rw [hs, Bool.true_and] at h; rw [h]; rfl

/-- The second part writes SUSPECT alone. -/
theorem State.suspectEnded_keeps :
    (s.suspectEnded p T badAt).flag (Reg.TBU_P_STAT_PATH_SHIFT p) = s.flag (Reg.TBU_P_STAT_PATH_SHIFT p) ∧
      (s.suspectEnded p T badAt).tbu = s.tbu ∧ s.regsKept [Reg.TBU_P_STAT p] (s.suspectEnded p T badAt) ∧
      s.suspectEnded p T badAt = { s with regs := (s.suspectEnded p T badAt).regs } := by
  unfold State.suspectEnded
  split
  · refine ⟨?_, State.setF_tbu .., fun o ho => State.rd_setF_ne _ _ _ (by simpa using ho), State.setF_frame ..⟩
    exact congrArg (· != 0) (s.getF_setF_beside 0 rfl rfl (.inl (show 1 < 2 by decide)))
  · exact ⟨rfl, rfl, fun _ _ => rfl, rfl⟩

/-- The third part and the choice of the port to follow keep the view. -/
theorem State.clockView_asymEnded_follow : (s.asymEnded p T badAt).follow.clockView slewRegs = s.clockView slewRegs := by
  rw [State.clockView_follow, State.asymEnded]
  split
  · exact s.clockView_setAsym false
  · rfl

end Stable

/-- The stability timeout of a port: PATH_SHIFT and SUSPECT (R100, R101). -/
theorem pathStableTimeout_clears {s : State} {p : Nat} (hshape : s.shaped = true) (hp : p < 4) :
    ∃ t, exec (.pathStableTimeout p) s = .next t ∧
      (∀ a, (s.pp p).shiftAt = some a → s.expired a s.stableNs = true → s.flag (Reg.TBU_P_STAT_SUSPECT p) = false →
        t.flag (Reg.TBU_P_STAT_PATH_SHIFT p) = false ∧ (t.pp p).shiftAt = none) ∧
      t.flag (Reg.TBU_P_STAT_SUSPECT p) = (s.flag (Reg.TBU_P_STAT_SUSPECT p) &&
        !((s.pathOf p).isSome && s.expired (s.pp p).divBadAt s.stableNs)) ∧
      s.regsKept [Reg.TBU_STAT, Reg.TBU_INC_0, Reg.TBU_INC_1, Reg.TBU_P_STAT p] t ∧
      t = { s with regs := t.regs, tbu := t.tbu } := by
  have hlen : p < s.tbu.ports.length := by rw [s.ports_length_of_shaped hshape]; exact hp
  obtain ⟨hsus₁, hpath₁, htm₁, hregs₁, hframe₁⟩ := s.shiftEnded_keeps s.stableNs hp
  refine ⟨_, exec_pathStableTimeout hp, ?_⟩
  generalize hu : s.shiftEnded p s.stableNs = u at hsus₁ hpath₁ htm₁ hregs₁ hframe₁
  obtain ⟨hshift₂, htbu₂, hregs₂, hframe₂⟩ := u.suspectEnded_keeps s.stableNs (s.pp p).divBadAt (p := p)
  have hsus₂ := u.flag_suspectEnded s.stableNs (s.pp p).divBadAt (p := p)
  generalize u.suspectEnded p s.stableNs (s.pp p).divBadAt = w at hshift₂ htbu₂ hregs₂ hframe₂ hsus₂
  have hview := w.clockView_asymEnded_follow (p := p) s.stableNs (s.pp p).mpdBadAt
  generalize (w.asymEnded p s.stableNs (s.pp p).mpdBadAt).follow = t at hview
  have hregs₃ := State.regsKept_of_clockView hview
  have hstat : t.rd (Reg.TBU_P_STAT p) = w.rd (Reg.TBU_P_STAT p) :=
    hregs₃ _ (ptpStat_notMem_slewRegs p)
  refine ⟨fun a hat hexp hfree => ?_, ?_, fun o ho => ?_, ?_⟩
  · obtain ⟨hclear, hnone⟩ := State.shiftEnded_clears hlen hat hexp hfree
    rw [hu] at hclear hnone
    obtain ⟨-, -, hat₃⟩ := PtpPort.fields_of_heard (State.heard_pp_of_clockView hview p)
    refine ⟨(State.flag_congr hstat).trans (hshift₂.trans hclear), hat₃.trans ?_⟩
    rw [State.pp, htbu₂]
    exact hnone
  · have hexp : u.expired (s.pp p).divBadAt s.stableNs = s.expired (s.pp p).divBadAt s.stableNs := by
      unfold State.expired; rw [htm₁]
    rw [State.flag_congr hstat, hsus₂, hsus₁, hpath₁, hexp]
  · simp only [List.mem_cons, List.not_mem_nil, or_false, not_or] at ho
    obtain ⟨ho₀, ho₁, ho₂, hop⟩ := ho
    rw [hregs₃ o (by simp [slewRegs, ho₀, ho₁, ho₂]), hregs₂ o (by simpa using hop), hregs₁ o (by simpa using hop)]
  · rw [State.frame_of_clockView hview, hframe₂, hframe₁]

/-! ### Entry to HOLDOVER (R86, R93) -/

/-- The clock as it enters HOLDOVER: the increment goes on at the filtered rate (R93), and is not shown yet. -/
def State.heldRate (s : State) : State :=
  { s with tm := { s.tm with inc := s.tbu.rate }, tbu := { s.tbu with hoEntry := s.tm.runt, e0 := s.tbu.ofs.natAbs, meas := [] } }

theorem State.holdover_eq (s : State) :
    s.holdover = ((s.heldRate.incShow.setF Reg.TBU_STAT_STATE clkHold).bmca).irq .tbu 1 := (rfl)

/-- HOLDOVER_ENTRY_TIMEOUT when it has expired and nothing it awaits comes. -/
theorem exec_holdoverEntryTimeout_of_due {s : State} (hon : s.on secTbu = true) (hclk : s.clk = clkLocked) (hsrc : s.src ≠ 0)
    (hdue : s.tbu.hoStart + s.getF Reg.TBU_HO_T_N * s.syncPer ≤ s.tm.runt) (hcome : s.syncComes = false) :
    exec .holdoverEntryTimeout s = .next s.holdover := by
  have hall : s.holdoverDue = true := by simp [State.holdoverDue, hon, hclk, hsrc, hdue, hcome]
  change execHoldoverEntryTimeout s = _
  rw [execHoldoverEntryTimeout, hall]
  rfl

/-- An interrupt changes registers and the host interface's own state. -/
theorem State.irq_frame (s : State) (b : Blk) (i : Nat) :
    s.irq b i = { s with regs := (s.irq b i).regs, hst := (s.irq b i).hst } := by
  unfold State.irq State.rise
  split <;> rfl

/-- Showing the increment changes registers alone. -/
theorem State.sansRegs_incShow (s : State) : s.incShow.sansRegs = s.sansRegs := by
  simp only [State.incShow, State.sansRegs_wr]

/-- Showing the increment writes its two registers. -/
theorem State.regsKept_incShow (s : State) : s.regsKept [Reg.TBU_INC_0, Reg.TBU_INC_1] s.incShow := by
  intro o ho
  simp only [List.mem_cons, List.not_mem_nil, or_false, not_or] at ho
  obtain ⟨ho₀, ho₁⟩ := ho
  rw [State.incShow, State.rd_wr_ne _ _ ho₁, State.rd_wr_ne _ _ ho₀]

/-- The clock enters HOLDOVER at the filtered rate, with its interrupt (R86, R93). -/
theorem holdover_enters (s : State) :
    s.holdover.clk = clkHold ∧ s.holdover.tbu.hoEntry = s.tm.runt ∧ s.holdover.tm = { s.tm with inc := s.tbu.rate } ∧
      s.holdover.flag ⟨Reg.UNIT_IRQ .tbu, 1, 1⟩ = true ∧
      s.regsKept ([Reg.TBU_STAT, Reg.TBU_INC_0, Reg.TBU_INC_1, Reg.UNIT_IRQ .tbu] ++ (List.range 4).map Reg.TBU_P_STAT) s.holdover ∧
      s.holdover = { s with regs := s.holdover.regs, tm := s.holdover.tm, tbu := s.holdover.tbu, hst := s.holdover.hst } := by
  have hset : (s.heldRate.incShow.setF Reg.TBU_STAT_STATE clkHold).sansRegs = s.heldRate.sansRegs :=
    (State.sansRegs_wr ..).trans (State.sansRegs_incShow _)
  have hview := (s.heldRate.incShow.setF Reg.TBU_STAT_STATE clkHold).clockView_bmca
  have hclk : (s.heldRate.incShow.setF Reg.TBU_STAT_STATE clkHold).clk = clkHold := State.getF_setF _ _ _ rfl
  rw [State.holdover_eq]
  generalize hu : s.heldRate.incShow.setF Reg.TBU_STAT_STATE clkHold = u at hset hview hclk
  generalize u.bmca = w at hview
  have hframe := State.frame_of_sansRegs hset
  have htm : w.tm = { s.tm with inc := s.tbu.rate } := by rw [State.frame_of_clockView hview, hframe]; rfl
  have hentry : w.tbu.hoEntry = s.tm.runt := by
    rw [TbuSt.hoEntry_of_heard (State.heard_of_clockView hview), hframe]
    rfl
  refine ⟨?_, ?_, ?_, ?_, fun o ho => ?_, ?_⟩
  · rw [State.clk, State.getF_congr (State.rd_irq_ne _ _ _ (by decide)), ← State.clk, State.clk_of_clockView hview, hclk]
  · rw [State.irq_tbu, hentry]
  · rw [State.irq_tm, htm]
  · rw [State.flag_bit, State.testBit_rd_irq _ _ _ _ (by decide), decide_eq_true rfl, Bool.true_or]
  · simp only [List.mem_append, List.mem_cons, List.not_mem_nil, or_false, not_or] at ho
    obtain ⟨⟨ho₀, ho₁, ho₂, hirq⟩, hports⟩ := ho
    have hmem : o ∉ clockRegs := by
      simp only [clockRegs, slewRegs, List.mem_append, List.mem_cons, List.not_mem_nil, or_false, not_or]
      exact ⟨⟨ho₀, ho₁, ho₂⟩, hports⟩
    rw [State.rd_irq_ne _ _ _ hirq, State.regsKept_of_clockView hview o hmem, ← hu, State.rd_setF_ne _ _ _ ho₀,
      s.heldRate.regsKept_incShow o (by simp [ho₁, ho₂])]
    rfl
  · rw [State.irq_frame, State.frame_of_clockView hview, hframe]
    rfl

end Sys2Proof.Machine
end

section
/-!
What the PTP messages leave alone (R77, R88): run time, DRAM and image slots, and, once the clock has made its single step, the time
word and the courses. `State.msgView` collects it. Every operation on a message keeps the view but for entering LOCKED, which steps
a clock that has not been stepped and then keeps `State.memView`; `State.keeps` joins the two.
-/
namespace Sys2Proof.Machine

/-! ### Two views -/

/-- What no message changes. -/
def State.memView (s : State) : Nat × List Host.Cell × List Host.Cell × List Host.Cell := (s.tm.runt, s.dram, s.kln.u0, s.kln.u1)

/-- What no message changes of a clock that has made its step. -/
def State.msgView (s : State) : (Nat × List Host.Cell × List Host.Cell × List Host.Cell) × Nat × CrsSt × Bool :=
  (s.memView, s.tm.time, s.crs, s.flag Reg.TBU_STAT_STEPPED)

/-- What a message leaves alone. -/
def State.keeps (s t : State) : Prop :=
  t.memView = s.memView ∧ (s.flag Reg.TBU_STAT_STEPPED = true → t.msgView = s.msgView)

theorem State.keeps_of_msgView {s t : State} (h : t.msgView = s.msgView) : s.keeps t := ⟨congrArg Prod.fst h, fun _ => h⟩

/-- The view stands for the state before. -/
theorem State.keeps_of_msgView_left {s u t : State} (h : u.msgView = s.msgView) (hkeeps : u.keeps t) : s.keeps t := by
  have hstep : u.flag Reg.TBU_STAT_STEPPED = s.flag Reg.TBU_STAT_STEPPED := congrArg (fun v => v.2.2.2) h
  exact ⟨hkeeps.1.trans (congrArg Prod.fst h), fun hs => (hkeeps.2 (hstep.trans hs)).trans h⟩

/-- What `State.keeps` says of the state's parts. -/
theorem State.parts_of_keeps {s t : State} (h : s.keeps t) :
    t.tm.runt = s.tm.runt ∧ (s.flag Reg.TBU_STAT_STEPPED = true → t.tm.time = s.tm.time ∧ t.crs = s.crs) ∧ s.memKept t := by
  obtain ⟨hmem, hstep⟩ := h
  simp only [State.msgView, State.memView, Prod.mk.injEq] at hmem hstep
  obtain ⟨hrunt, hdram, hu0, hu1⟩ := hmem
  refine ⟨hrunt, fun hs => ?_, fun a => by rw [hdram, hu0, hu1]; exact ⟨rfl, rfl, rfl⟩⟩
  obtain ⟨-, htime, hcrs, -⟩ := hstep hs
  exact ⟨htime, hcrs⟩

/-! ### Operations that keep the view -/

theorem State.msgView_of_clockView {s t : State} {offs : List Nat} (h : t.clockView offs = s.clockView offs) :
    t.msgView = s.msgView := by
  have hstep := State.stepped_of_clockView h
  rw [State.frame_of_clockView h] at hstep ⊢
  simp only [State.msgView, State.memView, hstep]

@[simp] theorem State.msgView_wr (s : State) {o : Nat} (v : Nat) (h : o ≠ Reg.TBU_STAT) : (s.wr o v).msgView = s.msgView :=
  State.msgView_of_clockView (s.clockView_wr v (List.mem_singleton_self o) h)

@[simp] theorem State.msgView_setF (s : State) {f : Fld} (v : Nat) (h : f.off ≠ Reg.TBU_STAT) :
    (s.setF f v).msgView = s.msgView := s.msgView_wr _ h

theorem State.msgView_setState (s : State) (v : Nat) : (s.setF Reg.TBU_STAT_STATE v).msgView = s.msgView := by
  have hstep : (s.setF Reg.TBU_STAT_STATE v).flag Reg.TBU_STAT_STEPPED = s.flag Reg.TBU_STAT_STEPPED :=
    congrArg (· != 0) (s.getF_setF_beside v (f := Reg.TBU_STAT_STATE) (g := Reg.TBU_STAT_STEPPED) rfl rfl (.inr (by decide)))
  rw [State.msgView, hstep]
  rfl

@[simp] theorem State.msgView_setTbu (s : State) (f : TbuSt → TbuSt) : (s.setTbu f).msgView = s.msgView := (rfl)

@[simp] theorem State.msgView_setPp (s : State) (p : Nat) (f : PtpPort → PtpPort) : (s.setPp p f).msgView = s.msgView := (rfl)

@[simp] theorem State.msgView_bump (s : State) : s.bump.msgView = s.msgView := (rfl)

@[simp] theorem State.msgView_irq (s : State) {b : Blk} (i : Nat) (h : Reg.TBU_STAT ≠ Reg.UNIT_IRQ b) :
    (s.irq b i).msgView = s.msgView := by
  simp only [State.msgView, State.memView, State.irq_tm, State.irq_dram, State.irq_kln, State.irq_crs,
    State.flag_congr (f := Reg.TBU_STAT_STEPPED) (s.rd_irq_ne b i h)]

@[simp] theorem State.msgView_emitOpen (s : State) (src code cls : Nat) : (s.emitOpen src code cls).msgView = s.msgView := by
  have hstep : (s.emitOpen src code cls).rd Reg.TBU_STAT = s.rd Reg.TBU_STAT := s.rd_emit_ne _ _ _ _ (by decide) (by decide)
  simp only [State.msgView, State.memView, State.emitOpen_tm, State.emitOpen_dram, State.emitOpen_kln, State.emitOpen_crs,
    State.flag_congr (f := Reg.TBU_STAT_STEPPED) hstep]

@[simp] theorem State.msgView_incShow (s : State) : s.incShow.msgView = s.msgView := State.msgView_of_clockView s.clockView_incShow
@[simp] theorem State.msgView_setAsym (s : State) (on : Bool) : (s.setAsym on).msgView = s.msgView :=
  State.msgView_of_clockView (s.clockView_setAsym on)
@[simp] theorem State.msgView_follow (s : State) : s.follow.msgView = s.msgView := State.msgView_of_clockView s.clockView_follow
@[simp] theorem State.msgView_bmca (s : State) : s.bmca.msgView = s.msgView := State.msgView_of_clockView s.clockView_bmca

@[simp] theorem State.msgView_setClk (s : State) (v : Nat) : (s.setClk v).msgView = s.msgView := by
  rw [State.setClk, State.msgView_bmca, State.msgView_setState]

@[simp] theorem State.msgView_setInc (s : State) (d : Nat) : (s.setInc d).msgView = s.msgView := by
  rw [State.setInc, State.msgView_incShow]
  rfl

@[simp] theorem State.msgView_setPtpSt (s : State) (p : Nat) (st : PtpState) : (s.setPtpSt p st).msgView = s.msgView := by
  rw [State.setPtpSt, State.setB, State.msgView_setF _ _ (ptpStat_ne p), State.msgView_setPp]

/-! ### Frames sent (R88, R497) -/

/-- A state without the station ports: what no frame sent changes. -/
def State.sansEth (s : State) : State := { s with eth := ⟨[], [], [], [], [], 0, [], 0⟩ }

theorem State.sansEth_setEth (s : State) (f : EthSt → EthSt) : (s.setEth f).sansEth = s.sansEth := (rfl)

theorem State.sansEth_setPtx (s : State) (p : Nat) (f : PortTx → PortTx) : (s.setPtx p f).sansEth = s.sansEth := (rfl)

/-- Sending a frame changes the state of the station ports alone. -/
theorem State.sansEth_send (s : State) (ps : List Nat) (prio k : Nat) (what : TxFrame) (stamp : Option Nat) :
    (s.send ps prio k what stamp).sansEth = s.sansEth := by
  unfold State.send
  extract_lets pair seq u
  have hu : u.sansEth = s.sansEth := by
    unfold u
    split
    · exact s.sansEth_setEth _
    · rfl
  refine (foldl_keeps State.sansEth _ _ _ fun t x _ => ?_).trans hu
  exact t.sansEth_setPtx ..

/-- States that agree without the station ports differ in those alone. -/
theorem State.frame_of_sansEth {s t : State} (h : t.sansEth = s.sansEth) : t = { s with eth := t.eth } :=
  congrArg (fun (u : State) => { u with eth := t.eth }) h

/-- A PTP message of the module's own is a frame sent with priority 2. -/
theorem State.ptpOut_eq_send (s : State) (p : Nat) (k : PtpKind) (rq seq origin : Nat) (corr : Int) :
    ∃ what, s.ptpOut p k rq seq origin corr = s.send [p] 2 0 what none := ⟨_, rfl⟩

theorem State.sansEth_ptpOut (s : State) (p : Nat) (k : PtpKind) (rq seq origin : Nat) (corr : Int) :
    (s.ptpOut p k rq seq origin corr).sansEth = s.sansEth := by
  obtain ⟨what, h⟩ := s.ptpOut_eq_send p k rq seq origin corr
  rw [h]
  exact s.sansEth_send ..

@[simp] theorem State.msgView_ptpOut (s : State) (p : Nat) (k : PtpKind) (rq seq origin : Nat) (corr : Int) :
    (s.ptpOut p k rq seq origin corr).msgView = s.msgView := by
  rw [State.frame_of_sansEth (s.sansEth_ptpOut p k rq seq origin corr)]
  rfl

/-- A state without the station ports and without the count of the free values used. -/
def State.sansFrames (s : State) : State := { s.sansEth with freeCtr := 0 }

theorem State.sansFrames_send (s : State) (ps : List Nat) (prio k : Nat) (what : TxFrame) (stamp : Option Nat) :
    (s.send ps prio k what stamp).sansFrames = s.sansFrames := by
  rw [State.sansFrames, State.sansEth_send, State.sansFrames]

theorem State.sansFrames_bump (s : State) : s.bump.sansFrames = s.sansFrames := (rfl)

/-- A transparent clock passes a message on: frames sent, and a free value used up. -/
theorem State.sansFrames_ptpForward (s : State) (p : Nat) (m : PtpMsg) : (s.ptpForward p m).sansFrames = s.sansFrames := by
  unfold State.ptpForward
  split
  · rfl
  · extract_lets res corr pass qs
    split
    · rfl
    · rw [State.sansFrames_bump, foldl_keeps State.sansFrames]
      exact fun t q _ => t.sansFrames_send ..

/-- States that agree without these differ in these alone. -/
theorem State.frame_of_sansFrames {s t : State} (h : t.sansFrames = s.sansFrames) :
    t = { s with eth := t.eth, freeCtr := t.freeCtr } :=
  congrArg (fun (u : State) => { u with eth := t.eth, freeCtr := t.freeCtr }) h

theorem State.msgView_ptpForward (s : State) (p : Nat) (m : PtpMsg) : (s.ptpForward p m).msgView = s.msgView := by
  rw [State.frame_of_sansFrames (s.sansFrames_ptpForward p m)]
  rfl

/-! ### The single step (R77, R80) -/

/-- What a discarded course means to its unit leaves run time and memory alone. -/
theorem State.memView_discardHook (s : State) (c : Slot) : (s.discardHook c).memView = s.memView := by
  unfold State.discardHook
  split
  case h_1 => rfl
  case h_2 => rfl
  case h_3 => simp [State.memView]
  case h_4 => simp [State.memView]
  case h_5 => split <;> simp [State.memView, State.blkErr]
  case h_6 => rfl
  case h_7 => rfl
  case h_8 => rfl

theorem State.memView_setSlot (s : State) (n : Nat) (f : Slot → Slot) : (s.setSlot n f).memView = s.memView := (rfl)

theorem State.memView_emit (s : State) (src code cls value : Nat) : (s.emit src code cls value).memView = s.memView := by
  simp [State.memView]

theorem State.memView_irq (s : State) (b : Blk) (i : Nat) : (s.irq b i).memView = s.memView := by
  simp [State.memView]

theorem State.memView_crsRecord (s : State) (n status : Nat) : (s.crsRecord n status).memView = s.memView := by
  unfold State.crsRecord
  dsimp only
  split
  · rw [State.memView_emit, State.memView_setSlot]
  · exact s.memView_setSlot ..

/-- Discarding a course leaves run time and memory alone. -/
theorem State.memView_discard (s : State) (n status act : Nat) : (s.discard n status act).memView = s.memView := by
  unfold State.discard
  extract_lets r c r₁ r₂
  have hr : r.memView = s.memView := by rw [State.memView_crsRecord, State.memView_setSlot]
  have hr₁ : r₁.memView = r.memView := by
    unfold r₁
    split
    · exact r.memView_irq ..
    · rfl
  have hr₂ : r₂.memView = r₁.memView := by
    unfold r₂
    split <;> simp [State.memView]
  rw [State.memView_discardHook, hr₂, hr₁, hr]

/-- A course that the step has reached is made immediate or discarded (R80). -/
theorem State.memView_stepCourse (s : State) (n : Nat) : (s.stepCourse n).memView = s.memView := by
  unfold State.stepCourse
  extract_lets c
  split
  · split
    · split
      · exact s.memView_setSlot ..
      · exact s.memView_discard ..
    · rfl
  · rfl

theorem State.memView_svResync (s : State) : s.svResync.memView = s.memView := (rfl)

theorem State.memView_setYul (s : State) (f : YulSt → YulSt) : (s.setYul f).memView = s.memView := (rfl)

theorem State.memView_setTbu (s : State) (f : TbuSt → TbuSt) : (s.setTbu f).memView = s.memView := (rfl)

theorem State.memView_setF (s : State) (f : Fld) (v : Nat) : (s.setF f v).memView = s.memView := (rfl)

theorem State.memView_taskResync (s : State) : s.taskResync.memView = s.memView := by
  refine foldl_keeps State.memView _ _ _ fun u c _ => ?_
  split
  · simp [State.memView, State.setCore]
  · rfl

/-- The time word jumps: run time and memory stay (R36, R81). -/
theorem State.memView_timeJump (s : State) (t : Nat) : (s.timeJump t).memView = s.memView := by
  unfold State.timeJump
  extract_lets shift seg _ _ _ _ _ u v w x _
  have hu : u.memView = s.memView := rfl
  have hv : v.memView = s.memView := by rw [State.memView_svResync, State.memView_taskResync, hu]
  have hw : w.memView = s.memView := by
    unfold w
    split
    · rw [State.memView_setYul, hv]
    · exact hv
  have hx : x.memView = s.memView := by rw [State.memView_setYul, hw]
  clear_value x
  exact hx

/-- The single step leaves run time and memory alone. -/
theorem State.memView_step1 (s : State) (t : Nat) : (s.step1 t).memView = s.memView := by
  have hjump := s.memView_timeJump t
  unfold State.step1
  generalize s.timeJump t = j at hjump ⊢
  extract_lets old shift a b c d
  have hd : d.memView = s.memView := by
    rw [State.memView_irq, State.memView_emit, State.memView_setTbu, State.memView_setF, State.memView_setF, hjump]
  exact (foldl_keeps State.memView _ _ _ fun r n _ => r.memView_stepCourse n).trans hd

/-! ### Measurements (R86, R93, R98–R101) -/

@[simp] theorem State.msgView_leaveHold (s : State) : s.leaveHold.msgView = s.msgView := by
  unfold State.leaveHold
  split
  · rw [State.msgView_wr _ _ (by decide), State.msgView_wr _ _ (by decide)]
  · rfl

@[simp] theorem State.msgView_measPut (s : State) (ofs : Int) : (s.measPut ofs).msgView = s.msgView := (rfl)

@[simp] theorem State.msgView_servo (s : State) (ofs : Int) : (s.servo ofs).msgView = s.msgView := by
  rw [State.servo, State.msgView_setInc, State.msgView_setTbu]

/-- Entering LOCKED after the step has been made or spared. -/
def State.lockEntered (s : State) : State :=
  let u := (s.setClk clkLocked).setTbu fun t => { t with hoStart := s.tm.runt, meas := [] }
  ((List.range 4).foldl (fun (u : State) p => if u.ptpValid p then u.setPtpSt p .slave else u) u).irq .tbu 0

theorem State.lock_eq (s : State) (target : Nat) :
    s.lock target = (if s.leaveHold.flag Reg.TBU_STAT_STEPPED then s.leaveHold else s.leaveHold.step1 target).lockEntered := (rfl)

theorem State.msgView_lockEntered (s : State) : s.lockEntered.msgView = s.msgView := by
  rw [State.lockEntered, State.msgView_irq _ _ (by decide), foldl_keeps State.msgView, State.msgView_setTbu, State.msgView_setClk]
  intro u p _
  split
  · exact u.msgView_setPtpSt ..
  · rfl

/-- Entering LOCKED steps the clock at most once (R77). -/
theorem State.keeps_lock (s : State) (target : Nat) : s.keeps (s.lock target) := by
  have hleave := s.msgView_leaveHold
  rw [State.lock_eq]
  generalize s.leaveHold = u at hleave ⊢
  refine State.keeps_of_msgView_left hleave ?_
  split
  · exact State.keeps_of_msgView u.msgView_lockEntered
  next hstep =>
    have hmem : (u.step1 target).lockEntered.memView = (u.step1 target).memView :=
      congrArg Prod.fst (u.step1 target).msgView_lockEntered
    exact ⟨hmem.trans (u.memView_step1 target), fun h => absurd h hstep⟩

theorem State.keeps_measure (s : State) (raw filtered : Int) (target : Nat) : s.keeps (s.measure raw filtered target) := by
  unfold State.measure
  split
  · exact State.keeps_of_msgView rfl
  split
  · exact State.keeps_of_msgView (by rw [State.msgView_setTbu, State.msgView_measPut, State.msgView_setClk])
  · exact State.keeps_of_msgView (s.msgView_servo filtered)
  · extract_lets u v
    have hv : v.msgView = s.msgView := by
      unfold v
      split
      · rw [State.msgView_servo, State.msgView_measPut]
      · rfl
    split
    · exact State.keeps_of_msgView_left hv (v.keeps_lock target)
    · exact State.keeps_of_msgView hv

@[simp] theorem State.msgView_onePath (s : State) (p : Nat) : (s.onePath p).msgView = s.msgView := by
  unfold State.onePath
  split
  · exact s.msgView_setAsym true
  · rfl

@[simp] theorem State.msgView_pathShift (s : State) (p : Nat) : (s.pathShift p).msgView = s.msgView := by
  unfold State.pathShift
  extract_lets u v
  have hv : v.msgView = s.msgView := by
    rw [State.msgView_setPp, State.msgView_emitOpen, State.msgView_irq _ _ (by decide), State.msgView_setF _ _ (ptpStat_ne p)]
  split
  · rw [State.msgView_onePath, hv]
  · dsimp only
    split
    · split <;> simp [hv]
    · split <;> simp [hv]

/-- The registers of a port's filtered values. -/
@[simp] theorem State.msgView_ptpRegs (s : State) (p : Nat) : (s.ptpRegs p).msgView = s.msgView := by
  have hmpd : Reg.TBU_P_MPD p ≠ Reg.TBU_STAT := by simp only [Reg.TBU_P_MPD, Reg.TBU_STAT]; omega
  have hofs : Reg.TBU_P_OFS p ≠ Reg.TBU_STAT := by simp only [Reg.TBU_P_OFS, Reg.TBU_STAT]; omega
  unfold State.ptpRegs
  extract_lets q x u
  have hu : u.msgView = s.msgView := by
    unfold u
    split
    · exact s.msgView_wr _ hmpd
    · rfl
  split
  · rw [State.msgView_wr _ _ hofs, hu]
  · exact hu

@[simp] theorem State.msgView_mpdPut (s : State) (p : Nat) (m : Int) : (s.mpdPut p m).msgView = s.msgView := by
  unfold State.mpdPut
  extract_lets x d bad sameSign devs mean
  split
  · simp
  · split <;> simp

@[simp] theorem State.msgView_diverge (s : State) (p : Nat) : (s.diverge p).msgView = s.msgView := by
  unfold State.diverge
  split
  · rfl
  · extract_lets bad
    split
    · rfl
    · refine foldl_keeps State.msgView _ _ _ fun u k _ => ?_
      extract_lets x o v
      split
      · rw [State.msgView_irq _ _ (by decide), State.msgView_setF _ _ (ptpStat_ne k)]
        rfl
      · rfl

/-- A complete Sync (R86). -/
theorem State.keeps_syncDone (s : State) (p : Nat) (x : Int) : s.keeps (s.syncDone p x) := by
  unfold State.syncDone
  extract_lets u y raw f v w z a
  have hu : u.msgView = s.msgView := rfl
  have hv : v.msgView = s.msgView := by
    unfold v
    split
    · exact hu
    · rw [foldl_keeps State.msgView, hu]
      exact fun a q _ => a.msgView_setPp ..
  have hw : w.msgView = s.msgView := by rw [State.msgView_ptpRegs, State.msgView_setPp, hv]
  have hz : z.msgView = s.msgView := by
    unfold z
    split
    · rw [State.msgView_setPtpSt, hw]
    · exact hw
  have ha : a.msgView = s.msgView := by rw [State.msgView_follow, State.msgView_diverge, hz]
  split
  · exact State.keeps_of_msgView hu
  split
  · exact State.keeps_of_msgView_left ha (a.keeps_measure ..)
  · exact State.keeps_of_msgView ha

/-! ### Messages (R88, R90, R92) -/

theorem State.msgView_announceRx (s : State) (p : Nat) (m : PtpMsg) : (s.announceRx p m).msgView = s.msgView := by
  unfold State.announceRx
  extract_lets x c take u v
  split
  · rfl
  · rw [State.msgView_bmca]
    unfold v
    split <;> rfl

theorem State.keeps_syncRx (s : State) (p : Nat) (m : PtpMsg) : s.keeps (s.syncRx p m) := by
  unfold State.syncRx
  extract_lets x t2 u v
  have hv : v.msgView = s.msgView := by
    unfold v
    split <;> rfl
  split
  · exact State.keeps_of_msgView rfl
  split
  · exact State.keeps_of_msgView hv
  · exact State.keeps_of_msgView_left hv (v.keeps_syncDone ..)

theorem State.keeps_followUpRx (s : State) (p : Nat) (m : PtpMsg) : s.keeps (s.followUpRx p m) := by
  unfold State.followUpRx
  dsimp only
  split
  · split
    · exact State.keeps_of_msgView_left (s.msgView_setPp p fun x => { x with syncRx := none }) (State.keeps_syncDone _ _ _)
    · exact State.keeps_of_msgView rfl
  · exact State.keeps_of_msgView rfl

/-- Delay requests and their answers send frames and take measurements of the path delay. -/
theorem State.msgView_delayRx (s : State) (p : Nat) (m : PtpMsg) : (s.delayRx p m).msgView = s.msgView := by
  unfold State.delayRx
  extract_lets x p2p
  split
  case h_1 =>
    split
    · exact s.msgView_ptpOut ..
    · rfl
  case h_2 =>
    split
    · rfl
    · split <;> simp
  case h_3 =>
    split
    · split <;> simp
    · rfl
  case h_4 =>
    split
    · split
      · split <;> simp
      · rfl
    · rfl
  case h_5 =>
    split
    · split <;> simp
    · rfl
  case h_6 => rfl

/-- What the port does with a message of its own transport and domain. -/
def State.ptpHandle (s : State) (p : Nat) (m : PtpMsg) : State :=
  match m.kind with
  | .announce => s.announceRx p m
  | .sync => s.syncRx p m
  | .followUp => s.followUpRx p m
  | _ => s.delayRx p m

theorem State.keeps_ptpHandle (s : State) (p : Nat) (m : PtpMsg) : s.keeps (s.ptpHandle p m) := by
  unfold State.ptpHandle
  split
  · exact State.keeps_of_msgView (s.msgView_announceRx p m)
  · exact s.keeps_syncRx p m
  · exact s.keeps_followUpRx p m
  · exact State.keeps_of_msgView (s.msgView_delayRx p m)

end Sys2Proof.Machine
end

section
/-!
The messages that the PTP ports take and send (R88, R90), and the statement PtpPortsAndHoldover.
-/
namespace Sys2Proof.Machine

/-! ### Messages received (R88) -/

section Rx
variable {s : State} {p : Nat} {m : PtpMsg} (hp : p < 4) (hport : s.ptpPort p = true)
include hp hport

/-- PTP_MESSAGE_RX of a message that needs a feature the port does not have. -/
theorem exec_ptpMessageRx_of_unsupported (h : s.ptpUnsupported m = true) :
    exec (.ptpMessageRx p m) s = .next (s.incF (Reg.TBU_P_STAT_UNSUP p)) := by
  change execPtpMessageRx p m s = _
  simp only [execPtpMessageRx, State.only, hp, hport, h, decide_true, if_true, Bool.not_true, Bool.false_eq_true, if_false]

/-- PTP_MESSAGE_RX of a supported message: a transparent clock passes it on, and the port takes it when it is its own. -/
theorem exec_ptpMessageRx_of_supported (h : s.ptpUnsupported m = false) :
    exec (.ptpMessageRx p m) s =
      .next (if s.ptpTaken m = true then (s.ptpForward p m).ptpHandle p m else s.ptpForward p m) := by
  change execPtpMessageRx p m s = _
  simp only [execPtpMessageRx, State.only, hp, hport, h, decide_true, if_true, Bool.not_true, Bool.false_eq_true, if_false]
  cases s.ptpTaken m <;> rfl

end Rx

/-- A port without P2P_TC passes nothing on. -/
theorem State.ptpForward_of_not_tc {s : State} {p : Nat} (m : PtpMsg) (h : s.flag (Reg.TBU_P_CTL_P2P_TC p) = false) :
    s.ptpForward p m = s := by
  rw [State.ptpForward, if_pos (.inl (by rw [h]; rfl))]

/-- An unsupported message adds one to the port's count, which saturates, and does nothing else (R88). -/
theorem State.unsupported_counts (s : State) (p : Nat) :
    (s.incF (Reg.TBU_P_STAT_UNSUP p)).getF (Reg.TBU_P_STAT_UNSUP p) = min (s.getF (Reg.TBU_P_STAT_UNSUP p) + 1) 65535 ∧
      s.regsKept [Reg.TBU_P_STAT p] (s.incF (Reg.TBU_P_STAT_UNSUP p)) ∧
      s.incF (Reg.TBU_P_STAT_UNSUP p) = { s with regs := (s.incF (Reg.TBU_P_STAT_UNSUP p)).regs } := by
  refine ⟨?_, fun o ho => State.rd_incF_ne _ _ _ (by simpa using ho), State.frame_of_sansRegs (s.sansRegs_wr _ _)⟩
  have hfit : satAdd 16 (s.getF (Reg.TBU_P_STAT_UNSUP p)) 1 < 2 ^ 16 := by
    rw [satAdd]
    omega
  rw [State.incF, State.getF_setF _ _ _ rfl]
  exact Nat.mod_eq_of_lt hfit

/-- What a message leaves alone, whatever it is. -/
theorem ptpMessageRx_keeps {s : State} {p : Nat} (hp : p < 4) (hport : s.ptpPort p = true) (m : PtpMsg) :
    ∃ t, exec (.ptpMessageRx p m) s = .next t ∧ t.tm.runt = s.tm.runt ∧
      (s.flag Reg.TBU_STAT_STEPPED = true → t.tm.time = s.tm.time ∧ t.crs = s.crs) ∧ s.memKept t ∧
      (s.ptpUnsupported m = true → t.getF (Reg.TBU_P_STAT_UNSUP p) = min (s.getF (Reg.TBU_P_STAT_UNSUP p) + 1) 65535 ∧
        s.regsKept [Reg.TBU_P_STAT p] t ∧ t = { s with regs := t.regs }) ∧
      (s.ptpUnsupported m = false → s.ptpTaken m = false → s.flag (Reg.TBU_P_CTL_P2P_TC p) = false → t = s) := by
  cases hm : s.ptpUnsupported m with
  | true =>
    have hkeeps : s.keeps (s.incF (Reg.TBU_P_STAT_UNSUP p)) := State.keeps_of_msgView (s.msgView_wr _ (ptpStat_ne p))
    obtain ⟨hrunt, hstep, hmem⟩ := State.parts_of_keeps hkeeps
    exact ⟨_, exec_ptpMessageRx_of_unsupported hp hport hm, hrunt, hstep, hmem, fun _ => s.unsupported_counts p,
      fun h => absurd h (by decide)⟩
  | false =>
    have hforward := s.msgView_ptpForward p m
    have hkeeps : s.keeps (if s.ptpTaken m = true then (s.ptpForward p m).ptpHandle p m else s.ptpForward p m) := by
      split
      · exact State.keeps_of_msgView_left hforward (State.keeps_ptpHandle _ p m)
      · exact State.keeps_of_msgView hforward
    obtain ⟨hrunt, hstep, hmem⟩ := State.parts_of_keeps hkeeps
    refine ⟨_, exec_ptpMessageRx_of_supported hp hport hm, hrunt, hstep, hmem, fun h => absurd h (by decide),
      fun _ hother htc => ?_⟩
    rw [hother, if_neg Bool.false_ne_true, State.ptpForward_of_not_tc m htc]

/-! ### A Sync of the port master (R86, R90) -/

/-- A two-step Sync of the port's master on the port followed under SRC 1: its ingress waits for the Follow_Up, and the holdover
timeout starts again. -/
def State.syncHeard (s : State) (p : Nat) (m : PtpMsg) : State :=
  ((s.setPp p fun x => { x with syncLog := m.log }).setTbu fun t => { t with hoStart := s.tm.runt }).setPp p fun x =>
    { x with syncRx := some (m.seqId, s.ingress p m.raw, m.correction) }

theorem State.syncRx_of_followed {s : State} {p : Nat} {m : PtpMsg} (hslave : (s.pp p).slaved = true)
    (hfrom : ptpFrom m = (s.pp p).sender) (htwo : m.twoStep = true) (hsrc : s.src = 1) (hfollow : s.getF Reg.TBU_STAT_FOLLOW = p) :
    s.syncRx p m = s.syncHeard p m := by
  have hskip : ¬((!(s.pp p).slaved) = true ∨ ptpFrom m ≠ (s.pp p).sender) := by simp [hslave, hfrom]
  unfold State.syncRx
  extract_lets x t2 u v
  have hv : v = u.setTbu fun t => { t with hoStart := u.tm.runt } := if_pos ⟨hsrc, hfollow⟩
  rw [if_neg hskip, if_pos htwo, hv]
  rfl

/-- What a Sync heard changes. -/
theorem State.syncHeard_sets {s : State} {p : Nat} (m : PtpMsg) (hlen : p < s.tbu.ports.length) :
    (s.syncHeard p m).tbu.hoStart = s.tm.runt ∧
      ((s.syncHeard p m).pp p).syncRx = some (m.seqId, s.ingress p m.raw, m.correction) ∧
      (s.syncHeard p m).regs = s.regs ∧ (s.syncHeard p m).tm = s.tm := by
  refine ⟨rfl, ?_, rfl, rfl⟩
  rw [State.syncHeard, State.pp_setPp_same]
  rwa [State.setTbu, State.length_setPp]

/-- A two-step Sync that says what m says and comes from the port's master, in the port's domain and transport. -/
def State.masterSync (s : State) (p : Nat) (m : PtpMsg) : PtpMsg :=
  { m with unicast := false, kind := .sync, twoStep := true, hdr := { m.hdr with
    domain := s.getF Reg.TBU_PTP_CTL_DOMAIN, clock := (s.pp p).sender / 2 ^ 16, port := (s.pp p).sender % 2 ^ 16,
    via := if s.flag Reg.TBU_PTP_CTL_UDP then .udp4 else .l2 } }

/-- The port takes such a Sync, and it is the master's. -/
theorem State.masterSync_taken (s : State) (p : Nat) (m : PtpMsg) :
    s.ptpUnsupported (s.masterSync p m) = false ∧ s.ptpTaken (s.masterSync p m) = true ∧
      ptpFrom (s.masterSync p m) = (s.pp p).sender := by
  have hsup : s.ptpUnsupported (s.masterSync p m) = false := by
    unfold State.ptpUnsupported State.masterSync
    cases s.flag Reg.TBU_PTP_CTL_UDP <;> rfl
  refine ⟨hsup, ?_, Nat.div_add_mod' ..⟩
  rw [State.ptpTaken, hsup, State.masterSync]
  cases s.flag Reg.TBU_PTP_CTL_UDP <;> simp

/-- A Sync from the port master restarts the holdover timeout of the port followed, passed on by a transparent clock or not. -/
theorem ptpMessageRx_sync {s : State} {p : Nat} (hshape : s.shaped = true) (hp : p < 4) (hport : s.ptpPort p = true) (m w : PtpMsg)
    (hw : w = s.masterSync p m) (hslave : (s.pp p).slaved = true) (hctl : s.getF Reg.TBU_CTL_SRC = 1)
    (hfollow : s.getF Reg.TBU_STAT_FOLLOW = p) :
    ∃ t, exec (.ptpMessageRx p w) s = .next t ∧ t.tbu.hoStart = s.tm.runt ∧
      (t.pp p).syncRx = some (m.seqId, s.ingress p m.raw, m.correction) ∧ t.regs = s.regs ∧ t.tm = s.tm := by
  have hlen : p < s.tbu.ports.length := by rw [s.ports_length_of_shaped hshape]; exact hp
  have hsrc : s.src = 1 := by rw [State.src, if_neg (by rw [hctl]; decide), hctl]
  obtain ⟨hsup, htaken, hfrom⟩ := s.masterSync_taken p m
  rw [← hw] at hsup htaken hfrom
  have hkind : w.kind = .sync ∧ w.twoStep = true ∧ w.seqId = m.seqId ∧ w.raw = m.raw ∧ w.correction = m.correction := by
    rw [hw]
    exact ⟨rfl, rfl, rfl, rfl, rfl⟩
  obtain ⟨hsync, htwo, hseq, hraw, hcorr⟩ := hkind
  have hframe := State.frame_of_sansFrames (s.sansFrames_ptpForward p w)
  have hexec := exec_ptpMessageRx_of_supported hp hport hsup
  rw [htaken, if_pos rfl] at hexec
  generalize s.ptpForward p w = u at hframe hexec
  have hhandle : u.ptpHandle p w = u.syncHeard p w := by
    rw [State.ptpHandle, hsync, hframe]
    exact State.syncRx_of_followed hslave hfrom htwo hsrc hfollow
  obtain ⟨hstart, hrx, hregs, htm⟩ := u.syncHeard_sets w (p := p) (by rw [hframe]; exact hlen)
  refine ⟨_, hexec, ?_⟩
  rw [hhandle, hstart, hrx, hregs, htm, hseq, hraw, hcorr, hframe]
  exact ⟨rfl, rfl, rfl, rfl⟩

/-! ### Messages sent (R88, R497) -/

/-- The entry of a port's first message of a kind. -/
def State.sentFirst (s : State) (p : Nat) (k : PtpKind) : State :=
  s.setPp p fun x => { x with sent := (x.sent.filter fun y => y.1 != k) ++ [(k, s.tm.runt, 0)] }

section Tx
variable {s : State} {p : Nat} (hp : p < 4) (hport : s.ptpPort p = true) (hmaster : (s.pp p).st = .master)
  (hsent : (s.pp p).sent = []) (hfree : s.txFree p 2 = true)
include hp hport hmaster hsent hfree

/-- PTP_MESSAGE_TX of the first Sync of a master port: with a Follow_Up unless ONE_STEP. -/
theorem exec_ptpMessageTx_sync :
    exec (.ptpMessageTx p .sync) s = .next (if (s.sentFirst p .sync).flag (Reg.TBU_P_CTL_ONE_STEP p) = true
      then (s.sentFirst p .sync).ptpOut p .sync 0 0 ((s.sentFirst p .sync).egress p) 0
      else ((s.sentFirst p .sync).ptpOut p .sync 0 0 0 0).ptpOut p .followUp 0 0 ((s.sentFirst p .sync).egress p) 0) := by
  change execPtpMessageTx p .sync s = _
  simp only [execPtpMessageTx, State.only, hp, hport, hmaster, hsent, hfree, decide_true, if_true, List.find?_nil, beq_self_eq_true,
    Bool.and_true, Bool.not_true, Bool.false_eq_true, if_false]
  rw [State.sentFirst]
  split <;> rfl

/-- PTP_MESSAGE_TX of the first Announce of a master port. -/
theorem exec_ptpMessageTx_announce :
    exec (.ptpMessageTx p .announce) s = .next ((s.sentFirst p .announce).ptpOut p .announce 0 0 0 0) := by
  change execPtpMessageTx p .announce s = _
  simp only [execPtpMessageTx, State.only, hp, hport, hmaster, hsent, hfree, decide_true, if_true, List.find?_nil, beq_self_eq_true,
    Bool.and_true, Bool.not_true, Bool.false_eq_true, if_false]
  rfl

end Tx

/-- From s to t a port has queued n frames, and nothing but the station ports has changed. -/
def State.queued (s : State) (p n : Nat) (t : State) : Prop :=
  (t.ptx p).wait.length = (s.ptx p).wait.length + n ∧ t.eth.ptx.length = s.eth.ptx.length ∧ t = { s with eth := t.eth }

theorem State.queued_trans {s t u : State} {p m n : Nat} (h : s.queued p m t) (h' : t.queued p n u) : s.queued p (m + n) u := by
  obtain ⟨hwait, hlen, hframe⟩ := h
  obtain ⟨hwait', hlen', hframe'⟩ := h'
  exact ⟨by rw [hwait', hwait, Nat.add_assoc], hlen'.trans hlen, by rw [hframe', hframe]⟩

/-- A message sent is one frame queued at its port. -/
theorem State.queued_ptpOut {s : State} {p : Nat} (k : PtpKind) (rq seq origin : Nat) (corr : Int) (hlen : p < s.eth.ptx.length) :
    s.queued p 1 (s.ptpOut p k rq seq origin corr) := by
  have hframe := State.frame_of_sansEth (s.sansEth_ptpOut p k rq seq origin corr)
  obtain ⟨what, h⟩ := s.ptpOut_eq_send p k rq seq origin corr
  have hqueue : ((s.send [p] 2 0 what none).ptx p).wait.length = (s.ptx p).wait.length + 1 ∧
      (s.send [p] 2 0 what none).eth.ptx.length = s.eth.ptx.length := by
    unfold State.send
    extract_lets pair seq' u
    have hu : u.eth.ptx = s.eth.ptx := by
      unfold u
      split <;> rfl
    clear_value u
    simp [State.setPtx, State.setEth, State.ptx, upd, hu, hlen]
  rw [← h] at hqueue
  exact ⟨hqueue.1, hqueue.2, hframe⟩

/-- A state whose lists have their lengths has four ports that transmit. -/
theorem State.ptx_length_of_shaped {s : State} (h : s.shaped = true) : s.eth.ptx.length = 4 := by
  simp only [State.shaped, Bool.and_eq_true, decide_eq_true_eq] at h
  tauto

/-- Frames queued after the entry of the first message of a kind leave that entry the only one. -/
theorem State.first_of_queued {s t : State} {p n : Nat} {k : PtpKind} (hlen : p < s.tbu.ports.length)
    (hsent : (s.pp p).sent = []) (h : (s.sentFirst p k).queued p n t) :
    (t.ptx p).wait.length = (s.ptx p).wait.length + n ∧ (t.pp p).sent = [(k, s.tm.runt, 0)] ∧
      t = { s with tbu := t.tbu, eth := t.eth } := by
  obtain ⟨hwait, -, hframe⟩ := h
  refine ⟨hwait, ?_, by rw [hframe]; rfl⟩
  rw [hframe]
  change ((s.sentFirst p k).pp p).sent = _
  rw [State.sentFirst, State.pp_setPp_same _ _ hlen, hsent]
  rfl

/-- A master port that is due and free queues its Sync, with a Follow_Up unless ONE_STEP, or its Announce. -/
theorem ptpMessageTx_queues {s : State} {p : Nat} (hshape : s.shaped = true) (hp : p < 4) (hport : s.ptpPort p = true)
    (k : PtpKind) (hk : k = .sync ∨ k = .announce) (hmaster : (s.pp p).st = .master) (hsent : (s.pp p).sent = [])
    (hfree : s.txFree p 2 = true) :
    ∃ t, exec (.ptpMessageTx p k) s = .next t ∧
      (t.ptx p).wait.length = (s.ptx p).wait.length + (if k = .sync ∧ s.flag (Reg.TBU_P_CTL_ONE_STEP p) = false then 2 else 1) ∧
      (t.pp p).sent = [(k, s.tm.runt, 0)] ∧ t = { s with tbu := t.tbu, eth := t.eth } := by
  have hlen : p < s.tbu.ports.length := by rw [s.ports_length_of_shaped hshape]; exact hp
  have hptx (k : PtpKind) : p < (s.sentFirst p k).eth.ptx.length := by
    change p < s.eth.ptx.length
    rw [s.ptx_length_of_shaped hshape]
    exact hp
  obtain rfl | rfl := hk
  · refine ⟨_, exec_ptpMessageTx_sync hp hport hmaster hsent hfree, ?_⟩
    have hone : (s.sentFirst p .sync).flag (Reg.TBU_P_CTL_ONE_STEP p) = s.flag (Reg.TBU_P_CTL_ONE_STEP p) := rfl
    rw [hone]
    cases s.flag (Reg.TBU_P_CTL_ONE_STEP p) with
    | true => exact State.first_of_queued hlen hsent (State.queued_ptpOut .sync 0 0 _ 0 (hptx .sync))
    | false =>
      have hsync := State.queued_ptpOut .sync 0 0 0 0 (hptx .sync)
      have ⟨_, hsame, _⟩ := hsync
      exact State.first_of_queued hlen hsent
        (State.queued_trans hsync (State.queued_ptpOut .followUp 0 0 _ 0 (by rw [hsame]; exact hptx .sync)))
  · exact ⟨_, exec_ptpMessageTx_announce hp hport hmaster hsent hfree,
      State.first_of_queued hlen hsent (State.queued_ptpOut .announce 0 0 0 0 (hptx .announce))⟩

/-! ### The statement -/

/-- Settles O5: messages keep the view of a stepped clock, and the timeouts change what the state decisions and their own registers
hold. -/
theorem ptpPortsAndHoldover : Obligations.PtpPortsAndHoldover := by
  intro s hshape _
  refine ⟨fun p hp hport => ⟨ptpMessageRx_keeps hp hport, ptpMessageRx_sync hshape hp hport, ptpMessageTx_queues hshape hp hport,
    announceReceiptTimeout_forgets hshape hp hport⟩, fun p hp => pathStableTimeout_clears hshape hp,
    fun hon hclk hsrc hdue hcome => ⟨s.holdover, exec_holdoverEntryTimeout_of_due hon hclk hsrc hdue hcome, holdover_enters s⟩⟩

end Sys2Proof.Machine
end

section
/-!
The operations of the kiln unit: what a command word asks for, what a refusal reports and leaves alone, what the start and the end
of an operation write (R138, R146–R148), and the statement KilnTakesOneOperationAtATime. `State.sansHost` is the state without the
register file and the host interface's own state, which is all that a refusal changes.
-/
namespace Sys2Proof.Machine

/-! ### The state beside registers and host interface -/

/-- A state without its register file and the host interface's own state. -/
def State.sansHost (s : State) : State := { s with regs := [], hst := HstSt.reset }

/-- States that agree beside registers and host interface differ in those alone. -/
theorem State.frame_of_sansHost {s t : State} (h : t.sansHost = s.sansHost) : t = { s with regs := t.regs, hst := t.hst } :=
  congrArg (fun (u : State) => { u with regs := t.regs, hst := t.hst }) h

theorem State.kln_of_sansHost {s t : State} (h : t.sansHost = s.sansHost) : t.kln = s.kln := by
  change t.sansHost.kln = s.sansHost.kln
  rw [h]

theorem State.dram_of_sansHost {s t : State} (h : t.sansHost = s.sansHost) : t.dram = s.dram := by
  change t.sansHost.dram = s.sansHost.dram
  rw [h]

theorem State.variant_of_sansHost {s t : State} (h : t.sansHost = s.sansHost) : t.variant = s.variant := by
  change t.sansHost.variant = s.sansHost.variant
  rw [h]

theorem State.tm_of_sansHost {s t : State} (h : t.sansHost = s.sansHost) : t.tm = s.tm := by
  change t.sansHost.tm = s.sansHost.tm
  rw [h]

/-- Beside registers and host interface only the kiln unit's own state changes. -/
theorem State.frame_of_sansHost_kln {s t : State} {k : KlnSt} (h : t.sansHost = { s with kln := k }.sansHost) :
    t = { s with regs := t.regs, kln := t.kln, hst := t.hst } := by
  rw [State.kln_of_sansHost h]
  exact State.frame_of_sansHost h

@[simp] theorem State.sansHost_setF (s : State) (f : Fld) (v : Nat) : (s.setF f v).sansHost = s.sansHost := (rfl)

@[simp] theorem State.sansHost_irq (s : State) (b : Blk) (i : Nat) : (s.irq b i).sansHost = s.sansHost := by
  rw [State.irq_frame]
  rfl

@[simp] theorem State.sansHost_used (s : State) (i : Iface) (l : Level) : (s.used i l).sansHost = s.sansHost := by
  unfold State.used
  split <;> rfl

@[simp] theorem State.sansHost_spiEnd (s : State) (i : Iface) : (s.spiEnd i).sansHost = s.sansHost := by
  cases i <;> rfl

/-- An accepted write that restarts HST_ACC_TMO writes no register. -/
@[simp] theorem State.rd_used (s : State) (i : Iface) (l : Level) (o : Nat) : (s.used i l).rd o = s.rd o := by
  unfold State.used
  split <;> rfl

/-- The end of an SPI transaction writes no register. -/
@[simp] theorem State.rd_spiEnd (s : State) (i : Iface) (o : Nat) : (s.spiEnd i).rd o = s.rd o := by
  cases i <;> rfl

@[simp] theorem State.getF_spiEnd (s : State) (i : Iface) (f : Fld) : (s.spiEnd i).getF f = s.getF f :=
  State.getF_congr (s.rd_spiEnd i _)

@[simp] theorem State.flag_spiEnd (s : State) (i : Iface) (f : Fld) : (s.spiEnd i).flag f = s.flag f :=
  State.flag_congr (s.rd_spiEnd i _)

@[simp] theorem State.spiEnd_kln (s : State) (i : Iface) : (s.spiEnd i).kln = s.kln := by
  cases i <;> rfl

@[simp] theorem State.spiEnd_dram (s : State) (i : Iface) : (s.spiEnd i).dram = s.dram := by
  cases i <;> rfl

/-! ### A flag beside a field -/

/-- A flag beside the field put is left alone. -/
theorem State.flag_setF_beside (s : State) {f g : Fld} (v : Nat) (hf : f.ok = true) (hg : g.ok = true)
    (h : g.hi < f.lo ∨ f.hi < g.lo) : (s.setF f v).flag g = s.flag g := by
  rw [State.flag, State.flag, State.getF_setF_beside s v hf hg h]

/-! ### A refused operation (R138, R146–R148) -/

/-- The registers that report a refused operation. -/
def klnReportRegs : List Nat := [Reg.KLN_STAT, Reg.KLN_ERR, Reg.UNIT_IRQ .kln]

@[simp] theorem State.sansHost_klnRefuse (s : State) (op code : Nat) : (s.klnRefuse op code).sansHost = s.sansHost := by
  simp only [State.klnRefuse, State.klnErr, State.sansHost_irq, State.sansHost_setF]

@[simp] theorem State.klnRefuse_kln (s : State) (op code : Nat) : (s.klnRefuse op code).kln = s.kln :=
  State.kln_of_sansHost (s.sansHost_klnRefuse op code)

@[simp] theorem State.klnRefuse_dram (s : State) (op code : Nat) : (s.klnRefuse op code).dram = s.dram :=
  State.dram_of_sansHost (s.sansHost_klnRefuse op code)

/-- A refusal writes the registers that report it, and no other. -/
theorem State.regsKept_klnRefuse (s : State) (op code : Nat) : s.regsKept klnReportRegs (s.klnRefuse op code) := by
  intro o ho
  simp only [klnReportRegs, List.mem_cons, List.not_mem_nil, or_false, not_or] at ho
  obtain ⟨hstat, herr, hirq⟩ := ho
  rw [State.klnRefuse, State.klnErr, State.rd_irq_ne _ _ _ hirq, State.rd_setF_ne _ _ _ herr, State.rd_setF_ne _ _ _ herr,
    State.rd_setF_ne _ _ _ hstat, State.rd_setF_ne _ _ _ hstat]

/-- A refusal leaves the report of the last error in KLN_STAT as its two fields put it. -/
theorem State.rd_klnRefuse_stat (s : State) (op code : Nat) : (s.klnRefuse op code).rd Reg.KLN_STAT =
    ((s.setF Reg.KLN_STAT_LAST_OP op).setF Reg.KLN_STAT_LAST_ERR code).rd Reg.KLN_STAT := by
  rw [State.klnRefuse, State.klnErr, State.rd_irq_ne _ _ _ (by decide), State.rd_setF_ne _ _ _ (by decide),
    State.rd_setF_ne _ _ _ (by decide)]

/-- LAST_ERR names the code of a refusal. -/
@[simp] theorem State.lastErr_klnRefuse (s : State) (op code : Nat) :
    (s.klnRefuse op code).getF Reg.KLN_STAT_LAST_ERR = code % 256 := by
  rw [State.getF_congr (s.rd_klnRefuse_stat op code)]
  exact State.getF_setF _ _ _ rfl

/-- KLN_ERR names the code of a refusal. -/
@[simp] theorem State.errCode_klnRefuse (s : State) (op code : Nat) :
    (s.klnRefuse op code).getF Reg.KLN_ERR_CODE = code % 256 := by
  rw [State.klnRefuse, State.klnErr, State.getF_congr (State.rd_irq_ne _ _ _ (by decide)),
    State.getF_setF_beside _ _ rfl rfl (by decide)]
  exact State.getF_setF _ _ _ rfl

/-- A refusal leaves BUSY alone. -/
@[simp] theorem State.busy_klnRefuse (s : State) (op code : Nat) :
    (s.klnRefuse op code).flag Reg.KLN_STAT_BUSY = s.flag Reg.KLN_STAT_BUSY := by
  rw [State.flag_congr (s.rd_klnRefuse_stat op code), State.flag_setF_beside _ _ rfl rfl (by decide),
    State.flag_setF_beside _ _ rfl rfl (by decide)]

/-! ### An operation begins or ends (R138, R148) -/

/-- BUSY says whether an operation is in progress. -/
@[simp] theorem State.busy_klnBusy (s : State) (op : Option KlnOp) : (s.klnBusy op).flag Reg.KLN_STAT_BUSY = op.isSome := by
  change (State.setB _ Reg.KLN_STAT_REFIRING _).flag Reg.KLN_STAT_BUSY = _
  rw [State.setB, State.flag_setF_beside _ _ rfl rfl (by decide)]
  exact State.flag_setB _ _ _ rfl rfl

/-- The start or the end of an operation writes KLN_STAT alone. -/
theorem State.rd_klnBusy_ne (s : State) (op : Option KlnOp) {o : Nat} (h : o ≠ Reg.KLN_STAT) : (s.klnBusy op).rd o = s.rd o := by
  change (State.setB _ Reg.KLN_STAT_REFIRING _).rd o = _
  rw [State.rd_setB_ne _ _ _ h, State.rd_setB_ne _ _ _ h]

@[simp] theorem State.klnBusy_kln (s : State) (op : Option KlnOp) : (s.klnBusy op).kln = { s.kln with op := op } := (rfl)

@[simp] theorem State.klnBusy_dram (s : State) (op : Option KlnOp) : (s.klnBusy op).dram = s.dram := (rfl)

/-- The start or the end of an operation changes KLN_STAT and the operation alone. -/
theorem State.sansHost_klnBusy (s : State) (op : Option KlnOp) :
    (s.klnBusy op).sansHost = { s with kln := { s.kln with op := op } }.sansHost := (rfl)

/-! ### BOOT_DIFF (R128, R129) -/

/-- BOOT_DIFF takes a value, and nothing else changes. -/
theorem State.bootDiff_eq_setB (s : State) : ∃ d, s.bootDiff = s.setB Reg.KLN_STAT_BOOT_DIFF d := ⟨_, rfl⟩

@[simp] theorem State.sansHost_bootDiff (s : State) : s.bootDiff.sansHost = s.sansHost := by
  obtain ⟨d, hd⟩ := s.bootDiff_eq_setB
  rw [hd, State.setB, State.sansHost_setF]

@[simp] theorem State.bootDiff_kln (s : State) : s.bootDiff.kln = s.kln := State.kln_of_sansHost s.sansHost_bootDiff

@[simp] theorem State.bootDiff_dram (s : State) : s.bootDiff.dram = s.dram := State.dram_of_sansHost s.sansHost_bootDiff

/-- BOOT_DIFF lies in KLN_STAT. -/
theorem State.rd_bootDiff_ne (s : State) {o : Nat} (h : o ≠ Reg.KLN_STAT) : s.bootDiff.rd o = s.rd o := by
  obtain ⟨d, hd⟩ := s.bootDiff_eq_setB
  rw [hd, State.rd_setB_ne _ _ _ h]

/-- BOOT_DIFF leaves BUSY alone. -/
@[simp] theorem State.busy_bootDiff (s : State) : s.bootDiff.flag Reg.KLN_STAT_BUSY = s.flag Reg.KLN_STAT_BUSY := by
  obtain ⟨d, hd⟩ := s.bootDiff_eq_setB
  rw [hd, State.setB, State.flag_setF_beside _ _ rfl rfl (by decide)]

/-! ### A write of KLN_CMD (R138, R147) -/

/-- The state in which a command that is taken finds the unit: the level counts as used and LAST_OP names the command. -/
def State.klnTaken (s : State) (i : Iface) (op : Nat) : State := (s.used i .engineer).setF Reg.KLN_STAT_LAST_OP op

@[simp] theorem State.sansHost_klnTaken (s : State) (i : Iface) (op : Nat) : (s.klnTaken i op).sansHost = s.sansHost := by
  rw [State.klnTaken, State.sansHost_setF, State.sansHost_used]

@[simp] theorem State.klnTaken_kln (s : State) (i : Iface) (op : Nat) : (s.klnTaken i op).kln = s.kln :=
  State.kln_of_sansHost (s.sansHost_klnTaken i op)

@[simp] theorem State.klnTaken_dram (s : State) (i : Iface) (op : Nat) : (s.klnTaken i op).dram = s.dram :=
  State.dram_of_sansHost (s.sansHost_klnTaken i op)

/-- Taking a command writes KLN_STAT alone. -/
theorem State.rd_klnTaken_ne (s : State) (i : Iface) (op : Nat) {o : Nat} (h : o ≠ Reg.KLN_STAT) : (s.klnTaken i op).rd o = s.rd o := by
  rw [State.klnTaken, State.rd_setF_ne _ _ _ h, State.rd_used]

section Engineer
variable {s : State} {i : Iface} (hlevel : s.level i = .engineer)
include hlevel

/-- At engineer level an operation is refused with BUSY while another is in progress (R138). -/
theorem State.klnOp_of_busy (op : Nat) (act : State → State) (hbusy : s.flag Reg.KLN_STAT_BUSY = true) :
    s.klnOp i op act = (s.used i .engineer).klnRefuse op 0x30 := by
  have hflag : (s.used i .engineer).flag Reg.KLN_STAT_BUSY = true := by rw [State.flag_congr (s.rd_used i .engineer _), hbusy]
  simp only [State.klnOp, State.may, hlevel, Level.ge, Bool.not_true, Bool.false_eq_true, if_false, hflag, if_true]

/-- At engineer level an operation is taken while no other is in progress (R138). -/
theorem State.klnOp_of_free (op : Nat) (act : State → State) (hfree : s.flag Reg.KLN_STAT_BUSY = false) :
    s.klnOp i op act = act (s.klnTaken i op) := by
  have hflag : (s.used i .engineer).flag Reg.KLN_STAT_BUSY = false := by rw [State.flag_congr (s.rd_used i .engineer _), hfree]
  simp only [State.klnOp, State.may, hlevel, Level.ge, Bool.not_true, Bool.false_eq_true, if_false, hflag]
  rfl

end Engineer

/-- The operation that a command word asks for. -/
theorem bits_withOp (v : Word) {op : Nat} (h : op < 16) : bits (withOp v op) 3 0 = op := by
  simp only [bits, withOp, Nat.shiftRight_zero]
  omega

/-- The slot or the key that a command word names. -/
theorem bits_withOp_operand (v : Word) {op : Nat} (h : op < 16) (hi : Nat) {lo : Nat} (hlo : 4 ≤ lo) :
    bits (withOp v op) hi lo = bits v.toNat hi lo := by
  have hdiv : withOp v op >>> lo = v.toNat >>> lo := by
    obtain ⟨d, rfl⟩ := Nat.exists_eq_add_of_le hlo
    rw [Nat.shiftRight_add, Nat.shiftRight_add]
    congr 1
    simp only [withOp, Nat.shiftRight_eq_div_pow]
    omega
  rw [bits, bits, hdiv]

section Command
variable {s : State} {i : Iface} (hup : s.hostUp = true) (v : Word)
include hup

theorem exec_klnStore : exec (.klnStore i v) s =
    .next ((s.klnOp i 1 fun s => s.klnStore (bits v.toNat 5 4)).spiEnd i) := by
  change execKlnStore i v s = _
  simp only [execKlnStore, State.hostRow, hup, if_true, State.klnCmd, bits_withOp v (show 1 < 16 by decide),
    bits_withOp_operand v (show 1 < 16 by decide) 5 (le_refl 4)]

theorem exec_klnRefire : exec (.klnRefire i v) s =
    .next ((s.klnOp i 2 fun s => s.klnRefire i (bits v.toNat 5 4)).spiEnd i) := by
  change execKlnRefire i v s = _
  simp only [execKlnRefire, State.hostRow, hup, if_true, State.klnCmd, bits_withOp v (show 2 < 16 by decide),
    bits_withOp_operand v (show 2 < 16 by decide) 5 (le_refl 4)]

theorem exec_klnJclear : exec (.klnJclear i v) s = .next ((s.klnOp i 4 State.klnJclear).spiEnd i) := by
  change execKlnJclear i v s = _
  simp only [execKlnJclear, State.hostRow, hup, if_true, State.klnCmd, bits_withOp v (show 4 < 16 by decide)]

theorem exec_klnRevoke : exec (.klnRevoke i v) s =
    .next ((s.klnOp i 5 fun s => s.klnRevoke (bits v.toNat 9 8)).spiEnd i) := by
  change execKlnRevoke i v s = _
  simp only [execKlnRevoke, State.hostRow, hup, if_true, State.klnCmd, bits_withOp v (show 5 < 16 by decide),
    bits_withOp_operand v (show 5 < 16 by decide) 9 (show 4 ≤ 8 by decide)]

theorem exec_klnInvalidate : exec (.klnInvalidate i v) s =
    .next ((s.klnOp i 6 fun s => s.klnInvalidate (bits v.toNat 5 4)).spiEnd i) := by
  change execKlnInvalidate i v s = _
  simp only [execKlnInvalidate, State.hostRow, hup, if_true, State.klnCmd, bits_withOp v (show 6 < 16 by decide),
    bits_withOp_operand v (show 6 < 16 by decide) 5 (le_refl 4)]

end Command

/-! ### Codes of a refused image (R121, R148) -/

/-- Steps 1–5 answer a code of one byte. -/
theorem steps15_lt (kind maxLen prog rev : Nat) (b : List Byte) : steps15 kind maxLen prog rev b < 256 := by
  have h1 : Sys2Proof.Machine.step1 kind maxLen b < 256 := by
    simp only [Sys2Proof.Machine.step1]
    split_ifs <;> decide
  have h2 : step234 prog rev b < 256 := by
    simp only [step234]
    split_ifs <;> decide
  have h3 : step5 b < 256 := by
    simp only [step5]
    split_ifs <;> decide
  simp only [steps15]
  split_ifs
  · exact h1
  · exact h2
  · exact h3

/-- Step 7 answers a code of one byte. -/
theorem step7_lt (c : Conf) (ts : List (Nat × Nat × Nat)) : step7 c ts < 256 := by
  simp only [step7]
  split_ifs <;> decide

/-- The code of an image that fails is one byte. -/
theorem State.judge_lt (s : State) (b : List Byte) : (s.judge b).1 < 256 := by
  unfold State.judge
  dsimp only
  split
  · exact steps15_lt ..
  · exact step7_lt ..

/-! ### STORE and REFIRE, refused or begun (R126, R130, R138) -/

/-- STORE and REFIRE answer a refusal with a code of one byte, or set BUSY. -/
def State.refusedOrBegun (s : State) (op : Nat) (t : State) : Prop :=
  (∃ code, 0 < code ∧ code < 256 ∧ t = s.klnRefuse op code) ∨ t.flag Reg.KLN_STAT_BUSY = true

theorem State.klnStore_refusedOrBegun (s : State) (u : Nat) : s.refusedOrBegun 1 (s.klnStore u) := by
  simp only [State.klnStore]
  split_ifs with hslot hsrc himg
  · exact .inl ⟨0x38, by decide, by decide, rfl⟩
  · exact .inl ⟨0x37, by decide, by decide, rfl⟩
  · exact .inl ⟨_, Nat.pos_of_ne_zero himg, s.judge_lt _, rfl⟩
  · exact .inr (by rw [State.busy_bootDiff, State.busy_klnBusy]; rfl)

theorem State.klnRefire_refusedOrBegun (s : State) (i : Iface) (u : Nat) : s.refusedOrBegun 2 (s.klnRefire i u) := by
  unfold State.klnRefire
  split_ifs with hslot
  · exact .inl ⟨0x35, by decide, by decide, rfl⟩
  · exact .inr (s.busy_klnBusy _)

/-- What is refused reports an error and goes on as it was; what begins sets BUSY. -/
theorem State.busy_of_refusedOrBegun {s t : State} {op : Nat} (i : Iface) (h : s.refusedOrBegun op t) :
    ((t.spiEnd i).flag Reg.KLN_STAT_BUSY = true ∨ 0 < (t.spiEnd i).getF Reg.KLN_STAT_LAST_ERR) ∧
      ((t.spiEnd i).kln.op ≠ s.kln.op → (t.spiEnd i).flag Reg.KLN_STAT_BUSY = true) := by
  rw [State.flag_spiEnd, State.getF_spiEnd, State.spiEnd_kln]
  obtain ⟨code, hpos, hlt, rfl⟩ | hbusy := h
  · rw [State.lastErr_klnRefuse, State.klnRefuse_kln, Nat.mod_eq_of_lt hlt]
    exact ⟨.inr hpos, fun hne => absurd rfl hne⟩
  · exact ⟨.inl hbusy, fun _ => hbusy⟩

/-! ### The statement KilnTakesOneOperationAtATime -/

/-- What a command answers that finds another operation in progress (R138). -/
theorem State.busy_refusal (s : State) (i : Iface) (op : Nat) (hbusy : s.flag Reg.KLN_STAT_BUSY = true) (t : State)
    (ht : t = ((s.used i .engineer).klnRefuse op 0x30).spiEnd i) :
    t.getF Reg.KLN_STAT_LAST_ERR = 0x30 ∧ t.getF Reg.KLN_ERR_CODE = 0x30 ∧ t.flag Reg.KLN_STAT_BUSY = true ∧ t.kln = s.kln ∧
      s.regsKept [Reg.KLN_STAT, Reg.KLN_ERR, Reg.UNIT_IRQ .kln] t ∧ t = { s with regs := t.regs, hst := t.hst } := by
  have hframe : t.sansHost = s.sansHost := by rw [ht, State.sansHost_spiEnd, State.sansHost_klnRefuse, State.sansHost_used]
  refine ⟨?_, ?_, ?_, State.kln_of_sansHost hframe, fun o ho => ?_, State.frame_of_sansHost hframe⟩
  · rw [ht, State.getF_spiEnd, State.lastErr_klnRefuse]
  · rw [ht, State.getF_spiEnd, State.errCode_klnRefuse]
  · rw [ht, State.flag_spiEnd, State.busy_klnRefuse, State.flag_congr (s.rd_used i .engineer _), hbusy]
  · rw [ht, State.rd_spiEnd, State.regsKept_klnRefuse _ _ _ o ho, State.rd_used]

/-- Settles O7: each of the five commands goes through `State.klnOp`, which refuses it while BUSY is 1. -/
theorem kilnTakesOneOperationAtATime : Obligations.KilnTakesOneOperationAtATime := by
  intro s i hup hlevel v
  refine ⟨fun hbusy c hc => ?_, fun hfree c hc => ?_⟩
  · have hop (op : Nat) (act : State → State) := State.klnOp_of_busy hlevel op act hbusy
    have hans (op : Nat) := s.busy_refusal i op hbusy _ rfl
    simp only [List.mem_cons, List.not_mem_nil, or_false] at hc
    obtain rfl | rfl | rfl | rfl | rfl := hc
    · exact ⟨_, by rw [exec_klnStore hup, hop], hans 1⟩
    · exact ⟨_, by rw [exec_klnRefire hup, hop], hans 2⟩
    · exact ⟨_, by rw [exec_klnJclear hup, hop], hans 4⟩
    · exact ⟨_, by rw [exec_klnRevoke hup, hop], hans 5⟩
    · exact ⟨_, by rw [exec_klnInvalidate hup, hop], hans 6⟩
  · have hop (op : Nat) (act : State → State) := State.klnOp_of_free hlevel op act hfree
    have hans (op : Nat) {t : State} (h : (s.klnTaken i op).refusedOrBegun op t) := State.busy_of_refusedOrBegun i h
    simp only [State.klnTaken_kln] at hans
    simp only [List.mem_cons, List.not_mem_nil, or_false] at hc
    obtain rfl | rfl := hc
    · exact ⟨_, by rw [exec_klnStore hup, hop], hans 1 (State.klnStore_refusedOrBegun ..)⟩
    · exact ⟨_, by rw [exec_klnRefire hup, hop], hans 2 (State.klnRefire_refusedOrBegun ..)⟩

end Sys2Proof.Machine
end

section
/-!
The image slots of the kiln unit: STORE, its end, INVALIDATE, JCLEAR and REVOKE (R126, R127, R129, R145, R147), and the statement
KilnSlotsChangeOnlyAsCommanded.
-/
namespace Sys2Proof.Machine

/-! ### Slots (R126, R129) -/

theorem State.slotMem_congr {s t : State} (h : t.kln = s.kln) (u : Nat) : t.slotMem u = s.slotMem u := by
  rw [State.slotMem, State.slotMem, h]

@[simp] theorem State.slotMem_bootDiff (s : State) (u : Nat) : s.bootDiff.slotMem u = s.slotMem u := State.slotMem_congr s.bootDiff_kln u

@[simp] theorem State.slotMem_klnBusy (s : State) (op : Option KlnOp) (u : Nat) : (s.klnBusy op).slotMem u = s.slotMem u := (rfl)

/-- A slot put reads as put. -/
theorem State.slotMem_setSlotMem_same (s : State) (u : Nat) (m : List Host.Cell) : (s.setSlotMem u m).slotMem u = m := by
  by_cases h : u = 0 <;> simp [State.slotMem, State.setSlotMem, h]

/-- A put of one slot leaves the other alone. -/
theorem State.slotMem_setSlotMem_other (s : State) {u : Nat} (hu : u < 2) (m : List Host.Cell) :
    (s.setSlotMem u m).slotMem (1 - u) = s.slotMem (1 - u) := by
  obtain rfl | rfl : u = 0 ∨ u = 1 := by omega
  · rfl
  · rfl

@[simp] theorem State.rd_setSlotMem (s : State) (u : Nat) (m : List Host.Cell) (o : Nat) : (s.setSlotMem u m).rd o = s.rd o := (rfl)

@[simp] theorem State.setSlotMem_dram (s : State) (u : Nat) (m : List Host.Cell) : (s.setSlotMem u m).dram = s.dram := (rfl)

/-- A change of the kiln unit's own state writes no register. -/
theorem State.rd_with_kln (s : State) (k : KlnSt) (o : Nat) : ({ s with kln := k } : State).rd o = s.rd o := (rfl)

/-- The bytes of a slot whose header is invalidated. -/
def headerErased (m : List Host.Cell) : List Host.Cell := Mem.wrN m 0 (List.replicate 4 0)

/-- Erasing zeroes the four bytes that begin the header and keeps the others. -/
theorem rd_headerErased (m : List Host.Cell) :
    (∀ k, k < 4 → Mem.rd (headerErased m) k = 0) ∧ ∀ k, 4 ≤ k → Mem.rd (headerErased m) k = Mem.rd m k := by
  refine ⟨fun k hk => ?_, fun k hk => Mem.rd_wrN_outside _ _ _ (.inr (by simpa using hk))⟩
  have hlen : k < (List.replicate 4 (0 : BitVec 8)).length := by simpa using hk
  have hread := Mem.rd_wrN_inside m 0 (List.replicate 4 0) hlen
  rw [Nat.zero_add, List.getElem_replicate] at hread
  exact hread

/-- Bytes written read back. -/
theorem Mem.rdN_wrN_same (m : List Host.Cell) (a : Nat) (bs : List Byte) : Mem.rdN (Mem.wrN m a bs) a bs.length = bs := by
  refine List.ext_getElem (by simp [Mem.rdN]) fun k hk hk' => ?_
  simp only [Mem.rdN, List.getElem_map, List.getElem_range]
  exact Mem.rd_wrN_inside m a bs hk'

/-! ### What a command finds -/

section Taken
variable (s : State) (i : Iface) (op : Nat)

/-- The verification of an image rests on the kiln unit's own state, the variant and the clock. -/
theorem State.judge_klnTaken (b : List Byte) : (s.klnTaken i op).judge b = s.judge b := by
  have hview := s.sansHost_klnTaken i op
  rw [State.judge, State.judge, State.kln_of_sansHost hview, State.variant_of_sansHost hview, State.tm_of_sansHost hview]

theorem State.slotMem_klnTaken (u : Nat) : (s.klnTaken i op).slotMem u = s.slotMem u := State.slotMem_congr (s.klnTaken_kln i op) u

theorem State.dramRd_klnTaken (a n : Nat) : (s.klnTaken i op).dramRd a n = s.dramRd a n := by
  rw [State.dramRd, State.dramRd, s.klnTaken_dram i op]

theorem State.dramSize_klnTaken : (s.klnTaken i op).dramSize = s.dramSize := by
  rw [State.dramSize, State.dramSize, State.variant_of_sansHost (s.sansHost_klnTaken i op)]

theorem State.sealOpen_klnTaken : (s.klnTaken i op).sealOpen = s.sealOpen := State.flag_congr (s.rd_klnTaken_ne i op (by decide))

/-- LAST_OP leaves FIRED alone. -/
theorem State.fired_klnTaken : (s.klnTaken i op).getF Reg.KLN_STAT_FIRED = s.getF Reg.KLN_STAT_FIRED := by
  rw [State.klnTaken, State.getF_setF_beside _ _ rfl rfl (by decide), State.getF_congr (s.rd_used i .engineer _)]

end Taken
/-- A command word names slot u. -/
theorem bits_slotWord {u : Nat} (hu : u < 4) : bits (BitVec.ofNat 32 (16 * u)).toNat 5 4 = u := by
  simp only [bits, BitVec.toNat_ofNat, Nat.shiftRight_eq_div_pow]
  omega

/-- A command word names key k. -/
theorem bits_keyWord {k : Nat} (hk : k < 4) : bits (BitVec.ofNat 32 (256 * k)).toNat 9 8 = k := by
  simp only [bits, BitVec.toNat_ofNat, Nat.shiftRight_eq_div_pow]
  omega

/-! ### STORE (R126, R127) -/

/-- A STORE of an image begins: the slot's header is erased and the image staged. -/
def State.storeBegun (s : State) (u : Nat) (b : List Byte) : State :=
  let s := s.setSlotMem u (headerErased (s.slotMem u))
  ({ s with kln := { s.kln with staged := b.take (imgLen b) } }.klnBusy (some (.store u))).bootDiff

/-- STORE to a slot from bytes within DRAM: refused with the image's code, or begun. -/
theorem State.klnStore_of_source {s : State} {u n a : Nat} (hu : u < 2) (hn : s.rd Reg.KLN_SRC_LEN = n)
    (ha : s.rd Reg.KLN_SRC_ADDR = a) (h16 : n % 16 = 0) (hmax : n ≤ slotMax) (hfit : a + n ≤ s.dramSize) :
    s.klnStore u = if (s.judge (s.dramRd a n)).1 ≠ 0 then s.klnRefuse 1 (s.judge (s.dramRd a n)).1
      else s.storeBegun u (s.dramRd a n) := by
  have hsrc : ¬(n % 16 ≠ 0 ∨ n > slotMax ∨ a + n > s.dramSize) := by omega
  simp only [State.klnStore, hn, ha, if_neg (show ¬u > 1 by omega), if_neg hsrc]
  rfl

/-- A STORE that begins erases the header in its slot, keeps the other slot, and sets BUSY. -/
theorem State.storeBegun_sets (s : State) {u : Nat} (hu : u < 2) (b : List Byte) :
    (s.storeBegun u b).dram = s.dram ∧ (s.storeBegun u b).kln.op = some (.store u) ∧
      (s.storeBegun u b).flag Reg.KLN_STAT_BUSY = true ∧ (s.storeBegun u b).kln.staged = b.take (imgLen b) ∧
      (s.storeBegun u b).slotMem u = headerErased (s.slotMem u) ∧ (s.storeBegun u b).slotMem (1 - u) = s.slotMem (1 - u) := by
  unfold State.storeBegun
  refine ⟨?_, ?_, ?_, ?_, ?_, ?_⟩
  · rw [State.bootDiff_dram, State.klnBusy_dram]
    rfl
  · rw [State.bootDiff_kln, State.klnBusy_kln]
  · rw [State.busy_bootDiff, State.busy_klnBusy]
    rfl
  · rw [State.bootDiff_kln, State.klnBusy_kln]
  · rw [State.slotMem_bootDiff, State.slotMem_klnBusy]
    exact State.slotMem_setSlotMem_same ..
  · rw [State.slotMem_bootDiff, State.slotMem_klnBusy]
    exact State.slotMem_setSlotMem_other _ hu _

section Free
variable {s : State} {i : Iface} (hup : s.hostUp = true) (hlevel : s.level i = .engineer)
  (hfree : s.flag Reg.KLN_STAT_BUSY = false)
include hup hlevel hfree

/-- STORE erases the header and stages the image, or is refused with the image's code (R126). -/
theorem klnStore_stores {u n a e : Nat} (hu : u < 2) (hn : n = s.rd Reg.KLN_SRC_LEN) (ha : a = s.rd Reg.KLN_SRC_ADDR)
    (h16 : n % 16 = 0) (hmax : n ≤ slotMax) (hfit : a + n ≤ s.dramSize) (he : e = (s.judge (s.dramRd a n)).1) :
    ∃ t, exec (.klnStore i (BitVec.ofNat 32 (16 * u))) s = .next t ∧ t.dram = s.dram ∧
      (e = 0 → t.kln.op = some (.store u) ∧ t.flag Reg.KLN_STAT_BUSY = true ∧
        t.kln.staged = (s.dramRd a n).take (imgLen (s.dramRd a n)) ∧ (∀ k, k < 4 → Mem.rd (t.slotMem u) k = 0) ∧
        (∀ k, 4 ≤ k → Mem.rd (t.slotMem u) k = Mem.rd (s.slotMem u) k) ∧ t.slotMem (1 - u) = s.slotMem (1 - u)) ∧
      (e ≠ 0 → t.getF Reg.KLN_STAT_LAST_ERR = e % 256 ∧ t.kln = s.kln) := by
  have hstore := State.klnStore_of_source (s := s.klnTaken i 1) hu ((s.rd_klnTaken_ne i 1 (by decide)).trans hn.symm)
    ((s.rd_klnTaken_ne i 1 (by decide)).trans ha.symm) h16 hmax (by rw [State.dramSize_klnTaken]; exact hfit)
  rw [State.dramRd_klnTaken, State.judge_klnTaken, ← he] at hstore
  refine ⟨_, exec_klnStore hup _, ?_⟩
  rw [bits_slotWord (by omega), State.klnOp_of_free hlevel _ _ hfree, hstore]
  by_cases hz : e = 0
  · obtain ⟨hdram, hop, hbusy, hstaged, hslot, hother⟩ := (s.klnTaken i 1).storeBegun_sets hu (s.dramRd a n)
    rw [State.slotMem_klnTaken] at hslot hother
    rw [if_neg (not_not.2 hz), State.spiEnd_dram, State.spiEnd_kln, State.flag_spiEnd, State.slotMem_congr (State.spiEnd_kln _ i),
      State.slotMem_congr (State.spiEnd_kln _ i), hdram, hslot, State.klnTaken_dram]
    obtain ⟨hzero, hkept⟩ := rd_headerErased (s.slotMem u)
    exact ⟨rfl, fun _ => ⟨hop, hbusy, hstaged, hzero, hkept, hother⟩, fun hne => absurd hz hne⟩
  · rw [if_pos hz, State.spiEnd_dram, State.spiEnd_kln, State.getF_spiEnd, State.klnRefuse_dram, State.klnRefuse_kln,
      State.lastErr_klnRefuse, State.klnTaken_dram, State.klnTaken_kln]
    exact ⟨rfl, fun h => absurd h hz, fun _ => ⟨rfl, rfl⟩⟩

/-! ### INVALIDATE, JCLEAR, REVOKE (R129, R145, R147) -/

/-- INVALIDATE erases the header in slot 0 or 1 and is refused for the others (R129). -/
theorem klnInvalidate_erases {u : Nat} (hu : u < 4) :
    ∃ t, exec (.klnInvalidate i (BitVec.ofNat 32 (16 * u))) s = .next t ∧ t.dram = s.dram ∧
      (u < 2 → (∀ k, k < 4 → Mem.rd (t.slotMem u) k = 0) ∧ (∀ k, 4 ≤ k → Mem.rd (t.slotMem u) k = Mem.rd (s.slotMem u) k) ∧
        t.slotMem (1 - u) = s.slotMem (1 - u) ∧ s.regsKept [Reg.KLN_STAT] t) ∧
      (2 ≤ u → t.getF Reg.KLN_STAT_LAST_ERR = 0x38 ∧ t.kln = s.kln) := by
  refine ⟨_, exec_klnInvalidate hup _, ?_⟩
  rw [bits_slotWord hu, State.klnOp_of_free hlevel _ _ hfree, State.klnInvalidate]
  by_cases hslot : u < 2
  · rw [if_neg (show ¬u > 1 by omega), State.spiEnd_dram, State.slotMem_congr (State.spiEnd_kln _ i),
      State.slotMem_congr (State.spiEnd_kln _ i), State.slotMem_bootDiff, State.slotMem_bootDiff, State.slotMem_setSlotMem_same,
      State.slotMem_setSlotMem_other _ hslot, State.slotMem_klnTaken, State.slotMem_klnTaken, State.bootDiff_dram,
      State.setSlotMem_dram]
    obtain ⟨hzero, hkept⟩ := rd_headerErased (s.slotMem u)
    refine ⟨s.klnTaken_dram i 6, fun _ => ⟨hzero, hkept, rfl, fun o ho => ?_⟩, fun h => absurd h (by omega)⟩
    rw [List.mem_singleton] at ho
    rw [State.rd_spiEnd, State.rd_bootDiff_ne _ ho, State.rd_setSlotMem, s.rd_klnTaken_ne i 6 ho]
  · rw [if_pos (show u > 1 by omega), State.spiEnd_dram, State.spiEnd_kln, State.getF_spiEnd, State.klnRefuse_dram,
      State.klnRefuse_kln, State.lastErr_klnRefuse, State.klnTaken_dram, State.klnTaken_kln]
    exact ⟨rfl, fun h => absurd h hslot, fun _ => ⟨rfl, rfl⟩⟩

/-- JCLEAR empties a journal without sealed entries (R145). -/
theorem klnJclear_empties (v : Word) (hseal : (s.kln.journal.any fun e => e.cls == 2) = false) :
    ∃ t, exec (.klnJclear i v) s = .next t ∧ t.kln = { s.kln with journal := [] } ∧ t.dram = s.dram := by
  refine ⟨_, exec_klnJclear hup v, ?_⟩
  rw [State.klnOp_of_free hlevel _ _ hfree, State.klnJclear, State.klnTaken_kln, hseal, Bool.false_and,
    if_neg Bool.false_ne_true, State.spiEnd_kln, State.spiEnd_dram]
  refine ⟨rfl, ?_⟩
  dsimp only
  exact s.klnTaken_dram i 4

/-- REVOKE with the seal open, of a key that did not fire the running image, revokes it (R147). -/
theorem klnRevoke_revokes {k : Nat} (hk : k < 4) (hopen : s.sealOpen = true)
    (hkey : s.getF Reg.KLN_STAT_FIRED < 3 → k ≠ s.kln.firedKey) :
    ∃ t, exec (.klnRevoke i (BitVec.ofNat 32 (256 * k))) s = .next t ∧ t.kln = { s.kln with otpRev := s.kln.otpRev ||| 2 ^ k } ∧
      (s.kln.otpRev < 16 → t.getF Reg.KLN_OTP_STAT_REVOKED = s.kln.otpRev ||| 2 ^ k) ∧
      s.regsKept [Reg.KLN_STAT, Reg.KLN_OTP_STAT] t := by
  have hfired : ¬((s.klnTaken i 5).getF Reg.KLN_STAT_FIRED < 3 ∧ k = (s.klnTaken i 5).kln.firedKey) := by
    rw [State.fired_klnTaken, State.klnTaken_kln]
    exact fun h => hkey h.1 h.2
  refine ⟨_, exec_klnRevoke hup _, ?_⟩
  rw [bits_keyWord hk, State.klnOp_of_free hlevel _ _ hfree, State.klnRevoke, State.sealOpen_klnTaken, hopen, if_neg hfired,
    State.spiEnd_kln, State.getF_spiEnd]
  simp only [Bool.not_true, Bool.false_eq_true, if_false, State.bootDiff_kln, putBit, if_true, State.klnTaken_kln]
  refine ⟨rfl, fun hlt => ?_, fun o ho => ?_⟩
  · rw [State.getF_congr (State.rd_bootDiff_ne _ (by decide)), State.getF_setF _ _ _ rfl]
    have hbit : 2 ^ k < 2 ^ 4 := Nat.pow_lt_pow_right (by decide) hk
    exact Nat.mod_eq_of_lt (Nat.or_lt_two_pow (by omega) hbit)
  · simp only [List.mem_cons, List.not_mem_nil, or_false, not_or] at ho
    obtain ⟨hstat, hotp⟩ := ho
    rw [State.rd_spiEnd, State.rd_bootDiff_ne _ hstat, State.rd_setF_ne _ _ _ hotp, State.rd_with_kln,
      s.rd_klnTaken_ne i 5 hstat]

/-- REVOKE needs the open seal (R147). -/
theorem klnRevoke_of_sealed {k : Nat} (hseal : s.sealOpen = false) :
    ∃ t, exec (.klnRevoke i (BitVec.ofNat 32 (256 * k))) s = .next t ∧ t.kln = s.kln ∧ t.getF Reg.KLN_STAT_LAST_ERR = 0x32 := by
  refine ⟨_, exec_klnRevoke hup _, ?_⟩
  rw [State.klnOp_of_free hlevel _ _ hfree, State.klnRevoke, State.sealOpen_klnTaken, hseal, Bool.not_false, if_pos rfl,
    State.spiEnd_kln, State.getF_spiEnd, State.klnRefuse_kln, State.klnTaken_kln, State.lastErr_klnRefuse]
  exact ⟨rfl, rfl⟩

end Free

/-! ### The end of a STORE (R126, R127) -/

/-- The staged bytes stand in the slot, and no operation is in progress. -/
def State.storeEnded (s : State) (u : Nat) : State :=
  let s := s.setSlotMem u (Mem.wrN (s.slotMem u) 0 s.kln.staged)
  (({ s with kln := { s.kln with staged := [] } }.klnBusy none).bootDiff).irq .kln 0

theorem exec_klnStoreDone {s : State} {u : Nat} (hop : s.kln.op = some (.store u)) : exec .klnStoreDone s = .next (s.storeEnded u) := by
  change execKlnStoreDone s = _
  simp only [execKlnStoreDone, hop]
  rfl

/-- The end of a STORE writes the staged bytes and nothing else of the slots, clears BUSY and sets STORED. -/
theorem State.storeEnded_sets (s : State) {u : Nat} (hu : u < 2) :
    (s.storeEnded u).kln.op = none ∧ (s.storeEnded u).flag Reg.KLN_STAT_BUSY = false ∧
      (s.storeEnded u).flag ⟨Reg.UNIT_IRQ .kln, 0, 0⟩ = true ∧
      (s.storeEnded u).slotMem u = Mem.wrN (s.slotMem u) 0 s.kln.staged ∧ (s.storeEnded u).slotMem (1 - u) = s.slotMem (1 - u) ∧
      s.regsKept [Reg.KLN_STAT, Reg.UNIT_IRQ .kln] (s.storeEnded u) ∧
      s.storeEnded u = { s with regs := (s.storeEnded u).regs, kln := (s.storeEnded u).kln, hst := (s.storeEnded u).hst } := by
  unfold State.storeEnded
  have hkln (t : State) : (t.bootDiff.irq .kln 0).kln = t.kln := State.kln_of_sansHost (by rw [State.sansHost_irq, State.sansHost_bootDiff])
  refine ⟨?_, ?_, ?_, ?_, ?_, fun o ho => ?_, ?_⟩
  · rw [hkln, State.klnBusy_kln]
  · rw [State.flag_congr (State.rd_irq_ne _ _ _ (by decide)), State.busy_bootDiff, State.busy_klnBusy]
    rfl
  · rw [State.flag_bit, State.testBit_rd_irq _ _ _ _ (by decide)]
    rfl
  · rw [State.slotMem_congr (hkln _), State.slotMem_klnBusy]
    exact State.slotMem_setSlotMem_same ..
  · rw [State.slotMem_congr (hkln _), State.slotMem_klnBusy]
    exact State.slotMem_setSlotMem_other _ hu _
  · simp only [List.mem_cons, List.not_mem_nil, or_false, not_or] at ho
    obtain ⟨hstat, hirq⟩ := ho
    rw [State.rd_irq_ne _ _ _ hirq, State.rd_bootDiff_ne _ hstat, State.rd_klnBusy_ne _ _ hstat]
    rfl
  · refine State.frame_of_sansHost_kln
      (k := { (s.setSlotMem u (Mem.wrN (s.slotMem u) 0 s.kln.staged)).kln with staged := [], op := none }) ?_
    rw [State.sansHost_irq, State.sansHost_bootDiff, State.sansHost_klnBusy]
    rfl

/-- KLN_STORE_DONE writes exactly the staged bytes (R127). -/
theorem klnStoreDone_stores {s : State} {u : Nat} (hu : u < 2) (hop : s.kln.op = some (.store u)) :
    ∃ t, exec .klnStoreDone s = .next t ∧ t.kln.op = none ∧ t.flag Reg.KLN_STAT_BUSY = false ∧
      t.flag ⟨Reg.UNIT_IRQ .kln, 0, 0⟩ = true ∧ Mem.rdN (t.slotMem u) 0 s.kln.staged.length = s.kln.staged ∧
      (∀ k, s.kln.staged.length ≤ k → Mem.rd (t.slotMem u) k = Mem.rd (s.slotMem u) k) ∧ t.slotMem (1 - u) = s.slotMem (1 - u) ∧
      s.regsKept [Reg.KLN_STAT, Reg.UNIT_IRQ .kln] t ∧ t = { s with regs := t.regs, kln := t.kln, hst := t.hst } := by
  obtain ⟨hnone, hbusy, hirq, hslot, hother, hregs, hframe⟩ := s.storeEnded_sets hu
  refine ⟨_, exec_klnStoreDone hop, hnone, hbusy, hirq, ?_, fun k hk => ?_, hother, hregs, hframe⟩
  · rw [hslot, Mem.rdN_wrN_same]
  · rw [hslot, Mem.rd_wrN_outside _ _ _ (.inr (by omega))]

/-! ### The statement KilnSlotsChangeOnlyAsCommanded -/

/-- Settles O8: each command that finds the unit free acts as its own lemma says, and so does the end of a STORE. -/
theorem kilnSlotsChangeOnlyAsCommanded : Obligations.KilnSlotsChangeOnlyAsCommanded := by
  intro s
  refine ⟨fun i hup hlevel hfree => ⟨?_, ?_, ?_, ?_, ?_⟩, fun u hu hop => klnStoreDone_stores hu hop⟩
  · exact fun u hu n hn a ha h16 hmax hfit e he => klnStore_stores hup hlevel hfree hu hn ha h16 hmax hfit he
  · exact fun u hu => klnInvalidate_erases hup hlevel hfree hu
  · exact fun v hseal => klnJclear_empties hup hlevel hfree v hseal
  · exact fun k hk hopen hkey => klnRevoke_revokes hup hlevel hfree hk hopen hkey
  · exact fun k _ hseal => klnRevoke_of_sealed hup hlevel hfree hseal

end Sys2Proof.Machine
end

section
/-!
PATCH with SCHED = 3, which names no schedule: the request is malformed and refused, so no course is prepared (R166, R681), and the
statement PatchJudgesEveryEntry.
-/
namespace Sys2Proof.Machine

/-! ### What leaves the course engine alone -/

@[simp] theorem State.crs_patchRes (s : State) (err course entry : Nat) : (s.patchRes err course entry).crs = s.crs := by
  unfold State.patchRes
  dsimp only
  split
  · simp only [State.setF_crs]
  · simp only [State.irq_crs, State.setF_crs]

@[simp] theorem State.crs_bump (s : State) : s.bump.crs = s.crs := (rfl)

@[simp] theorem State.crs_used (s : State) (i : Iface) (l : Level) : (s.used i l).crs = s.crs := by
  unfold State.used
  split <;> rfl

@[simp] theorem State.crs_deny (s : State) (i : Iface) : (s.deny i).crs = s.crs := by
  unfold State.deny
  cases i <;> simp [State.spiFlag]

@[simp] theorem State.crs_spiEnd (s : State) (i : Iface) : (s.spiEnd i).crs = s.crs := by
  unfold State.spiEnd
  cases i <;> rfl

/-- Journal entries leave the course engine alone. -/
@[simp] theorem State.crs_journalPut (s : State) (level : Nat) (es : List (Nat × Nat)) : (s.journalPut level es).crs = s.crs :=
  foldl_keeps State.crs _ es s fun _ _ _ => rfl

/-- A discarded course of PATCH drops its journal entries and leaves the course engine alone (R143). -/
theorem State.crs_discardHook_of_patch (s : State) {c : Slot} {keys : List (Nat × Nat)} (h : c.tag = .patch keys) :
    (s.discardHook c).crs = s.crs := by
  simp only [State.discardHook, h]

/-! ### A request with late policy 3 (R166, R681) -/

/-- A request with late policy 3 has a bad form. -/
theorem CReq.bad_of_policy {r : CReq} (h : r.policy = 3) : r.bad = true := by
  simp [CReq.bad, h]

/-- A request with late policy 3 is refused. -/
theorem State.refusal_of_policy (s : State) {r : CReq} (h : r.policy = 3) : s.refusal r ≠ 0 := by
  simp only [State.refusal, CReq.bad_of_policy h, if_true]
  split_ifs <;> decide

/-- A refused request takes no slot. -/
theorem State.submit_of_refusal {s : State} {r : CReq} (h : s.refusal r ≠ 0) :
    (s.submit r).1.crs = s.crs ∧ (s.submit r).2.2 = none := by
  unfold State.submit
  dsimp only
  by_cases hbusy : s.refusal r = stBusy ∨ s.refusal r = stQuota
  · rw [if_pos hbusy]
    exact ⟨by rw [State.irq_crs, State.count_crs], rfl⟩
  · rw [if_neg hbusy, if_pos h]
    exact ⟨rfl, rfl⟩

/-- PATCH with SCHED = 3 prepares no course.  The branches are taken at the result `t` as a whole: its course engine is a projection,
and the kernel would evaluate the entries' checks to compare two of those. -/
theorem State.crs_klnPatch_of_sched {s : State} (i : Iface) (h : s.getF Reg.KLN_PATCH_CTL_SCHED = 3) : (s.klnPatch i).crs = s.crs := by
  generalize ht : s.klnPatch i = t
  revert ht
  have hsched : ((s.used i .operate).setF Reg.KLN_STAT_LAST_OP 3).getF Reg.KLN_PATCH_CTL_SCHED = 3 := by
    rw [State.getF_setF_ne _ _ (by decide), State.getF_congr (s.rd_used i .operate _), h]
  have hu : ((s.used i .operate).setF Reg.KLN_STAT_LAST_OP 3).crs = s.crs := by rw [State.setF_crs, State.crs_used]
  unfold State.klnPatch
  generalize (s.used i .operate).setF Reg.KLN_STAT_LAST_OP 3 = u at hsched hu ⊢
  have hdone (err course entry : Nat) : u.patchRes err course entry = t → t.crs = s.crs := by
    rintro rfl
    exact (u.crs_patchRes err course entry).trans hu
  refine iteInduction (motive := (· = t → t.crs = s.crs)) (fun _ => ?_) fun _ => ?_
  · rintro rfl
    rw [State.crs_patchRes, State.setF_crs, State.crs_deny]
  refine iteInduction (motive := (· = t → t.crs = s.crs)) (fun _ => hdone _ _ _) fun _ => ?_
  split
  · exact hdone _ _ _
  split
  · exact hdone _ _ _
  split
  · exact hdone _ _ _
  split
  · exact hdone _ _ _
  split
  · rintro rfl
    rw [State.crs_bump, State.crs_patchRes, hu]
  · intro ht
    conv_lhs at ht => with_reducible whnf
    split at ht
    next c hcourse =>
      rw [(State.submit_of_refusal (State.refusal_of_policy _ rfl)).2] at hcourse
      contradiction
    next =>
      rw [← ht, State.crs_bump, State.crs_patchRes, State.crs_discardHook_of_patch _ rfl,
        (State.submit_of_refusal (State.refusal_of_policy _ rfl)).1, State.crs_journalPut, hu]

/-- PATCH leaves the slots at the host's row as its command does. -/
theorem exec_klnPatch {s : State} (hup : s.hostUp = true) (i : Iface) (v : Word) :
    exec (.klnPatch i v) s = .next ((s.klnPatch i).spiEnd i) := by
  change execKlnPatch i v s = _
  simp only [execKlnPatch, State.hostRow, hup, if_true, State.klnCmd, bits_withOp v (show 3 < 16 by decide)]

/-! ### The statement PatchJudgesEveryEntry -/

/-- Everything is powered, every interface has operate access, and one entry is staged that passes its check: word 0 of the parameters of
the section 0x0300.  PATCH_CTL.SCHED is 3, which the premises do not exclude. -/
def malformedPatch : State :=
  let powered := { State.reset.pwr with parts := State.reset.pwr.parts.map fun p => { p with st := .on } }
  let unlocked := { State.reset.hst with acc := State.reset.hst.acc.map fun a => { a with level := .operate } }
  let fired := { State.reset.kln with secs := [⟨0x0300, 0, 0, 0, 0, 0, 0, [1, 0, 0, 0, 16, 0, 0, 0]⟩] }
  let s := { State.reset with pwr := powered, hst := unlocked, kln := fired }
  (((s.setF Reg.KLN_PATCH_CTL_COUNT 1).setF Reg.KLN_PATCH_CTL_SCHED 3).wr (Reg.KLN_PATCH_IDX 0) 0x03000000).setF (Reg.CRS_PORT_QUOTA 8) 1

/-- The course the statement expects of `malformedPatch`. -/
def malformedPatchRequest : CReq :=
  reqOf 8 malformedPatch.patchSched (malformedPatch.getF Reg.KLN_PATCH_CTL_LATE)
    ((malformedPatch.patchEntries 1).map fun e => ⟨10 * 2 ^ 28, e.1 / 65536 * 65536 + e.1 % 4096, e.2⟩) .none

theorem malformedPatch_open :
    malformedPatch.shaped = true ∧ malformedPatch.hostUp = true ∧ malformedPatch.may .pcie .operate = true := by
  decide +kernel

theorem malformedPatch_entries_pass : malformedPatch.getF Reg.KLN_PATCH_CTL_COUNT = 1 ∧
    (malformedPatch.patchEntries 1).all (fun e => malformedPatch.patchErr .pcie e == 0) = true ∧
    (malformedPatch.patchEntries 1).all
      (fun e => ((malformedPatch.patchDesc (e.1 / 65536) (e.1 % 4096)).map (·.cls)).getD 0 != 2) = true := by
  decide +kernel

theorem malformedPatch_course_fits : malformedPatch.kln.journal = [] ∧ malformedPatch.copiesOnly 8 = false ∧
    malformedPatch.patchSched = .immediate ∧ malformedPatch.refusal malformedPatchRequest = 0 ∧
    (malformedPatch.slot 0).st = .free ∧ malformedPatch.paired = false := by
  decide +kernel

theorem malformedPatch_sched : malformedPatch.getF Reg.KLN_PATCH_CTL_SCHED = 3 := by
  decide +kernel

/-- Refutes O10: with PATCH_CTL.SCHED = 3 the command asks for late policy 3, whatever PATCH_CTL.LATE says, so its request is refused and
slot 0 stays free, while the statement judges the request by LATE alone and expects a pending course. -/
theorem not_patchJudgesEveryEntry : ¬ Obligations.PatchJudgesEveryEntry := by
  intro h
  obtain ⟨hshaped, hup, hmay⟩ := malformedPatch_open
  obtain ⟨hcount, hpass, hclass⟩ := malformedPatch_entries_pass
  obtain ⟨hjournal, hcopies, hsched, hrefusal, hfree, hpaired⟩ := malformedPatch_course_fits
  obtain ⟨-, -, haccepted⟩ := h malformedPatch hshaped .pcie hup hmay 0 1 hcount.symm
  obtain ⟨t, ht, -, -, hpending, -⟩ :=
    haccepted (by decide) (by decide) hpass hjournal hcopies hclass malformedPatchRequest rfl hsched hrefusal hfree hpaired
  rw [exec_klnPatch hup] at ht
  injection ht with ht
  subst ht
  have hslot : (((malformedPatch.klnPatch .pcie).spiEnd .pcie).slot 0).st = .free := by
    rw [State.slot, State.crs_spiEnd, State.crs_klnPatch_of_sched .pcie malformedPatch_sched]
    exact hfree
  exact absurd (hpending.symm.trans hslot) (by decide)

end Sys2Proof.Machine
end

section
/-!
A standing trip course that steps the time word as it sets, and the statement StandingCoursesSetAndRearm.
-/
namespace Sys2Proof.Machine

/-- A decision of feeder 0 that is due, with no failed action. -/
def dueDecision : Decision := ⟨fdrSrc 0, 0, 0, none, 0, some none⟩

/-- The standing trip course of feeder 0 in slot 0, armed, with one REG action: a write of 1 to TBU_CMD, which is STEP; the staged time is
1 ns.  R156 and R172 keep such an action out of a standing course; the premises of the statement do not. -/
def steppingCourse : State :=
  let s := State.reset.setSlot 0 fun c =>
    { c with st := .standing, port := 5, sched := .standing, srcId := fdrSrc 0, acts := [⟨2 ^ 28 + Reg.TBU_CMD, 1, 1⟩] }
  { s with crs := { s.crs with decisions := [dueDecision] } }.wr Reg.TBU_SET_0 0x10000

theorem steppingCourse_shaped : steppingCourse.shaped = true ∧ steppingCourse.room 8 = true := by
  decide +kernel

/-- The course in slot 0 is armed and its decision is due. -/
theorem steppingCourse_armed : (steppingCourse.slot 0).srcId ≠ 0 ∧ (steppingCourse.slot 0).st = .standing ∧
    (steppingCourse.crs.decisions.find? fun d => d.src == (steppingCourse.slot 0).srcId && decide (d.due ≤ steppingCourse.tm.fc)) =
      some dueDecision := by
  decide +kernel

/-- Nothing keeps the course from setting. -/
theorem steppingCourse_sets : steppingCourse.flag (Reg.PRT_F_STAT_REFIRE ((steppingCourse.slot 0).srcId % 256)) = false ∧
    steppingCourse.decisionErr 0 dueDecision = none := by
  decide +kernel

/-- The record of the course takes the time word its own action has stepped. -/
theorem steppingCourse_record (t : State) (ht : exec (.standingCourseSet 0) steppingCourse = .next t) :
    (t.slot 0).recTw ≠ steppingCourse.tw := by
  have hrun : (match exec (.standingCourseSet 0) steppingCourse with
      | .next t => decide ((t.slot 0).recTw = 0x10000)
      | _ => false) = true := by decide +kernel
  rw [ht] at hrun
  rw [of_decide_eq_true hrun]
  decide +kernel

/-- Refutes O14: the actions of a course act before its record is taken, so a standing course whose action writes TBU_CMD.STEP records the
stepped time word and not the one before.  The statement does not ask that the actions be of a form a standing course may have. -/
theorem not_standingCoursesSetAndRearm : ¬ Obligations.StandingCoursesSetAndRearm := by
  intro h
  obtain ⟨hshaped, hroom⟩ := steppingCourse_shaped
  obtain ⟨hsource, harmed, hdue⟩ := steppingCourse_armed
  obtain ⟨hfeeder, hchecked⟩ := steppingCourse_sets
  obtain ⟨hdecision, -⟩ := h steppingCourse hshaped hroom 0 (by decide) hsource
  obtain ⟨-, hset⟩ := hdecision dueDecision hdue harmed
  obtain ⟨t, ht, -, -, -, hrecord, -⟩ := (hset (.inr hfeeder)).1 hchecked
  exact steppingCourse_record t ht hrecord

end Sys2Proof.Machine
end

section
/-!
A match window that closes with AFE_CH_MATCH_G at 0, and the statement ConversionsGiveSampleWords.
-/
namespace Sys2Proof.Machine

/-- The match window of channel 0 is full: 4,096 usable samples whose fit of y against x has slope −1.  AFE_CH_MATCH_G, the factor in
units of 2^−22, is 0. -/
def opposedWindow : State :=
  (State.reset.setAfeChan 0 fun x => { x with win := ⟨65536, 4096, 0, 0, 4096, -4096⟩ }).wr (Reg.AFE_CH_MATCH_G 0 0) 0

theorem opposedWindow_shaped : opposedWindow.shaped = true := by
  decide +kernel

theorem opposedWindow_full : 65536 ≤ (opposedWindow.afeChan 0).win.n := by
  decide +kernel

theorem opposedWindow_matchG : opposedWindow.rd (Reg.AFE_CH_MATCH_G 0 0) = 0 := by
  decide +kernel

/-- The close lowers MATCH_G by the limit of one move, below 0 and so round to the top of the register. -/
theorem opposedWindow_wraps (t : State) (ht : exec (.matchWindowClose 0) opposedWindow = .next t) :
    t.rd (Reg.AFE_CH_MATCH_G 0 0) = 2 ^ 32 - 134 := by
  have hrun : (match exec (.matchWindowClose 0) opposedWindow with
      | .next t => decide (t.rd (Reg.AFE_CH_MATCH_G 0 0) = 2 ^ 32 - 134)
      | _ => false) = true := by decide +kernel
  rw [ht] at hrun
  exact of_decide_eq_true hrun

/-- Refutes O16: with MATCH_G at 0 a full window that asks for less moves it by −134, which the unsigned register holds as 2^32 − 134; the
two readings differ by far more than 32 ppm.  The statement does not ask that MATCH_G be at least one move away from 0. -/
theorem not_conversionsGiveSampleWords : ¬ Obligations.ConversionsGiveSampleWords := by
  intro h
  obtain ⟨-, -, -, -, -, hwindow⟩ := h opposedWindow opposedWindow_shaped 0 (by decide) 0 rfl 0 rfl
  obtain ⟨t, ht, -, -, hmove, -⟩ := hwindow opposedWindow_full
  rw [opposedWindow_wraps t ht, opposedWindow_matchG] at hmove
  exact absurd hmove (by decide)

end Sys2Proof.Machine
end

section
/-!
What a course that is discarded changes: its slot with the record (R183), an event, an interrupt, and what its discard means to the unit
that prepared it; and the statement AbortDiscardsAPendingHostCourse.
-/
namespace Sys2Proof.Machine

/-! ### Slots -/

/-- The other slots stay as they are. -/
theorem State.slot_setSlot_ne (s : State) {n m : Nat} (f : Slot → Slot) (h : m ≠ n) : (s.setSlot n f).slot m = s.slot m := by
  simp [State.slot, State.setSlot, upd, h.symm]

/-- Two changes of one slot are one. -/
theorem State.setSlot_setSlot (s : State) (n : Nat) (f g : Slot → Slot) :
    (s.setSlot n f).setSlot n g = s.setSlot n fun c => g (f c) := by
  simp only [State.setSlot, upd, List.modify_modify_eq]
  rfl

theorem State.slot_congr {s t : State} (h : t.crs = s.crs) (n : Nat) : t.slot n = s.slot n := by
  rw [State.slot, State.slot, h]

/-- A state whose lists have their lengths has 192 course slots. -/
theorem State.slots_length_of_shaped {s : State} (h : s.shaped = true) : s.crs.slots.length = 192 := by
  simp only [State.shaped, Bool.and_eq_true, decide_eq_true_eq] at h
  tauto

/-! ### Events with room (R519) -/

/-- An event that finds room waits for intake, and nothing else changes. -/
theorem State.emit_of_room {s : State} {n : Nat} (hn : 0 < n) (h : s.room n = true) (src code cls value : Nat) :
    s.emit src code cls value = { s with evt := { s.evt with raised := s.evt.raised ++
      [⟨s.tm.fc, ⟨s.tw, s.angle, src, code, cls, 0, false, s.epoch, value % 2 ^ 64, 0⟩⟩] } } := by
  have hroom : s.waiting + n ≤ 4096 := of_decide_eq_true h
  exact if_neg fun hfull => by omega

/-! ### The record and the discard of a course (R183, R184) -/

/-- A course with its record. -/
def State.recorded (s : State) (status : Nat) (c : Slot) : Slot :=
  { c with status := status, recTw := s.tw, recAngle := s.angle, recCycle := s.ang.cycle, recTrk := s.getF Reg.ANG_STAT_STATE,
           recEpoch := s.epoch, setFc := s.tm.fc }

/-- A course that is discarded, with its record. -/
def State.discarded (s : State) (status act : Nat) (c : Slot) : Slot := s.recorded status { c with st := .discarded, act := act }

/-- The record changes the course's slot and no other part of the course engine. -/
theorem State.crs_crsRecord (s : State) (n status : Nat) : (s.crsRecord n status).crs = (s.setSlot n (s.recorded status)).crs := by
  unfold State.crsRecord
  dsimp only
  split
  · exact State.emit_crs ..
  · rfl

/-- What a discard means to the unit that prepared the course changes nothing of the course engine. -/
@[simp] theorem State.crs_discardHook (s : State) (c : Slot) : (s.discardHook c).crs = s.crs := by
  unfold State.discardHook
  split
  case h_5 => split <;> simp [State.blkErr]
  all_goals simp [State.setMtr]

/-- A course is discarded: its slot, its record, its event, its interrupt. -/
def State.discardNoted (s : State) (n status act : Nat) : State :=
  let s := (s.setSlot n fun c => { c with st := .discarded, act := act }).crsRecord n status
  if (s.slot n).port = 0 then s.irq .crs 1 else s

/-- The same with the count of courses that the pair gave up (R180): the unit that prepared the course has not learned of it yet. -/
def State.discardTold (s : State) (n status act : Nat) : State :=
  if status = stPair then (s.discardNoted n status act).incF Reg.CRS_MIR_STAT_PAIR else s.discardNoted n status act

theorem State.crs_discardNoted (s : State) (n status act : Nat) :
    (s.discardNoted n status act).crs = (s.setSlot n (s.discarded status act)).crs := by
  unfold State.discardNoted
  extract_lets r
  have hr : r.crs = (s.setSlot n (s.discarded status act)).crs := by
    rw [State.crs_crsRecord, State.setSlot_setSlot]
    rfl
  rw [← hr]
  split
  · exact State.irq_crs ..
  · rfl

theorem State.crs_discardTold (s : State) (n status act : Nat) :
    (s.discardTold n status act).crs = (s.setSlot n (s.discarded status act)).crs := by
  rw [← s.crs_discardNoted n status act, State.discardTold]
  split
  · exact State.incF_crs ..
  · rfl

/-- A discard changes the course's slot and no other part of the course engine. -/
theorem State.crs_discard (s : State) (n status act : Nat) :
    (s.discard n status act).crs = (s.setSlot n (s.discarded status act)).crs :=
  (State.crs_discardHook ..).trans (s.crs_discardTold n status act)

theorem State.slot_discard_same (s : State) {n : Nat} (status act : Nat) (h : n < s.crs.slots.length) :
    (s.discard n status act).slot n = s.discarded status act (s.slot n) := by
  rw [State.slot_congr (s.crs_discard ..), State.slot_setSlot_same _ _ h]

theorem State.slot_discard_ne (s : State) {n m : Nat} (status act : Nat) (h : m ≠ n) :
    (s.discard n status act).slot m = s.slot m := by
  rw [State.slot_congr (s.crs_discard ..), State.slot_setSlot_ne _ _ h]

/-- The unit that prepared the course learns of its slot as it was recorded. -/
theorem State.discard_eq {s : State} {n : Nat} (status act : Nat) (h : n < s.crs.slots.length) :
    s.discard n status act = (s.discardTold n status act).discardHook (s.discarded status act (s.slot n)) := by
  have hslot : ((s.setSlot n fun c => { c with st := .discarded, act := act }).crsRecord n status).slot n =
      s.discarded status act (s.slot n) := by
    rw [State.slot_congr (State.crs_crsRecord ..), State.setSlot_setSlot, State.slot_setSlot_same _ _ h]
    rfl
  rw [← hslot]
  unfold State.discard State.discardTold State.discardNoted
  dsimp only

/-- A course that no unit prepared is discarded without more. -/
theorem State.discard_of_untagged {s : State} {n : Nat} (status act : Nat) (h : n < s.crs.slots.length)
    (htag : (s.slot n).tag = .none) : s.discard n status act = s.discardTold n status act := by
  rw [State.discard_eq status act h, State.discardHook]
  simp only [State.discarded, State.recorded, htag]

/-! ### What a discard leaves alone -/

/-- A state without registers, events, courses and the host interface's own state: what the discard of a course that no unit prepared
does not change. -/
def State.sansCourse (s : State) : State := { s with regs := [], evt := EvtSt.reset, crs := CrsSt.reset, hst := HstSt.reset }

theorem State.frame_of_sansCourse {s t : State} (h : t.sansCourse = s.sansCourse) :
    t = { s with regs := t.regs, evt := t.evt, crs := t.crs, hst := t.hst } :=
  congrArg (fun (u : State) => { u with regs := t.regs, evt := t.evt, crs := t.crs, hst := t.hst }) h

@[simp] theorem State.sansCourse_setSlot (s : State) (n : Nat) (f : Slot → Slot) : (s.setSlot n f).sansCourse = s.sansCourse := (rfl)

@[simp] theorem State.sansCourse_setF (s : State) (f : Fld) (v : Nat) : (s.setF f v).sansCourse = s.sansCourse := (rfl)

@[simp] theorem State.sansCourse_incF (s : State) (f : Fld) (n : Nat) : (s.incF f n).sansCourse = s.sansCourse := (rfl)

@[simp] theorem State.sansCourse_irq (s : State) (b : Blk) (i : Nat) : (s.irq b i).sansCourse = s.sansCourse := by
  rw [State.irq_frame]
  rfl

@[simp] theorem State.sansCourse_emit (s : State) (src code cls value : Nat) :
    (s.emit src code cls value).sansCourse = s.sansCourse := by
  unfold State.emit State.emitAt
  split <;> rfl

@[simp] theorem State.sansCourse_used (s : State) (i : Iface) (l : Level) : (s.used i l).sansCourse = s.sansCourse := by
  unfold State.used
  split <;> rfl

@[simp] theorem State.sansCourse_spiEnd (s : State) (i : Iface) : (s.spiEnd i).sansCourse = s.sansCourse := by
  cases i <;> rfl

@[simp] theorem State.sansCourse_crsRecord (s : State) (n status : Nat) : (s.crsRecord n status).sansCourse = s.sansCourse := by
  unfold State.crsRecord
  dsimp only
  split <;> simp

@[simp] theorem State.sansCourse_discardNoted (s : State) (n status act : Nat) :
    (s.discardNoted n status act).sansCourse = s.sansCourse := by
  unfold State.discardNoted
  dsimp only
  split <;> simp

@[simp] theorem State.sansCourse_discardTold (s : State) (n status act : Nat) :
    (s.discardTold n status act).sansCourse = s.sansCourse := by
  unfold State.discardTold
  split <;> simp

theorem State.rd_setSlot (s : State) (n : Nat) (f : Slot → Slot) (o : Nat) : (s.setSlot n f).rd o = s.rd o := (rfl)

/-- The record of a course writes no register but those of lost events. -/
theorem State.rd_crsRecord_ne (s : State) (n status : Nat) {o : Nat} (h₁ : o ≠ Reg.EVT_INTAKE_LOST) (h₂ : o ≠ Reg.EVT_STAT) :
    (s.crsRecord n status).rd o = s.rd o := by
  unfold State.crsRecord
  dsimp only
  split
  · rw [State.rd_emit_ne _ _ _ _ _ h₁ h₂, State.rd_setSlot]
  · exact s.rd_setSlot ..

/-- The record of a course writes no register where its event finds room. -/
theorem State.rd_crsRecord_of_room {s : State} {k : Nat} (hk : 0 < k) (h : s.room k = true) (n status o : Nat) :
    (s.crsRecord n status).rd o = s.rd o := by
  unfold State.crsRecord
  dsimp only
  split
  · rw [State.emit_of_room hk (s := s.setSlot n _) h]
    rfl
  · rfl

/-- Beside the record's registers a discard writes the interrupt register of the course engine. -/
theorem State.rd_discardNoted {s : State} {n status act o : Nat} (ho : o ≠ Reg.UNIT_IRQ .crs)
    (hrecord : ∀ f, ((s.setSlot n f).crsRecord n status).rd o = s.rd o) : (s.discardNoted n status act).rd o = s.rd o := by
  unfold State.discardNoted
  dsimp only
  split
  · rw [State.rd_irq_ne _ _ _ ho, hrecord]
  · exact hrecord _

/-- A discard that is not the pair's writes no other register where its event finds room. -/
theorem State.rd_discardTold_of_room {s : State} {k n status act o : Nat} (hk : 0 < k) (h : s.room k = true)
    (hpair : status ≠ stPair) (ho : o ≠ Reg.UNIT_IRQ .crs) : (s.discardTold n status act).rd o = s.rd o := by
  rw [State.discardTold, if_neg hpair]
  exact State.rd_discardNoted ho fun f => State.rd_crsRecord_of_room (s := s.setSlot n f) hk h n status o

/-! ### The statement AbortDiscardsAPendingHostCourse -/

/-- The word 256 n + 2 asks for an ABORT of slot n, and for no ARM. -/
theorem abortWord_bits {n : Nat} (h : n < 192) :
    (256 * n + 2).testBit 1 = true ∧ (256 * n + 2).testBit 0 = false ∧ bits (256 * n + 2) 15 8 = n ∧
      ((BitVec.ofNat 32 (256 * n + 2)).toNat ||| 2) = 256 * n + 2 := by
  have hnat : (BitVec.ofNat 32 (256 * n + 2)).toNat = 256 * n + 2 := by
    rw [BitVec.toNat_ofNat]
    omega
  refine ⟨?_, ?_, ?_, ?_⟩
  · rw [Nat.testBit_eq_decide_div_mod_eq, decide_eq_true_eq]
    omega
  · rw [Nat.testBit_eq_decide_div_mod_eq, decide_eq_false_iff_not]
    omega
  · rw [bits, Nat.shiftRight_eq_div_pow]
    omega
  · rw [hnat, show 256 * n + 2 = 2 ^ 8 * n ||| 2 from Nat.two_pow_add_eq_or_of_lt (i := 8) (by omega) n, Nat.or_assoc, Nat.or_self]

/-- What an abort of slot n makes of a state (R169). -/
def State.aborted (s : State) (n : Nat) : State :=
  if n < slotCount ∧ (s.slot n).port = 0 ∧ (s.slot n).st = .pending ∧ !s.courseDue (s.slot n) then
    s.discard n (if (s.slot n).deadline.any fun t => decide (t ≤ s.tm.runt) then stDeadline else stAborted) 0
  else s

/-- CRS_ABORT at operate level. -/
theorem exec_crsAbort {s : State} {i : Iface} {n : Nat} (hn : n < 192) (hup : s.hostUp = true) (hmay : s.may i .operate = true) :
    exec (.crsAbort i (BitVec.ofNat 32 (256 * n + 2))) s = .next (((s.used i .operate).aborted n).spiEnd i) := by
  obtain ⟨habort, harm, hslot, hword⟩ := abortWord_bits hn
  change execCrsAbort i _ s = _
  simp only [execCrsAbort, State.hostRow, hup, if_true, State.crsCtl, hword, habort, harm, hslot, State.crsAbort, State.command,
    hmay, Bool.false_eq_true, if_false]
  rfl

/-- An accepted write that restarts HST_ACC_TMO changes the host interface's own state alone. -/
theorem State.exists_used_eq (s : State) (i : Iface) (l : Level) : ∃ h, s.used i l = { s with hst := h } := by
  unfold State.used
  split
  · exact ⟨_, rfl⟩
  · exact ⟨s.hst, rfl⟩

/-- An abort discards a PENDING course of the host port that does not set in this fc, and nothing else changes but for its event and
its interrupt. -/
theorem State.aborted_discards {s : State} {n : Nat} (hn : n < 192) (hlen : n < s.crs.slots.length) (hroom : s.room 1 = true)
    (hst : (s.slot n).st = .pending) (hport : (s.slot n).port = 0) (hdue : s.courseDue (s.slot n) = false)
    (htag : (s.slot n).tag = .none) :
    ((s.aborted n).slot n).st = .discarded ∧
      ((s.aborted n).slot n).status = (if (s.slot n).deadline.any fun x => decide (x ≤ s.tm.runt) then stDeadline else stAborted) ∧
      (∀ m, m ≠ n → (s.aborted n).slot m = s.slot m) ∧ s.regsKept [Reg.UNIT_IRQ .crs] (s.aborted n) ∧
      (s.aborted n).sansCourse = s.sansCourse := by
  have hab : s.aborted n = s.discard n (if (s.slot n).deadline.any fun x => decide (x ≤ s.tm.runt) then stDeadline else stAborted) 0 :=
    if_pos ⟨hn, hport, hst, by rw [hdue]; rfl⟩
  rw [hab]
  generalize hstatus : (if (s.slot n).deadline.any fun x => decide (x ≤ s.tm.runt) then stDeadline else stAborted) = status
  have hpair : status ≠ stPair := by rw [← hstatus]; split <;> decide
  refine ⟨?_, ?_, fun m hm => State.slot_discard_ne _ _ _ hm, fun o ho => ?_, ?_⟩
  · rw [State.slot_discard_same _ _ _ hlen]
    rfl
  · rw [State.slot_discard_same _ _ _ hlen]
    rfl
  · rw [State.discard_of_untagged _ _ hlen htag, State.rd_discardTold_of_room (by decide) hroom hpair (by simpa using ho)]
  · rw [State.discard_of_untagged _ _ hlen htag, State.sansCourse_discardTold]

/-- An abort of any other course is ignored. -/
theorem State.aborted_ignores {s : State} {n : Nat}
    (hother : (s.slot n).st ≠ .pending ∨ (s.slot n).port ≠ 0 ∨ s.courseDue (s.slot n) = true) : s.aborted n = s := by
  refine if_neg ?_
  rintro ⟨-, hport, hst, hdue⟩
  rcases hother with hother | hother | hother
  · exact hother hst
  · exact hother hport
  · rw [hother] at hdue
    contradiction

/-- Settles O13: at operate level the command discards what R169 lets it discard, and nothing else. That the level counts as used changes
nothing the engine reads. -/
theorem abortDiscardsAPendingHostCourse : Obligations.AbortDiscardsAPendingHostCourse := by
  rintro s hshaped hroom n hn i hup hmay v rfl
  have hlen : n < s.crs.slots.length := by rw [State.slots_length_of_shaped hshaped]; exact hn
  obtain ⟨h, hu⟩ := s.exists_used_eq i .operate
  have hexec := exec_crsAbort hn hup hmay
  rw [hu] at hexec
  refine ⟨fun hst hport hdue htag => ⟨_, hexec, ?_⟩, fun hother => ⟨_, hexec, ?_⟩⟩
  · obtain ⟨hdiscarded, hstatus, hslots, hregs, hframe⟩ :=
      State.aborted_discards (s := { s with hst := h }) hn hlen hroom hst hport hdue htag
    have hslot (m : Nat) := State.slot_congr (({ s with hst := h }.aborted n).crs_spiEnd i) m
    rw [hslot]
    refine ⟨hdiscarded, hstatus, fun m _ hm => (hslot m).trans (hslots m hm),
      fun o ho => (State.rd_spiEnd ..).trans (hregs o ho), State.frame_of_sansCourse ?_⟩
    rw [State.sansCourse_spiEnd, hframe]
    rfl
  · rw [State.aborted_ignores (s := { s with hst := h }) hother]
    cases i <;> rfl

end Sys2Proof.Machine
end

section
/-!
A course that sets without a write of its own, after courses of an earlier fc wrote, and the statement CoursesSetOrAreDiscarded.
-/
namespace Sys2Proof.Machine

/-- Two courses, in slots 1 and 2, set in fc 2 with a setting-group action on feeder 0 each; the later one overwrote the earlier, whose
record says so (OVR, R170). Both slots are FREE again and keep their records (R151). In fc 5 an immediate course in slot 0 is due; its
one action raises an event. -/
def eventAfterOverwrite : State :=
  let s := { State.reset with tm := { State.reset.tm with fc := 5 } }
  let s := s.setSlot 0 fun c => { c with st := .pending, acts := [⟨7 * 2 ^ 28 + 0x1234, 77, 0x33005⟩], accFc := 3, seq := 2 }
  let s := s.setSlot 1 fun c => { c with setFc := 2, ovr := true }
  let s := s.setSlot 2 fun c => { c with setFc := 2, seq := 1 }
  { s with crs := { s.crs with writes := [⟨1, 0, 5, 0, 2 ^ 32 - 1, 1, false⟩, ⟨2, 1, 5, 0, 2 ^ 32 - 1, 2, false⟩], writesFc := 2 } }

theorem eventAfterOverwrite_shaped : eventAfterOverwrite.shaped = true ∧ eventAfterOverwrite.room 4 = true := by
  decide +kernel

/-- The course in slot 0 comes from no partner, no unit and no decision. -/
theorem eventAfterOverwrite_plain : (eventAfterOverwrite.slot 0).mirror = .no ∧ (eventAfterOverwrite.slot 0).tag = .none ∧
    (eventAfterOverwrite.slot 0).srcId = 0 := by
  decide +kernel

/-- The course in slot 0 is due and passes its check. -/
theorem eventAfterOverwrite_due : eventAfterOverwrite.courseDue (eventAfterOverwrite.slot 0) = true ∧
    (eventAfterOverwrite.slot 0).st = .pending ∧ (eventAfterOverwrite.slot 0).rset = false ∧
    eventAfterOverwrite.actsErr (eventAfterOverwrite.slot 0).port (eventAfterOverwrite.slot 0).acts = none := by
  decide +kernel

/-- Slot 1 is FREE and its record has OVR. -/
theorem eventAfterOverwrite_record : (eventAfterOverwrite.slot 1).st = .free ∧ (eventAfterOverwrite.slot 1).ovr = true := by
  decide +kernel

/-- As the course in slot 0 sets, the record of slot 1 loses OVR. -/
theorem eventAfterOverwrite_loses (t : State) (ht : exec (.courseSet 0) eventAfterOverwrite = .next t) :
    (t.slot 1).ovr ≠ (eventAfterOverwrite.slot 1).ovr := by
  obtain ⟨-, hovr⟩ := eventAfterOverwrite_record
  have hrun : (match exec (.courseSet 0) eventAfterOverwrite with
      | .next t => decide ((t.slot 1).ovr = false)
      | _ => false) = true := by decide +kernel
  rw [ht] at hrun
  rw [hovr, of_decide_eq_true hrun]
  exact Bool.false_ne_true

/-- Refutes O12: a course that sets marks OVR anew for every slot among the writes last noted, and these may be of an earlier fc, where
nothing counts as overwritten any more. So a course without a write of its own clears OVR in the record of a slot that is FREE, while
the statement has every FREE slot stay as it is. -/
theorem not_coursesSetOrAreDiscarded : ¬ Obligations.CoursesSetOrAreDiscarded := by
  intro h
  obtain ⟨hshaped, hroom⟩ := eventAfterOverwrite_shaped
  obtain ⟨hmirror, htag, hsource⟩ := eventAfterOverwrite_plain
  obtain ⟨hdue, -, hrset, hchecked⟩ := eventAfterOverwrite_due
  obtain ⟨hfree, -⟩ := eventAfterOverwrite_record
  obtain ⟨-, hset, -⟩ := h eventAfterOverwrite hshaped hroom 0 (by decide) hmirror htag hsource
  obtain ⟨t, ht, -, -, -, -, -, -, hkept, -⟩ := hset hdue hrset (.inr hchecked)
  exact eventAfterOverwrite_loses t ht (congrArg Slot.ovr (hkept 1 (by decide) (by decide) hfree))

end Sys2Proof.Machine
end

section
/-!
What a submitted course becomes (R164, R166, R184) where this module does not mirror it: refused without a slot, or taken into the lowest
free slot and then discarded or kept.
-/
namespace Sys2Proof.Machine

/-- The slot of a request that is taken (R164): the next generation of the slot it takes, the next sequence number. -/
def State.takenSlot (s : State) (r : CReq) (n : Nat) : Slot :=
  let q := (s.lateRule r).getD (r.sched, none, false, false)
  { slotZero with
    st := .pending, gen := ((s.slot n).gen + 1) % 256, port := r.port, sched := q.1, policy := r.policy, acts := r.acts,
    evt := r.evt, rset := r.rset, ringFrame := q.2.1, lateFlag := q.2.2.1, next := q.2.2.2,
    deadline := if r.dl = 0 then none else some (s.tm.runt + r.dl * 1000 * 2 ^ 32), accFc := s.tm.fc, seq := s.crs.nextSeq,
    mirror := if r.mirSeq.isSome then .copy else .no, mirSeq := r.mirSeq.getD 0, status := 1, tag := r.tag, entries := r.entries }

/-- The course engine once a request has taken slot n (R164). -/
def State.takenCrs (s : State) (r : CReq) (n : Nat) : CrsSt :=
  { (s.setSlot n fun _ => s.takenSlot r n).crs with nextSeq := (s.crs.nextSeq + 1) % 2 ^ 32 }

/-- A request has taken slot n; the peak of courses in flight follows. -/
def State.taken (s : State) (r : CReq) (n : Nat) : State :=
  let t := { s with crs := s.takenCrs r n }
  t.setF Reg.CRS_CNT_PEAK (max (t.getF Reg.CRS_CNT_PEAK) t.inFlight)

theorem State.crs_taken (s : State) (r : CReq) (n : Nat) : (s.taken r n).crs = s.takenCrs r n := State.setF_crs ..

/-- Beside the course engine a request taken changes the register of the peak. -/
theorem State.rd_taken_ne (s : State) (r : CReq) (n : Nat) {o : Nat} (h : o ≠ Reg.CRS_CNT) : (s.taken r n).rd o = s.rd o := by
  rw [State.taken, State.rd_setF_ne _ _ _ h]
  rfl

/-- A request in a slot is discarded where it is late or an action fails (R159, R166). -/
def State.judged (s : State) (late : Bool) (r : CReq) (n : Nat) : State × Nat × Option Nat :=
  if late then (s.discard n stLate 0, stLate, some n)
  else match s.actsErr r.port r.acts with
    | some (st, i) => (s.discard n st i, st, some n)
    | none => (s, 1, some n)

/-- A refused request leaves the state but for BUSY_CNT and its interrupt. -/
theorem State.submit_of_refused {s : State} {r : CReq} (h : s.refusal r ≠ 0) :
    s.submit r = ((if s.refusal r = stBusy ∨ s.refusal r = stQuota then (s.count Reg.CRS_BUSY_CNT_COUNT).irq .crs 2 else s),
      s.refusal r, none) := by
  unfold State.submit
  dsimp only
  rw [if_pos h]
  split <;> rfl

/-- A request that is not refused takes the lowest free slot. -/
theorem State.submit_of_free {s : State} {r : CReq} {n : Nat} (hmir : s.mirrors r = false) (h : s.refusal r = 0)
    (hfree : (s.crs.slots.findIdx? fun c => c.st == .free) = some n) :
    s.submit r = (s.taken r n).judged (s.lateRule r).isNone r n := by
  have hlate : ((s.lateRule r).bind fun q => if s.mirrors r && decide (q.1 = .immediate) then s.converted r q else some q) =
      s.lateRule r := by
    simp only [hmir, Bool.false_and, Bool.false_eq_true, if_false]
    cases s.lateRule r <;> rfl
  have hcode : ¬(s.refusal r = stBusy ∨ s.refusal r = stQuota) := by rw [h]; decide
  unfold State.submit
  dsimp only
  rw [if_neg hcode, if_neg (fun hne => hne h)]
  simp only [hfree, hlate]
  simp only [hmir, Bool.false_eq_true, if_false]
  rfl

/-- Where a request is not refused and no slot is free, nothing changes. -/
theorem State.submit_of_full {s : State} {r : CReq} (h : s.refusal r = 0)
    (hfull : (s.crs.slots.findIdx? fun c => c.st == .free) = none) : s.submit r = (s, stBusy, none) := by
  have hcode : ¬(s.refusal r = stBusy ∨ s.refusal r = stQuota) := by rw [h]; decide
  unfold State.submit
  dsimp only
  rw [if_neg hcode, if_neg (fun hne => hne h), hfull]

end Sys2Proof.Machine
end

section
/-!
The mirror of courses between the modules of a pair (R180, R181, R612, R623), and the statement MirroredCoursesFollowThePartner.
`State.linkFrame` collects what the course engine leaves alone while a copy is submitted or a course discarded: what was sent, the pair,
power, time and memory; the register that says whether the W link is up stays too.
-/
namespace Sys2Proof.Machine

/-! ### What the course engine leaves alone -/

/-- What was sent, the pair, power, time and memory. -/
def State.linkFrame (s : State) : List TxItem × WytSt × PwrSt × TimeSt × List Host.Cell × List Host.Cell × List Host.Cell :=
  (s.tx, s.wyt, s.pwr, s.tm, s.dram, s.kln.u0, s.kln.u1)

theorem State.fields_of_linkFrame {s t : State} (h : t.linkFrame = s.linkFrame) :
    t.tx = s.tx ∧ t.wyt = s.wyt ∧ t.pwr = s.pwr ∧ t.tm = s.tm ∧ t.dram = s.dram ∧ t.kln.u0 = s.kln.u0 ∧ t.kln.u1 = s.kln.u1 := by
  simpa only [State.linkFrame, Prod.mk.injEq] using h

@[simp] theorem State.linkFrame_setF (s : State) (f : Fld) (v : Nat) : (s.setF f v).linkFrame = s.linkFrame := (rfl)

@[simp] theorem State.linkFrame_incF (s : State) (f : Fld) (n : Nat) : (s.incF f n).linkFrame = s.linkFrame := (rfl)

@[simp] theorem State.linkFrame_count (s : State) (f : Fld) (n : Nat) : (s.count f n).linkFrame = s.linkFrame := (rfl)

@[simp] theorem State.linkFrame_irq (s : State) (b : Blk) (i : Nat) : (s.irq b i).linkFrame = s.linkFrame := by
  rw [State.irq_frame]
  rfl

@[simp] theorem State.linkFrame_emit (s : State) (src code cls value : Nat) :
    (s.emit src code cls value).linkFrame = s.linkFrame := by
  unfold State.emit State.emitAt
  split <;> rfl

@[simp] theorem State.linkFrame_setSlot (s : State) (n : Nat) (f : Slot → Slot) : (s.setSlot n f).linkFrame = s.linkFrame := (rfl)

@[simp] theorem State.linkFrame_setMtr (s : State) (f : MtrSt → MtrSt) : (s.setMtr f).linkFrame = s.linkFrame := (rfl)

@[simp] theorem State.linkFrame_setCore (s : State) (c : Nat) (f : CoreSt → CoreSt) : (s.setCore c f).linkFrame = s.linkFrame := (rfl)

@[simp] theorem State.linkFrame_crsRecord (s : State) (n status : Nat) : (s.crsRecord n status).linkFrame = s.linkFrame := by
  unfold State.crsRecord
  dsimp only
  split <;> simp

@[simp] theorem State.linkFrame_discardTold (s : State) (n status act : Nat) :
    (s.discardTold n status act).linkFrame = s.linkFrame := by
  unfold State.discardTold State.discardNoted
  dsimp only
  split <;> split <;> simp

@[simp] theorem State.linkFrame_discardHook (s : State) (c : Slot) : (s.discardHook c).linkFrame = s.linkFrame := by
  unfold State.discardHook
  split
  case h_5 => split <;> simp [State.blkErr]
  case h_7 => rfl
  case h_8 => rfl
  all_goals simp

@[simp] theorem State.linkFrame_discard (s : State) (n status act : Nat) : (s.discard n status act).linkFrame = s.linkFrame :=
  (State.linkFrame_discardHook ..).trans (s.linkFrame_discardTold n status act)

/-- What a discard means to a unit is written to the registers of the unit, of the block cores and of lost events. -/
theorem State.rd_discardHook (s : State) (c : Slot) {o : Nat} (h : o = Reg.CRS_MIR_STAT ∨ o = Reg.ETH_W_STAT) :
    (s.discardHook c).rd o = s.rd o := by
  obtain ⟨hcount, hstat, herr, hirq⟩ :
      o ≠ Reg.EVT_INTAKE_LOST ∧ o ≠ Reg.EVT_STAT ∧ o ≠ Reg.BLK_ERR ∧ o ≠ Reg.UNIT_IRQ .blk := by
    rcases h with rfl | rfl <;> decide
  have hcore (k : Nat) : o ≠ Reg.BLK_C_OUTD k ∧ o ≠ Reg.BLK_C_STAT k ∧ o ≠ Reg.BLK_C_XSTAT k := by
    simp only [Reg.BLK_C_OUTD, Reg.BLK_C_STAT, Reg.BLK_C_XSTAT, Reg.CRS_MIR_STAT, Reg.ETH_W_STAT] at h ⊢
    omega
  unfold State.discardHook
  split
  case h_3 k _ =>
    obtain ⟨houtd, -⟩ := hcore k
    rw [State.rd_emit_ne _ _ _ _ _ hcount hstat, State.rd_count_ne _ _ _ houtd]
  case h_4 k _ _ =>
    obtain ⟨-, hstat, -⟩ := hcore k
    exact State.rd_setF_ne _ _ _ hstat
  case h_5 k _ =>
    obtain ⟨-, -, hxstat⟩ := hcore k
    split
    · rw [State.rd_setF_ne _ _ _ hxstat, State.blkErr, State.rd_irq_ne _ _ _ hirq, State.rd_setF_ne _ _ _ herr,
        State.rd_setF_ne _ _ _ herr, State.rd_setF_ne _ _ _ herr]
    · rfl
  all_goals rfl

/-- The record and the interrupt of a discard leave the mirror's registers and the state of the W link as they are. -/
theorem State.rd_discardNoted_link (s : State) (n status act : Nat) {o : Nat} (h : o = Reg.CRS_MIR_STAT ∨ o = Reg.ETH_W_STAT) :
    (s.discardNoted n status act).rd o = s.rd o := by
  refine State.rd_discardNoted (by rcases h with rfl | rfl <;> decide) fun f => ?_
  rw [State.rd_crsRecord_ne _ _ _ (by rcases h with rfl | rfl <;> decide) (by rcases h with rfl | rfl <;> decide), State.rd_setSlot]

/-- A discard leaves the state of the W link as it is. -/
theorem State.rd_discard_link (s : State) (n status act : Nat) :
    (s.discard n status act).rd Reg.ETH_W_STAT = s.rd Reg.ETH_W_STAT := by
  rw [← s.rd_discardNoted_link n status act (.inr rfl)]
  refine (State.rd_discardHook _ _ (.inr rfl)).trans ?_
  change (s.discardTold n status act).rd _ = _
  unfold State.discardTold
  split
  · exact State.rd_incF_ne _ _ _ (by decide)
  · rfl

/-- A course that the pair gives up is counted (R180). -/
theorem State.pair_discard (s : State) (n act : Nat) :
    (s.discard n stPair act).getF Reg.CRS_MIR_STAT_PAIR = min (s.getF Reg.CRS_MIR_STAT_PAIR + 1) 65535 := by
  have hnoted : (s.discardNoted n stPair act).getF Reg.CRS_MIR_STAT_PAIR = s.getF Reg.CRS_MIR_STAT_PAIR :=
    State.getF_congr (s.rd_discardNoted_link n stPair act (.inl rfl))
  calc (s.discard n stPair act).getF Reg.CRS_MIR_STAT_PAIR
      = (s.discardTold n stPair act).getF Reg.CRS_MIR_STAT_PAIR := State.getF_congr (State.rd_discardHook _ _ (.inl rfl))
    _ = ((s.discardNoted n stPair act).incF Reg.CRS_MIR_STAT_PAIR).getF Reg.CRS_MIR_STAT_PAIR := by
        rw [State.discardTold, if_pos rfl]
    _ = satAdd 16 (s.getF Reg.CRS_MIR_STAT_PAIR) 1 % 2 ^ 16 := by
        rw [State.incF, State.getF_setF _ _ _ rfl, hnoted]
        rfl
    _ = min (s.getF Reg.CRS_MIR_STAT_PAIR + 1) 65535 := by
        rw [satAdd]
        omega

/-! ### Frames over W (R612) -/

/-- A frame that leaves over W. -/
theorem State.wSend_of_up {s : State} (hup : s.wUp = true) (f : WFrame) :
    s.wSend f = { s with wyt := { s.wyt with frames := (s.wyt.frames + 1) % 2 ^ 32 } }.out (.wFrame s.wyt.frames f) := by
  simp only [State.wUp, Bool.and_eq_true] at hup
  obtain ⟨hlink, -⟩ := hup
  exact if_pos ((Bool.and_eq_true _ _).mpr hlink)

@[simp] theorem State.crs_wSend (s : State) (f : WFrame) : (s.wSend f).crs = s.crs := by
  unfold State.wSend
  split <;> rfl

/-- A frame sent changes the pair's own state and what was sent. -/
theorem State.wSend_frame (s : State) (f : WFrame) : s.wSend f = { s with wyt := (s.wSend f).wyt, tx := (s.wSend f).tx } := by
  unfold State.wSend
  split <;> rfl

theorem State.wUp_congr {s t : State} (hframe : t.linkFrame = s.linkFrame) (hlink : t.rd Reg.ETH_W_STAT = s.rd Reg.ETH_W_STAT) :
    t.wUp = s.wUp := by
  obtain ⟨-, -, hpwr, -⟩ := State.fields_of_linkFrame hframe
  have hon (id : Nat) : t.on id = s.on id := by simp only [State.on, State.partSt, State.part, hpwr]
  rw [State.wUp, State.wUp, hon, hon, State.flag_congr hlink]

/-- A frame sent after the course engine has acted is all that was sent. -/
theorem State.sent_wSend {s t : State} (hup : s.wUp = true) (hframe : t.linkFrame = s.linkFrame)
    (hlink : t.rd Reg.ETH_W_STAT = s.rd Reg.ETH_W_STAT) (f : WFrame) : s.sent (t.wSend f) = [.wFrame s.wyt.frames f] := by
  obtain ⟨htx, hwyt, -⟩ := State.fields_of_linkFrame hframe
  rw [State.wSend_of_up ((State.wUp_congr hframe hlink).trans hup), hwyt]
  exact State.sent_out _ htx

/-! ### A course given up (R180, R623) -/

/-- The LEAD gives a course up: the course is discarded with PAIR and counted, and a CANCEL leaves. -/
theorem State.mirrorLost_gives {s : State} {n : Nat} (hlen : n < s.crs.slots.length) (hup : s.wUp = true) :
    ((s.mirrorLost n).slot n).st = .discarded ∧ ((s.mirrorLost n).slot n).status = 0x28 ∧
      s.sent (s.mirrorLost n) = [.wFrame s.wyt.frames (.cancel (s.slot n).seq)] ∧
      (s.mirrorLost n).getF Reg.CRS_MIR_STAT_PAIR = min (s.getF Reg.CRS_MIR_STAT_PAIR + 1) 65535 ∧
      (∀ m, m < 192 → m ≠ n → (s.mirrorLost n).slot m = s.slot m) := by
  have hslot (m : Nat) : (s.mirrorLost n).slot m = (s.discard n stPair 0).slot m := State.slot_congr (State.crs_wSend ..) m
  refine ⟨?_, ?_, State.sent_wSend hup (s.linkFrame_discard ..) (s.rd_discard_link ..) _, ?_, fun m _ hm => ?_⟩
  · rw [hslot, State.slot_discard_same _ _ _ hlen]
    rfl
  · rw [hslot, State.slot_discard_same _ _ _ hlen]
    rfl
  · rw [← s.pair_discard n 0, State.mirrorLost, State.wSend_frame]
    rfl
  · rw [hslot, State.slot_discard_ne _ _ _ hm]

/-- A slot found is a slot of the table. -/
theorem State.lt_of_slotOfSeq {s : State} {p : Slot → Bool} {n : Nat} (h : s.slotOfSeq p = some n) : n < s.crs.slots.length := by
  obtain ⟨hlt, -⟩ := List.findIdx?_eq_some_iff_getElem.1 h
  exact hlt

/-- A slot found fits what was looked for. -/
theorem State.slot_of_slotOfSeq {s : State} {p : Slot → Bool} {n : Nat} (h : s.slotOfSeq p = some n) : p (s.slot n) = true := by
  obtain ⟨hlt, hp, -⟩ := List.findIdx?_eq_some_iff_getElem.1 h
  rwa [State.slot, List.getD_eq_getElem _ _ hlt]

/-! ### Answers, cancels and outcomes (R180, R181, R623) -/

section Received
variable {s : State} (hup : s.wUp = true) {seq : Nat}
include hup

theorem exec_wAnswerRx_of_some {n : Nat} (a : Nat)
    (h : (s.slotOfSeq fun x => x.st == .pending && x.mirror == .waiting && x.seq == seq) = some n) :
    exec (.wAnswerRx seq a) s = .next (if a = 1 then s.setSlot n fun c => { c with mirror := .accepted } else s.mirrorLost n) := by
  change execWAnswerRx seq a s = _
  simp only [execWAnswerRx, h, hup, Bool.not_true, Bool.false_eq_true, if_false]
  split <;> rfl

omit hup in
theorem exec_wAnswerRx_of_none (a : Nat)
    (h : (s.slotOfSeq fun x => x.st == .pending && x.mirror == .waiting && x.seq == seq) = none) :
    exec (.wAnswerRx seq a) s = .next s := by
  change execWAnswerRx seq a s = _
  simp only [execWAnswerRx, h]

theorem exec_wCancelRx_of_some {n : Nat}
    (h : (s.slotOfSeq fun x => x.st == .pending && x.mirror == .copy && x.mirSeq == seq) = some n) :
    exec (.wCancelRx seq) s = .next (s.discard n stPair 0) := by
  change execWCancelRx seq s = _
  simp only [execWCancelRx, h, hup, if_true]

omit hup in
theorem exec_wCancelRx_of_none (h : (s.slotOfSeq fun x => x.st == .pending && x.mirror == .copy && x.mirSeq == seq) = none) :
    exec (.wCancelRx seq) s = .next s := by
  change execWCancelRx seq s = _
  simp only [execWCancelRx, h]

/-- What an OUTCOME makes of a module that has told of its own set fc (R181). -/
def State.outcomeCompared (s : State) (seq a own : Nat) : State :=
  let s := { s with crs := { s.crs with told := s.crs.told.filter fun x => x.1 != seq } }
  if sameOutcome a own then s else s.diverges

theorem exec_wOutcomeRx_of_some {n : Nat} (a : Nat)
    (h : (s.slotOfSeq fun x => (x.st == .pending || x.st == .committed) && x.mirror == .accepted && x.seq == seq) = some n) :
    exec (.wOutcomeRx seq a) s = .next (s.setSlot n fun c => { c with outcome := some a }) := by
  change execWOutcomeRx seq a s = _
  simp only [execWOutcomeRx, hup, Bool.not_true, Bool.false_eq_true, if_false, h]

section Set
variable (hset : (s.slotOfSeq fun x => (x.st == .pending || x.st == .committed) && x.mirror == .accepted && x.seq == seq) = none)
include hset

theorem exec_wOutcomeRx_of_told (a : Nat) {o : Nat × Nat} (h : (s.crs.told.find? fun x => x.1 == seq) = some o) :
    exec (.wOutcomeRx seq a) s = .next (s.outcomeCompared seq a o.2) := by
  change execWOutcomeRx seq a s = _
  simp only [execWOutcomeRx, hup, Bool.not_true, Bool.false_eq_true, if_false, hset, h]
  rfl

theorem exec_wOutcomeRx_of_unknown (a : Nat) (h : (s.crs.told.find? fun x => x.1 == seq) = none) :
    exec (.wOutcomeRx seq a) s = .next s := by
  change execWOutcomeRx seq a s = _
  simp only [execWOutcomeRx, hup, Bool.not_true, Bool.false_eq_true, if_false, hset, h]

end Set

end Received

/-- Outcomes that differ raise MIRROR_DIVERGE and are counted (R181). -/
theorem State.diverges_tells {s : State} (hroom : s.room 8 = true) :
    s.diverges.crs = s.crs ∧
      s.diverges.getF Reg.CRS_MIR_STAT_DIVERGE = min (s.getF Reg.CRS_MIR_STAT_DIVERGE + 1) 65535 ∧
      (s.news s.diverges).map (fun e => (e.1, e.2.1, e.2.2.1)) = [(crsSrc, 0x0602, 1)] := by
  refine ⟨?_, ?_, ?_⟩
  · simp only [State.diverges, State.irq_crs, State.emitOpen_crs, State.incF_crs]
  · calc s.diverges.getF Reg.CRS_MIR_STAT_DIVERGE
        = (s.incF Reg.CRS_MIR_STAT_DIVERGE).getF Reg.CRS_MIR_STAT_DIVERGE := by
          refine State.getF_congr ?_
          rw [State.diverges, State.rd_irq_ne _ _ _ (by decide)]
          exact State.rd_emit_ne _ _ _ _ _ (by decide) (by decide)
      _ = satAdd 16 (s.getF Reg.CRS_MIR_STAT_DIVERGE) 1 % 2 ^ 16 := State.getF_setF _ _ _ rfl
      _ = min (s.getF Reg.CRS_MIR_STAT_DIVERGE + 1) 65535 := by
          rw [satAdd]
          omega
  · have hevt : s.diverges.evt = ((s.incF Reg.CRS_MIR_STAT_DIVERGE).emitOpen crsSrc 0x0602 1).evt := State.irq_evt ..
    rw [State.news, hevt, State.emitOpen, State.emit_of_room (s := s.incF Reg.CRS_MIR_STAT_DIVERGE) (n := 8) (by decide) hroom]
    change (((s.evt.raised ++ [_]).drop s.evt.raised.length).map _).map _ = _
    rw [List.drop_left]
    rfl

/-- An OUTCOME of a course that this module has told of: the course is told of no more, and an outcome that differs diverges. -/
theorem State.outcomeCompared_gives {s : State} (hroom : s.room 8 = true) (seq a own : Nat) :
    (s.outcomeCompared seq a own).crs = { s.crs with told := s.crs.told.filter fun x => x.1 != seq } ∧
      (sameOutcome a own = true → s.outcomeCompared seq a own = { s with crs := (s.outcomeCompared seq a own).crs }) ∧
      (sameOutcome a own = false →
        (s.outcomeCompared seq a own).getF Reg.CRS_MIR_STAT_DIVERGE = min (s.getF Reg.CRS_MIR_STAT_DIVERGE + 1) 65535 ∧
        (s.news (s.outcomeCompared seq a own)).map (fun e => (e.1, e.2.1, e.2.2.1)) = [(crsSrc, 0x0602, 1)]) := by
  unfold State.outcomeCompared
  cases hsame : sameOutcome a own with
  | true => exact ⟨rfl, fun _ => rfl, fun h => absurd h (by decide)⟩
  | false =>
    obtain ⟨hcrs, hcount, hnews⟩ :=
      State.diverges_tells (s := { s with crs := { s.crs with told := s.crs.told.filter fun x => x.1 != seq } }) hroom
    exact ⟨hcrs, fun h => absurd h (by decide), fun _ => ⟨hcount, hnews⟩⟩

/-- Nothing is taken from a list in which nothing is found. -/
theorem filter_bne_of_find_none {seq : Nat} {l : List (Nat × Nat)} (h : l.find? (fun x => x.1 == seq) = none) :
    l.filter (fun x => x.1 != seq) = l := by
  refine List.filter_eq_self.2 fun x hx => ?_
  simpa using List.find?_eq_none.1 h x hx

/-! ### Copies (R180, R612, R623) -/

theorem State.linkFrame_taken (s : State) (r : CReq) (n : Nat) : (s.taken r n).linkFrame = s.linkFrame := by
  rw [State.taken, State.linkFrame_setF]
  rfl

/-- A request in a slot leaves what was sent, the pair, power, time, memory and the W link as they are. -/
theorem State.judged_keepsLink (s : State) (late : Bool) (r : CReq) (n : Nat) :
    (s.judged late r n).1.linkFrame = s.linkFrame ∧ (s.judged late r n).1.rd Reg.ETH_W_STAT = s.rd Reg.ETH_W_STAT := by
  unfold State.judged
  split
  · exact ⟨s.linkFrame_discard .., s.rd_discard_link ..⟩
  · split
    · exact ⟨s.linkFrame_discard .., s.rd_discard_link ..⟩
    · exact ⟨rfl, rfl⟩

/-- A request that is not mirrored leaves them as they are, refused or taken. -/
theorem State.submit_keepsLink {s : State} {r : CReq} (hmir : s.mirrors r = false) :
    (s.submit r).1.linkFrame = s.linkFrame ∧ (s.submit r).1.rd Reg.ETH_W_STAT = s.rd Reg.ETH_W_STAT := by
  by_cases h : s.refusal r = 0
  · cases hfree : s.crs.slots.findIdx? fun c => c.st == .free with
    | none =>
      rw [State.submit_of_full h hfree]
      exact ⟨rfl, rfl⟩
    | some n =>
      obtain ⟨hframe, hlink⟩ := (s.taken r n).judged_keepsLink (s.lateRule r).isNone r n
      rw [State.submit_of_free hmir h hfree]
      exact ⟨hframe.trans (s.linkFrame_taken r n), hlink.trans (s.rd_taken_ne r n (by decide))⟩
  · rw [State.submit_of_refused h]
    dsimp only
    split
    · exact ⟨by simp, by rw [State.rd_irq_ne _ _ _ (by decide), State.rd_count_ne _ _ _ (by decide)]⟩
    · exact ⟨rfl, rfl⟩

/-- The journal as a copy finds it: a well-formed PATCH copy notes its entries first (R143). -/
def State.copyNoted (s : State) (r : CReq) : State :=
  match r.tag with
  | .patch _ => if r.bad then s else s.journalPut 2 r.entries
  | _ => s

/-- What the unit of a copy makes of the answer to its submission. -/
def State.copyTold (q : State × Nat × Option Nat) (r : CReq) : State :=
  let s := if q.2.1 = 1 then
      match r.tag with
      | .vpatch k g => (q.1.setCore k fun x => { x with vpGen := g, vpBuf := r.entries }).setF (Reg.BLK_C_STAT_VP_PEND k) 1
      | _ => q.1
    else q.1
  if q.2.1 = 1 ∨ q.2.2.isSome then s else s.discardHook { slotZero with tag := r.tag, status := q.2.1 }

theorem State.linkFrame_journalPut (s : State) (level : Nat) (es : List (Nat × Nat)) :
    (s.journalPut level es).linkFrame = s.linkFrame :=
  foldl_keeps State.linkFrame _ es s fun _ _ _ => rfl

theorem State.rd_journalPut (s : State) (level : Nat) (es : List (Nat × Nat)) (o : Nat) : (s.journalPut level es).rd o = s.rd o :=
  foldl_keeps (State.rd · o) _ es s fun _ _ _ => rfl

theorem State.linkFrame_copyNoted (s : State) (r : CReq) : (s.copyNoted r).linkFrame = s.linkFrame := by
  unfold State.copyNoted
  split
  · split
    · rfl
    · exact s.linkFrame_journalPut ..
  · rfl

theorem State.rd_copyNoted (s : State) (r : CReq) (o : Nat) : (s.copyNoted r).rd o = s.rd o := by
  unfold State.copyNoted
  split
  · split
    · rfl
    · exact s.rd_journalPut ..
  · rfl

/-- A malformed copy and one that carries no patch note nothing. -/
theorem State.copyNoted_eq (s : State) {r : CReq} (h : r.bad = true ∨ r.tag = .none) : s.copyNoted r = s := by
  unfold State.copyNoted
  split
  next htag =>
    rcases h with h | h
    · exact if_pos h
    · rw [h] at htag
      contradiction
  · rfl

/-- The unit of a copy changes what its patch or its discard means to it. -/
theorem State.copyTold_keeps (q : State × Nat × Option Nat) (r : CReq) :
    (State.copyTold q r).linkFrame = q.1.linkFrame ∧ (State.copyTold q r).rd Reg.ETH_W_STAT = q.1.rd Reg.ETH_W_STAT ∧
      (State.copyTold q r).crs = q.1.crs := by
  unfold State.copyTold
  extract_lets t
  have ht : t.linkFrame = q.1.linkFrame ∧ t.rd Reg.ETH_W_STAT = q.1.rd Reg.ETH_W_STAT ∧ t.crs = q.1.crs := by
    unfold t
    split
    · split
      next k g _ =>
        have hstat : Reg.ETH_W_STAT ≠ Reg.BLK_C_STAT k := by
          simp only [Reg.ETH_W_STAT, Reg.BLK_C_STAT]
          omega
        exact ⟨rfl, State.rd_setF_ne _ _ _ hstat, rfl⟩
      · exact ⟨rfl, rfl, rfl⟩
    · exact ⟨rfl, rfl, rfl⟩
  obtain ⟨hframe, hlink, hcrs⟩ := ht
  split
  · exact ⟨hframe, hlink, hcrs⟩
  · exact ⟨by rw [State.linkFrame_discardHook, hframe], by rw [State.rd_discardHook _ _ (.inr rfl), hlink],
      by rw [State.crs_discardHook, hcrs]⟩

/-- A COPY that its module does not take. -/
theorem exec_wCopyRx_of_other {s : State} (c : CourseCopy) (h : s.wUp = false ∨ s.paired = false ∨ s.role ≠ 2) :
    exec (.wCopyRx c) s = .next s := by
  have hcond : (s.wUp && s.paired && s.role == 2) = false := by
    rcases h with h | h | h <;> simp [h]
  change execWCopyRx c s = _
  simp only [execWCopyRx, hcond, Bool.not_false, if_true]

section Copy
variable {s : State} (hup : s.wUp = true) (hpair : s.paired = true) (hrole : s.role = 2) (c : CourseCopy)
include hup hpair hrole

/-- The paired SHADOW answers every COPY. -/
theorem exec_wCopyRx_of_shadow : exec (.wCopyRx c) s = .next
    (if !(copyReq c).bad && s.copyErr (copyReq c) then s.wSend (.answer c.seq stCheck)
     else (State.copyTold ((s.copyNoted (copyReq c)).submit (copyReq c)) (copyReq c)).wSend
       (.answer c.seq ((s.copyNoted (copyReq c)).submit (copyReq c)).2.1)) := by
  have hcond : (s.wUp && s.paired && s.role == 2) = true := by simp [hup, hpair, hrole]
  change execWCopyRx c s = _
  simp only [execWCopyRx, hcond, Bool.not_true, Bool.false_eq_true, if_false]
  split <;> rfl

omit hpair hrole in
/-- The answer to a copy is all that is sent; time and memory stand. -/
theorem State.answered_keeps {u : State} (hframe : u.linkFrame = s.linkFrame) (hlink : u.rd Reg.ETH_W_STAT = s.rd Reg.ETH_W_STAT)
    (f : WFrame) : s.sent (u.wSend f) = [.wFrame s.wyt.frames f] ∧ (u.wSend f).tm = s.tm ∧ s.memKept (u.wSend f) := by
  obtain ⟨-, -, -, htm, hdram, hu0, hu1⟩ := State.fields_of_linkFrame hframe
  refine ⟨State.sent_wSend hup hframe hlink f, ?_, fun a => ?_⟩
  · rw [State.wSend_frame]
    exact htm
  · rw [State.wSend_frame]
    simp only [hdram, hu0, hu1, and_self]

omit hup hpair in
/-- The SHADOW mirrors nothing itself. -/
theorem State.mirrors_of_shadow (r : CReq) : (s.copyNoted r).mirrors r = false := by
  have hshadow : (s.copyNoted r).role = 2 := by
    rw [State.role, State.getF_congr (s.rd_copyNoted r _)]
    exact hrole
  simp [State.mirrors, hshadow]

omit hup hpair hrole in
/-- A malformed copy that finds a slot and is within its quota is refused with FORMAT. -/
theorem State.submit_of_bad {r : CReq} (hbad : r.bad = true) (hfull : s.inFlight < 192)
    (hquota : s.inUse r.port < s.getF (Reg.CRS_PORT_QUOTA r.port)) : s.submit r = (s, stFormat, none) := by
  have hrefusal : s.refusal r = stFormat := by
    simp only [State.refusal, slotCount, hbad, if_true, if_neg (Nat.not_le.2 hfull), if_neg (Nat.not_le.2 hquota)]
  rw [State.submit_of_refused (by rw [hrefusal]; decide), hrefusal]
  rfl

/-- The paired SHADOW answers a COPY with the status of its submission through port WYT (R180, R623). -/
theorem wCopyRx_answers : ∃ t, exec (.wCopyRx c) s = .next t ∧ (s.sent t).length = 1 ∧ t.tm = s.tm ∧ s.memKept t ∧
    ((copyReq c).bad = false → s.copyErr (copyReq c) = true →
      s.sent t = [.wFrame s.wyt.frames (.answer c.seq stCheck)] ∧ t.crs = s.crs ∧ t.kln = s.kln) ∧
    ((copyReq c).bad = true → s.inFlight < 192 → s.inUse 10 < s.getF (Reg.CRS_PORT_QUOTA 10) →
      s.sent t = [.wFrame s.wyt.frames (.answer c.seq stFormat)] ∧ t.crs = s.crs) ∧
    ((copyReq c).tag = .none →
      s.sent t = [.wFrame s.wyt.frames (.answer c.seq (s.submit (copyReq c)).2.1)] ∧ t.crs = (s.submit (copyReq c)).1.crs) := by
  refine ⟨_, exec_wCopyRx_of_shadow hup hpair hrole c, ?_⟩
  have hport : (copyReq c).port = 10 := rfl
  generalize copyReq c = r at hport
  split
  next herr =>
    obtain ⟨hgood, herr⟩ := (Bool.and_eq_true _ _).mp herr
    obtain ⟨hsent, htm, hmem⟩ := State.answered_keeps hup (u := s) rfl rfl (.answer c.seq stCheck)
    refine ⟨by rw [hsent]; rfl, htm, hmem, fun _ _ => ⟨hsent, State.crs_wSend .., by rw [State.wSend_frame]⟩, fun hbad => ?_,
      fun htag => ?_⟩
    · rw [hbad] at hgood
      contradiction
    · rw [State.copyErr, htag] at herr
      contradiction
  next hok =>
    obtain ⟨hframe, hlink⟩ := State.submit_keepsLink (State.mirrors_of_shadow hrole r)
    obtain ⟨hframe', hlink', hcrs⟩ := State.copyTold_keeps ((s.copyNoted r).submit r) r
    obtain ⟨hsent, htm, hmem⟩ := State.answered_keeps hup
      (hframe'.trans (hframe.trans (s.linkFrame_copyNoted r))) (hlink'.trans (hlink.trans (s.rd_copyNoted r _)))
      (.answer c.seq ((s.copyNoted r).submit r).2.1)
    refine ⟨by rw [hsent]; rfl, htm, hmem, fun hgood herr => absurd (by rw [hgood, herr]; rfl) hok, fun hbad hfull hquota => ?_,
      fun htag => ?_⟩
    · have hsubmit := State.submit_of_bad hbad hfull (by rw [hport]; exact hquota)
      rw [hsent, State.crs_wSend, hcrs, s.copyNoted_eq (.inl hbad), hsubmit]
      exact ⟨rfl, rfl⟩
    · rw [hsent, State.crs_wSend, hcrs, s.copyNoted_eq (.inr htag)]
      exact ⟨rfl, rfl⟩

end Copy

/-! ### The missing answer, and the statement MirroredCoursesFollowThePartner -/

/-- MIRROR_ANSWER_TIMEOUT at the instant of a course that waits, with no answer to come (R180). -/
theorem exec_mirrorAnswerTimeout {s : State} {n : Nat} (hn : n < 192) (hst : (s.slot n).st = .pending)
    (hwaits : (s.slot n).mirror = .waiting) (hinstant : s.instant (s.slot n) = true) (hnone : s.pending = []) :
    exec (.mirrorAnswerTimeout n) s = .next (s.mirrorLost n) := by
  change execMirrorAnswerTimeout n s = _
  simp [execMirrorAnswerTimeout, slotCount, hn, hst, hwaits, hinstant, State.comes, hnone]

/-- Settles O15: a clause for each frame, and one for the answer that does not come. -/
theorem mirroredCoursesFollowThePartner : Obligations.MirroredCoursesFollowThePartner := by
  intro s hshaped hroom
  refine ⟨fun hother c => ⟨s, exec_wCopyRx_of_other c hother, rfl⟩, ?_, fun hup seq => ⟨?_, ?_, ?_, ?_, ?_⟩, ?_⟩
  · rintro hup hpair hrole c _ rfl
    exact wCopyRx_answers hup hpair hrole c
  · intro n hn
    have hlen := State.lt_of_slotOfSeq hn
    refine ⟨⟨_, exec_wAnswerRx_of_some hup 1 hn, State.slot_setSlot_same _ _ hlen,
      fun m _ hm => State.slot_setSlot_ne _ _ hm, rfl⟩, fun a ha => ⟨_, exec_wAnswerRx_of_some hup a hn, ?_⟩⟩
    have hseq : (s.slot n).seq = seq := by
      obtain ⟨-, hfits⟩ := (Bool.and_eq_true _ _).mp (State.slot_of_slotOfSeq hn)
      exact beq_iff_eq.1 hfits
    rw [if_neg ha, ← hseq]
    exact State.mirrorLost_gives hlen hup
  · exact fun hnone a => ⟨s, exec_wAnswerRx_of_none a hnone, rfl⟩
  · intro n hn
    have hlen := State.lt_of_slotOfSeq hn
    have hsent : s.sent (s.discard n stPair 0) = [] := by
      obtain ⟨htx, -⟩ := State.fields_of_linkFrame (s.linkFrame_discard n stPair 0)
      rw [State.sent, htx, List.drop_length]
    refine ⟨_, exec_wCancelRx_of_some hup hn, ?_, ?_, fun m _ hm => State.slot_discard_ne _ _ _ hm, hsent⟩
    · rw [State.slot_discard_same _ _ _ hlen]
      rfl
    · rw [State.slot_discard_same _ _ _ hlen]
      rfl
  · exact fun hnone => ⟨s, exec_wCancelRx_of_none hnone, rfl⟩
  · intro a
    cases hfound : s.slotOfSeq fun x => (x.st == .pending || x.st == .committed) && x.mirror == .accepted && x.seq == seq with
    | some n =>
      refine ⟨_, exec_wOutcomeRx_of_some hup a hfound, ?_, fun h => by contradiction⟩
      rintro _ ⟨⟩
      exact ⟨State.slot_setSlot_same _ _ (State.lt_of_slotOfSeq hfound), fun m _ hm => State.slot_setSlot_ne _ _ hm, rfl⟩
    | none =>
      cases htold : s.crs.told.find? fun x => x.1 == seq with
      | some o =>
        obtain ⟨hcrs, hsame, hdiffer⟩ := State.outcomeCompared_gives hroom seq a o.2
        refine ⟨_, exec_wOutcomeRx_of_told hup hfound a htold, fun n h => by contradiction, fun _ => ⟨hcrs, ?_⟩⟩
        rintro _ ⟨⟩
        exact ⟨hsame, hdiffer⟩
      | none =>
        refine ⟨s, exec_wOutcomeRx_of_unknown hup hfound a htold, fun n h => by contradiction, fun _ => ⟨?_, fun o h => by contradiction⟩⟩
        rw [filter_bne_of_find_none htold]
  · intro n hn hst hwaits hinstant hnone hup
    have hlen : n < s.crs.slots.length := by rw [State.slots_length_of_shaped hshaped]; exact hn
    obtain ⟨hdiscarded, hstatus, hsent, -, hslots⟩ := State.mirrorLost_gives hlen hup
    exact ⟨_, exec_mirrorAnswerTimeout hn hst hwaits hinstant hnone, hdiscarded, hstatus, hsent, hslots⟩

end Sys2Proof.Machine
end

section
/-!
What the end and the start of a fc leave to the course engine once the ARMs are accepted (R164): `State.crsView` collects the engine, the
registers of its block, and the element jobs and comparators that could bring a trip decision under way. Where none is, each operation
at the fc boundary keeps the view.
-/
namespace Sys2Proof.Machine

/-! ### The view -/

/-- The course engine, the words of its register block, the element jobs and the comparators. -/
def State.crsView (s : State) : CrsSt × List ElemJob × List CompSt × (Fin 0x1000 → Nat) :=
  (s.crs, s.prt.jobs, s.prt.comp, fun k => s.rd (0x60000 + 4 * k))

/-- An offset outside the register block of the course engine. -/
def offCrs (o : Nat) : Prop := ∀ k : Fin 0x1000, 0x60000 + 4 * (k : Nat) ≠ o

theorem offCrs_of_le {o : Nat} (h : 0x64000 ≤ o) : offCrs o := fun k => by omega

theorem offCrs_of_lt {o : Nat} (h : o < 0x60000) : offCrs o := fun k => by omega

theorem State.fields_of_crsView {s t : State} (h : t.crsView = s.crsView) :
    t.crs = s.crs ∧ t.prt.jobs = s.prt.jobs ∧ t.prt.comp = s.prt.comp ∧
      ∀ k, k < 0x1000 → t.rd (0x60000 + 4 * k) = s.rd (0x60000 + 4 * k) := by
  simp only [State.crsView, Prod.mk.injEq] at h
  obtain ⟨hcrs, hjobs, hcomp, hwords⟩ := h
  exact ⟨hcrs, hjobs, hcomp, fun k hk => congrFun hwords ⟨k, hk⟩⟩

/-! ### Shared operations -/

theorem State.crsView_wr (s : State) {o : Nat} (v : Nat) (h : offCrs o) : (s.wr o v).crsView = s.crsView := by
  have hwords : (fun k : Fin 0x1000 => (s.wr o v).rd (0x60000 + 4 * k)) = fun k : Fin 0x1000 => s.rd (0x60000 + 4 * k) :=
    funext fun k => State.rd_wr_ne s v (h k)
  simp only [State.crsView, hwords, State.wr_crs, State.wr_prt]

theorem State.crsView_setF (s : State) {f : Fld} (v : Nat) (h : offCrs f.off) : (s.setF f v).crsView = s.crsView :=
  State.crsView_wr s _ h

theorem State.crsView_setB (s : State) {f : Fld} (b : Bool) (h : offCrs f.off) : (s.setB f b).crsView = s.crsView :=
  State.crsView_wr s _ h

theorem State.crsView_incF (s : State) {f : Fld} (n : Nat) (h : offCrs f.off) : (s.incF f n).crsView = s.crsView :=
  State.crsView_wr s _ h

theorem State.crsView_raise (s : State) {f : Fld} (h : offCrs f.off) : (s.raise f).crsView = s.crsView :=
  State.crsView_wr s _ h

theorem State.crsView_count (s : State) {f : Fld} (n : Nat) (h : offCrs f.off) : (s.count f n).crsView = s.crsView :=
  State.crsView_wr s _ h

@[simp] theorem State.crsView_rise (s : State) (was : Bool) (i : Nat) : (s.rise was i).crsView = s.crsView := by
  unfold State.rise
  split <;> rfl

theorem State.crsView_irq (s : State) {b : Blk} (i : Nat) (h : offCrs (Reg.UNIT_IRQ b)) : (s.irq b i).crsView = s.crsView :=
  (State.crsView_rise ..).trans (State.crsView_wr s _ h)

/-! ### The end of a fc -/

@[simp] theorem State.crsView_setFprof (s : State) (p : Nat) (f : FltProf → FltProf) : (s.setFprof p f).crsView = s.crsView := (rfl)

@[simp] theorem State.crsView_setQueue (s : State) (p : Nat) (q : Option Nat) : (s.setQueue p q).crsView = s.crsView := by
  have hstat : offCrs (Reg.FLT_PROF_STAT p) := offCrs_of_le (by simp only [Reg.FLT_PROF_STAT]; omega)
  rw [State.setQueue, State.crsView_setF _ _ hstat, State.crsView_setB _ _ hstat, State.crsView_setFprof]

@[simp] theorem State.crsView_bankRequest (s : State) (p b : Nat) : (s.bankRequest p b).crsView = s.crsView := by
  have hcnt : offCrs (Reg.FLT_PROF_CNT p) := offCrs_of_le (by simp only [Reg.FLT_PROF_CNT]; omega)
  unfold State.bankRequest
  dsimp only
  split
  case h_1 => split <;> rfl
  case h_2 =>
    split
    case h_1 => split <;> simp
    case h_2 =>
      split
      · rfl
      · rw [State.crsView_irq _ _ (offCrs_of_le (by decide)), State.crsView_incF _ _ hcnt,
          State.crsView_raise _ (offCrs_of_le (by decide)), State.crsView_setQueue]

@[simp] theorem State.crsView_fltEnd (s : State) : s.fltEnd.crsView = s.crsView := by
  refine foldl_keeps State.crsView _ _ _ fun t p _ => ?_
  dsimp only
  split
  · rfl
  · exact foldl_keeps State.crsView _ _ _ fun u b _ => State.crsView_bankRequest u p b

@[simp] theorem State.crsView_hkcEnd (s : State) : s.hkcEnd.crsView = s.crsView := by
  unfold State.hkcEnd
  split
  · rfl
  · rw [State.crsView_irq _ _ (offCrs_of_le (by decide)), State.crsView_count _ _ (offCrs_of_le (by decide)),
      State.crsView_raise _ (offCrs_of_le (by decide))]
    rfl

@[simp] theorem State.crsView_aoEnd (s : State) : s.aoEnd.crsView = s.crsView := foldl_keeps State.crsView _ _ _ fun _ _ _ => rfl

/-- With no decision under way there is no standing course to check. -/
theorem State.crsView_checkNext {s : State} (h : s.crs.decisions = []) : s.checkNext.crsView = s.crsView := by
  have hcrs : s.checkNext.crs = s.crs := by
    rw [State.checkNext, h, List.map_nil, ← h]
  exact congrArg (fun c => (c, s.prt.jobs, s.prt.comp, fun k : Fin 0x1000 => s.rd (0x60000 + 4 * k))) hcrs

@[simp] theorem State.crsView_gateTick (s : State) : s.gateTick.crsView = s.crsView := (rfl)

theorem State.crsView_txqAdd (s : State) {p : Nat} (hp : p < 4) (e : TxStamp) : (s.txqAdd p e).crsView = s.crsView := by
  have hstat : offCrs (Reg.TBU_P_STAT p) := offCrs_of_lt (by simp only [Reg.TBU_P_STAT]; omega)
  have hlost : offCrs (Reg.TBU_P_TXQ_LOST p) := offCrs_of_lt (by simp only [Reg.TBU_P_TXQ_LOST]; omega)
  unfold State.txqAdd
  split
  · rw [State.crsView_irq _ _ (offCrs_of_lt (by decide)), State.crsView_count _ _ hlost, State.crsView_raise _ hstat]
  · rfl

theorem State.crsView_txDone (s : State) {p : Nat} (hp : p < 4) : (s.txDone p).crsView = s.crsView := by
  unfold State.txDone
  split
  · split
    · rfl
    · dsimp only
      split
      · rw [State.crsView_txqAdd _ hp]
        rfl
      · rfl
  · rfl

@[simp] theorem State.crsView_txBegin (s : State) (p : Nat) (w : TxWait) (rest : List TxWait) :
    (s.txBegin p w rest).crsView = s.crsView := (rfl)

@[simp] theorem State.crsView_out (s : State) (x : TxItem) : (s.out x).crsView = s.crsView := (rfl)

theorem State.crsView_portTick (s : State) {p : Nat} (hp : p < 4) : (s.portTick p).crsView = s.crsView := by
  have hcnt : offCrs (Reg.ETH_P_CNT p) := offCrs_of_le (by simp only [Reg.ETH_P_CNT]; omega)
  unfold State.portTick
  split
  · rfl
  · dsimp only
    split
    · rw [State.crsView_txBegin, State.crsView_txDone _ hp]
    · split
      · rw [State.crsView_txBegin, State.crsView_out, State.crsView_count _ _ hcnt, State.crsView_txDone _ hp]
      · exact s.crsView_txDone hp
    · exact s.crsView_txDone hp

@[simp] theorem State.crsView_txTick (s : State) : s.txTick.crsView = s.crsView :=
  foldl_keeps State.crsView _ _ _ fun t _ hp => t.crsView_portTick (List.mem_range.1 hp)

/-! ### The tick -/

@[simp] theorem State.crsView_angTick (s : State) : s.angTick.crsView = s.crsView := by
  unfold State.angTick
  split <;> rfl

@[simp] theorem State.crsView_digKeep (s : State) : s.digKeep.crsView = s.crsView := by
  unfold State.digKeep
  dsimp only
  split
  · rfl
  · split <;> rfl

theorem State.crsView_timePassed (s : State) (d n : Nat) (segs : List TimeSeg) :
    (s.timePassed d n segs).crsView = s.crsView := (rfl)

@[simp] theorem State.crsView_tick (s : State) : s.tick.crsView = s.crsView := by
  cases h : s.pwr.unpowered with
  | true => rw [State.tick, h, if_pos rfl]
  | false =>
    rw [State.tick_eq h, State.crsView_digKeep, State.crsView_angTick, State.fcTime, State.crsView_timePassed]

/-! ### The start of a fc: no decision draws a number, no comparator rises, no job is due (R173, R27) -/

theorem State.crsView_drawSeqs {s : State} (h : s.crs.decisions = []) : s.drawSeqs.crsView = s.crsView := by
  have hcrs : s.drawSeqs.crs = s.crs := by
    rw [State.drawSeqs, h, List.foldl_nil, ← h]
  exact congrArg (fun c => (c, s.prt.jobs, s.prt.comp, fun k : Fin 0x1000 => s.rd (0x60000 + 4 * k))) hcrs

/-- Comparators none of which is about to rise stay as they are. -/
theorem State.compRise_eq {s : State} (h : (s.prt.comp.all fun x => x.rise.isNone) = true) : s.compRise = s := by
  have hnone (k : Nat) : (s.comp (k / 8) (k % 8)).rise = none := by
    rw [State.comp, List.getD_eq_getElem?_getD]
    cases hx : s.prt.comp[8 * (k / 8) + k % 8]? with
    | none => rfl
    | some x => exact Option.isNone_iff_eq_none.1 (List.all_eq_true.1 h x (List.mem_of_getElem? hx))
  unfold State.compRise
  induction List.range 128 with
  | nil => rfl
  | cons k l ih =>
    rw [List.foldl_cons, if_neg (by rw [hnone]; simp), ih]

/-- Without element jobs none is done. -/
theorem State.crsView_jobsRun {s : State} (p : ElemJob → Bool) (h : s.prt.jobs = []) : (s.jobsRun p).crsView = s.crsView := by
  simp only [State.jobsRun, h, List.filter_nil, List.foldl_nil]
  simp only [State.crsView, h]
  rfl

/-! ### The start of a fc: output latches (R27, R332, R557) -/

@[simp] theorem State.crsView_setDch (s : State) (n : Nat) (f : DioCh → DioCh) : (s.setDch n f).crsView = s.crsView := (rfl)

@[simp] theorem State.crsView_setLatch (s : State) (mask vals : Nat) : (s.setLatch mask vals).crsView = s.crsView := by
  unfold State.setLatch
  dsimp only
  rw [foldl_keeps State.crsView]
  · exact State.crsView_wr _ _ (offCrs_of_le (by decide))
  · intro t n _
    have hstat : offCrs (Reg.DIO_CH_STAT n) := offCrs_of_le (by simp only [Reg.DIO_CH_STAT]; omega)
    split
    · split
      · rw [State.crsView_setDch, State.crsView_setF _ _ hstat, State.crsView_setF _ _ hstat]
      · exact State.crsView_setF _ _ hstat
    · rfl

@[simp] theorem State.crsView_latchSafe (s : State) (chs : List Nat) : (s.latchSafe chs).crsView = s.crsView := by
  refine foldl_keeps State.crsView _ _ _ fun t n _ => ?_
  split <;> simp

@[simp] theorem State.crsView_powStart (s : State) (f : Nat) (opn : Bool) : (s.powStart f opn).crsView = s.crsView := (rfl)

theorem State.crsView_latching (s : State) {f : State → State} (hf : (f s).crsView = s.crsView) :
    (s.latching f).crsView = s.crsView := by
  unfold State.latching
  dsimp only
  split
  · exact hf
  · rw [foldl_keeps State.crsView, hf]
    intro t k _
    split
    · split <;> split <;> simp
    · rfl

@[simp] theorem State.crsView_latchOne (s : State) (o : LatchOp) : (s.latchOne o).crsView = s.crsView := by
  unfold State.latchOne
  dsimp only
  split
  · rw [State.crsView_latchSafe, State.crsView_latching _ (State.crsView_setLatch ..)]
  · exact State.crsView_latching _ (State.crsView_setLatch ..)

@[simp] theorem State.crsView_latchTick (s : State) : s.latchTick.crsView = s.crsView :=
  foldl_keeps State.crsView _ _ _ fun t o _ => State.crsView_latchOne t o

/-! ### The start of a fc: captures re-arm, the blocks of a ring frame leave (R357, R358, R465) -/

@[simp] theorem State.crsView_acqSync (s : State) : s.acqSync.crsView = s.crsView := by
  have hstat : offCrs Reg.ACQ_STAT := offCrs_of_le (by decide)
  rw [State.acqSync, State.crsView_wr _ _ (offCrs_of_le (by decide)), State.crsView_setF _ _ hstat, State.crsView_setF _ _ hstat,
    State.crsView_setF _ _ hstat]

@[simp] theorem State.crsView_tuSync (s : State) : s.tuSync.crsView = s.crsView := by
  refine foldl_keeps State.crsView _ _ _ fun t n _ => ?_
  have hstat : offCrs (Reg.ACQ_TU_STAT n) := offCrs_of_le (by simp only [Reg.ACQ_TU_STAT]; omega)
  dsimp only
  split
  · rfl
  · split
    · exact State.crsView_wr _ _ hstat
    · exact State.crsView_setF _ _ hstat

theorem State.crsView_setCap (s : State) (j : Nat) (f : RecSt → RecSt) : (s.setCap j f).crsView = s.crsView := (rfl)

@[simp] theorem State.crsView_armStart (s : State) (j : Nat) : (s.armStart j).crsView = s.crsView := by
  have hstat : offCrs (Reg.ACQ_C_STAT j) := offCrs_of_le (by simp only [Reg.ACQ_C_STAT]; omega)
  have hwrptr : offCrs (Reg.ACQ_C_WRPTR j) := offCrs_of_le (by simp only [Reg.ACQ_C_WRPTR]; omega)
  have hframes : offCrs (Reg.ACQ_C_FRAMES j) := offCrs_of_le (by simp only [Reg.ACQ_C_FRAMES]; omega)
  unfold State.armStart
  dsimp only
  rw [State.crsView_tuSync, State.crsView_acqSync, foldl_keeps State.crsView]
  · rw [State.crsView_wr _ _ hframes, State.crsView_wr _ _ hwrptr, State.crsView_setF _ _ hstat, State.crsView_wr _ _ hstat,
      State.crsView_setCap]
  · intro t k _
    have hrd : offCrs (Reg.ACQ_RD_STAT k) := offCrs_of_le (by simp only [Reg.ACQ_RD_STAT]; omega)
    rw [State.crsView_setF _ _ hrd, State.crsView_wr _ _ hrd]
    rfl

@[simp] theorem State.crsView_arm (s : State) (j : Nat) (state : Bool) : (s.arm j state).crsView = s.crsView := by
  have herr : offCrs Reg.ACQ_ERR := offCrs_of_le (by decide)
  unfold State.arm
  split
  · exact s.crsView_armStart j
  · rw [State.crsView_irq _ _ (offCrs_of_le (by decide)), State.crsView_setF _ _ herr, State.crsView_setF _ _ herr,
      State.crsView_setF _ _ herr]

@[simp] theorem State.crsView_rearmTick (s : State) : s.rearmTick.crsView = s.crsView := by
  refine foldl_keeps State.crsView _ _ _ fun t j _ => ?_
  have hstat : offCrs (Reg.ACQ_C_STAT j) := offCrs_of_le (by simp only [Reg.ACQ_C_STAT]; omega)
  dsimp only
  split
  · split
    · rfl
    · split
      · rw [State.crsView_arm, State.crsView_setF _ _ hstat, State.crsView_setCap]
      · rw [State.crsView_arm, State.crsView_setCap]
  · rfl

@[simp] theorem State.crsView_ringTick (s : State) : s.ringTick.crsView = s.crsView := by
  unfold State.ringTick
  split
  · rfl
  · dsimp only
    split
    · rfl
    · rw [foldl_keeps State.crsView _ _ _ fun t p _ => State.crsView_out ..]
      rfl

/-! ### The fc boundary -/

/-- A fc from the acceptance of its ARMs to the start of the next. -/
def State.fcAfterArms (s : State) : State := s.fltEnd.hkcEnd.aoEnd.checkNext.gateTick.txTick.tick.fcBegin

/-- With no trip decision under way the rest of the fc leaves the course engine and its registers alone. -/
theorem State.crsView_fcAfterArms {s : State} (hdec : s.crs.decisions = []) (hjobs : s.prt.jobs = [])
    (hcomp : (s.prt.comp.all fun x => x.rise.isNone) = true) : s.fcAfterArms.crsView = s.crsView := by
  have hahead : s.fltEnd.hkcEnd.aoEnd.crsView = s.crsView := by simp
  have hcheck : s.fltEnd.hkcEnd.aoEnd.checkNext.gateTick.txTick.tick.crsView = s.crsView := by
    obtain ⟨hcrs, -⟩ := State.fields_of_crsView hahead
    rw [State.crsView_tick, State.crsView_txTick, State.crsView_gateTick, State.crsView_checkNext (by rw [hcrs, hdec]), hahead]
  unfold State.fcAfterArms
  generalize s.fltEnd.hkcEnd.aoEnd.checkNext.gateTick.txTick.tick = t at hcheck
  obtain ⟨hcrs, hj, hc, -⟩ := State.fields_of_crsView hcheck
  unfold State.fcBegin
  split
  · exact hcheck
  · have hdraw : t.drawSeqs.crsView = t.crsView := State.crsView_drawSeqs (by rw [hcrs, hdec])
    have hrise : t.drawSeqs.compRise = t.drawSeqs := State.compRise_eq (by change (t.prt.comp.all _) = true; rw [hc, hcomp])
    rw [State.crsView_ringTick, State.crsView_rearmTick, State.crsView_latchTick, hrise,
      State.crsView_jobsRun _ (by change t.prt.jobs = []; rw [hj, hjobs]), hdraw, hcheck]

end Sys2Proof.Machine
end

section
/-!
CRS_CTL.ARM (R164): the command, its acceptance at the end of the fc (R150, R152, R159, R184), and the statement
ArmSubmitsTheStagedCourse.
-/
namespace Sys2Proof.Machine

/-! ### What an action finds does not depend on the course engine (R158, R159) -/

/-- t is s but for the course engine and the register of its counts. -/
structure State.countedAs (s t : State) : Prop where
  frame : ∃ g c, t = { s with regs := g, crs := c }
  words : ∀ o, o ≠ Reg.CRS_CNT → t.rd o = s.rd o

section Counted
variable {s t : State} (h : s.countedAs t)
include h

theorem State.countedAs.getF {f : Fld} (hf : Reg.CRS_CNT < f.off) : t.getF f = s.getF f := State.getF_congr (h.words _ hf.ne')

theorem State.countedAs.flag {f : Fld} (hf : Reg.CRS_CNT < f.off) : t.flag f = s.flag f := State.flag_congr (h.words _ hf.ne')

theorem State.countedAs.on (id : Nat) : t.on id = s.on id := by
  obtain ⟨g, c, rfl⟩ := h.frame
  rfl

theorem State.countedAs.regUp (off : Nat) : t.regUp off = s.regUp off := by
  obtain ⟨g, c, rfl⟩ := h.frame
  rfl

/-- No REG action passes the write check of a register of the course engine. -/
theorem State.countedAs.regCheck (off mask v : Nat) : t.regCheck off mask v = s.regCheck off mask v := by
  by_cases hoff : off = Reg.CRS_CNT
  · have hblock : decide (off / 0x10000 ∉ [0x00, 0x01, 0x05, 0x06]) = false := by rw [hoff]; decide
    simp only [State.regCheck, hblock, Bool.false_and]
  · simp only [State.regCheck, h.words _ hoff]

theorem State.countedAs.isOut (n : Nat) : t.isOut n = s.isOut n := by
  rw [State.isOut, State.isOut, h.getF (Nat.lt_add_right _ (by decide))]

theorem State.countedAs.holding (n : Nat) : t.holding n = s.holding n := by
  rw [State.holding, State.holding, h.flag (Nat.lt_add_right _ (by decide))]

theorem State.countedAs.holdBlocks (g mask vals : Nat) : t.holdBlocks g mask vals = s.holdBlocks g mask vals := by
  have hhold (n : Nat) : t.getF (Reg.PRT_TRIPO_HOLD n) = s.getF (Reg.PRT_TRIPO_HOLD n) := h.getF (Nat.lt_add_right _ (by decide))
  have hstate (n : Nat) : t.getF (Reg.PRT_TRIPO_TSTATE n) = s.getF (Reg.PRT_TRIPO_TSTATE n) := h.getF (Nat.lt_add_right _ (by decide))
  have hholding := h.holding
  simp only [State.holdBlocks, hhold, hstate, hholding]
  obtain ⟨g, c, rfl⟩ := h.frame
  rfl

theorem State.countedAs.aoCheck (n : Nat) : t.aoCheck n = s.aoCheck n := by
  rw [State.aoCheck, State.aoCheck, h.flag (Nat.lt_add_right _ (by decide)), h.flag (Nat.lt_add_right _ (by decide))]
  obtain ⟨g, c, rfl⟩ := h.frame
  rfl

theorem State.countedAs.ringMaster : t.ringMaster = s.ringMaster := by
  simp only [State.ringMaster, State.standby, State.role, h.on, h.flag (f := Reg.WYT_CFG_EN) (by decide),
    h.getF (f := Reg.WYT_STAT_ROLE) (by decide), h.getF (f := Reg.YUL_CTL_ROLE) (by decide)]

theorem State.countedAs.linkUp (p : Nat) : t.linkUp p = s.linkUp p := by
  rw [State.linkUp, State.linkUp, h.on, h.flag (Nat.lt_add_right _ (by decide)), h.flag (Nat.lt_add_right _ (by decide))]

theorem State.countedAs.portsOf (mask : Nat) : t.portsOf mask = s.portsOf mask := by
  have hrole (p : Nat) : t.getF (Reg.ETH_P_CFG_ROLE p) = s.getF (Reg.ETH_P_CFG_ROLE p) := h.getF (Nat.lt_add_right _ (by decide))
  simp only [State.portsOf, hrole]

theorem State.countedAs.patchCheck (m v : Nat) : t.patchCheck m v = s.patchCheck m v := by
  have hseal : t.sealOpen = s.sealOpen := h.flag (by decide)
  simp only [State.patchCheck, hseal]
  obtain ⟨g, c, rfl⟩ := h.frame
  rfl

/-- What an action finds, an EXCH action aside, does not depend on the course engine. -/
theorem State.countedAs.actErr (port : Nat) {a : Action} (ha : a.ty ≠ 12) : t.actErr port a = s.actErr port a := by
  unfold State.actErr
  split
  case h_1 => rw [h.regUp, h.regCheck]
  case h_2 =>
    have htrip (n : Nat) : t.flag (Reg.PRT_TRIPO_EN n) = s.flag (Reg.PRT_TRIPO_EN n) := h.flag (Nat.lt_add_right _ (by decide))
    simp only [h.on, h.isOut, htrip, h.holdBlocks]
  case h_3 =>
    have hfitted : t.hasAo a.tgt = s.hasAo a.tgt := by
      obtain ⟨g, c, rfl⟩ := h.frame
      rfl
    rw [h.on, h.aoCheck, hfitted]
  case h_4 => rw [h.ringMaster, h.on, h.flag (Nat.lt_add_right _ (by decide)), h.flag (Nat.lt_add_right _ (by decide))]
  case h_5 => rw [h.on, h.flag (Nat.lt_add_right _ (by decide))]
  case h_9 =>
    have hlink : t.linkUp = s.linkUp := funext h.linkUp
    have hon : t.on = s.on := funext h.on
    rw [h.getF (Nat.lt_add_right _ (by decide)), h.portsOf, hlink, hon, h.flag (Nat.lt_add_right _ (by decide))]
  case h_10 => rw [h.patchCheck]
  case h_11 =>
    have hcore : t.core = s.core := by
      obtain ⟨g, c, rfl⟩ := h.frame
      rfl
    rw [h.on, hcore]
  case h_12 hty => exact absurd hty ha
  case h_7 | h_13 => rfl
  all_goals rw [h.on]

/-- The lowest failing action of a list without EXCH does not depend on the course engine. -/
theorem State.countedAs.actsErr (port : Nat) {acts : List Action} (hacts : ∀ a ∈ acts, a.ty ≠ 12) :
    t.actsErr port acts = s.actsErr port acts := by
  have hsealed : t.patchSealed = s.patchSealed ∧ t.auditRoom = s.auditRoom := by
    obtain ⟨g, c, rfl⟩ := h.frame
    exact ⟨rfl, rfl⟩
  obtain ⟨hpatch, hroom⟩ := hsealed
  have hone : ∀ p ∈ acts.zipIdx, t.actErr port p.1 = s.actErr port p.1 := fun p hp =>
    h.actErr port (hacts _ (List.fst_mem_of_mem_zipIdx hp))
  unfold State.actsErr
  rw [hpatch, hroom]
  generalize acts.zipIdx = l at hone
  induction l with
  | nil => rfl
  | cons p l ih =>
    rw [List.findSome?_cons, List.findSome?_cons, hone p List.mem_cons_self, ih fun q hq => hone q (List.mem_cons_of_mem _ hq)]

end Counted

/-- No action of a well-formed request of the host port is an EXCH. -/
theorem CReq.ty_ne_of_good {r : CReq} (hgood : r.bad = false) (hport : r.port = 0) : ∀ a ∈ r.acts, a.ty ≠ 12 := by
  intro a ha hty
  have hbad : a.bad r.port = true := by simp [Action.bad, hty, hport, portAllows]
  have hrequest : r.bad = true := by
    simp only [CReq.bad, Bool.or_eq_true, List.any_eq_true]
    exact .inl (.inl (.inr ⟨a, ha, hbad⟩))
  rw [hgood] at hrequest
  contradiction

/-- A request that is not refused is well-formed. -/
theorem State.good_of_refusal {s : State} {r : CReq} (h : s.refusal r = 0) : r.bad = false := by
  refine Bool.eq_false_iff.2 fun hbad => absurd h ?_
  simp only [State.refusal, hbad, if_true]
  split_ifs <;> decide

/-! ### A request of the host port takes a slot (R164) -/

theorem State.countedAs_taken (s : State) (r : CReq) (n : Nat) : s.countedAs (s.taken r n) :=
  ⟨⟨_, _, rfl⟩, fun _ ho => s.rd_taken_ne r n ho⟩

theorem State.sansCourse_taken (s : State) (r : CReq) (n : Nat) : (s.taken r n).sansCourse = s.sansCourse := by
  rw [State.taken, State.sansCourse_setF]
  rfl

theorem State.slot_taken_same {s : State} {n : Nat} (r : CReq) (h : n < s.crs.slots.length) :
    (s.taken r n).slot n = s.takenSlot r n := by
  have hslot : (s.taken r n).slot n = (s.setSlot n fun _ => s.takenSlot r n).slot n := by
    rw [State.slot, State.crs_taken]
    rfl
  rw [hslot, State.slot_setSlot_same _ _ h]

theorem State.slot_taken_ne (s : State) {n m : Nat} (r : CReq) (h : m ≠ n) : (s.taken r n).slot m = s.slot m := by
  have hslot : (s.taken r n).slot m = (s.setSlot n fun _ => s.takenSlot r n).slot m := by
    rw [State.slot, State.crs_taken]
    rfl
  rw [hslot, State.slot_setSlot_ne _ _ h]

theorem State.length_taken (s : State) (r : CReq) (n : Nat) : (s.taken r n).crs.slots.length = s.crs.slots.length := by
  rw [State.crs_taken]
  exact s.length_setSlot n _

/-! ### CRS_RES (R164) -/

/-- CRS_RES names status, generation and course of an ARM. -/
theorem State.crsRes_fields (s : State) (status gen course : Nat) :
    (s.crsRes status gen course).getF Reg.CRS_RES_STATUS = status % 256 ∧
      (s.crsRes status gen course).getF Reg.CRS_RES_GEN = gen % 256 ∧
      (s.crsRes status gen course).getF Reg.CRS_RES_COURSE = course % 256 ∧
      (s.crsRes status gen course).getF Reg.CRS_RES_DONE = 1 := by
  unfold State.crsRes
  refine ⟨?_, ?_, State.getF_setF _ _ _ rfl, ?_⟩
  · rw [State.getF_setF_beside _ _ rfl rfl (by decide), State.getF_setF_beside _ _ rfl rfl (by decide)]
    exact State.getF_setF _ _ _ rfl
  · rw [State.getF_setF_beside _ _ rfl rfl (by decide)]
    exact State.getF_setF _ _ _ rfl
  · rw [State.getF_setF_beside _ _ rfl rfl (by decide), State.getF_setF_beside _ _ rfl rfl (by decide),
      State.getF_setF_beside _ _ rfl rfl (by decide)]
    exact State.getF_setF _ _ _ rfl

@[simp] theorem State.crs_crsRes (s : State) (status gen course : Nat) : (s.crsRes status gen course).crs = s.crs := by
  simp only [State.crsRes, State.setF_crs]

@[simp] theorem State.prt_crsRes (s : State) (status gen course : Nat) : (s.crsRes status gen course).prt = s.prt := by
  simp only [State.crsRes, State.setF_prt]

theorem State.rd_crsRes_ne (s : State) (status gen course : Nat) {o : Nat} (h : o ≠ Reg.CRS_RES) :
    (s.crsRes status gen course).rd o = s.rd o := by
  rw [State.crsRes, State.rd_setF_ne _ _ _ h, State.rd_setF_ne _ _ _ h, State.rd_setF_ne _ _ _ h, State.rd_setF_ne _ _ _ h]

/-! ### The end of a fc in which one ARM waits (R164) -/

/-- No ARM waits any more. -/
def State.disarmed (s : State) : State := { s with crs := { s.crs with arms := [] } }

/-- One ARM is accepted at the end of the fc in which it waits, whatever its interface. -/
theorem State.armsAccept_of_one {s : State} {r : ArmReq} (hon : s.pwr.unpowered = false) (h : s.crs.arms = [r]) :
    s.armsAccept = s.disarmed.armAccept r := by
  have hnow : (r.ifc == .pcie || decide (r.fc < s.tm.fc) || !([r].any fun x => x.ifc == .pcie)) = true := by
    cases hifc : r.ifc <;> simp [hifc]
  simp only [State.armsAccept, hon, Bool.false_eq_true, if_false, h, List.filter_cons, List.filter_nil, hnow, if_true,
    Bool.not_true, List.foldl_cons, List.foldl_nil]
  rfl

/-- No trip decision is under way: none waits, no element job and no comparator brings one. -/
def State.untripped (s : State) : Prop :=
  s.crs.decisions = [] ∧ s.prt.jobs = [] ∧ (s.prt.comp.all fun x => x.rise.isNone) = true

/-- A fc with one ARM and no trip decision under way: CRS_RES answers the ARM, and the rest of the fc leaves the course engine and its
registers as the acceptance left them. -/
theorem step_of_answered {s u : State} {r : ArmReq} {status gen course : Nat} (hq : s.pending = [])
    (hon : s.pwr.unpowered = false) (harm : s.crs.arms = [r]) (hu : u.untripped)
    (haccept : s.disarmed.armAccept r = u.crsRes status gen course) :
    ∃ t, step s = .next t ∧ t.crs = u.crs ∧ t.getF Reg.CRS_RES_STATUS = status % 256 ∧ t.getF Reg.CRS_RES_GEN = gen % 256 ∧
      t.getF Reg.CRS_RES_COURSE = course % 256 ∧ t.flag Reg.CRS_RES_DONE = true ∧
      ∀ k, k < 0x1000 → 0x60000 + 4 * k ≠ Reg.CRS_RES → t.rd (0x60000 + 4 * k) = u.rd (0x60000 + 4 * k) := by
  have hstep : step s = .next (u.crsRes status gen course).fcAfterArms := by
    simp only [step, hq, State.fcEnd, hon, Bool.false_eq_true, if_false, State.armsAccept_of_one hon harm, haccept]
    rfl
  obtain ⟨hdec, hjobs, hcomp⟩ := hu
  have hview := State.crsView_fcAfterArms (s := u.crsRes status gen course) (by rw [State.crs_crsRes, hdec])
    (by rw [State.prt_crsRes, hjobs]) (by rw [State.prt_crsRes, hcomp])
  obtain ⟨hcrs, -, -, hwords⟩ := State.fields_of_crsView hview
  have hres : (u.crsRes status gen course).fcAfterArms.rd Reg.CRS_RES = (u.crsRes status gen course).rd Reg.CRS_RES := by
    have hword := hwords 9 (by decide)
    rwa [show 0x60000 + 4 * 9 = Reg.CRS_RES by decide] at hword
  have hfield (f : Fld) (hf : f.off = Reg.CRS_RES) :
      (u.crsRes status gen course).fcAfterArms.getF f = (u.crsRes status gen course).getF f :=
    State.getF_congr (hf ▸ hres)
  obtain ⟨hstatus, hgen, hcourse, hdone⟩ := u.crsRes_fields status gen course
  refine ⟨_, hstep, hcrs.trans (State.crs_crsRes ..), (hfield Reg.CRS_RES_STATUS rfl).trans hstatus,
    (hfield Reg.CRS_RES_GEN rfl).trans hgen, (hfield Reg.CRS_RES_COURSE rfl).trans hcourse, ?_, fun k hk hne => (hwords k hk).trans (State.rd_crsRes_ne _ _ _ _ hne)⟩
  rw [State.flag, hfield Reg.CRS_RES_DONE rfl, hdone]
  rfl

/-- Beside registers, events, courses and the host interface nothing brings a decision under way. -/
theorem State.untripped_of_sansCourse {s u : State} (h : s.untripped) (hdec : u.crs.decisions = s.crs.decisions)
    (hframe : u.sansCourse = s.sansCourse) : u.untripped := by
  obtain ⟨hnone, hjobs, hcomp⟩ := h
  have hprt : u.prt = s.prt := by
    change u.sansCourse.prt = s.sansCourse.prt
    rw [hframe]
  exact ⟨hdec.trans hnone, by rw [hprt, hjobs], by rw [hprt, hcomp]⟩

/-! ### What becomes of the staged course (R159, R164, R184) -/

/-- What a course asks for and where it stands in the order of courses: actions, schedule, sequence number, port, generation. -/
def Slot.asked (c : Slot) : List Action × Sched × Nat × Nat × Nat := (c.acts, c.sched, c.seq, c.port, c.gen)

/-- A request in a slot, which no unit prepared and which is not late, keeps its slot and what it asked for; it stays PENDING, or is
discarded with its lowest failing action. -/
theorem State.judged_gives {s : State} {r : CReq} {n : Nat} (hlen : n < s.crs.slots.length) (htag : (s.slot n).tag = .none) :
    (s.judged false r n).2.2 = some n ∧ (s.judged false r n).1.sansCourse = s.sansCourse ∧
      (s.judged false r n).1.crs.nextSeq = s.crs.nextSeq ∧ (s.judged false r n).1.crs.decisions = s.crs.decisions ∧
      ((s.judged false r n).1.slot n).asked = (s.slot n).asked ∧
      (∀ m, m ≠ n → (s.judged false r n).1.slot m = s.slot m) ∧
      (s.actsErr r.port r.acts = none → (s.judged false r n).1 = s ∧ (s.judged false r n).2.1 = 1) ∧
      (∀ e, s.actsErr r.port r.acts = some e → (s.judged false r n).1.slot n = s.discarded e.1 e.2 (s.slot n) ∧
        (s.judged false r n).2.1 = e.1) := by
  cases herr : s.actsErr r.port r.acts with
  | none =>
    have hjudged : s.judged false r n = (s, 1, some n) := by
      simp only [State.judged, herr, Bool.false_eq_true, if_false]
    rw [hjudged]
    exact ⟨rfl, rfl, rfl, rfl, rfl, fun m _ => rfl, fun _ => ⟨rfl, rfl⟩, fun e h => by contradiction⟩
  | some e =>
    have hjudged : s.judged false r n = (s.discard n e.1 e.2, e.1, some n) := by
      simp only [State.judged, herr, Bool.false_eq_true, if_false]
    have hcrs := s.crs_discard n e.1 e.2
    have hslot := s.slot_discard_same e.1 e.2 hlen
    rw [hjudged]
    refine ⟨rfl, ?_, by rw [hcrs]; rfl, by rw [hcrs]; rfl, by rw [hslot]; rfl,
      fun m hm => s.slot_discard_ne _ _ hm, fun h => by contradiction, ?_⟩
    · rw [State.discard_of_untagged _ _ hlen htag, State.sansCourse_discardTold]
    · rintro _ ⟨⟩
      exact ⟨hslot, rfl⟩

section Fc
variable {s : State} {r : ArmReq} (hq : s.pending = []) (hon : s.pwr.unpowered = false) (harm : s.crs.arms = [r])
  (huntripped : s.untripped)
include hq hon harm huntripped

/-- An ARM below operate level is answered ACCESS with course 0xFF. -/
theorem step_of_denied (hok : r.ok = false) : ∃ t, step s = .next t ∧ t.getF Reg.CRS_RES_STATUS = 0x14 ∧
    t.getF Reg.CRS_RES_COURSE = 0xFF ∧ t.flag Reg.CRS_RES_DONE = true ∧ t.crs = { s.crs with arms := [] } ∧
    (∀ k, k < 0x1000 → 0x60000 + 4 * k ≠ Reg.CRS_RES → t.rd (0x60000 + 4 * k) = s.rd (0x60000 + 4 * k)) := by
  have haccept : s.disarmed.armAccept r = s.disarmed.crsRes stAccess 0 0xFF := by
    simp only [State.armAccept, hok, Bool.not_false, if_true]
  obtain ⟨t, ht, hcrs, hstatus, -, hcourse, hdone, hwords⟩ :=
    step_of_answered hq hon harm (State.untripped_of_sansCourse (u := s.disarmed) huntripped rfl rfl) haccept
  exact ⟨t, ht, hstatus, hcourse, hdone, hcrs, hwords⟩

variable (hok : r.ok = true) (hpair : s.paired = false)
include hok hpair

omit hq hon harm huntripped in
/-- An ARM at operate level submits the staged course. -/
theorem State.armAccept_of_submit {u : State} {status : Nat} {course : Option Nat}
    (h : s.disarmed.submit s.staged = (u, status, course)) :
    s.disarmed.armAccept r = u.crsRes status (course.elim 0 fun n => (u.slot n).gen) (course.getD 0xFF) := by
  have hcopies : s.disarmed.copiesOnly 0 = false := by
    have halone : s.disarmed.paired = false := hpair
    simp [State.copiesOnly, halone]
  have hsubmit : s.disarmed.submit s.disarmed.staged = (u, status, course) := h
  simp only [State.armAccept, hok, Bool.not_true, Bool.false_eq_true, if_false, hcopies, hsubmit]
  cases course <;> rfl

/-- A staged course that is refused takes no slot, and CRS_RES names the refusal with course 0xFF. -/
theorem step_of_refused (h : s.refusal s.staged ≠ 0) : ∃ t, step s = .next t ∧
    t.getF Reg.CRS_RES_STATUS = s.refusal s.staged % 256 ∧ t.getF Reg.CRS_RES_COURSE = 0xFF ∧ t.flag Reg.CRS_RES_DONE = true ∧
    t.crs = { s.crs with arms := [] } := by
  have hrefused : s.disarmed.refusal s.staged ≠ 0 := h
  have hsubmit := State.submit_of_refused hrefused
  generalize hu : (if s.disarmed.refusal s.staged = stBusy ∨ s.disarmed.refusal s.staged = stQuota then
    (s.disarmed.count Reg.CRS_BUSY_CNT_COUNT).irq .crs 2 else s.disarmed) = u at hsubmit
  have hcrs : u.crs = s.disarmed.crs := by
    rw [← hu]
    split
    · rw [State.irq_crs, State.count_crs]
    · rfl
  have hframe : u.sansCourse = s.sansCourse := by
    rw [← hu]
    split
    · rw [State.sansCourse_irq]
      rfl
    · rfl
  obtain ⟨t, ht, htcrs, hstatus, -, hcourse, hdone, -⟩ := step_of_answered hq hon harm
    (State.untripped_of_sansCourse huntripped (by rw [hcrs]; rfl) hframe) (State.armAccept_of_submit hok hpair hsubmit)
  exact ⟨t, ht, hstatus, hcourse, hdone, htcrs.trans hcrs⟩

/-- A staged course that is accepted takes the lowest free slot. -/
theorem step_of_accepted (hslots : s.crs.slots.length = 192) (hrefusal : s.refusal s.staged = 0)
    {q : Sched × Option Nat × Bool × Bool} (hlate : s.lateRule s.staged = some q) {n : Nat}
    (hfree : (s.crs.slots.findIdx? fun c => c.st == .free) = some n) :
    ∃ t, step s = .next t ∧ t.getF Reg.CRS_RES_COURSE = n ∧ t.getF Reg.CRS_RES_GEN = ((s.slot n).gen + 1) % 256 ∧
      t.flag Reg.CRS_RES_DONE = true ∧ (t.slot n).acts = s.staged.acts ∧ (t.slot n).sched = q.1 ∧ (t.slot n).seq = s.crs.nextSeq ∧
      t.crs.nextSeq = (s.crs.nextSeq + 1) % 2 ^ 32 ∧ (t.slot n).port = 0 ∧ (∀ m, m < 192 → m ≠ n → t.slot m = s.slot m) ∧
      (s.actsErr 0 s.staged.acts = none → (t.slot n).st = .pending ∧ t.getF Reg.CRS_RES_STATUS = 1) ∧
      (∀ e, s.actsErr 0 s.staged.acts = some e → (t.slot n).st = .discarded ∧ (t.slot n).status = e.1 ∧ (t.slot n).act = e.2 ∧
        t.getF Reg.CRS_RES_STATUS = e.1 % 256) := by
  have hn : n < 192 := by
    obtain ⟨hlt, -⟩ := List.findIdx?_eq_some_iff_getElem.1 hfree
    exact hslots ▸ hlt
  have hmir : s.disarmed.mirrors s.staged = false := by
    have halone : s.disarmed.paired = false := hpair
    simp [State.mirrors, halone]
  have hrule : s.disarmed.lateRule s.staged = some q := hlate
  have hsubmit := State.submit_of_free (s := s.disarmed) hmir hrefusal hfree
  rw [hrule, Option.isNone_some] at hsubmit
  have hlen : n < (s.disarmed.taken s.staged n).crs.slots.length := by
    rw [State.length_taken]
    exact hslots ▸ hn
  have hslot : (s.disarmed.taken s.staged n).slot n = s.disarmed.takenSlot s.staged n :=
    State.slot_taken_same _ (by rw [State.disarmed, hslots]; exact hn)
  have hasked : (s.disarmed.takenSlot s.staged n).asked = (s.staged.acts, q.1, s.crs.nextSeq, 0, ((s.slot n).gen + 1) % 256) := by
    rw [Slot.asked, State.takenSlot, hrule]
    rfl
  have herrs : (s.disarmed.taken s.staged n).actsErr 0 s.staged.acts = s.actsErr 0 s.staged.acts :=
    (s.disarmed.countedAs_taken s.staged n).actsErr 0 (CReq.ty_ne_of_good (State.good_of_refusal hrefusal) rfl)
  obtain ⟨hcourse, hframe, hseq, hdec, hkept, hothers, hpass, hfail⟩ :=
    State.judged_gives (r := s.staged) hlen (by rw [hslot]; rfl)
  generalize (s.disarmed.taken s.staged n).judged false s.staged n = v at hsubmit hcourse hframe hseq hdec hkept hothers hpass hfail
  obtain ⟨u, status, course⟩ := v
  obtain rfl : course = some n := hcourse
  rw [hslot, hasked] at hkept
  simp only [Slot.asked, Prod.mk.injEq] at hkept
  obtain ⟨hacts, hsched, hseqno, hport, hgen⟩ := hkept
  obtain ⟨t, ht, hcrs, hstatus, htgen, htcourse, hdone, -⟩ := step_of_answered hq hon harm
    (State.untripped_of_sansCourse huntripped (hdec.trans (by rw [State.crs_taken]; rfl))
      (hframe.trans (State.sansCourse_taken ..))) (State.armAccept_of_submit hok hpair hsubmit)
  have htslot (m : Nat) : t.slot m = u.slot m := State.slot_congr hcrs m
  refine ⟨t, ht, htcourse.trans (Nat.mod_eq_of_lt (show n < 256 by omega)), ?_, hdone, ?_⟩
  · change t.getF Reg.CRS_RES_GEN = (u.slot n).gen % 256 at htgen
    rw [htgen, hgen, Nat.mod_mod]
  simp only [htslot]
  refine ⟨hacts, hsched, hseqno, ?_, hport, fun m _ hm => ?_, fun hnone => ?_, fun e he => ?_⟩
  · rw [hcrs, hseq, State.crs_taken]
    rfl
  · rw [hothers m hm, State.slot_taken_ne _ _ hm]
    rfl
  · obtain ⟨hu, hone⟩ := hpass (herrs.trans hnone)
    dsimp only at hu hone
    rw [hstatus, hone, hu, hslot]
    exact ⟨rfl, rfl⟩
  · obtain ⟨hu, herr⟩ := hfail e (herrs.trans he)
    dsimp only at hu herr
    rw [hstatus, herr, hu]
    exact ⟨rfl, rfl, rfl, rfl⟩

end Fc

/-! ### The command (R164) -/

theorem State.setF_with_crs (s : State) (f : Fld) (v : Nat) (c : CrsSt) :
    { s.setF f v with crs := c } = State.setF { s with crs := c } f v := (rfl)

/-- CRS_ARM clears CRS_RES.DONE and waits for the end of the fc with the level it was given at. -/
theorem crsArm_waits {s : State} {i : Iface} (hup : s.hostUp = true) (harms : s.crs.arms = []) {v : Word}
    (hv : v.toNat.testBit 1 = false) :
    ∃ t, exec (.crsArm i v) s = .next t ∧ t.flag Reg.CRS_RES_DONE = false ∧
      t.crs = { s.crs with arms := [⟨i, s.may i .operate, s.tm.fc⟩] } ∧ s.regsKept [Reg.CRS_RES] t ∧
      t = { s with regs := t.regs, crs := t.crs, hst := t.hst } := by
  have habort : (v.toNat ||| 1).testBit 1 = false := by rw [Nat.testBit_or, hv]; decide
  have harm : (v.toNat ||| 1).testBit 0 = true := by rw [Nat.testBit_or]; simp
  have hexec : exec (.crsArm i v) s = .next ((s.crsArm i).spiEnd i) := by
    change execCrsArm i v s = _
    simp only [execCrsArm, State.hostRow, hup, if_true, State.crsCtl, habort, harm, Bool.false_eq_true, if_false]
  obtain ⟨h, hused⟩ : ∃ h, (if s.may i .operate then s.used i .operate else s) = { s with hst := h } := by
    split
    · exact s.exists_used_eq i .operate
    · exact ⟨s.hst, rfl⟩
  have hstate : s.crsArm i = State.setF { s with crs := { s.crs with arms := [⟨i, s.may i .operate, s.tm.fc⟩] }, hst := h }
      Reg.CRS_RES_DONE 0 := by
    simp only [State.crsArm, hused, State.setF_crs, harms, List.not_mem_nil, if_false, List.nil_append]
    exact State.setF_with_crs ..
  refine ⟨_, hexec, ?_, ?_, fun o ho => ?_, ?_⟩
  · rw [State.flag_spiEnd, hstate, State.flag_setF_zero _ _ rfl]
  · rw [State.crs_spiEnd, hstate, State.setF_crs]
  · rw [State.rd_spiEnd, hstate, State.rd_setF_ne _ _ _ (by simpa using ho)]
    rfl
  · rw [hstate, State.setF_frame]
    generalize (State.setF _ _ _).regs = g
    cases i <;> rfl

/-! ### The statement ArmSubmitsTheStagedCourse -/

/-- The full table is refused with BUSY, and a full quota with QUOTA (R150, R152). -/
theorem State.refusal_of_full (s : State) (r : CReq) :
    (s.inFlight = 192 → s.refusal r = stBusy) ∧
      (s.inFlight < 192 → s.getF (Reg.CRS_PORT_QUOTA r.port) ≤ s.inUse r.port → s.refusal r = stQuota) := by
  refine ⟨fun hfull => ?_, fun hroom hquota => ?_⟩
  · exact if_pos (show s.inFlight ≥ slotCount by rw [hfull]; exact le_refl 192)
  · simp only [State.refusal, slotCount, if_neg (Nat.not_le.2 hroom), if_pos (show s.inUse r.port ≥ _ from hquota)]

/-- Settles O11: the command waits, and at the end of the fc the ARM is denied, refused or accepted. -/
theorem armSubmitsTheStagedCourse : Obligations.ArmSubmitsTheStagedCourse := by
  intro s hshaped
  refine ⟨fun i hup harms v hv => crsArm_waits hup harms hv, fun r hhead hlength hq hon hpair hdec hjobs hcomp => ?_⟩
  have harm : s.crs.arms = [r] := by
    obtain ⟨l, hl⟩ := List.head?_eq_some_iff.1 hhead
    rw [hl, List.length_cons, Nat.add_eq_right, List.length_eq_zero_iff] at hlength
    rw [hl, hlength]
  have huntripped : s.untripped := ⟨hdec, hjobs, hcomp⟩
  refine ⟨fun hok => step_of_denied hq hon harm huntripped hok, fun hok hrefused => ?_, fun hok hrefusal q hlate n hfree => ?_⟩
  · obtain ⟨t, ht, hstatus, hcourse, hdone, hcrs⟩ := step_of_refused hq hon harm huntripped hok hpair hrefused
    obtain ⟨hbusy, hquota⟩ := s.refusal_of_full s.staged
    exact ⟨t, ht, hstatus, hcourse, hdone, hcrs, fun hfull => by rw [hstatus, hbusy hfull]; rfl,
      fun hroom hover => by rw [hstatus, hquota hroom hover]; rfl⟩
  · exact step_of_accepted hq hon harm huntripped hok hpair (State.slots_length_of_shaped hshaped) hrefusal hlate hfree

end Sys2Proof.Machine
end

section
/-!
Groups of the analogue front end (06): the entry of a group and of a converter, the registers of a converter's state, and whose turn at
the proof DAC it is (R217).
-/
namespace Sys2Proof.Machine

/-! ### Entries of a group and of its converters -/

/-- A state whose lists have their lengths has eight AFE groups. -/
theorem State.afe_length_of_shaped {s : State} (h : s.shaped = true) : s.afe.length = 8 := by
  simp only [State.shaped, Bool.and_eq_true, decide_eq_true_eq] at h
  tauto

theorem State.grp_congr {s t : State} (h : t.afe = s.afe) (g : Nat) : t.grp g = s.grp g := by
  rw [State.grp, State.grp, h]

theorem State.cv_congr {s t : State} {g : Nat} (h : (t.grp g).cvs = (s.grp g).cvs) (v : Nat) : t.cv g v = s.cv g v := by
  rw [State.cv, State.cv, h]

@[simp] theorem State.rd_setGrp (s : State) (g : Nat) (f : AfeGrp → AfeGrp) (o : Nat) : (s.setGrp g f).rd o = s.rd o := (rfl)

@[simp] theorem State.rd_setCv (s : State) (g v : Nat) (f : CvSt → CvSt) (o : Nat) : (s.setCv g v f).rd o = s.rd o := (rfl)

@[simp] theorem State.tm_setGrp (s : State) (g : Nat) (f : AfeGrp → AfeGrp) : (s.setGrp g f).tm = s.tm := (rfl)

@[simp] theorem State.tm_setCv (s : State) (g v : Nat) (f : CvSt → CvSt) : (s.setCv g v f).tm = s.tm := (rfl)

@[simp] theorem State.evt_setGrp (s : State) (g : Nat) (f : AfeGrp → AfeGrp) : (s.setGrp g f).evt = s.evt := (rfl)

@[simp] theorem State.length_setGrp (s : State) (g : Nat) (f : AfeGrp → AfeGrp) : (s.setGrp g f).afe.length = s.afe.length := by
  simp [State.setGrp, upd]

@[simp] theorem State.length_setCv (s : State) (g v : Nat) (f : CvSt → CvSt) : (s.setCv g v f).afe.length = s.afe.length :=
  State.length_setGrp ..

/-- A change of a fitted group reads back. -/
theorem State.grp_setGrp_same (s : State) {g : Nat} (f : AfeGrp → AfeGrp) (h : g < s.afe.length) :
    (s.setGrp g f).grp g = f (s.grp g) := by
  simp [State.grp, State.setGrp, upd, h]

/-- A change of a converter changes its group's list of converters alone. -/
theorem State.grp_setCv_same (s : State) {g : Nat} (v : Nat) (f : CvSt → CvSt) (h : g < s.afe.length) :
    (s.setCv g v f).grp g = { s.grp g with cvs := upd (s.grp g).cvs v f } :=
  State.grp_setGrp_same s _ h

theorem State.cv_setCv_same (s : State) {g v : Nat} (f : CvSt → CvSt) (hg : g < s.afe.length) (hv : v < (s.grp g).cvs.length) :
    (s.setCv g v f).cv g v = f (s.cv g v) := by
  simp [State.cv, State.grp_setCv_same s v f hg, upd, hv]

theorem State.cv_setCv_ne (s : State) {g v w : Nat} (f : CvSt → CvSt) (hg : g < s.afe.length) (h : w ≠ v) :
    (s.setCv g v f).cv g w = s.cv g w := by
  simp [State.cv, State.grp_setCv_same s v f hg, upd, List.getD, h.symm]

/-! ### Registers -/

/-- A field that 1 has been put into is set. -/
theorem State.flag_setF_one (s : State) (f : Fld) (h : f.ok = true) : (s.setF f 1).flag f = true := State.flag_raise s h

/-- The offset of a group's interrupt register. -/
theorem unitIrq_afe (g : Nat) : Reg.UNIT_IRQ (.afe g) = 0x100010 + 0x1000 * g := by
  simp only [Reg.UNIT_IRQ, Blk.base]
  omega

/-- An interrupt of a group changes no register but the group's own interrupt register. -/
theorem State.rd_irq_afe_ne (s : State) {g : Nat} (i : Nat) {o : Nat} (h : o ≠ 0x100010 + 0x1000 * g) :
    (s.irq (.afe g) i).rd o = s.rd o :=
  State.rd_irq_ne s _ _ (by rwa [unitIrq_afe])

/-- The state fields of AFEg_RPT_STAT are all that `State.rptSync` writes. -/
theorem State.rd_rptSync_ne (s : State) {g o : Nat} (h : o ≠ Reg.AFE_RPT_STAT g) : (s.rptSync g).rd o = s.rd o := by
  simp (disch := exact h) only [State.rptSync, State.rd_setF_ne, State.rd_setB_ne]

@[simp] theorem State.sansRegs_rptSync (s : State) (g : Nat) : (s.rptSync g).sansRegs = s.sansRegs := by
  simp only [State.rptSync, State.setB, State.setF, State.sansRegs_wr]

@[simp] theorem State.afe_rptSync (s : State) (g : Nat) : (s.rptSync g).afe = s.afe := by
  simp only [State.rptSync, State.setB_afe, State.setF_afe]

@[simp] theorem State.evt_rptSync (s : State) (g : Nat) : (s.rptSync g).evt = s.evt := by
  simp only [State.rptSync, State.setB_evt, State.setF_evt]

/-- A converter put into a state has its AFEg_CVv_STAT written and nothing else. -/
theorem State.rd_setCvStat_ne (s : State) {g v : Nat} (st path role ch : Nat) {o : Nat} (h : o ≠ Reg.AFE_CV_STAT g v) :
    (s.setCvStat g v st path role ch).rd o = s.rd o := by
  simp (disch := exact h) only [State.setCvStat, State.rd_setF_ne]

@[simp] theorem State.sansRegs_setCvStat (s : State) (g v st path role ch : Nat) :
    (s.setCvStat g v st path role ch).sansRegs = s.sansRegs := (rfl)

@[simp] theorem State.afe_setCvStat (s : State) (g v st path role ch : Nat) : (s.setCvStat g v st path role ch).afe = s.afe := (rfl)

@[simp] theorem State.tm_setCvStat (s : State) (g v st path role ch : Nat) : (s.setCvStat g v st path role ch).tm = s.tm := (rfl)

theorem State.cvState_congr {s t : State} {g v : Nat} (h : t.rd (Reg.AFE_CV_STAT g v) = s.rd (Reg.AFE_CV_STAT g v)) :
    t.cvState g v = s.cvState g v :=
  State.getF_congr h

theorem State.cvState_setCvStat (s : State) (g v : Nat) {st : Nat} (path role ch : Nat) (h : st < 8) :
    (s.setCvStat g v st path role ch).cvState g v = st := by
  simp only [State.setCvStat, State.cvState]
  rw [State.getF_setF_beside _ _ rfl rfl (by lia), State.getF_setF_beside _ _ rfl rfl (by lia),
    State.getF_setF_beside _ _ rfl rfl (by lia), State.getF_setF _ _ _ rfl]
  exact Nat.mod_eq_of_lt h

theorem State.ch_setCvStat (s : State) (g v st path role : Nat) {ch : Nat} (h : ch < 8) :
    (s.setCvStat g v st path role ch).getF (Reg.AFE_CV_STAT_CH g v) = ch := by
  rw [State.setCvStat, State.getF_setF _ _ _ rfl]
  exact Nat.mod_eq_of_lt h

/-! ### Events raised -/

/-- Room for events is room for fewer, while none is raised. -/
theorem State.room_of_le {s u : State} {m n : Nat} (hevt : u.evt = s.evt) (hle : m ≤ n) (h : s.room n = true) : u.room m = true := by
  have hroom : s.waiting + n ≤ 4096 := of_decide_eq_true h
  have hwaiting : u.waiting = s.waiting := by rw [State.waiting, State.waiting, hevt]
  exact decide_eq_true (by omega)

/-- An event that finds room is the news. -/
theorem State.news_emit {s u : State} {n : Nat} (hevt : u.evt = s.evt) (hn : 0 < n) (hroom : s.room n = true) (src code cls value : Nat) :
    s.news (u.emit src code cls value) = [(src, code, cls, value % 2 ^ 64)] := by
  rw [State.news, State.emit_of_room hn (State.room_of_le hevt le_rfl hroom), hevt]
  simp

/-- Raising an event takes back none raised before. -/
theorem State.raised_emit (s : State) (src code cls value : Nat) :
    ∃ l, (s.emit src code cls value).evt.raised = s.evt.raised ++ l := by
  unfold State.emit State.emitAt
  split
  · exact ⟨[], by simp [State.count, State.tally]⟩
  · exact ⟨_, rfl⟩

@[simp] theorem State.rd_bump (s : State) (o : Nat) : s.bump.rd o = s.rd o := (rfl)

theorem State.rd_emitOpen_ne (s : State) (src code cls : Nat) {o : Nat} (h₁ : o ≠ Reg.EVT_INTAKE_LOST) (h₂ : o ≠ Reg.EVT_STAT) :
    (s.emitOpen src code cls).rd o = s.rd o := by
  rw [State.emitOpen, State.rd_bump, State.rd_emit_ne _ _ _ _ _ h₁ h₂]

theorem State.evt_emitOpen (s : State) (src code cls : Nat) :
    (s.emitOpen src code cls).evt = (s.emit src code cls (s.freeBits 64)).evt := (rfl)

/-- An event of an open value that finds room is the news. -/
theorem State.news_emitOpen {s u : State} {n : Nat} (hevt : u.evt = s.evt) (hn : 0 < n) (hroom : s.room n = true)
    (src code cls : Nat) : (s.news (u.emitOpen src code cls)).map (fun e => (e.1, e.2.1, e.2.2.1)) = [(src, code, cls)] := by
  rw [State.news, State.evt_emitOpen, ← State.news, State.news_emit hevt hn hroom]
  rfl

/-! ### The turn at the proof DAC (R217) -/

/-- A request comes before another, or as early: it was made at an earlier edge, or at the same edge, not by a proof test where the
other is a calibration. -/
def dacBefore (u w : Nat × DacUser) : Prop := u.1 ≤ w.1 ∧ (w.1 = u.1 → u.2 = .proof → w.2 = .proof)

theorem dacBefore.refl (u : Nat × DacUser) : dacBefore u u := ⟨le_refl _, fun _ h => h⟩

theorem dacBefore.trans {u v w : Nat × DacUser} (h : dacBefore u v) (h' : dacBefore v w) : dacBefore u w :=
  ⟨h.1.trans h'.1, fun heq hu => by
    have huv : v.1 = u.1 := le_antisymm (h'.1.trans heq.le) h.1
    exact h'.2 (heq.trans huv.symm) (h.2 huv hu)⟩

/-- The request kept of those seen so far and one more. -/
def dacFirst (b : Option (Nat × DacUser)) (w : Nat × DacUser) : Option (Nat × DacUser) :=
  match b with
  | none => some w
  | some u => if w.1 < u.1 || (w.1 == u.1 && u.2 == .proof) then some w else b

/-- The request kept is one of the two, and comes before both. -/
theorem dacFirst_some (u w : Nat × DacUser) :
    ∃ x, dacFirst (some u) w = some x ∧ (x = u ∨ x = w) ∧ dacBefore x u ∧ dacBefore x w := by
  by_cases hlt : w.1 < u.1
  · exact ⟨w, by simp [dacFirst, hlt], .inr rfl, ⟨hlt.le, fun h => by omega⟩, dacBefore.refl w⟩
  · by_cases heq : w.1 = u.1 ∧ u.2 = .proof
    · exact ⟨w, by simp [dacFirst, heq], .inr rfl, ⟨heq.1.le, fun _ _ => heq.2⟩, dacBefore.refl w⟩
    · refine ⟨u, ?_, .inl rfl, dacBefore.refl u, by omega, fun h hu => absurd ⟨h, hu⟩ heq⟩
      simp only [dacFirst, ite_eq_right_iff, Bool.or_eq_true, Bool.and_eq_true, decide_eq_true_eq, beq_iff_eq]
      tauto

/-- Of a list of requests one is kept that comes before all. -/
theorem foldl_dacFirst (u : Nat × DacUser) (l : List (Nat × DacUser)) :
    ∃ x ∈ u :: l, (u :: l).foldl dacFirst none = some x ∧ ∀ w ∈ u :: l, dacBefore x w := by
  induction l generalizing u with
  | nil => exact ⟨u, List.mem_singleton_self u, rfl, fun w hw => List.mem_singleton.1 hw ▸ dacBefore.refl u⟩
  | cons w l ih =>
    obtain ⟨y, hy, hmem, hyu, hyw⟩ := dacFirst_some u w
    obtain ⟨x, hx, hfold, hbefore⟩ := ih y
    refine ⟨x, ?_, ?_, ?_⟩
    · rcases List.mem_cons.1 hx with rfl | hx
      · rcases hmem with rfl | rfl <;> simp
      · simp [hx]
    · rw [← hfold]
      change l.foldl dacFirst (dacFirst (some u) w) = l.foldl dacFirst (some y)
      rw [hy]
    · have hxy := hbefore y (List.mem_cons_self ..)
      intro z hz
      rcases List.mem_cons.1 hz with rfl | hz
      · exact hxy.trans hyu
      · rcases List.mem_cons.1 hz with rfl | hz
        · exact hxy.trans hyw
        · exact hbefore z (List.mem_cons_of_mem _ hz)

@[simp] theorem State.edgeNow_setF (s : State) (f : Fld) (v : Nat) : (s.setF f v).edgeNow = s.edgeNow := by
  simp only [State.edgeNow, State.setF_tm]

/-- The requests for the DAC that have been made (R217). -/
def State.dacDue (s : State) (g : Nat) : List (Nat × DacUser) :=
  (s.grp g).dacWait.filter fun w => decide (w.1 ≤ s.edgeNow)

theorem State.mem_dacDue {s : State} {g : Nat} {w : Nat × DacUser} :
    w ∈ s.dacDue g ↔ w ∈ (s.grp g).dacWait ∧ w.1 ≤ s.edgeNow := by
  simp [State.dacDue]

/-- The DAC goes to a request. -/
def State.dacGiven (s : State) (g : Nat) (u : Nat × DacUser) : State :=
  let t := s.setGrp g fun x => { x with dac := some u.2, dacWait := x.dacWait.erase u }
  if u.2 = .proof then t.setF (Reg.AFE_PROOF_STAT_WAIT g) 0 else t

theorem State.dacGrant_eq (s : State) (g : Nat) : s.dacGrant g =
    if (s.grp g).dac.isSome then s else
      match (s.dacDue g).foldl dacFirst none with
      | none => s
      | some u => s.dacGiven g u := (rfl)

/-- A DAC in use stays with its user. -/
theorem State.dacGrant_of_taken {s : State} {g : Nat} (h : (s.grp g).dac.isSome = true) : s.dacGrant g = s := by
  rw [State.dacGrant_eq, if_pos h]

/-- While nobody has asked the DAC stays free. -/
theorem State.dacGrant_of_idle {s : State} {g : Nat} (h : s.dacDue g = []) : s.dacGrant g = s := by
  rw [State.dacGrant_eq, h]
  exact ite_self s

/-- The free DAC goes to a request that has been made and comes before all others. -/
theorem State.dacGrant_of_due {s : State} {g : Nat} (hfree : (s.grp g).dac = none) (hdue : s.dacDue g ≠ []) :
    ∃ u ∈ s.dacDue g, s.dacGrant g = s.dacGiven g u ∧ ∀ w ∈ s.dacDue g, dacBefore u w := by
  obtain ⟨w, l, hl⟩ := List.exists_cons_of_ne_nil hdue
  obtain ⟨u, hu, hfold, hbefore⟩ := foldl_dacFirst w l
  rw [← hl] at hu hfold hbefore
  exact ⟨u, hu, by rw [State.dacGrant_eq, hfold, hfree]; rfl, hbefore⟩

/-- What a grant can do. -/
theorem State.dacGrant_cases (s : State) (g : Nat) : s.dacGrant g = s ∨ ∃ u, s.dacGrant g = s.dacGiven g u := by
  cases hdac : (s.grp g).dac with
  | some x => exact .inl (State.dacGrant_of_taken (by rw [hdac]; rfl))
  | none =>
    by_cases hdue : s.dacDue g = []
    · exact .inl (State.dacGrant_of_idle hdue)
    · obtain ⟨u, -, hu, -⟩ := State.dacGrant_of_due hdac hdue
      exact .inr ⟨u, hu⟩

theorem State.dacGiven_frame (s : State) (g : Nat) (u : Nat × DacUser) :
    s.dacGiven g u = { s with regs := (s.dacGiven g u).regs, afe := (s.dacGiven g u).afe } := by
  unfold State.dacGiven
  dsimp only
  split <;> rfl

theorem State.rd_dacGiven_ne (s : State) {g : Nat} (u : Nat × DacUser) {o : Nat} (h : o ≠ Reg.AFE_PROOF_STAT g) :
    (s.dacGiven g u).rd o = s.rd o := by
  unfold State.dacGiven
  dsimp only
  split
  · exact State.rd_setF_ne _ _ _ h
  · rfl

theorem State.afe_dacGiven (s : State) (g : Nat) (u : Nat × DacUser) :
    (s.dacGiven g u).afe = (s.setGrp g fun x => { x with dac := some u.2, dacWait := x.dacWait.erase u }).afe := by
  unfold State.dacGiven
  dsimp only
  split <;> rfl

theorem State.grp_dacGiven (s : State) {g : Nat} (u : Nat × DacUser) (h : g < s.afe.length) :
    (s.dacGiven g u).grp g = { s.grp g with dac := some u.2, dacWait := (s.grp g).dacWait.erase u } :=
  (State.grp_congr (s.afe_dacGiven g u) g).trans (State.grp_setGrp_same s _ h)

@[simp] theorem State.length_dacGiven (s : State) (g : Nat) (u : Nat × DacUser) : (s.dacGiven g u).afe.length = s.afe.length := by
  rw [State.afe_dacGiven, State.length_setGrp]

/-- A grant changes PROOF_STAT and the group's entry. -/
theorem State.dacGrant_frame (s : State) (g : Nat) :
    s.dacGrant g = { s with regs := (s.dacGrant g).regs, afe := (s.dacGrant g).afe } := by
  obtain h | ⟨u, h⟩ := s.dacGrant_cases g
  · rw [h]
  · rw [h, ← State.dacGiven_frame]

theorem State.rd_dacGrant_ne (s : State) {g o : Nat} (h : o ≠ Reg.AFE_PROOF_STAT g) : (s.dacGrant g).rd o = s.rd o := by
  obtain hg | ⟨u, hg⟩ := s.dacGrant_cases g
  · rw [hg]
  · rw [hg, State.rd_dacGiven_ne s u h]

/-- A grant leaves every field but PROOF_STAT.WAIT alone. -/
theorem State.getF_dacGrant (s : State) {g : Nat} {f : Fld} (hf : f.ok = true) (h : f.hi < 29 ∨ 29 < f.lo) :
    (s.dacGrant g).getF f = s.getF f := by
  obtain hg | ⟨u, hg⟩ := s.dacGrant_cases g
  · rw [hg]
  · rw [hg, State.dacGiven]
    split
    · exact State.getF_setF_beside _ _ rfl hf h
    · rfl

@[simp] theorem State.length_dacGrant (s : State) (g : Nat) : (s.dacGrant g).afe.length = s.afe.length := by
  obtain h | ⟨u, h⟩ := s.dacGrant_cases g
  · rw [h]
  · rw [h, State.length_dacGiven]

/-- A grant leaves the converters and the test alone. -/
theorem State.grp_dacGrant (s : State) {g : Nat} (h : g < s.afe.length) :
    ((s.dacGrant g).grp g).cvs = (s.grp g).cvs ∧ ((s.dacGrant g).grp g).test = (s.grp g).test := by
  obtain hg | ⟨u, hg⟩ := s.dacGrant_cases g
  · rw [hg]
    exact ⟨rfl, rfl⟩
  · rw [hg, State.grp_dacGiven s u h]
    exact ⟨rfl, rfl⟩

end Sys2Proof.Machine
end

section
/-!
A repointing step from its start to its substitution, the fade that follows and the calibration of the converter taken out
(R203–R217), and the statement ConvertersTakeTurns.
-/
namespace Sys2Proof.Machine

/-! ### The state beside registers and groups -/

/-- A state without its register file and its AFE groups. -/
def State.sansAfe (s : State) : State := { s with regs := [], afe := [] }

theorem State.frame_of_sansAfe {s t : State} (h : t.sansAfe = s.sansAfe) : t = { s with regs := t.regs, afe := t.afe } :=
  congrArg (fun (u : State) => { u with regs := t.regs, afe := t.afe }) h

theorem State.sansAfe_of_sansRegs {s t : State} (h : t.sansRegs = s.sansRegs) : t.sansAfe = s.sansAfe :=
  congrArg (fun (u : State) => { u with afe := [] }) h

@[simp] theorem State.sansAfe_setF (s : State) (f : Fld) (v : Nat) : (s.setF f v).sansAfe = s.sansAfe := (rfl)

@[simp] theorem State.sansAfe_setGrp (s : State) (g : Nat) (f : AfeGrp → AfeGrp) : (s.setGrp g f).sansAfe = s.sansAfe := (rfl)

@[simp] theorem State.sansAfe_setCv (s : State) (g v : Nat) (f : CvSt → CvSt) : (s.setCv g v f).sansAfe = s.sansAfe := (rfl)

@[simp] theorem State.sansAfe_setCvStat (s : State) (g v st path role ch : Nat) :
    (s.setCvStat g v st path role ch).sansAfe = s.sansAfe :=
  State.sansAfe_of_sansRegs (State.sansRegs_setCvStat ..)

@[simp] theorem State.sansAfe_rptSync (s : State) (g : Nat) : (s.rptSync g).sansAfe = s.sansAfe :=
  State.sansAfe_of_sansRegs (State.sansRegs_rptSync ..)

/-! ### The start of a step (R203, R204) -/

/-- A converter of a group in some state is one of the eighteen. -/
theorem State.lt_of_mem_cvsIn {s : State} {g st v : Nat} (h : v ∈ s.cvsIn g st) : v < 18 :=
  List.mem_range.1 (List.mem_filter.1 h).1

/-- A fold that keeps what it has or takes the next entry ends with an entry of the list. -/
theorem mem_of_foldl_choice {α : Type} {step : Option α → α → Option α} {l : List α} {x : α}
    (hstep : ∀ b a, step b a = b ∨ step b a = some a) (h : l.foldl step none = some x) : x ∈ l := by
  refine List.foldlRecOn (motive := fun b => ∀ y, b = some y → y ∈ l) l step (by simp) (fun b hb a ha y hy => ?_) x h
  rcases hstep b a with hkeep | htake
  · exact hb y (hkeep ▸ hy)
  · exact Option.some.inj (htake.symm.trans hy) ▸ ha

/-- The target of a step is one of the eighteen converters. -/
theorem State.lt_of_rptTarget {s : State} {g v : Nat} (h : s.rptTarget g = some v) : v < 18 := by
  refine State.lt_of_mem_cvsIn (List.mem_filter.1 (mem_of_foldl_choice (fun b a => ?_) h)).1
  rcases b with _ | w
  · exact .inr rfl
  · exact (ite_eq_or_eq ..).symm

/-- The synchronised state fields lie beside the target's number. -/
theorem State.target_rptSync (s : State) (g : Nat) :
    (s.rptSync g).getF (Reg.AFE_RPT_STAT_TARGET_CV g) = s.getF (Reg.AFE_RPT_STAT_TARGET_CV g) := by
  simp (disch := simp [Fld.ok]) only [State.rptSync, State.setB, State.getF_setF_beside]

/-- The spare sp begins to shadow the target v. -/
def State.stepStarted (s : State) (g v sp : Nat) : State :=
  let t := s.setCvStat g sp cvShadow (s.getF (Reg.AFE_CV_STAT_PATH g v)) (s.getF (Reg.AFE_CV_STAT_ROLE g v))
    (s.getF (Reg.AFE_CV_STAT_CH g v))
  let t := t.setCv g sp fun c => { c with quiet := 0, term := none }
  let t := t.setGrp g fun x => { x with step := some ⟨v, sp, 0, 0, 0, 0, 0, 0, 0, 0, none⟩, stepFrom := t.tm.runt }
  (t.setF (Reg.AFE_RPT_STAT_TARGET_CV g) v).rptSync g

theorem exec_repointStepStart_of_due {s : State} {g v sp : Nat} (hg : g < 8) (htarget : s.rptTarget g = some v)
    (hspare : (s.cvsIn g cvSpare).head? = some sp) (hruns : s.rptRuns g = true) (hstep : (s.grp g).step = none)
    (hdue : s.expired (s.grp g).stepFrom (s.getF (Reg.AFE_RPT_CTL_INTERVAL g) * 1000000) = true) :
    exec (.repointStepStart g) s = .next (s.stepStarted g v sp) := by
  obtain ⟨rest, hrest⟩ := List.head?_eq_some_iff.1 hspare
  change execRepointStepStart g s = _
  simp only [execRepointStepStart, hg, hruns, hdue, hstep, htarget, hrest, decide_true, Option.isNone_none, Bool.and_self, if_true]
  rfl

theorem State.stepStarted_gives {s : State} {g v sp : Nat} (hg : g < s.afe.length) (hv : v < 18) :
    let t := s.stepStarted g v sp
    t.cvState g sp = cvShadow ∧ (t.grp g).step.map (fun x => (x.target, x.spare, x.pairs)) = some (v, sp, 0) ∧
      (t.grp g).stepFrom = s.tm.runt ∧ t.getF (Reg.AFE_CV_STAT_CH g sp) = s.getF (Reg.AFE_CV_STAT_CH g v) ∧
      t.getF (Reg.AFE_RPT_STAT_TARGET_CV g) = v ∧ s.regsKept [Reg.AFE_CV_STAT g sp, Reg.AFE_RPT_STAT g] t ∧
      t = { s with regs := t.regs, afe := t.afe } := by
  intro t
  have hrd (o : Nat) (ho : o ≠ Reg.AFE_RPT_STAT g) : t.rd o = (s.setCvStat g sp cvShadow (s.getF (Reg.AFE_CV_STAT_PATH g v))
      (s.getF (Reg.AFE_CV_STAT_ROLE g v)) (s.getF (Reg.AFE_CV_STAT_CH g v))).rd o := by
    simp only [t, State.stepStarted]
    rw [State.rd_rptSync_ne _ ho, State.rd_setF_ne _ _ _ ho, State.rd_setGrp, State.rd_setCv]
  have hgrp : (t.grp g).step = some ⟨v, sp, 0, 0, 0, 0, 0, 0, 0, 0, none⟩ ∧ (t.grp g).stepFrom = s.tm.runt := by
    simp only [t, State.stepStarted]
    rw [State.grp_congr ((State.afe_rptSync ..).trans (State.setF_afe ..)), State.grp_setGrp_same _ _ (by simpa using hg)]
    exact ⟨rfl, rfl⟩
  refine ⟨?_, by rw [hgrp.1]; rfl, hgrp.2, ?_, ?_, fun o ho => ?_, State.frame_of_sansAfe ?_⟩
  · rw [State.cvState_congr (hrd _ (by lia)), State.cvState_setCvStat _ _ _ _ _ _ (by decide)]
  · rw [State.getF_congr (hrd _ (by lia)), State.ch_setCvStat _ _ _ _ _ _ (bits_lt ..)]
  · simp only [t, State.stepStarted]
    rw [State.target_rptSync, State.getF_setF _ _ _ rfl]
    exact Nat.mod_eq_of_lt (by simp only; omega)
  · simp only [List.mem_cons, List.not_mem_nil, or_false, not_or] at ho
    rw [hrd o ho.2, State.rd_setCvStat_ne _ _ _ _ _ ho.1]
  · simp [t, State.stepStarted]

/-! ### A step given up (R205, R216) -/

/-- A step given up makes its spare a spare again and is counted. -/
theorem State.rptAbandon_gives {s : State} {g : Nat} {st : RptStep} (hg : g < s.afe.length) (hstep : (s.grp g).step = some st) :
    let t := s.rptAbandon g
    (t.grp g).step = none ∧ t.cvState g st.spare = cvSpare ∧
      t.getF (Reg.AFE_RPT_CNT_ABANDONED g) = min (s.getF (Reg.AFE_RPT_CNT_ABANDONED g) + 1) 65535 ∧
      s.regsKept [Reg.AFE_CV_STAT g st.spare, Reg.AFE_RPT_CNT g, Reg.AFE_RPT_STAT g, Reg.UNIT_IRQ (.afe g)] t := by
  intro t
  have ht : t = ((((s.setCvStat g st.spare cvSpare 0 0 0).setGrp g fun x => { x with step := none, stepFrom := s.tm.runt }).incF
      (Reg.AFE_RPT_CNT_ABANDONED g)).rptSync g).irq (.afe g) 1 := by
    simp only [t, State.rptAbandon, hstep]
    rfl
  have hrd (o : Nat) (hirq : o ≠ 0x100010 + 0x1000 * g) (hstat : o ≠ Reg.AFE_RPT_STAT g) : t.rd o =
      ((s.setCvStat g st.spare cvSpare 0 0 0).incF (Reg.AFE_RPT_CNT_ABANDONED g)).rd o := by
    rw [ht, State.rd_irq_afe_ne _ _ hirq, State.rd_rptSync_ne _ hstat]
    rfl
  have hcnt : (s.setCvStat g st.spare cvSpare 0 0 0).getF (Reg.AFE_RPT_CNT_ABANDONED g) = s.getF (Reg.AFE_RPT_CNT_ABANDONED g) :=
    State.getF_congr (State.rd_setCvStat_ne _ _ _ _ _ (by lia))
  refine ⟨?_, ?_, ?_, fun o ho => ?_⟩
  · rw [ht, State.grp_congr (t := State.irq _ _ _) ((State.irq_afe ..).trans ((State.afe_rptSync ..).trans (State.incF_afe ..))),
      State.grp_setGrp_same _ _ (by simpa using hg)]
  · rw [State.cvState_congr ((hrd _ (by lia) (by lia)).trans (State.rd_incF_ne _ _ _ (by lia))),
      State.cvState_setCvStat _ _ _ _ _ _ (by decide)]
  · rw [State.getF_congr (hrd _ (by lia) (by lia)), State.incF, State.getF_setF _ _ _ rfl, hcnt]
    simp only [satAdd]
    omega
  · simp only [List.mem_cons, List.not_mem_nil, or_false, not_or] at ho
    obtain ⟨hcv, hcnt, hstat, hirq⟩ := ho
    rw [hrd o (unitIrq_afe g ▸ hirq) hstat, State.rd_incF_ne _ _ _ hcnt, State.rd_setCvStat_ne _ _ _ _ _ hcv]

/-- The state of another converter is none of the registers that giving a step up writes. -/
theorem cvStat_notMem_of_ne {g v w : Nat} (h : v ≠ w) :
    Reg.AFE_CV_STAT g v ∉ [Reg.AFE_CV_STAT g w, Reg.AFE_RPT_CNT g, Reg.AFE_RPT_STAT g, Reg.UNIT_IRQ (.afe g)] := by
  simp only [unitIrq_afe, List.mem_cons, List.not_mem_nil, or_false, not_or]
  exact ⟨by lia, by lia, by lia, by lia⟩

theorem exec_repointAbandon_of_due {s : State} {g : Nat} {st : RptStep} (hg : g < 8) (hstep : (s.grp g).step = some st)
    (h : s.flag (Reg.AFE_RPT_CTL_EN g) = false ∨ s.govFull = false ∨ 4096 ≤ st.edges ∧ st.pairs < 256) :
    exec (.repointAbandon g) s = .next (s.rptAbandon g) := by
  have hdue : (decide (st.edges ≥ 16 * 256) && decide (st.pairs < 256) ||
      (!s.flag (Reg.AFE_RPT_CTL_EN g) || !s.govFull)) = true := by
    simp only [Bool.or_eq_true, Bool.and_eq_true, decide_eq_true_eq, Bool.not_eq_true', ge_iff_le]
    tauto
  change execRepointAbandon g s = _
  simp only [execRepointAbandon, State.only, hg, decide_true, if_true, hstep, hdue]

/-! ### The mismatch (R206, R207) -/

/-- The state after the mismatch of the step st has given it a term. -/
def State.stepJudged (s : State) (g : Nat) (st : RptStep) (term : Option (Rat × Rat)) : State :=
  s.setGrp g fun x => { x with step := some { st with term := some term } }

/-- The mismatch of a step is within the limits of R207. -/
def State.withinLimits (s : State) (g : Nat) (st : RptStep) : Prop :=
  absR st.fit.1 ≤ (s.getF (Reg.AFE_RPT_LIM_OFS g) : Rat) ∧
    absR (st.fit.2 - 1) * 1000000 ≤ (s.getF (Reg.AFE_RPT_LIM_GAIN g) : Rat)

theorem exec_repointMismatch_of_pairs {s : State} {g : Nat} {st : RptStep} (hg : g < 8) (hstep : (s.grp g).step = some st)
    (hpairs : 256 ≤ st.pairs) (hterm : st.term = none) :
    (s.withinLimits g st → exec (.repointMismatch g) s = .next (s.stepJudged g st (some (st.fit.2, st.fit.1)))) ∧
    (¬ s.withinLimits g st → exec (.repointMismatch g) s =
      .next (((s.stepJudged g st none).irq (.afe g) 2).emit (cvSrc g st.target) 0x1001 1 (ofSigned 64 (openR st.fit.1)))) := by
  have hcond : st.pairs ≥ 256 ∧ st.term = none := ⟨hpairs, hterm⟩
  have hexec : exec (.repointMismatch g) s = execRepointMismatch g s := (rfl)
  unfold State.withinLimits
  simp only [hexec, execRepointMismatch, State.only, hg, decide_true, if_true, hstep, if_pos hcond, ← Bool.decide_and]
  constructor
  · intro h
    simp only [h, and_self, decide_true, if_true]
    rfl
  · intro h
    simp only [h, decide_false, Bool.false_eq_true, if_false]
    rfl

/-- The mismatch of a step with 256 pairs is computed: within the limits it is the spare's match term, beyond them the target's event
tells of it. -/
theorem repointMismatch_judges {s : State} {g : Nat} {st : RptStep} (hg : g < 8) (hlen : g < s.afe.length) (hroom : s.room 8 = true)
    (hstep : (s.grp g).step = some st) (hpairs : 256 ≤ st.pairs) (hterm : st.term = none) :
    ∃ t, exec (.repointMismatch g) s = .next t ∧ (t.grp g).step.any (·.term.isSome) = true ∧
      (s.withinLimits g st →
        (t.grp g).step = some { st with term := some (some (st.fit.2, st.fit.1)) } ∧ t.regs = s.regs ∧ t.evt = s.evt) ∧
      (¬ s.withinLimits g st → (t.grp g).step = some { st with term := some none } ∧
        (s.news t).map (fun e => (e.1, e.2.1, e.2.2.1)) = [(cvSrc g st.target, 0x1001, 1)]) := by
  obtain ⟨hwithin, hbeyond⟩ := exec_repointMismatch_of_pairs hg hstep hpairs hterm
  have hjudged (term : Option (Rat × Rat)) : ((s.stepJudged g st term).grp g).step = some { st with term := some term } := by
    rw [State.stepJudged, State.grp_setGrp_same _ _ hlen]
  by_cases hlim : s.withinLimits g st
  · exact ⟨_, hwithin hlim, by rw [hjudged]; rfl, fun _ => ⟨hjudged _, rfl, rfl⟩, fun h => absurd hlim h⟩
  · have hevt : ((s.stepJudged g st none).irq (.afe g) 2).evt = s.evt := State.irq_evt ..
    have hgrp (value : Nat) : ((((s.stepJudged g st none).irq (.afe g) 2).emit (cvSrc g st.target) 0x1001 1 value).grp g).step =
        some { st with term := some none } := by
      rw [State.grp_congr ((State.emit_afe ..).trans (State.irq_afe ..)), hjudged]
    refine ⟨_, hbeyond hlim, by rw [hgrp]; rfl, fun h => absurd h hlim, fun _ => ⟨hgrp _, ?_⟩⟩
    rw [State.news_emit hevt (by decide) hroom]
    rfl

/-! ### The substitution (R208–R210) -/

/-- What a substitution asks of the target's channel, of its group and of the spare (R208, R209). -/
def State.fitFor (s : State) (g : Nat) (st : RptStep) : Bool :=
  let c := s.getF (Reg.AFE_CV_STAT_CH g st.target)
  let inSvc := !s.flag (Reg.AFE_CH_STAT_OOS g c) && !s.flag (Reg.AFE_CH_CTL_OOS g c)
  inSvc && s.on (secAfe g) && !(s.kln.refiring.any fun i => i == secAfe g) && decide ((s.cv g st.spare).quiet ≥ 16)

theorem State.fitFor_eq_true {s : State} {g : Nat} {st : RptStep} :
    s.fitFor g st = true ↔ s.flag (Reg.AFE_CH_STAT_OOS g (s.getF (Reg.AFE_CV_STAT_CH g st.target))) = false ∧
      s.flag (Reg.AFE_CH_CTL_OOS g (s.getF (Reg.AFE_CV_STAT_CH g st.target))) = false ∧ s.on (secAfe g) = true ∧
      s.kln.refiring.contains (secAfe g) = false ∧ 16 ≤ (s.cv g st.spare).quiet := by
  have hrefiring : (s.kln.refiring.any fun i => i == secAfe g) = s.kln.refiring.contains (secAfe g) := List.any_beq'
  simp only [State.fitFor, hrefiring, Bool.and_eq_true, Bool.not_eq_true', decide_eq_true_eq, and_assoc, ge_iff_le]

/-- The spare takes the target's channel, path and role, and the target its place in CALIB. -/
def State.swapped (s : State) (g : Nat) (st : RptStep) : State :=
  let c := s.getF (Reg.AFE_CV_STAT_CH g st.target)
  let path := s.getF (Reg.AFE_CV_STAT_PATH g st.target)
  let role := s.getF (Reg.AFE_CV_STAT_ROLE g st.target)
  let t := s.setF (if role = 1 then Reg.AFE_CH_MAP_CV_B g c else Reg.AFE_CH_MAP_CV_A g c) st.spare
  (t.setCvStat g st.target cvCalib 0 0 0).setCvStat g st.spare cvWorking path role c

/-- The spare of the step takes the target's place with its match term, and the target waits for its calibration. -/
def State.substituted (s : State) (g : Nat) (st : RptStep) (term : Option (Rat × Rat)) : State :=
  let t := (s.swapped g st).setCv g st.spare fun x => { x with term := term.map fun y => (y.1, y.2, 0) }
  let t := t.setCv g st.target fun x => { x with term := none }
  let w := (t.tm.nom / cclk + calSteps, DacUser.calib st.target)
  let t := t.setGrp g fun x => { x with step := none, dacWait := x.dacWait ++ [w] }
  ((t.wrapF (Reg.AFE_RPT_CNT_STEPS g)).rptSync g).irq (.afe g) 0

theorem exec_substitutionCourse {s : State} {g : Nat} {st : RptStep} {term : Option (Rat × Rat)} (hg : g < 8)
    (hstep : (s.grp g).step = some st) (hterm : st.term = some term) :
    exec (.substitutionCourse g) s = .next (if s.fitFor g st then s.substituted g st term else s.rptAbandon g) := by
  change execSubstitutionCourse g s = _
  cases hfit : s.fitFor g st <;> simp only [State.fitFor] at hfit <;>
    simp only [execSubstitutionCourse, State.only, hg, decide_true, if_true, hstep, hterm, hfit, Bool.not_false, Bool.not_true,
      Bool.false_eq_true, if_false, State.substituted, State.swapped]

/-- The substitution is a matter of registers and of the group alone. -/
theorem State.rd_substituted (s : State) {g : Nat} (st : RptStep) (term : Option (Rat × Rat)) {o : Nat}
    (hirq : o ≠ 0x100010 + 0x1000 * g) (hstat : o ≠ Reg.AFE_RPT_STAT g) :
    (s.substituted g st term).rd o = ((s.swapped g st).wrapF (Reg.AFE_RPT_CNT_STEPS g)).rd o := by
  simp only [State.substituted]
  rw [State.rd_irq_afe_ne _ _ hirq, State.rd_rptSync_ne _ hstat]
  generalize s.swapped g st = u
  rfl

theorem State.afe_swapped (s : State) (g : Nat) (st : RptStep) : (s.swapped g st).afe = s.afe := by
  simp only [State.swapped, State.afe_setCvStat, State.setF_afe]

theorem State.tm_swapped (s : State) (g : Nat) (st : RptStep) : (s.swapped g st).tm = s.tm := by
  simp only [State.swapped, State.tm_setCvStat, State.setF_tm]

/-- The field of AFEg_CHc_MAP that names the target of a step. -/
def State.mapField (s : State) (g : Nat) (st : RptStep) : Fld :=
  if s.getF (Reg.AFE_CV_STAT_ROLE g st.target) = 1 then Reg.AFE_CH_MAP_CV_B g (s.getF (Reg.AFE_CV_STAT_CH g st.target))
  else Reg.AFE_CH_MAP_CV_A g (s.getF (Reg.AFE_CV_STAT_CH g st.target))

theorem State.mapField_shape (s : State) (g : Nat) (st : RptStep) :
    (s.mapField g st).off = Reg.AFE_CH_MAP g (s.getF (Reg.AFE_CV_STAT_CH g st.target)) ∧ (s.mapField g st).ok = true ∧
      (s.mapField g st).hi - (s.mapField g st).lo + 1 = 5 := by
  unfold State.mapField
  split <;> exact ⟨rfl, rfl, rfl⟩

/-- Every register but the three that a swap writes reads as before. -/
theorem State.rd_swapped_ne (s : State) {g : Nat} (st : RptStep) {o : Nat}
    (hmap : o ≠ Reg.AFE_CH_MAP g (s.getF (Reg.AFE_CV_STAT_CH g st.target))) (ht : o ≠ Reg.AFE_CV_STAT g st.target)
    (hs : o ≠ Reg.AFE_CV_STAT g st.spare) : (s.swapped g st).rd o = s.rd o := by
  rw [State.swapped, State.rd_setCvStat_ne _ _ _ _ _ hs, State.rd_setCvStat_ne _ _ _ _ _ ht]
  exact State.rd_setF_ne _ _ _ ((s.mapField_shape g st).1 ▸ hmap)

/-- After a swap the spare works in the target's channel, and the target is in CALIB. -/
theorem State.swapped_gives {s : State} {g : Nat} {st : RptStep} (hspare : st.spare < 18) (hne : st.target ≠ st.spare)
    (hc : s.getF (Reg.AFE_CV_STAT_CH g st.target) < 8) :
    (s.swapped g st).cvState g st.spare = cvWorking ∧ (s.swapped g st).cvState g st.target = cvCalib ∧
      (s.swapped g st).getF (Reg.AFE_CV_STAT_CH g st.spare) = s.getF (Reg.AFE_CV_STAT_CH g st.target) ∧
      (s.swapped g st).getF (s.mapField g st) = st.spare := by
  obtain ⟨hoff, hok, hwidth⟩ := s.mapField_shape g st
  refine ⟨State.cvState_setCvStat _ _ _ _ _ _ (by decide), ?_, State.ch_setCvStat _ _ _ _ _ _ hc, ?_⟩
  · rw [State.swapped, State.cvState_congr (State.rd_setCvStat_ne _ _ _ _ _ (by lia)),
      State.cvState_setCvStat _ _ _ _ _ _ (by decide)]
  · have hmap : (s.swapped g st).rd (s.mapField g st).off = (s.setF (s.mapField g st) st.spare).rd (s.mapField g st).off := by
      rw [State.swapped, State.rd_setCvStat_ne _ _ _ _ _ (by lia), State.rd_setCvStat_ne _ _ _ _ _ (by lia)]
      rfl
    rw [State.getF_congr hmap, State.getF_setF _ _ _ hok, hwidth]
    exact Nat.mod_eq_of_lt (by omega)

/-- The group after a substitution: no step, the terms of the two converters, the request for the DAC. -/
theorem State.grp_substituted {s : State} {g : Nat} (st : RptStep) (term : Option (Rat × Rat)) (hg : g < s.afe.length) :
    (s.substituted g st term).grp g = { s.grp g with
      cvs := upd (upd (s.grp g).cvs st.spare fun x => { x with term := term.map fun y => (y.1, y.2, 0) })
        st.target fun x => { x with term := none }
      step := none
      dacWait := (s.grp g).dacWait ++ [(s.tm.nom / cclk + calSteps, .calib st.target)] } := by
  have hg' : g < (s.swapped g st).afe.length := by rwa [State.afe_swapped]
  simp only [State.substituted, State.tm_setCv, State.tm_swapped]
  rw [State.grp_congr ((State.irq_afe ..).trans ((State.afe_rptSync ..).trans (State.wrapF_afe ..))),
    State.grp_setGrp_same _ _ (by simpa using hg'), State.grp_setCv_same _ _ _ (by simpa using hg'),
    State.grp_setCv_same _ _ _ hg', State.grp_congr (s.afe_swapped g st)]

theorem State.substituted_gives {s : State} {g : Nat} {st : RptStep} (term : Option (Rat × Rat)) (hg : g < s.afe.length)
    (hcvs : (s.grp g).cvs.length = 18) (hspare : st.spare < 18) (hne : st.target ≠ st.spare) {c : Nat}
    (hc : c = s.getF (Reg.AFE_CV_STAT_CH g st.target)) (hc8 : c < 8) :
    let t := s.substituted g st term
    (t.grp g).step = none ∧ t.cvState g st.spare = cvWorking ∧ t.cvState g st.target = cvCalib ∧
      t.getF (Reg.AFE_CV_STAT_CH g st.spare) = c ∧
      t.getF (if s.getF (Reg.AFE_CV_STAT_ROLE g st.target) = 1 then Reg.AFE_CH_MAP_CV_B g c else Reg.AFE_CH_MAP_CV_A g c) = st.spare ∧
      (t.cv g st.spare).term = term.map (fun x => (x.1, x.2, 0)) ∧ (t.grp g).dac = (s.grp g).dac ∧
      (t.grp g).dacWait = (s.grp g).dacWait ++ [(s.tm.nom / cclk + calSteps, .calib st.target)] ∧
      t.getF (Reg.AFE_RPT_CNT_STEPS g) = (s.getF (Reg.AFE_RPT_CNT_STEPS g) + 1) % 65536 := by
  intro t
  subst hc
  obtain ⟨hwork, hcal, hch, hmap⟩ := State.swapped_gives hspare hne hc8
  have hgrp := State.grp_substituted st term hg
  have hrd (o : Nat) (hirq : o ≠ 0x100010 + 0x1000 * g) (hstat : o ≠ Reg.AFE_RPT_STAT g) (hcnt : o ≠ Reg.AFE_RPT_CNT g) :
      t.rd o = (s.swapped g st).rd o := (s.rd_substituted st term hirq hstat).trans (State.rd_wrapF_ne _ _ _ hcnt)
  have hcv (v : Nat) : t.rd (Reg.AFE_CV_STAT g v) = (s.swapped g st).rd (Reg.AFE_CV_STAT g v) := hrd _ (by lia) (by lia) (by lia)
  refine ⟨by rw [hgrp], (State.cvState_congr (hcv _)).trans hwork, (State.cvState_congr (hcv _)).trans hcal,
    (State.getF_congr (hcv _)).trans hch, ?_, ?_, by rw [hgrp], by rw [hgrp], ?_⟩
  · obtain ⟨hoff, -, -⟩ := s.mapField_shape g st
    exact (State.getF_congr (f := s.mapField g st) (hrd _ (by lia) (by lia) (by lia))).trans hmap
  · rw [State.cv, hgrp]
    simp [upd, List.getD, hne, hcvs, hspare]
  · rw [State.getF_congr (s.rd_substituted st term (by lia) (by lia)), State.wrapF, State.getF_setF _ _ _ rfl,
      State.getF_congr (s.rd_swapped_ne st (by lia) (by lia) (by lia))]
    rfl

/-! ### The end of a fade (R210, R211) -/

/-- The converters whose fade has reached its length. -/
def State.fadesDone (s : State) (g : Nat) : List Nat :=
  (List.range nCv).filter fun v => match (s.cv g v).term with
    | some t => decide (t.2.2 ≥ s.fadeLen g)
    | none => false

theorem State.mem_fadesDone {s : State} {g v : Nat} {x : Rat × Rat × Nat} (hv : v < 18) (hterm : (s.cv g v).term = some x)
    (hlen : s.fadeLen g ≤ x.2.2) : v ∈ s.fadesDone g := by
  refine List.mem_filter.2 ⟨List.mem_range.2 hv, ?_⟩
  rw [hterm]
  exact decide_eq_true hlen

/-- A converter's match term applies no longer. -/
def State.dropTerm (s : State) (g v : Nat) : State := s.setCv g v fun c => { c with term := none }

/-- The channel of a WORKING converter carries no fading term any more. -/
def State.clearSubst (s : State) (g v : Nat) : State :=
  if s.cvState g v = cvWorking then s.setF (Reg.AFE_CH_STAT_SUBST g (s.getF (Reg.AFE_CV_STAT_CH g v))) 0 else s

/-- The state after the fades that are done. -/
def State.faded (s : State) (g : Nat) : State :=
  (((s.fadesDone g).foldl (fun s v => s.clearSubst g v) ((s.fadesDone g).foldl (fun s v => s.dropTerm g v) s))).rptSync g

theorem exec_repointFadeEnd_of_done {s : State} {g v : Nat} (hg : g < 8) (hdone : v ∈ s.fadesDone g) :
    exec (.repointFadeEnd g) s = .next (s.faded g) := by
  have hexec : exec (.repointFadeEnd g) s =
      s.only (decide (g < 8)) (if (s.fadesDone g).isEmpty then .next s else .next (s.faded g)) := (rfl)
  have hnonempty : (s.fadesDone g).isEmpty = false := by
    rw [List.isEmpty_eq_false_iff]
    exact List.ne_nil_of_mem hdone
  rw [hexec, hnonempty]
  simp only [State.only, hg, decide_true, if_true, Bool.false_eq_true, if_false]

/-- A converter of which the term is dropped, then or before, has none. -/
theorem State.term_foldl_dropTerm {g v : Nat} (l : List Nat) (s : State) (hg : g < s.afe.length) (hv : v < (s.grp g).cvs.length)
    (h : v ∈ l ∨ (s.cv g v).term = none) : ((l.foldl (fun s w => s.dropTerm g w) s).cv g v).term = none := by
  induction l generalizing s with
  | nil => simpa using h
  | cons w l ih =>
    have hlen : v < ((s.dropTerm g w).grp g).cvs.length := by
      simpa only [State.dropTerm, State.grp_setCv_same _ _ _ hg, upd, List.length_modify] using hv
    refine ih _ (by simpa [State.dropTerm] using hg) hlen ?_
    by_cases hw : v = w
    · subst hw
      exact .inr (congrArg CvSt.term (State.cv_setCv_same s _ hg hv))
    · simp only [State.dropTerm, State.cv_setCv_ne _ _ hg hw]
      exact h.imp_left fun hmem => (List.mem_cons.1 hmem).resolve_left hw

theorem State.faded_gives {s : State} {g v : Nat} (hg : g < s.afe.length) (hv : v < (s.grp g).cvs.length)
    (hdone : v ∈ s.fadesDone g) :
    ((s.faded g).cv g v).term = none ∧ s.faded g = { s with regs := (s.faded g).regs, afe := (s.faded g).afe } := by
  have hafe (t : State) (w : Nat) : (t.clearSubst g w).afe = t.afe := by
    unfold State.clearSubst
    split <;> rfl
  have hsans (t : State) (w : Nat) : (t.clearSubst g w).sansAfe = t.sansAfe := by
    unfold State.clearSubst
    split <;> rfl
  constructor
  · have hfaded : (s.faded g).afe = ((s.fadesDone g).foldl (fun s w => s.dropTerm g w) s).afe := by
      rw [State.faded, State.afe_rptSync]
      exact foldl_keeps State.afe _ _ _ fun t w _ => hafe t w
    rw [State.cv_congr (congrArg AfeGrp.cvs (State.grp_congr hfaded g))]
    exact State.term_foldl_dropTerm _ s hg hv (.inl hdone)
  · refine State.frame_of_sansAfe ?_
    rw [State.faded, State.sansAfe_rptSync, foldl_keeps State.sansAfe _ _ _ fun t w _ => hsans t w]
    exact foldl_keeps State.sansAfe _ _ _ fun t w _ => rfl

/-! ### The end of a calibration (R212–R214) -/

/-- A converter leaves the DAC and its queue. -/
def State.dacLeft (s : State) (g v : Nat) : State :=
  s.setGrp g fun x => { x with dac := none, dacWait := x.dacWait.filter fun w => w.2 != .calib v }

/-- A converter takes the values measured and is a spare. -/
def State.calibPassed (s : State) (g v : Nat) (o : Int) (k : Nat) : State :=
  let t := (((s.dacLeft g v).setI (Reg.AFE_CV_OFS_OFS g v) o).wr (Reg.AFE_CV_GAIN g v) k)
  let t := t.setCv g v fun c => { c with calAt := (s.dacLeft g v).tm.runt }
  (t.setF (Reg.AFE_CV_STAT_STATE g v) cvSpare).rptSync g

/-- A converter beyond the limits fails. -/
def State.calibFailed (s : State) (g v : Nat) : State :=
  ((((s.dacLeft g v).setF (Reg.AFE_CV_STAT_STATE g v) cvFailed).irq (.afe g) 3).emitOpen (cvSrc g v) 0x1002 1).rptSync g

/-- A group is left without spares: it says so once (R214). -/
def State.sparesNoted (s : State) (g : Nat) : State :=
  if (s.cvsIn g cvSpare).isEmpty && (s.cvsIn g cvCalib).isEmpty && (s.cvsIn g cvShadow).isEmpty &&
      !s.flag (Reg.AFE_RPT_STAT_NOSPARE g) then
    ((s.setF (Reg.AFE_RPT_STAT_NOSPARE g) 1).irq (.afe g) 4).emitOpen (grpSrc g) 0x1003 1
  else s

theorem exec_converterCalibDone {s : State} {g v : Nat} (hg : g < 8) (hv : v < 18) (hstate : s.cvState g v = cvCalib)
    (hdac : ((s.dacGrant g).grp g).dac = some (.calib v) ∨ ((s.dacGrant g).grp g).dac = none) (o : Int) (k r : Nat) :
    exec (.converterCalibDone g v o k r) s = .next
      ((if calPasses o k r then (s.dacGrant g).calibPassed g v o k else (s.dacGrant g).calibFailed g v).sparesNoted g) := by
  have hcond : (s.dacGrant g).cvState g v = cvCalib ∧
      (((s.dacGrant g).grp g).dac = some (.calib v) ∨ ((s.dacGrant g).grp g).dac = none) :=
    ⟨(State.cvState_congr (s.rd_dacGrant_ne (by lia))).trans hstate, hdac⟩
  have hgv : g < 8 ∧ v < 18 := ⟨hg, hv⟩
  change execConverterCalibDone g v o k r s = _
  simp only [execConverterCalibDone, State.only, hgv, and_self, decide_true, if_true, if_pos hcond]
  cases calPasses o k r <;>
    simp only [State.sparesNoted, State.calibPassed, State.calibFailed, State.dacLeft, if_true, Bool.false_eq_true, if_false] <;>
    exact (apply_ite Host.Outcome.next _ _ _).symm

theorem toSigned_ofSigned_32 {i : Int} (hlo : -2 ^ 31 ≤ i) (hhi : i < 2 ^ 31) : toSigned 32 (ofSigned 32 i % 2 ^ 32) = i := by
  unfold toSigned ofSigned
  omega

/-- What passes its limits fits its registers. -/
theorem range_of_calPasses {o : Int} {k r : Nat} (h : calPasses o k r = true) : -2 ^ 31 ≤ o ∧ o < 2 ^ 31 ∧ k < 2 ^ 32 := by
  simp only [calPasses, Bool.and_eq_true, decide_eq_true_eq] at h
  omega

/-- What a group's lack of spares leaves alone. -/
theorem State.rd_sparesNoted (s : State) {g o : Nat} (hirq : o ≠ 0x100010 + 0x1000 * g) (hstat : o ≠ Reg.AFE_RPT_STAT g)
    (h₁ : o ≠ Reg.EVT_INTAKE_LOST) (h₂ : o ≠ Reg.EVT_STAT) : (s.sparesNoted g).rd o = s.rd o := by
  unfold State.sparesNoted
  split
  · rw [State.rd_emitOpen_ne _ _ _ _ h₁ h₂, State.rd_irq_afe_ne _ _ hirq, State.rd_setF_ne _ _ _ hstat]
  · rfl

theorem State.raised_sparesNoted (s : State) (g : Nat) : ∃ l, (s.sparesNoted g).evt.raised = s.evt.raised ++ l := by
  unfold State.sparesNoted
  split
  · obtain ⟨l, hl⟩ := State.raised_emit ((s.setF (Reg.AFE_RPT_STAT_NOSPARE g) 1).irq (.afe g) 4) (grpSrc g) 0x1003 1
      (State.freeBits _ 64)
    exact ⟨l, by rw [State.evt_emitOpen, hl, State.irq_evt, State.setF_evt]⟩
  · exact ⟨[], by simp⟩

/-- A group with a spare says nothing. -/
theorem State.sparesNoted_of_spare {s : State} {g v : Nat} (hv : v < 18) (h : s.cvState g v = cvSpare) : s.sparesNoted g = s := by
  have hmem : v ∈ s.cvsIn g cvSpare := List.mem_filter.2 ⟨List.mem_range.2 hv, beq_iff_eq.2 h⟩
  have hspare : (s.cvsIn g cvSpare).isEmpty = false := List.isEmpty_eq_false_iff.2 (List.ne_nil_of_mem hmem)
  rw [State.sparesNoted, hspare]
  rfl

theorem State.calibPassed_gives {s : State} {g v : Nat} {o : Int} {k r : Nat} (hg : g < s.afe.length)
    (hv : v < (s.grp g).cvs.length) (hpass : calPasses o k r = true) :
    let t := s.calibPassed g v o k
    t.cvState g v = cvSpare ∧ t.getI (Reg.AFE_CV_OFS_OFS g v) = o ∧ t.rd (Reg.AFE_CV_GAIN g v) = k ∧
      (t.cv g v).calAt = s.tm.runt ∧ (t.grp g).dac = none ∧ t.evt = s.evt := by
  intro t
  obtain ⟨hlo, hhi, hk⟩ := range_of_calPasses hpass
  have hrd (a : Nat) (hstat : a ≠ Reg.AFE_RPT_STAT g) (hcv : a ≠ Reg.AFE_CV_STAT g v) :
      t.rd a = (((s.dacLeft g v).setI (Reg.AFE_CV_OFS_OFS g v) o).wr (Reg.AFE_CV_GAIN g v) k).rd a := by
    simp only [t, State.calibPassed]
    rw [State.rd_rptSync_ne _ hstat, State.rd_setF_ne _ _ _ hcv, State.rd_setCv]
  have hgrp : t.grp g = { s.grp g with
      dac := none
      dacWait := (s.grp g).dacWait.filter fun w => w.2 != .calib v
      cvs := upd (s.grp g).cvs v fun c => { c with calAt := s.tm.runt } } := by
    have hafe : (((s.dacLeft g v).setI (Reg.AFE_CV_OFS_OFS g v) o).wr (Reg.AFE_CV_GAIN g v) k).afe = (s.dacLeft g v).afe := by
      simp only [State.wr_afe, State.setI_afe]
    have hleft : g < (s.dacLeft g v).afe.length := by simpa only [State.dacLeft, State.length_setGrp] using hg
    simp only [t, State.calibPassed]
    rw [State.grp_congr ((State.afe_rptSync ..).trans (State.setF_afe ..)), State.grp_setCv_same _ _ _ (hafe ▸ hleft),
      State.grp_congr hafe, State.dacLeft, State.grp_setGrp_same _ _ hg]
    rfl
  refine ⟨?_, ?_, ?_, ?_, by rw [hgrp], ?_⟩
  · simp only [t, State.calibPassed]
    rw [State.cvState_congr (State.rd_rptSync_ne _ (by lia)), State.cvState, State.getF_setF _ _ _ rfl]
    rfl
  · rw [State.getI, State.getF_congr ((hrd _ (by lia) (by lia)).trans (State.rd_wr_ne _ _ (by lia))), State.setI,
      State.getF_setF _ _ _ rfl]
    exact toSigned_ofSigned_32 hlo hhi
  · rw [hrd _ (by lia) (by lia), State.rd_wr_same, Nat.mod_eq_of_lt hk]
  · rw [State.cv, hgrp]
    simp [upd, List.getD, hv]
  · simp only [t, State.calibPassed, State.evt_rptSync, State.setF_evt]
    rfl

theorem State.calibFailed_gives {s : State} {g v : Nat} (hg : g < 8) (hv : v < 18) (hroom : s.room 1 = true) :
    let t := s.calibFailed g v
    t.cvState g v = cvFailed ∧ t.rd (Reg.AFE_CV_GAIN g v) = s.rd (Reg.AFE_CV_GAIN g v) ∧
      ∃ r, t.evt.raised = s.evt.raised ++ [r] ∧ (r.ev.src, r.ev.code, r.ev.cls) = (cvSrc g v, 0x1002, 1) := by
  intro t
  have hrd (a : Nat) (hirq : a ≠ 0x100010 + 0x1000 * g) (hstat : a ≠ Reg.AFE_RPT_STAT g) (h₁ : a ≠ Reg.EVT_INTAKE_LOST)
      (h₂ : a ≠ Reg.EVT_STAT) : t.rd a = (s.setF (Reg.AFE_CV_STAT_STATE g v) cvFailed).rd a := by
    simp only [t, State.calibFailed]
    rw [State.rd_rptSync_ne _ hstat, State.rd_emitOpen_ne _ _ _ _ h₁ h₂, State.rd_irq_afe_ne _ _ hirq]
    rfl
  refine ⟨?_, ?_, ?_⟩
  · rw [State.cvState_congr (hrd _ (by lia) (by lia) (by lia) (by lia)), State.cvState, State.getF_setF _ _ _ rfl]
    rfl
  · rw [hrd _ (by lia) (by lia) (by lia) (by lia), State.rd_setF_ne _ _ _ (by lia)]
  · have hevt : (((s.dacLeft g v).setF (Reg.AFE_CV_STAT_STATE g v) cvFailed).irq (.afe g) 3).evt = s.evt := by
      rw [State.irq_evt, State.setF_evt]
      rfl
    have hroom' : (((s.dacLeft g v).setF (Reg.AFE_CV_STAT_STATE g v) cvFailed).irq (.afe g) 3).room 1 = true :=
      State.room_of_le hevt le_rfl hroom
    simp only [t, State.calibFailed, State.evt_rptSync, State.evt_emitOpen, State.emit_of_room (by decide) hroom', hevt]
    exact ⟨_, rfl, rfl⟩

section Calibration
variable {s : State} {g v : Nat} (hg : g < 8) (hv : v < 18) (hcalib : s.cvState g v = cvCalib)
  (hdac : ((s.dacGrant g).grp g).dac = some (.calib v) ∨ ((s.dacGrant g).grp g).dac = none)
include hg hv hcalib hdac

/-- A converter whose turn at the DAC has come and that is within the limits becomes a spare. -/
theorem converterCalibDone_passes (hlen : g < s.afe.length) (hcvs : (s.grp g).cvs.length = 18) (o : Int) (k r : Nat)
    (hpass : calPasses o k r = true) :
    ∃ t, exec (.converterCalibDone g v o k r) s = .next t ∧ t.cvState g v = cvSpare ∧ t.getI (Reg.AFE_CV_OFS_OFS g v) = o ∧
      t.rd (Reg.AFE_CV_GAIN g v) = k ∧ (t.cv g v).calAt = s.tm.runt ∧ (t.grp g).dac = none ∧ t.evt = s.evt := by
  obtain ⟨hspare, hofs, hgain, hage, hfree, hevt⟩ :=
    State.calibPassed_gives (s := s.dacGrant g) (g := g) (v := v) (by simpa using hlen)
      (by rwa [(State.grp_dacGrant s hlen).1, hcvs]) hpass
  refine ⟨_, exec_converterCalibDone hg hv hcalib hdac o k r, ?_⟩
  rw [if_pos hpass, State.sparesNoted_of_spare hv hspare]
  exact ⟨hspare, hofs, hgain, by rw [hage, State.dacGrant_frame], hfree, by rw [hevt, State.dacGrant_frame]⟩

/-- A converter whose turn at the DAC has come and that is beyond the limits fails, with its event. -/
theorem converterCalibDone_fails (hroom : s.room 8 = true) (o : Int) (k r : Nat) (hfail : calPasses o k r = false) :
    ∃ t, exec (.converterCalibDone g v o k r) s = .next t ∧ t.cvState g v = cvFailed ∧
      (s.news t).head?.map (fun e => (e.1, e.2.1, e.2.2.1)) = some (cvSrc g v, 0x1002, 1) ∧
      t.rd (Reg.AFE_CV_GAIN g v) = s.rd (Reg.AFE_CV_GAIN g v) := by
  have hevt : (s.dacGrant g).evt = s.evt := by rw [State.dacGrant_frame]
  obtain ⟨hfailed, hgain, e, hraised, he⟩ := State.calibFailed_gives hg hv (State.room_of_le hevt (by decide) hroom)
  obtain ⟨l, hl⟩ := ((s.dacGrant g).calibFailed g v).raised_sparesNoted g
  refine ⟨_, exec_converterCalibDone hg hv hcalib hdac o k r, ?_⟩
  rw [if_neg (by simp [hfail])]
  refine ⟨?_, ?_, ?_⟩
  · rw [State.cvState_congr (State.rd_sparesNoted _ (by lia) (by lia) (by lia) (by lia)), hfailed]
  · rw [State.news, hl, hraised, hevt, List.append_assoc, List.drop_left, ← he]
    rfl
  · rw [State.rd_sparesNoted _ (by lia) (by lia) (by lia) (by lia), hgain, State.rd_dacGrant_ne s (by lia)]

end Calibration

/-! ### The age of the converters (R215), and the statement ConvertersTakeTurns -/

theorem ageLimit_notes (s : State) {g : Nat} (hg : g < 8) : ∃ t, exec (.ageLimit g) s = .next t ∧
    t.flag (Reg.AFE_RPT_STAT_AGE g) =
      (s.cvsIn g cvWorking).any (fun v => decide (36 * s.getF (Reg.AFE_RPT_CTL_INTERVAL g) < s.cvAge g v)) ∧
    s.regsKept [Reg.AFE_RPT_STAT g] t ∧ t = { s with regs := t.regs } := by
  refine ⟨s.setB (Reg.AFE_RPT_STAT_AGE g) (s.rptOld g), ?_, State.flag_setB _ _ _ rfl rfl, fun o ho => ?_, rfl⟩
  · change execAgeLimit g s = _
    simp only [execAgeLimit, State.only, hg, decide_true, if_true]
  · exact State.rd_setB_ne _ _ _ (by simpa using ho)

/-- Settles O17: each command of a step, of its substitution, of the fade and of the calibration does what the rules say of it. -/
theorem convertersTakeTurns : Obligations.ConvertersTakeTurns := by
  intro s hshape hroom g hg hcvs
  have hlen : g < s.afe.length := by rwa [State.afe_length_of_shaped hshape]
  refine ⟨fun v htarget sp hspare hruns hstep hdue => ?_, fun st hstep => ⟨fun hpairs hterm => ?_, fun hdue => ?_,
    fun tm hterm htarget hspare hne c hc hc8 => ⟨fun hunfit => ?_, fun hoos hctl hon hrefire hquiet => ?_⟩⟩,
    fun v hv x hterm hfade => ?_, fun v hv hcalib u hu hdac => ?_, ageLimit_notes s hg⟩
  · exact ⟨_, exec_repointStepStart_of_due hg htarget hspare hruns hstep hdue,
      State.stepStarted_gives hlen (State.lt_of_rptTarget htarget)⟩
  · exact repointMismatch_judges hg hlen hroom hstep hpairs hterm
  · exact ⟨_, exec_repointAbandon_of_due hg hstep hdue, State.rptAbandon_gives hlen hstep⟩
  · have hfit : ¬ s.fitFor g st = true := by
      rw [State.fitFor_eq_true, ← hc]
      rintro ⟨hoos, hctl, hon, hrefire, hquiet⟩
      rw [hoos, hctl, hon, hrefire] at hunfit
      simp at hunfit
      omega
    obtain ⟨hnone, hback, -, hkept⟩ := State.rptAbandon_gives hlen hstep
    refine ⟨_, exec_substitutionCourse hg hstep hterm, ?_⟩
    rw [if_neg hfit]
    exact ⟨hnone, hback, State.cvState_congr (hkept _ (cvStat_notMem_of_ne hne))⟩
  · have hfit : s.fitFor g st = true := State.fitFor_eq_true.2 (hc ▸ ⟨hoos, hctl, hon, hrefire, hquiet⟩)
    refine ⟨_, exec_substitutionCourse hg hstep hterm, ?_⟩
    rw [if_pos hfit]
    exact State.substituted_gives tm hlen hcvs hspare hne hc hc8
  · have hdone := State.mem_fadesDone hv hterm hfade
    exact ⟨_, exec_repointFadeEnd_of_done hg hdone, State.faded_gives hlen (by rwa [hcvs]) hdone⟩
  · subst hu
    exact ⟨converterCalibDone_passes hg hv hcalib hdac hlen hcvs, converterCalibDone_fails hg hv hcalib hdac hroom⟩

end Sys2Proof.Machine
end

section
/-!
A host write of a register that has no SEAL field and no field that the interface may not write (R7, R10, R644): it changes the register
and the host interface's own state.
-/
namespace Sys2Proof.Machine

/-- An interface that may write at a field's level is not denied there. -/
theorem FieldRow.write_allowed {f : FieldRow} {c : WriteCtx} (hacc : f.acc = .rw ∨ f.acc = .wo) (hlevel : c.level.ge f.level = true)
    (old v : Nat) : (f.write c old v).2 = false := by
  rcases hacc with h | h <;> simp only [FieldRow.write, h, hlevel, if_true, Bool.not_true, Bool.false_and]

/-- A register whose fields the interface may all write is not denied. -/
theorem RegRow.write_allowed {r : RegRow} {c : WriteCtx}
    (h : ∀ f ∈ r.fields, (f.acc = .rw ∨ f.acc = .wo) ∧ c.level.ge f.level = true) (old v : Nat) : (r.write c old v).2 = false := by
  refine foldl_keeps Prod.snd _ r.fields (old, false) fun acc f hf => ?_
  obtain ⟨hacc, hlevel⟩ := h f hf
  simp only [FieldRow.write_allowed hacc hlevel, Bool.or_false]

/-- The write restarts HST_ACC_TMO at most, which leaves the access level as it is. -/
theorem State.level_used (s : State) (i j : Iface) (need : Level) : (s.used i need).level j = s.level j := by
  unfold State.used
  split
  · simp only [State.level, State.accOf, State.setAcc, upd, List.getD, List.getElem?_modify]
    split <;> cases s.hst.acc[ifcNum j]? <;> rfl
  · rfl

/-- A host write that nothing denies puts the row's word into the register and marks it in the host interface. -/
theorem State.fieldWrite_allowed {s : State} {i : Iface} {off : Nat} {h : RegHit} (hreg : regAt off = some h)
    (hacc : ∀ f ∈ h.row.fields, (f.acc = .rw ∨ f.acc = .wo) ∧ (s.level i).ge f.level = true)
    (hplain : ¬ (off % 0x1000 = 0x14 ∨ off < 0x300)) (v : Nat) :
    (∀ o, (s.fieldWrite i off v).rd o = (s.wr off (h.row.write (s.writeCtx i off v) (s.rd off) v).1).rd o) ∧
      (s.fieldWrite i off v).sansHost = s.sansHost ∧ ∀ j, (s.fieldWrite i off v).level j = s.level j := by
  have hseal : h.row.sealField = none := by
    refine List.find?_eq_none.2 fun f hf => ?_
    rcases (hacc f hf).1 with hf | hf <;> rw [hf] <;> decide
  have hdenied : (h.row.write (s.writeCtx i off v) (s.rd off) v).2 = false := RegRow.write_allowed hacc _ _
  have hwrite : s.fieldWrite i off v = (if i = .spi then
        (s.wr off (h.row.write (s.writeCtx i off v) (s.rd off) v).1).wroteNow off (h.row.taken (s.writeCtx i off v)) false
      else s.wr off (h.row.write (s.writeCtx i off v) (s.rd off) v).1).used i h.row.needed := by
    simp only [State.fieldWrite, hreg, hseal, hdenied, if_neg hplain, Bool.false_eq_true, if_false]
  rw [hwrite]
  refine ⟨fun o => ?_, ?_, fun j => ?_⟩
  · rw [State.rd_used]
    cases i <;> rfl
  · rw [State.sansHost_used]
    cases i <;> rfl
  · rw [State.level_used]
    cases i <;> rfl

/-- What an allowed host write leaves alone. -/
theorem State.fieldWrite_keeps {s : State} {i : Iface} {off : Nat} {h : RegHit} (hreg : regAt off = some h)
    (hacc : ∀ f ∈ h.row.fields, (f.acc = .rw ∨ f.acc = .wo) ∧ (s.level i).ge f.level = true)
    (hplain : ¬ (off % 0x1000 = 0x14 ∨ off < 0x300)) (v : Nat) :
    s.regsKept [off] (s.fieldWrite i off v) ∧ (s.fieldWrite i off v).sansHost = s.sansHost ∧
      ∀ j l, (s.fieldWrite i off v).may j l = s.may j l := by
  obtain ⟨hrd, hsans, hlevel⟩ := State.fieldWrite_allowed hreg hacc hplain v
  exact ⟨fun o ho => (hrd o).trans (State.rd_wr_ne _ _ (by simpa using ho)), hsans, fun j l => by rw [State.may, State.may, hlevel]⟩

/-- Before any write of this fc a bit that the interface may write takes the value written. -/
theorem FieldRow.write_rw {f : FieldRow} {c : WriteCtx} (hacc : f.acc = .rw) (hlevel : c.level.ge f.level = true)
    (hrule : f.rule = .any) (hkept : c.kept = 0) (old v : Nat) : (f.write c old v).1 = v := by
  simp [FieldRow.write, hacc, hlevel, hrule, hkept, WRule.value, maskPut, bits]

end Sys2Proof.Machine
end

section
/-!
Channels out of service and proof tests (R217–R225), and the statement ChannelsOutOfServiceAndProofTests.
-/
namespace Sys2Proof.Machine

/-! ### A write of AFEg_CHc_CTL (R218) -/

/-- The only field of AFEg_CHc_CTL is OOS. -/
theorem regAt_chCtl : ∀ g < 8, ∀ c < 8,
    (regAt (Reg.AFE_CH_CTL g c)).map (·.row.fields) = some [⟨0, 0, .rw, .operate, .any, .kept, false⟩] := by
  decide +kernel

/-- The fields of AFEg_PROOF_CTL: START, TEST and CH. -/
theorem regAt_proofCtl : ∀ g < 8, (regAt (Reg.AFE_PROOF_CTL g)).map (·.row.fields) = some
    [⟨31, 31, .wo, .operate, .any, .value 0, false⟩, ⟨9, 8, .rw, .operate, .any, .value 0, false⟩,
      ⟨2, 0, .rw, .operate, .any, .value 0, false⟩] := by
  decide +kernel

/-- The bit written to AFEg_CHc_CTL is the request, where no other write of the fc stands. -/
theorem State.oos_fieldWrite {s : State} {i : Iface} {off : Nat} {h : RegHit} (hreg : regAt off = some h)
    (hfields : h.row.fields = [⟨0, 0, .rw, .operate, .any, .kept, false⟩]) (hmay : s.may i .operate = true)
    (hplain : ¬ (off % 0x1000 = 0x14 ∨ off < 0x300)) (hunwritten : s.unwritten = true) (v : Nat) :
    (s.fieldWrite i off v).flag ⟨off, 0, 0⟩ = v.testBit 0 := by
  have hacc : ∀ f ∈ h.row.fields, (f.acc = .rw ∨ f.acc = .wo) ∧ (s.level i).ge f.level = true := by
    rw [hfields]
    exact List.forall_mem_singleton.2 ⟨.inl rfl, hmay⟩
  have hkept : (s.writeCtx i off v).kept = 0 := by
    simp only [State.writeCtx, State.keptNow, List.isEmpty_iff.1 hunwritten, List.foldl_nil]
  have hword : (h.row.write (s.writeCtx i off v) (s.rd off) v).1 = maskPut (s.rd off) 1 (bits v 0 0) := by
    simp only [RegRow.write, hfields, List.foldl_cons, List.foldl_nil]
    rw [FieldRow.write_rw (c := s.writeCtx i off v) (f := ⟨0, 0, .rw, .operate, .any, .kept, false⟩) rfl hmay rfl hkept]
    simp
  have hrd : (s.fieldWrite i off v).rd off = _ := (State.fieldWrite_allowed hreg hacc hplain v).1 off
  rw [State.flag_bit, hrd, hword, State.rd_wr_same, Nat.testBit_mod_two_pow, testBit_maskPut, testBit_bits]
  simp

/-- A write of AFEg_CHc_CTL at OPERATE sets the request of a fitted channel, and changes nothing else. -/
theorem afeOosWrite_requests {s : State} {n : Nat} (hn : n < 64) {i : Iface} (v : Word) (hup : s.hostUp = true)
    (hmay : s.may i .operate = true) : ∃ t, exec (.afeOosWrite i n v) s = .next t ∧
      (s.hasAi n = true → s.unwritten = true → t.flag (Reg.AFE_CH_CTL_OOS (n / 8) (n % 8)) = v.toNat.testBit 0) ∧
      s.regsKept (if s.hasAi n then [Reg.AFE_CH_CTL (n / 8) (n % 8)] else []) t ∧ t = { s with regs := t.regs, hst := t.hst } := by
  have hexec : exec (.afeOosWrite i n v) s = .next
      ((if s.hasAi n then s.fieldWrite i (Reg.AFE_CH_CTL (n / 8) (n % 8)) v.toNat else s).spiEnd i) := by
    change execAfeOosWrite i n v s = _
    simp only [execAfeOosWrite, State.hostRow, hup, hn, decide_true, Bool.true_and, if_true]
  refine ⟨_, hexec, ?_⟩
  cases hai : s.hasAi n with
  | false =>
    simp only [Bool.false_eq_true, if_false, false_implies, true_and]
    exact ⟨fun o _ => State.rd_spiEnd .., State.frame_of_sansHost (State.sansHost_spiEnd ..)⟩
  | true =>
    obtain ⟨h, hreg, hfields⟩ := Option.map_eq_some_iff.1 (regAt_chCtl (n / 8) (by omega) (n % 8) (by omega))
    have hacc : ∀ f ∈ h.row.fields, (f.acc = .rw ∨ f.acc = .wo) ∧ (s.level i).ge f.level = true := by
      rw [hfields]
      exact List.forall_mem_singleton.2 ⟨.inl rfl, hmay⟩
    have hplain : ¬ (Reg.AFE_CH_CTL (n / 8) (n % 8) % 0x1000 = 0x14 ∨ Reg.AFE_CH_CTL (n / 8) (n % 8) < 0x300) := by lia
    obtain ⟨hkept, hsans, -⟩ := State.fieldWrite_keeps hreg hacc hplain v.toNat
    simp only [if_true, true_implies]
    refine ⟨fun hunwritten => ?_, fun o ho => (State.rd_spiEnd ..).trans (hkept o ho),
      State.frame_of_sansHost ((State.sansHost_spiEnd ..).trans hsans)⟩
    rw [State.flag_spiEnd]
    exact State.oos_fieldWrite hreg hfields hmay hplain hunwritten v.toNat

/-! ### The sentinel and the filter of a channel (R218, R220) -/

/-- The counts of a channel's comparators reach the tiles' status and no register below it, and raise no event. -/
theorem State.sentinelOff_keeps (s : State) (n : Nat) {o : Nat} (h : o < 0x30d000) :
    (s.sentinelOff n).rd o = s.rd o ∧ (s.sentinelOff n).evt = s.evt := by
  have hdecide (t : State) (src at_ wait mask : Nat) : (t.decideOne src at_ wait mask).rd o = t.rd o ∧
      (t.decideOne src at_ wait mask).evt = t.evt := by
    unfold State.decideOne
    split_ifs <;> exact ⟨rfl, rfl⟩
  have hcomp (t : State) (k i : Nat) : (t.compDecide k i).rd o = t.rd o ∧ (t.compDecide k i).evt = t.evt := by
    have hwait (b : Bool) : (t.setBit (Reg.PRT_S_STAT_QWAIT k) i b).rd o = t.rd o := State.rd_setBit_ne _ _ _ _ (by lia)
    unfold State.compDecide
    dsimp only
    split
    · exact ⟨(hdecide ..).1.trans (hwait _), (hdecide ..).2⟩
    · exact ⟨hwait _, rfl⟩
  have hview : ((s.sentinelOff n).rd o, (s.sentinelOff n).evt) = (s.rd o, s.evt) :=
    foldl_keeps (fun t => (t.rd o, t.evt)) _ _ s fun t c _ =>
      Prod.ext (hcomp (t.setComp c.1 c.2 fun x => { x with cnt := 0 }) c.1 c.2).1
        (hcomp (t.setComp c.1 c.2 fun x => { x with cnt := 0 }) c.1 c.2).2
  exact Prod.mk.inj hview

/-- The reset of a channel's filter writes its own status alone, and raises no event. -/
theorem State.syncCh_keeps (s : State) (n : Nat) {o : Nat} (h : o < 0x200a00) :
    (s.syncCh n).rd o = s.rd o ∧ (s.syncCh n).evt = s.evt := by
  constructor
  · simp only [State.syncCh, State.syncB, State.setRemain]
    rw [State.rd_setB_ne _ _ _ (by lia), State.rd_setF_ne _ _ _ (by lia)]
    rfl
  · simp only [State.syncCh, State.syncB, State.setRemain, State.setB_evt, State.setF_evt]
    rfl

/-! ### Out of service (R218, R221) -/

theorem staleSample_word_lt (dye : Nat) : (staleSample dye).word < 2 ^ 32 := by
  simp only [staleSample, Sample.word, b2n, ofSigned, Bool.false_eq_true, if_false, if_true]
  omega

/-- A channel whose request is set goes out of service with value 0, STALE and its event. -/
theorem channelOutOfService_leaves {s : State} {n : Nat} (hroom : s.room 2 = true) (hn : n < 64)
    (hctl : s.flag (Reg.AFE_CH_CTL_OOS (n / 8) (n % 8)) = true) (hstat : s.flag (Reg.AFE_CH_STAT_OOS (n / 8) (n % 8)) = false)
    (hon : s.on (secAfe (n / 8)) = true) :
    ∃ t, exec (.channelOutOfService n) s = .next t ∧ t.flag (Reg.AFE_CH_STAT_OOS (n / 8) (n % 8)) = true ∧
      t.rd (Reg.AFE_CH_RES (n / 8) (n % 8)) = (staleSample (s.chDye n)).word ∧
      (s.news t).getLast?.map (fun e => (e.1, e.2.1, e.2.2.1)) = some (chSrc n, 0x1004, 1) := by
  have hoff (o : Nat) := ((s.setF (Reg.AFE_CH_STAT_OOS (n / 8) (n % 8)) 1).sentinelOff_keeps n (o := o))
  refine ⟨((((s.setF (Reg.AFE_CH_STAT_OOS (n / 8) (n % 8)) 1).sentinelOff n).wr (Reg.AFE_CH_RES (n / 8) (n % 8))
    (staleSample (s.chDye n)).word).emitOpen (chSrc n) 0x1004 1), ?_, ?_, ?_, ?_⟩
  · change execChannelOutOfService n s = _
    simp only [execChannelOutOfService, hn, hctl, hstat, hon, decide_true, Bool.not_false, Bool.and_self, if_true]
  · rw [State.flag_congr (State.rd_emitOpen_ne _ _ _ _ (by lia) (by lia)), State.flag_congr (State.rd_wr_ne _ _ (by lia)),
      State.flag_congr (hoff _ (by lia)).1]
    exact State.flag_setF_one s _ rfl
  · rw [State.rd_emitOpen_ne _ _ _ _ (by lia) (by lia), State.rd_wr_same, Nat.mod_eq_of_lt (staleSample_word_lt _)]
  · have hevt : (((s.setF (Reg.AFE_CH_STAT_OOS (n / 8) (n % 8)) 1).sentinelOff n).wr (Reg.AFE_CH_RES (n / 8) (n % 8))
        (staleSample (s.chDye n)).word).evt = s.evt := (hoff 0 (by decide)).2
    rw [← List.getLast?_map, State.news_emitOpen hevt (by decide) hroom]
    rfl

/-! ### The end of a proof test (R225) -/

theorem State.memView_setGrp (s : State) (g : Nat) (f : AfeGrp → AfeGrp) : (s.setGrp g f).memView = s.memView := (rfl)

theorem State.memView_raise (s : State) (f : Fld) : (s.raise f).memView = s.memView := (rfl)

/-- The registers that the end of a proof test writes. -/
def proofRegs (g : Nat) : List Nat := [Reg.AFE_PROOF_STAT g, Reg.UNIT_IRQ (.afe g)]

/-- The end of a proof test reports its result and frees the DAC of the test. -/
theorem State.proofEnd_gives (s : State) {g result : Nat} (hresult : result < 256) :
    let t := s.proofEnd g result
    t.flag (Reg.AFE_PROOF_STAT_BUSY g) = false ∧ t.getF (Reg.AFE_PROOF_STAT_RESULT g) = result ∧
      t.flag (Reg.AFE_PROOF_STAT_DONE g) = true ∧ t.getF (Reg.AFE_PROOF_STAT_CH g) = s.getF (Reg.AFE_PROOF_STAT_CH g) ∧
      t.flag ⟨Reg.UNIT_IRQ (.afe g), 5, 5⟩ = true ∧ s.regsKept (proofRegs g) t ∧ t.evt = s.evt ∧ t.memView = s.memView := by
  intro t
  have hstat : t.rd (Reg.AFE_PROOF_STAT g) = (((((s.setF (Reg.AFE_PROOF_STAT_BUSY g) 0).setF (Reg.AFE_PROOF_STAT_WAIT g) 0).setF
      (Reg.AFE_PROOF_STAT_RESULT g) result).setF (Reg.AFE_PROOF_STAT_DONE g) 1).rd (Reg.AFE_PROOF_STAT g)) := by
    simp only [t, State.proofEnd]
    rw [State.rd_irq_afe_ne _ _ (by lia), State.rd_setGrp, State.raise, State.rd_mark]
  refine ⟨?_, ?_, ?_, ?_, ?_, fun o ho => ?_, ?_, ?_⟩
  · rw [State.flag_congr hstat, State.flag_setF_beside _ _ rfl rfl (by lia), State.flag_setF_beside _ _ rfl rfl (by lia),
      State.flag_setF_beside _ _ rfl rfl (by lia), State.flag_setF_zero _ _ rfl]
  · rw [State.getF_congr hstat, State.getF_setF_beside _ _ rfl rfl (by lia), State.getF_setF _ _ _ rfl]
    exact Nat.mod_eq_of_lt hresult
  · rw [State.flag_congr hstat]
    exact State.flag_setF_one _ _ rfl
  · rw [State.getF_congr hstat, State.getF_setF_beside _ _ rfl rfl (by lia), State.getF_setF_beside _ _ rfl rfl (by lia),
      State.getF_setF_beside _ _ rfl rfl (by lia), State.getF_setF_beside _ _ rfl rfl (by lia)]
  · rw [State.flag_bit]
    simp only [t, State.proofEnd]
    rw [State.testBit_rd_irq _ _ _ _ (by decide)]
    exact Bool.or_eq_true_iff.2 (.inl (decide_eq_true rfl))
  · simp only [proofRegs, unitIrq_afe, List.mem_cons, List.not_mem_nil, or_false, not_or] at ho
    simp only [t, State.proofEnd]
    rw [State.rd_irq_afe_ne _ _ ho.2, State.rd_setGrp, State.rd_raise_ne _ _ ho.1, State.rd_setF_ne _ _ _ ho.1,
      State.rd_setF_ne _ _ _ ho.1, State.rd_setF_ne _ _ _ ho.1]
  · simp only [t, State.proofEnd, State.irq_evt, State.evt_setGrp, State.raise_evt, State.setF_evt]
  · simp only [t, State.proofEnd, State.memView_irq, State.memView_setGrp, State.memView_raise, State.memView_setF]

/-- The end of a proof test takes the DAC from the test alone. -/
theorem State.dac_proofEnd (s : State) {g : Nat} (result : Nat) (hg : g < s.afe.length) (hdac : (s.grp g).dac = some .proof) :
    ((s.proofEnd g result).grp g).dac = none := by
  simp only [State.proofEnd]
  rw [State.grp_congr (State.irq_afe ..), State.grp_setGrp_same _ _ (by simpa using hg),
    State.grp_congr (t := State.raise _ _) (s := s) (by simp only [State.raise_afe, State.setF_afe])]
  exact if_pos hdac

/-! ### Return to service (R220, R225) -/

/-- The channel is in service again, its fusion state LO, its filter reset. -/
def State.inService (s : State) (n : Nat) : State :=
  (((s.setF (Reg.AFE_CH_STAT_OOS (n / 8) (n % 8)) 0).setF (Reg.AFE_CH_STAT_FUSE_HI (n / 8) (n % 8)) 0)).syncCh n

/-- A proof test on the channel that returns is refused. -/
def State.testRefused (s : State) (n : Nat) : State :=
  if s.flag (Reg.AFE_PROOF_STAT_BUSY (n / 8)) && s.getF (Reg.AFE_PROOF_STAT_CH (n / 8)) == n % 8 then s.proofEnd (n / 8) 3 else s

theorem exec_channelReturnToService {s : State} {n : Nat} (hn : n < 64)
    (hctl : s.flag (Reg.AFE_CH_CTL_OOS (n / 8) (n % 8)) = false) (hstat : s.flag (Reg.AFE_CH_STAT_OOS (n / 8) (n % 8)) = true)
    (hon : s.on (secAfe (n / 8)) = true) :
    exec (.channelReturnToService n) s = .next (((s.inService n).testRefused n).emitOpen (chSrc n) 0x1005 2) := by
  change execChannelReturnToService n s = _
  simp only [execChannelReturnToService, hn, hctl, hstat, hon, decide_true, Bool.not_false, Bool.and_self, if_true, State.testRefused,
    State.inService]
  rfl

theorem State.inService_gives (s : State) {n : Nat} (hn : n < 64) :
    (s.inService n).flag (Reg.AFE_CH_STAT_OOS (n / 8) (n % 8)) = false ∧
      (s.inService n).flag (Reg.AFE_CH_STAT_FUSE_HI (n / 8) (n % 8)) = false ∧
      (s.inService n).rd (Reg.AFE_PROOF_STAT (n / 8)) = s.rd (Reg.AFE_PROOF_STAT (n / 8)) ∧ (s.inService n).evt = s.evt := by
  have hsync {o : Nat} (ho : o < 0x200a00) : (s.inService n).rd o = _ := (State.syncCh_keeps _ n ho).1
  refine ⟨?_, ?_, ?_, ?_⟩
  · rw [State.flag_congr (hsync (by lia)), State.flag_setF_beside _ _ rfl rfl (by lia), State.flag_setF_zero _ _ rfl]
  · rw [State.flag_congr (hsync (by lia)), State.flag_setF_zero _ _ rfl]
  · rw [hsync (by lia), State.rd_setF_ne _ _ _ (by lia), State.rd_setF_ne _ _ _ (by lia)]
  · rw [State.inService, (State.syncCh_keeps _ n (o := 0) (by decide)).2, State.setF_evt, State.setF_evt]

theorem State.testRefused_keeps (s : State) {n : Nat} :
    s.regsKept (proofRegs (n / 8)) (s.testRefused n) ∧ (s.testRefused n).evt = s.evt := by
  unfold State.testRefused
  split
  · obtain ⟨-, -, -, -, -, hkept, hevt, -⟩ := s.proofEnd_gives (g := n / 8) (result := 3) (by decide)
    exact ⟨hkept, hevt⟩
  · exact ⟨fun _ _ => rfl, rfl⟩

/-- The status of a channel is none of the registers that the end of a proof test writes. -/
theorem chStat_notMem_proofRegs (g c : Nat) : Reg.AFE_CH_STAT g c ∉ proofRegs g := by
  simp only [proofRegs, unitIrq_afe, List.mem_cons, List.not_mem_nil, or_false, not_or]
  exact ⟨by lia, by lia⟩

/-- Nor is the register of the command one of them. -/
theorem proofCtl_notMem_proofRegs (g : Nat) : Reg.AFE_PROOF_CTL g ∉ proofRegs g := by
  simp only [proofRegs, unitIrq_afe, List.mem_cons, List.not_mem_nil, or_false, not_or]
  exact ⟨by lia, by lia⟩

/-- A channel whose request is cleared returns to service; a proof test on it ends REFUSED. -/
theorem channelReturnToService_returns {s : State} {n : Nat} (hroom : s.room 2 = true) (hn : n < 64)
    (hctl : s.flag (Reg.AFE_CH_CTL_OOS (n / 8) (n % 8)) = false) (hstat : s.flag (Reg.AFE_CH_STAT_OOS (n / 8) (n % 8)) = true)
    (hon : s.on (secAfe (n / 8)) = true) :
    ∃ t, exec (.channelReturnToService n) s = .next t ∧ t.flag (Reg.AFE_CH_STAT_OOS (n / 8) (n % 8)) = false ∧
      t.flag (Reg.AFE_CH_STAT_FUSE_HI (n / 8) (n % 8)) = false ∧
      (s.news t).map (fun e => (e.1, e.2.1, e.2.2.1)) = [(chSrc n, 0x1005, 2)] ∧
      (s.flag (Reg.AFE_PROOF_STAT_BUSY (n / 8)) = true → s.getF (Reg.AFE_PROOF_STAT_CH (n / 8)) = n % 8 →
        t.flag (Reg.AFE_PROOF_STAT_BUSY (n / 8)) = false ∧ t.getF (Reg.AFE_PROOF_STAT_RESULT (n / 8)) = 3) := by
  obtain ⟨hoos, hfuse, hproof, hevt⟩ := s.inService_gives hn
  obtain ⟨hkept, hevt'⟩ := (s.inService n).testRefused_keeps (n := n)
  have hchan : (((s.inService n).testRefused n).emitOpen (chSrc n) 0x1005 2).rd (Reg.AFE_CH_STAT (n / 8) (n % 8)) =
      (s.inService n).rd (Reg.AFE_CH_STAT (n / 8) (n % 8)) :=
    (State.rd_emitOpen_ne _ _ _ _ (by lia) (by lia)).trans (hkept _ (chStat_notMem_proofRegs _ _))
  refine ⟨_, exec_channelReturnToService hn hctl hstat hon, (State.flag_congr hchan).trans hoos, (State.flag_congr hchan).trans hfuse,
    State.news_emitOpen (hevt'.trans hevt) (by decide) hroom _ _ _, fun hbusy hch => ?_⟩
  have hrefused : (s.inService n).testRefused n = (s.inService n).proofEnd (n / 8) 3 := by
    rw [State.testRefused, State.flag_congr hproof, State.getF_congr hproof, hbusy, hch]
    exact if_pos (by simp)
  have hstat : (((s.inService n).testRefused n).emitOpen (chSrc n) 0x1005 2).rd (Reg.AFE_PROOF_STAT (n / 8)) =
      ((s.inService n).proofEnd (n / 8) 3).rd (Reg.AFE_PROOF_STAT (n / 8)) := by
    rw [State.rd_emitOpen_ne _ _ _ _ (by lia) (by lia), hrefused]
  obtain ⟨hbusy', hresult, -⟩ := (s.inService n).proofEnd_gives (g := n / 8) (result := 3) (by decide)
  exact ⟨(State.flag_congr hstat).trans hbusy', (State.getF_congr hstat).trans hresult⟩

/-! ### PROOF_DAC_GRANT (R217) -/

theorem exec_proofDacGrant {s : State} {g : Nat} (hg : g < 8) : exec (.proofDacGrant g) s = .next (s.dacGrant g) := by
  change execProofDacGrant g s = _
  simp only [execProofDacGrant, State.only, hg, decide_true, if_true]

/-- A proof test that has the DAC waits no longer. -/
theorem State.wait_dacGiven {s : State} {g : Nat} {u : Nat × DacUser} (h : u.2 = .proof) :
    (s.dacGiven g u).flag (Reg.AFE_PROOF_STAT_WAIT g) = false := by
  rw [State.dacGiven, if_pos h, State.flag_setF_zero _ _ rfl]

/-- The free DAC goes to the user that asked first, a calibration first among those of one edge. -/
theorem proofDacGrant_grants {s : State} {g : Nat} (hg : g < 8) (hlen : g < s.afe.length) :
    ∃ t, exec (.proofDacGrant g) s = .next t ∧ s.regsKept [Reg.AFE_PROOF_STAT g] t ∧ t = { s with regs := t.regs, afe := t.afe } ∧
      (((s.grp g).dac.isSome = true ∨ ∀ w ∈ (s.grp g).dacWait, s.edgeNow < w.1) → t = s) ∧
      ((s.grp g).dac = none → (∃ w ∈ (s.grp g).dacWait, w.1 ≤ s.edgeNow) →
        ∃ u ∈ (s.grp g).dacWait, u.1 ≤ s.edgeNow ∧ (t.grp g).dac = some u.2 ∧ (t.grp g).dacWait = (s.grp g).dacWait.erase u ∧
          (u.2 = .proof → t.flag (Reg.AFE_PROOF_STAT_WAIT g) = false) ∧
          ∀ w ∈ (s.grp g).dacWait, w.1 ≤ s.edgeNow → u.1 ≤ w.1 ∧ (w.1 = u.1 → u.2 = .proof → w.2 = .proof)) := by
  refine ⟨_, exec_proofDacGrant hg, fun o ho => State.rd_dacGrant_ne s (by simpa using ho), State.dacGrant_frame s g, ?_, ?_⟩
  · rintro (htaken | hlate)
    · exact State.dacGrant_of_taken htaken
    · refine State.dacGrant_of_idle (List.filter_eq_nil_iff.2 fun w hw => ?_)
      simpa using hlate w hw
  · rintro hfree ⟨w, hw, hdue⟩
    obtain ⟨u, hu, hgrant, hfirst⟩ := State.dacGrant_of_due hfree (List.ne_nil_of_mem (State.mem_dacDue.2 ⟨hw, hdue⟩))
    obtain ⟨hmem, hedge⟩ := State.mem_dacDue.1 hu
    have hgrp := State.grp_dacGiven s u hlen
    rw [hgrant]
    exact ⟨u, hmem, hedge, by rw [hgrp], by rw [hgrp], State.wait_dacGiven,
      fun x hx hxdue => hfirst x (State.mem_dacDue.2 ⟨hx, hxdue⟩)⟩

/-! ### The end of a measurement (R223–R225) -/

theorem proofTestDone_reports {s : State} {g : Nat} (hg : g < 8) (hlen : g < s.afe.length) (v : Int)
    (hbusy : s.flag (Reg.AFE_PROOF_STAT_BUSY g) = true) (hdac : (s.grp g).dac = some .proof) :
    ∃ t, exec (.proofTestDone g v) s = .next t ∧ t.flag (Reg.AFE_PROOF_STAT_BUSY g) = false ∧ (t.grp g).dac = none ∧
      t.flag (Reg.AFE_PROOF_STAT_DONE g) = true ∧ t.flag ⟨Reg.UNIT_IRQ (.afe g), 5, 5⟩ = true ∧
      ((s.grp g).test = 0 → t.getF (Reg.AFE_PROOF_STAT_RESULT g) = (if 250000 < v then 1 else 0) ∧
        t.flag (Reg.AFE_CH_STAT_OPEN g (s.getF (Reg.AFE_PROOF_STAT_CH g))) = decide (250000 < v)) ∧
      ((s.grp g).test ≠ 0 → t.getF (Reg.AFE_PROOF_STAT_RESULT g) = (if v.natAbs ≤ 300 then 0 else 2)) := by
  have hgrant : s.dacGrant g = s := State.dacGrant_of_taken (by rw [hdac]; rfl)
  have hexec : exec (.proofTestDone g v) s = if (s.grp g).test = 0 then
        .next (((s.setI (Reg.AFE_PROOF_RES_VAL g) v).setB (Reg.AFE_CH_STAT_OPEN g (s.getF (Reg.AFE_PROOF_STAT_CH g)))
          (decide (250000 < v))).proofEnd g (b2n (decide (250000 < v))))
      else .next ((s.setI (Reg.AFE_PROOF_RES_VAL g) v).proofEnd g (if v.natAbs ≤ 300 then 0 else 2)) := by
    have hcond : s.flag (Reg.AFE_PROOF_STAT_BUSY g) = true ∧ (s.grp g).dac = some .proof := ⟨hbusy, hdac⟩
    change execProofTestDone g v s = _
    simp only [execProofTestDone, State.only, hg, decide_true, if_true, hgrant, if_pos hcond]
    rfl
  by_cases htest : (s.grp g).test = 0
  · have hresult : b2n (decide (250000 < v)) = if 250000 < v then 1 else 0 := by simp [b2n]
    rw [hexec, if_pos htest]
    generalize hu : (s.setI (Reg.AFE_PROOF_RES_VAL g) v).setB (Reg.AFE_CH_STAT_OPEN g (s.getF (Reg.AFE_PROOF_STAT_CH g)))
      (decide (250000 < v)) = u
    have hafe : u.afe = s.afe := by rw [← hu, State.setB_afe, State.setI_afe]
    have hopen : u.flag (Reg.AFE_CH_STAT_OPEN g (s.getF (Reg.AFE_PROOF_STAT_CH g))) = decide (250000 < v) := by
      rw [← hu, State.flag_setB _ _ _ rfl rfl]
    obtain ⟨hidle, hres, hdone, -, hirq, hkept, -⟩ := u.proofEnd_gives (g := g) (result := b2n (decide (250000 < v)))
      (by rw [hresult]; split <;> decide)
    exact ⟨_, rfl, hidle, State.dac_proofEnd u _ (by rwa [hafe]) (by rw [State.grp_congr hafe, hdac]), hdone, hirq,
      fun _ => ⟨hres.trans hresult, (State.flag_congr (hkept _ (chStat_notMem_proofRegs _ _))).trans hopen⟩, fun h => absurd htest h⟩
  · rw [hexec, if_neg htest]
    have hafe : (s.setI (Reg.AFE_PROOF_RES_VAL g) v).afe = s.afe := State.setI_afe ..
    obtain ⟨hidle, hres, hdone, -, hirq, -⟩ := (s.setI (Reg.AFE_PROOF_RES_VAL g) v).proofEnd_gives (g := g)
      (result := if v.natAbs ≤ 300 then 0 else 2) (by split <;> decide)
    exact ⟨_, rfl, hidle, State.dac_proofEnd _ _ (by rwa [hafe]) (by rw [State.grp_congr hafe, hdac]), hdone, hirq,
      fun h => absurd h htest, fun _ => hres⟩

/-! ### PROOF_START (R222) -/

theorem State.on_congr {s t : State} (h : t.pwr = s.pwr) (id : Nat) : t.on id = s.on id := by
  simp only [State.on, State.partSt, State.part, h]

theorem State.memKept_of_memView {s t : State} (h : t.memView = s.memView) : s.memKept t := by
  simp only [State.memView, Prod.mk.injEq] at h
  obtain ⟨-, hdram, hu0, hu1⟩ := h
  intro a
  rw [hdram, hu0, hu1]
  exact ⟨rfl, rfl, rfl⟩

/-- The test that TEST selects is latched, and asks for the DAC. -/
def State.testWaiting (s : State) (g : Nat) : State :=
  let t := (s.setF (Reg.AFE_PROOF_STAT_BUSY g) 1).setF (Reg.AFE_PROOF_STAT_WAIT g) 1
  t.setGrp g fun x => { x with test := s.getF (Reg.AFE_PROOF_CTL_TEST g), dacWait := x.dacWait ++ [(t.edgeNow, .proof)] }

/-- The channel of the test is noted. -/
def State.testNamed (s : State) (g : Nat) : State := s.setF (Reg.AFE_PROOF_STAT_CH g) (s.getF (Reg.AFE_PROOF_CTL_CH g))

/-- START of a proof test, once AFEg_PROOF_CTL is written. -/
def State.testStarted (s : State) (g : Nat) : State :=
  let t := s.testNamed g
  if t.getF (Reg.AFE_PROOF_CTL_TEST g) ≥ 2 || !t.flag (Reg.AFE_CH_STAT_OOS g (s.getF (Reg.AFE_PROOF_CTL_CH g))) ||
      !t.on (secAfe g) then t.proofEnd g 3
  else (t.testWaiting g).dacGrant g

section Start
variable {s : State} {g : Nat}

/-- The registers while a test asks for the DAC. -/
theorem State.rd_testWaiting (o : Nat) :
    (s.testWaiting g).rd o = ((s.setF (Reg.AFE_PROOF_STAT_BUSY g) 1).setF (Reg.AFE_PROOF_STAT_WAIT g) 1).rd o := by
  rw [State.testWaiting, State.rd_setGrp]

theorem State.edgeNow_testWaiting : (s.testWaiting g).edgeNow = s.edgeNow := by
  simp only [State.testWaiting, State.edgeNow, State.tm_setGrp, State.setF_tm]

/-- The group while a test asks for the DAC. -/
theorem State.grp_testWaiting (hlen : g < s.afe.length) : (s.testWaiting g).grp g = { s.grp g with
    test := s.getF (Reg.AFE_PROOF_CTL_TEST g), dacWait := (s.grp g).dacWait ++ [(s.edgeNow, .proof)] } := by
  simp only [State.testWaiting, State.edgeNow_setF]
  rw [State.grp_setGrp_same _ _ (by simpa using hlen), State.grp_congr ((State.setF_afe ..).trans (State.setF_afe ..))]

/-- A test whose channel is out of service is latched and takes the DAC or waits for it. -/
theorem State.testWaiting_asks (hlen : g < s.afe.length) :
    let t := (s.testWaiting g).dacGrant g
    t.flag (Reg.AFE_PROOF_STAT_BUSY g) = true ∧ (t.grp g).test = s.getF (Reg.AFE_PROOF_CTL_TEST g) ∧
      (((s.grp g).dac = none ∧ (s.grp g).dacWait = []) →
        (t.grp g).dac = some .proof ∧ t.flag (Reg.AFE_PROOF_STAT_WAIT g) = false) ∧
      ((s.grp g).dac ≠ none → (t.grp g).dac = (s.grp g).dac ∧ t.flag (Reg.AFE_PROOF_STAT_WAIT g) = true) := by
  intro t
  have hgrp := State.grp_testWaiting hlen
  have hlen' : g < (s.testWaiting g).afe.length := by simpa [State.testWaiting] using hlen
  have hbusy : (s.testWaiting g).flag (Reg.AFE_PROOF_STAT_BUSY g) = true :=
    (State.flag_congr (State.rd_testWaiting _)).trans
      ((State.flag_setF_beside _ _ rfl rfl (by lia)).trans (State.flag_setF_one s _ rfl))
  refine ⟨?_, ?_, ?_, ?_⟩
  · rw [State.flag, State.getF_dacGrant _ rfl (by lia)]
    exact hbusy
  · rw [(State.grp_dacGrant _ hlen').2, hgrp]
  · rintro ⟨hfree, hempty⟩
    have hdue : (s.testWaiting g).dacDue g = [(s.edgeNow, .proof)] := by
      rw [State.dacDue, hgrp, hempty, State.edgeNow_testWaiting]
      simp
    obtain ⟨u, hu, hgrant, -⟩ := State.dacGrant_of_due (s := s.testWaiting g) (by rw [hgrp]; exact hfree) (by simp [hdue])
    rw [hdue, List.mem_singleton] at hu
    subst hu
    simp only [t, hgrant]
    exact ⟨by rw [State.grp_dacGiven _ _ hlen'], State.wait_dacGiven rfl⟩
  · intro htaken
    have hgrant : (s.testWaiting g).dacGrant g = s.testWaiting g :=
      State.dacGrant_of_taken (by rw [hgrp]; exact Option.isSome_iff_ne_none.2 htaken)
    simp only [t, hgrant]
    exact ⟨by rw [hgrp], (State.flag_congr (State.rd_testWaiting _)).trans (State.flag_setF_one _ _ rfl)⟩

theorem State.memView_testWaiting : ((s.testWaiting g).dacGrant g).memView = s.memView := by
  have hgrant (u : State) : (u.dacGrant g).memView = u.memView := by
    rw [State.dacGrant_frame]
    rfl
  rw [hgrant, State.testWaiting, State.memView_setGrp, State.memView_setF, State.memView_setF]

theorem State.rd_testNamed_ne (s : State) {o : Nat} (h : o ≠ Reg.AFE_PROOF_STAT g) : (s.testNamed g).rd o = s.rd o :=
  State.rd_setF_ne _ _ _ h

theorem State.ch_testNamed (s : State) (g : Nat) :
    (s.testNamed g).getF (Reg.AFE_PROOF_STAT_CH g) = s.getF (Reg.AFE_PROOF_CTL_CH g) := by
  rw [State.testNamed, State.getF_setF _ _ _ rfl]
  exact Nat.mod_eq_of_lt (bits_lt ..)

theorem State.test_testNamed (s : State) (g : Nat) :
    (s.testNamed g).getF (Reg.AFE_PROOF_CTL_TEST g) = s.getF (Reg.AFE_PROOF_CTL_TEST g) :=
  State.getF_congr (s.rd_testNamed_ne (by lia))

theorem State.oos_testNamed (s : State) (g c : Nat) :
    (s.testNamed g).flag (Reg.AFE_CH_STAT_OOS g c) = s.flag (Reg.AFE_CH_STAT_OOS g c) :=
  State.flag_congr (s.rd_testNamed_ne (by lia))

/-- A reserved test, or one of a channel in service, is refused. -/
theorem State.testStarted_of_refused
    (h : s.flag (Reg.AFE_CH_STAT_OOS g (s.getF (Reg.AFE_PROOF_CTL_CH g))) = false ∨ 2 ≤ s.getF (Reg.AFE_PROOF_CTL_TEST g)) :
    s.testStarted g = (s.testNamed g).proofEnd g 3 := by
  refine if_pos ?_
  rw [State.test_testNamed, State.oos_testNamed]
  rcases h with h | h <;> simp [h]

/-- In a group that is ON a test of a channel out of service is latched. -/
theorem State.testStarted_of_latched (hon : s.on (secAfe g) = true)
    (hout : s.flag (Reg.AFE_CH_STAT_OOS g (s.getF (Reg.AFE_PROOF_CTL_CH g))) = true) (htest : s.getF (Reg.AFE_PROOF_CTL_TEST g) < 2) :
    s.testStarted g = ((s.testNamed g).testWaiting g).dacGrant g := by
  have hon' : (s.testNamed g).on (secAfe g) = true := (State.on_congr (State.setF_pwr ..) _).trans hon
  refine if_neg ?_
  rw [State.test_testNamed, State.oos_testNamed, hout, hon']
  simpa using htest

/-- The registers that START leaves alone. -/
theorem State.rd_testStarted (s : State) {o : Nat} (h : o ∉ proofRegs g) : (s.testStarted g).rd o = s.rd o := by
  have hstat : o ≠ Reg.AFE_PROOF_STAT g := fun ho => h (ho ▸ List.mem_cons_self ..)
  unfold State.testStarted
  dsimp only
  split
  · obtain ⟨-, -, -, -, -, hkept, -⟩ := (s.testNamed g).proofEnd_gives (g := g) (result := 3) (by decide)
    rw [hkept o h, State.rd_testNamed_ne _ hstat]
  · rw [State.rd_dacGrant_ne _ hstat, State.rd_testWaiting, State.rd_setF_ne _ _ _ hstat, State.rd_setF_ne _ _ _ hstat,
      State.rd_testNamed_ne _ hstat]

/-- What becomes of a test that is started in a group that is ON. -/
theorem State.testStarted_gives (hlen : g < s.afe.length) (hon : s.on (secAfe g) = true) :
    let t := s.testStarted g
    t.memView = s.memView ∧ t.getF (Reg.AFE_PROOF_STAT_CH g) = s.getF (Reg.AFE_PROOF_CTL_CH g) ∧
      ((s.flag (Reg.AFE_CH_STAT_OOS g (s.getF (Reg.AFE_PROOF_CTL_CH g))) = false ∨ 2 ≤ s.getF (Reg.AFE_PROOF_CTL_TEST g)) →
        t.flag (Reg.AFE_PROOF_STAT_BUSY g) = false ∧ t.getF (Reg.AFE_PROOF_STAT_RESULT g) = 3 ∧
          t.flag (Reg.AFE_PROOF_STAT_DONE g) = true) ∧
      (s.flag (Reg.AFE_CH_STAT_OOS g (s.getF (Reg.AFE_PROOF_CTL_CH g))) = true → s.getF (Reg.AFE_PROOF_CTL_TEST g) < 2 →
        t.flag (Reg.AFE_PROOF_STAT_BUSY g) = true ∧ (t.grp g).test = s.getF (Reg.AFE_PROOF_CTL_TEST g) ∧
          (((s.grp g).dac = none ∧ (s.grp g).dacWait = []) →
            (t.grp g).dac = some .proof ∧ t.flag (Reg.AFE_PROOF_STAT_WAIT g) = false) ∧
          ((s.grp g).dac ≠ none → (t.grp g).dac = (s.grp g).dac ∧ t.flag (Reg.AFE_PROOF_STAT_WAIT g) = true)) := by
  intro t
  have hafe : (s.testNamed g).afe = s.afe := State.setF_afe ..
  have hmem : (s.testNamed g).memView = s.memView := State.memView_setF ..
  by_cases hrefused : s.flag (Reg.AFE_CH_STAT_OOS g (s.getF (Reg.AFE_PROOF_CTL_CH g))) = false ∨
      2 ≤ s.getF (Reg.AFE_PROOF_CTL_TEST g)
  · obtain ⟨hidle, hresult, hdone, hchan, -, -, -, hview⟩ := (s.testNamed g).proofEnd_gives (g := g) (result := 3) (by decide)
    simp only [t, State.testStarted_of_refused hrefused]
    refine ⟨hview.trans hmem, hchan.trans (s.ch_testNamed g), fun _ => ⟨hidle, hresult, hdone⟩, fun hout hlow => ?_⟩
    rcases hrefused with h | h
    · exact absurd (hout.symm.trans h) (by decide)
    · exact absurd h (Nat.not_le.2 hlow)
  · obtain ⟨hout, hlow⟩ := not_or.1 hrefused
    have hasks := State.testWaiting_asks (s := s.testNamed g) (g := g) (hafe ▸ hlen)
    rw [State.grp_congr hafe, State.test_testNamed] at hasks
    simp only [t, State.testStarted_of_latched hon (Bool.not_eq_false _ ▸ hout) (Nat.not_le.1 hlow)]
    refine ⟨State.memView_testWaiting.trans hmem, ?_, fun h => absurd h hrefused, fun _ _ => hasks⟩
    rw [State.getF_dacGrant _ rfl (by lia), State.getF_congr (State.rd_testWaiting _), State.getF_setF_beside _ _ rfl rfl (by lia),
      State.getF_setF_beside _ _ rfl rfl (by lia), s.ch_testNamed g]

end Start

/-! ### The statement ChannelsOutOfServiceAndProofTests -/

theorem State.pwr_of_sansHost {s t : State} (h : t.sansHost = s.sansHost) : t.pwr = s.pwr := by
  rw [State.frame_of_sansHost h]

theorem State.afe_of_sansHost {s t : State} (h : t.sansHost = s.sansHost) : t.afe = s.afe := by
  rw [State.frame_of_sansHost h]

theorem State.memView_of_sansHost {s t : State} (h : t.sansHost = s.sansHost) : t.memView = s.memView := by
  rw [State.frame_of_sansHost h]
  rfl

/-- The command writes AFEg_PROOF_CTL, whose fields are START, TEST and CH, and starts the test. -/
theorem exec_proofStart {s : State} {g : Nat} (hg : g < 8) {i : Iface} (hup : s.hostUp = true) (hmay : s.may i .operate = true)
    (hidle : s.flag (Reg.AFE_PROOF_STAT_BUSY g) = false) (hafe : s.hasAfe g = true) (v : Word) :
    ∃ u, exec (.proofStart i g v) s = .next ((u.testStarted g).spiEnd i) ∧ s.regsKept [Reg.AFE_PROOF_CTL g] u ∧
      u.sansHost = s.sansHost := by
  obtain ⟨h, hreg, hfields⟩ := Option.map_eq_some_iff.1 (regAt_proofCtl g hg)
  have hacc : ∀ f ∈ h.row.fields, (f.acc = .rw ∨ f.acc = .wo) ∧ (s.level i).ge f.level = true := by
    rw [hfields]
    exact List.forall_mem_cons.2 ⟨⟨.inr rfl, hmay⟩, List.forall_mem_cons.2 ⟨⟨.inl rfl, hmay⟩,
      List.forall_mem_singleton.2 ⟨.inl rfl, hmay⟩⟩⟩
  have hplain : ¬ (Reg.AFE_PROOF_CTL g % 0x1000 = 0x14 ∨ Reg.AFE_PROOF_CTL g < 0x300) := by lia
  have hstart : (v.toNat ||| 2 ^ 31).testBit 31 = true := by rw [Nat.testBit_or, Nat.testBit_two_pow_self, Bool.or_true]
  obtain ⟨hkept, hsans, hmay'⟩ := State.fieldWrite_keeps hreg hacc hplain (v.toNat ||| 2 ^ 31)
  generalize hu : s.fieldWrite i (Reg.AFE_PROOF_CTL g) (v.toNat ||| 2 ^ 31) = u at hkept hsans hmay'
  have hbusy : u.flag (Reg.AFE_PROOF_STAT_BUSY g) = false := (State.flag_congr (hkept _ (by simp))).trans hidle
  refine ⟨u, ?_, hkept, hsans⟩
  change execProofStart i g v s = _
  simp only [execProofStart, State.only, hafe, if_true, State.hostRow, hup, State.proofCtl, hu, hstart, hmay', hmay, hbusy,
    Bool.not_true, Bool.or_false, Bool.false_eq_true, if_false]
  rfl

/-- START in a group that is ON and idle: the test is refused, or latched until it has the DAC. -/
theorem proofStart_starts {s : State} {g : Nat} (hg : g < 8) (hlen : g < s.afe.length) {i : Iface} (hup : s.hostUp = true)
    (hmay : s.may i .operate = true) (hidle : s.flag (Reg.AFE_PROOF_STAT_BUSY g) = false) (hon : s.on (secAfe g) = true)
    (hafe : s.hasAfe g = true) (v : Word) :
    ∃ t, exec (.proofStart i g v) s = .next t ∧ s.memKept t ∧
      t.getF (Reg.AFE_PROOF_STAT_CH g) = t.getF (Reg.AFE_PROOF_CTL_CH g) ∧
      ((s.flag (Reg.AFE_CH_STAT_OOS g (t.getF (Reg.AFE_PROOF_CTL_CH g))) = false ∨ 2 ≤ t.getF (Reg.AFE_PROOF_CTL_TEST g)) →
        t.flag (Reg.AFE_PROOF_STAT_BUSY g) = false ∧ t.getF (Reg.AFE_PROOF_STAT_RESULT g) = 3 ∧
          t.flag (Reg.AFE_PROOF_STAT_DONE g) = true) ∧
      (s.flag (Reg.AFE_CH_STAT_OOS g (t.getF (Reg.AFE_PROOF_CTL_CH g))) = true → t.getF (Reg.AFE_PROOF_CTL_TEST g) < 2 →
        t.flag (Reg.AFE_PROOF_STAT_BUSY g) = true ∧ (t.grp g).test = t.getF (Reg.AFE_PROOF_CTL_TEST g) ∧
          (((s.grp g).dac = none ∧ (s.grp g).dacWait = []) →
            (t.grp g).dac = some .proof ∧ t.flag (Reg.AFE_PROOF_STAT_WAIT g) = false) ∧
          ((s.grp g).dac ≠ none → (t.grp g).dac = (s.grp g).dac ∧ t.flag (Reg.AFE_PROOF_STAT_WAIT g) = true)) := by
  obtain ⟨u, hexec, hkept, hsans⟩ := exec_proofStart hg hup hmay hidle hafe v
  have hoos (c : Nat) : u.flag (Reg.AFE_CH_STAT_OOS g c) = s.flag (Reg.AFE_CH_STAT_OOS g c) :=
    State.flag_congr (hkept _ (by simp only [List.mem_singleton]; lia))
  have hgrp : u.grp g = s.grp g := State.grp_congr (State.afe_of_sansHost hsans) g
  have hctl : (u.testStarted g).rd (Reg.AFE_PROOF_CTL g) = u.rd (Reg.AFE_PROOF_CTL g) :=
    u.rd_testStarted (proofCtl_notMem_proofRegs g)
  have hend : ((u.testStarted g).spiEnd i).grp g = (u.testStarted g).grp g :=
    State.grp_congr (State.afe_of_sansHost (State.sansHost_spiEnd ..)) g
  have hgives := State.testStarted_gives (s := u) (g := g) (by rwa [State.afe_of_sansHost hsans])
    ((State.on_congr (State.pwr_of_sansHost hsans) _).trans hon)
  simp only [← State.getF_congr (f := Reg.AFE_PROOF_CTL_CH g) hctl, ← State.getF_congr (f := Reg.AFE_PROOF_CTL_TEST g) hctl, hoos,
    hgrp] at hgives
  obtain ⟨hmem, hstarted⟩ := hgives
  refine ⟨_, hexec, State.memKept_of_memView
    ((State.memView_of_sansHost (State.sansHost_spiEnd ..)).trans (hmem.trans (State.memView_of_sansHost hsans))), ?_⟩
  simpa only [State.getF_spiEnd, State.flag_spiEnd, hend] using hstarted

/-- Settles O18: each command of the service of channels, of proof tests and of the DAC does what the rules say of it. -/
theorem channelsOutOfServiceAndProofTests : Obligations.ChannelsOutOfServiceAndProofTests := by
  intro s hshape hroom
  refine ⟨?_, fun g hg => ?_⟩
  · rintro n hn _ rfl _ rfl
    exact ⟨fun i v hup hmay => afeOosWrite_requests hn v hup hmay, channelOutOfService_leaves hroom hn,
      channelReturnToService_returns hroom hn⟩
  · have hlen : g < s.afe.length := by rwa [State.afe_length_of_shaped hshape]
    exact ⟨fun i hup hmay hidle hon hafe _ v => proofStart_starts hg hlen hup hmay hidle hon hafe v, proofDacGrant_grants hg hlen,
      fun v hbusy hdac _ => proofTestDone_reports hg hlen v hbusy hdac⟩

end Sys2Proof.Machine
end

section
/-!
What a fc leaves to the housekeeping converter (07): `State.hkcView` collects its state and the two registers that show and count what
it lost. Beside `State.hkcEnd` each operation at the fc boundary keeps the view, where no element job is due and no comparator rises.
-/
namespace Sys2Proof.Machine

/-! ### The view -/

/-- The converter's state and the words of HKC_STAT and HKC_LOST. -/
def State.hkcView (s : State) : HkcSt × Nat × Nat := (s.hkc, s.rd Reg.HKC_STAT, s.rd Reg.HKC_LOST)

/-- An offset beside the two registers of the view. -/
def offHkc (o : Nat) : Prop := Reg.HKC_STAT ≠ o ∧ Reg.HKC_LOST ≠ o

theorem offHkc_of_le {o : Nat} (h : 0x200000 ≤ o) : offHkc o := by
  unfold offHkc
  lia

theorem offHkc_of_lt {o : Nat} (h : o < 0x100000) : offHkc o := by
  unfold offHkc
  lia

theorem State.fields_of_hkcView {s t : State} (h : t.hkcView = s.hkcView) :
    t.hkc = s.hkc ∧ t.rd Reg.HKC_STAT = s.rd Reg.HKC_STAT ∧ t.rd Reg.HKC_LOST = s.rd Reg.HKC_LOST := by
  simpa only [State.hkcView, Prod.mk.injEq] using h

/-! ### Shared operations -/

theorem State.hkcView_wr (s : State) {o : Nat} (v : Nat) (h : offHkc o) : (s.wr o v).hkcView = s.hkcView := by
  obtain ⟨hstat, hlost⟩ := h
  simp only [State.hkcView, State.wr_hkc, State.rd_wr_ne s v hstat, State.rd_wr_ne s v hlost]

theorem State.hkcView_setF (s : State) {f : Fld} (v : Nat) (h : offHkc f.off) : (s.setF f v).hkcView = s.hkcView :=
  State.hkcView_wr s _ h

theorem State.hkcView_irq (s : State) {b : Blk} (i : Nat) (h : offHkc (Reg.UNIT_IRQ b)) : (s.irq b i).hkcView = s.hkcView := by
  obtain ⟨hstat, hlost⟩ := h
  simp only [State.hkcView, State.irq_hkc, State.rd_irq_ne s b i hstat, State.rd_irq_ne s b i hlost]

theorem State.hkcView_count (s : State) {f : Fld} (n : Nat) (h : offHkc f.off) : (s.count f n).hkcView = s.hkcView :=
  State.hkcView_wr s _ h

theorem State.hkcView_raise (s : State) {f : Fld} (h : offHkc f.off) : (s.raise f).hkcView = s.hkcView :=
  State.hkcView_wr s _ h

/-! ### The end of a fc -/

@[simp] theorem State.hkcView_setQueue (s : State) (p : Nat) (q : Option Nat) : (s.setQueue p q).hkcView = s.hkcView := by
  have hstat : offHkc (Reg.FLT_PROF_STAT p) := offHkc_of_le (by simp only [Reg.FLT_PROF_STAT]; omega)
  rw [State.setQueue, State.hkcView_setF _ _ hstat, State.setB, State.hkcView_setF _ _ hstat]
  rfl

@[simp] theorem State.hkcView_bankRequest (s : State) (p b : Nat) : (s.bankRequest p b).hkcView = s.hkcView := by
  have hcnt : offHkc (Reg.FLT_PROF_CNT p) := offHkc_of_le (by simp only [Reg.FLT_PROF_CNT]; omega)
  unfold State.bankRequest
  dsimp only
  split
  case h_1 => split <;> rfl
  case h_2 =>
    split
    case h_1 => split <;> simp
    case h_2 =>
      split
      · rfl
      · rw [State.hkcView_irq _ _ (offHkc_of_le (by decide)), State.incF, State.hkcView_setF _ _ hcnt,
          State.hkcView_raise _ (offHkc_of_le (by decide)), State.hkcView_setQueue]

@[simp] theorem State.hkcView_fltEnd (s : State) : s.fltEnd.hkcView = s.hkcView := by
  refine foldl_keeps State.hkcView _ _ _ fun t p _ => ?_
  dsimp only
  split
  · rfl
  · exact foldl_keeps State.hkcView _ _ _ fun u b _ => u.hkcView_bankRequest p b

@[simp] theorem State.hkcView_aoEnd (s : State) : s.aoEnd.hkcView = s.hkcView :=
  foldl_keeps State.hkcView _ _ _ fun _ _ _ => rfl

@[simp] theorem State.hkcView_checkNext (s : State) : s.checkNext.hkcView = s.hkcView := (rfl)

@[simp] theorem State.hkcView_gateTick (s : State) : s.gateTick.hkcView = s.hkcView := (rfl)

theorem State.hkcView_txqAdd (s : State) {p : Nat} (hp : p < 4) (e : TxStamp) : (s.txqAdd p e).hkcView = s.hkcView := by
  have hstat : offHkc (Reg.TBU_P_STAT p) := offHkc_of_lt (by simp only [Reg.TBU_P_STAT]; omega)
  have hlost : offHkc (Reg.TBU_P_TXQ_LOST p) := offHkc_of_lt (by simp only [Reg.TBU_P_TXQ_LOST]; omega)
  unfold State.txqAdd
  split
  · rw [State.hkcView_irq _ _ (offHkc_of_lt (by decide)), State.hkcView_count _ _ hlost, State.hkcView_raise _ hstat]
  · rfl

theorem State.hkcView_txDone (s : State) {p : Nat} (hp : p < 4) : (s.txDone p).hkcView = s.hkcView := by
  unfold State.txDone
  split
  · split
    · rfl
    · dsimp only
      split
      · exact State.hkcView_txqAdd _ hp _
      · rfl
  · rfl

@[simp] theorem State.hkcView_txBegin (s : State) (p : Nat) (w : TxWait) (rest : List TxWait) :
    (s.txBegin p w rest).hkcView = s.hkcView := (rfl)

@[simp] theorem State.hkcView_out (s : State) (x : TxItem) : (s.out x).hkcView = s.hkcView := (rfl)

theorem State.hkcView_portTick (s : State) {p : Nat} (hp : p < 4) : (s.portTick p).hkcView = s.hkcView := by
  have hcnt : offHkc (Reg.ETH_P_CNT p) := offHkc_of_le (by simp only [Reg.ETH_P_CNT]; omega)
  unfold State.portTick
  split
  · rfl
  · dsimp only
    split
    · rw [State.hkcView_txBegin, State.hkcView_txDone _ hp]
    · split
      · rw [State.hkcView_txBegin, State.hkcView_out, State.hkcView_count _ _ hcnt, State.hkcView_txDone _ hp]
      · exact s.hkcView_txDone hp
    · exact s.hkcView_txDone hp

@[simp] theorem State.hkcView_txTick (s : State) : s.txTick.hkcView = s.hkcView :=
  foldl_keeps State.hkcView _ _ _ fun t _ hp => t.hkcView_portTick (List.mem_range.1 hp)

/-! ### The tick -/

@[simp] theorem State.hkcView_angTick (s : State) : s.angTick.hkcView = s.hkcView := by
  unfold State.angTick
  split <;> rfl

@[simp] theorem State.hkcView_digKeep (s : State) : s.digKeep.hkcView = s.hkcView := by
  unfold State.digKeep
  dsimp only
  split
  · rfl
  · split <;> rfl

theorem State.hkcView_timePassed (s : State) (d n : Nat) (segs : List TimeSeg) :
    (s.timePassed d n segs).hkcView = s.hkcView := (rfl)

@[simp] theorem State.hkcView_tick (s : State) : s.tick.hkcView = s.hkcView := by
  cases h : s.pwr.unpowered with
  | true => rw [State.tick, h, if_pos rfl]
  | false => rw [State.tick_eq h, State.hkcView_digKeep, State.hkcView_angTick, State.fcTime, State.hkcView_timePassed]

/-! ### The start of a fc -/

@[simp] theorem State.hkcView_drawSeqs (s : State) : s.drawSeqs.hkcView = s.hkcView := (rfl)

/-- Without element jobs none is done. -/
theorem State.hkcView_jobsRun {s : State} (p : ElemJob → Bool) (h : s.prt.jobs = []) : (s.jobsRun p).hkcView = s.hkcView := by
  simp only [State.jobsRun, h, List.filter_nil, List.foldl_nil]
  rfl

@[simp] theorem State.hkcView_setDch (s : State) (n : Nat) (f : DioCh → DioCh) : (s.setDch n f).hkcView = s.hkcView := (rfl)

@[simp] theorem State.hkcView_setLatch (s : State) (mask vals : Nat) : (s.setLatch mask vals).hkcView = s.hkcView := by
  unfold State.setLatch
  dsimp only
  rw [foldl_keeps State.hkcView]
  · exact State.hkcView_wr _ _ (offHkc_of_le (by decide))
  · intro t n _
    have hstat : offHkc (Reg.DIO_CH_STAT n) := offHkc_of_le (by simp only [Reg.DIO_CH_STAT]; omega)
    split
    · split
      · rw [State.hkcView_setDch, State.hkcView_setF _ _ hstat, State.hkcView_setF _ _ hstat]
      · exact State.hkcView_setF _ _ hstat
    · rfl

@[simp] theorem State.hkcView_latchSafe (s : State) (chs : List Nat) : (s.latchSafe chs).hkcView = s.hkcView := by
  refine foldl_keeps State.hkcView _ _ _ fun t n _ => ?_
  split <;> simp

@[simp] theorem State.hkcView_powStart (s : State) (f : Nat) (opn : Bool) : (s.powStart f opn).hkcView = s.hkcView := (rfl)

theorem State.hkcView_latching (s : State) {f : State → State} (hf : (f s).hkcView = s.hkcView) :
    (s.latching f).hkcView = s.hkcView := by
  unfold State.latching
  dsimp only
  split
  · exact hf
  · rw [foldl_keeps State.hkcView, hf]
    intro t k _
    split
    · split <;> split <;> simp
    · rfl

@[simp] theorem State.hkcView_latchOne (s : State) (o : LatchOp) : (s.latchOne o).hkcView = s.hkcView := by
  unfold State.latchOne
  dsimp only
  split
  · rw [State.hkcView_latchSafe, State.hkcView_latching _ (State.hkcView_setLatch ..)]
  · exact State.hkcView_latching _ (State.hkcView_setLatch ..)

@[simp] theorem State.hkcView_latchTick (s : State) : s.latchTick.hkcView = s.hkcView :=
  foldl_keeps State.hkcView _ _ _ fun t o _ => t.hkcView_latchOne o

@[simp] theorem State.hkcView_acqSync (s : State) : s.acqSync.hkcView = s.hkcView := by
  have hstat : offHkc Reg.ACQ_STAT := offHkc_of_le (by decide)
  rw [State.acqSync, State.hkcView_wr _ _ (offHkc_of_le (by decide)), State.hkcView_setF _ _ hstat, State.hkcView_setF _ _ hstat,
    State.hkcView_setF _ _ hstat]

@[simp] theorem State.hkcView_tuSync (s : State) : s.tuSync.hkcView = s.hkcView := by
  refine foldl_keeps State.hkcView _ _ _ fun t n _ => ?_
  have hstat : offHkc (Reg.ACQ_TU_STAT n) := offHkc_of_le (by simp only [Reg.ACQ_TU_STAT]; omega)
  dsimp only
  split
  · rfl
  · split
    · exact State.hkcView_wr _ _ hstat
    · exact State.hkcView_setF _ _ hstat

@[simp] theorem State.hkcView_armStart (s : State) (j : Nat) : (s.armStart j).hkcView = s.hkcView := by
  have hstat : offHkc (Reg.ACQ_C_STAT j) := offHkc_of_le (by simp only [Reg.ACQ_C_STAT]; omega)
  have hwrptr : offHkc (Reg.ACQ_C_WRPTR j) := offHkc_of_le (by simp only [Reg.ACQ_C_WRPTR]; omega)
  have hframes : offHkc (Reg.ACQ_C_FRAMES j) := offHkc_of_le (by simp only [Reg.ACQ_C_FRAMES]; omega)
  unfold State.armStart
  dsimp only
  rw [State.hkcView_tuSync, State.hkcView_acqSync, foldl_keeps State.hkcView]
  · rw [State.hkcView_wr _ _ hframes, State.hkcView_wr _ _ hwrptr, State.hkcView_setF _ _ hstat, State.hkcView_wr _ _ hstat]
    rfl
  · intro t k _
    have hrd : offHkc (Reg.ACQ_RD_STAT k) := offHkc_of_le (by simp only [Reg.ACQ_RD_STAT]; omega)
    exact (State.hkcView_setF _ _ hrd).trans (State.hkcView_wr _ _ hrd)

@[simp] theorem State.hkcView_arm (s : State) (j : Nat) (state : Bool) : (s.arm j state).hkcView = s.hkcView := by
  have herr : offHkc Reg.ACQ_ERR := offHkc_of_le (by decide)
  unfold State.arm
  split
  · exact s.hkcView_armStart j
  · rw [State.hkcView_irq _ _ (offHkc_of_le (by decide)), State.hkcView_setF _ _ herr, State.hkcView_setF _ _ herr,
      State.hkcView_setF _ _ herr]

@[simp] theorem State.hkcView_rearmTick (s : State) : s.rearmTick.hkcView = s.hkcView := by
  refine foldl_keeps State.hkcView _ _ _ fun t j _ => ?_
  have hstat : offHkc (Reg.ACQ_C_STAT j) := offHkc_of_le (by simp only [Reg.ACQ_C_STAT]; omega)
  dsimp only
  split
  · split
    · rfl
    · split
      · rw [State.hkcView_arm, State.hkcView_setF _ _ hstat]
        rfl
      · exact State.hkcView_arm ..
  · rfl

@[simp] theorem State.hkcView_ringTick (s : State) : s.ringTick.hkcView = s.hkcView := by
  unfold State.ringTick
  split
  · rfl
  · dsimp only
    split
    · rfl
    · rw [foldl_keeps State.hkcView _ _ _ fun t p _ => State.hkcView_out ..]
      rfl

/-! ### The fc boundary -/

/-- With no trip decision under way the start of a fc leaves the converter alone. -/
theorem State.hkcView_fcBegin {s : State} (hjobs : s.prt.jobs = []) (hcomp : (s.prt.comp.all fun x => x.rise.isNone) = true) :
    s.fcBegin.hkcView = s.hkcView := by
  unfold State.fcBegin
  split
  · rfl
  · have hrise : s.drawSeqs.compRise = s.drawSeqs := State.compRise_eq hcomp
    rw [State.hkcView_ringTick, State.hkcView_rearmTick, State.hkcView_latchTick, hrise,
      State.hkcView_jobsRun (s := s.drawSeqs) _ hjobs, State.hkcView_drawSeqs]

/-- With no trip decision under way a fc does to the converter what `State.hkcEnd` does after the bank requests. -/
theorem State.hkcView_fcAfterArms {s : State} (h : s.untripped) : s.fcAfterArms.hkcView = s.fltEnd.hkcEnd.hkcView := by
  obtain ⟨hdec, hjobs, hcomp⟩ := h
  have hend : s.fltEnd.hkcEnd.aoEnd.crsView = s.crsView := by simp
  obtain ⟨hcrs, -⟩ := State.fields_of_crsView hend
  have htick : s.fltEnd.hkcEnd.aoEnd.checkNext.gateTick.txTick.tick.crsView = s.crsView := by
    rw [State.crsView_tick, State.crsView_txTick, State.crsView_gateTick, State.crsView_checkNext (by rw [hcrs, hdec]), hend]
  obtain ⟨-, htickJobs, htickComp, -⟩ := State.fields_of_crsView htick
  unfold State.fcAfterArms
  rw [State.hkcView_fcBegin (htickJobs.trans hjobs) (by rw [htickComp, hcomp])]
  simp

/-- Where no ARM waits none is accepted. -/
theorem State.armsAccept_of_none {s : State} (h : s.crs.arms = []) : s.armsAccept = s := by
  unfold State.armsAccept
  split
  · rfl
  · simp only [h, List.filter_nil, List.foldl_nil]
    rw [← h]

/-- The step on an empty queue of a powered module where no ARM waits. -/
theorem step_of_no_arms {s : State} (hq : s.pending = []) (hon : s.pwr.unpowered = false) (harms : s.crs.arms = []) :
    step s = .next s.fcAfterArms := by
  simp only [step, hq, State.fcEnd, hon, Bool.false_eq_true, if_false, State.armsAccept_of_none harms]
  rfl

end Sys2Proof.Machine
end

section
/-!
The operations of the housekeeping converter (R231–R244): what they do to its state and its registers, and what they leave alone.
-/
namespace Sys2Proof.Machine

/-! ### The state beside registers, host interface and converter -/

/-- A state without its register file, the host interface's own state and the converter. -/
def State.sansHkc (s : State) : State := { s with regs := [], hst := HstSt.reset, hkc := HkcSt.reset }

/-- States that agree beside registers, host interface and converter differ in those alone. -/
theorem State.frame_of_sansHkc {s t : State} (h : t.sansHkc = s.sansHkc) :
    t = { s with regs := t.regs, hkc := t.hkc, hst := t.hst } :=
  congrArg (fun (u : State) => { u with regs := t.regs, hkc := t.hkc, hst := t.hst }) h

theorem State.tx_of_sansHkc {s t : State} (h : t.sansHkc = s.sansHkc) : t.tx = s.tx := by
  rw [State.frame_of_sansHkc h]

theorem State.sansHkc_of_sansHost {s t : State} (h : t.sansHost = s.sansHost) : t.sansHkc = s.sansHkc :=
  congrArg (fun (u : State) => { u with hkc := HkcSt.reset }) h

theorem State.hkc_of_sansHost {s t : State} (h : t.sansHost = s.sansHost) : t.hkc = s.hkc := by
  rw [State.frame_of_sansHost h]

@[simp] theorem State.sansHkc_setF (s : State) (f : Fld) (v : Nat) : (s.setF f v).sansHkc = s.sansHkc := (rfl)

@[simp] theorem State.sansHkc_setB (s : State) (f : Fld) (b : Bool) : (s.setB f b).sansHkc = s.sansHkc := (rfl)

@[simp] theorem State.sansHkc_raise (s : State) (f : Fld) : (s.raise f).sansHkc = s.sansHkc := (rfl)

@[simp] theorem State.sansHkc_count (s : State) (f : Fld) (n : Nat) : (s.count f n).sansHkc = s.sansHkc := (rfl)

@[simp] theorem State.sansHkc_irq (s : State) (b : Blk) (i : Nat) : (s.irq b i).sansHkc = s.sansHkc :=
  State.sansHkc_of_sansHost (State.sansHost_irq ..)

@[simp] theorem State.sansHkc_spiEnd (s : State) (i : Iface) : (s.spiEnd i).sansHkc = s.sansHkc :=
  State.sansHkc_of_sansHost (State.sansHost_spiEnd ..)

@[simp] theorem State.hkc_spiEnd (s : State) (i : Iface) : (s.spiEnd i).hkc = s.hkc :=
  State.hkc_of_sansHost (State.sansHost_spiEnd ..)

@[simp] theorem State.sansHkc_setHkc (s : State) (f : HkcSt → HkcSt) : (s.setHkc f).sansHkc = s.sansHkc := (rfl)

@[simp] theorem State.hkc_setHkc (s : State) (f : HkcSt → HkcSt) : (s.setHkc f).hkc = f s.hkc := (rfl)

@[simp] theorem State.evt_setHkc (s : State) (f : HkcSt → HkcSt) : (s.setHkc f).evt = s.evt := (rfl)

@[simp] theorem State.rd_setHkc (s : State) (f : HkcSt → HkcSt) (o : Nat) : (s.setHkc f).rd o = s.rd o := (rfl)

@[simp] theorem State.getF_setHkc (s : State) (g : HkcSt → HkcSt) (f : Fld) : (s.setHkc g).getF f = s.getF f := (rfl)

@[simp] theorem State.flag_setHkc (s : State) (g : HkcSt → HkcSt) (f : Fld) : (s.setHkc g).flag f = s.flag f := (rfl)

/-! ### A counter that saturates -/

/-- A counter that hardware counts in reads one more, up to its largest value. -/
theorem State.getF_count (s : State) {f : Fld} (n : Nat) (h : f.ok = true) :
    (s.count f n).getF f = min (s.getF f + n) (2 ^ (f.hi - f.lo + 1) - 1) := by
  have hfit : min (s.getF f + n) (2 ^ (f.hi - f.lo + 1) - 1) < 2 ^ (f.hi - f.lo + 1) :=
    lt_of_le_of_lt (min_le_right _ _) (Nat.sub_lt (Nat.two_pow_pos _) one_pos)
  rw [State.getF, State.count, State.tally, State.rd_mark, ← State.getF, State.getF_setF _ _ _ h, satAdd]
  exact Nat.mod_eq_of_lt hfit

/-! ### The depths and the busy flags in HKC_STAT (R240, R247) -/

/-- The fields that follow the converter's state. -/
def hkcSyncFields : List Fld := [Reg.HKC_STAT_REQ_DEPTH, Reg.HKC_STAT_Q_DEPTH, Reg.HKC_STAT_CONV_BUSY, Reg.HKC_STAT_CAL_WAIT]

@[simp] theorem State.sansHkc_hkcSync (s : State) : s.hkcSync.sansHkc = s.sansHkc := by
  simp only [State.hkcSync, State.sansHkc_setB, State.sansHkc_setF]

@[simp] theorem State.hkc_hkcSync (s : State) : s.hkcSync.hkc = s.hkc := by
  simp only [State.hkcSync, State.setB_hkc, State.setF_hkc]

@[simp] theorem State.sansRegs_hkcSync (s : State) : s.hkcSync.sansRegs = s.sansRegs := by
  simp only [State.hkcSync, State.setB, State.setF, State.sansRegs_wr]

theorem State.rd_hkcSync_ne (s : State) {o : Nat} (h : o ≠ Reg.HKC_STAT) : s.hkcSync.rd o = s.rd o := by
  simp (disch := exact h) only [State.hkcSync, State.rd_setF_ne, State.rd_setB_ne]

/-- A field beside those that follow the converter's state is left alone. -/
theorem State.getF_hkcSync (s : State) {f : Fld} (hf : f.ok = true) (h : ∀ g ∈ hkcSyncFields, f.hi < g.lo ∨ g.hi < f.lo) :
    s.hkcSync.getF f = s.getF f := by
  simp only [hkcSyncFields, List.forall_mem_cons] at h
  obtain ⟨hreq, hq, hconv, hwait, -⟩ := h
  simp only [State.hkcSync, State.setB]
  rw [State.getF_setF_beside _ _ rfl hf hwait, State.getF_setF_beside _ _ rfl hf hconv, State.getF_setF_beside _ _ rfl hf hq,
    State.getF_setF_beside _ _ rfl hf hreq]

/-- Q_DEPTH is the length of the tagged queue. -/
theorem State.qDepth_hkcSync (s : State) : s.hkcSync.getF Reg.HKC_STAT_Q_DEPTH = s.hkc.q.length % 128 := by
  simp only [State.hkcSync, State.setB]
  rw [State.getF_setF_beside _ _ rfl rfl (by decide), State.getF_setF_beside _ _ rfl rfl (by decide), State.getF_setF _ _ _ rfl]
  rfl

/-- CONV_BUSY says whether a conversion is in progress. -/
theorem State.convBusy_hkcSync (s : State) : s.hkcSync.flag Reg.HKC_STAT_CONV_BUSY = s.hkc.cur.isSome := by
  change (State.setB (State.setB _ Reg.HKC_STAT_CONV_BUSY _) Reg.HKC_STAT_CAL_WAIT _).flag _ = _
  rw [State.setB, State.flag_setF_beside _ _ rfl rfl (by decide)]
  exact State.flag_setB _ _ _ rfl rfl

/-! ### The start of a conversion (R233, R237) -/

@[simp] theorem State.sansHkc_hkcBegin (s : State) (r : HkcReq) : (s.hkcBegin r).sansHkc = s.sansHkc := (rfl)

@[simp] theorem State.rd_hkcBegin (s : State) (r : HkcReq) (o : Nat) : (s.hkcBegin r).rd o = s.rd o := (rfl)

@[simp] theorem State.held_hkcBegin (s : State) (r : HkcReq) : (s.hkcBegin r).hkc.held = s.hkc.held := (rfl)

@[simp] theorem State.cur_hkcBegin (s : State) (r : HkcReq) : (s.hkcBegin r).hkc.cur.map (·.req) = some r := (rfl)

/-- Where a request is held, the oldest one starts. -/
theorem State.hkcNext_starts {s : State} {r : HkcReq} (h : s.hkc.held.head? = some r) :
    s.hkcNext.hkc.held = s.hkc.held.tail ∧ s.hkcNext.hkc.cur.map (·.req) = some r := by
  obtain ⟨rest, hheld⟩ := List.head?_eq_some_iff.1 h
  simp [State.hkcNext, hheld]

/-- The start of a held request changes the converter's own state alone. -/
theorem State.hkcNext_frame (s : State) : s.hkcNext = { s with hkc := s.hkcNext.hkc } := by
  unfold State.hkcNext
  split <;> rfl

@[simp] theorem State.sansHkc_hkcNext (s : State) : s.hkcNext.sansHkc = s.sansHkc := by
  rw [State.hkcNext_frame]
  rfl

@[simp] theorem State.rd_hkcNext (s : State) (o : Nat) : s.hkcNext.rd o = s.rd o := by
  rw [State.hkcNext_frame]
  rfl

/-- An idle converter is free for the next request in a fc after that of its last entry or calibration. -/
theorem State.hkcFree_of_idle {s : State} (hon : s.on secHkc = true) (hcur : s.hkc.cur = none) (hreq : s.hkc.calReq = none)
    (hbusy : s.flag Reg.HKC_STAT_CAL_BUSY = false) (hfc : s.hkc.freeFc < s.tm.fc) : s.hkcFree = true := by
  simp [State.hkcFree, hon, hcur, hreq, hbusy, hfc]

/-! ### A request (R231, R232, R237, R238, R241) -/

/-- A request that is lost: REQ_LOST, the count, the interrupt (R238). -/
def State.hkcReqLost (s : State) : State := ((s.raise Reg.HKC_STAT_REQ_LOST).count Reg.HKC_LOST_REQ).irq .hkc 2

/-- The sequence number of the next request (R232). -/
def State.hkcSeq (s : State) : Nat := (s.getF Reg.HKC_STAT_LAST_SEQ + 1) % 256

/-- The request that a word written to HKC_SEL makes (R232, R235). -/
def State.hkcReqOf (s : State) (v : Nat) : HkcReq := ⟨s.hkcSeq, bits v 4 0, bits v 23 16, min 8 (bits v 11 8)⟩

/-- A calibration comes before a request of this fc: it runs, or was requested in an earlier fc (R240, R241). -/
def State.hkcCalFirst (s : State) : Bool :=
  match s.hkc.calReq with
  | some fc => decide (fc ≠ s.tm.fc)
  | none => s.flag Reg.HKC_STAT_CAL_BUSY

/-- A request must wait: a conversion, a calibration or another request comes first (R237). -/
def State.hkcWaits (s : State) : Bool := s.hkc.cur.isSome || s.hkcCalFirst || !s.hkc.held.isEmpty

/-- A request that gets its sequence number is held or starts (R232, R237). -/
def State.hkcReqTaken (s : State) (v : Nat) : State :=
  let u := s.setF Reg.HKC_STAT_LAST_SEQ s.hkcSeq
  if u.hkcWaits then (u.setHkc fun h => { h with held := h.held ++ [s.hkcReqOf v] }).hkcSync
  else (u.hkcBegin (s.hkcReqOf v)).hkcSync

/-- The departure from a full queue that is due in this fc (R238). -/
def State.hkcMadeRoom (s : State) : State := if s.hkc.held.length ≥ 8 && s.hkcFree then s.hkcNext else s

/-- A request meets the request queue after that departure (R238). -/
def State.hkcReqPut (s : State) (v : Nat) : State := if s.hkc.held.length ≥ 8 then s.hkcReqLost else s.hkcReqTaken v

/-- An accepted write of HKC_SEL. -/
def State.hkcSelected (s : State) (v : Nat) : State :=
  if !s.on secHkc then s
  else if !s.hkcPresent (bits v 4 0) then s.raise Reg.HKC_STAT_SEL_ERR
  else s.hkcMadeRoom.hkcReqPut v

/-- HKC_SEL_WRITE at OPERATE level: the level counts as used, which the host interface notes. -/
theorem exec_hkcSelWrite {s : State} {i : Iface} (hup : s.hostUp = true) (hmay : s.may i .operate = true) (v : Word) :
    ∃ h, exec (.hkcSelWrite i v) s = .next ((State.hkcSelected { s with hst := h } v.toNat).spiEnd i) := by
  obtain ⟨h, hused⟩ := s.exists_used_eq i .operate
  refine ⟨h, ?_⟩
  change execHkcSelWrite i v s = _
  simp only [execHkcSelWrite, State.hostRow, hup, if_true, State.hkcSel, State.command, hmay, hused]
  rfl

@[simp] theorem State.hkc_hkcReqLost (s : State) : s.hkcReqLost.hkc = s.hkc := by
  simp only [State.hkcReqLost, State.irq_hkc, State.count_hkc, State.raise_hkc]

/-- A lost request sets REQ_LOST and is counted. -/
theorem State.hkcReqLost_reports (s : State) :
    s.hkcReqLost.flag Reg.HKC_STAT_REQ_LOST = true ∧
      s.hkcReqLost.getF Reg.HKC_LOST_REQ = min (s.getF Reg.HKC_LOST_REQ + 1) 65535 := by
  constructor
  · rw [State.hkcReqLost, State.flag_congr (State.rd_irq_ne _ _ _ (by decide)),
      State.flag_congr (State.rd_count_ne _ _ _ (by decide))]
    exact State.flag_raise _ rfl
  · rw [State.hkcReqLost, State.getF_congr (State.rd_irq_ne _ _ _ (by decide)), State.getF_count _ _ rfl,
      State.getF_congr (State.rd_raise_ne _ _ (by decide))]
    rfl

/-- A request taken changes HKC_STAT alone of the registers. -/
theorem State.rd_hkcReqTaken_ne (s : State) (v : Nat) {o : Nat} (h : o ≠ Reg.HKC_STAT) : (s.hkcReqTaken v).rd o = s.rd o := by
  unfold State.hkcReqTaken
  dsimp only
  split
  · rw [State.rd_hkcSync_ne _ h, State.rd_setHkc, State.rd_setF_ne _ _ _ h]
  · rw [State.rd_hkcSync_ne _ h, State.rd_hkcBegin, State.rd_setF_ne _ _ _ h]

/-- LAST_SEQ is the number of a request taken. -/
theorem State.lastSeq_hkcReqTaken (s : State) (v : Nat) : (s.hkcReqTaken v).getF Reg.HKC_STAT_LAST_SEQ = s.hkcSeq := by
  have hput : (s.setF Reg.HKC_STAT_LAST_SEQ s.hkcSeq).getF Reg.HKC_STAT_LAST_SEQ = s.hkcSeq := by
    rw [State.getF_setF _ _ _ rfl]
    exact Nat.mod_eq_of_lt (Nat.mod_lt _ (by decide))
  unfold State.hkcReqTaken
  dsimp only
  split
  · rw [State.getF_hkcSync _ rfl (by decide), State.getF_setHkc, hput]
  · rw [State.getF_hkcSync _ rfl (by decide), State.getF_congr (State.rd_hkcBegin ..), hput]

/-- The number just given makes no request wait. -/
theorem State.hkcWaits_setF_lastSeq (s : State) (n : Nat) : (s.setF Reg.HKC_STAT_LAST_SEQ n).hkcWaits = s.hkcWaits := by
  have hbusy : (s.setF Reg.HKC_STAT_LAST_SEQ n).flag Reg.HKC_STAT_CAL_BUSY = s.flag Reg.HKC_STAT_CAL_BUSY :=
    State.flag_setF_beside _ _ rfl rfl (by decide)
  simp only [State.hkcWaits, State.hkcCalFirst, State.setF_hkc, State.setF_tm, hbusy]

/-- A request that must wait is held behind the others. -/
theorem State.hkcReqTaken_of_waits {s : State} (v : Nat) (h : s.hkcWaits = true) :
    (s.hkcReqTaken v).hkc = { s.hkc with held := s.hkc.held ++ [s.hkcReqOf v] } := by
  simp only [State.hkcReqTaken, State.hkcWaits_setF_lastSeq, h, if_true, State.hkc_hkcSync, State.hkc_setHkc, State.setF_hkc]

/-- A request that need not wait starts. -/
theorem State.hkcReqTaken_of_idle {s : State} (v : Nat) (h : s.hkcWaits = false) :
    (s.hkcReqTaken v).hkc.cur.map (·.req) = some (s.hkcReqOf v) ∧ (s.hkcReqTaken v).hkc.held = s.hkc.held := by
  simp only [State.hkcReqTaken, State.hkcWaits_setF_lastSeq, h, Bool.false_eq_true, if_false, State.hkc_hkcSync, State.cur_hkcBegin,
    State.held_hkcBegin, State.setF_hkc, and_self]

@[simp] theorem State.sansHkc_hkcReqPut (s : State) (v : Nat) : (s.hkcReqPut v).sansHkc = s.sansHkc := by
  unfold State.hkcReqPut State.hkcReqLost State.hkcReqTaken
  dsimp only
  split
  · simp
  · split <;> simp

@[simp] theorem State.sansHkc_hkcMadeRoom (s : State) : s.hkcMadeRoom.sansHkc = s.sansHkc := by
  unfold State.hkcMadeRoom
  split
  · exact State.sansHkc_hkcNext s
  · rfl

@[simp] theorem State.rd_hkcMadeRoom (s : State) (o : Nat) : s.hkcMadeRoom.rd o = s.rd o := by
  unfold State.hkcMadeRoom
  split
  · exact State.rd_hkcNext s o
  · rfl

@[simp] theorem State.sansHkc_hkcSelected (s : State) (v : Nat) : (s.hkcSelected v).sansHkc = s.sansHkc := by
  unfold State.hkcSelected
  split
  · rfl
  · split <;> simp

/-- A write of HKC_SEL changes HKC_STAT, the count of lost requests and the interrupt register at most. -/
theorem State.regsKept_hkcSelected (s : State) (v : Nat) :
    s.regsKept [Reg.HKC_STAT, Reg.HKC_LOST, Reg.UNIT_IRQ .hkc] (s.hkcSelected v) := by
  intro o ho
  simp only [List.mem_cons, List.not_mem_nil, or_false, not_or] at ho
  obtain ⟨hstat, hlost, hirq⟩ := ho
  unfold State.hkcSelected
  split
  · rfl
  · split
    · exact State.rd_raise_ne _ _ hstat
    · unfold State.hkcReqPut
      split
      · rw [State.hkcReqLost, State.rd_irq_ne _ _ _ hirq, State.rd_count_ne _ _ _ hlost, State.rd_raise_ne _ _ hstat,
          State.rd_hkcMadeRoom]
      · rw [State.rd_hkcReqTaken_ne _ _ hstat, State.rd_hkcMadeRoom]

section Selected
variable {s : State} (hon : s.on secHkc = true) {v : Nat}
include hon

/-- An absent source makes no request (R231). -/
theorem State.hkcSelected_of_absent (h : s.hkcPresent (bits v 4 0) = false) :
    s.hkcSelected v = s.raise Reg.HKC_STAT_SEL_ERR := by
  simp [State.hkcSelected, hon, h]

/-- A full queue from which no request may leave in this fc loses the request (R238). -/
theorem State.hkcSelected_of_full (h : s.hkcPresent (bits v 4 0) = true) (hfull : 8 ≤ s.hkc.held.length)
    (hfree : s.hkcFree = false) : s.hkcSelected v = s.hkcReqLost := by
  simp [State.hkcSelected, hon, h, State.hkcMadeRoom, State.hkcReqPut, hfree, hfull]

/-- A queue with room takes the request. -/
theorem State.hkcSelected_of_room (h : s.hkcPresent (bits v 4 0) = true) (hroom : s.hkc.held.length < 8) :
    s.hkcSelected v = s.hkcReqTaken v := by
  simp [State.hkcSelected, hon, h, State.hkcMadeRoom, State.hkcReqPut, Nat.not_le.2 hroom]

/-- A queue of eight from which the oldest request leaves in this fc takes the request after the departure (R238). -/
theorem State.hkcSelected_of_departure (h : s.hkcPresent (bits v 4 0) = true) (hfull : s.hkc.held.length = 8)
    (hfree : s.hkcFree = true) : s.hkcSelected v = s.hkcNext.hkcReqTaken v := by
  obtain ⟨r, rest, hheld⟩ := List.exists_cons_of_length_eq_add_one hfull
  have hleft : s.hkcNext.hkc.held = rest := by rw [(State.hkcNext_starts (by rw [hheld]; rfl)).1, hheld, List.tail_cons]
  have hroom : ¬ 8 ≤ rest.length := by
    rw [hheld, List.length_cons] at hfull
    omega
  simp [State.hkcSelected, hon, h, State.hkcMadeRoom, State.hkcReqPut, hfree, hfull, hleft, hroom]

end Selected

/-! ### A calibration (R239–R242) -/

/-- A calibration is requested where none waits or runs. -/
theorem State.hkcCal_of_idle {s : State} (hon : s.on secHkc = true) (hreq : s.hkc.calReq = none)
    (hbusy : s.flag Reg.HKC_STAT_CAL_BUSY = false) :
    s.hkcCal = (s.setHkc fun h => { h with calReq := some s.tm.fc }).hkcSync := by
  simp [State.hkcCal, hon, hreq, hbusy]

/-- One that waits or runs makes the request ignored (R241). -/
theorem State.hkcCal_of_taken {s : State} (h : s.hkc.calReq.isSome = true ∨ s.flag Reg.HKC_STAT_CAL_BUSY = true) :
    s.hkcCal = s := by
  rcases h with h | h <;> simp [State.hkcCal, h]

/-- The bits of a command word with CAL set and FLUSH clear. -/
theorem calWord_bits {v : Nat} (h : v % 4 < 2) :
    ¬ (v ||| 1) % 4 = 0 ∧ (v ||| 1).testBit 0 = true ∧ (v ||| 1).testBit 1 = false := by
  have h0 : (v ||| 1).testBit 0 = true := by simp
  have h1 : (v ||| 1).testBit 1 = false := by
    have hv : v.testBit 1 = false := by
      rw [Nat.testBit_eq_decide_div_mod_eq, decide_eq_false_iff_not]
      omega
    rw [Nat.testBit_or, hv]
    rfl
  refine ⟨fun hz => ?_, h0, h1⟩
  rw [Nat.testBit_zero, decide_eq_true_eq] at h0
  omega

/-- The bits of a command word with FLUSH set and CAL clear. -/
theorem flushWord_bits {v : Nat} (h : v % 2 = 0) :
    ¬ (v ||| 2) % 4 = 0 ∧ (v ||| 2).testBit 0 = false ∧ (v ||| 2).testBit 1 = true := by
  have h0 : (v ||| 2).testBit 0 = false := by simp [Nat.testBit_zero, h]
  have h1 : (v ||| 2).testBit 1 = true := by
    rw [Nat.testBit_or, show (2 : Nat) = 2 ^ 1 by rfl, Nat.testBit_two_pow_self, Bool.or_true]
  refine ⟨fun hz => ?_, h0, h1⟩
  rw [Nat.testBit_eq_decide_div_mod_eq, decide_eq_true_eq] at h1
  omega

/-- HKC_CAL_COMMAND at OPERATE level. -/
theorem exec_hkcCalCommand {s : State} {i : Iface} (hup : s.hostUp = true) (hmay : s.may i .operate = true) {v : Word}
    (hv : v.toNat % 4 < 2) : ∃ h, exec (.hkcCalCommand i v) s = .next ((State.hkcCal { s with hst := h }).spiEnd i) := by
  obtain ⟨hword, hcal, hflush⟩ := calWord_bits hv
  obtain ⟨h, hused⟩ := s.exists_used_eq i .operate
  refine ⟨h, ?_⟩
  change execHkcCalCommand i v s = _
  simp only [execHkcCalCommand, State.hostRow, hup, if_true, State.hkcCmd, hword, if_false, State.command, hmay, hused, hcal, hflush,
    Bool.false_eq_true]

/-- The tagged queue is emptied (R247). -/
def State.hkcFlushed (s : State) : State := (s.setHkc fun h => { h with q := [] }).hkcSync

@[simp] theorem State.sansHkc_hkcFlushed (s : State) : s.hkcFlushed.sansHkc = s.sansHkc := by
  rw [State.hkcFlushed, State.sansHkc_hkcSync, State.sansHkc_setHkc]

/-- FLUSH leaves an empty queue, and writes HKC_STAT alone. -/
theorem State.hkcFlushed_gives (s : State) :
    s.hkcFlushed.hkc = { s.hkc with q := [] } ∧ s.hkcFlushed.getF Reg.HKC_STAT_Q_DEPTH = 0 ∧
      s.regsKept [Reg.HKC_STAT] s.hkcFlushed := by
  refine ⟨?_, ?_, fun o ho => ?_⟩
  · rw [State.hkcFlushed, State.hkc_hkcSync, State.hkc_setHkc]
  · rw [State.hkcFlushed, State.qDepth_hkcSync, State.hkc_setHkc, List.length_nil]
  · rw [State.hkcFlushed, State.rd_hkcSync_ne _ (by simpa using ho), State.rd_setHkc]

/-- HKC_FLUSH at OPERATE level. -/
theorem exec_hkcFlush {s : State} {i : Iface} (hup : s.hostUp = true) (hmay : s.may i .operate = true) {v : Word}
    (hv : v.toNat % 2 = 0) : ∃ h, exec (.hkcFlush i v) s = .next ((State.hkcFlushed { s with hst := h }).spiEnd i) := by
  obtain ⟨hword, hcal, hflush⟩ := flushWord_bits hv
  obtain ⟨h, hused⟩ := s.exists_used_eq i .operate
  refine ⟨h, ?_⟩
  change execHkcFlush i v s = _
  simp only [execHkcFlush, State.hostRow, hup, if_true, State.hkcCmd, hword, if_false, State.command, hmay, hused, hcal, hflush,
    Bool.false_eq_true]
  rfl

/-- The limits that a calibration passes: the offset within ±16 codes, the gain within ±1 % of nominal (R242). -/
def hkcCalPasses (o : Int) (k : Nat) : Bool := decide (o.natAbs ≤ 256) && decide (((k : Int) - 2 ^ 22).natAbs * 100 ≤ 2 ^ 22)

/-- What passes fits its registers. -/
theorem range_of_hkcCalPasses {o : Int} {k : Nat} (h : hkcCalPasses o k = true) : -2 ^ 31 ≤ o ∧ o < 2 ^ 31 ∧ k < 2 ^ 32 := by
  simp only [hkcCalPasses, Bool.and_eq_true, decide_eq_true_eq] at h
  omega

/-- The calibration is over: CAL_BUSY falls, its run time is noted. -/
def State.hkcCalOver (s : State) : State :=
  (s.setF Reg.HKC_STAT_CAL_BUSY 0).setHkc fun h => { h with lastCal := s.tm.runt, freeFc := s.tm.fc }

/-- A calibration passed: the coefficients, the run time, CAL_FAIL clear and CAL_DONE. -/
def State.hkcCalPassed (s : State) (o : Int) (k : Nat) : State :=
  let t := (s.setI Reg.HKC_CAL_OFS_OFS o).wr Reg.HKC_CAL_GAIN k
  ((t.setHkc fun h => { h with lastPass := t.tm.runt }).setF Reg.HKC_STAT_CAL_FAIL 0).irq .hkc 3

/-- A calibration failed: CAL_FAIL, its interrupt and its event. -/
def State.hkcCalFailed (s : State) : State :=
  ((s.setF Reg.HKC_STAT_CAL_FAIL 1).irq .hkc 4).emitOpen (srcId 0x18 0) 0x1801 1

/-- HKC_CAL_DONE while a calibration runs. -/
theorem exec_hkcCalDone {s : State} (hbusy : s.flag Reg.HKC_STAT_CAL_BUSY = true) (o : Int) (k : Nat) :
    exec (.hkcCalDone o k) s = .next (if hkcCalPasses o k then s.hkcCalOver.hkcCalPassed o k else s.hkcCalOver.hkcCalFailed) := by
  change execHkcCalDone o k s = _
  simp only [execHkcCalDone, hbusy, if_true, State.hkcCalEnd, hkcCalPasses, Bool.and_eq_true, decide_eq_true_eq]
  rfl

/-- The end of a calibration writes CAL_BUSY alone of the registers, and notes its run time. -/
theorem State.hkcCalOver_gives (s : State) :
    s.hkcCalOver.flag Reg.HKC_STAT_CAL_BUSY = false ∧ s.hkcCalOver.hkc.lastCal = s.tm.runt ∧ s.hkcCalOver.evt = s.evt ∧
      ∀ o, o ≠ Reg.HKC_STAT → s.hkcCalOver.rd o = s.rd o := by
  simp only [State.hkcCalOver, State.flag_setHkc, State.hkc_setHkc, State.rd_setHkc, State.evt_setHkc, State.setF_evt, true_and]
  exact ⟨State.flag_setF_zero _ _ rfl, fun _ h => State.rd_setF_ne _ _ _ h⟩

/-- A calibration that passed within the registers' range: what its registers read. -/
theorem State.hkcCalPassed_gives (s : State) {o : Int} {k : Nat} (h : hkcCalPasses o k = true) :
    (s.hkcCalPassed o k).flag Reg.HKC_STAT_CAL_BUSY = s.flag Reg.HKC_STAT_CAL_BUSY ∧
      (s.hkcCalPassed o k).hkc.lastCal = s.hkc.lastCal ∧ (s.hkcCalPassed o k).flag Reg.HKC_STAT_CAL_FAIL = false ∧
      (s.hkcCalPassed o k).getI Reg.HKC_CAL_OFS_OFS = o ∧ (s.hkcCalPassed o k).rd Reg.HKC_CAL_GAIN = k ∧
      (s.hkcCalPassed o k).evt = s.evt := by
  obtain ⟨hlo, hhi, hk⟩ := range_of_hkcCalPasses h
  simp only [State.hkcCalPassed]
  refine ⟨?_, ?_, ?_, ?_, ?_, ?_⟩
  · rw [State.flag_congr (State.rd_irq_ne _ _ _ (by decide)), State.flag_setF_beside _ _ rfl rfl (by decide), State.flag_setHkc]
    exact State.flag_congr ((State.rd_wr_ne _ _ (by decide)).trans (State.rd_setI_ne _ _ _ (by decide)))
  · rw [State.irq_hkc, State.setF_hkc, State.hkc_setHkc, State.wr_hkc, State.setI_hkc]
  · rw [State.flag_congr (State.rd_irq_ne _ _ _ (by decide))]
    exact State.flag_setF_zero _ _ rfl
  · rw [State.getI, State.getF_congr (State.rd_irq_ne _ _ _ (by decide)), State.getF_setF_ne _ _ (by decide), State.getF_setHkc,
      State.getF_congr (State.rd_wr_ne _ _ (by decide)), State.setI, State.getF_setF _ _ _ rfl]
    exact toSigned_ofSigned_32 hlo hhi
  · rw [State.rd_irq_ne _ _ _ (by decide), State.rd_setF_ne _ _ _ (by decide), State.rd_setHkc, State.rd_wr_same,
      Nat.mod_eq_of_lt hk]
  · rw [State.irq_evt, State.setF_evt, State.evt_setHkc, State.wr_evt, State.setI_evt]

/-- A calibration that failed writes CAL_FAIL and the interrupt alone, but where its event is lost. -/
theorem State.rd_hkcCalFailed_ne (s : State) {o : Nat} (hstat : o ≠ Reg.HKC_STAT) (hirq : o ≠ Reg.UNIT_IRQ .hkc)
    (hcount : o ≠ Reg.EVT_INTAKE_LOST) (hlost : o ≠ Reg.EVT_STAT) : s.hkcCalFailed.rd o = s.rd o := by
  rw [State.hkcCalFailed, State.rd_emitOpen_ne _ _ _ _ hcount hlost, State.rd_irq_ne _ _ _ hirq, State.rd_setF_ne _ _ _ hstat]

/-- A calibration that failed sets CAL_FAIL and leaves CAL_BUSY and the converter's state alone. -/
theorem State.hkcCalFailed_gives (s : State) :
    s.hkcCalFailed.flag Reg.HKC_STAT_CAL_BUSY = s.flag Reg.HKC_STAT_CAL_BUSY ∧ s.hkcCalFailed.hkc = s.hkc ∧
      s.hkcCalFailed.flag Reg.HKC_STAT_CAL_FAIL = true := by
  have hstat : s.hkcCalFailed.rd Reg.HKC_STAT = (s.setF Reg.HKC_STAT_CAL_FAIL 1).rd Reg.HKC_STAT := by
    rw [State.hkcCalFailed, State.rd_emitOpen_ne _ _ _ _ (by decide) (by decide), State.rd_irq_ne _ _ _ (by decide)]
  refine ⟨?_, ?_, (State.flag_congr (f := Reg.HKC_STAT_CAL_FAIL) hstat).trans (State.flag_setF_one _ _ rfl)⟩
  · rw [State.flag_congr (f := Reg.HKC_STAT_CAL_BUSY) hstat, State.flag_setF_beside _ _ rfl rfl (by decide)]
  · rw [State.hkcCalFailed, State.emitOpen_hkc, State.irq_hkc, State.setF_hkc]

/-! ### The tagged queue (R236, R243, R244) -/

@[simp] theorem State.sansHkc_hkcPut (s : State) (e : HkcEntry) : (s.hkcPut e).sansHkc = s.sansHkc := by
  unfold State.hkcPut
  dsimp only
  split
  · rfl
  · split <;> simp

/-- An entry that arrives writes HKC_STAT and the interrupt register at most. -/
theorem State.rd_hkcPut_ne (s : State) (e : HkcEntry) {o : Nat} (hstat : o ≠ Reg.HKC_STAT) (hirq : o ≠ Reg.UNIT_IRQ .hkc) :
    (s.hkcPut e).rd o = s.rd o := by
  unfold State.hkcPut
  dsimp only
  split
  · rfl
  · split
    · rw [State.rd_irq_ne _ _ _ hirq, State.rd_hkcSync_ne _ hstat, State.rd_setHkc]
    · rw [State.rd_hkcSync_ne _ hstat, State.rd_setHkc]

/-- An entry that meets a full queue waits for a removal in its fc. -/
theorem State.hkc_hkcPut_of_full {s : State} (e : HkcEntry) (h : 64 ≤ s.hkc.q.length) :
    (s.hkcPut e).hkc = { s.hkc with late := some e } := by
  rw [State.hkcPut, if_pos h, State.hkc_setHkc]

/-- A queue with room takes the entry. -/
theorem State.hkc_hkcPut_of_room {s : State} (e : HkcEntry) (h : s.hkc.q.length < 64) :
    (s.hkcPut e).hkc = { s.hkc with q := s.hkc.q ++ [e] } := by
  rw [State.hkcPut, if_neg (Nat.not_le.2 h)]
  dsimp only
  split
  · rw [State.irq_hkc, State.hkc_hkcSync, State.hkc_setHkc]
  · rw [State.hkc_hkcSync, State.hkc_setHkc]

/-- What becomes of an entry that arrives: it is appended, or waits at a full queue. -/
theorem State.hkcPut_appends (s : State) (e : HkcEntry) :
    (s.hkcPut e).hkc.cur = s.hkc.cur ∧ (s.hkcPut e).hkc.held = s.hkc.held ∧
      (64 ≤ s.hkc.q.length → (s.hkcPut e).hkc.q = s.hkc.q ∧ (s.hkcPut e).hkc.late = some e) ∧
      (s.hkc.q.length < 64 → (s.hkcPut e).hkc.q = s.hkc.q ++ [e] ∧ (s.hkcPut e).hkc.late = s.hkc.late) := by
  rcases Nat.lt_or_ge s.hkc.q.length 64 with hroom | hfull
  · rw [State.hkc_hkcPut_of_room e hroom]
    exact ⟨rfl, rfl, fun h => absurd hroom (Nat.not_lt.2 h), fun _ => ⟨rfl, rfl⟩⟩
  · rw [State.hkc_hkcPut_of_full e hfull]
    exact ⟨rfl, rfl, fun _ => ⟨rfl, rfl⟩, fun h => absurd h (Nat.not_lt.2 hfull)⟩

/-- The conversion is over: the next request may start in a later fc (R237). -/
def State.hkcIdled (s : State) : State := s.setHkc fun h => { h with cur := none, freeFc := s.tm.fc }

/-- The entry of a conversion whose raw codes are there (R234–R236). -/
def State.hkcEntryOf (s : State) (c : HkcCur) (codes : List Nat) : HkcEntry :=
  let raw := codes.map fun r => r % 4096
  ⟨c.req, s.epochAt c.inst, raw.any fun r => r == 0 || r == 4095, s.flag Reg.HKC_STAT_CAL_FAIL,
    hkcValue c.req.shift ((raw.map s.hkcCorr).foldl (fun a b => a + b) 0), s.twAt c.inst⟩

/-- HKC_ENTRY_WRITE at the end of a burst. -/
theorem exec_hkcEntryWrite {s : State} {c : HkcCur} (hcur : s.hkc.cur = some c)
    (hexp : s.expired c.start (hkcSettle c.req.src + (c.req.n + 1) * 1000) = true) {codes : List Nat}
    (hlen : codes.length = c.req.n + 1) : exec (.hkcEntryWrite codes) s =
      .next (s.hkcIdled.hkcPut (s.hkcEntryOf c codes)).hkcSync := by
  change execHkcEntryWrite codes s = _
  simp only [execHkcEntryWrite, hcur, hlen, decide_true, hexp, Bool.and_self, if_true]
  rfl

/-- The oldest entry leaves the queue, and an entry that met the full queue in this fc takes the room (R243). -/
def State.hkcQueueMoved (s : State) : State :=
  let r := s.setHkc fun h => { h with q := h.q.tail, late := none }
  (match s.hkc.late with
    | some e => r.hkcPut e
    | none => r).hkcSync

@[simp] theorem State.sansHkc_hkcQueueMoved (s : State) : s.hkcQueueMoved.sansHkc = s.sansHkc := by
  unfold State.hkcQueueMoved
  dsimp only
  split <;> simp

/-- The move writes HKC_STAT and the interrupt register at most. -/
theorem State.rd_hkcQueueMoved_ne (s : State) {o : Nat} (hstat : o ≠ Reg.HKC_STAT) (hirq : o ≠ Reg.UNIT_IRQ .hkc) :
    s.hkcQueueMoved.rd o = s.rd o := by
  unfold State.hkcQueueMoved
  dsimp only
  rw [State.rd_hkcSync_ne _ hstat]
  split
  · rw [State.rd_hkcPut_ne _ _ hstat hirq, State.rd_setHkc]
  · rw [State.rd_setHkc]

/-- The removal counts first, so that an entry which met the queue of 64 is kept (R243). -/
theorem State.hkc_hkcQueueMoved {s : State} {e : HkcEntry} (hhead : s.hkc.q.head? = some e) (hlen : s.hkc.q.length ≤ 64) :
    s.hkcQueueMoved.hkc = { s.hkc with q := s.hkc.q.tail ++ s.hkc.late.toList, late := none } := by
  obtain ⟨rest, hq⟩ := List.head?_eq_some_iff.1 hhead
  have hroom : rest.length < 64 := by
    rw [hq, List.length_cons] at hlen
    omega
  cases hlate : s.hkc.late with
  | none => simp [State.hkcQueueMoved, hlate]
  | some l =>
    simp only [State.hkcQueueMoved, hlate, State.hkc_hkcSync]
    rw [State.hkc_hkcPut_of_room _ (by rw [State.hkc_setHkc, hq]; exact hroom)]
    rfl

/-- A read of an empty queue takes nothing (R244). -/
theorem State.hkcRead_of_empty {s : State} (i : Iface) (h : s.hkc.q = []) : s.hkcRead i = s.setSnap i Reg.HKC_Q_0 [0xFFFFFFFF] := by
  rw [State.hkcRead, h]

/-- A read takes the oldest entry from the queue and latches it (R244). -/
theorem State.hkcRead_of_head {s : State} (i : Iface) {e : HkcEntry} (h : s.hkc.q.head? = some e) :
    s.hkcRead i = s.hkcQueueMoved.setSnap i Reg.HKC_Q_0 e.words := by
  obtain ⟨rest, hq⟩ := List.head?_eq_some_iff.1 h
  have hleft : (s.setHkc fun h => { h with q := h.q.tail, late := none }) =
      s.setHkc fun h => { h with q := rest, late := none } := by
    simp only [State.setHkc, hq, List.tail_cons]
  cases hlate : s.hkc.late with
  | none => simp only [State.hkcRead, State.hkcQueueMoved, hleft, hq, hlate]
  | some l => simp only [State.hkcRead, State.hkcQueueMoved, hleft, hq, hlate]

/-- HKC_QUEUE_READ while the host interface takes commands in: it answers the first word of the copy just taken. -/
theorem exec_hkcQueueRead {s x : State} {i : Iface} {ws : List Nat} (hup : s.hostUp = true) (hwarm : s.pwr.warmBusy = false)
    (hread : s.hkcRead i = x.setSnap i Reg.HKC_Q_0 ws) : exec (.hkcQueueRead i) s =
      .next (((x.setSnap i Reg.HKC_Q_0 ws).answer i Reg.HKC_Q_0 (ws.headD 0)).spiEnd i) := by
  change execHkcQueueRead i s = _
  simp only [execHkcQueueRead, State.readRow, hwarm, State.hostRow, hup, Bool.false_eq_true, if_false, if_true, hread,
    State.snapOf_setSnap, Option.getD_some]

end Sys2Proof.Machine
end

section
/-!
The commands of the housekeeping converter and the end of a fc in which an entry met a full queue (R231–R244), and the statement
HousekeepingConverterAndQueue.
-/
namespace Sys2Proof.Machine

/-! ### HKC_SEL_WRITE (R231, R232, R237, R238, R241) -/

/-- A request waits for a conversion, a calibration requested earlier or running, or a request before it. -/
theorem State.hkcWaits_of_busy {s : State} (h : s.hkc.cur.isSome = true ∨ s.hkc.held ≠ [] ∨
    (∃ fc, s.hkc.calReq = some fc ∧ fc ≠ s.tm.fc) ∨ s.hkc.calReq = none ∧ s.flag Reg.HKC_STAT_CAL_BUSY = true) :
    s.hkcWaits = true := by
  rcases h with hcur | hheld | ⟨fc, hreq, hfc⟩ | ⟨hreq, hbusy⟩
  · simp [State.hkcWaits, hcur]
  · simp [State.hkcWaits, hheld]
  · simp [State.hkcWaits, State.hkcCalFirst, hreq, hfc]
  · simp [State.hkcWaits, State.hkcCalFirst, hreq, hbusy]

/-- With the converter idle a request starts, before a calibration requested in the same fc (R241). -/
theorem State.hkcWaits_of_idle {s : State} (hcur : s.hkc.cur = none) (hheld : s.hkc.held = [])
    (h : s.hkc.calReq = some s.tm.fc ∨ s.hkc.calReq = none ∧ s.flag Reg.HKC_STAT_CAL_BUSY = false) : s.hkcWaits = false := by
  rcases h with hreq | ⟨hreq, hbusy⟩
  · simp [State.hkcWaits, State.hkcCalFirst, hcur, hheld, hreq]
  · simp [State.hkcWaits, State.hkcCalFirst, hcur, hheld, hreq, hbusy]

/-- What becomes of a request that is not lost: it gets the next number, and is held or starts. -/
theorem State.hkcSelected_takes {s : State} (hon : s.on secHkc = true) {v : Nat} (hsrc : s.hkcPresent (bits v 4 0) = true)
    (hroom : s.hkc.held.length < 8 ∨ s.hkc.held.length = 8 ∧ s.hkcFree = true) :
    (s.hkcSelected v).getF Reg.HKC_STAT_LAST_SEQ = s.hkcSeq ∧ (s.hkcSelected v).rd Reg.HKC_LOST = s.rd Reg.HKC_LOST ∧
      (s.hkc.held.length = 8 → (s.hkcSelected v).hkc.held = s.hkc.held.tail ++ [s.hkcReqOf v] ∧
        (s.hkcSelected v).hkc.cur.map (·.req) = s.hkc.held.head?) ∧
      (s.hkc.held.length < 8 → s.hkcWaits = true → (s.hkcSelected v).hkc = { s.hkc with held := s.hkc.held ++ [s.hkcReqOf v] }) ∧
      (s.hkc.held.length < 8 → s.hkcWaits = false →
        (s.hkcSelected v).hkc.cur.map (·.req) = some (s.hkcReqOf v) ∧ (s.hkcSelected v).hkc.held = s.hkc.held) := by
  rcases hroom with hlt | ⟨hfull, hfree⟩
  · rw [State.hkcSelected_of_room hon hsrc hlt]
    exact ⟨State.lastSeq_hkcReqTaken .., State.rd_hkcReqTaken_ne _ _ (by decide), fun h => absurd h hlt.ne,
      fun _ => State.hkcReqTaken_of_waits v, fun _ => State.hkcReqTaken_of_idle v⟩
  · obtain ⟨r, rest, hheld⟩ := List.exists_cons_of_length_eq_add_one hfull
    obtain ⟨hleft, hstarted⟩ := State.hkcNext_starts (s := s) (r := r) (by rw [hheld]; rfl)
    have hseq : s.hkcNext.hkcSeq = s.hkcSeq := by
      rw [State.hkcSeq, State.hkcSeq, State.getF_congr (State.rd_hkcNext s _)]
    have hcur : s.hkcNext.hkc.cur.isSome = true := by
      rw [← Option.isSome_map, hstarted]
      rfl
    have hreq : s.hkcNext.hkcReqOf v = s.hkcReqOf v := by rw [State.hkcReqOf, State.hkcReqOf, hseq]
    have hput := State.hkcReqTaken_of_waits v (State.hkcWaits_of_busy (.inl hcur))
    rw [State.hkcSelected_of_departure hon hsrc hfull hfree]
    refine ⟨(State.lastSeq_hkcReqTaken ..).trans hseq, (State.rd_hkcReqTaken_ne _ _ (by decide)).trans (State.rd_hkcNext ..),
      fun _ => ?_, fun h => absurd hfull h.ne, fun h => absurd hfull h.ne⟩
    rw [hput, hreq, hleft, hheld]
    exact ⟨rfl, hstarted⟩

/-- A write of HKC_SEL at OPERATE level. -/
theorem hkcSelWrite_requests {s : State} (hon : s.on secHkc = true) {i : Iface} (hup : s.hostUp = true)
    (hmay : s.may i .operate = true) (v : Word) :
    ∃ t, exec (.hkcSelWrite i v) s = .next t ∧ t = { s with regs := t.regs, hkc := t.hkc, hst := t.hst } ∧
      s.regsKept [Reg.HKC_STAT, Reg.HKC_LOST, Reg.UNIT_IRQ .hkc] t ∧
      (s.hkcPresent (v.toNat % 32) = false →
        t.flag Reg.HKC_STAT_SEL_ERR = true ∧ t.hkc = s.hkc ∧ s.regsKept [Reg.HKC_STAT] t) ∧
      (s.hkcPresent (v.toNat % 32) = true → 8 ≤ s.hkc.held.length → s.hkcFree = false →
        t.flag Reg.HKC_STAT_REQ_LOST = true ∧ t.hkc = s.hkc ∧
          t.getF Reg.HKC_LOST_REQ = min (s.getF Reg.HKC_LOST_REQ + 1) 65535) ∧
      (s.hkcPresent (v.toNat % 32) = true → (s.hkc.held.length < 8 ∨ s.hkc.held.length = 8 ∧ s.hkcFree = true) →
        t.getF Reg.HKC_STAT_LAST_SEQ = s.hkcSeq ∧ t.rd Reg.HKC_LOST = s.rd Reg.HKC_LOST ∧
        (s.hkc.held.length = 8 → t.hkc.held = s.hkc.held.tail ++ [s.hkcReqOf v.toNat] ∧
          t.hkc.cur.map (·.req) = s.hkc.held.head?) ∧
        (s.hkc.held.length < 8 → s.hkcWaits = true → t.hkc = { s.hkc with held := s.hkc.held ++ [s.hkcReqOf v.toNat] }) ∧
        (s.hkc.held.length < 8 → s.hkcWaits = false →
          t.hkc.cur.map (·.req) = some (s.hkcReqOf v.toNat) ∧ t.hkc.held = s.hkc.held)) := by
  obtain ⟨h, hexec⟩ := exec_hkcSelWrite hup hmay v
  have hsrc : bits v.toNat 4 0 = v.toNat % 32 := by simp [bits]
  rw [← hsrc]
  refine ⟨_, hexec,
    State.frame_of_sansHkc ((State.sansHkc_spiEnd ..).trans (State.sansHkc_hkcSelected { s with hst := h } v.toNat)),
    fun o ho => ?_, fun habs => ?_, fun hpres hfull hfree => ?_, fun hpres hroom => ?_⟩
  · rw [State.rd_spiEnd]
    exact State.regsKept_hkcSelected { s with hst := h } v.toNat o ho
  · rw [State.flag_spiEnd, State.hkc_spiEnd, State.hkcSelected_of_absent (s := { s with hst := h }) hon habs, State.raise_hkc]
    refine ⟨State.flag_raise _ rfl, rfl, fun o ho => ?_⟩
    rw [State.rd_spiEnd]
    exact State.rd_raise_ne { s with hst := h } _ (by simpa using ho)
  · rw [State.flag_spiEnd, State.hkc_spiEnd, State.getF_spiEnd,
      State.hkcSelected_of_full (s := { s with hst := h }) hon hpres hfull hfree, State.hkc_hkcReqLost]
    obtain ⟨hlost, hcount⟩ := State.hkcReqLost_reports { s with hst := h }
    exact ⟨hlost, rfl, hcount⟩
  · rw [State.getF_spiEnd, State.rd_spiEnd, State.hkc_spiEnd]
    exact State.hkcSelected_takes (s := { s with hst := h }) hon hpres hroom

/-! ### HKC_CONVERSION_START and HKC_ENTRY_WRITE (R233–R237, R243) -/

/-- The oldest held request starts when nothing runs. -/
theorem hkcConversionStart_starts {s : State} (hon : s.on secHkc = true) {r : HkcReq} (hheld : s.hkc.held.head? = some r)
    (hcur : s.hkc.cur = none) (hreq : s.hkc.calReq = none) (hbusy : s.flag Reg.HKC_STAT_CAL_BUSY = false)
    (hfc : s.hkc.freeFc < s.tm.fc) :
    ∃ t, exec .hkcConversionStart s = .next t ∧ t.hkc.held = s.hkc.held.tail ∧ t.hkc.cur.map (·.req) = some r ∧
      t.flag Reg.HKC_STAT_CONV_BUSY = true ∧ s.regsKept [Reg.HKC_STAT] t ∧ t = { s with regs := t.regs, hkc := t.hkc } := by
  have hsome : s.hkc.held.isEmpty = false := by
    obtain ⟨rest, hrest⟩ := List.head?_eq_some_iff.1 hheld
    rw [hrest, List.isEmpty_cons]
  have hexec : exec .hkcConversionStart s = .next s.hkcNext.hkcSync := by
    change execHkcConversionStart s = _
    simp [execHkcConversionStart, hsome, State.hkcFree_of_idle hon hcur hreq hbusy hfc]
  obtain ⟨hleft, hstarted⟩ := State.hkcNext_starts hheld
  have hframe : s.hkcNext.hkcSync = { s with regs := s.hkcNext.hkcSync.regs, hkc := s.hkcNext.hkc } :=
    (State.frame_of_sansRegs (State.sansRegs_hkcSync s.hkcNext)).trans
      (congrArg (fun (u : State) => { u with regs := s.hkcNext.hkcSync.regs }) s.hkcNext_frame)
  refine ⟨_, hexec, by rw [State.hkc_hkcSync, hleft], by rw [State.hkc_hkcSync, hstarted], ?_, fun o ho => ?_, ?_⟩
  · rw [State.convBusy_hkcSync, ← Option.isSome_map, hstarted]
    rfl
  · rw [State.rd_hkcSync_ne _ (by simpa using ho), State.rd_hkcNext]
  · rw [State.hkc_hkcSync]
    exact hframe

/-- The end of a burst appends its entry, or leaves it waiting at a full queue. -/
theorem hkcEntryWrite_appends {s : State} {c : HkcCur} (hcur : s.hkc.cur = some c)
    (hexp : s.expired c.start (hkcSettle c.req.src + (c.req.n + 1) * 1000) = true) {l : List Nat} (hlen : l.length = c.req.n + 1) :
    ∃ t, exec (.hkcEntryWrite l) s = .next t ∧ t.hkc.cur = none ∧ t.hkc.held = s.hkc.held ∧
      (64 ≤ s.hkc.q.length → t.hkc.q = s.hkc.q ∧ t.hkc.late = some (s.hkcEntryOf c l)) ∧
      (s.hkc.q.length < 64 → t.hkc.q = s.hkc.q ++ [s.hkcEntryOf c l] ∧ t.hkc.late = s.hkc.late) ∧
      s.regsKept [Reg.HKC_STAT, Reg.UNIT_IRQ .hkc] t ∧ t = { s with regs := t.regs, hkc := t.hkc, hst := t.hst } := by
  obtain ⟨hnone, hheld, hfull, hroom⟩ := s.hkcIdled.hkcPut_appends (s.hkcEntryOf c l)
  refine ⟨_, exec_hkcEntryWrite hcur hexp hlen, ?_⟩
  simp only [State.hkc_hkcSync]
  refine ⟨hnone, hheld, hfull, hroom, fun o ho => ?_, ?_⟩
  · simp only [List.mem_cons, List.not_mem_nil, or_false, not_or] at ho
    obtain ⟨hstat, hirq⟩ := ho
    rw [State.rd_hkcSync_ne _ hstat, State.rd_hkcPut_ne _ _ hstat hirq, State.hkcIdled, State.rd_setHkc]
  · rw [← State.hkc_hkcSync]
    refine State.frame_of_sansHkc ?_
    rw [State.sansHkc_hkcSync, State.sansHkc_hkcPut, State.hkcIdled, State.sansHkc_setHkc]

/-! ### HKC_FLUSH and HKC_QUEUE_READ (R243, R244, R247) -/

/-- FLUSH empties the queue. -/
theorem hkcFlush_empties {s : State} {i : Iface} (hup : s.hostUp = true) (hmay : s.may i .operate = true) {v : Word}
    (hv : v.toNat % 2 = 0) :
    ∃ t, exec (.hkcFlush i v) s = .next t ∧ t.hkc = { s.hkc with q := [] } ∧ t.getF Reg.HKC_STAT_Q_DEPTH = 0 ∧
      s.regsKept [Reg.HKC_STAT] t ∧ t = { s with regs := t.regs, hkc := t.hkc, hst := t.hst } := by
  obtain ⟨h, hexec⟩ := exec_hkcFlush hup hmay hv
  obtain ⟨hq, hdepth, hkept⟩ := State.hkcFlushed_gives { s with hst := h }
  refine ⟨_, hexec, (State.hkc_spiEnd ..).trans hq, (State.getF_spiEnd ..).trans hdepth, fun o ho => ?_,
    State.frame_of_sansHkc ((State.sansHkc_spiEnd ..).trans (State.sansHkc_hkcFlushed { s with hst := h }))⟩
  rw [State.rd_spiEnd]
  exact hkept o ho

/-- Latching a group and answering its first word changes the host interface's own state and what is put out. -/
theorem State.latched_answer (x : State) (i : Iface) (off : Nat) (ws : List Nat) :
    let t := ((x.setSnap i off ws).answer i off (ws.headD 0)).spiEnd i
    t.hkc = x.hkc ∧ (∀ o, t.rd o = x.rd o) ∧ t.snapOf i off = some ws ∧
      ∀ {s : State}, x.tx = s.tx → s.sent t = [.readData i off (ws.headD 0)] := by
  refine ⟨State.hkc_spiEnd .., fun o => State.rd_spiEnd .., ?_, fun h => State.sent_answer _ _ _ h⟩
  rw [State.snapOf, (State.spiEnd_frame _ i).2]
  exact State.snapOf_setSnap ..

section Read
variable {s : State} {i : Iface} (hup : s.hostUp = true) (hwarm : s.pwr.warmBusy = false)
include hup hwarm

/-- A read of an empty queue answers all ones. -/
theorem hkcQueueRead_of_empty (hq : s.hkc.q = []) :
    ∃ t, exec (.hkcQueueRead i) s = .next t ∧ s.sent t = [.readData i Reg.HKC_Q_0 0xFFFFFFFF] ∧
      t = { s with hst := t.hst, tx := t.tx } := by
  refine ⟨_, exec_hkcQueueRead hup hwarm (State.hkcRead_of_empty i hq), State.sent_answer _ _ _ rfl, ?_⟩
  rw [State.answer_frame]
  rfl

/-- A read takes the oldest entry and latches it. -/
theorem hkcQueueRead_of_head {e : HkcEntry} (hhead : s.hkc.q.head? = some e) :
    ∃ t, exec (.hkcQueueRead i) s = .next t ∧
      (s.hkc.q.length ≤ 64 → t.hkc = { s.hkc with q := s.hkc.q.tail ++ s.hkc.late.toList, late := none }) ∧
      t.rd Reg.HKC_LOST = s.rd Reg.HKC_LOST ∧ s.sent t = [.readData i Reg.HKC_Q_0 (e.words.headD 0)] ∧
      t.snapOf i Reg.HKC_Q_0 = some e.words ∧ s.regsKept [Reg.HKC_STAT, Reg.UNIT_IRQ .hkc] t := by
  obtain ⟨hhkc, hrd, hsnap, hsent⟩ := s.hkcQueueMoved.latched_answer i Reg.HKC_Q_0 e.words
  refine ⟨_, exec_hkcQueueRead hup hwarm (State.hkcRead_of_head i hhead),
    fun hlen => hhkc.trans (State.hkc_hkcQueueMoved hhead hlen),
    (hrd _).trans (State.rd_hkcQueueMoved_ne _ (by decide) (by decide)),
    hsent (State.tx_of_sansHkc (State.sansHkc_hkcQueueMoved s)), hsnap, fun o ho => ?_⟩
  simp only [List.mem_cons, List.not_mem_nil, or_false, not_or] at ho
  obtain ⟨hstat, hirq⟩ := ho
  exact (hrd o).trans (State.rd_hkcQueueMoved_ne _ hstat hirq)

end Read

/-! ### The end of a fc (R243) -/

/-- An entry that met a full queue and found no removal in its fc is dropped and counted. -/
theorem State.hkcEnd_drops {s : State} (h : s.hkc.late.isSome = true) :
    s.hkcEnd.hkc = { s.hkc with late := none } ∧ s.hkcEnd.flag Reg.HKC_STAT_Q_OVF = true ∧
      s.hkcEnd.getF Reg.HKC_LOST_ENTRY = min (s.getF Reg.HKC_LOST_ENTRY + 1) 65535 := by
  have hlate : s.hkc.late.isNone = false := by
    rw [← Option.not_isSome, h]
    rfl
  have hend : s.hkcEnd =
      (((s.setHkc fun h => { h with late := none }).raise Reg.HKC_STAT_Q_OVF).count Reg.HKC_LOST_ENTRY).irq .hkc 1 := by
    simp only [State.hkcEnd, hlate, Bool.false_eq_true, if_false]
  rw [hend]
  refine ⟨?_, ?_, ?_⟩
  · rw [State.irq_hkc, State.count_hkc, State.raise_hkc, State.hkc_setHkc]
  · rw [State.flag_congr (State.rd_irq_ne _ _ _ (by decide)), State.flag_congr (State.rd_count_ne _ _ _ (by decide))]
    exact State.flag_raise _ rfl
  · rw [State.getF_congr (State.rd_irq_ne _ _ _ (by decide)), State.getF_count _ _ rfl,
      State.getF_congr (State.rd_raise_ne _ _ (by decide)), State.getF_setHkc]
    rfl

/-- The step on an empty queue drops such an entry, where no ARM waits and no trip decision is under way. -/
theorem step_drops_late {s : State} (hlate : s.hkc.late.isSome = true) (hq : s.pending = []) (hon : s.pwr.unpowered = false)
    (harms : s.crs.arms = []) (huntripped : s.untripped) :
    ∃ t, step s = .next t ∧ t.hkc.q = s.hkc.q ∧ t.hkc.late = none ∧ t.flag Reg.HKC_STAT_Q_OVF = true ∧
      t.getF Reg.HKC_LOST_ENTRY = min (s.getF Reg.HKC_LOST_ENTRY + 1) 65535 := by
  obtain ⟨hhkc, -, hlost⟩ := State.fields_of_hkcView (State.hkcView_fltEnd s)
  obtain ⟨hthkc, htstat, htlost⟩ := State.fields_of_hkcView (State.hkcView_fcAfterArms huntripped)
  obtain ⟨hdropped, hovf, hcount⟩ := State.hkcEnd_drops (s := s.fltEnd) (by rw [hhkc, hlate])
  have hkept : s.fcAfterArms.hkc = { s.hkc with late := none } := by rw [hthkc, hdropped, hhkc]
  refine ⟨_, step_of_no_arms hq hon harms, by rw [hkept], by rw [hkept], ?_, ?_⟩
  · rw [State.flag_congr (f := Reg.HKC_STAT_Q_OVF) htstat, hovf]
  · rw [State.getF_congr (f := Reg.HKC_LOST_ENTRY) htlost, hcount, State.getF_congr (f := Reg.HKC_LOST_ENTRY) hlost]

/-! ### Calibration (R239–R242) -/

/-- HKC_CMD.CAL requests a calibration, unless one waits or runs. -/
theorem hkcCalCommand_requests {s : State} (hon : s.on secHkc = true) {i : Iface} (hup : s.hostUp = true)
    (hmay : s.may i .operate = true) {v : Word} (hv : v.toNat % 4 < 2) :
    ∃ t, exec (.hkcCalCommand i v) s = .next t ∧
      (s.hkc.calReq = none → s.flag Reg.HKC_STAT_CAL_BUSY = false → t.hkc = { s.hkc with calReq := some s.tm.fc }) ∧
      ((s.hkc.calReq.isSome = true ∨ s.flag Reg.HKC_STAT_CAL_BUSY = true) → t = { s with hst := t.hst }) := by
  obtain ⟨h, hexec⟩ := exec_hkcCalCommand hup hmay hv
  refine ⟨_, hexec, fun hreq hbusy => ?_, fun htaken => ?_⟩
  · rw [State.hkc_spiEnd, State.hkcCal_of_idle (s := { s with hst := h }) hon hreq hbusy, State.hkc_hkcSync, State.hkc_setHkc]
  · rw [State.hkcCal_of_taken (s := { s with hst := h }) htaken]
    exact (State.spiEnd_frame _ i).1

/-- The interval since the last calibration requests one. -/
theorem hkcCalInterval_requests {s : State} (hon : s.on secHkc = true) (hint : s.getF Reg.HKC_CTL_CAL_INT ≠ 0)
    (hexp : s.expired s.hkc.lastCal (s.getF Reg.HKC_CTL_CAL_INT * 1000000000) = true) (hreq : s.hkc.calReq = none)
    (hbusy : s.flag Reg.HKC_STAT_CAL_BUSY = false) :
    ∃ t, exec .hkcCalInterval s = .next t ∧ t.hkc = { s.hkc with calReq := some s.tm.fc } ∧ s.regsKept [Reg.HKC_STAT] t := by
  have hexec : exec .hkcCalInterval s = .next s.hkcCal := by
    change execHkcCalInterval s = _
    simp [execHkcCalInterval, hint, hexp]
  refine ⟨_, hexec, ?_, fun o ho => ?_⟩
  · rw [State.hkcCal_of_idle hon hreq hbusy, State.hkc_hkcSync, State.hkc_setHkc]
  · rw [State.hkcCal_of_idle hon hreq hbusy, State.rd_hkcSync_ne _ (by simpa using ho), State.rd_setHkc]

/-- A calibration requested starts when no conversion runs. -/
theorem hkcCalStart_starts {s : State} (hreq : s.hkc.calReq.isSome = true) (hcur : s.hkc.cur = none) :
    ∃ t, exec .hkcCalStart s = .next t ∧ t.hkc = { s.hkc with calReq := none } ∧ t.flag Reg.HKC_STAT_CAL_BUSY = true ∧
      s.regsKept [Reg.HKC_STAT] t := by
  have hexec : exec .hkcCalStart s =
      .next ((s.setHkc fun h => { h with calReq := none }).hkcSync.setF Reg.HKC_STAT_CAL_BUSY 1) := by
    change execHkcCalStart s = _
    simp only [execHkcCalStart, hreq, hcur, Option.isNone_none, Bool.and_self, if_true]
  refine ⟨_, hexec, ?_, State.flag_setF_one _ _ rfl, fun o ho => ?_⟩
  · rw [State.setF_hkc, State.hkc_hkcSync, State.hkc_setHkc]
  · rw [State.rd_setF_ne _ _ _ (by simpa using ho), State.rd_hkcSync_ne _ (by simpa using ho), State.rd_setHkc]

/-- The end of a calibration: within the limits it writes its coefficients, else it sets CAL_FAIL and raises its event. -/
theorem hkcCalDone_reports {s : State} (hroom : s.room 1 = true) (hbusy : s.flag Reg.HKC_STAT_CAL_BUSY = true) (o : Int) (k : Nat) :
    ∃ t, exec (.hkcCalDone o k) s = .next t ∧ t.flag Reg.HKC_STAT_CAL_BUSY = false ∧ t.hkc.lastCal = s.tm.runt ∧
      t.flag Reg.HKC_STAT_CAL_FAIL = !hkcCalPasses o k ∧
      (hkcCalPasses o k = true → t.getI Reg.HKC_CAL_OFS_OFS = o ∧ t.rd Reg.HKC_CAL_GAIN = k ∧ t.evt = s.evt) ∧
      (hkcCalPasses o k = false → t.rd Reg.HKC_CAL_OFS = s.rd Reg.HKC_CAL_OFS ∧ t.rd Reg.HKC_CAL_GAIN = s.rd Reg.HKC_CAL_GAIN ∧
        (s.news t).map (fun e => (e.1, e.2.1, e.2.2.1)) = [(srcId 0x18 0, 0x1801, 1)]) := by
  have hexec := exec_hkcCalDone hbusy o k
  obtain ⟨hidle, hlast, hevt, hover⟩ := s.hkcCalOver_gives
  cases hpass : hkcCalPasses o k with
  | true =>
    obtain ⟨hsame, hlast', hfail, hofs, hgain, hevt'⟩ := s.hkcCalOver.hkcCalPassed_gives hpass
    rw [hpass, if_pos rfl] at hexec
    exact ⟨_, hexec, hsame.trans hidle, hlast'.trans hlast, hfail,
      fun _ => ⟨hofs, hgain, hevt'.trans hevt⟩, fun h => absurd h (by decide)⟩
  | false =>
    obtain ⟨hsame, hhkc, hfail⟩ := s.hkcCalOver.hkcCalFailed_gives
    have hkept (o : Nat) (h : o ∈ [Reg.HKC_CAL_OFS, Reg.HKC_CAL_GAIN]) : s.hkcCalOver.hkcCalFailed.rd o = s.rd o := by
      simp only [List.mem_cons, List.not_mem_nil, or_false] at h
      rcases h with rfl | rfl <;>
        rw [State.rd_hkcCalFailed_ne _ (by decide) (by decide) (by decide) (by decide), hover _ (by decide)]
    rw [hpass, if_neg (by decide)] at hexec
    refine ⟨_, hexec, hsame.trans hidle, by rw [hhkc, hlast], hfail, fun h => absurd h (by decide),
      fun _ => ⟨hkept _ (by simp), hkept _ (by simp), ?_⟩⟩
    refine State.news_emitOpen ?_ one_pos hroom _ _ _
    rw [State.irq_evt, State.setF_evt, hevt]

/-! ### The statement -/

/-- Settles O19: each command of the converter does what the rules say of it, and the rest of the fc leaves the converter alone, so
that the entry which met a full queue is dropped with the fc. -/
theorem housekeepingConverterAndQueue : Obligations.HousekeepingConverterAndQueue := by
  intro s _ hroom hon
  refine ⟨fun i hup hmay => ⟨?_, fun v hv => hkcCalCommand_requests hon hup hmay hv, fun v hv => hkcFlush_empties hup hmay hv,
      hkcQueueRead_of_empty hup, fun hwarm e he => hkcQueueRead_of_head hup hwarm he⟩,
    fun r hheld hcur hreq hbusy hfc => hkcConversionStart_starts hon hheld hcur hreq hbusy hfc, ?_,
    fun hlate hq hpow harms hdec hjobs hcomp => step_drops_late hlate hq hpow harms ⟨hdec, hjobs, hcomp⟩,
    hkcCalInterval_requests hon, hkcCalStart_starts, ?_⟩
  · rintro v _ rfl
    obtain ⟨t, hexec, hframe, hkept, habsent, hfull, htaken⟩ := hkcSelWrite_requests hon hup hmay v
    refine ⟨t, hexec, hframe, hkept, habsent, hfull, fun hpres hroom8 => ?_⟩
    obtain ⟨hseq, hlost, hdeparts, hwaits, hstarts⟩ := htaken hpres hroom8
    have hreq : s.hkcReqOf v.toNat =
        ⟨(s.getF Reg.HKC_STAT_LAST_SEQ + 1) % 256, v.toNat % 32, bits v.toNat 23 16, min 8 (bits v.toNat 11 8)⟩ := by
      simp [State.hkcReqOf, State.hkcSeq, bits]
    refine ⟨hseq, hlost, ?_⟩
    rintro _ rfl
    rw [← hreq]
    refine ⟨hdeparts, fun hlt h => hwaits hlt (State.hkcWaits_of_busy h), fun hcur hheld h => ?_⟩
    have hlt : s.hkc.held.length < 8 := by rw [hheld]; decide
    obtain ⟨hstarted, hleft⟩ := hstarts hlt (State.hkcWaits_of_idle hcur hheld h)
    exact ⟨hstarted, hleft.trans hheld⟩
  · rintro c hcur hexp l hlen _ rfl _ rfl
    exact hkcEntryWrite_appends hcur hexp hlen
  · rintro hbusy o k _ rfl
    exact hkcCalDone_reports hroom hbusy o k

end Sys2Proof.Machine
end

section
/-!
A fade whose target is no bank of its profile, a synchronising reset of that profile, and the statement FilterOutputsBanksAndResets.
-/
namespace Sys2Proof.Machine

/-- A running module at operate level. Profile 0 fades to bank 2, with no request behind the fade. A profile has the banks 0 and 1 alone
(R253), and a write of FLT_PROFp_CTL asks for no other (R263); `State.shaped` bounds no bank number. -/
def fadeToBankTwo : State :=
  let pwr := { State.reset.pwr with parts := State.reset.pwr.parts.map (fun p => { p with st := .on }) }
  let hst := { State.reset.hst with acc := State.reset.hst.acc.map (fun a => { a with level := .operate }) }
  ({ State.reset with pwr := pwr, hst := hst }).setFprof 0 fun x => { x with target := some 2 }

/-- The state has its shape and the filter unit runs. -/
theorem fadeToBankTwo_runs : fadeToBankTwo.shaped = true ∧ fadeToBankTwo.fltOn = true := by
  decide +kernel

/-- The state meets what the statement asks of a host command. -/
theorem fadeToBankTwo_open : fadeToBankTwo.hostUp = true ∧ fadeToBankTwo.may .pcie .operate = true := by
  decide +kernel

theorem fadeToBankTwo_fades : (fadeToBankTwo.fprof 0).target = some 2 ∧ (fadeToBankTwo.fprof 0).queue = none := by
  decide +kernel

/-- SYNC of profile 0 finishes the fade, and ACTIVE, one bit wide, takes bit 0 of the target. -/
theorem fadeToBankTwo_synced (t : State) (ht : exec (.fltSync .pcie (BitVec.ofNat 32 (2 ^ 0))) fadeToBankTwo = .next t) :
    t.getF (Reg.FLT_PROF_STAT_ACTIVE 0) = 0 := by
  have hrun : (match exec (.fltSync .pcie (BitVec.ofNat 32 (2 ^ 0))) fadeToBankTwo with
      | .next t => decide (t.getF (Reg.FLT_PROF_STAT_ACTIVE 0) = 0)
      | _ => false) = true := by decide +kernel
  rw [ht] at hrun
  exact of_decide_eq_true hrun

/-- Refutes O20: by the clause of SYNC a fade in progress ends with ACTIVE at its target, or at the bank queued behind it, whatever
number that is. ACTIVE is one bit, so a fade to bank 2 leaves it at 0. The statement does not ask that target and queue be 0 or 1. -/
theorem not_filterOutputsBanksAndResets : ¬ Obligations.FilterOutputsBanksAndResets := by
  intro h
  obtain ⟨hshaped, hon⟩ := fadeToBankTwo_runs
  obtain ⟨hup, hmay⟩ := fadeToBankTwo_open
  obtain ⟨htarget, hqueue⟩ := fadeToBankTwo_fades
  obtain ⟨-, -, -, hcommands⟩ := h fadeToBankTwo hshaped hon
  obtain ⟨-, hsync⟩ := hcommands .pcie hup hmay
  obtain ⟨t, ht, -, -, -, -, hactive⟩ := hsync 0 (by decide)
  have hbank : t.getF (Reg.FLT_PROF_STAT_ACTIVE 0) = 2 := by rw [hactive 2 htarget, hqueue, Option.getD_none]
  rw [fadeToBankTwo_synced t ht] at hbank
  exact absurd hbank (by decide)

end Sys2Proof.Machine
end

section
/-!
Breaker failure of a feeder whose 50BF has already operated 65,535 times, and the statement UpdatesBreakerFailureAndPointOnWave.
-/
namespace Sys2Proof.Machine

/-- Feeder 0 at 200 ms of run time with 50BF enabled, T1 = 100 ms and T2 = 150 ms. It was started at run time 0 and is still picked up
(R303, R304), and PRT_F0_E23_CNT, 32 bits wide (R312), holds 65,535. -/
def bfAfter65535Ops : State :=
  let s := { State.reset with tm := { State.reset.tm with runt := 200000000 * ns32 } }
  let s := s.setFdr 0 fun d => { d with bfPick := true, bfStart := some 0, elems := d.elems.set 23 ⟨[{ laneZero with pu := true }], false⟩ }
  ((s.setF (Reg.PRT_F_SG_E_CFG_EN 0 (s.sg 0) 23) 1).wr (Reg.PRT_F_SG_E_TIME 0 (s.sg 0) 23) (100 * 2 ^ 16 + 150)).setF
    (Reg.PRT_F_E_CNT_OPS 0 23) 65535

/-- The state meets what the statement asks of every state. -/
theorem bfAfter65535Ops_open : bfAfter65535Ops.shaped = true ∧ bfAfter65535Ops.room 200 = true := by
  decide +kernel

/-- T2 has run out and 50BF has not operated yet. -/
theorem bfAfter65535Ops_t2Due :
    bfAfter65535Ops.bfDue 0 (bfAfter65535Ops.bfT2 0) = true ∧ (bfAfter65535Ops.elem 0 23).op = false := by
  decide +kernel

/-- The expiry of T2 counts its operation as the 65,536th. -/
theorem bfAfter65535Ops_counts (t : State) (ht : exec (.bfT2Expiry 0) bfAfter65535Ops = .next t) :
    t.getF (Reg.PRT_F_E_CNT_OPS 0 23) = 65536 := by
  have hrun : (match exec (.bfT2Expiry 0) bfAfter65535Ops with
      | .next t => decide (t.getF (Reg.PRT_F_E_CNT_OPS 0 23) = 65536)
      | _ => false) = true := by decide +kernel
  rw [ht] at hrun
  exact of_decide_eq_true hrun

/-- Refutes O21: its clause of the expiry of T2 has the count of operations stop at 65,535. PRT_Ff_Ee_CNT.OPS takes all 32 bits of its
register (R312) and saturates at 2^32 − 1, so the operation after the 65,535th counts 65,536. -/
theorem not_updatesBreakerFailureAndPointOnWave : ¬ Obligations.UpdatesBreakerFailureAndPointOnWave := by
  intro h
  obtain ⟨hshaped, hroom⟩ := bfAfter65535Ops_open
  obtain ⟨hdue, hop⟩ := bfAfter65535Ops_t2Due
  obtain ⟨-, -, -, -, -, hT2, -⟩ := h bfAfter65535Ops hshaped hroom 0 (by decide)
  obtain ⟨t, ht, -, -, hops, -⟩ := hT2 hdue hop
  rw [bfAfter65535Ops_counts t ht] at hops
  omega

end Sys2Proof.Machine
end

section
/-!
A TIMEOUT unit that hits in the evaluation at whose end it passes to armed, and the statement CapturesArmTriggerAndEnd.
-/
namespace Sys2Proof.Machine

/-- A TIMEOUT unit that hits after one sample without the qualifying event; only a hit of unit 1 lets its hits fire (R348, R349). -/
def oneSampleTimeout : TuSt := { tuZero with c := 1, qual := 1 * 2 ^ 30 + 1 * 2 ^ 16 }

/-- Capture 0 is ARMED and names unit 0, an enabled TIMEOUT unit on the burst samples of AI0 that has its parameters from an earlier
arming.  ARMED of the unit is 0, as where a PATCH action has just put it into TMASK (R117, R140): `State.patchValue` arms no unit.  One
sample of AI0 is due. -/
def lateNamedUnit : State :=
  let s := State.reset.setTu 0 fun _ => oneSampleTimeout
  let s := (s.setF (Reg.ACQ_TU_CFG_EN 0) 1).setF (Reg.ACQ_TU_CFG_TYPE 0) 4
  let s := (s.setF (Reg.ACQ_TU_SRC_KIND 0) 4).wr Reg.ACQ_EVAL_DLY 0
  let s := (s.setF (Reg.ACQ_C_STAT_STATE 0) cArmed).setF (Reg.ACQ_C_TMASK_UNITS 0) 1
  { s with acq := { s.acq with feed := [⟨0, 0, 0, 0, 0, 0, .burst 0 0⟩] } }

/-- The state meets what the statement asks of every state. -/
theorem lateNamedUnit_open : lateNamedUnit.shaped = true ∧ lateNamedUnit.room 64 = true := by
  decide +kernel

/-- The one sample that is due brings the count of unit 0 to its end. -/
theorem lateNamedUnit_due : lateNamedUnit.timeoutDue 0 = true ∧ lateNamedUnit.dueItems.length = 1 := by
  decide +kernel

/-- The evaluation ends with the unit armed and its hit cleared. -/
theorem lateNamedUnit_cleared (t : State) (ht : exec (.triggerTimeout 0) lateNamedUnit = .next t) :
    t.flag (Reg.ACQ_TU_STAT_HIT 0) = false := by
  have hrun : (match exec (.triggerTimeout 0) lateNamedUnit with
      | .next t => decide (t.rd (Reg.ACQ_TU_STAT 0) = 2 ^ 31)
      | _ => false) = true := by decide +kernel
  rw [ht] at hrun
  rw [State.flag, State.getF, of_decide_eq_true hrun]
  decide

/-- Refutes O22: by the clause of TRIGGER_TIMEOUT the unit whose count ends shows HIT after the evaluation.  A unit that an armed capture
names while its ARMED is still 0 passes to armed at the end of that evaluation, and that clears its hit state (R344).  Its hit fails its
qualifier, so that it does not fire and the capture stays ARMED.  The statement does not ask that the unit be armed. -/
theorem not_capturesArmTriggerAndEnd : ¬ Obligations.CapturesArmTriggerAndEnd := by
  intro h
  obtain ⟨hshaped, hroom⟩ := lateNamedUnit_open
  obtain ⟨hdue, hone⟩ := lateNamedUnit_due
  obtain ⟨-, -, htimeout, -⟩ := h lateNamedUnit hshaped hroom
  obtain ⟨-, hhits⟩ := htimeout 0 (by decide)
  obtain ⟨t, ht, hhit, -⟩ := hhits hdue hone
  rw [lateNamedUnit_cleared t ht] at hhit
  exact Bool.false_ne_true hhit

end Sys2Proof.Machine
end
